-- ==== Sys2Proof/Word.lean ====
section
/-! DEFINITION. Sys2Proof/Word.lean: the word types of the model and their plainest arithmetic. -/

namespace Sys2Proof

/-- A byte. -/
abbrev Byte := BitVec 8

/-- A register, payload or word-port word: 32 bits (R15). -/
abbrev Word := BitVec 32

/-- A double word: site time and legal energy are 64 bits (R11). -/
abbrev DWord := BitVec 64

/-- The low word of a double word. -/
def DWord.lo (d : DWord) : Word := d.setWidth 32

/-- The high word of a double word. -/
def DWord.hi (d : DWord) : Word := (d >>> 32).setWidth 32

/-- A double word from its two words. -/
def DWord.of (hi lo : Word) : DWord := hi ++ lo

end Sys2Proof
end

