-- ==== Sys2Proof/Machine/Desc.lean ====
section
/-! DEFINITION. Sys2Proof/Machine/Desc.lean: a descriptor as its sixteen words, the reference a die keeps of one it
has not completed, and a completion (R522, R527). -/

namespace Sys2Proof.Machine

/-- A descriptor: its 64 bytes as words 0 to 15 (R522), the node whose gateway forwarded it and that gateway's identifier
of the request, TAG of R539. -/
structure Desc where
  w : Vector Word 16
  gw : Nat
  rid : Nat
  deriving DecidableEq, Repr

/-- Word i of a descriptor. -/
def Desc.word (d : Desc) (i : Nat) : Word := d.w[i]?.getD 0

/-- Payload word i: payload offset 4 i (R522). -/
def Desc.pay (d : Desc) (i : Nat) : Word := d.word (4 + i)

/-- OPCODE. -/
def Desc.opcode (d : Desc) : Nat := ((d.word 0).extractLsb' 0 16).toNat

/-- CID. -/
def Desc.cid (d : Desc) : Nat := ((d.word 0).extractLsb' 16 16).toNat

/-- CHAN: TARGET is a GCID. -/
def Desc.chan (d : Desc) : Bool := (d.word 1).getLsbD 8

/-- TARGET. -/
def Desc.target (d : Desc) : Nat := ((d.word 1).extractLsb' 0 8).toNat

/-- FENCE. -/
def Desc.fence (d : Desc) : Bool := (d.word 2).getLsbD 31

/-- TMO, ms. -/
def Desc.tmo (d : Desc) : Nat := ((d.word 2).extractLsb' 0 16).toNat

/-- The 48-bit counter. -/
def Desc.ctr (d : Desc) : Nat := (d.word 12).toNat + 2 ^ 32 * ((d.word 13).extractLsb' 0 16).toNat

/-- KSLOT. -/
def Desc.kslot (d : Desc) : Nat := ((d.word 13).extractLsb' 16 4).toNat

/-- TAG, 64 bits. -/
def Desc.tag (d : Desc) : BitVec 64 := DWord.of (d.word 15) (d.word 14)

/-- A field of a payload word. -/
def Desc.fld (d : Desc) (i lo n : Nat) : Nat := ((d.pay i).extractLsb' lo n).toNat

/-- A bit of a payload word. -/
def Desc.bit (d : Desc) (i b : Nat) : Bool := (d.pay i).getLsbD b

/-- No payload bit is set outside eight masks; a mask not given is 0 (reserved bits, code 0x05). -/
def Desc.onlyBits (d : Desc) (ms : List Word) : Bool :=
  (List.range 8).all (fun i => decide ((d.pay i) &&& ~~~(ms.getD i 0) = 0))

/-- What a die keeps of a descriptor until it completes: issuing node and its identifier of the request, CID, opcode and the results its
completion carries. -/
structure DescRef where
  gw : Nat
  rid : Nat
  cid : Nat
  op : Nat
  r0 : Word := 0
  r1 : Word := 0
  deriving DecidableEq, Repr

/-- The reference of a descriptor; `stored`: its counter was stored, and the results hold it (R527). -/
def Desc.ref (d : Desc) (stored : Bool) : DescRef :=
  { gw := d.gw, rid := d.rid, cid := d.cid, op := d.opcode
    r0 := if stored then d.word 12 else 0, r1 := if stored then (d.word 13) &&& 0xFFFF else 0 }

/-- A completion on its way to the gateway (R527). -/
structure Compl where
  ref : DescRef
  status : Nat
  deriving DecidableEq, Repr

/-- A CAN frame on a bus: word 0 and word 1 of the buffer layout as far as the frame carries them, and its data words
(R617). -/
structure CanFrame where
  w0 : Word
  w1 : Word
  data : Vector Word 16
  deriving DecidableEq, Repr

end Sys2Proof.Machine
end

