-- ==== Sys2Proof/Machine/Journal.lean ====
section
/-! DEFINITION. Sys2Proof/Machine/Journal.lean: the events the journal records, their sources and the record (R54,
R55). -/

namespace Sys2Proof.Machine

/-- The sources of journal events in the rank order of R55. -/
inductive JSrc where
  | shank | pwm | loop | met | ey | cool | can | tongue | hub
  deriving DecidableEq, Repr

/-- The rank of a source (R55). -/
def JSrc.rank : JSrc → Nat
  | .shank => 1 | .pwm => 2 | .loop => 3 | .met => 4 | .ey => 5 | .cool => 6 | .can => 7 | .tongue => 8 | .hub => 9

/-- The uncertainty U of a source's stamps in units of 0.01 ns: the granularity of its domain, and 4 µs for an
Eyelet event (R54). -/
def JSrc.unc : JSrc → Nat
  | .shank => 4000 | .pwm => 125 | .loop => 250 | .met => 250 | .ey => 400000 | .cool => 250 | .can => 1250
  | .tongue => 400 | .hub => 200

/-- The journalled events, one name each. -/
inductive JEv where
  | ageLimit
  | canState
  | clkLol
  | clkLor
  | cobTest
  | commitInt
  | coolFlag
  | ctResid
  | dramBad
  | eyeletFlags
  | eyeletTrip
  | holdWeak
  | hubLol
  | journalLost
  | junction
  | ledgerLevel
  | neutLost
  | nodeJoin
  | nodeLeave
  | phLoss
  | pllLol
  | seqErr
  | session
  | shankDemand
  | shankDisc
  | shankMirror
  | shankPath
  | shankState
  | shankTc0
  | tamper
  | trialEnd
  | trialFail
  | trip
  | vauxSurge
  | verdict
  | vholdLow
  deriving DecidableEq, Repr

/-- One journal entry: site-time stamp, source, channel (none: the hub), event and its figures; `safe`: a safety
entry (R43); `conc`: journalled as concurrent with its predecessor (R55). -/
structure JEntry where
  t : Nat
  src : JSrc
  ch : Option Nat
  ev : JEv
  data : List Int
  safe : Bool
  conc : Bool := false
  deriving DecidableEq, Repr

end Sys2Proof.Machine
end

