-- ==== Sys2Proof/Machine/Out.lean ====
section
/-! DEFINITION. Sys2Proof/Machine/Out.lean: what the module sends out: frames on the ring (R468), answers to the
vehicle (R332), words answered to a read, interrupts to the host and pulses on lands. They are kept in the order they
leave (log entry 5). -/

namespace Sys2Proof.Machine

/-- The TYPE of a ring frame (R468). -/
inductive FType where
  | safe | grant | context | sync | delayReq | delayResp | presence | curve | regReq | regResp | desc | compl
  | config | pair | word | test
  deriving DecidableEq, Repr

/-- The code of a TYPE (R468). -/
def FType.code : FType → Nat
  | .safe => 0x01 | .grant => 0x04 | .context => 0x05 | .sync => 0x06 | .delayReq => 0x07 | .delayResp => 0x08
  | .presence => 0x09 | .curve => 0x10 | .regReq => 0x11 | .regResp => 0x12 | .desc => 0x13 | .compl => 0x14
  | .config => 0x15 | .pair => 0x16 | .word => 0x18 | .test => 0x3F

/-- The traffic class of a TYPE (R468); TEST travels in any. -/
def FType.tc : FType → Nat
  | .safe => 0
  | .grant | .context | .sync | .delayReq | .delayResp | .presence => 1
  | .curve | .regReq | .regResp | .desc | .compl | .config | .pair => 2
  | .word | .test => 3

/-- The answers the Tongue gives the vehicle (R332 to R348). -/
inductive VRes where
  | sdp | sessionSetup | authFinished | authOngoing | authFailed | chargeParameter | schedule | cableCheckOngoing
  | cableCheckFinished | cableCheckFailed | precharge | powerDeliveryOk | powerDeliveryFailed | chargeLoop | welding
  | sessionStop | unsupported | terminate
  deriving DecidableEq, Repr

/-- One thing the module sends. -/
inductive Out where
  /-- a frame of a TYPE to a node, or broadcast (none), with its payload words -/
  | frame (typ : FType) (dst : Option Nat) (payload : List Word)
  /-- a frame on a link: it leaves on the west link, its header (R466), its payload words, ABORT set (R467) -/
  | ring (west : Bool) (hdr : BitVec 56) (payload : List Word) (abort : Bool)
  /-- a TRIP block on a link: its trip field, byte 1 first (R470) -/
  | tripBlock (west : Bool) (field : BitVec 56)
  /-- an answer to the vehicle of a channel, with its figures -/
  | vehicle (ch : Nat) (res : VRes) (data : List Int)
  /-- a word answered to the host, with the address read -/
  | readData (node : Nat) (ofs : Nat) (w : Word)
  /-- a completion written at a slot of a completion ring (R520) -/
  | completion (ring slot : Nat) (words : List Word)
  /-- an MSI-X message -/
  | msi (vec : Nat)
  /-- attention of a channel, or of the node (none), raised at the gateways (R532) -/
  | attention (ch : Option Nat)
  /-- a CAN frame on bus A (0) or B (1) of a channel: its buffer words -/
  | can (ch : Nat) (bus : Nat) (words : List Word)
  deriving DecidableEq, Repr

end Sys2Proof.Machine
end

