-- ==== Sys2Proof/Machine/Types.lean ====
section
/-! DEFINITION. Sys2Proof/Machine/Types.lean: the named states of the machines the spec gives the block, one
inductive each, with the code each shows in its register field. -/

namespace Sys2Proof.Machine

/-- FW_STATE of HUB_FW_STATUS and CH_FW_STATUS (R577). -/
inductive FwState where
  | idle | staged | committing | committed | activating | trial
  deriving DecidableEq, Repr

/-- The code FwState shows in its field. -/
def FwState.code : FwState → Nat
  | .idle => 0
  | .staged => 1
  | .committing => 2
  | .committed => 3
  | .activating => 4
  | .trial => 5

/-- TIME_STATE of RING_STATUS (R491). -/
inductive TimeState where
  | free | acquire | locked | holdover
  deriving DecidableEq, Repr

/-- The code TimeState shows in its field. -/
def TimeState.code : TimeState → Nat
  | .free => 0
  | .acquire => 1
  | .locked => 2
  | .holdover => 3

/-- TOPO of RING_STATUS (R483). -/
inductive Topo where
  | none | ring | wrapped | split
  deriving DecidableEq, Repr

/-- The code Topo shows in its field. -/
def Topo.code : Topo → Nat
  | .none => 0
  | .ring => 1
  | .wrapped => 2
  | .split => 3

/-- W_STATE and E_STATE of RING_LINK (R464). -/
inductive LinkState where
  | down | lock | align | up | isolated
  deriving DecidableEq, Repr

/-- The code LinkState shows in its field. -/
def LinkState.code : LinkState → Nat
  | .down => 0
  | .lock => 1
  | .align => 2
  | .up => 3
  | .isolated => 4

/-- ROLE of PAIR_STATUS (R548). -/
inductive PairRole where
  | none | sync | standby | active | demoted | offline
  deriving DecidableEq, Repr

/-- The code PairRole shows in its field. -/
def PairRole.code : PairRole → Nat
  | .none => 0
  | .sync => 1
  | .standby => 2
  | .active => 3
  | .demoted => 4
  | .offline => 5

/-- STATE of GW_RING_STATUS (R517). -/
inductive RingState where
  | disabled | active | draining | error
  deriving DecidableEq, Repr

/-- The code RingState shows in its field. -/
def RingState.code : RingState → Nat
  | .disabled => 0
  | .active => 1
  | .draining => 2
  | .error => 3

/-- STATE of GW_WPk_STATUS (R537). -/
inductive PortState where
  | idle | inReady | inBusy | outEmpty | outFull
  deriving DecidableEq, Repr

/-- The code PortState shows in its field. -/
def PortState.code : PortState → Nat
  | .idle => 0
  | .inReady => 1
  | .inBusy => 2
  | .outEmpty => 3
  | .outFull => 4

/-- STATE of LC_STATUS (R579). -/
inductive LcState where
  | blank | provision | verify | field | service | retired
  deriving DecidableEq, Repr

/-- The code LcState shows in its field. -/
def LcState.code : LcState → Nat
  | .blank => 0
  | .provision => 1
  | .verify => 2
  | .field => 3
  | .service => 4
  | .retired => 5

/-- STATE of COB_STATUS (R696). -/
inductive CobState where
  | idle | running | waiting
  deriving DecidableEq, Repr

/-- The code CobState shows in its field. -/
def CobState.code : CobState → Nat
  | .idle => 0
  | .running => 1
  | .waiting => 2

/-- STATE of CH_SVC (R561). -/
inductive SvcState where
  | inService | draining | held
  deriving DecidableEq, Repr

/-- The code SvcState shows in its field. -/
def SvcState.code : SvcState → Nat
  | .inService => 0
  | .draining => 1
  | .held => 2

/-- PURPOSE of CH_SVC (R561). -/
inductive SvcPurpose where
  | service | update | test
  deriving DecidableEq, Repr

/-- The code SvcPurpose shows in its field. -/
def SvcPurpose.code : SvcPurpose → Nat
  | .service => 0
  | .update => 1
  | .test => 2

/-- STATE of CH_GRANT_STATE (R228). -/
inductive GrantState where
  | boot | granted | hold | floor | meter
  deriving DecidableEq, Repr

/-- The code GrantState shows in its field. -/
def GrantState.code : GrantState → Nat
  | .boot => 0
  | .granted => 1
  | .hold => 2
  | .floor => 3
  | .meter => 4

/-- SYNC_STATE of PWM_STATUS (R81). -/
inductive SyncState where
  | own | locked | pulling | holdover
  deriving DecidableEq, Repr

/-- The code SyncState shows in its field. -/
def SyncState.code : SyncState → Nat
  | .own => 0
  | .locked => 1
  | .pulling => 2
  | .holdover => 3

/-- STATE of PWM_STATUS (R72). -/
inductive PwmState where
  | disabled | ready | run | tripped | hold | meter
  deriving DecidableEq, Repr

/-- The code PwmState shows in its field. -/
def PwmState.code : PwmState → Nat
  | .disabled => 0
  | .ready => 1
  | .run => 2
  | .tripped => 3
  | .hold => 4
  | .meter => 5

/-- STATE of LOOP_STATUS (R155). -/
inductive LoopState where
  | idle | ondly | cv | cc | stopr | offdly | fault
  deriving DecidableEq, Repr

/-- The code LoopState shows in its field. -/
def LoopState.code : LoopState → Nat
  | .idle => 0
  | .ondly => 1
  | .cv => 2
  | .cc => 3
  | .stopr => 4
  | .offdly => 5
  | .fault => 6

/-- STATE of MET_CAP_STATUS (R282). -/
inductive CapState where
  | idle | armed | post | done | error
  deriving DecidableEq, Repr

/-- The code CapState shows in its field. -/
def CapState.code : CapState → Nat
  | .idle => 0
  | .armed => 1
  | .post => 2
  | .done => 3
  | .error => 4

/-- ID of VEH_STATUS (R329). -/
inductive IdState where
  | none | present | error
  deriving DecidableEq, Repr

/-- The code IdState shows in its field. -/
def IdState.code : IdState → Nat
  | .none => 0
  | .present => 1
  | .error => 2

/-- CE of VEH_STATUS (R329). -/
inductive CeState where
  | a | b | c | error
  deriving DecidableEq, Repr

/-- The code CeState shows in its field. -/
def CeState.code : CeState → Nat
  | .a => 0
  | .b => 1
  | .c => 2
  | .error => 3

/-- STATE of VEH_STATUS (R340). -/
inductive VehState where
  | off | unplugged | plugged | setup | auth | discovery | cableCheck | precharge | transfer | paused | stopping | shutdown | ended
  deriving DecidableEq, Repr

/-- The code VehState shows in its field. -/
def VehState.code : VehState → Nat
  | .off => 0
  | .unplugged => 1
  | .plugged => 2
  | .setup => 3
  | .auth => 4
  | .discovery => 5
  | .cableCheck => 6
  | .precharge => 7
  | .transfer => 8
  | .paused => 9
  | .stopping => 10
  | .shutdown => 11
  | .ended => 12

/-- STATE of COOL_STATUS (R367). -/
inductive CoolState where
  | off | standby | active | rundown
  deriving DecidableEq, Repr

/-- The code CoolState shows in its field. -/
def CoolState.code : CoolState → Nat
  | .off => 0
  | .standby => 1
  | .active => 2
  | .rundown => 3

/-- STATE of EY_OSTATk (R398). -/
inductive EyState where
  | off | inrush | on | pause | latched | thermHot | thermWait
  deriving DecidableEq, Repr

/-- The code EyState shows in its field. -/
def EyState.code : EyState → Nat
  | .off => 0
  | .inrush => 1
  | .on => 2
  | .pause => 3
  | .latched => 4
  | .thermHot => 5
  | .thermWait => 6

/-- STATE of SHK_STATUS (R435). -/
inductive ShkState where
  | init | unarmed | ready | blocked | degraded | stop1 | safeStop
  deriving DecidableEq, Repr

/-- The code ShkState shows in its field. -/
def ShkState.code : ShkState → Nat
  | .init => 0
  | .unarmed => 1
  | .ready => 2
  | .blocked => 3
  | .degraded => 4
  | .stop1 => 5
  | .safeStop => 6

/-- LAST of SHK_TP (R440). -/
inductive TpResult where
  | none | passed | preempted | failed
  deriving DecidableEq, Repr

/-- The code TpResult shows in its field. -/
def TpResult.code : TpResult → Nat
  | .none => 0
  | .passed => 1
  | .preempted => 2
  | .failed => 3

/-- STATE of CAN_STATUS (R611). -/
inductive CanState where
  | init | integrating | active | passive | busOff | recovering
  deriving DecidableEq, Repr

/-- The code CanState shows in its field. -/
def CanState.code : CanState → Nat
  | .init => 0
  | .integrating => 1
  | .active => 2
  | .passive => 3
  | .busOff => 4
  | .recovering => 5

/-- STATE of CLK_STATUS (R644). -/
inductive ClkState where
  | locking | relocking | locked | failed
  deriving DecidableEq, Repr

/-- The code ClkState shows in its field. -/
def ClkState.code : ClkState → Nat
  | .locking => 0
  | .relocking => 1
  | .locked => 2
  | .failed => 3

/-- STATE of a grant context, LAST_CTX_DATA0 (R222). -/
inductive CtxState where
  | unconf | absent | live | ghost | escrow | out | meter
  deriving DecidableEq, Repr

/-- The code CtxState shows in its field. -/
def CtxState.code : CtxState → Nat
  | .unconf => 0
  | .absent => 1
  | .live => 2
  | .ghost => 3
  | .escrow => 4
  | .out => 5
  | .meter => 6

/-- PSTATE of PWM_PH_DATA1 (R130). -/
inductive PhState where
  | notConfigured | shed | fading | adding | active | retired
  deriving DecidableEq, Repr

/-- The code PhState shows in its field. -/
def PhState.code : PhState → Nat
  | .notConfigured => 0
  | .shed => 1
  | .fading => 2
  | .adding => 3
  | .active => 4
  | .retired => 5

/-- RESULT of COB_RES_DATA0 (R691). -/
inductive CobResult where
  | none | pass | fail | aborted
  deriving DecidableEq, Repr

/-- The code CobResult shows in its field. -/
def CobResult.code : CobResult → Nat
  | .none => 0
  | .pass => 1
  | .fail => 2
  | .aborted => 3

end Sys2Proof.Machine
end

