-- ==== Sys2Proof/Machine/RegTypes.lean ====
section
/-! DEFINITION. Sys2Proof/Machine/RegTypes.lean: the register maps of the spec as plain records. One record per
register of more than one field, one block record per register block; the default of each field is its value
after the module reset (R18), and a field whose reset is non-volatile (NV) holds the factory value that
log entry 2 names. A field's comment is the spec's own description of it. -/

namespace Sys2Proof.Machine

/-- HUB_ID (R56). -/
structure HubId where
  /-- [31:16] RO, reset 0x4750: part number -/
  part : BitVec 16 := 0x4750
  /-- [15:12] RO, reset 0x1: hub die stepping -/
  hubStep : BitVec 4 := 1
  deriving DecidableEq, Repr

/-- HUB_DIE_STATUS (R57). -/
structure HubDieStatus where
  /-- [23] RO, reset 0: 1: flash bus trained and flash identified -/
  norOk : Bool := false
  /-- [22] RO, reset 0: 1: DRAM trained and no region invalid -/
  dramOk : Bool := false
  /-- [21] RO, reset 0: 1: power bus valid and every rail within tolerance -/
  pmOk : Bool := false
  /-- [19:16] RO, reset 0x0: bit n is 1 while Sole n reports Eyelet link n valid -/
  eydOk : BitVec 4 := 0
  /-- [7:0] RO, reset 0x00: two bits per channel, CH3 in [7:6] down to CH0 in [1:0]: 0b00 off; 0b01 booting; 0b10 running; 0b11 lost under R35 -/
  soleState : BitVec 8 := 0
  deriving DecidableEq, Repr

/-- HUB_STITCH_ERR (R58). -/
structure HubStitchErr where
  /-- [31:24] RO, reset 0x00: CRC failures, stitch link 3 -/
  crcCh3 : BitVec 8 := 0
  /-- [23:16] RO, reset 0x00: CRC failures, stitch link 2 -/
  crcCh2 : BitVec 8 := 0
  /-- [15:8] RO, reset 0x00: CRC failures, stitch link 1 -/
  crcCh1 : BitVec 8 := 0
  /-- [7:0] RO, reset 0x00: CRC failures, stitch link 0 -/
  crcCh0 : BitVec 8 := 0
  deriving DecidableEq, Repr

/-- HUB_FW_STATUS (R577). -/
structure HubFwStatus where
  /-- [31:29] RO, reset 0b000: 0 IDLE; 1 STAGED; 2 COMMITTING; 3 COMMITTED; 4 ACTIVATING; 5 TRIAL -/
  fwState : FwState := .idle
  /-- [28] RO, reset NV: slot running -/
  slot : Bool := false
  /-- [27] W1C, reset 0: sticky: R568 reverted -/
  trialFail : Bool := false
  /-- [15:0] RO, reset 0x0000: s left in the trial -/
  trialLeft : BitVec 16 := 0
  deriving DecidableEq, Repr

/-- HUB_CLK_STATUS (R656). -/
structure HubClkStatus where
  /-- [5] W1C, reset 0: sticky: R652 -/
  refLost : Bool := false
  /-- [4] RO, reset 0: 1: hub reference absent now -/
  refNow : Bool := false
  /-- [3] W1C, reset 0: sticky: R651 -/
  pcieLol : Bool := false
  /-- [2] W1C, reset 0: sticky: R651 -/
  dramLol : Bool := false
  /-- [1] W1C, reset 0: sticky: R651 -/
  laneLol : Bool := false
  /-- [0] W1C, reset 0: sticky: R651 -/
  coreLol : Bool := false
  deriving DecidableEq, Repr

/-- HUB_RST_CAUSE (R720). -/
structure HubRstCause where
  /-- [6] W1C, reset per R711: R709 -/
  commitLost : Bool := false
  /-- [5] W1C, reset per R711: hub rail fault -/
  rail : Bool := false
  /-- [4] W1C, reset per R711: R715 -/
  hubWdt : Bool := false
  /-- [3] W1C, reset per R711: R709 -/
  pfailOk : Bool := false
  /-- [2] W1C, reset per R711: R713 -/
  stuck : Bool := false
  /-- [1] W1C, reset per R711: RESET_N -/
  pin : Bool := false
  /-- [0] W1C, reset per R711: power-up -/
  por : Bool := true
  deriving DecidableEq, Repr

/-- HUB_RST_STATUS (R720). -/
structure HubRstStatus where
  /-- [31] RO, reset 0: R713 -/
  pinMasked : Bool := false
  /-- [30] RO, reset NV: R714 -/
  ackPend : Bool := false
  /-- [29] RO, reset 0: R698 -/
  vholdOk : Bool := false
  /-- [28] RO, reset 0: R700 -/
  holdWeak : Bool := false
  /-- [15:0] RO, reset 0x0000: 0.1 V -/
  vhold : BitVec 16 := 0
  deriving DecidableEq, Repr

/-- HUB_HOLDUP (R720). -/
structure HubHoldup where
  /-- [31:16] RO, reset 0x0000: µF, R700 -/
  cap : BitVec 16 := 0
  /-- [15:0] RO, reset NV: power-fail commits of the hub; saturates -/
  pfCnt : BitVec 16 := 0
  deriving DecidableEq, Repr

/-- HUB_WDT (R720). -/
structure HubWdt where
  /-- [31:24] RO, reset NV: expiries since BLANK; saturates -/
  exp : BitVec 8 := 0
  /-- [15:0] RW, reset NV: ms, 50–1,000; 250 in BLANK; in force at the next feed -/
  tmo : BitVec 16 := 0xFA
  deriving DecidableEq, Repr

/-- HUB_BOOT (R720). -/
structure HubBoot where
  /-- [31] RO, reset 0: R706 -/
  recovery : Bool := false
  /-- [30] RO, reset 0: R703 -/
  slotAlt : Bool := false
  /-- [29] W1C, reset 0: R704 -/
  commitInt : Bool := false
  /-- [28] W1C, reset 0: R705 -/
  trialEnd : Bool := false
  /-- [3:0] RO, reset 0x0: bit n: Sole n in recovery -/
  soleRec : BitVec 4 := 0
  deriving DecidableEq, Repr

/-- Registers of block HubRegs. -/
structure HubRegs where
  /-- HUB_ID, offset 0x0 -/
  id : HubId := {}
  /-- HUB_DIE_STATUS, offset 0x10 -/
  dieStatus : HubDieStatus := {}
  /-- HUB_STITCH_ERR, offset 0x14 -/
  stitchErr : HubStitchErr := {}
  /-- HUB_STITCH_CLR (R59) [3:0] CLR, WO, reset 0x0: writing 1 to bit n sets CRC_CHn to 0x00 -/
  stitchClr : BitVec 4 := 0
  /-- HUB_FW_STATUS, offset 0x20 -/
  fwStatus : HubFwStatus := {}
  /-- HUB_FW_VER (R577) [31:0] VER, RO, reset NV: version running -/
  fwVer : BitVec 32 := 0
  /-- HUB_FW_NEXT (R577) [31:0] VER, RO, reset 0x0000_0000: version staged or committed; 0 when none -/
  fwNext : BitVec 32 := 0
  /-- HUB_CLK_STATUS, offset 0x30 -/
  clkStatus : HubClkStatus := {}
  /-- HUB_RST_CAUSE, offset 0x40 -/
  rstCause : HubRstCause := {}
  /-- HUB_RST_STATUS, offset 0x44 -/
  rstStatus : HubRstStatus := {}
  /-- HUB_HOLDUP, offset 0x48 -/
  holdup : HubHoldup := {}
  /-- HUB_WDT, offset 0x4C -/
  wdt : HubWdt := {}
  /-- HUB_BOOT, offset 0x50 -/
  boot : HubBoot := {}
  deriving DecidableEq, Repr

/-- RING_CTRL (R501). -/
structure RingCtrl where
  /-- [5] RW, reset 0: 1: west link ISOLATED -/
  isolateW : Bool := false
  /-- [4] RW, reset 0: 1: east link ISOLATED -/
  isolateE : Bool := false
  /-- [3] RW, reset 0: 1: HUB_PPS_IN used, R495 -/
  ppsEn : Bool := false
  /-- [2] RW, reset 1: 1: lane sleep in H-QUIET and H-SLEEP -/
  sleepEn : Bool := true
  deriving DecidableEq, Repr

/-- RING_STATUS (R501). -/
structure RingStatus where
  /-- [31] RO, reset 0: NID held -/
  nidValid : Bool := false
  /-- [30] RO, reset 0: this node is time master -/
  master : Bool := false
  /-- [29] RO, reset 0: R492 -/
  timeValid : Bool := false
  /-- [28:27] RO, reset 0b00: 0 FREE; 1 ACQUIRE; 2 LOCKED; 3 HOLDOVER -/
  timeState : TimeState := .free
  /-- [26:25] RO, reset 0b00: 0 NONE; 1 RING; 2 WRAPPED; 3 SPLIT -/
  topo : Topo := .none
  /-- [24] RO, reset 0: NODES > 16 -/
  large : Bool := false
  /-- [22:16] RO, reset 0x00: present nodes, R487 -/
  nodes : BitVec 7 := 0
  /-- [15] RO, reset 0: R495 -/
  siteSet : Bool := false
  /-- [13:8] RO, reset 0x00: time master -/
  masterNid : BitVec 6 := 0
  /-- [5:0] RO, reset 0x00: NID held -/
  nid : BitVec 6 := 0
  deriving DecidableEq, Repr

/-- RING_NID_CFG (R501). -/
structure RingNidCfg where
  /-- [8] RW, reset NV: R485 -/
  auto : Bool := false
  /-- [7] RW, reset NV: stored NID claimed -/
  valid : Bool := false
  /-- [5:0] RW, reset NV: stored NID -/
  nid : BitVec 6 := 0
  deriving DecidableEq, Repr

/-- RING_LINK (R502). -/
structure RingLink where
  /-- [31:29] RO, reset 0b000: 0 DOWN; 1 LOCK; 2 ALIGN; 3 UP; 4 ISOLATED -/
  wState : LinkState := .down
  /-- [28] RO, reset 0: W1 transmitter asleep -/
  wTxSleep : Bool := false
  /-- [27] RO, reset 0: W1 receiver asleep -/
  wRxSleep : Bool := false
  /-- [26] RO, reset 0: receive lanes swapped, R463 -/
  wSwap : Bool := false
  /-- [23] RO, reset 0: neighbour holds an NID -/
  wNbrValid : Bool := false
  /-- [21:16] RO, reset 0x00: west neighbour's NID -/
  wNbr : BitVec 6 := 0
  /-- [15:13] RO, reset 0b000: as W_STATE -/
  eState : LinkState := .down
  /-- [12] RO, reset 0: E1 transmitter asleep -/
  eTxSleep : Bool := false
  /-- [11] RO, reset 0: E1 receiver asleep -/
  eRxSleep : Bool := false
  /-- [10] RO, reset 0: as W_SWAP -/
  eSwap : Bool := false
  /-- [7] RO, reset 0: neighbour holds an NID -/
  eNbrValid : Bool := false
  /-- [5:0] RO, reset 0x00: east neighbour's NID -/
  eNbr : BitVec 6 := 0
  deriving DecidableEq, Repr

/-- RING_ASYM (R502). -/
structure RingAsym where
  /-- [31:16] RW, reset NV: signed, 10 ps: receive fibre less transmit fibre, west link -/
  asymW : BitVec 16 := 0
  /-- [15:0] RW, reset NV: the same for the east link -/
  asymE : BitVec 16 := 0
  deriving DecidableEq, Repr

/-- RING_TIME_OFS (R503). -/
structure RingTimeOfs where
  /-- [31:16] RO, reset 0x0000: signed frequency correction, 0.01 ppm -/
  freq : BitVec 16 := 0
  /-- [15:0] RO, reset 0x0000: signed offset from the master at the newest SYNC, 10 ps, saturating -/
  ofs : BitVec 16 := 0
  deriving DecidableEq, Repr

/-- RING_ERR_SEL (R504). -/
structure RingErrSel where
  /-- [5:4] RW, reset 0b00: 0 E0; 1 E1; 2 W0; 3 W1 -/
  lane : BitVec 2 := 0
  /-- [3:0] RW, reset 0x0: 0 invalid sync headers; 1 block lock losses; 2 hi-BER events; 3 Awl blocks missed; 4 BIP8 bit errors; 5 HCRC or TCRC failures; 6 CRC failures and ABORT; 7 frames discarded under R469 or for HOPS; 8 R474 drops; 9 invalid control blocks -/
  code : BitVec 4 := 0
  deriving DecidableEq, Repr

/-- RING_EVT (R504). -/
structure RingEvt where
  /-- [9] W1C, reset 0: sticky: no NID free, R485 -/
  nidFull : Bool := false
  /-- [8] W1C, reset 0: sticky: time master changed -/
  masterChg : Bool := false
  /-- [7] W1C, reset 0: sticky: R463 -/
  skewErr : Bool := false
  /-- [6] W1C, reset 0: sticky: TIME_VALID fell -/
  timeLost : Bool := false
  /-- [5] W1C, reset 0: sticky: R486 -/
  nidConflict : Bool := false
  /-- [4] W1C, reset 0: sticky: a node departed -/
  nodeLeave : Bool := false
  /-- [3] W1C, reset 0: sticky: a node joined -/
  nodeJoin : Bool := false
  /-- [2] W1C, reset 0: sticky: TOPO changed -/
  topoChg : Bool := false
  /-- [1] W1C, reset 0: sticky: west link left UP -/
  linkWDown : Bool := false
  /-- [0] W1C, reset 0: sticky: east link left UP -/
  linkEDown : Bool := false
  deriving DecidableEq, Repr

/-- RING_NODE_DATA0 (R505). -/
structure RingNodeData0 where
  /-- [31] RO, reset 0: R487 -/
  present : Bool := false
  /-- [30] RO, reset 0: gateway role -/
  gateway : Bool := false
  /-- [29] RO, reset 0: coordinator-active -/
  coordAct : Bool := false
  /-- [28] RO, reset 0: coordinator-standby -/
  coordSby : Bool := false
  /-- [27:26] RO, reset 0b00: R488 -/
  tclass : BitVec 2 := 0
  /-- [25] RO, reset 0: its east link UP -/
  eUp : Bool := false
  /-- [24] RO, reset 0: its west link UP -/
  wUp : Bool := false
  /-- [21:16] RO, reset 0x00: its east neighbour -/
  eNbr : BitVec 6 := 0
  /-- [13:8] RO, reset 0x00: its west neighbour -/
  wNbr : BitVec 6 := 0
  deriving DecidableEq, Repr

/-- Registers of block RingRegs. -/
structure RingRegs where
  /-- RING_CTRL, offset 0x1000 -/
  ctrl : RingCtrl := {}
  /-- RING_STATUS, offset 0x1004 -/
  status : RingStatus := {}
  /-- RING_NID_CFG, offset 0x1008 -/
  nidCfg : RingNidCfg := {}
  /-- RING_LINK, offset 0x100C -/
  link : RingLink := {}
  /-- RING_DELAY_E (R502) [31:0] DELAY, RO, reset 0x0000_0000: filtered d of R489, ps; 0 while not UP -/
  delayE : BitVec 32 := 0
  /-- RING_DELAY_W (R502) [31:0] DELAY, RO, reset 0x0000_0000: filtered d of R489, ps; 0 while not UP -/
  delayW : BitVec 32 := 0
  /-- RING_ASYM, offset 0x1018 -/
  asym : RingAsym := {}
  /-- RING_TIME_LO (R503) [31:0] T, RO, reset 0x0000_0000: site time, ns -/
  timeLo : BitVec 32 := 0
  /-- RING_TIME_HI (R503) [31:0] T, RO, reset 0x0000_0000: site time, ns -/
  timeHi : BitVec 32 := 0
  /-- RING_TIME_OFS, offset 0x1028 -/
  timeOfs : RingTimeOfs := {}
  /-- RING_TOD_LO (R503) [31:0] SEC, RW, reset 0x0000_0000: TAI seconds, low word -/
  todLo : BitVec 32 := 0
  /-- RING_TOD_HI (R503) [15:0] SEC, RW, reset 0x0000: TAI seconds, high bits; the write arms R495 -/
  todHi : BitVec 16 := 0
  /-- RING_LB (R504) [15:0] MODE, RW, reset 0x0000: 4 bits per lane, E0 in [3:0], E1 [7:4], W0 [11:8], W1 [15:12]: 0 none; 1 NES; 2 NEP; 3 FE; others taken as 0 -/
  lb : BitVec 16 := 0
  /-- RING_ERR_SEL, offset 0x1040 -/
  errSel : RingErrSel := {}
  /-- RING_ERR_DATA (R504) [31:0] COUNT, RO, reset 0x0000_0000: count selected; cleared at hub reset -/
  errData : BitVec 32 := 0
  /-- RING_ERR_CLR (R504) [3:0] LANE, WO, reset 0x0: bit n: clear every count of lane n -/
  errClr : BitVec 4 := 0
  /-- RING_EVT, offset 0x104C -/
  evt : RingEvt := {}
  /-- RING_NODE_SEL (R505) [5:0] NID, RW, reset 0x00: node selected -/
  nodeSel : BitVec 6 := 0
  /-- RING_NODE_DATA0, offset 0x1054 -/
  nodeData0 : RingNodeData0 := {}
  /-- RING_NODE_DATA1 (R505) [31:0] DIE_ID, RO, reset 0x0000_0000: low word -/
  nodeData1 : BitVec 32 := 0
  /-- RING_NODE_DATA2 (R505) [31:0] DIE_ID, RO, reset 0x0000_0000: high word -/
  nodeData2 : BitVec 32 := 0
  deriving DecidableEq, Repr

/-- LAST_CFG (R237). -/
structure LastCfg where
  /-- [31] CMD, reset NV: planner enabled -/
  en : Bool := false
  /-- [29:24] CMD, reset NV: 1–32 -/
  iterMax : BitVec 6 := 0x20
  /-- [22:16] CMD, reset NV: E in 10 µs, 5–100 -/
  epoch : BitVec 7 := 0xA
  /-- [15:0] CMD, reset NV: default efficiency, value/65,536 -/
  effDef : BitVec 16 := 0xF333
  deriving DecidableEq, Repr

/-- LAST_STATUS (R237). -/
structure LastStatus where
  /-- [31] RO, reset 0: 1: this engine issues grants -/
  active : Bool := false
  /-- [30] RO, reset 0: 1: this engine is standby -/
  standby : Bool := false
  /-- [29] RO, reset 0: 1: more than 16 nodes -/
  large : Bool := false
  /-- [28] RO, reset 0: 1: site curtailment in force -/
  curtSite : Bool := false
  /-- [27:20] RO, reset 0x00: bit k: feeder k curtailed -/
  curtFdr : BitVec 8 := 0
  /-- [13:8] RO, reset 0x00: iterations used in the newest plan -/
  iter : BitVec 6 := 0
  /-- [6:0] RO, reset 0x00: nodes on the ring -/
  nodes : BitVec 7 := 0
  deriving DecidableEq, Repr

/-- LAST_SITE_METER (R238). -/
structure LastSiteMeter where
  /-- [8] CMD, reset NV: site meter used -/
  en : Bool := false
  /-- [7:0] CMD, reset NV: site meter channel -/
  gcid : BitVec 8 := 0
  deriving DecidableEq, Repr

/-- LAST_CTX_DATA0 (R239). -/
structure LastCtxData0 where
  /-- [31:29] RO, reset 0b000: 0 UNCONF; 1 ABSENT; 2 LIVE; 3 GHOST; 4 ESCROW; 5 OUT; 6 METER -/
  state : BitVec 3 := 0
  /-- [26:24] RO, reset 0b000: class in force -/
  pc : BitVec 3 := 0
  /-- [22:20] RO, reset 0b000: feeder -/
  fdr : BitVec 3 := 0
  /-- [19:16] RO, reset 0x0: interleave group -/
  ig : BitVec 4 := 0
  /-- [15] RO, reset 0: as reported -/
  ofsOk : Bool := false
  /-- [14] RO, reset 0: R216 -/
  ackLate : Bool := false
  /-- [12:8] RO, reset 0x00: newest N_REC -/
  nRec : BitVec 5 := 0
  deriving DecidableEq, Repr

/-- LAST_CTX_DATA5 (R239). -/
structure LastCtxData5 where
  /-- [31:16] RO, reset 0x0000: price of the last segment allocated -/
  price : BitVec 16 := 0
  /-- [15:0] RO, reset 0x0000: θ issued, 0.01° -/
  theta : BitVec 16 := 0
  deriving DecidableEq, Repr

/-- LAST_FLAGS (R240). -/
structure LastFlags where
  /-- [7] W1C, reset 0: an unconfigured GCID reported power -/
  unconfDraw : Bool := false
  /-- [6] W1C, reset 0: a meter was stale under R201 -/
  meterStale : Bool := false
  /-- [5] W1C, reset 0: R211 scaled floors -/
  floorScaled : Bool := false
  /-- [4] W1C, reset 0: R209 applied -/
  iterLimit : Bool := false
  /-- [3] W1C, reset 0: R216 applied -/
  ackLate : Bool := false
  /-- [2] W1C, reset 0: a LIVE channel had no valid curve bin -/
  curveBad : Bool := false
  /-- [1] W1C, reset 0: a context entered GHOST -/
  ghost : Bool := false
  /-- [0] W1C, reset 0: a meter's P_IN exceeded its cap for 10 consecutive epochs -/
  overMeas : Bool := false
  deriving DecidableEq, Repr

/-- LAST_FDR_CAPk (R238). -/
structure LastFdrCap where
  /-- [31] CMD, reset NV: feeder enabled -/
  en : Bool := false
  /-- [30] CMD, reset NV: feeder meter used -/
  mtrEn : Bool := false
  /-- [23:0] CMD, reset NV: import cap -/
  imp : BitVec 24 := 0
  deriving DecidableEq, Repr

/-- LAST_FDR_BASEk (R238). -/
structure LastFdrBase where
  /-- [31:24] CMD, reset NV: feeder meter channel -/
  mtrGcid : BitVec 8 := 0
  /-- [23:0] CMD, reset NV: base load -/
  base : BitVec 24 := 0
  deriving DecidableEq, Repr

/-- Registers of block LastRegs. -/
structure LastRegs where
  /-- LAST_CFG, offset 0x2000 -/
  cfg : LastCfg := {}
  /-- LAST_STATUS, offset 0x2004 -/
  status : LastStatus := {}
  /-- LAST_EPOCH (R237) [31:0] EPOCH, RO, reset 0x0000_0000: epoch of the newest plan -/
  epoch : BitVec 32 := 0
  /-- LAST_T0_LO (R237) [31:0] T0, RO, reset 0x0000_0000: t_k, ns, low word -/
  t0Lo : BitVec 32 := 0
  /-- LAST_T0_HI (R237) [31:0] T0, RO, reset 0x0000_0000: t_k, ns, high word -/
  t0Hi : BitVec 32 := 0
  /-- LAST_GEN (R237) [15:0] GEN, RO, reset NV: coordinator generation in force -/
  gen : BitVec 16 := 0
  /-- LAST_SITE_CAP (R238) [23:0] IMP, CMD, reset NV: site import cap -/
  siteCap : BitVec 24 := 0
  /-- LAST_SITE_CAPX (R238) [23:0] EXP, CMD, reset NV: site export cap -/
  siteCapx : BitVec 24 := 0
  /-- LAST_SITE_METER, offset 0x2020 -/
  siteMeter : LastSiteMeter := {}
  /-- LAST_SITE_ROOM (R238) [23:0] ROOM, RO, reset 0x00_0000: site import cap_eff -/
  siteRoom : BitVec 24 := 0
  /-- LAST_SITE_SUM (R238) [23:0] SUM, RO, reset 0x00_0000: committed and reserved import, site -/
  siteSum : BitVec 24 := 0
  /-- LAST_CTX_SEL (R239) [7:0] GCID, RW, reset 0x00: context selected -/
  ctxSel : BitVec 8 := 0
  /-- LAST_CTX_DATA0, offset 0x2104 -/
  ctxData0 : LastCtxData0 := {}
  /-- LAST_CTX_DATA1 (R239) [23:0] G_ISS, RO, reset 0x00_0000: issued import grant -/
  ctxData1 : BitVec 24 := 0
  /-- LAST_CTX_DATA2 (R239) [23:0] G_ACK, RO, reset 0x00_0000: acknowledged import grant -/
  ctxData2 : BitVec 24 := 0
  /-- LAST_CTX_DATA3 (R239) [23:0] REQ, RO, reset 0x00_0000: REQ_IMP -/
  ctxData3 : BitVec 24 := 0
  /-- LAST_CTX_DATA4 (R239) [23:0] FLOOR_EFF, RO, reset 0x00_0000: floor under R211 -/
  ctxData4 : BitVec 24 := 0
  /-- LAST_CTX_DATA5, offset 0x2118 -/
  ctxData5 : LastCtxData5 := {}
  /-- LAST_FLAGS, offset 0x2120 -/
  flags : LastFlags := {}
  /-- LAST_FDR_CAPk, offset 0x2040 -/
  fdrCap : Vector LastFdrCap 8 := Vector.replicate 8 {}
  /-- LAST_FDR_CAPXk (R238) [23:0] EXP, CMD, reset NV: export cap -/
  fdrCapx : Vector (BitVec 24) 8 := Vector.replicate 8 0
  /-- LAST_FDR_BASEk, offset 0x2080 -/
  fdrBase : Vector LastFdrBase 8 := Vector.replicate 8 {}
  /-- LAST_FDR_ROOMk (R238) [23:0] ROOM, RO, reset 0x00_0000: import cap_eff -/
  fdrRoom : Vector (BitVec 24) 8 := Vector.replicate 8 0
  /-- LAST_FDR_SUMk (R238) [23:0] SUM, RO, reset 0x00_0000: committed and reserved import -/
  fdrSum : Vector (BitVec 24) 8 := Vector.replicate 8 0
  deriving DecidableEq, Repr

/-- PAIR_CFG (R576). -/
structure PairCfg where
  /-- [31] CMD, reset NV: NID_A named -/
  aValid : Bool := false
  /-- [29:24] CMD, reset NV: rank 0 -/
  nidA : BitVec 6 := 0
  /-- [23] CMD, reset NV: NID_B named -/
  bValid : Bool := false
  /-- [21:16] CMD, reset NV: rank 1 -/
  nidB : BitVec 6 := 0
  /-- [1] CMD, reset NV: R557 -/
  sbyRest : Bool := false
  /-- [0] CMD, reset NV: R547 -/
  auto : Bool := false
  deriving DecidableEq, Repr

/-- PAIR_STATUS (R576). -/
structure PairStatus where
  /-- [31:29] RO, reset 0b000: 0 NONE; 1 SYNC; 2 STANDBY; 3 ACTIVE; 4 DEMOTED; 5 OFFLINE -/
  role : PairRole := .none
  /-- [28] RO, reset 0: R559 -/
  quorum : Bool := false
  /-- [27] RO, reset 0: a complete checkpoint held or taken -/
  ckptValid : Bool := false
  /-- [26] RO, reset 0: planner powered -/
  planOn : Bool := false
  /-- [21:16] RO, reset 0x00: other engine of the pair -/
  peerNid : BitVec 6 := 0
  /-- [15] RO, reset 0: peer present -/
  peerValid : Bool := false
  /-- [11:8] RO, reset 0x0: R553 -/
  failRun : BitVec 4 := 0
  deriving DecidableEq, Repr

/-- PAIR_EVT (R576). -/
structure PairEvt where
  /-- [7] W1C, reset 0: sticky: another engine's grant frames seen while ACTIVE -/
  overlap : Bool := false
  /-- [6] W1C, reset 0: sticky: R559 -/
  quorumLost : Bool := false
  /-- [5] W1C, reset 0: sticky: peer departed or left its role -/
  peerLost : Bool := false
  /-- [4] W1C, reset 0: sticky: R554 -/
  mirrorStale : Bool := false
  /-- [3] W1C, reset 0: sticky: an epoch judged failed or missing -/
  checkFail : Bool := false
  /-- [2] W1C, reset 0: sticky: a planned swap completed -/
  swap : Bool := false
  /-- [1] W1C, reset 0: sticky: this engine was demoted -/
  demoted : Bool := false
  /-- [0] W1C, reset 0: sticky: this engine took over -/
  takeover : Bool := false
  deriving DecidableEq, Repr

/-- PAIR_CHECK (R576). -/
structure PairCheck where
  /-- [31:28] RO, reset 0x0: newest failing check, 1–4; 0 none -/
  check : BitVec 4 := 0
  /-- [23:16] RO, reset 0x00: its cap, 0–8; 0xFF none -/
  cap : BitVec 8 := 0
  /-- [7:0] RO, reset 0x00: its record -/
  gcid : BitVec 8 := 0
  deriving DecidableEq, Repr

/-- Registers of block PairRegs. -/
structure PairRegs where
  /-- PAIR_CFG, offset 0x2400 -/
  cfg : PairCfg := {}
  /-- PAIR_STATUS, offset 0x2404 -/
  status : PairStatus := {}
  /-- PAIR_EVT, offset 0x2408 -/
  evt : PairEvt := {}
  /-- PAIR_CHECK, offset 0x240C -/
  check : PairCheck := {}
  /-- PAIR_FAIL_CNT (R576) [31:0] COUNT, RO, reset 0x0000_0000: epochs failed or missing since hub boot; saturates -/
  failCnt : BitVec 32 := 0
  /-- PAIR_CKPT_AGE (R576) [15:0] AGE, RO, reset 0xFFFF: ms, saturating; 0xFFFF when none -/
  ckptAge : BitVec 16 := 0xFFFF
  /-- PAIR_TAKE_EPOCH (R576) [31:0] EPOCH, RO, reset 0x0000_0000: first epoch of the newest takeover or swap -/
  takeEpoch : BitVec 32 := 0
  deriving DecidableEq, Repr

/-- GW_CTRL (R544). -/
structure GwCtrl where
  /-- [31:16] RW, reset 0x0064: remote read timeout, 10 µs steps, 100–1,000 -/
  rdTmo : BitVec 16 := 0x64
  /-- [0] RW, reset NV: R508 -/
  refsel : Bool := false
  deriving DecidableEq, Repr

/-- GW_STATUS (R544). -/
structure GwStatus where
  /-- [31] RO, reset 0: role held -/
  gateway : Bool := false
  /-- [30] RO, reset 0: R510 -/
  refused : Bool := false
  /-- [29] RO, reset 0: link in L0 or L1 -/
  linkUp : Bool := false
  /-- [28] RO, reset 0: Bus Master Enable -/
  bme : Bool := false
  /-- [27:24] RO, reset 0x0: 1–4: 2.5 to 16.0 GT/s -/
  speed : BitVec 4 := 0
  /-- [23:22] RO, reset 0b00: 1: x1; 2: x2 -/
  width : BitVec 2 := 0
  /-- [21:16] RO, reset 0x00: the other gateway -/
  peerNid : BitVec 6 := 0
  /-- [15] RO, reset 0: another gateway present -/
  peerValid : Bool := false
  /-- [8:0] RO, reset 0x000: descriptors forwarded, not completed -/
  inflight : BitVec 9 := 0
  deriving DecidableEq, Repr

/-- GW_IRQ_CFG (R544). -/
structure GwIrqCfg where
  /-- [29:24] RW, reset 0x3F: ring ERROR vector -/
  errVec : BitVec 6 := 0x3F
  /-- [21:16] RW, reset 0x3E: node attention vector -/
  nattnVec : BitVec 6 := 0x3E
  /-- [13:8] RW, reset 0x3D: channel attention vector -/
  attnVec : BitVec 6 := 0x3D
  /-- [2] RW, reset 0: 1: enabled -/
  errEn : Bool := false
  /-- [1] RW, reset 0: 1: enabled -/
  nattnEn : Bool := false
  /-- [0] RW, reset 0: 1: enabled -/
  attnEn : Bool := false
  deriving DecidableEq, Repr

/-- Registers of block GwRegs. -/
structure GwRegs where
  /-- GW_CTRL, offset 0x3000 -/
  ctrl : GwCtrl := {}
  /-- GW_STATUS, offset 0x3004 -/
  status : GwStatus := {}
  /-- GW_IRQ_CFG, offset 0x3008 -/
  irqCfg : GwIrqCfg := {}
  /-- GW_CNT_SEL (R544) [3:0] CODE, RW, reset 0x0: 0 access errors; 1 RD_TMO; 2 late or discarded completions; 3 0x0F completions; 4 doorbells ignored; 5 blocks NAKed; 6 0x06 completions; 7 0x07 completions; 8 port timeouts -/
  cntSel : BitVec 4 := 0
  /-- GW_CNT_DATA (R544) [31:0] COUNT, RO, reset 0x0000_0000: count selected; saturating; cleared at endpoint reset -/
  cntData : BitVec 32 := 0
  /-- GW_RING_SEL (R545) [5:0] RING, RW, reset 0x00: ring 0–63 -/
  ringSel : BitVec 6 := 0
  /-- GW_ATTN0–7 (R544) [31:0] ATTN, W1C, reset 0x0000_0000: bit b of GW_ATTNi: GCID 32i + b -/
  attn : Vector (BitVec 32) 8 := Vector.replicate 8 0
  /-- GW_NATTN0–1 (R544) [31:0] ATTN, W1C, reset 0x0000_0000: bit b of GW_NATTNi: NID 32i + b -/
  nattn : Vector (BitVec 32) 2 := Vector.replicate 2 0
  deriving DecidableEq, Repr

/-- GW_RING_CFG (R545). -/
structure GwRingCfg where
  /-- [31] RW, reset 0: R517 -/
  en : Bool := false
  /-- [30] WO, reset 0: R517 -/
  abort : Bool := false
  /-- [19:16] RW, reset 0x4: 4–12; 2^SIZE entries -/
  size : BitVec 4 := 4
  /-- [15:0] RW, reset 0x0064: default timeout, ms, 1–65,535 -/
  tmoDef : BitVec 16 := 0x64
  deriving DecidableEq, Repr

/-- GW_RING_IRQ (R545). -/
structure GwRingIrq where
  /-- [31:16] RW, reset 0x0000: µs -/
  time : BitVec 16 := 0
  /-- [15:8] RW, reset 0x01: completions per message -/
  cnt : BitVec 8 := 1
  /-- [5:0] RW, reset ring number: MSI-X vector -/
  vec : BitVec 6 := 0
  deriving DecidableEq, Repr

/-- GW_RING_STATUS (R545). -/
structure GwRingStatus where
  /-- [31:29] RO, reset 0b000: 0 DISABLED; 1 ACTIVE; 2 DRAINING; 3 ERROR -/
  state : RingState := .disabled
  /-- [28:26] RO, reset 0b000: R517 -/
  err : BitVec 3 := 0
  /-- [12:0] RO, reset 0x0000: fetched, not completed -/
  inflight : BitVec 13 := 0
  deriving DecidableEq, Repr

/-- GW_RING_PTR (R545). -/
structure GwRingPtr where
  /-- [27:16] RO, reset 0x000: next slot to fetch -/
  sqHead : BitVec 12 := 0
  /-- [11:0] RO, reset 0x000: next completion slot -/
  cqTail : BitVec 12 := 0
  deriving DecidableEq, Repr

/-- Registers of block GwRingRegs. -/
structure GwRingRegs where
  /-- GW_SQ_BASE_LO (R545) [31:6] ADDR, RW, reset 0x000_0000: address bits [31:6] -/
  sqBaseLo : BitVec 26 := 0
  /-- GW_SQ_BASE_HI (R545) [31:0] ADDR, RW, reset 0x0000_0000: high word -/
  sqBaseHi : BitVec 32 := 0
  /-- GW_CQ_BASE_LO (R545) [31:4] ADDR, RW, reset 0x000_0000: address bits [31:4] -/
  cqBaseLo : BitVec 28 := 0
  /-- GW_CQ_BASE_HI (R545) [31:0] ADDR, RW, reset 0x0000_0000: high word -/
  cqBaseHi : BitVec 32 := 0
  /-- GW_RING_CFG, offset 0x3114 -/
  cfg : GwRingCfg := {}
  /-- GW_RING_IRQ, offset 0x3118 -/
  irq : GwRingIrq := {}
  /-- GW_RING_STATUS, offset 0x311C -/
  status : GwRingStatus := {}
  /-- GW_RING_PTR, offset 0x3120 -/
  ptr : GwRingPtr := {}
  deriving DecidableEq, Repr

/-- GW_WPk_STATUS (R546). -/
structure GwWpkStatus where
  /-- [31:28] RO, reset 0x0: 0 IDLE; 1 IN_READY; 2 IN_BUSY; 3 OUT_EMPTY; 4 OUT_FULL -/
  state : PortState := .idle
  /-- [27:16] RO, reset 0x000: words of the block, 0–1,024 -/
  wlen : BitVec 12 := 0
  /-- [15] RO, reset 0: the last block in was refused, R535 -/
  naked : Bool := false
  /-- [14:0] RO, reset 0x0000: R534 -/
  bseq : BitVec 15 := 0
  deriving DecidableEq, Repr

/-- GW_WPk_CMD (R546). -/
structure GwWpkCmd where
  /-- [31:28] WO, reset 0x0: 1 COMMIT; 2 ACK; 3 NAK; 4 ABORT -/
  op : BitVec 4 := 0
  /-- [10:0] WO, reset 0x000: COMMIT: words, 1–1,024 -/
  wlen : BitVec 11 := 0
  deriving DecidableEq, Repr

/-- GW_WPk_INFO (R546). -/
structure GwWpkInfo where
  /-- [31:16] RO, reset 0x0000: descriptor bound -/
  opcode : BitVec 16 := 0
  /-- [8] RO, reset 0: 0 into the module; 1 out -/
  dir : Bool := false
  /-- [7:0] RO, reset 0x00: TARGET of the descriptor bound -/
  target : BitVec 8 := 0
  deriving DecidableEq, Repr

/-- Registers of block GwPortRegs. -/
structure GwPortRegs where
  /-- GW_WPk_STATUS, offset 0x3200 -/
  status : GwWpkStatus := {}
  /-- GW_WPk_CHECK (R546) [31:0] CRC, RW, reset 0x0000_0000: host's value in IN_READY; the source's value in OUT_FULL, read-only there -/
  check : BitVec 32 := 0
  /-- GW_WPk_CMD, offset 0x3208 -/
  cmd : GwWpkCmd := {}
  /-- GW_WPk_INFO, offset 0x320C -/
  info : GwWpkInfo := {}
  deriving DecidableEq, Repr

/-- LC_STATUS (R607). -/
structure LcStatus where
  /-- [31:29] RO, reset NV: 0 BLANK; 1 PROVISION; 2 VERIFY; 3 FIELD; 4 SERVICE; 5 RETIRED -/
  state : LcState := .blank
  /-- [28] RO, reset NV: debug flag -/
  debug : Bool := false
  /-- [27] RO, reset 0: a transition, key write or zeroisation is running -/
  busy : Bool := false
  deriving DecidableEq, Repr

/-- LC_ARB (R607). -/
structure LcArb where
  /-- [29:24] RO, reset NV: legal code floor; 0 on the hub -/
  arbLegal : BitVec 6 := 0
  /-- [21:16] RO, reset NV: firmware floor -/
  arbFw : BitVec 6 := 0
  deriving DecidableEq, Repr

/-- KEY_CTR_HI (R607). -/
structure KeyCtrHi where
  /-- [24:16] RO, reset 0x000: R588 -/
  groups : BitVec 9 := 0
  /-- [15:0] RO, reset 0x0000: counter bits [47:32] -/
  ctr : BitVec 16 := 0
  deriving DecidableEq, Repr

/-- KEY_FAIL (R607). -/
structure KeyFail where
  /-- [31:16] RO, reset 0x0000: 0x06 completions at this die since it booted; saturates -/
  tagFail : BitVec 16 := 0
  /-- [15:0] RO, reset 0x0000: 0x07 completions at this die since it booted; saturates -/
  ctrStale : BitVec 16 := 0
  deriving DecidableEq, Repr

/-- TAMP_CFG (R608). -/
structure TampCfg where
  /-- [31:24] CMD, reset NV: input 1 filter, ms, 1–255 -/
  tf1 : BitVec 8 := 0
  /-- [23:16] CMD, reset NV: input 0 filter, ms, 1–255 -/
  tf0 : BitVec 8 := 0
  /-- [1] CMD, reset NV: input 1 enabled -/
  en1 : Bool := false
  /-- [0] CMD, reset NV: input 0 enabled -/
  en0 : Bool := false
  deriving DecidableEq, Repr

/-- TAMP_STATUS (R608). -/
structure TampStatus where
  /-- [31] RO, reset NV: R599 -/
  hold : Bool := false
  /-- [30] RO, reset NV: the hold was entered in start-up -/
  startup : Bool := false
  /-- [25] RO, reset 0: input 1 reads open now -/
  in1Open : Bool := false
  /-- [24] RO, reset 0: input 0 reads open now -/
  in0Open : Bool := false
  /-- [23:16] RO, reset NV: code of the first source of the hold, R597; 0 when none -/
  first : BitVec 8 := 0
  /-- [6:0] W1C, reset NV: sticky: bit c − 1 for code c -/
  seen : BitVec 7 := 0
  deriving DecidableEq, Repr

/-- Registers of block KeyRegs. -/
structure KeyRegs where
  /-- LC_STATUS, offset 0x0 -/
  lcStatus : LcStatus := {}
  /-- LC_ARB, offset 0x4 -/
  lcArb : LcArb := {}
  /-- KEY_SLOT_STATUS (R607) [31:0] SLOTS, RO, reset NV: bits [2k+1:2k]: KSk, 0 EMPTY; 1 LOADED; 2 ZEROISED -/
  keySlotStatus : BitVec 32 := 0
  /-- KEY_CTR_SEL (R607) [3:0] SLOT, RW, reset 0x0: slot captured, R591 -/
  keyCtrSel : BitVec 4 := 0
  /-- KEY_CTR_LO (R607) [31:0] CTR, RO, reset 0x0000_0000: counter bits [31:0] -/
  keyCtrLo : BitVec 32 := 0
  /-- KEY_CTR_HI, offset 0x14 -/
  keyCtrHi : KeyCtrHi := {}
  /-- KEY_FAIL, offset 0x18 -/
  keyFail : KeyFail := {}
  /-- TAMP_CFG, offset 0x20 -/
  tampCfg : TampCfg := {}
  /-- TAMP_STATUS, offset 0x24 -/
  tampStatus : TampStatus := {}
  /-- TAMP_CNT (R608) [15:0] ALARMS, RO, reset NV: alarms since BLANK; saturates -/
  tampCnt : BitVec 16 := 0
  deriving DecidableEq, Repr

/-- PM_CTRL (R680). -/
structure PmCtrl where
  /-- [31] RW, reset 1: R664 -/
  auto : Bool := true
  /-- [15:0] RW, reset 0x03E8: ms, 10–60,000 -/
  dwell : BitVec 16 := 0x3E8
  deriving DecidableEq, Repr

/-- PM_LIMIT (R680). -/
structure PmLimit where
  /-- [17:16] RW, reset 0b10: deepest hub state -/
  hubDeep : BitVec 2 := 2
  /-- [15:0] RW, reset 0x3333: deepest channel state, 4 bits per channel, CHk in [4k+2:4k]; [4k+3] reserved -/
  chDeep : BitVec 16 := 0x3333
  deriving DecidableEq, Repr

/-- PM_STATUS (R680). -/
structure PmStatus where
  /-- [17:16] RO, reset 0b00: hub state -/
  hub : BitVec 2 := 0
  /-- [15:0] RO, reset 0x0000: channel states, laid out as CH_DEEP -/
  ch : BitVec 16 := 0
  deriving DecidableEq, Repr

/-- PM_WHY (R680). -/
structure PmWhy where
  /-- [19:16] RO, reset 0x0: code of R663 or R664 -/
  hub : BitVec 4 := 0
  /-- [15:0] RO, reset 0x0000: 4 bits per channel, CHk in [4k+3:4k] -/
  ch : BitVec 16 := 0
  deriving DecidableEq, Repr

/-- PM_POWER (R680). -/
structure PmPower where
  /-- [31:16] RO, reset 0x0000: 10 mV -/
  vaux : BitVec 16 := 0
  /-- [15:0] RO, reset 0x0000: module power at VAUX, mW, mean of the last 1 s -/
  pin : BitVec 16 := 0
  deriving DecidableEq, Repr

/-- PM_OVH (R680). -/
structure PmOvh where
  /-- [31] RO, reset 0: ≥ 1 MWh billed in the span -/
  valid : Bool := false
  /-- [15:0] RO, reset 0x0000: module energy at VAUX over the last 3,600 s of site time, ÷ billed import plus export of the node's channels over the same span, 0.01 Wh/MWh -/
  ovh : BitVec 16 := 0
  deriving DecidableEq, Repr

/-- TH_CFG (R681). -/
structure ThCfg where
  /-- [31:16] RW, reset 0x03B6: R672, 88.0–110.0 °C -/
  thrT : BitVec 16 := 0x3B6
  /-- [2:0] RW, reset 0b111: R671 -/
  maxLevel : BitVec 3 := 7
  deriving DecidableEq, Repr

/-- TH_MAX (R681). -/
structure ThMax where
  /-- [26:24] RO, reset 0b000: band of the reported maximum, 0–4 -/
  band : BitVec 3 := 0
  /-- [23:20] RO, reset 0x0: die giving it, 0–5 -/
  die : BitVec 4 := 0
  /-- [15:0] RO, reset 0x8000: reported maximum -/
  t : BitVec 16 := 0x8000
  deriving DecidableEq, Repr

/-- TH_DIE_DATA0 (R681). -/
structure ThDieData0 where
  /-- [31:16] RO, reset 0x8000: highest since hub boot -/
  tPeak : BitVec 16 := 0x8000
  /-- [15:0] RO, reset 0x8000: newest die maximum -/
  t : BitVec 16 := 0x8000
  deriving DecidableEq, Repr

/-- TH_DIE_DATA1 (R681). -/
structure ThDieData1 where
  /-- [31] RO, reset 0: a sensor excluded now -/
  sensFlt : Bool := false
  /-- [30] RO, reset 0: R673 in force -/
  tjSd : Bool := false
  /-- [26:24] RO, reset 0b000: die band -/
  band : BitVec 3 := 0
  /-- [19:16] RO, reset 0x0: throttle level -/
  level : BitVec 4 := 0
  /-- [15:0] RO, reset 0x0000: s at LEVEL > 0 since hub boot; saturates -/
  thrS : BitVec 16 := 0
  deriving DecidableEq, Repr

/-- TH_EVT (R681). -/
structure ThEvt where
  /-- [5] W1C, reset 0: sticky: R673 on any die -/
  tjSd : Bool := false
  /-- [4] W1C, reset 0: sticky: a die entered TB4 -/
  tb4 : Bool := false
  /-- [3] W1C, reset 0: sticky: a die entered TB3 -/
  tb3 : Bool := false
  /-- [2] W1C, reset 0: sticky: a die entered TB0 -/
  tb0 : Bool := false
  /-- [1] W1C, reset 0: sticky: a level rose above 0 -/
  throttle : Bool := false
  /-- [0] W1C, reset 0: sticky: a sensor was excluded -/
  sensFlt : Bool := false
  deriving DecidableEq, Repr

/-- AGE_CFG (R682). -/
structure AgeCfg where
  /-- [31:24] RW, reset 0x18: h, 1–168 -/
  replan : BitVec 8 := 0x18
  /-- [15:8] RW, reset 0x0A: target margin, 5 ps steps, 4–40 -/
  mTgt : BitVec 8 := 0xA
  deriving DecidableEq, Repr

/-- AGE_DATA0 (R682). -/
structure AgeData0 where
  /-- [31:16] RO, reset NV: core voltage in force -/
  vSet : BitVec 16 := 0
  /-- [15:0] RO, reset NV: factory trim -/
  vBase : BitVec 16 := 0
  deriving DecidableEq, Repr

/-- AGE_DATA1 (R682). -/
structure AgeData1 where
  /-- [31:24] RO, reset NV: ageing increment -/
  vAge : BitVec 8 := 0
  /-- [23:16] RO, reset 0x00: band offset -/
  vBand : BitVec 8 := 0
  /-- [15:0] RO, reset 0x0000: signed M, ps -/
  margin : BitVec 16 := 0
  deriving DecidableEq, Repr

/-- AGE_DATA2 (R682). -/
structure AgeData2 where
  /-- [31:16] RO, reset 0xFFFF: R677, 0.1 years -/
  years : BitVec 16 := 0xFFFF
  /-- [15:8] RO, reset NV: 850 − V_SET -/
  headroom : BitVec 8 := 0
  /-- [7:0] RO, reset NV: records held, 0–64 -/
  records : BitVec 8 := 0
  deriving DecidableEq, Repr

/-- AGE_EVT (R682). -/
structure AgeEvt where
  /-- [20:16] W1C, reset 0x00: sticky: bit d, R676 limit on die d -/
  limit : BitVec 5 := 0
  /-- [12:8] W1C, reset 0x00: sticky: bit d, immediate rise on die d -/
  fast : BitVec 5 := 0
  /-- [4:0] W1C, reset 0x00: sticky: bit d, re-plan rise on die d -/
  step : BitVec 5 := 0
  deriving DecidableEq, Repr

/-- Registers of block PmRegs. -/
structure PmRegs where
  /-- PM_CTRL, offset 0x5000 -/
  pmCtrl : PmCtrl := {}
  /-- PM_LTR_VD (R680) [23:0] TOL, RW, reset 0x00_07D0: µs; 0xFF_FFFF no limit -/
  pmLtrVd : BitVec 24 := 0x7D0
  /-- PM_LTR_GR (R680) [23:0] TOL, RW, reset 0xFF_FFFF: as VD -/
  pmLtrGr : BitVec 24 := 0xFFFFFF
  /-- PM_LTR_DR (R680) [23:0] TOL, RW, reset 0xFF_FFFF: as VD -/
  pmLtrDr : BitVec 24 := 0xFFFFFF
  /-- PM_LIMIT, offset 0x5010 -/
  pmLimit : PmLimit := {}
  /-- PM_STATUS, offset 0x5014 -/
  pmStatus : PmStatus := {}
  /-- PM_WHY, offset 0x5018 -/
  pmWhy : PmWhy := {}
  /-- PM_WAKE (R680) [19:0] SRC, RO, reset 0x0_0000: newest wake code of R666, laid out as PM_WHY; 0 none -/
  pmWake : BitVec 20 := 0
  /-- PM_POWER, offset 0x5020 -/
  pmPower : PmPower := {}
  /-- PM_OVH, offset 0x5024 -/
  pmOvh : PmOvh := {}
  /-- TH_CFG, offset 0x5100 -/
  thCfg : ThCfg := {}
  /-- TH_MAX, offset 0x5104 -/
  thMax : ThMax := {}
  /-- TH_DIE_SEL (R681) [3:0] DIE, RW, reset 0x0: die selected -/
  thDieSel : BitVec 4 := 0
  /-- TH_DIE_DATA0, offset 0x510C -/
  thDieData0 : ThDieData0 := {}
  /-- TH_DIE_DATA1, offset 0x5110 -/
  thDieData1 : ThDieData1 := {}
  /-- TH_EVT, offset 0x5114 -/
  thEvt : ThEvt := {}
  /-- AGE_CFG, offset 0x5200 -/
  ageCfg : AgeCfg := {}
  /-- AGE_SEL (R682) [2:0] DIE, RW, reset 0b000: 0–4; others ignored -/
  ageSel : BitVec 3 := 0
  /-- AGE_DATA0, offset 0x5208 -/
  ageData0 : AgeData0 := {}
  /-- AGE_DATA1, offset 0x520C -/
  ageData1 : AgeData1 := {}
  /-- AGE_DATA2, offset 0x5210 -/
  ageData2 : AgeData2 := {}
  /-- AGE_EVT, offset 0x5214 -/
  ageEvt : AgeEvt := {}
  deriving DecidableEq, Repr

/-- COB_SCHED (R696). -/
structure CobSched where
  /-- [31:16] CMD, reset NV: min, 10–10,080; 0x05A0 (24 h) in BLANK -/
  interval : BitVec 16 := 0x5A0
  /-- [15:1] CMD, reset NV: background tests run; 0x1E06 in BLANK, tests 1, 2, 9, 10, 11 and 12 -/
  mask : BitVec 15 := 0xF03
  deriving DecidableEq, Repr

/-- COB_STATUS (R696). -/
structure CobStatus where
  /-- [31:30] RO, reset 0b00: 0 IDLE; 1 RUNNING; 2 WAITING -/
  state : CobState := .idle
  /-- [26:24] RO, reset 0b000: die of the newest test started, 0–4 -/
  die : BitVec 3 := 0
  /-- [19:16] RO, reset 0x0: its code -/
  test : BitVec 4 := 0
  /-- [7:0] RO, reset 0x00: tests waiting on the node -/
  queued : BitVec 8 := 0
  deriving DecidableEq, Repr

/-- COB_RES_SEL (R696). -/
structure CobResSel where
  /-- [10:8] RW, reset 0b000: 0–4; others read NONE -/
  die : BitVec 3 := 0
  /-- [3:0] RW, reset 0x0: test 1–15 -/
  test : BitVec 4 := 0
  deriving DecidableEq, Repr

/-- COB_RES_DATA0 (R696). -/
structure CobResData0 where
  /-- [31:30] RO, reset 0b00: 0 NONE; 1 PASS; 2 FAIL; 3 ABORTED -/
  result : BitVec 2 := 0
  /-- [23:16] RO, reset 0x00: R691 -/
  detail : BitVec 8 := 0
  /-- [15:0] RO, reset 0x0000: ms, rounded up, saturating -/
  dur : BitVec 16 := 0
  deriving DecidableEq, Repr

/-- COB_CNT (R696). -/
structure CobCnt where
  /-- [31:16] RO, reset 0x0000: tests passed since hub boot; saturates -/
  pass : BitVec 16 := 0
  /-- [15:0] RO, reset 0x0000: tests failed since hub boot; saturates -/
  fail : BitVec 16 := 0
  deriving DecidableEq, Repr

/-- Registers of block CobRegs. -/
structure CobRegs where
  /-- COB_SCHED, offset 0x6000 -/
  sched : CobSched := {}
  /-- COB_STATUS, offset 0x6004 -/
  status : CobStatus := {}
  /-- COB_RES_SEL, offset 0x6008 -/
  resSel : CobResSel := {}
  /-- COB_RES_DATA0, offset 0x600C -/
  resData0 : CobResData0 := {}
  /-- COB_RES_T_LO (R696) [31:0] T, RO, reset 0x0000_0000: site time at the end, ns, low word -/
  resTLo : BitVec 32 := 0
  /-- COB_RES_T_HI (R696) [31:0] T, RO, reset 0x0000_0000: high word -/
  resTHi : BitVec 32 := 0
  /-- COB_FAIL (R696) [4:0] SEEN, W1C, reset 0x00: sticky: bit d, a test of die d failed -/
  fail : BitVec 5 := 0
  /-- COB_CNT, offset 0x601C -/
  cnt : CobCnt := {}
  deriving DecidableEq, Repr

/-- CH_ID (R60). -/
structure ChId where
  /-- [31:16] RO, reset 0x4750: part number -/
  part : BitVec 16 := 0x4750
  /-- [15:12] RO, reset 0x1: Sole die stepping -/
  soleStep : BitVec 4 := 1
  /-- [11:10] RO, reset channel number: channel number, 0–3, fixed by the Sole's position -/
  ch : BitVec 2 := 0
  /-- [8] RO, reset 0: 1: the node holds an NID and GCID is valid -/
  gcidValid : Bool := false
  /-- [7:0] RO, reset 0x00: NID × 4 + CH under R2 -/
  gcid : BitVec 8 := 0
  deriving DecidableEq, Repr

/-- CH_LINK_STATUS (R61). -/
structure ChLinkStatus where
  /-- [31] W1C, reset 0: sticky: the Sole declared the hub lost under R35 -/
  hubLost : Bool := false
  /-- [30] RO, reset 0: 1: valid hub heartbeat within the last 50 µs -/
  hubPresent : Bool := false
  /-- [29] RO, reset 0: 1: Eyelet link valid -/
  eydLinkOk : Bool := false
  /-- [28] W1C, reset 0: sticky: an Eyelet link frame failed its CRC or a status frame was missing -/
  eydLinkErr : Bool := false
  /-- [27] RO, reset 0: 1: a write to the channel always-on domain has not yet taken effect -/
  aonPend : Bool := false
  /-- [26] RO, reset 0: 1: the oscillator is relocking and R47 applies -/
  relockActive : Bool := false
  /-- [7:0] RO, reset 0x00: count of stitch-link retrains under R34; saturates at 0xFF; cleared when the Sole boots -/
  retrain : BitVec 8 := 0
  deriving DecidableEq, Repr

/-- CH_SVC (R578). -/
structure ChSvc where
  /-- [31:30] RO, reset NV: 0 IN_SERVICE; 1 DRAINING; 2 HELD -/
  state : SvcState := .inService
  /-- [29:28] RO, reset NV: 0 SERVICE; 1 UPDATE; 2 TEST -/
  purpose : SvcPurpose := .service
  /-- [27] RO, reset NV: STOP of the ENTER in force -/
  stop : Bool := false
  deriving DecidableEq, Repr

/-- CH_FW_STATUS (R578). -/
structure ChFwStatus where
  /-- [31:29] RO, reset 0b000: as HUB_FW_STATUS -/
  fwState : FwState := .idle
  /-- [28] RO, reset NV: slot running -/
  slot : Bool := false
  /-- [27] W1C, reset 0: sticky: R568 reverted -/
  trialFail : Bool := false
  /-- [15:0] RO, reset 0x0000: s left in the trial -/
  trialLeft : BitVec 16 := 0
  deriving DecidableEq, Repr

/-- CH_RST_CAUSE (R721). -/
structure ChRstCause where
  /-- [2] W1C, reset per R711: Sole rail fault -/
  rail : Bool := false
  /-- [1] W1C, reset per R711: R715 -/
  wdt : Bool := false
  /-- [0] W1C, reset per R711: module reset or power-up -/
  module : Bool := true
  deriving DecidableEq, Repr

/-- CH_WDT (R721). -/
structure ChWdt where
  /-- [31:24] RO, reset NV: expiries since BLANK; saturates -/
  exp : BitVec 8 := 0
  /-- [15:0] RW, reset NV: ms, 20–1,000; 100 in BLANK; in force at the next feed -/
  tmo : BitVec 16 := 0x64
  deriving DecidableEq, Repr

/-- CH_BOOT (R721). -/
structure ChBoot where
  /-- [4] RO, reset 0: R702 -/
  lcodeBad : Bool := false
  /-- [3] W1C, reset 0: R705 -/
  trialEnd : Bool := false
  /-- [2] W1C, reset 0: R704 -/
  commitInt : Bool := false
  /-- [1] RO, reset 0: R703 -/
  slotAlt : Bool := false
  deriving DecidableEq, Repr

/-- CH_ROLE (R242). -/
structure ChRole where
  /-- [1] CMD, reset NV: role stored: 0 charging; 1 metering-only -/
  meterNext : Bool := false
  /-- [0] RO, reset NV: role in force since the Sole booted -/
  meter : Bool := false
  deriving DecidableEq, Repr

/-- Registers of block ChRegs. -/
structure ChRegs where
  /-- CH_ID, offset 0x0 -/
  id : ChId := {}
  /-- CH_LINK_STATUS, offset 0x4 -/
  linkStatus : ChLinkStatus := {}
  /-- CH_SVC, offset 0x10 -/
  svc : ChSvc := {}
  /-- CH_FW_STATUS, offset 0x14 -/
  fwStatus : ChFwStatus := {}
  /-- CH_FW_VER (R578) [31:0] VER, RO, reset NV: ordinary firmware running -/
  fwVer : BitVec 32 := 0
  /-- CH_FW_NEXT (R578) [31:0] VER, RO, reset 0x0000_0000: version staged or committed; 0 when none -/
  fwNext : BitVec 32 := 0
  /-- CH_RST_CAUSE, offset 0x20 -/
  rstCause : ChRstCause := {}
  /-- CH_WDT, offset 0x24 -/
  wdt : ChWdt := {}
  /-- CH_BOOT, offset 0x28 -/
  boot : ChBoot := {}
  /-- CH_ROLE, offset 0x2C -/
  role : ChRole := {}
  deriving DecidableEq, Repr

/-- CH_GRANT_CFG (R241). -/
structure ChGrantCfg where
  /-- [31:16] CMD, reset NV: ms, 0–30,000 -/
  tHold : BitVec 16 := 0
  /-- [15:8] CMD, reset NV: efficiency when none is valid, 0.5 % steps from 50 % -/
  effMin : BitVec 8 := 0
  /-- [7:3] CMD, reset NV: 0.1 % steps, 0–3.1 % -/
  effMargin : BitVec 5 := 0
  /-- [2:0] CMD, reset NV: class in force -/
  pc : BitVec 3 := 0
  deriving DecidableEq, Repr

/-- CH_GRANT_STATE (R241). -/
structure ChGrantState where
  /-- [31:29] RO, reset 0b000: grant state of R228 -/
  state : GrantState := .boot
  /-- [28] RO, reset 0: 1: merging under R231 -/
  merge : Bool := false
  /-- [27] RO, reset 0: from the newest header -/
  large : Bool := false
  /-- [26] W1C, reset 0: sticky: HOLD was entered -/
  holdSeen : Bool := false
  /-- [21:16] RO, reset 0x00: engine of the newest record -/
  coordNid : BitVec 6 := 0
  /-- [15:0] RO, reset 0x0000: its generation -/
  gen : BitVec 16 := 0
  deriving DecidableEq, Repr

/-- Registers of block GrantRegs. -/
structure GrantRegs where
  /-- CH_GRANT_CFG, offset 0x300 -/
  cfg : ChGrantCfg := {}
  /-- CH_GRANT_FLOOR (R241) [23:0] FLOOR_BOOT, CMD, reset NV: floor before any grant -/
  floor : BitVec 24 := 0
  /-- CH_GRANT_PMAX (R241) [23:0] PMAX, CMD, reset NV: rated AC input power -/
  pmax : BitVec 24 := 0
  /-- CH_GRANT_STATE, offset 0x30C -/
  state : ChGrantState := {}
  /-- CH_GRANT_IMP (R241) [23:0] G_IMP, RO, reset 0x00_0000: import grant in force -/
  imp : BitVec 24 := 0
  /-- CH_GRANT_EXP (R241) [23:0] G_EXP, RO, reset 0x00_0000: export grant in force -/
  exp : BitVec 24 := 0
  /-- CH_GRANT_FLR (R241) [23:0] FLOOR, RO, reset 0x00_0000: floor in force -/
  flr : BitVec 24 := 0
  /-- CH_GRANT_EPOCH (R241) [31:0] EPOCH, RO, reset 0x0000_0000: epoch of the newest record applied -/
  epoch : BitVec 32 := 0
  /-- CH_GRANT_PLIM (R241) [23:0] P_LIM_IMP, RO, reset 0x00_0000: import power limit of R225 -/
  plim : BitVec 24 := 0
  deriving DecidableEq, Repr

/-- PWM_CTRL (R108). -/
structure PwmCtrl where
  /-- [2] RW, reset 0: 0: θ from the Last engine; 1: θ from OFS_HOST -/
  ofsSrc : Bool := false
  /-- [1] RW, reset 0: 0: SITE; 1: EXT -/
  syncSrc : Bool := false
  /-- [0] RW, reset 0: 1: arm under R69; 0: disarm -/
  arm : Bool := false
  deriving DecidableEq, Repr

/-- PWM_STATUS (R109). -/
structure PwmStatus where
  /-- [31] RO, reset 0: 1: an offset or anchor correction is in progress -/
  slewing : Bool := false
  /-- [30] RO, reset 0: 1: a fade-out or add ramp is in progress -/
  fading : Bool := false
  /-- [29] W1C, reset 0: sticky: a load-step restore occurred -/
  ls : Bool := false
  /-- [28] W1C, reset 0: sticky: a retirement was refused -/
  retRef : Bool := false
  /-- [27] W1C, reset 0: sticky: a write was ignored -/
  wrIgn : Bool := false
  /-- [26] RO, reset 0: 1: the last arm failed R69 -/
  cfgErr : Bool := false
  /-- [25:24] RO, reset 0b00: 0b00 OWN; 0b01 LOCKED; 0b10 PULLING; 0b11 HOLDOVER -/
  syncState : SyncState := .own
  /-- [20:16] RO, reset 0x00: enabled phases -/
  nEn : BitVec 5 := 0
  /-- [12:8] RO, reset 0x00: active phases -/
  nAct : BitVec 5 := 0
  /-- [2:0] RO, reset 0b000: 0 DISABLED; 1 READY; 2 RUN; 3 TRIPPED; 4 HOLD; 5 METER -/
  state : PwmState := .disabled
  deriving DecidableEq, Repr

/-- PWM_DEADTIME (R111). -/
structure PwmDeadtime where
  /-- [29:16] RW, reset 0x0280: PWMH fall to PWML rise, taps, 0–12,800 -/
  dtHl : BitVec 14 := 0x280
  /-- [13:0] RW, reset 0x0280: PWML fall to PWMH rise, taps, 0–12,800 -/
  dtLh : BitVec 14 := 0x280
  deriving DecidableEq, Repr

/-- PWM_DUTY_LIM (R112). -/
structure PwmDutyLim where
  /-- [31:16] RW, reset 0xFAE1: upper duty clamp, at most 64,225 -/
  dMax : BitVec 16 := 0xFAE1
  /-- [15:0] RW, reset 0x0000: lower duty clamp -/
  dMin : BitVec 16 := 0
  deriving DecidableEq, Repr

/-- PWM_OFFSET (R116). -/
structure PwmOffset where
  /-- [31:16] RW, reset 0x0000: channel offset when OFS_SRC is 1 or SYNC_SRC is EXT, 0.01°, 0–35,999 -/
  ofsHost : BitVec 16 := 0
  /-- [15:0] RO, reset 0x0000: θ in force, 0.01° -/
  ofsApplied : BitVec 16 := 0
  deriving DecidableEq, Repr

/-- PWM_SYNC (R117). -/
structure PwmSync where
  /-- [8] RW, reset 0: edge accepted on CHn_PSYNC: 0 rising; 1 falling -/
  extPol : Bool := false
  /-- [7:0] RW, reset 0x05: ψ slew, whole degrees per carrier period, 1–45; other values taken as 45 -/
  spreadSlew : BitVec 8 := 5
  deriving DecidableEq, Repr

/-- PWM_GSYNC (R118). -/
structure PwmGsync where
  /-- [31] RW, reset 0: 1: CHn_GSYNC enabled -/
  en : Bool := false
  /-- [8:0] RW, reset 0x050: divider, 16–400; the clock is 800 MHz / (2 × GDIV) -/
  gdiv : BitVec 9 := 0x50
  deriving DecidableEq, Repr

/-- PWM_PROT (R119). -/
structure PwmProt where
  /-- [25:16] RW, reset 0x3FF: CHn_OCIN threshold, 3 mV per step -/
  ocpThr : BitVec 10 := 0x3FF
  /-- [6:4] RW, reset 0b010: over-current filter, 10 ns per step -/
  ocpFilt : BitVec 3 := 2
  /-- [2:0] RW, reset 0b010: gate-fault filter, 10 ns per step -/
  gfltFilt : BitVec 3 := 2
  deriving DecidableEq, Repr

/-- PWM_TRIP (R120). -/
structure PwmTrip where
  /-- [10] W1C, reset 0: latched: Shank gate inhibit in RUN -/
  shank : Bool := false
  /-- [9] W1C, reset 0: latched: trip pair -/
  ring : Bool := false
  /-- [8] W1C, reset 0: latched: over-current -/
  ocp : Bool := false
  /-- [5:0] W1C, reset 0x00: latched: bit g for CHn_GFLTg -/
  gflt : BitVec 6 := 0
  deriving DecidableEq, Repr

/-- PWM_SHED_CFG (R122). -/
structure PwmShedCfg where
  /-- [27:16] RW, reset 0x014: shedding hysteresis, A -/
  hyst : BitVec 12 := 0x14
  /-- [12:8] RW, reset 0x01: least active phases, 1–24 -/
  nMin : BitVec 5 := 1
  /-- [6:4] RW, reset 0b011: I_filt time constant: 1, 2, 5, 10, 20, 50, 100 ms -/
  tau : BitVec 3 := 3
  /-- [2] RW, reset 0: LAST without grants: 0 TABLE; 1 MAP -/
  fallback : Bool := false
  /-- [1:0] RW, reset 0b00: OFF, TABLE, MAP, LAST -/
  mode : BitVec 2 := 0
  deriving DecidableEq, Repr

/-- PWM_SHED_TIME (R123). -/
structure PwmShedTime where
  /-- [25:16] RW, reset 0x00A: add dwell, ms, 0–1,000 -/
  dwellUp : BitVec 10 := 0xA
  /-- [15:0] RW, reset 0x01F4: shed dwell, ms, 1–10,000; 0 is taken as 1 -/
  dwellDn : BitVec 16 := 0x1F4
  deriving DecidableEq, Repr

/-- PWM_LOADSTEP (R124). -/
structure PwmLoadstep where
  /-- [27:16] RW, reset 0x000: dI/dt threshold, A/µs; 0 disables -/
  lsDidt : BitVec 12 := 0
  /-- [11:0] RW, reset 0x000: current-error threshold, A; 0 disables -/
  lsErr : BitVec 12 := 0
  deriving DecidableEq, Repr

/-- PWM_SHED_LIM (R125). -/
structure PwmShedLim where
  /-- [21:16] RW, reset 0x0A: MAP re-derivation interval, s, 1–60 -/
  replan : BitVec 6 := 0xA
  /-- [8:0] RW, reset 0x064: current limit per phase, A, 1–400 -/
  phImax : BitVec 9 := 0x64
  deriving DecidableEq, Repr

/-- PWM_IMB_CFG (R127). -/
structure PwmImbCfg where
  /-- [31] RW, reset 0: 1: retirement requested under R89 -/
  autoRet : Bool := false
  /-- [29:24] RW, reset 0x1E: retirement threshold, %, 1–50 -/
  retThr : BitVec 6 := 0x1E
  /-- [21:16] RW, reset 0x0A: flag threshold, %, 1–50 -/
  thr : BitVec 6 := 0xA
  /-- [11:8] RW, reset 0x3: consecutive windows, 1–15 -/
  cnt : BitVec 4 := 3
  /-- [7:0] RW, reset 0x0A: window, 10 ms per step, 1–255 -/
  win : BitVec 8 := 0xA
  deriving DecidableEq, Repr

/-- PWM_TEL_STATUS (R129). -/
structure PwmTelStatus where
  /-- [29:24] RO, reset 0x00: bit g: group g telemetry valid -/
  telOk : BitVec 6 := 0
  /-- [21:16] W1C, reset 0x00: sticky: bit g: group g lost validity -/
  telLost : BitVec 6 := 0
  /-- [15:0] RO, reset 0x0000: CRC failures since the Sole booted; saturates -/
  crcErr : BitVec 16 := 0
  deriving DecidableEq, Repr

/-- PWM_PH_DATA0 (R130). -/
structure PwmPhData0 where
  /-- [31:16] RO, reset 0x0000: signed ek of the last computed window, 0.1 % -/
  imb : BitVec 16 := 0
  /-- [15:0] RO, reset 0x0000: signed Ik, 10 mA -/
  iAvg : BitVec 16 := 0
  deriving DecidableEq, Repr

/-- PWM_PH_DATA1 (R130). -/
structure PwmPhData1 where
  /-- [31] RO, reset 0: 1: telemetry valid -/
  telValid : Bool := false
  /-- [30] RO, reset 0: newest frame's DRV_UV -/
  drvUv : Bool := false
  /-- [29] RO, reset 0: newest frame's DRV_OT -/
  drvOt : Bool := false
  /-- [28:26] RO, reset 0b000: 0 not configured; 1 shed; 2 fading; 3 adding; 4 active; 5 retired -/
  pstate : BitVec 3 := 0
  /-- [15:0] RO, reset 0x0000: signed switch temperature, 0.1 °C -/
  temp : BitVec 16 := 0
  deriving DecidableEq, Repr

/-- PWM_SHED_VIEW (R131). -/
structure PwmShedView where
  /-- [28:24] RW, reset 0x01: phase count selected, 1–24 -/
  n : BitVec 5 := 1
  /-- [12] RO, reset 0: 0: THR from the table; 1: derived from the map -/
  src : Bool := false
  /-- [11:0] RO, reset 0x000: THR_N in use, A -/
  thr : BitVec 12 := 0
  deriving DecidableEq, Repr

/-- PWM_SHED_TBL0–11 (R126). -/
structure PwmShedTbl where
  /-- [27:16] RW, reset 0x000: THR_(2j+2), A -/
  thrHi : BitVec 12 := 0
  /-- [11:0] RW, reset 0x000: THR_(2j+1), A; unused when j = 0 -/
  thrLo : BitVec 12 := 0
  deriving DecidableEq, Repr

/-- Registers of block PwmRegs. -/
structure PwmRegs where
  /-- PWM_CTRL, offset 0x100 -/
  ctrl : PwmCtrl := {}
  /-- PWM_STATUS, offset 0x104 -/
  status : PwmStatus := {}
  /-- PWM_PERIOD (R110) [18:0] PERIOD, RW, reset 0x2_7100: carrier period in 156.25 ps taps, 32,000–320,000 -/
  period : BitVec 19 := 0x27100
  /-- PWM_DEADTIME, offset 0x10C -/
  deadtime : PwmDeadtime := {}
  /-- PWM_DUTY_LIM, offset 0x110 -/
  dutyLim : PwmDutyLim := {}
  /-- PWM_MINPULSE (R113) [11:0] MIN_PULSE, RW, reset 0x280: shortest pulse issued, taps, 0–3,200 -/
  minpulse : BitVec 12 := 0x280
  /-- PWM_DUTY (R114) [15:0] DUTY, RO, reset 0x0000: newest common duty written by the loop engine -/
  duty : BitVec 16 := 0
  /-- PWM_PHASE_CFG (R115) [23:0] CFG, RW, reset 0x00_0000: 1: phase fitted and configured -/
  phaseCfg : BitVec 24 := 0
  /-- PWM_RETIRE (R115) [23:0] RET, RW, reset NV: 1: phase retired or retirement requested -/
  retire : BitVec 24 := 0
  /-- PWM_ACTIVE (R115) [23:0] ACT, RO, reset 0x00_0000: 1: phase active -/
  active : BitVec 24 := 0
  /-- PWM_OFFSET, offset 0x128 -/
  offset : PwmOffset := {}
  /-- PWM_SYNC, offset 0x12C -/
  sync : PwmSync := {}
  /-- PWM_GSYNC, offset 0x130 -/
  gsync : PwmGsync := {}
  /-- PWM_PROT, offset 0x134 -/
  prot : PwmProt := {}
  /-- PWM_TRIP, offset 0x138 -/
  trip : PwmTrip := {}
  /-- PWM_TRIP_CNT (R121) [15:0] CNT, RO, reset 0x0000: trips since the Sole booted; saturates at 0xFFFF -/
  tripCnt : BitVec 16 := 0
  /-- PWM_SHED_CFG, offset 0x140 -/
  shedCfg : PwmShedCfg := {}
  /-- PWM_SHED_TIME, offset 0x144 -/
  shedTime : PwmShedTime := {}
  /-- PWM_LOADSTEP, offset 0x148 -/
  loadstep : PwmLoadstep := {}
  /-- PWM_SHED_LIM, offset 0x14C -/
  shedLim : PwmShedLim := {}
  /-- PWM_IMB_CFG, offset 0x180 -/
  imbCfg : PwmImbCfg := {}
  /-- PWM_IMB_FLAG (R128) [23:0] FLAG, W1C, reset 0x00_0000: bit k: phase Pk exceeded THR -/
  imbFlag : BitVec 24 := 0
  /-- PWM_TEL_STATUS, offset 0x188 -/
  telStatus : PwmTelStatus := {}
  /-- PWM_PH_SEL (R130) [4:0] PH, RW, reset 0x00: phase number, 0–23 -/
  phSel : BitVec 5 := 0
  /-- PWM_PH_DATA0, offset 0x190 -/
  phData0 : PwmPhData0 := {}
  /-- PWM_PH_DATA1, offset 0x194 -/
  phData1 : PwmPhData1 := {}
  /-- PWM_SHED_VIEW, offset 0x198 -/
  shedView : PwmShedView := {}
  /-- PWM_SHED_TBL0–11, offset 0x150 -/
  shedTbl : Vector PwmShedTbl 12 := Vector.replicate 12 {}
  deriving DecidableEq, Repr

/-- LOOP_CTRL (R180). -/
structure LoopCtrl where
  /-- [8] RW, reset 0: 0 SESSION; 1 HOST; writable in IDLE only -/
  spSrc : Bool := false
  /-- [5] RW, reset 1: 1: automatic return from fallback -/
  fbAuto : Bool := true
  /-- [4] RW, reset 1: 1: fallback allowed; 0: STOPR instead -/
  fbEn : Bool := true
  deriving DecidableEq, Repr

/-- LOOP_STATUS (R181). -/
structure LoopStatus where
  /-- [31] W1C, reset 0: sticky: a write was ignored -/
  wrIgn : Bool := false
  /-- [30] W1C, reset 0: sticky: a start was refused -/
  startRef : Bool := false
  /-- [29] W1C, reset 0: sticky: STOPR ended by timeout -/
  stopTmo : Bool := false
  /-- [28] W1C, reset 0: sticky: a bank check of R163 failed -/
  bankErr : Bool := false
  /-- [27] W1C, reset 0: sticky: a section saturated -/
  sat : Bool := false
  /-- [26] RO, reset 0: 1: fallback ended by FB_TMAX or a second suspect -/
  fbLatch : Bool := false
  /-- [25] RO, reset 0: 1: in fallback -/
  fb : Bool := false
  /-- [24] RO, reset 0: 1: temperature shutdown latched -/
  otSd : Bool := false
  /-- [23] RO, reset 0: 1: T_MAX at or above T_WARN -/
  otWarn : Bool := false
  /-- [22] RO, reset 0: 1: inner freeze in the newest sample -/
  awIn : Bool := false
  /-- [21] RO, reset 0: 1: outer freeze in the newest sample -/
  awOut : Bool := false
  /-- [20] RO, reset 0: 1: I_ref or V_ref not at its goal -/
  ramping : Bool := false
  /-- [19] RO, reset 0: 1: a swap is pending -/
  swapPend : Bool := false
  /-- [18] RO, reset NV: active inner bank: 0 A; 1 B -/
  actIn : Bool := false
  /-- [17] RO, reset NV: active outer bank: 0 A; 1 B -/
  actOut : Bool := false
  /-- [3:0] RO, reset 0x0: 0 IDLE; 1 ONDLY; 2 CV; 3 CC; 4 STOPR; 5 OFFDLY; 6 FAULT -/
  state : LoopState := .idle
  deriving DecidableEq, Repr

/-- LOOP_TICK (R182). -/
structure LoopTick where
  /-- [22:16] RW, reset 0x0A: outer divisor, 1–64 -/
  m : BitVec 7 := 0xA
  /-- [10:0] RW, reset 0x190: tick divisor of 400 MHz, 200–1,600 -/
  div : BitVec 11 := 0x190
  deriving DecidableEq, Repr

/-- LOOP_VNOM (R183). -/
structure LoopVnom where
  /-- [31:16] RW, reset 0x1B58: least V_dc used in R141, 0.1 V -/
  vdcFloor : BitVec 16 := 0x1B58
  /-- [15:0] RW, reset 0x36B0: nominal DC-link voltage, 0.1 V -/
  vNom : BitVec 16 := 0x36B0
  deriving DecidableEq, Repr

/-- LOOP_FF (R184). -/
structure LoopFf where
  /-- [31] RW, reset 1: 1: DC-link feed-forward -/
  dclEn : Bool := true
  /-- [30] RW, reset 0: 1: cable feed-forward -/
  cabEn : Bool := false
  /-- [29] RW, reset 0: 0: R_CAB; 1: cable cooling estimate -/
  rSrc : Bool := false
  /-- [28:16] RW, reset 0x0000: cable inductance, nH, 0–8,191 -/
  lCab : BitVec 13 := 0
  /-- [15:0] RW, reset 0x0000: cable resistance, µΩ -/
  rCab : BitVec 16 := 0
  deriving DecidableEq, Repr

/-- LOOP_ILIM_HOST (R185). -/
structure LoopIlimHost where
  /-- [31:16] CMD, reset NV: export limit, 0.1 A; 0 when never set -/
  ilimExp : BitVec 16 := 0
  /-- [15:0] CMD, reset NV: import limit, 0.1 A; 0 when never set -/
  ilimImp : BitVec 16 := 0
  deriving DecidableEq, Repr

/-- LOOP_VREF_LIM (R185). -/
structure LoopVrefLim where
  /-- [31:16] CMD, reset NV: 0.1 V; 0 when never set -/
  vrefMax : BitVec 16 := 0
  /-- [15:0] CMD, reset NV: 0.1 V -/
  vrefMin : BitVec 16 := 0
  deriving DecidableEq, Repr

/-- LOOP_RAMP_I (R186). -/
structure LoopRampI where
  /-- [31:16] RW, reset 0x03E8: magnitude-reducing slope, 0.1 A/ms; 0 taken as 1 -/
  dn : BitVec 16 := 0x3E8
  /-- [15:0] RW, reset 0x03E8: magnitude-increasing slope, 0.1 A/ms; 0 taken as 1 -/
  up : BitVec 16 := 0x3E8
  deriving DecidableEq, Repr

/-- LOOP_RAMP_X (R186). -/
structure LoopRampX where
  /-- [31:16] RW, reset 0x1388: stop slope, 0.1 A/ms; 0 taken as 1 -/
  stop : BitVec 16 := 0x1388
  /-- [15:0] RW, reset 0x01F4: CV slope, 0.1 V/ms; 0 taken as 1 -/
  v : BitVec 16 := 0x1F4
  deriving DecidableEq, Repr

/-- LOOP_DELAY (R186). -/
structure LoopDelay where
  /-- [31:16] RW, reset 0x0032: off-delay, ms, 0–1,000 -/
  offDly : BitVec 16 := 0x32
  /-- [15:0] RW, reset 0x000A: on-delay, ms, 0–1,000 -/
  onDly : BitVec 16 := 0xA
  deriving DecidableEq, Repr

/-- LOOP_STOPCFG (R186). -/
structure LoopStopcfg where
  /-- [31:16] RW, reset 0x03E8: STOPR limit, ms, 10–10,000 -/
  stopTmo : BitVec 16 := 0x3E8
  /-- [15:0] RW, reset 0x0032: zero-current band, 0.1 A -/
  iZero : BitVec 16 := 0x32
  deriving DecidableEq, Repr

/-- LOOP_SP (R187). -/
structure LoopSp where
  /-- [31:16] RO, reset 0x0000: I_ref in force, signed 0.1 A -/
  iSp : BitVec 16 := 0
  /-- [15:0] RO, reset 0x0000: V_ref in force, 0.1 V -/
  vSp : BitVec 16 := 0
  deriving DecidableEq, Repr

/-- LOOP_TARGET (R187). -/
structure LoopTarget where
  /-- [31:16] RO, reset 0x0000: I_tgt, signed 0.1 A -/
  iTgt : BitVec 16 := 0
  /-- [15:0] RO, reset 0x0000: V_tgt, 0.1 V -/
  vTgt : BitVec 16 := 0
  deriving DecidableEq, Repr

/-- LOOP_ILIM_VIEW (R187). -/
structure LoopIlimView where
  /-- [19:16] RO, reset 0x0: binding source code of R149 -/
  src : BitVec 4 := 0
  /-- [15:0] RO, reset 0x0000: limit in the present direction, 0.1 A -/
  ilim : BitVec 16 := 0
  deriving DecidableEq, Repr

/-- LOOP_BANK_CTL (R188). -/
structure LoopBankCtl where
  /-- [8] WO, reset 0: 1: seal -/
  sealF : Bool := false
  /-- [4] RW, reset 0: 0 inner; 1 outer -/
  loop : Bool := false
  /-- [1:0] RW, reset 0b00: 0 A; 1 B; 2 F; 3 ignored -/
  bank : BitVec 2 := 0
  deriving DecidableEq, Repr

/-- LOOP_BANK_STATUS (R188). -/
structure LoopBankStatus where
  /-- [8] W1C, reset 0: sticky: a seal failed -/
  sealFail : Bool := false
  /-- [6:4] RO, reset NV: outer banks OK: bit 4 A; bit 5 B; bit 6 F -/
  outOk : BitVec 3 := 0
  /-- [2:0] RO, reset NV: inner banks OK: bit 0 A; bit 1 B; bit 2 F -/
  inOk : BitVec 3 := 0
  deriving DecidableEq, Repr

/-- LOOP_CSEL (R189). -/
structure LoopCsel where
  /-- [12] RW, reset 0: 0 inner; 1 outer -/
  loop : Bool := false
  /-- [9:8] RW, reset 0b00: 0 A; 1 B; 2 F -/
  bank : BitVec 2 := 0
  /-- [5:0] RW, reset 0x00: word, 0–40 -/
  word : BitVec 6 := 0
  deriving DecidableEq, Repr

/-- LOOP_PM_MODEL (R190). -/
structure LoopPmModel where
  /-- [31:16] RW, reset 0x03E8: per-phase inductance, 0.1 µH -/
  lPh : BitVec 16 := 0x3E8
  /-- [15:0] RW, reset 0x0BB8: output capacitance, µF -/
  cOut : BitVec 16 := 0xBB8
  deriving DecidableEq, Repr

/-- LOOP_PM_MODEL2 (R190). -/
structure LoopPmModel2 where
  /-- [31:16] RW, reset 0x0064: filter resistance, 10 µΩ -/
  rEq : BitVec 16 := 0x64
  /-- [4:0] RW, reset 0x04: observer gain × 16, 1–16 -/
  g : BitVec 5 := 4
  deriving DecidableEq, Repr

/-- LOOP_PM_TOL (R190). -/
structure LoopPmTol where
  /-- [31:24] RW, reset 0x04: failures of 16, 1–16 -/
  failn : BitVec 8 := 4
  /-- [23:16] RW, reset 0x0A: PT3 tolerance, V -/
  ctol : BitVec 8 := 0xA
  /-- [15:8] RW, reset 0x1E: PT2 tolerance, A -/
  itol : BitVec 8 := 0x1E
  /-- [7:0] RW, reset 0x14: PT1 tolerance, V -/
  vtol : BitVec 8 := 0x14
  deriving DecidableEq, Repr

/-- LOOP_PM_VDC (R190). -/
structure LoopPmVdc where
  /-- [31:16] RW, reset 0x3E80: PT4 upper DC-link bound, 0.1 V -/
  vdcMax : BitVec 16 := 0x3E80
  /-- [15:0] RW, reset 0x0FA0: PT4 lower DC-link bound, 0.1 V -/
  vdcMin : BitVec 16 := 0xFA0
  deriving DecidableEq, Repr

/-- LOOP_PM_STATUS (R191). -/
structure LoopPmStatus where
  /-- [20:16] W1C, reset 0x00: sticky: bit n−1 for PTn tripped -/
  seen : BitVec 5 := 0
  /-- [12:8] RO, reset 0x00: bit n−1: PTn tripped now -/
  tripped : BitVec 5 := 0
  /-- [2:0] RO, reset 0b000: suspect code of R166; 0 none -/
  suspect : BitVec 3 := 0
  deriving DecidableEq, Repr

/-- LOOP_FB_CFG (R192). -/
structure LoopFbCfg where
  /-- [31:24] RW, reset 0x28: fallback limit, % of N_en × PH_IMAX, 1–40; larger taken as 40 -/
  fbIlim : BitVec 8 := 0x28
  /-- [23:16] RW, reset 0x10: duty slew per inner tick, 16 duty LSB per step -/
  fbDslew : BitVec 8 := 0x10
  /-- [8:0] RW, reset 0x12C: fallback limit, s, 1–300; larger taken as 300 -/
  fbTmax : BitVec 9 := 0x12C
  deriving DecidableEq, Repr

/-- LOOP_OT_CFG1 (R193). -/
structure LoopOtCfg1 where
  /-- [31:16] RW, reset 0x044C: shutdown, 110.0 °C -/
  tSd : BitVec 16 := 0x44C
  /-- [15:0] RW, reset 0x0384: warning, 90.0 °C -/
  tWarn : BitVec 16 := 0x384
  deriving DecidableEq, Repr

/-- LOOP_OT_CFG2 (R193). -/
structure LoopOtCfg2 where
  /-- [31:16] RW, reset 0x041A: derating end, 105.0 °C -/
  tDr1 : BitVec 16 := 0x41A
  /-- [15:0] RW, reset 0x03B6: derating start, 95.0 °C -/
  tDr0 : BitVec 16 := 0x3B6
  deriving DecidableEq, Repr

/-- LOOP_OT_CFG3 (R193). -/
structure LoopOtCfg3 where
  /-- [31:24] RW, reset 0x32: least factor, %, 0–100 -/
  drMin : BitVec 8 := 0x32
  /-- [23:16] RW, reset 0x64: restart hysteresis, 0.1 °C -/
  sdHyst : BitVec 8 := 0x64
  /-- [8] RW, reset 1: 1: include gate-driver temperatures -/
  telEn : Bool := true
  /-- [7:0] RW, reset 0xFF: bit n: CHn_NTCn enabled -/
  ntcEn : BitVec 8 := 0xFF
  deriving DecidableEq, Repr

/-- LOOP_NTC_CFG (R193). -/
structure LoopNtcCfg where
  /-- [31:16] RW, reset 0x0D6B: B constant, K -/
  ntcB : BitVec 16 := 0xD6B
  /-- [15:0] RW, reset 0x03E8: resistance at 25 °C, 10 Ω -/
  ntcRnom : BitVec 16 := 0x3E8
  deriving DecidableEq, Repr

/-- LOOP_OT_STATUS (R194). -/
structure LoopOtStatus where
  /-- [31:24] RO, reset 0x00: bit n: NTC n faulty -/
  ntcFlt : BitVec 8 := 0
  /-- [23:16] RO, reset 0x64: derating factor in force, % -/
  f : BitVec 8 := 0x64
  /-- [15:0] RO, reset 0x8000: T_MAX, 0.1 °C; 0x8000 when no valid reading -/
  tMax : BitVec 16 := 0x8000
  deriving DecidableEq, Repr

/-- LOOP_AUX_STATUS (R195). -/
structure LoopAuxStatus where
  /-- [19:16] RO, reset 0x0: bit n: AUXn enabled by the cable cooling controller -/
  en : BitVec 4 := 0
  /-- [15:0] RO, reset 0x0000: auxiliary computations since the Sole booted, modulo 2^16 -/
  runs : BitVec 16 := 0
  deriving DecidableEq, Repr

/-- LOOP_NTC01–67 (R194). -/
structure LoopNtc0167 where
  /-- [31:16] RO, reset 0x8000: odd-numbered NTC -/
  tHi : BitVec 16 := 0x8000
  /-- [15:0] RO, reset 0x8000: even-numbered NTC -/
  tLo : BitVec 16 := 0x8000
  deriving DecidableEq, Repr

/-- Registers of block LoopRegs. -/
structure LoopRegs where
  /-- LOOP_CTRL, offset 0x200 -/
  ctrl : LoopCtrl := {}
  /-- LOOP_STATUS, offset 0x204 -/
  status : LoopStatus := {}
  /-- LOOP_TICK, offset 0x208 -/
  tick : LoopTick := {}
  /-- LOOP_VNOM, offset 0x20C -/
  vnom : LoopVnom := {}
  /-- LOOP_FF, offset 0x210 -/
  ff : LoopFf := {}
  /-- LOOP_ILIM_HOST, offset 0x214 -/
  ilimHost : LoopIlimHost := {}
  /-- LOOP_VREF_LIM, offset 0x218 -/
  vrefLim : LoopVrefLim := {}
  /-- LOOP_RAMP_I, offset 0x21C -/
  rampI : LoopRampI := {}
  /-- LOOP_RAMP_X, offset 0x220 -/
  rampX : LoopRampX := {}
  /-- LOOP_DELAY, offset 0x224 -/
  delay : LoopDelay := {}
  /-- LOOP_STOPCFG, offset 0x228 -/
  stopcfg : LoopStopcfg := {}
  /-- LOOP_SP, offset 0x22C -/
  sp : LoopSp := {}
  /-- LOOP_TARGET, offset 0x230 -/
  target : LoopTarget := {}
  /-- LOOP_ILIM_VIEW, offset 0x234 -/
  ilimView : LoopIlimView := {}
  /-- LOOP_BANK_CTL, offset 0x238 -/
  bankCtl : LoopBankCtl := {}
  /-- LOOP_BANK_CRC (R188) [31:0] CRC, RW, reset 0x0000_0000: expected CRC-32C -/
  bankCrc : BitVec 32 := 0
  /-- LOOP_BANK_STATUS, offset 0x240 -/
  bankStatus : LoopBankStatus := {}
  /-- LOOP_CSEL, offset 0x244 -/
  csel : LoopCsel := {}
  /-- LOOP_CDATA (R189) [31:0] DATA, RW, reset NV: selected word -/
  cdata : BitVec 32 := 0
  /-- LOOP_PM_MODEL, offset 0x24C -/
  pmModel : LoopPmModel := {}
  /-- LOOP_PM_MODEL2, offset 0x250 -/
  pmModel2 : LoopPmModel2 := {}
  /-- LOOP_PM_TOL, offset 0x254 -/
  pmTol : LoopPmTol := {}
  /-- LOOP_PM_VDC, offset 0x258 -/
  pmVdc : LoopPmVdc := {}
  /-- LOOP_PM_STATUS, offset 0x25C -/
  pmStatus : LoopPmStatus := {}
  /-- LOOP_FB_CFG, offset 0x260 -/
  fbCfg : LoopFbCfg := {}
  /-- LOOP_OT_CFG1, offset 0x264 -/
  otCfg1 : LoopOtCfg1 := {}
  /-- LOOP_OT_CFG2, offset 0x268 -/
  otCfg2 : LoopOtCfg2 := {}
  /-- LOOP_OT_CFG3, offset 0x26C -/
  otCfg3 : LoopOtCfg3 := {}
  /-- LOOP_NTC_CFG, offset 0x270 -/
  ntcCfg : LoopNtcCfg := {}
  /-- LOOP_OT_STATUS, offset 0x274 -/
  otStatus : LoopOtStatus := {}
  /-- LOOP_AUX_STATUS, offset 0x288 -/
  auxStatus : LoopAuxStatus := {}
  /-- LOOP_NTC01–67, offset 0x278 -/
  ntc : Vector LoopNtc0167 4 := Vector.replicate 4 {}
  deriving DecidableEq, Repr

/-- MET_CTRL (R290). -/
structure MetCtrl where
  /-- [2] RW, reset 1: CHn_MCLK1 enabled -/
  mclk1En : Bool := true
  /-- [1] RW, reset 1: CHn_MCLK0 enabled -/
  mclk0En : Bool := true
  deriving DecidableEq, Repr

/-- MET_STATUS (R290). -/
structure MetStatus where
  /-- [31] W1C, reset 0: sticky: modulator clocks stopped -/
  notMetered : Bool := false
  /-- [30] RO, reset 0: 1: legal samples invalid now -/
  legalGap : Bool := false
  /-- [29] RO, reset 0: R259 -/
  seqErr : Bool := false
  /-- [28] RO, reset 0: R260 -/
  neutLost : Bool := false
  /-- [27] RO, reset 0: R260 -/
  ctResid : Bool := false
  /-- [26:24] RO, reset 0b000: bit p: phase a, b, c -/
  phLoss : BitVec 3 := 0
  /-- [23] RO, reset 0: 1: cycle-aligned windows, frequency valid -/
  freqValid : Bool := false
  /-- [22:21] RO, reset 0b00: 0 unknown; 1 ABC; 2 ACB -/
  seq : BitVec 2 := 0
  /-- [20:19] RO, reset 0b00: present band -/
  vband : BitVec 2 := 0
  /-- [11:0] RO, reset 0x000: bit k: MDATk valid -/
  streamOk : BitVec 12 := 0
  deriving DecidableEq, Repr

/-- MET_STREAM_FLT (R290). -/
structure MetStreamFlt where
  /-- [27:16] W1C, reset 0x000: sticky: bit k at full scale -/
  fsl : BitVec 12 := 0
  /-- [11:0] W1C, reset 0x000: sticky: bit k faulted -/
  flt : BitVec 12 := 0
  deriving DecidableEq, Repr

/-- MET_CAL_CTL (R291). -/
structure MetCalCtl where
  /-- [1] W1C, reset 0: sticky: R255 applied -/
  lockIgn : Bool := false
  /-- [0] WO, reset 0: 1: put the stage in force -/
  apply : Bool := false
  deriving DecidableEq, Repr

/-- MET_RMCS (R292). -/
structure MetRmcs where
  /-- [31:16] RWL, reset NV: starting current, 10 mA -/
  iSt : BitVec 16 := 0
  /-- [15:0] RWL, reset NV: cable-loss resistance, 0.1 µΩ -/
  rMcs : BitVec 16 := 0
  deriving DecidableEq, Repr

/-- MET_AC_CFG (R293). -/
structure MetAcCfg where
  /-- [31:16] RW, reset 0x08FC: nominal phase voltage, 0.1 V -/
  vNomAc : BitVec 16 := 0x8FC
  /-- [11:8] RW, reset 0xA: cycles per window, 1–15; 0 taken as 10 -/
  ncyc : BitVec 4 := 0xA
  /-- [2] RW, reset 0: 0 ABC; 1 ACB -/
  seqExp : Bool := false
  /-- [1] RW, reset 0: 0 50 Hz; 1 60 Hz -/
  nomF : Bool := false
  /-- [0] RW, reset 0: 0 3P4W; 1 3P3W -/
  wiring : Bool := false
  deriving DecidableEq, Repr

/-- MET_AC_CFG2 (R293). -/
structure MetAcCfg2 where
  /-- [31:24] RW, reset 0x32: 0.1 % of V_NOM_AC -/
  v0Thr : BitVec 8 := 0x32
  /-- [23:12] RW, reset 0x014: residual current, A -/
  resThr : BitVec 12 := 0x14
  /-- [11:0] RW, reset 0x00A: 0.1 A -/
  inMin : BitVec 12 := 0xA
  deriving DecidableEq, Repr

/-- MET_Q_DATA1 (R294). -/
structure MetQData1 where
  /-- [31] RO, reset 0: 1: result valid -/
  valid : Bool := false
  /-- [15:0] RO, reset 0x0000: window or millisecond count, modulo 2^16 -/
  seq : BitVec 16 := 0
  deriving DecidableEq, Repr

/-- MET_IVL_WRAP (R295). -/
structure MetIvlWrap where
  /-- [31:24] RO, reset 0x00: wraps of ACE -/
  wAce : BitVec 8 := 0
  /-- [23:16] RO, reset 0x00: wraps of ACI -/
  wAci : BitVec 8 := 0
  /-- [15:8] RO, reset 0x00: wraps of DCE -/
  wDce : BitVec 8 := 0
  /-- [7:0] RO, reset 0x00: wraps of DCI -/
  wDci : BitVec 8 := 0
  deriving DecidableEq, Repr

/-- MET_IVL_CTL (R295). -/
structure MetIvlCtl where
  /-- [8] WO, reset 0: 1: R272 -/
  reset : Bool := false
  /-- [3:0] RO, reset 0x0: bit 0 DCI, 1 DCE, 2 ACI, 3 ACE -/
  skip : BitVec 4 := 0
  deriving DecidableEq, Repr

/-- MET_EMAP_CFG (R296). -/
structure MetEmapCfg where
  /-- [31] RW, reset 1: map updates enabled -/
  en : Bool := true
  /-- [23:16] RW, reset 0x0A: band hysteresis, V -/
  vbHyst : BitVec 8 := 0xA
  /-- [15:0] RW, reset 0x003C: bin width per phase, 100 W -/
  pbin : BitVec 16 := 0x3C
  deriving DecidableEq, Repr

/-- MET_EMAP_VB (R296). -/
structure MetEmapVb where
  /-- [23:16] RW, reset 0x64: VB2/VB3 edge, 10 V -/
  edge3 : BitVec 8 := 0x64
  /-- [15:8] RW, reset 0x46: VB1/VB2 edge, 10 V -/
  edge2 : BitVec 8 := 0x46
  /-- [7:0] RW, reset 0x28: VB0/VB1 edge, 10 V -/
  edge1 : BitVec 8 := 0x28
  deriving DecidableEq, Repr

/-- MET_EMAP_SEL (R296). -/
structure MetEmapSel where
  /-- [9:8] RW, reset 0b00: band -/
  band : BitVec 2 := 0
  /-- [4:0] RW, reset 0x00: bin, 0–31 -/
  bin : BitVec 5 := 0
  deriving DecidableEq, Repr

/-- MET_EMAP_DATA (R296). -/
structure MetEmapData where
  /-- [31] RO, reset 0: COUNT ≥ 8 -/
  valid : Bool := false
  /-- [23:16] RO, reset 0x00: updates, saturating -/
  count : BitVec 8 := 0
  /-- [15:0] RO, reset 0x0000: value/65,536 -/
  eta : BitVec 16 := 0
  deriving DecidableEq, Repr

/-- MET_EFF (R296). -/
structure MetEff where
  /-- [31] RO, reset 0: R279 -/
  valid : Bool := false
  /-- [15:0] RO, reset 0x0000: value/65,536 -/
  eta1s : BitVec 16 := 0
  deriving DecidableEq, Repr

/-- MET_CAP_CFG (R297). -/
structure MetCapCfg where
  /-- [27:16] RW, reset 0xFFF: bit k: capture MDATk -/
  mask : BitVec 12 := 0xFFF
  /-- [15:8] RW, reset 0x1E: pre-trigger length, unit by mode, 0–60 -/
  pre : BitVec 8 := 0x1E
  /-- [7] RW, reset 0: 0 metrology path; 1 fast path -/
  mode : Bool := false
  /-- [4:0] RW, reset 0x07: trigger enables, R283 -/
  trig : BitVec 5 := 7
  deriving DecidableEq, Repr

/-- MET_CAP_THR (R297). -/
structure MetCapThr where
  /-- [31] RW, reset 0: 0 rising above; 1 falling below -/
  dir : Bool := false
  /-- [27:24] RW, reset 0x0: stream compared -/
  stream : BitVec 4 := 0
  /-- [15:0] RW, reset 0x0000: signed fraction of FS, 2^−15 -/
  level : BitVec 16 := 0
  deriving DecidableEq, Repr

/-- MET_CAP_STATUS (R297). -/
structure MetCapStatus where
  /-- [31:29] RO, reset 0b000: 0 IDLE; 1 ARMED; 2 POST; 3 DONE; 4 ERROR -/
  state : CapState := .idle
  /-- [28:24] RO, reset 0x00: trigger bit that fired -/
  cause : BitVec 5 := 0
  /-- [23:16] RO, reset 0x00: triggers ignored since arming; saturates -/
  miss : BitVec 8 := 0
  deriving DecidableEq, Repr

/-- Registers of block MetRegs. -/
structure MetRegs where
  /-- MET_CTRL, offset 0x400 -/
  ctrl : MetCtrl := {}
  /-- MET_STATUS, offset 0x404 -/
  status : MetStatus := {}
  /-- MET_STREAM_FLT, offset 0x408 -/
  streamFlt : MetStreamFlt := {}
  /-- MET_CAL_SEL (R291) [3:0] STREAM, RW, reset 0x0: stream 0–11; 12–15 ignored -/
  calSel : BitVec 4 := 0
  /-- MET_CAL_CTL, offset 0x41C -/
  calCtl : MetCalCtl := {}
  /-- MET_LCAL_VGAIN (R292) [31:0] LGAIN_V, RWL, reset NV: mV per unit raw value, MDAT11 -/
  lcalVgain : BitVec 32 := 0
  /-- MET_LCAL_VOFS (R292) [31:0] LOFS_V, RWL, reset NV: signed, mV -/
  lcalVofs : BitVec 32 := 0
  /-- MET_LCAL_IGAIN (R292) [31:0] LGAIN_I, RWL, reset NV: mA per unit raw value, MDAT8 -/
  lcalIgain : BitVec 32 := 0
  /-- MET_LCAL_IOFS (R292) [31:0] LOFS_I, RWL, reset NV: signed, mA -/
  lcalIofs : BitVec 32 := 0
  /-- MET_RMCS, offset 0x430 -/
  rmcs : MetRmcs := {}
  /-- MET_AC_CFG, offset 0x434 -/
  acCfg : MetAcCfg := {}
  /-- MET_AC_CFG2, offset 0x438 -/
  acCfg2 : MetAcCfg2 := {}
  /-- MET_Q_SEL (R294) [5:0] CODE, RW, reset 0x00: result code -/
  qSel : BitVec 6 := 0
  /-- MET_Q_DATA0 (R294) [31:0] VALUE, RO, reset 0x0000_0000: in the format of the code -/
  qData0 : BitVec 32 := 0
  /-- MET_Q_DATA1, offset 0x448 -/
  qData1 : MetQData1 := {}
  /-- MET_IVL_WRAP, offset 0x470 -/
  ivlWrap : MetIvlWrap := {}
  /-- MET_IVL_CTL, offset 0x474 -/
  ivlCtl : MetIvlCtl := {}
  /-- MET_GAP (R295) [31:0] MS, RO, reset 0x0000_0000: milliseconds containing an invalid legal sample since the Sole booted; saturates -/
  gap : BitVec 32 := 0
  /-- MET_EMAP_CFG, offset 0x480 -/
  emapCfg : MetEmapCfg := {}
  /-- MET_EMAP_VB, offset 0x484 -/
  emapVb : MetEmapVb := {}
  /-- MET_EMAP_SEL, offset 0x488 -/
  emapSel : MetEmapSel := {}
  /-- MET_EMAP_DATA, offset 0x48C -/
  emapData : MetEmapData := {}
  /-- MET_EFF, offset 0x490 -/
  eff : MetEff := {}
  /-- MET_CAP_CFG, offset 0x4A0 -/
  capCfg : MetCapCfg := {}
  /-- MET_CAP_THR, offset 0x4A4 -/
  capThr : MetCapThr := {}
  /-- MET_CAP_STATUS, offset 0x4A8 -/
  capStatus : MetCapStatus := {}
  /-- MET_E_IMP_LO, MET_E_IMP_HI (R295) [31:0] E, RO, reset NV: billed import, mWh -/
  eImpW : Vector (BitVec 32) 2 := Vector.replicate 2 0
  /-- MET_E_EXP_LO, MET_E_EXP_HI (R295) [31:0] E, RO, reset NV: billed export, mWh -/
  eExpW : Vector (BitVec 32) 2 := Vector.replicate 2 0
  /-- MET_IVL_DCI, DCE, ACI, ACE (R295) [31:0] WH, RO, reset 0x0000_0000: interval energy, Wh -/
  ivl : Vector (BitVec 32) 4 := Vector.replicate 4 0
  /-- MET_CAP_T_LO, MET_CAP_T_HI (R297) [31:0] T, RO, reset 0x0000_0000: site time of the trigger, ns -/
  capT : Vector (BitVec 32) 2 := Vector.replicate 2 0
  deriving DecidableEq, Repr

/-- MET_CAL_FS (R291). -/
structure MetCalFs where
  /-- [31:24] RW, reset 0x00: signed, −127 to +127 clocks -/
  phc : BitVec 8 := 0
  /-- [21:16] RW, reset 0x00: 1.25 ns steps, 0–39 -/
  skew : BitVec 6 := 0
  /-- [15:0] RW, reset per stream: full scale, 0.1 V or 0.1 A -/
  fs : BitVec 16 := 0
  deriving DecidableEq, Repr

/-- Registers of block MetCalRegs. -/
structure MetCalRegs where
  /-- MET_CAL_GAIN (R291) [31:0] GAIN, RW, reset 0x4000_0000: value/2^30 -/
  gain : BitVec 32 := 0x40000000
  /-- MET_CAL_OFS (R291) [31:0] OFS, RW, reset 0x0000_0000: signed, mV or mA -/
  ofs : BitVec 32 := 0
  /-- MET_CAL_FS, offset 0x418 -/
  fs : MetCalFs := {}
  deriving DecidableEq, Repr

/-- LEDG_STATUS (R326). -/
structure LedgStatus where
  /-- [31] RO, reset NV: 1: SEALED -/
  sealed : Bool := false
  /-- [30] RO, reset NV: legal warning in force -/
  legalWarn : Bool := false
  /-- [29] RO, reset 0: debug flag on; records are TEST -/
  test : Bool := false
  /-- [28] RO, reset 0: a session record is open -/
  openF : Bool := false
  /-- [27] RO, reset 0: FREE ≤ 16 -/
  full : Bool := false
  /-- [26] RO, reset 0: FREE ≤ LOW_THR -/
  low : Bool := false
  /-- [25] W1C, reset 0: sticky: a record write was retried -/
  recErr : Bool := false
  /-- [24] W1C, reset 0: sticky: a signing was aborted -/
  abort : Bool := false
  /-- [15:0] RO, reset NV: seal generation -/
  sealGen : BitVec 16 := 0
  deriving DecidableEq, Repr

/-- LEDG_FREE (R326). -/
structure LedgFree where
  /-- [31:16] RO, reset NV: EVENT records not written since the last record -/
  lostEvt : BitVec 16 := 0
  /-- [14:0] RO, reset NV: free slots, R314 -/
  free : BitVec 15 := 0x4000
  deriving DecidableEq, Repr

/-- LEDG_RMEAS (R326). -/
structure LedgRmeas where
  /-- [31:16] RO, reset 0x0000: signed, 0.1 %, R312; 0 when no valid estimate is held -/
  drift : BitVec 16 := 0
  /-- [15:0] RO, reset 0x0000: 0.1 µΩ; 0 when no valid estimate -/
  rMeas : BitVec 16 := 0
  deriving DecidableEq, Repr

/-- LEDG_PFAIL (R326). -/
structure LedgPfail where
  /-- [31] RO, reset NV: the last power-fail commit completed -/
  lastOk : Bool := false
  /-- [23:16] RO, reset NV: aborted signings, saturating -/
  abortCnt : BitVec 8 := 0
  /-- [15:0] RO, reset NV: power-fail commits, saturating -/
  pfailCnt : BitVec 16 := 0
  deriving DecidableEq, Repr

/-- Registers of block LedgRegs. -/
structure LedgRegs where
  /-- LEDG_STATUS, offset 0x500 -/
  status : LedgStatus := {}
  /-- LEDG_SEQ_NEXT (R326) [31:0] SEQ, RO, reset NV: SEQ of the next record -/
  seqNext : BitVec 32 := 1
  /-- LEDG_SEQ_ACK (R326) [31:0] SEQ, RO, reset NV: newest acknowledged SEQ; 0 when none -/
  seqAck : BitVec 32 := 0
  /-- LEDG_FREE, offset 0x50C -/
  free : LedgFree := {}
  /-- LEDG_CFG (R326) [14:0] LOW_THR, RW, reset 0x0400: LOW threshold, 17–16,384 -/
  cfg : BitVec 15 := 0x400
  /-- LEDG_PARAM_CRC (R326) [31:0] CRC, RO, reset NV: PARAM_CRC in force -/
  paramCrc : BitVec 32 := 0
  /-- LEDG_LCODE_VER (R326) [31:0] VER, RO, reset NV: legal code version in force -/
  lcodeVer : BitVec 32 := 0
  /-- LEDG_RMEAS, offset 0x51C -/
  rmeas : LedgRmeas := {}
  /-- LEDG_PFAIL, offset 0x520 -/
  pfail : LedgPfail := {}
  deriving DecidableEq, Repr

/-- VEH_CTRL (R358). -/
structure VehCtrl where
  /-- [1] RW, reset 0: 1: DC_BPT offered -/
  bptEn : Bool := false
  /-- [0] RW, reset 0: 1: sessions enabled -/
  en : Bool := false
  deriving DecidableEq, Repr

/-- VEH_STATUS (R358). -/
structure VehStatus where
  /-- [29:24] RO, reset 0x00: entries queued, 0–32 -/
  evtCnt : BitVec 6 := 0
  /-- [23] RO, reset 0: 1: DC_BPT selected -/
  bpt : Bool := false
  /-- [22] RO, reset 0: 1: PnC identification -/
  pnc : Bool := false
  /-- [21] RO, reset 0: 1: TLS session established -/
  tls : Bool := false
  /-- [20] RO, reset 0: 1: PHY link up -/
  link : Bool := false
  /-- [19:18] RO, reset 0b00: 0 NONE; 1 PRESENT; 2 ERROR -/
  id : IdState := .none
  /-- [17:16] RO, reset 0b00: 0 A; 1 B; 2 C; 3 ERROR -/
  ce : CeState := .a
  /-- [15:8] RO, reset 0x00: R343 -/
  cause : BitVec 8 := 0
  /-- [3:0] RO, reset 0x0: 0 OFF; 1 UNPLUGGED; 2 PLUGGED; 3 SETUP; 4 AUTH; 5 DISCOVERY; 6 CABLECHECK; 7 PRECHARGE; 8 TRANSFER; 9 PAUSED; 10 STOPPING; 11 SHUTDOWN; 12 ENDED -/
  state : VehState := .off
  deriving DecidableEq, Repr

/-- VEH_EVT (R358). -/
structure VehEvt where
  /-- [31:24] RO, reset 0x00: R351; the read removes the entry -/
  code : BitVec 8 := 0
  /-- [23:0] RO, reset 0x00_0000: R351 -/
  data : BitVec 24 := 0
  deriving DecidableEq, Repr

/-- VEH_FLAGS (R358). -/
structure VehFlags where
  /-- [3] RO, reset 0: 1: SECC leaf expired -/
  certExp : Bool := false
  /-- [2] RO, reset 0: 1: SECC leaf within 30 days of expiry -/
  certWarn : Bool := false
  /-- [1] W1C, reset 0: sticky: an event was overwritten -/
  evtOvf : Bool := false
  /-- [0] W1C, reset 0: sticky: a write was ignored -/
  wrIgn : Bool := false
  deriving DecidableEq, Repr

/-- VEH_CE_THR (R359). -/
structure VehCeThr where
  /-- [31:24] RW, reset 0x0A: debounce, ms, 1–100, for both circuits -/
  deb : BitVec 8 := 0xA
  /-- [23:16] RW, reset 0x64: 10.0 V, 0.1 V steps -/
  thA : BitVec 8 := 0x64
  /-- [15:8] RW, reset 0x4B: 7.5 V -/
  thC : BitVec 8 := 0x4B
  /-- [7:0] RW, reset 0x0F: 1.5 V -/
  thErr : BitVec 8 := 0xF
  deriving DecidableEq, Repr

/-- VEH_ID_THR (R359). -/
structure VehIdThr where
  /-- [15:8] RW, reset 0x28: 4.0 V, 0.1 V steps -/
  idOpen : BitVec 8 := 0x28
  /-- [7:0] RW, reset 0x05: 0.5 V -/
  idLo : BitVec 8 := 5
  deriving DecidableEq, Repr

/-- VEH_TMO1 (R359). -/
structure VehTmo1 where
  /-- [31:24] RW, reset 0x14: precharge and cable-check tolerance, V, 1–50 -/
  preTol : BitVec 8 := 0x14
  /-- [23:16] RW, reset 0x0A: 0.1 s, 1–100 -/
  ccHold : BitVec 8 := 0xA
  /-- [15:8] RW, reset 0x1E: s, 5–60 -/
  ccTmo : BitVec 8 := 0x1E
  /-- [7:0] RW, reset 0x07: s, 1–30 -/
  preTmo : BitVec 8 := 7
  deriving DecidableEq, Repr

/-- VEH_TMO2 (R359). -/
structure VehTmo2 where
  /-- [31:24] RW, reset 0x14: 0.1 s, 5–50 -/
  clTmo : BitVec 8 := 0x14
  /-- [23:16] RW, reset 0x32: s, 1–55 -/
  authTmo : BitVec 8 := 0x32
  /-- [15:0] RW, reset 0x0258: s, 1–3,600 -/
  pauseMax : BitVec 16 := 0x258
  deriving DecidableEq, Repr

/-- VEH_EY_MAP (R359). -/
structure VehEyMap where
  /-- [10:8] RW, reset 0b010: discharge Eyelet -/
  dis : BitVec 3 := 2
  /-- [6:4] RW, reset 0b001: negative contactor Eyelet -/
  neg : BitVec 3 := 1
  /-- [2:0] RW, reset 0b000: positive contactor Eyelet -/
  pos : BitVec 3 := 0
  deriving DecidableEq, Repr

/-- VEH_EV_LIM1 (R361). -/
structure VehEvLim1 where
  /-- [31:16] RO, reset 0x0000: EV maximum charge current, 0.1 A -/
  iMax : BitVec 16 := 0
  /-- [15:0] RO, reset 0x0000: EV maximum voltage, 0.1 V -/
  vMax : BitVec 16 := 0
  deriving DecidableEq, Repr

/-- VEH_EV_LIM2 (R361). -/
structure VehEvLim2 where
  /-- [31:16] RO, reset 0x0000: EV maximum discharge current, 0.1 A -/
  iDis : BitVec 16 := 0
  /-- [15:0] RO, reset 0x0000: EV minimum voltage, 0.1 V -/
  vMin : BitVec 16 := 0
  deriving DecidableEq, Repr

/-- VEH_EV_TGT (R361). -/
structure VehEvTgt where
  /-- [31:16] RO, reset 0x0000: EV target current, signed, 0.1 A -/
  iTgt : BitVec 16 := 0
  /-- [15:0] RO, reset 0x0000: EV target voltage, 0.1 V -/
  vTgt : BitVec 16 := 0
  deriving DecidableEq, Repr

/-- Registers of block VehRegs. -/
structure VehRegs where
  /-- VEH_CTRL, offset 0x600 -/
  ctrl : VehCtrl := {}
  /-- VEH_STATUS, offset 0x604 -/
  status : VehStatus := {}
  /-- VEH_EVT, offset 0x608 -/
  evt : VehEvt := {}
  /-- VEH_FLAGS, offset 0x60C -/
  flags : VehFlags := {}
  /-- VEH_CE_THR, offset 0x610 -/
  ceThr : VehCeThr := {}
  /-- VEH_ID_THR, offset 0x614 -/
  idThr : VehIdThr := {}
  /-- VEH_TMO1, offset 0x618 -/
  tmo1 : VehTmo1 := {}
  /-- VEH_TMO2, offset 0x61C -/
  tmo2 : VehTmo2 := {}
  /-- VEH_EY_MAP, offset 0x620 -/
  eyMap : VehEyMap := {}
  /-- VEH_EV_LIM1, offset 0x624 -/
  evLim1 : VehEvLim1 := {}
  /-- VEH_EV_LIM2, offset 0x628 -/
  evLim2 : VehEvLim2 := {}
  /-- VEH_EV_TGT, offset 0x62C -/
  evTgt : VehEvTgt := {}
  /-- VEH_EVCCID_LO (R361) [31:0] EVCCID, RO, reset 0x0000_0000: bytes 0–3 -/
  evccidLo : BitVec 32 := 0
  /-- VEH_EVCCID_HI (R361) [15:0] EVCCID, RO, reset 0x0000: bytes 4–5 -/
  evccidHi : BitVec 16 := 0
  /-- VEH_MAC_LO (R361) [31:0] MAC, RO, reset NV: bytes 0–3 -/
  macLo : BitVec 32 := 0
  /-- VEH_MAC_HI (R361) [15:0] MAC, RO, reset NV: bytes 4–5 -/
  macHi : BitVec 16 := 0
  /-- VEH_AUTH (R361) [0:0] AUTO_AUTH, CMD, reset NV: 1: R338 -/
  auth : Bool := false
  /-- VEH_SID_LO, VEH_SID_HI (R361) [31:0] SID, RO, reset 0x0000_0000: session identifier, bytes 0–3 and 4–7 -/
  sid : Vector (BitVec 32) 2 := Vector.replicate 2 0
  /-- VEH_EMAID0–3 (R361) [31:0] EMAID, RO, reset 0x0000_0000: 16 ASCII bytes, NUL-padded, byte 0 in the low byte of VEH_EMAID0 -/
  emaid : Vector (BitVec 32) 4 := Vector.replicate 4 0
  deriving DecidableEq, Repr

/-- COOL_CTRL (R387). -/
structure CoolCtrl where
  /-- [31:24] RW, reset 0x14: least pump duty, %, 0–100 -/
  pumpMin : BitVec 8 := 0x14
  /-- [23:16] RW, reset 0x2D: wake temperature, whole °C -/
  tWake : BitVec 8 := 0x2D
  /-- [15:4] RW, reset 0x0B4: rundown, s, 0–4,095 -/
  rundown : BitVec 12 := 0xB4
  /-- [2] WO, reset 0: 1: R383 -/
  ageRst : Bool := false
  /-- [1] RW, reset 0: 0: 1 kHz; 1: 25 kHz -/
  pwmF : Bool := false
  /-- [0] RW, reset 0: 1: controller enabled -/
  en : Bool := false
  deriving DecidableEq, Repr

/-- COOL_STATUS (R387). -/
structure CoolStatus where
  /-- [31] W1C, reset 0: sticky: a write was ignored -/
  wrIgn : Bool := false
  /-- [30] W1C, reset 0: sticky: trend taken on a third outlier -/
  ageStep : Bool := false
  /-- [29] RO, reset 0: R364 -/
  pinDisc : Bool := false
  /-- [28] RO, reset 0: R377 -/
  flowLow : Bool := false
  /-- [27] RO, reset 0: R377 -/
  presFlt : Bool := false
  /-- [26:25] RO, reset 0b00: bit 25 CNTC0; bit 26 CNTC1 faulty -/
  cntcFlt : BitVec 2 := 0
  /-- [23:20] RO, reset 0x0: bit 20 + k: CHn_PTk faulty -/
  pinFlt : BitVec 4 := 0
  /-- [19] RO, reset 0: R378 -/
  rlValid : Bool := false
  /-- [18] RO, reset NV: R382 -/
  ageValid : Bool := false
  /-- [11:8] RO, reset 0x5: binding code of R375 -/
  src : BitVec 4 := 5
  /-- [1:0] RO, reset 0b00: 0 OFF; 1 STANDBY; 2 ACTIVE; 3 RUNDOWN -/
  state : CoolState := .off
  deriving DecidableEq, Repr

/-- COOL_CAP (R388). -/
structure CoolCap where
  /-- [31:16] RO, reset 0x0000: thermal term, 0.1 A, saturating at 0xFFFF -/
  iTh : BitVec 16 := 0
  /-- [15:0] RO, reset 0x0000: cap in force, 0.1 A -/
  cap : BitVec 16 := 0
  deriving DecidableEq, Repr

/-- COOL_TMODEL (R388). -/
structure CoolTmodel where
  /-- [31:16] RO, reset 0x8000: model conductor temperature -/
  tC : BitVec 16 := 0x8000
  /-- [15:0] RO, reset 0x8000: model coolant temperature -/
  tK : BitVec 16 := 0x8000
  deriving DecidableEq, Repr

/-- COOL_TCOOL (R388). -/
structure CoolTcool where
  /-- [31:16] RO, reset 0x8000: CNTC1 -/
  tOut : BitVec 16 := 0x8000
  /-- [15:0] RO, reset 0x8000: CNTC0 -/
  tIn : BitVec 16 := 0x8000
  deriving DecidableEq, Repr

/-- COOL_PIN01 (R388). -/
structure CoolPin01 where
  /-- [31:16] RO, reset 0x8000: DC+ contact, second sensor -/
  pt1 : BitVec 16 := 0x8000
  /-- [15:0] RO, reset 0x8000: DC+ contact, first sensor -/
  pt0 : BitVec 16 := 0x8000
  deriving DecidableEq, Repr

/-- COOL_PIN23 (R388). -/
structure CoolPin23 where
  /-- [31:16] RO, reset 0x8000: DC− contact, second sensor -/
  pt3 : BitVec 16 := 0x8000
  /-- [15:0] RO, reset 0x8000: DC− contact, first sensor -/
  pt2 : BitVec 16 := 0x8000
  deriving DecidableEq, Repr

/-- COOL_FLOW (R388). -/
structure CoolFlow where
  /-- [31:16] RO, reset 0x0000: pressure, kPa -/
  pres : BitVec 16 := 0
  /-- [15:0] RO, reset 0x0000: flow, 0.01 l/min -/
  flow : BitVec 16 := 0
  deriving DecidableEq, Repr

/-- COOL_DRIVE (R388). -/
structure CoolDrive where
  /-- [15:8] RO, reset 0x00: fan duty, % -/
  fan : BitVec 8 := 0
  /-- [7:0] RO, reset 0x00: pump duty, % -/
  pump : BitVec 8 := 0
  deriving DecidableEq, Repr

/-- COOL_EY_MAP (R389). -/
structure CoolEyMap where
  /-- [10:8] RW, reset 0b101: valve Eyelet -/
  valve : BitVec 3 := 5
  /-- [6:4] RW, reset 0b100: fan Eyelet -/
  fan : BitVec 3 := 4
  /-- [2:0] RW, reset 0b011: pump Eyelet -/
  pump : BitVec 3 := 3
  deriving DecidableEq, Repr

/-- COOL_CABLE (R389). -/
structure CoolCable where
  /-- [31:16] RW, reset 0x7530: rated cable current, 0.1 A -/
  iRated : BitVec 16 := 0x7530
  /-- [15:0] RW, reset 0x0A28: conductor resistance at 20 °C -/
  rCond20 : BitVec 16 := 0xA28
  deriving DecidableEq, Repr

/-- COOL_THERM1 (R389). -/
structure CoolTherm1 where
  /-- [31:16] RW, reset 0x04B0: conductor heat capacity, 10 J/K, 1–65,535; 0 taken as 1 -/
  cC : BitVec 16 := 0x4B0
  /-- [15:0] RW, reset 0x05DC: conductor-to-coolant conductance, 0.1 W/K -/
  gCk : BitVec 16 := 0x5DC
  deriving DecidableEq, Repr

/-- COOL_THERM2 (R389). -/
structure CoolTherm2 where
  /-- [31:16] RW, reset 0x07D0: coolant heat capacity, 10 J/K, 1–65,535; 0 taken as 1 -/
  cK : BitVec 16 := 0x7D0
  /-- [15:0] RW, reset 0x0276: coolant heat rate, 0.1 W/K per l/min -/
  cpf : BitVec 16 := 0x276
  deriving DecidableEq, Repr

/-- COOL_LIM1 (R389). -/
structure CoolLim1 where
  /-- [31:16] RW, reset 0x0384: conductor limit, 90.0 °C -/
  tCLim : BitVec 16 := 0x384
  /-- [15:0] RW, reset 0x0352: contact limit, 85.0 °C -/
  tPinLim : BitVec 16 := 0x352
  deriving DecidableEq, Repr

/-- COOL_LIM2 (R389). -/
structure CoolLim2 where
  /-- [31:24] RW, reset 0x3C: horizon, s, 1–255 -/
  h : BitVec 8 := 0x3C
  /-- [23:16] RW, reset 0x0A: contact derating band, K, 1–50 -/
  pinBand : BitVec 8 := 0xA
  /-- [15:8] RW, reset 0x28: sensor-fault cap, %, 0–100 -/
  fltCap : BitVec 8 := 0x28
  /-- [7:0] RW, reset 0x3C: ageing floor, %, 10–100 -/
  ageFloor : BitVec 8 := 0x3C
  deriving DecidableEq, Repr

/-- COOL_SET (R389). -/
structure CoolSet where
  /-- [31:16] RW, reset 0x0258: conductor set-point, 60.0 °C -/
  tCSet : BitVec 16 := 0x258
  /-- [15:0] RW, reset 0x0190: coolant supply set-point, 40.0 °C -/
  tKSet : BitVec 16 := 0x190
  deriving DecidableEq, Repr

/-- COOL_PI (R389). -/
structure CoolPi where
  /-- [31:24] RW, reset 0x32: pump gain, 0.1 % per K -/
  kpP : BitVec 8 := 0x32
  /-- [23:16] RW, reset 0x1E: pump integral time, s, 1–255 -/
  tiP : BitVec 8 := 0x1E
  /-- [15:8] RW, reset 0x1E: fan gain, 0.1 % per K -/
  kpF : BitVec 8 := 0x1E
  /-- [7:0] RW, reset 0x3C: fan integral time, s, 1–255 -/
  tiF : BitVec 8 := 0x3C
  deriving DecidableEq, Repr

/-- COOL_FF (R389). -/
structure CoolFf where
  /-- [15:8] RW, reset 0x0A: fan feed-forward, 0.1 % per kW -/
  kffF : BitVec 8 := 0xA
  /-- [7:0] RW, reset 0x0A: pump feed-forward, 0.1 % per kW -/
  kffP : BitVec 8 := 0xA
  deriving DecidableEq, Repr

/-- COOL_SENS (R389). -/
structure CoolSens where
  /-- [31:24] RW, reset 0x3C: upper pressure, 10 kPa -/
  pMax : BitVec 8 := 0x3C
  /-- [23:16] RW, reset 0x05: lower pressure, 10 kPa -/
  pMin : BitVec 8 := 5
  /-- [15:8] RW, reset 0x0A: least flow, l/min -/
  fMin : BitVec 8 := 0xA
  /-- [7:0] RW, reset 0x64: pulses per litre, 1–255 -/
  kFlow : BitVec 8 := 0x64
  deriving DecidableEq, Repr

/-- COOL_EST (R389). -/
structure CoolEst where
  /-- [31:16] RW, reset 0x1388: least span of x, 0.1 A -/
  estSpread : BitVec 16 := 0x1388
  /-- [15:0] RW, reset 0x07D0: least \|I8\| for a point, 0.1 A -/
  iEstMin : BitVec 16 := 0x7D0
  deriving DecidableEq, Repr

/-- COOL_RMEAS (R390). -/
structure CoolRmeas where
  /-- [31:16] RO, reset NV: contact resistance, R382 -/
  rCon : BitVec 16 := 0
  /-- [15:0] RO, reset NV: trend, R381; 0 when none -/
  rMeas : BitVec 16 := 0
  deriving DecidableEq, Repr

/-- COOL_AGE (R390). -/
structure CoolAge where
  /-- [23:16] RO, reset NV: estimates in the trend, saturating -/
  count : BitVec 8 := 0
  /-- [15:0] RO, reset NV: baseline contact resistance -/
  rCon0 : BitVec 16 := 0
  deriving DecidableEq, Repr

/-- COOL_FCAST (R390). -/
structure CoolFcast where
  /-- [31:16] RO, reset 0xFFFF: R384 -/
  daysLegal : BitVec 16 := 0xFFFF
  /-- [15:0] RO, reset 0xFFFF: R384 -/
  daysFloor : BitVec 16 := 0xFFFF
  deriving DecidableEq, Repr

/-- COOL_SESS (R390). -/
structure CoolSess where
  /-- [31:16] RO, reset 0x0000: points of the newest estimate -/
  npts : BitVec 16 := 0
  /-- [15:0] RO, reset 0x0000: newest r_s20; 0 when none since boot -/
  rS20 : BitVec 16 := 0
  deriving DecidableEq, Repr

/-- Registers of block CoolRegs. -/
structure CoolRegs where
  /-- COOL_CTRL, offset 0x700 -/
  ctrl : CoolCtrl := {}
  /-- COOL_STATUS, offset 0x704 -/
  status : CoolStatus := {}
  /-- COOL_CAP, offset 0x708 -/
  cap : CoolCap := {}
  /-- COOL_TMODEL, offset 0x70C -/
  tmodel : CoolTmodel := {}
  /-- COOL_TCOOL, offset 0x710 -/
  tcool : CoolTcool := {}
  /-- COOL_PIN01, offset 0x714 -/
  pin01 : CoolPin01 := {}
  /-- COOL_PIN23, offset 0x718 -/
  pin23 : CoolPin23 := {}
  /-- COOL_FLOW, offset 0x71C -/
  flow : CoolFlow := {}
  /-- COOL_DRIVE, offset 0x720 -/
  drive : CoolDrive := {}
  /-- COOL_EY_MAP, offset 0x724 -/
  eyMap : CoolEyMap := {}
  /-- COOL_CABLE, offset 0x728 -/
  cable : CoolCable := {}
  /-- COOL_THERM1, offset 0x72C -/
  therm1 : CoolTherm1 := {}
  /-- COOL_THERM2, offset 0x730 -/
  therm2 : CoolTherm2 := {}
  /-- COOL_LIM1, offset 0x734 -/
  lim1 : CoolLim1 := {}
  /-- COOL_LIM2, offset 0x738 -/
  lim2 : CoolLim2 := {}
  /-- COOL_SET, offset 0x73C -/
  set : CoolSet := {}
  /-- COOL_PI, offset 0x740 -/
  pi : CoolPi := {}
  /-- COOL_FF, offset 0x744 -/
  ff : CoolFf := {}
  /-- COOL_SENS, offset 0x748 -/
  sens : CoolSens := {}
  /-- COOL_EST, offset 0x74C -/
  est : CoolEst := {}
  /-- COOL_RLINK (R390) [15:0] R_LINK, RO, reset 0x0000: cabinet-to-dispenser resistance, R378 -/
  rlink : BitVec 16 := 0
  /-- COOL_RMEAS, offset 0x754 -/
  rmeas : CoolRmeas := {}
  /-- COOL_AGE, offset 0x758 -/
  age : CoolAge := {}
  /-- COOL_FCAST, offset 0x75C -/
  fcast : CoolFcast := {}
  /-- COOL_SESS, offset 0x760 -/
  sess : CoolSess := {}
  deriving DecidableEq, Repr

/-- EY_STATUS (R423). -/
structure EyStatus where
  /-- [31] W1C, reset 0: sticky: a write was ignored -/
  wrIgn : Bool := false
  /-- [30] RO, reset 0: 1: the die is in FAILSAFE -/
  failsafe : Bool := false
  /-- [29] W1C, reset 0: sticky: the watchdog expired -/
  wdExp : Bool := false
  /-- [28] RO, reset 0: R405 -/
  dip : Bool := false
  /-- [27] RO, reset 0: R411 -/
  vswUv : Bool := false
  /-- [23:16] RO, reset 0x00: Shank's off mask in force -/
  shkMask : BitVec 8 := 0
  /-- [15:8] RO, reset 0x00: bit k: output k conducting or pulsing -/
  out : BitVec 8 := 0
  /-- [7:0] RO, reset 0x00: bit k: output k commanded on -/
  eff : BitVec 8 := 0
  deriving DecidableEq, Repr

/-- EY_FAULT (R423). -/
structure EyFault where
  /-- [31:24] W1C, reset 0x00: sticky: R403 -/
  ouv : BitVec 8 := 0
  /-- [23:16] W1C, reset 0x00: sticky: thermal trip -/
  th : BitVec 8 := 0
  /-- [15:8] W1C, reset 0x00: sticky: over-current trip -/
  oc : BitVec 8 := 0
  deriving DecidableEq, Repr

/-- EY_MIRROR (R424). -/
structure EyMirror where
  /-- [4] RW, reset 0: 0 SEL; 1 CHn_EYSEL2–0 -/
  src : Bool := false
  /-- [3] RW, reset 0: 1: mirror enabled -/
  en : Bool := false
  /-- [2:0] RW, reset 0b000: output selected -/
  sel : BitVec 3 := 0
  deriving DecidableEq, Repr

/-- EY_WDT (R424). -/
structure EyWdt where
  /-- [14:8] CMD, reset NV: 10 ms steps, 0–50 -/
  fsDly : BitVec 7 := 0
  /-- [6:0] CMD, reset NV: ms, 1–100 -/
  wdtT : BitVec 7 := 100
  deriving DecidableEq, Repr

/-- EY_SUPPLY (R424). -/
structure EySupply where
  /-- [31:24] RW, reset 0xA0: 0.1 V steps, 5.0–25.5 V -/
  ouvV : BitVec 8 := 0xA0
  /-- [23:16] RO, reset 0x00: dips since the Sole booted; saturates -/
  dipCnt : BitVec 8 := 0
  /-- [15:0] RO, reset 0x0000: VSWn, mV -/
  vsw : BitVec 16 := 0
  deriving DecidableEq, Repr

/-- EY_OL (R423). -/
structure EyOl where
  /-- [23:16] RO, reset 0x00: R401 -/
  shortVsw : BitVec 8 := 0
  /-- [15:8] RO, reset 0x00: R402 -/
  olOn : BitVec 8 := 0
  /-- [7:0] RO, reset 0x00: R401 -/
  olOff : BitVec 8 := 0
  deriving DecidableEq, Repr

/-- EY_OSTATk (R425). -/
structure EyOstat where
  /-- [31:29] RO, reset 0b000: 0 OFF; 1 INRUSH; 2 ON; 3 PAUSE; 4 LATCHED; 5 THERM_HOT; 6 THERM_WAIT -/
  state : EyState := .off
  /-- [27:24] RO, reset 0x0: R395 -/
  fcnt : BitVec 4 := 0
  /-- [23:16] RO, reset 0x00: junction less case, K, saturating -/
  dt : BitVec 8 := 0
  /-- [15:0] RO, reset 0x0000: load current, mA -/
  i : BitVec 16 := 0
  deriving DecidableEq, Repr

/-- EY_LIMk (R425). -/
structure EyLim where
  /-- [24:16] RW, reset 0x014: ms, 5–500 -/
  inrushT : BitVec 9 := 0x14
  /-- [14:8] RW, reset 0x3C: 0.1 A, ILIM–120 -/
  inrushI : BitVec 7 := 0x3C
  /-- [6:0] RW, reset 0x1E: 0.1 A, 5–90 -/
  ilim : BitVec 7 := 0x1E
  deriving DecidableEq, Repr

/-- EY_RETRYk (R425). -/
structure EyRetry where
  /-- [31:28] RW, reset 0x3: retries, 1–15; 0 taken as 1 -/
  n : BitVec 4 := 3
  /-- [24:16] RW, reset 0x001: 10 ms steps, 1–500 -/
  pause0 : BitVec 9 := 1
  /-- [9:0] RW, reset 0x00A: 10 µs steps, 1–1,000 -/
  ocFilt : BitVec 10 := 0xA
  deriving DecidableEq, Repr

/-- EY_OLCFGk (R425). -/
structure EyOlcfg where
  /-- [31] RW, reset 0: 1: off-state pull-up -/
  offEn : Bool := false
  /-- [30] RW, reset 0: 1: on-state detection -/
  onEn : Bool := false
  /-- [29] RW, reset 0: 1: fine range -/
  fine : Bool := false
  /-- [23:16] RW, reset 0x0A: 1 mA when FINE, else 10 mA -/
  olIon : BitVec 8 := 0xA
  /-- [15:8] RW, reset 0x1E: 0.1 V steps, up to 4.0 V -/
  offVth : BitVec 8 := 0x1E
  /-- [7:0] RW, reset 0x0A: ms, 1–255 -/
  olT : BitVec 8 := 0xA
  deriving DecidableEq, Repr

/-- EY_PWMk (R425). -/
structure EyPwm where
  /-- [25:24] RW, reset 0b00: 0 100 Hz; 1 200 Hz; 2 400 Hz; 3 1 kHz -/
  freq : BitVec 2 := 0
  /-- [7:0] RW, reset 0x00: on-time, value/255 -/
  duty : BitVec 8 := 0
  deriving DecidableEq, Repr

/-- Registers of block EyRegs. -/
structure EyRegs where
  /-- EY_CTRL (R423) [7:0] CLR, WO, reset 0x00: bit k: clear output k, as 0x0502 -/
  ctrl : BitVec 8 := 0
  /-- EY_CMD (R423) [15:0] MODE, RW, reset 0x0000: bits [2k+1:2k]: 0 OFF; 1 ON; 2 PWM; 3 taken as OFF -/
  cmd : BitVec 16 := 0
  /-- EY_STATUS, offset 0x808 -/
  status : EyStatus := {}
  /-- EY_FAULT, offset 0x80C -/
  fault : EyFault := {}
  /-- EY_MIRROR, offset 0x810 -/
  mirror : EyMirror := {}
  /-- EY_WDT, offset 0x814 -/
  wdt : EyWdt := {}
  /-- EY_FSAFE (R424) [15:0] FS, CMD, reset NV: bits [2k+1:2k]: 0 OFF; 1 ON; 2 KEEP; 3 taken as OFF -/
  fsafe : BitVec 16 := 0
  /-- EY_SUPPLY, offset 0x81C -/
  supply : EySupply := {}
  /-- EY_OL, offset 0x820 -/
  ol : EyOl := {}
  /-- EY_OSTATk, offset 0x8C0 -/
  ostat : Vector EyOstat 8 := Vector.replicate 8 {}
  /-- EY_LIMk, offset 0x840 -/
  lim : Vector EyLim 8 := Vector.replicate 8 {}
  /-- EY_RETRYk, offset 0x844 -/
  retry : Vector EyRetry 8 := Vector.replicate 8 {}
  /-- EY_OLCFGk, offset 0x848 -/
  olcfg : Vector EyOlcfg 8 := Vector.replicate 8 {}
  /-- EY_PWMk, offset 0x84C -/
  pwm : Vector EyPwm 8 := Vector.replicate 8 {}
  deriving DecidableEq, Repr

/-- SHK_STATUS (R455). -/
structure ShkStatus where
  /-- [31:29] RO, reset 0b000: 0 INIT; 1 UNARMED; 2 READY; 3 BLOCKED; 4 DEGRADED; 5 STOP1; 6 SAFE_STOP -/
  state : ShkState := .init
  /-- [28] RO, reset 0: R435 -/
  permit : Bool := false
  /-- [27] RO, reset 1: gate inhibit asserted -/
  inhibit : Bool := true
  /-- [26] RO, reset 0: R429 -/
  disReq : Bool := false
  /-- [25] RO, reset 0: CONF_CRC equals SHK_CRC -/
  confOk : Bool := false
  /-- [24] RO, reset 0: R447 -/
  paramBad : Bool := false
  /-- [23:16] RO, reset 0x00: mask in force; bit k for Eyelet k -/
  offMask : BitVec 8 := 0
  deriving DecidableEq, Repr

/-- SHK_DEMAND (R455). -/
structure ShkDemand where
  /-- [21:16] RO, reset 0x00: bit 16 + f − 1: SFf latched -/
  latch : BitVec 6 := 0
  /-- [13:8] RO, reset 0x00: bit 8 + f − 1: SFf demand now -/
  active : BitVec 6 := 0
  /-- [3:0] RO, reset 0x0: newest SF1 source: 0 none; 1 hardwired; 2 CAN; 3 ring; 4 TC0; 5 CAN silence -/
  lastSrc : BitVec 4 := 0
  deriving DecidableEq, Repr

/-- SHK_DEG (R455). -/
structure ShkDeg where
  /-- [31:16] RO, reset 0x0000: I_cap, 0.1 A; 0 outside DEGRADED -/
  cap : BitVec 16 := 0
  /-- [8:0] RO, reset 0x000: seconds left of DEG_TMAX -/
  left : BitVec 9 := 0
  deriving DecidableEq, Repr

/-- SHK_TP (R455). -/
structure ShkTp where
  /-- [31:16] RO, reset 0x0000: passed tests since the Sole booted; saturates -/
  pass : BitVec 16 := 0
  /-- [15:8] RO, reset 0x00: preempted tests; saturates -/
  preempt : BitVec 8 := 0
  /-- [3] RO, reset 0: 0 POS; 1 NEG -/
  next : Bool := false
  /-- [2] RO, reset 0: a test is running -/
  active : Bool := false
  /-- [1:0] RO, reset 0b00: 0 none; 1 passed; 2 preempted; 3 failed -/
  last : TpResult := .none
  deriving DecidableEq, Repr

/-- SHK_INPUT (R455). -/
structure ShkInput where
  /-- [7:2] RO, reset 0x00: filtered levels: [7] AUX_NEG; [6] AUX_POS; [5] IMD_B; [4] IMD_A; [3] ESTOP_B; [2] ESTOP_A -/
  lands : BitVec 6 := 0
  /-- [1] RO, reset 0: ID below SF4_ID_MAX -/
  idOk : Bool := false
  /-- [0] RO, reset 0: CE at or above SF4_CE_MIN -/
  ceOk : Bool := false
  deriving DecidableEq, Repr

/-- SHK_CNT (R455). -/
structure ShkCnt where
  /-- [31:16] RO, reset 0x0000: invalid copies discarded; saturates -/
  crcErr : BitVec 16 := 0
  /-- [15:0] RO, reset 0x0000: demands since the Sole booted; saturates -/
  demands : BitVec 16 := 0
  deriving DecidableEq, Repr

/-- Registers of block ShkRegs. -/
structure ShkRegs where
  /-- SHK_STATUS, offset 0x900 -/
  status : ShkStatus := {}
  /-- SHK_DEMAND, offset 0x904 -/
  demand : ShkDemand := {}
  /-- SHK_FAULT (R455) [15:0] NOW, RO, reset 0x0000: faults present, bits as below -/
  fault : BitVec 16 := 0
  /-- SHK_FAULT_SEEN (R455) [15:0] SEEN, W1C, reset 0x0000: sticky, bits as below -/
  faultSeen : BitVec 16 := 0
  /-- SHK_DEG, offset 0x910 -/
  deg : ShkDeg := {}
  /-- SHK_CRC (R455) [31:0] CRC, RO, reset NV: CRC of the block in use -/
  crc : BitVec 32 := 0
  /-- SHK_CONF_CRC (R455) [31:0] CRC, CMD, reset NV: confirmed CRC; 0 when cleared -/
  confCrc : BitVec 32 := 0
  /-- SHK_PSEL (R455) [3:0] WORD, RW, reset 0x0: block word selected -/
  psel : BitVec 4 := 0
  /-- SHK_PDATA (R455) [31:0] DATA, RO, reset NV: selected word -/
  pdata : BitVec 32 := 0
  /-- SHK_TP, offset 0x924 -/
  tp : ShkTp := {}
  /-- SHK_PW (R455) [15:0] INTERVAL, RO, reset 0x0000: newest carrier interval, 10 ns -/
  pw : BitVec 16 := 0
  /-- SHK_INPUT, offset 0x92C -/
  input : ShkInput := {}
  /-- SHK_SRC_STAT (R455) [23:0] SRC, RO, reset 0x00_0000: four bits per source, CAN sources 0–3 then masters M0 and M1: [4k+3] DEMAND; [4k+2] path B or west lost; [4k+1] path A or east lost; [4k] OK -/
  srcStat : BitVec 24 := 0
  /-- SHK_CNT, offset 0x934 -/
  cnt : ShkCnt := {}
  deriving DecidableEq, Repr

/-- CAN_CTRL (R632). -/
structure CanCtrl where
  /-- [31] RW, reset 1: R611 -/
  init : Bool := true
  /-- [30] RW, reset 0: 1: bus-off recovery after REC_DLY -/
  autoRec : Bool := false
  /-- [29] RW, reset 0: 1: single attempt, R625 -/
  dar : Bool := false
  /-- [28] RW, reset 0: R614 -/
  triple : Bool := false
  /-- [27:26] RW, reset 0b00: 0 NORMAL; 1 LISTEN; 2 RESTRICTED; 3 LOOPBACK, TX land high -/
  mode : BitVec 2 := 0
  /-- [25] RW, reset 0: R621 -/
  selfRx : Bool := false
  /-- [19:16] RW, reset 0x3: R628; 0 disables -/
  collLim : BitVec 4 := 3
  /-- [9:0] RW, reset 0x000: ms, 0–1,000; larger taken as 1,000 -/
  recDly : BitVec 10 := 0
  deriving DecidableEq, Repr

/-- CAN_STATUS (R632). -/
structure CanStatus where
  /-- [31:29] RO, reset 0b000: 0 INIT; 1 INTEGRATING; 2 ACTIVE; 3 PASSIVE; 4 BUS_OFF; 5 RECOVERING -/
  state : CanState := .init
  /-- [28] RO, reset 0: TEC or REC ≥ 96 -/
  ew : Bool := false
  /-- [27] RO, reset 0: the last leave of INIT failed R613 -/
  cfgErr : Bool := false
  deriving DecidableEq, Repr

/-- CAN_NBT (R632). -/
structure CanNbt where
  /-- [31:24] RW, reset 0x01: nominal prescaler, 1–255 -/
  nPresc : BitVec 8 := 1
  /-- [23:16] RW, reset 0x3F: tq from the synchronisation segment to the sample point, 2–255 -/
  nBefore : BitVec 8 := 0x3F
  /-- [14:8] RW, reset 0x10: tq from the sample point to the end of the bit, 1–127 -/
  nAfter : BitVec 7 := 0x10
  /-- [6:0] RW, reset 0x10: resynchronisation jump width, tq, 1–127 -/
  nSjw : BitVec 7 := 0x10
  deriving DecidableEq, Repr

/-- CAN_DBT (R632). -/
structure CanDbt where
  /-- [28:24] RW, reset 0x01: data prescaler, 1–31 -/
  dPresc : BitVec 5 := 1
  /-- [20:16] RW, reset 0x0F: as N_BEFORE, data phase, 1–31 -/
  dBefore : BitVec 5 := 0xF
  /-- [11:8] RW, reset 0x4: as N_AFTER, data phase, 1–15 -/
  dAfter : BitVec 4 := 4
  /-- [3:0] RW, reset 0x4: as N_SJW, data phase, 1–15 -/
  dSjw : BitVec 4 := 4
  deriving DecidableEq, Repr

/-- CAN_SSP (R632). -/
structure CanSsp where
  /-- [31] RW, reset 0: R615 -/
  sspEn : Bool := false
  /-- [30:24] RW, reset 0x50: secondary sample point, % of the data bit, 50–95; others taken as the nearest bound -/
  sspPct : BitVec 7 := 0x50
  /-- [22:16] RW, reset 0x40: largest delay kept, cycles, 0–127 -/
  dlyMax : BitVec 7 := 0x40
  /-- [15:9] RW, reset 0x00: least delay kept, cycles, 0–127 -/
  dlyMin : BitVec 7 := 0
  /-- [8:0] RO, reset 0x000: newest kept delay, quarter cycles -/
  loopdly : BitVec 9 := 0
  deriving DecidableEq, Repr

/-- CAN_ERR (R632). -/
structure CanErr where
  /-- [31:16] RO, reset 0x0000: error frames since the Sole booted; saturates -/
  errframes : BitVec 16 := 0
  /-- [15:8] RO, reset 0x00: receive error count; saturates at 255 -/
  recF : BitVec 8 := 0
  /-- [7:0] RO, reset 0x00: transmit error count; saturates at 255, BUS_OFF shown in STATE -/
  tec : BitVec 8 := 0
  deriving DecidableEq, Repr

/-- CAN_RXCFG (R633). -/
structure CanRxcfg where
  /-- [31:24] RW, reset 0x00: filter entries in use, 0–128 -/
  nflt : BitVec 8 := 0
  /-- [21] RW, reset 0: R623 -/
  fifoOvw : Bool := false
  /-- [20] RW, reset 0: 1: reject remote frames -/
  rrf : Bool := false
  /-- [19:18] RW, reset 0b00: no match, 29-bit: 0 FIFO; 1 reject; others taken as 1 -/
  nmXtd : BitVec 2 := 0
  /-- [17:16] RW, reset 0b00: no match, 11-bit: as NM_XTD -/
  nmStd : BitVec 2 := 0
  deriving DecidableEq, Repr

/-- CAN_RXF_STATUS (R633). -/
structure CanRxfStatus where
  /-- [31] RO, reset 0: 128 elements held -/
  full : Bool := false
  /-- [23:16] RO, reset 0x00: elements held, 0–128 -/
  fill : BitVec 8 := 0
  /-- [14:8] RO, reset 0x00: next element written -/
  put : BitVec 7 := 0
  /-- [6:0] RO, reset 0x00: oldest element held -/
  get : BitVec 7 := 0
  deriving DecidableEq, Repr

/-- CAN_TXCMD (R633). -/
structure CanTxcmd where
  /-- [31:30] WO, reset 0b00: 1 REQUEST; 2 CANCEL; others ignored -/
  op : BitVec 2 := 0
  /-- [5:0] WO, reset 0x00: buffer -/
  buf : BitVec 6 := 0
  deriving DecidableEq, Repr

/-- CAN_EVT (R633). -/
structure CanEvt where
  /-- [10] W1C, reset 0: sticky: a frame accepted by an entry with WATCH set -/
  watch : Bool := false
  /-- [9] W1C, reset 0: sticky: R623 -/
  rxfLost : Bool := false
  /-- [8] W1C, reset 0: sticky: R622 -/
  rxOvr : Bool := false
  /-- [7] W1C, reset 0: sticky: R619 -/
  holdLost : Bool := false
  /-- [6] W1C, reset 0: sticky: R619 -/
  lockAbnd : Bool := false
  /-- [5] W1C, reset 0: sticky: R628 -/
  txcoll : Bool := false
  /-- [4] W1C, reset 0: sticky: protocol exception -/
  pxe : Bool := false
  /-- [3] W1C, reset 0: sticky: BUS_OFF entered -/
  bo : Bool := false
  /-- [2] W1C, reset 0: sticky: PASSIVE entered -/
  ep : Bool := false
  /-- [1] W1C, reset 0: sticky: warning level reached -/
  ew : Bool := false
  /-- [0] W1C, reset 0: sticky: a write was ignored -/
  wrIgn : Bool := false
  deriving DecidableEq, Repr

/-- CAN_ERRKIND (R633). -/
structure CanErrkind where
  /-- [14:8] W1C, reset 0x00: sticky: bit 8 + k, kind k of R629 detected in the data phase -/
  dKind : BitVec 7 := 0
  /-- [6:0] W1C, reset 0x00: sticky: bit k, kind k of R629 detected in the nominal phase -/
  nKind : BitVec 7 := 0
  deriving DecidableEq, Repr

/-- Registers of block CanRegs. -/
structure CanRegs where
  /-- CAN_CTRL, offset 0x0 -/
  ctrl : CanCtrl := {}
  /-- CAN_STATUS, offset 0x4 -/
  status : CanStatus := {}
  /-- CAN_NBT, offset 0x8 -/
  nbt : CanNbt := {}
  /-- CAN_DBT, offset 0xC -/
  dbt : CanDbt := {}
  /-- CAN_SSP, offset 0x10 -/
  ssp : CanSsp := {}
  /-- CAN_ERR, offset 0x14 -/
  err : CanErr := {}
  /-- CAN_RXCFG, offset 0x18 -/
  rxcfg : CanRxcfg := {}
  /-- CAN_RXF_STATUS, offset 0x1C -/
  rxfStatus : CanRxfStatus := {}
  /-- CAN_RXF_ACK (R633) [6:0] INDEX, WO, reset 0x00: R623 -/
  rxfAck : BitVec 7 := 0
  /-- CAN_TXCMD, offset 0x3C -/
  txcmd : CanTxcmd := {}
  /-- CAN_MEM_ADDR (R633) [13:2] ADDR, RW, reset 0x000: word address, R618 -/
  memAddr : BitVec 12 := 0
  /-- CAN_MEM_DATA (R633) [31:0] DATA, RW, reset 0x0000_0000: word at ADDR -/
  memData : BitVec 32 := 0
  /-- CAN_EVT, offset 0x60 -/
  evt : CanEvt := {}
  /-- CAN_ERRKIND, offset 0x64 -/
  errkind : CanErrkind := {}
  /-- CAN_BUFTYPE0–3 (R633) [31:0] TYPE, RW, reset 0x0000_0000: bits [2j+1:2j] of CAN_BUFTYPEi: buffer 16i + j; 0 disabled; 1 receive; 2 transmit; 3 taken as disabled -/
  buftype : Vector (BitVec 32) 4 := Vector.replicate 4 0
  /-- CAN_NEW0, CAN_NEW1 (R633) [31:0] NEW, W1C, reset 0x0000_0000: R622 -/
  newB : Vector (BitVec 32) 2 := Vector.replicate 2 0
  /-- CAN_TXPEND0, CAN_TXPEND1 (R633) [31:0] PEND, RO, reset 0x0000_0000: request pending -/
  txpend : Vector (BitVec 32) 2 := Vector.replicate 2 0
  /-- CAN_TXDONE0, CAN_TXDONE1 (R633) [31:0] DONE, W1C, reset 0x0000_0000: sticky: frame sent -/
  txdone : Vector (BitVec 32) 2 := Vector.replicate 2 0
  /-- CAN_TXCXL0, CAN_TXCXL1 (R633) [31:0] CXL, W1C, reset 0x0000_0000: sticky: request ended without success -/
  txcxl : Vector (BitVec 32) 2 := Vector.replicate 2 0
  deriving DecidableEq, Repr

/-- CLK_CTRL (R655). -/
structure ClkCtrl where
  /-- [31] WO, reset 0: 1: relock under R644 -/
  relock : Bool := false
  /-- [30] RW, reset 0: 1: relock on LOL_NOW when permitted -/
  auto : Bool := false
  /-- [29] WO, reset 0: 1: start the walk -/
  rampGo : Bool := false
  /-- [28] WO, reset 0: 1: end the walk -/
  rampStop : Bool := false
  deriving DecidableEq, Repr

/-- CLK_STATUS (R655). -/
structure ClkStatus where
  /-- [31:29] RO, reset 0b000: 0 LOCKING; 1 RELOCKING; 2 LOCKED; 3 FAILED -/
  state : ClkState := .locking
  /-- [28] RO, reset 0: R647 -/
  lolNow : Bool := false
  /-- [27] RO, reset 0: R647 -/
  lorNow : Bool := false
  /-- [24] W1C, reset 0: sticky: a write was ignored -/
  wrIgn : Bool := false
  /-- [23] W1C, reset 0: sticky: loss of lock -/
  lol : Bool := false
  /-- [22] W1C, reset 0: sticky: loss of reference -/
  lor : Bool := false
  /-- [21] W1C, reset 0: sticky: R649 -/
  pllLol : Bool := false
  /-- [20] W1C, reset 0: sticky: R642 -/
  clamp : Bool := false
  /-- [19] W1C, reset 0: sticky: R636 -/
  lim : Bool := false
  /-- [18] W1C, reset 0: sticky: a relock was refused -/
  relockRef : Bool := false
  /-- [17] W1C, reset 0: sticky: a short period was swallowed -/
  minper : Bool := false
  /-- [15:0] RO, reset 0x0000: locks since the Sole booted; saturates -/
  relocks : BitVec 16 := 0
  deriving DecidableEq, Repr

/-- CLK_RAMP_CFG (R655). -/
structure ClkRampCfg where
  /-- [31:30] RW, reset 0b00: R640; 3 taken as OFF -/
  mode : BitVec 2 := 0
  /-- [11:8] RW, reset 0x0: first segment of the repeat -/
  loop : BitVec 4 := 0
  /-- [3:0] RW, reset 0x0: last segment -/
  last : BitVec 4 := 0
  deriving DecidableEq, Repr

/-- CLK_RAMP_NOW (R655). -/
structure ClkRampNow where
  /-- [31] RO, reset 0: a walk is running -/
  running : Bool := false
  /-- [27:24] RO, reset 0x0: segment in progress -/
  seg : BitVec 4 := 0
  /-- [21:0] RO, reset 0x00_0000: signed offset, 2^−20 of 25 MHz -/
  ofs : BitVec 22 := 0
  deriving DecidableEq, Repr

/-- CLK_OUT (R656). -/
structure ClkOut where
  /-- [11:8] RW, reset 0x2: as MCLK0, for CHn_GSYNC -/
  gsync : BitVec 4 := 2
  /-- [7:4] RW, reset 0x2: as MCLK0, for CHn_MCLK1 -/
  mclk1 : BitVec 4 := 2
  /-- [3:0] RW, reset 0x2: [3] INV; [2] LEVEL: 0 3.3 V, 1 1.8 V; [1] SLEW: 0 fast, 1 slow; [0] DRIVE: 0 4 mA, 1 8 mA -/
  mclk0 : BitVec 4 := 2
  deriving DecidableEq, Repr

/-- CLK_SEGk (R655). -/
structure ClkSeg where
  /-- [31:16] RW, reset 0x0000: 1 µs steps; 0 ends the profile -/
  steps : BitVec 16 := 0
  /-- [15:0] RW, reset 0x0000: signed change of OFS per step -/
  delta : BitVec 16 := 0
  deriving DecidableEq, Repr

/-- Registers of block ClkRegs. -/
structure ClkRegs where
  /-- CLK_CTRL, offset 0xB00 -/
  ctrl : ClkCtrl := {}
  /-- CLK_STATUS, offset 0xB04 -/
  status : ClkStatus := {}
  /-- CLK_CENTRE (R655) [25:0] MULT, RW, reset 0x200_0000: lock centre, 2^−20 of 25 MHz, 0x1E0_0000–0x210_0000; in force at the next lock -/
  centre : BitVec 26 := 0x2000000
  /-- CLK_RAMP_CFG, offset 0xB0C -/
  rampCfg : ClkRampCfg := {}
  /-- CLK_RAMP_NOW, offset 0xB10 -/
  rampNow : ClkRampNow := {}
  /-- CLK_OUT, offset 0xB14 -/
  out : ClkOut := {}
  /-- CLK_SEGk, offset 0xB40 -/
  seg : Vector ClkSeg 16 := Vector.replicate 16 {}
  deriving DecidableEq, Repr

end Sys2Proof.Machine
end

