-- ==== Sys2Proof/Machine/StRing.lean ====
section
/-! DEFINITION. Sys2Proof/Machine/StRing.lean: the state of the ring interface of a node: its links and lanes, the nodes
it knows and its time servo (R457 to R505). -/

namespace Sys2Proof.Machine

/-- Why a link leaves service (R464): block lock or Awl lock lost, hi-BER, on lane 1 of the link or on lane 0; skew; a
number of consecutive FAULT blocks. -/
inductive LinkCause where
  | blockLock (lane1 : Bool)
  | awlLock (lane1 : Bool)
  | hiBer (lane1 : Bool)
  | skew
  | fault (n : Nat)
  deriving DecidableEq, Repr

/-- One receive lane. -/
structure LaneSt where
  /-- Awl blocks with valid fixed bytes seen in a row, at most 2: at 2 the lane is locked (R463) -/
  seen : Nat := 0
  /-- expected positions in a row without one -/
  miss : Nat := 0
  /-- LANE of the newest Awl block -/
  lane : BitVec 2 := 0
  /-- counts of codes 0 to 4 and 9 of R504, in that order -/
  err : Vector Word 6 := Vector.replicate 6 0
  deriving DecidableEq, Repr

/-- One link: east or west. -/
structure LinkSt where
  st : LinkState := .down
  /-- time from which no FAULT block has come, in ALIGN; time of entry to UP, ns (R464, R481) -/
  tClean : Nat := 0
  tUp : Nat := 0
  /-- frames for this link wrap (R480) -/
  wrap : Bool := true
  /-- the partner's L1_READY, NID and SWAP as the Awl blocks show them (R462, R463) -/
  l1Ready : Bool := false
  nbr : Option (BitVec 6) := none
  swap : Bool := false
  /-- lane 1 transmitter asleep; it wakes and waits for L1_READY; lane 1 receiver asleep (R496, R497) -/
  txSleep : Bool := false
  waking : Bool := false
  rxSleep : Bool := false
  lane : Vector LaneSt 2 := Vector.replicate 2 {}
  /-- counts of codes 5 to 8 of R504 for the direction -/
  err : Vector Word 4 := Vector.replicate 4 0
  /-- T1 of the newest DELAY_REQ, 2^-16 ns; the newest d, newest first, at most 16 (R489) -/
  t1 : Option Int := none
  ds : List Int := []
  /-- times of the TC0 frames and TRIP blocks this node sent on it in the last ms, ns (R474) -/
  tc0 : List Nat := []
  trips : List Nat := []
  deriving DecidableEq, Repr

/-- What a node knows of another node from its PRESENCE frames (R484, R487). -/
structure NodeSt where
  dieId : BitVec 64
  /-- words at offsets 0x08, 0x0C and 0x10 of its newest PRESENCE -/
  w2 : Word
  w3 : Word
  w4 : Word
  tLast : Nat
  /-- time from which it has shown its present time class -/
  tClass : Nat
  /-- its neighbours as it last showed them with the link UP (R483) -/
  lastE : Option (BitVec 6)
  lastW : Option (BitVec 6)
  deriving DecidableEq, Repr

/-- The newest broadcast delivered of a source, class and, for TC0, ring of origin (R479). -/
structure SeqSt where
  src : BitVec 6
  tc : BitVec 2
  west : Bool
  seq : BitVec 7
  t : Nat
  deriving DecidableEq, Repr

/-- The time servo (R491). -/
structure Servo where
  st : TimeState := .free
  /-- SYNCs in a row within 2 ns; SYNCs in a row beyond 10 ns -/
  near : Nat := 0
  far : Nat := 0
  /-- time of the newest valid SYNC and of entry to HOLDOVER, ns -/
  tSync : Nat := 0
  tHold : Nat := 0
  deriving DecidableEq, Repr

/-- The copy of a SYNC the servo took last: master, T_M, links crossed and whether it came on the east ring (R490). -/
structure SyncSt where
  nid : BitVec 6
  tm : BitVec 64
  links : Nat
  east : Bool
  deriving DecidableEq, Repr

/-- Site time at a node: its value in 2^-16 ns at a time, and the rate it has run at since, in 0.01 ppm (R491). -/
structure SiteClock where
  base : Int := 0
  t0 : Nat := 0
  freq : Int := 0
  deriving DecidableEq, Repr

/-- The ring interface of a node. -/
structure Ring where
  /-- its registers (R500) -/
  r : RingRegs := {}
  east : LinkSt := {}
  west : LinkSt := {}
  /-- RING_NID_CFG as read at the last boot (R501) -/
  bootCfg : RingNidCfg := {}
  /-- NID held; time of taking it; time from which it has listened; NIDs that PRESENCE frames have named (R485) -/
  nid : Option (BitVec 6) := none
  tNid : Nat := 0
  tListen : Nat := 0
  claim : Bool := true
  named : BitVec 64 := 0
  /-- nodes known and present -/
  nodes : List NodeSt := []
  /-- broadcasts delivered; own broadcast number of each class (R479) -/
  seqs : List SeqSt := []
  mySeq : Vector (BitVec 7) 4 := Vector.replicate 4 0
  /-- own trip count; TRIP blocks taken: source, SEQ, time, ns (R470, R471) -/
  tripSeq : BitVec 6 := 0
  trips : List (BitVec 6 × BitVec 6 × Nat) := []
  /-- the time master of the segment (R488); time from which this node has had its time class -/
  master : Option (BitVec 6) := none
  tcls : BitVec 2 := 0
  tCls : Nat := 0
  servo : Servo := {}
  servo0 : Servo := {}
  sync : Option SyncSt := none
  clock : SiteClock := {}
  /-- site time set from TOD; a TOD write waits for its PPS edge; PPS within ±1 µs of a whole second since, ns (R495, R488) -/
  siteSet : Bool := false
  todArmed : Bool := false
  tPps : Option Nat := none
  /-- nodes that joined (true) or departed since last reported to the Last engine (R487) -/
  moved : List (Bool × BitVec 6) := []
  /-- free values taken -/
  fc : Nat := 0
  jq : List JEntry := []
  oq : List Out := []
  deriving DecidableEq, Repr

end Sys2Proof.Machine
end

