-- ==== Sys2Proof/Syntax.lean ====
section
/-! DEFINITION. Sys2Proof/Syntax.lean: the commands the module takes, one constructor for each row of the table of operations
and events. A channel is named by its number `ch`; `die` numbers Soles 0 to 3 and the hub 4; a descriptor is given as its
words with the node whose gateway sent it. -/

namespace Sys2Proof

open Sys2Proof.Machine

/-- One command: what the host, the vehicle, a bus, a pin, a timer or another node does to the module. -/
inductive Instr where
  /-- R51: a host write of w at an offset of the node window; `whole`: its byte enables cover the word -/
  | registerWrite (ofs : Nat) (w : Word) (whole : Bool)
  /-- R50: a host read at an offset of the node window -/
  | lowerWordRead (ofs : Nat)
  /-- R59: a write of HUB_STITCH_CLR -/
  | stitchClr (w : Word)
  /-- R34: a packet of a channel's stitch link, toward the Sole or the hub; its CRC holds -/
  | stitchPacket (ch : Nat) (toSole ok : Bool)
  /-- R34: the retraining of a stitch link completes -/
  | stitchRetrainDone (ch : Nat)
  /-- R35: heartbeats on every stitch link -/
  | heartbeatSend
  /-- R35: 50 µs without a valid packet from the hub at a Sole -/
  | hubLost (ch : Nat)
  /-- R35: 50 µs without a valid packet from a Sole at the hub -/
  | soleLost (ch : Nat)
  /-- R43: a Sole forwards what it kept -/
  | journalForward (ch : Nat)
  /-- R41: an error in a region of R39 -/
  | dramError (region : Nat) (correctable : Bool)
  /-- R40: the refresh rate is set -/
  | dramRefresh
  /-- R42: the rail of a die shorts: Soles 0 to 3, hub 4 -/
  | railFault (die : Nat)
  /-- R38: a fault report frame of an Eyelet die -/
  | eyeletFaultReport (ch : Nat)
  /-- R38: a status frame, or (ok false) a missing or bad one: currents in mA, VSWn in mV -/
  | eyeletStatusFrame (ch : Nat) (ok : Bool) (mas : List Nat) (vsw : Nat)
  /-- R69: a write of 1 to PWM_CTRL.ARM -/
  | arm (ch : Nat)
  /-- R72: a write of 0 to PWM_CTRL.ARM -/
  | disarm (ch : Nat)
  /-- R71: a write of PWM_PERIOD -/
  | periodWrite (ch : Nat) (w : Word)
  /-- R68: the carrier start of phase k -/
  | carrierStart (ch k : Nat)
  /-- R84: CHn_GFLTg at a level for a time -/
  | gateFaultInput (ch g : Nat) (asserted : Bool) (ns : Nat)
  /-- R83: CHn_OCIN at a level for a time -/
  | overcurrentInput (ch : Nat) (mv ns : Nat)
  /-- R84: Shank's gate inhibit reaches the phase modulator -/
  | shankGateInhibit (ch : Nat)
  /-- R85: a write of PWM_TRIP -/
  | tripClear (ch : Nat) (w : Word)
  /-- R87: a telemetry frame of gate group g -/
  | gateTelemetryFrame (ch g : Nat) (f : BitVec 40)
  /-- R87: telemetry validity is judged -/
  | telemetryTimeout (ch : Nat)
  /-- R88: an imbalance window ends -/
  | imbalanceWindow (ch : Nat)
  /-- R92: the add condition is judged -/
  | dwellUpExpiry (ch : Nat)
  /-- R92: the shed condition is judged -/
  | dwellDnExpiry (ch : Nat)
  /-- R754: MODE OFF adds a missing phase -/
  | offModeAdd (ch : Nat)
  /-- R95: the thresholds are derived again -/
  | shedReplan (ch : Nat)
  /-- R97: a write of PWM_SHED_CFG -/
  | shedCfgWrite (ch : Nat) (w : Word)
  /-- R103: a write of 1 to bit k of PWM_RETIRE -/
  | retireRequest (ch : Nat) (k : Nat)
  /-- R105: a write of 0 to bit k of PWM_RETIRE -/
  | retireClear (ch : Nat) (k : Nat)
  /-- R81: a write of PWM_SYNC.SYNC_SRC -/
  | syncSrcWrite (ch : Nat) (ext : Bool)
  /-- R81: an edge on CHn_PSYNC -/
  | psyncEdge (ch : Nat) (rising : Bool)
  /-- R81: no accepted edge within 1.5 × P -/
  | psyncTimeout (ch : Nat)
  /-- R130: a write of PWM_PH_SEL -/
  | phSelCapture (ch : Nat) (w : Word)
  /-- R131: a write of PWM_SHED_VIEW -/
  | shedViewSelect (ch : Nat) (w : Word)
  /-- R141: an inner tick -/
  | innerTick (ch : Nat)
  /-- R144: an outer sample -/
  | outerSample (ch : Nat)
  /-- R151: a grant record is applied while the loop does not run -/
  | limitApplyIdle (ch : Nat)
  /-- R156: 0x0204 -/
  | loopStart (d : Desc)
  /-- R155: ON_DLY elapses -/
  | onDelayExpiry (ch : Nat)
  /-- R155: OFF_DLY elapses -/
  | offDelayExpiry (ch : Nat)
  /-- R155: STOP_TMO elapses -/
  | stopTimeout (ch : Nat)
  /-- R155: 0x0205 -/
  | loopStop (d : Desc)
  /-- R175: 0x0208 -/
  | loopClear (d : Desc)
  /-- R158: 0x0201 -/
  | bankWrite (d : Desc)
  /-- R159: 0x0202 -/
  | bankSeal (d : Desc)
  /-- R188: a write of LOOP_BANK_CTL -/
  | bankSealReg (ch : Nat) (w : Word)
  /-- R161: 0x0203 -/
  | bankSwap (d : Desc)
  /-- R175: 0x0206 -/
  | setpoint (d : Desc)
  /-- R175: 0x0207 -/
  | limits (d : Desc)
  /-- R168: 0x0209 -/
  | fbReturn (d : Desc)
  /-- R189: an access to LOOP_CDATA: a write of a word, or a read -/
  | cdataAccess (ch : Nat) (w : Option Word)
  /-- R163: the 1 ms check of the banks, after upsets of stored bits: outer, bank, word, flipped bits -/
  | bankCheck (ch : Nat) (upset : List (Bool × Nat × Nat × Word))
  /-- R168: FB_TMAX elapses -/
  | fallbackTimeout (ch : Nat)
  /-- R169: the power-stage NTC resistances, Ω -/
  | ntcConversion (ch : Nat) (rs : List Nat)
  /-- R173: a 1 ms mark of the auxiliary loops -/
  | auxLoopMark (ch : Nat)
  /-- R197: a channel sends its context record -/
  | contextRecordSend (ch : Nat)
  /-- R222: a context record arrives at the engine -/
  | contextRecord (ws : Vector Word 8)
  /-- R199: a channel sends its curve record -/
  | curveRecordSend (ch : Nat)
  /-- R206: a curve record arrives at the engine -/
  | curveRecord (ws : List Word)
  /-- R205: an epoch boundary -/
  | epochBoundary
  /-- R228: a grant record, with the header of its frame, at a channel -/
  | grantRecord (ch : Nat) (h : Vector Word 3) (r : Vector Word 4)
  /-- R228: 1.5 × E without a valid record -/
  | grantHoldTimeout (ch : Nat)
  /-- R228: H without a valid record -/
  | grantFloorTimeout (ch : Nat)
  /-- R231: 2 × E without a record of the lower generation -/
  | mergeTimeout (ch : Nat)
  /-- R226: the 1 ms comparison of P_IN with G_IMP -/
  | pinCheck (ch : Nat)
  /-- R222: the GHOST timer of a GCID -/
  | ghostTimeout (g : Nat)
  /-- R233: 0x0301 -/
  | siteCaps (d : Desc)
  /-- R233: 0x0302 -/
  | feederCfg (d : Desc)
  /-- R220: 0x0303 -/
  | curtail (d : Desc)
  /-- R220: the end of the curtailment of cap k -/
  | curtailExpiry (k : Nat)
  /-- R233: 0x0304 -/
  | channelCfg (d : Desc)
  /-- R233: 0x0305 -/
  | priority (d : Desc)
  /-- R222: 0x0306 -/
  | escrowRelease (d : Desc)
  /-- R233: 0x0307 -/
  | plannerCfg (d : Desc)
  /-- R233: a CONFIG frame -/
  | configStore (src : Nat) (ws : List Word)
  /-- R239: a write of LAST_CTX_SEL -/
  | ctxSelect (w : Word)
  /-- R246: 64 clocks without a transition on MDATi -/
  | streamFault (ch i : Nat)
  /-- R246: 1,024 clocks without such a run -/
  | streamFaultEnd (ch i : Nat)
  /-- R248: the fast filter outputs of the twelve streams -/
  | fastOutput (ch : Nat) (raws : List Int)
  /-- R264: the metrology filter outputs of the twelve streams -/
  | metrologySample (ch : Nat) (raws : List Int)
  /-- R257: an AC window ends -/
  | acWindowEnd (ch : Nat)
  /-- R258: a millisecond ends -/
  | msResults (ch : Nat)
  /-- R254: a write of MET_CAL_CTL -/
  | calApply (ch : Nat) (w : Word)
  /-- R271: a read of MET_IVL_DCI -/
  | ivlSnapshotRead (ch : Nat)
  /-- R272: a write of MET_IVL_CTL -/
  | ivlReset (ch : Nat) (w : Word)
  /-- R294: a write of MET_Q_SEL -/
  | qSelect (ch : Nat) (w : Word)
  /-- R277: a 100 ms efficiency window ends -/
  | effWindowEnd (ch : Nat)
  /-- R280: the 600 s store of the efficiency map -/
  | emapStore (ch : Nat)
  /-- R296: a write of MET_EMAP_SEL -/
  | emapSelect (ch : Nat) (w : Word)
  /-- R282: 0x0401 -/
  | capArm (d : Desc)
  /-- R283: 0x0402 -/
  | capTrigger (d : Desc)
  /-- R283: a trigger source of R283 fires -/
  | capTriggerEvent (ch bit : Nat)
  /-- R282: the post-trigger length elapses -/
  | capPostEnd (ch : Nat)
  /-- R287: 0x0403 -/
  | capRead (d : Desc)
  /-- R286: 0x0404 -/
  | emapClear (d : Desc)
  /-- R302: 0x0405 -/
  | legalSeal (d : Desc)
  /-- R302: 0x0406 -/
  | legalUnseal (d : Desc)
  /-- R316: 0x0407 -/
  | ledgerRead (d : Desc)
  /-- R317: 0x0408 -/
  | ledgerAck (d : Desc)
  /-- R305: 0x0409 -/
  | legalCodeLoad (d : Desc)
  /-- R319: a record's signing and write end; the number of writes that failed to read back -/
  | recordWriteDone (ch : Nat) (bad : Nat)
  /-- R319: a kept record is tried again -/
  | recordWriteRetry (ch : Nat) (bad : Nat)
  /-- R312: the comparison of the cable resistance with R_MCS -/
  | driftCompare (ch : Nat)
  /-- R320: the 60 s store of the legal registers -/
  | legalStore (ch : Nat)
  /-- R329: CE_SENSE and ID_SENSE, mV -/
  | ceIdSample (ch ceMv idMv : Nat)
  /-- R340: a write of VEH_CTRL -/
  | vehEnable (ch : Nat) (w : Word)
  /-- R340: the 10BASE-T1S link comes up -/
  | t1sLinkUp (ch : Nat)
  /-- R333: an SDP request -/
  | sdpReq (ch : Nat)
  /-- R340: SessionSetup and AuthorizationSetup -/
  | sessionSetupReq (ch : Nat) (evccid : BitVec 48)
  /-- R337: AuthorizationReq: PnC, its checks pass, the EMAID -/
  | authorizationReq (ch : Nat) (pnc ok : Bool) (emaid : Vector Word 4)
  /-- R346: the vehicle's limits -/
  | chargeParameterDiscovery (ch : Nat) (bpt : Bool) (vMax vMin iMax iDis : BitVec 16)
  /-- R340: ScheduleExchange -/
  | scheduleExchange (ch : Nat)
  /-- R340: CableCheckReq -/
  | cableCheckReq (ch : Nat)
  /-- R340: the hold of the cable check is judged -/
  | cableCheckHold (ch : Nat)
  /-- R340: CC_TMO elapses -/
  | cableCheckTimeout (ch : Nat)
  /-- R340: PreChargeReq with its voltage, 0.1 V -/
  | prechargeReq (ch : Nat) (v : BitVec 16)
  /-- R340: PRE_TMO elapses -/
  | prechargeTimeout (ch : Nat)
  /-- R340: PowerDeliveryReq: 0 Start, 1 Stop, 2 Standby -/
  | powerDeliveryReq (ch kind : Nat)
  /-- R346: DC_ChargeLoopReq: targets and limits, the present voltage it carries in mV, its error -/
  | dcChargeLoopReq (ch : Nat) (iTgt vTgt vMax iMax iDis : BitVec 16) (vEv : Option Int) (evErr : Bool)
  /-- R342: WeldingDetectionReq -/
  | weldingDetectionReq (ch : Nat)
  /-- R340: SessionStopReq -/
  | sessionStopReq (ch : Nat)
  /-- R340: TLS or TCP is lost -/
  | tlsLost (ch : Nat)
  /-- R340: an ISO 15118-20 sequence timeout -/
  | sequenceTimeout (ch : Nat)
  /-- R340: CL_TMO elapses -/
  | chargeLoopTimeout (ch : Nat)
  /-- R339: AUTH_TMO elapses -/
  | authTimeout (ch : Nat)
  /-- R340: PAUSE_MAX elapses -/
  | pauseTimeout (ch : Nat)
  /-- R354: 0x0101 -/
  | authAccept (d : Desc)
  /-- R354: 0x0102 -/
  | authReject (d : Desc)
  /-- R354: 0x0103 -/
  | sessionStop (d : Desc)
  /-- R335: 0x0104 -/
  | certLoad (d : Desc)
  /-- R338: 0x0105 -/
  | authMode (d : Desc)
  /-- R351: a read of VEH_EVT -/
  | vehEvtRead (ch : Nat)
  /-- R336: the 60 s check of the SECC leaf -/
  | certCheck (ch : Nat)
  /-- R363: the cooling sensors: PT1000 resistances, mΩ, NTC resistances, Ω, and the pressure input, mV -/
  | coolSensorConversion (ch : Nat) (pts ntcs : List Nat) (mv : Nat)
  /-- R363: the pulses of the last second -/
  | flowUpdate (ch pulses : Nat)
  /-- R367: a write of COOL_CTRL -/
  | coolEnable (ch : Nat) (w : Word)
  /-- R383: a write of 1 to AGE_RST -/
  | ageRst (ch : Nat)
  /-- R372: a 1 ms mark of the cooling controller -/
  | coolMark (ch : Nat)
  /-- R367: the rundown timer elapses -/
  | rundownTimeout (ch : Nat)
  /-- R377: flow below F_MIN for 2 s -/
  | flowLowSet (ch : Nat)
  /-- R377: flow at or above F_MIN for 5 s -/
  | flowLowClear (ch : Nat)
  /-- R377: pressure out of range for 2 s -/
  | presFltSet (ch : Nat)
  /-- R377: 5 s without a pressure condition -/
  | presFltClear (ch : Nat)
  /-- R364: contact sensors more than 10 °C apart for 1 s -/
  | pinDiscSet (ch : Nat)
  /-- R364: 10 s without such a difference -/
  | pinDiscClear (ch : Nat)
  /-- R398: a command frame to the Eyelet die -/
  | eyeletCommandFrame (ch : Nat)
  /-- R396: output i has limited for a time -/
  | eyOvercurrentTrip (ch i us : Nat)
  /-- R396: the current of output i, mA -/
  | eyShortCircuit (ch i ma : Nat)
  /-- R397: the junction rise, K, and temperature of output i -/
  | eyThermalTrip (ch i dt : Nat) (tj : Int)
  /-- R397: the junction rise, K, and temperature of output i -/
  | eyThermalRearm (ch i dt : Nat) (tj : Int)
  /-- R398: INRUSH_T of output i elapses -/
  | inrushWindowEnd (ch i : Nat)
  /-- R399: the pause of output i elapses -/
  | retryPauseEnd (ch i : Nat)
  /-- R395: output i has stayed in ON for 1 s -/
  | fcntClear (ch i : Nat)
  /-- R398: 0x0502 -/
  | eyClear (d : Desc)
  /-- R401: voltage and current of output i, held for a time -/
  | openLoadJudge (ch i mv ma ms : Nat)
  /-- R403: the voltage of output i, held for a time -/
  | outputUndervoltage (ch i mv us : Nat) (limiting : Bool)
  /-- R405: VSWn falls from one level to another, mV, in a time -/
  | supplyDip (ch v0 v1 us : Nat)
  /-- R405: VSWn at a level for a time -/
  | supplyDipEnd (ch mv us : Nat)
  /-- R411: VSWn, mV -/
  | vswUndervoltage (ch mv : Nat)
  /-- R411: VSWn, mV -/
  | vswRestore (ch mv : Nat)
  /-- R410: the levels on CHn_EYSEL2–0 -/
  | mirrorSelectInput (ch : Nat) (sel : BitVec 3)
  /-- R412: a feed frame -/
  | watchdogFeed (ch : Nat) (seq : BitVec 4)
  /-- R413: WDT_T without a counted feed -/
  | eyeletWatchdogExpiry (ch : Nat)
  /-- R413: FS_DLY after FAILSAFE entry -/
  | failsafeDelayEnd (ch : Nat)
  /-- R419: 0x0501 -/
  | eyOutput (d : Desc)
  /-- R419: 0x0503 -/
  | eyLimits (d : Desc)
  /-- R414: 0x0504 -/
  | eyResume (d : Desc)
  /-- R415: 0x0505 -/
  | eyFailsafe (d : Desc)
  /-- R393: a write of EY_CMD -/
  | eyCmdWrite (ch : Nat) (w : Word)
  /-- R430: the levels of the ESTOP, IMD and mirror lands, in the order of SHK_INPUT.LANDS -/
  | shankInputSample (ch : Nat) (lands : BitVec 6)
  /-- R430: the lands of a pair have differed for DISC_T -/
  | pairDiscrepancy (ch : Nat) (imd : Bool)
  /-- R430: CE and ID at Shank's comparators, mV -/
  | sf4Comparator (ch ceMv idMv : Nat)
  /-- R432: a copy of a safe PDU: path 0 bus A, 1 bus B, 2 east, 3 west -/
  | safePdu (ch path : Nat) (p : Vector Word 4)
  /-- R433: source i: no valid copy on a path -/
  | safePathLost (ch i : Nat) (b : Bool)
  /-- R433: source i: 1 s of valid copies on a lost path -/
  | safePathRestored (ch i : Nat) (b : Bool)
  /-- R434: a SITE_MASTER channel sends its PDU -/
  | sitePduSend (ch : Nat)
  /-- R435: a waiting demand takes effect -/
  | shankDemand (ch : Nat)
  /-- R435: arming is judged -/
  | shankArm (ch : Nat)
  /-- R435: faults are judged in READY -/
  | shankFault (ch : Nat)
  /-- R435: 1 s without a fault in BLOCKED -/
  | blockedClear (ch : Nat)
  /-- R435: DEG_TMAX elapses -/
  | degradedTimeout (ch : Nat)
  /-- R438: the current in DEGRADED is judged -/
  | degradedCurrentCheck (ch : Nat)
  /-- R435: the end of STOP1 is judged -/
  | stop1Timeout (ch : Nat)
  /-- R429: CT_DLY after the gates are low -/
  | contactorDelayEnd (ch : Nat)
  /-- R435: the exit from SAFE_STOP is judged -/
  | safeStopExit (ch : Nat)
  /-- R439: TP_INT elapses -/
  | testPulse (ch : Nat)
  /-- R439: a test pulse ends -/
  | testPulseEnd (ch : Nat)
  /-- R442: deviation of the reference in two windows, ‰; −1000 when absent -/
  | clockMonitorTrip (ch : Nat) (d1 d2 : Int)
  /-- R443: an interval of the watched phase, 10 ns, or no marker -/
  | pwmPeriodWatchdogTrip (ch iv : Nat) (marker : Bool)
  /-- R445: WELD_T after a coil change -/
  | weldCheck (ch : Nat) (neg : Bool)
  /-- R446: 1 s after the contactors turned off -/
  | dischargeCheck (ch : Nat)
  /-- R447: the 1 s check of the block, after an upset of a word -/
  | paramBlockCheck (ch word : Nat) (flip : Word)
  /-- R447: 0x0601 -/
  | shkParamWrite (d : Desc)
  /-- R448: 0x0602 -/
  | shkConfirm (d : Desc)
  /-- R453: 0x0603 -/
  | shkReset (d : Desc)
  /-- R439: 0x0604 -/
  | shkTest (d : Desc)
  /-- R464: block lock on every receive lane not asleep -/
  | blockLock (west : Bool)
  /-- R463: an Awl block with the bit parity seen, lane skew, and bad and control blocks since the last -/
  | awlBlock (west lane1 : Bool) (blk : BitVec 64) (bip : Byte) (skew bad ctl : Nat)
  /-- R464: 1 ms without FAULT blocks and the partner ready -/
  | linkUp (west : Bool)
  /-- R464: a cause that takes a link down -/
  | linkDown (west : Bool) (cause : LinkCause)
  /-- R464: a write of RING_CTRL ISOLATE -/
  | ringIsolate (west on : Bool)
  /-- R481: a link UP for 100 ms -/
  | wrapRelease (west : Bool)
  /-- R469: a frame on a link: header, payload, CRC word, ABORT, and a SYNC's residence, 2^-16 ns -/
  | ringFrame (onWest : Bool) (hdr : BitVec 56) (payload : List Word) (crc : Word) (abort : Bool) (resid : Nat)
  /-- R471: a TRIP block -/
  | tripBlock (onWest : Bool) (field : BitVec 56)
  /-- R475: a trip request of a channel -/
  | tripRequest (ch : Nat)
  /-- R484: the 1 ms PRESENCE frame -/
  | presenceSend
  /-- R487: a PRESENCE frame's payload -/
  | presence (w : Vector Word 5)
  /-- R485: the listen ends -/
  | nidClaim
  /-- R487: 3 ms without PRESENCE of a die -/
  | nodeDepart (die : BitVec 64)
  /-- R489: DELAY_REQ on each UP link, with the fractions of their stamps -/
  | delayExchange (fE fW : BitVec 16)
  /-- R489: a DELAY_REQ arrives: stamp fractions and turn-round, ns -/
  | delayReq (west : Bool) (f2 f3 : BitVec 16) (turn : Nat)
  /-- R489: a DELAY_RESP arrives -/
  | delayResp (west : Bool) (w : Vector Word 5) (f4 : BitVec 16)
  /-- R490: the master's SYNC frame, with the fraction of its stamp -/
  | syncSend (f : BitVec 16)
  /-- R491: a SYNC frame's payload, the links it crossed, the fraction of its arrival -/
  | sync (onWest : Bool) (links : Nat) (w : Vector Word 5) (f : BitVec 16)
  /-- R491: 500 µs without a valid SYNC -/
  | syncLoss
  /-- R491: 10 ms in HOLDOVER -/
  | holdoverTimeout
  /-- R488: mastership is evaluated -/
  | masterChange
  /-- R495: a write of RING_TOD_HI -/
  | todWrite (w : Word)
  /-- R495: a rising edge on HUB_PPS_IN -/
  | ppsEdge
  /-- R496: lane 1 of a link goes to sleep -/
  | laneSleep (west : Bool)
  /-- R497: lane 1 of a link wakes -/
  | laneWake (west : Bool)
  /-- R498: a write of RING_LB -/
  | loopbackWrite (w : Word)
  /-- R504: a write of RING_ERR_SEL -/
  | errSelect (w : Word)
  /-- R504: a write of RING_ERR_CLR -/
  | errClear (w : Word)
  /-- R505: a write of RING_NODE_SEL -/
  | nodeSelect (w : Word)
  /-- R501: a write of RING_NID_CFG -/
  | nidCfgWrite (w : Word)
  /-- R512: a BAR0 access to a node window -/
  | remoteRegisterAccess (node ofs : Nat) (write : Bool) (w : Word)
  /-- R539: a REG_REQ frame's payload -/
  | regReq (src : Nat) (w0 w1 : Word)
  /-- R512: a REG_RESP frame's payload -/
  | regResp (w0 w1 : Word)
  /-- R512: RD_TMO of a request -/
  | remoteReadTimeout (rid : Nat)
  /-- R518: a write of the SQ_TAIL word of doorbell k -/
  | sqDoorbell (k : Nat) (w : Word)
  /-- R518: a write of the CQ_HEAD word of doorbell k -/
  | cqDoorbell (k : Nat) (w : Word)
  /-- R517: EN 1 for ring k -/
  | ringEnable (k : Nat)
  /-- R517: EN 0 for ring k -/
  | ringDisable (k : Nat)
  /-- R517: ABORT for ring k -/
  | ringAbort (k : Nat)
  /-- R517: no descriptor of a draining ring in flight -/
  | ringDrainDone (k : Nat)
  /-- R519: a fetch of ring k completes with descriptors, or fails -/
  | descriptorFetch (k : Nat) (ok : Bool) (ds : List (Vector Word 16))
  /-- R524: a DESC frame -/
  | desc (d : Desc)
  /-- R539: a COMPL frame's payload -/
  | compl (src : Nat) (w : Vector Word 5)
  /-- R521: TIME of ring k elapses -/
  | irqTimeExpiry (k : Nat)
  /-- R526: TMO of a request -/
  | descriptorTimeout (rid : Nat)
  /-- R532: 10 ms with the session queue not empty -/
  | sessionAttnRepeat (ch : Nat)
  /-- R537: an access to a word-port data window -/
  | wpDataAccess (node k ofs : Nat) (write : Bool) (w : Word)
  /-- R535: COMMIT with WLEN -/
  | wpCommit (node k wlen : Nat)
  /-- R536: ACK -/
  | wpAck (node k : Nat)
  /-- R536: NAK -/
  | wpNak (node k : Nat)
  /-- R538: ABORT -/
  | wpAbort (node k : Nat)
  /-- R538: 10 s without a host access -/
  | wpTimeout (node k : Nat)
  /-- R535: a WORD frame's payload -/
  | word (src : Nat) (w0 w1 : Word) (data : List Word)
  /-- R509: PERST_N, hot reset or DL_Down -/
  | endpointReset
  /-- R510: the link's state, speed and width -/
  | gatewayRoleChange (up : Bool) (speed : BitVec 4) (width : BitVec 2)
  /-- R544: a write of GW_CNT_SEL -/
  | cntSelect (w : Word)
  /-- R548: election is evaluated -/
  | coordElect
  /-- R550: a MIRROR_CAPS frame's payload -/
  | mirrorCaps (ws : List Word)
  /-- R550: a MIRROR_CTX frame's payload -/
  | mirrorCtx (ws : List Word)
  /-- R550: the 10 ms checkpoint -/
  | checkpointTimer
  /-- R550: a CKPT frame's payload -/
  | ckpt (ws : List Word)
  /-- R551: the two body words of a VERDICT frame -/
  | verdict (w : Vector Word 2)
  /-- R556: the two body words of a TAKEOVER frame -/
  | takeoverFrame (w : Vector Word 2)
  /-- R548: a grant frame of another engine -/
  | higherGenGrant (ws : List Word)
  /-- R557: the resting planner is ready -/
  | plannerWakeDone
  /-- R560: the two body words of a SWAP_REQ frame -/
  | swapReq (src : Nat) (w : Vector Word 2)
  /-- R560: the two body words of a SWAP_ACK frame -/
  | swapAck (w : Vector Word 2)
  /-- R565: 0x0801 -/
  | fwLoad (d : Desc)
  /-- R565: 0x0802 -/
  | fwCommit (d : Desc)
  /-- R704: a commit ends, verified or not -/
  | fwCommitDone (die : Nat) (ok : Bool)
  /-- R568: 0x0803 -/
  | fwActivate (d : Desc)
  /-- R566: activated firmware reaches running -/
  | fwRunning (die : Nat)
  /-- R568: TRIAL_T lapses, or running is missed -/
  | trialLapse (die : Nat)
  /-- R573: 0x0804 -/
  | pairAssign (d : Desc)
  /-- R560: 0x0805 -/
  | pairSwap (d : Desc)
  /-- R561: 0x0806 -/
  | chHold (d : Desc)
  /-- R585: 0x0701 -/
  | keyWrite (d : Desc)
  /-- R586: 0x0702 -/
  | keyZeroise (d : Desc)
  /-- R581: 0x0703 -/
  | lcAdvance (d : Desc)
  /-- R582: 0x0704 -/
  | debugSet (d : Desc)
  /-- R600: 0x0705 -/
  | tamperClear (d : Desc)
  /-- R603: 0x0706 -/
  | tamperCfg (d : Desc)
  /-- R595: a tamper input at a level for a time -/
  | tamperInputAlarm (die : Nat) (i isOpen : Bool) (ms : Nat)
  /-- R596: a detector's reading -/
  | tamperDetectorAlarm (die code : Nat) (x : Int)
  /-- R598: the volatile session keys are due -/
  | sessionKeyZeroise (ch : Nat)
  /-- R591: a write of KEY_CTR_SEL -/
  | keyCtrSelect (die : Nat) (w : Word)
  /-- R611: a write of CAN_CTRL with INIT 0; bus A false, B true -/
  | canInitLeave (ch : Nat) (b : Bool) (w : Word)
  /-- R611: a write of CAN_CTRL with INIT 1 -/
  | canInitEnter (ch : Nat) (b : Bool) (w : Word)
  /-- R611: 11 consecutive recessive bits -/
  | canIntegrated (ch : Nat) (b : Bool)
  /-- R621: a valid frame, received so many ns ago -/
  | canFrameRx (ch : Nat) (b : Bool) (fr : CanFrame) (age : Nat)
  /-- R626: the frame for the next attempt is selected -/
  | canArbitrationSelect (ch : Nat) (b : Bool)
  /-- R625: the attempt succeeds; its age, and the loop delay measured -/
  | canTxSuccess (ch : Nat) (b : Bool) (age : Nat) (dly : Option Nat)
  /-- R629: the attempt ends in lost arbitration or an error -/
  | canTxError (ch : Nat) (b lost : Bool) (kind : Nat) (dataPhase field exempt : Bool)
  /-- R625: REQUEST for buffer k -/
  | canTxRequest (ch : Nat) (b : Bool) (k : Nat)
  /-- R627: CANCEL for buffer k; its cut-off has passed -/
  | canTxCancel (ch : Nat) (b : Bool) (k : Nat) (cut : Bool)
  /-- R629: an error on a received frame and its step of REC -/
  | canRxError (ch : Nat) (b : Bool) (kind : Nat) (dataPhase : Bool) (step : Nat)
  /-- R611: REC_DLY elapses -/
  | canRecoveryDelay (ch : Nat) (b : Bool)
  /-- R611: 128 occurrences of 11 recessive bits -/
  | canRecovered (ch : Nat) (b : Bool)
  /-- R611: a protocol exception -/
  | canProtocolException (ch : Nat) (b : Bool)
  /-- R619: an access to CAN_MEM_DATA of the host's or the core's port -/
  | canMemAccess (ch : Nat) (b core : Bool) (w : Option Word)
  /-- R619: a write of CAN_MEM_ADDR -/
  | canMemAddrWrite (ch : Nat) (b core : Bool) (w : Word)
  /-- R619: the hold register is written -/
  | canHoldWrite (ch : Nat) (b : Bool)
  /-- R623: a write of CAN_RXF_ACK -/
  | canRxfAck (ch : Nat) (b : Bool) (w : Word)
  /-- R644: a relock is asked for by RELOCK or AUTO -/
  | relock (ch : Nat) (auto : Bool)
  /-- R646: four windows in tolerance -/
  | lockVerified (ch : Nat)
  /-- R644: 5 ms without lock -/
  | lockAttemptTimeout (ch : Nat)
  /-- R647: two windows out -/
  | lossOfLock (ch : Nat)
  /-- R647: ten windows in -/
  | lockRegained (ch : Nat)
  /-- R647: 200 ns without a reference edge -/
  | lossOfReference (ch : Nat)
  /-- R647: 10 µs of regular edges -/
  | referenceRegained (ch : Nat)
  /-- R641: a write of RAMP_GO -/
  | rampGo (ch : Nat)
  /-- R641: a write of RAMP_STOP -/
  | rampStop (ch : Nat)
  /-- R640: a microsecond of a walk -/
  | rampStep (ch : Nat)
  /-- R649: the integer PLL loses lock -/
  | pllLol (ch : Nat)
  /-- R652: a hub synthesiser or the reference: 0 core, 1 lanes, 2 DRAM, 3 PCI Express, 4 reference; lost or back -/
  | hubLossOfLock (which : Nat) (lost : Bool)
  /-- R664: the 1 ms evaluation: VAUX, mV, and the module's power, mW -/
  | pmEvaluate (vaux mw : Nat)
  /-- R665: DWELL of a unit: channels 0 to 3, hub 4 -/
  | pmLower (u : Nat)
  /-- R665: a unit completes its move -/
  | pmStateReached (u : Nat)
  /-- R666: a wake source of R666 -/
  | pmWake (u code : Nat)
  /-- R668: the junction sensors of a die, 0.1 °C -/
  | tempConversion (die : Nat) (rs : List Int)
  /-- R672: the 100 ms throttle step -/
  | throttleUpdate (die : Nat)
  /-- R673: 100 ms at or above 125 °C -/
  | junctionShutdown (ch : Nat)
  /-- R681: a write of TH_DIE_SEL -/
  | thDieSelect (w : Word)
  /-- R674: the slacks of the replicas, ps -/
  | ageingMeasure (die : Nat) (slacks : List Int)
  /-- R676: the re-plan -/
  | ageingReplan (die : Nat)
  /-- R677: the weekly record -/
  | ageingRecord (die : Nat)
  /-- R682: a write of AGE_SEL -/
  | ageSelect (w : Word)
  /-- R693: 0x0901 -/
  | cobRun (d : Desc)
  /-- R693: 0x0902 -/
  | cobAbort (d : Desc)
  /-- R686: 0x0903 -/
  | cobSched (d : Desc)
  /-- R686: a background test falls due -/
  | cobTestDue (die test : Nat)
  /-- R685: the next waiting test starts -/
  | cobTestStart
  /-- R688: the running test of a die ends; DETAIL, 0 for a pass -/
  | cobTestEnd (die : Nat) (detail : BitVec 8)
  /-- R689: the causes of R689 are judged -/
  | cobTestAbort (die : Nat)
  /-- R686: 24 h of waiting -/
  | cobWaitRaise (die : Nat)
  /-- R696: a write of COB_RES_SEL -/
  | cobResSelect (w : Word)
  /-- R697: VAUX at a level for a time -/
  | vauxValid (mv us : Nat)
  /-- R698: VHOLD, 0.1 V -/
  | vholdOk (dv : Nat)
  /-- R700: the rise of VHOLD from 20 V to 40 V -/
  | holdupMeasure (us : Nat)
  /-- R707: VAUX, mV -/
  | pfail (mv : Nat)
  /-- R707: VHOLD, 0.1 V, after PFAIL -/
  | railsOff (dv : Nat)
  /-- R703: the hub boots; the checks of its slots -/
  | hubBoot (okBoot okOther : Bool)
  /-- R702: a Sole boots; the checks of its legal code and slots -/
  | soleBoot (ch : Nat) (okLegal okBoot okOther : Bool)
  /-- R712: RESET_N at a level for a time -/
  | resetPin (low : Bool) (us : Nat)
  /-- R713: RESET_N low for a time -/
  | resetStuck (us : Nat)
  /-- R713: RESET_N high for a time -/
  | resetUnmask (us : Nat)
  /-- R719: 0x0707 -/
  | stuckAck (d : Desc)
  /-- R715: TMO of HUB_WDT -/
  | hubWatchdogExpiry
  /-- R715: TMO of CH_WDT -/
  | soleWatchdogExpiry (ch : Nat)
  /-- R716: the Tongue's 1 s -/
  | tongueWatchdogExpiry (ch : Nat)
  /-- R729: VAUX at a level for a time -/
  | vauxSurge (mv us : Nat)
  /-- R332: a vehicle request the Tongue does not support -/
  | unsupportedRequest (ch : Nat)
  /-- R235: 100 ms after a configuration was broadcast -/
  | configStoreTimeout
  /-- R507: a write of Bus Master Enable -/
  | busMasterEnable (on : Bool)
  deriving DecidableEq, Repr

end Sys2Proof
end

