-- ==== Sys2Proof/WellFormed.lean ====
section
/-! DEFINITION. Sys2Proof/WellFormed.lean: the check of a command's operands: the channel, die, output, ring or port it names
exists, and a descriptor carries the opcode of its row. A command that fails the check changes nothing that it does not
name; no step stops on it. -/

namespace Sys2Proof

/-- The opcode that a row's descriptor carries (R519 and the opcode tables); none for a command that is no descriptor, and
for DESC, which delivers any. -/
def Instr.opcode? : Instr → Option Nat
  | .registerWrite _ _ _ => none
  | .lowerWordRead _ => none
  | .stitchClr _ => none
  | .stitchPacket _ _ _ => none
  | .stitchRetrainDone _ => none
  | .heartbeatSend => none
  | .hubLost _ => none
  | .soleLost _ => none
  | .journalForward _ => none
  | .dramError _ _ => none
  | .dramRefresh => none
  | .railFault _ => none
  | .eyeletFaultReport _ => none
  | .eyeletStatusFrame _ _ _ _ => none
  | .arm _ => none
  | .disarm _ => none
  | .periodWrite _ _ => none
  | .carrierStart _ _ => none
  | .gateFaultInput _ _ _ _ => none
  | .overcurrentInput _ _ _ => none
  | .shankGateInhibit _ => none
  | .tripClear _ _ => none
  | .gateTelemetryFrame _ _ _ => none
  | .telemetryTimeout _ => none
  | .imbalanceWindow _ => none
  | .dwellUpExpiry _ => none
  | .dwellDnExpiry _ => none
  | .offModeAdd _ => none
  | .shedReplan _ => none
  | .shedCfgWrite _ _ => none
  | .retireRequest _ _ => none
  | .retireClear _ _ => none
  | .syncSrcWrite _ _ => none
  | .psyncEdge _ _ => none
  | .psyncTimeout _ => none
  | .phSelCapture _ _ => none
  | .shedViewSelect _ _ => none
  | .innerTick _ => none
  | .outerSample _ => none
  | .limitApplyIdle _ => none
  | .loopStart _ => some 0x0204
  | .onDelayExpiry _ => none
  | .offDelayExpiry _ => none
  | .stopTimeout _ => none
  | .loopStop _ => some 0x0205
  | .loopClear _ => some 0x0208
  | .bankWrite _ => some 0x0201
  | .bankSeal _ => some 0x0202
  | .bankSealReg _ _ => none
  | .bankSwap _ => some 0x0203
  | .setpoint _ => some 0x0206
  | .limits _ => some 0x0207
  | .fbReturn _ => some 0x0209
  | .cdataAccess _ _ => none
  | .bankCheck _ _ => none
  | .fallbackTimeout _ => none
  | .ntcConversion _ _ => none
  | .auxLoopMark _ => none
  | .contextRecordSend _ => none
  | .contextRecord _ => none
  | .curveRecordSend _ => none
  | .curveRecord _ => none
  | .epochBoundary => none
  | .grantRecord _ _ _ => none
  | .grantHoldTimeout _ => none
  | .grantFloorTimeout _ => none
  | .mergeTimeout _ => none
  | .pinCheck _ => none
  | .ghostTimeout _ => none
  | .siteCaps _ => some 0x0301
  | .feederCfg _ => some 0x0302
  | .curtail _ => some 0x0303
  | .curtailExpiry _ => none
  | .channelCfg _ => some 0x0304
  | .priority _ => some 0x0305
  | .escrowRelease _ => some 0x0306
  | .plannerCfg _ => some 0x0307
  | .configStore _ _ => none
  | .ctxSelect _ => none
  | .streamFault _ _ => none
  | .streamFaultEnd _ _ => none
  | .fastOutput _ _ => none
  | .metrologySample _ _ => none
  | .acWindowEnd _ => none
  | .msResults _ => none
  | .calApply _ _ => none
  | .ivlSnapshotRead _ => none
  | .ivlReset _ _ => none
  | .qSelect _ _ => none
  | .effWindowEnd _ => none
  | .emapStore _ => none
  | .emapSelect _ _ => none
  | .capArm _ => some 0x0401
  | .capTrigger _ => some 0x0402
  | .capTriggerEvent _ _ => none
  | .capPostEnd _ => none
  | .capRead _ => some 0x0403
  | .emapClear _ => some 0x0404
  | .legalSeal _ => some 0x0405
  | .legalUnseal _ => some 0x0406
  | .ledgerRead _ => some 0x0407
  | .ledgerAck _ => some 0x0408
  | .legalCodeLoad _ => some 0x0409
  | .recordWriteDone _ _ => none
  | .recordWriteRetry _ _ => none
  | .driftCompare _ => none
  | .legalStore _ => none
  | .ceIdSample _ _ _ => none
  | .vehEnable _ _ => none
  | .t1sLinkUp _ => none
  | .sdpReq _ => none
  | .sessionSetupReq _ _ => none
  | .authorizationReq _ _ _ _ => none
  | .chargeParameterDiscovery _ _ _ _ _ _ => none
  | .scheduleExchange _ => none
  | .cableCheckReq _ => none
  | .cableCheckHold _ => none
  | .cableCheckTimeout _ => none
  | .prechargeReq _ _ => none
  | .prechargeTimeout _ => none
  | .powerDeliveryReq _ _ => none
  | .dcChargeLoopReq _ _ _ _ _ _ _ _ => none
  | .weldingDetectionReq _ => none
  | .sessionStopReq _ => none
  | .tlsLost _ => none
  | .sequenceTimeout _ => none
  | .chargeLoopTimeout _ => none
  | .authTimeout _ => none
  | .pauseTimeout _ => none
  | .authAccept _ => some 0x0101
  | .authReject _ => some 0x0102
  | .sessionStop _ => some 0x0103
  | .certLoad _ => some 0x0104
  | .authMode _ => some 0x0105
  | .vehEvtRead _ => none
  | .certCheck _ => none
  | .coolSensorConversion _ _ _ _ => none
  | .flowUpdate _ _ => none
  | .coolEnable _ _ => none
  | .ageRst _ => none
  | .coolMark _ => none
  | .rundownTimeout _ => none
  | .flowLowSet _ => none
  | .flowLowClear _ => none
  | .presFltSet _ => none
  | .presFltClear _ => none
  | .pinDiscSet _ => none
  | .pinDiscClear _ => none
  | .eyeletCommandFrame _ => none
  | .eyOvercurrentTrip _ _ _ => none
  | .eyShortCircuit _ _ _ => none
  | .eyThermalTrip _ _ _ _ => none
  | .eyThermalRearm _ _ _ _ => none
  | .inrushWindowEnd _ _ => none
  | .retryPauseEnd _ _ => none
  | .fcntClear _ _ => none
  | .eyClear _ => some 0x0502
  | .openLoadJudge _ _ _ _ _ => none
  | .outputUndervoltage _ _ _ _ _ => none
  | .supplyDip _ _ _ _ => none
  | .supplyDipEnd _ _ _ => none
  | .vswUndervoltage _ _ => none
  | .vswRestore _ _ => none
  | .mirrorSelectInput _ _ => none
  | .watchdogFeed _ _ => none
  | .eyeletWatchdogExpiry _ => none
  | .failsafeDelayEnd _ => none
  | .eyOutput _ => some 0x0501
  | .eyLimits _ => some 0x0503
  | .eyResume _ => some 0x0504
  | .eyFailsafe _ => some 0x0505
  | .eyCmdWrite _ _ => none
  | .shankInputSample _ _ => none
  | .pairDiscrepancy _ _ => none
  | .sf4Comparator _ _ _ => none
  | .safePdu _ _ _ => none
  | .safePathLost _ _ _ => none
  | .safePathRestored _ _ _ => none
  | .sitePduSend _ => none
  | .shankDemand _ => none
  | .shankArm _ => none
  | .shankFault _ => none
  | .blockedClear _ => none
  | .degradedTimeout _ => none
  | .degradedCurrentCheck _ => none
  | .stop1Timeout _ => none
  | .contactorDelayEnd _ => none
  | .safeStopExit _ => none
  | .testPulse _ => none
  | .testPulseEnd _ => none
  | .clockMonitorTrip _ _ _ => none
  | .pwmPeriodWatchdogTrip _ _ _ => none
  | .weldCheck _ _ => none
  | .dischargeCheck _ => none
  | .paramBlockCheck _ _ _ => none
  | .shkParamWrite _ => some 0x0601
  | .shkConfirm _ => some 0x0602
  | .shkReset _ => some 0x0603
  | .shkTest _ => some 0x0604
  | .blockLock _ => none
  | .awlBlock _ _ _ _ _ _ _ => none
  | .linkUp _ => none
  | .linkDown _ _ => none
  | .ringIsolate _ _ => none
  | .wrapRelease _ => none
  | .ringFrame _ _ _ _ _ _ => none
  | .tripBlock _ _ => none
  | .tripRequest _ => none
  | .presenceSend => none
  | .presence _ => none
  | .nidClaim => none
  | .nodeDepart _ => none
  | .delayExchange _ _ => none
  | .delayReq _ _ _ _ => none
  | .delayResp _ _ _ => none
  | .syncSend _ => none
  | .sync _ _ _ _ => none
  | .syncLoss => none
  | .holdoverTimeout => none
  | .masterChange => none
  | .todWrite _ => none
  | .ppsEdge => none
  | .laneSleep _ => none
  | .laneWake _ => none
  | .loopbackWrite _ => none
  | .errSelect _ => none
  | .errClear _ => none
  | .nodeSelect _ => none
  | .nidCfgWrite _ => none
  | .remoteRegisterAccess _ _ _ _ => none
  | .regReq _ _ _ => none
  | .regResp _ _ => none
  | .remoteReadTimeout _ => none
  | .sqDoorbell _ _ => none
  | .cqDoorbell _ _ => none
  | .ringEnable _ => none
  | .ringDisable _ => none
  | .ringAbort _ => none
  | .ringDrainDone _ => none
  | .descriptorFetch _ _ _ => none
  | .desc _ => none
  | .compl _ _ => none
  | .irqTimeExpiry _ => none
  | .descriptorTimeout _ => none
  | .sessionAttnRepeat _ => none
  | .wpDataAccess _ _ _ _ _ => none
  | .wpCommit _ _ _ => none
  | .wpAck _ _ => none
  | .wpNak _ _ => none
  | .wpAbort _ _ => none
  | .wpTimeout _ _ => none
  | .word _ _ _ _ => none
  | .endpointReset => none
  | .gatewayRoleChange _ _ _ => none
  | .cntSelect _ => none
  | .coordElect => none
  | .mirrorCaps _ => none
  | .mirrorCtx _ => none
  | .checkpointTimer => none
  | .ckpt _ => none
  | .verdict _ => none
  | .takeoverFrame _ => none
  | .higherGenGrant _ => none
  | .plannerWakeDone => none
  | .swapReq _ _ => none
  | .swapAck _ => none
  | .fwLoad _ => some 0x0801
  | .fwCommit _ => some 0x0802
  | .fwCommitDone _ _ => none
  | .fwActivate _ => some 0x0803
  | .fwRunning _ => none
  | .trialLapse _ => none
  | .pairAssign _ => some 0x0804
  | .pairSwap _ => some 0x0805
  | .chHold _ => some 0x0806
  | .keyWrite _ => some 0x0701
  | .keyZeroise _ => some 0x0702
  | .lcAdvance _ => some 0x0703
  | .debugSet _ => some 0x0704
  | .tamperClear _ => some 0x0705
  | .tamperCfg _ => some 0x0706
  | .tamperInputAlarm _ _ _ _ => none
  | .tamperDetectorAlarm _ _ _ => none
  | .sessionKeyZeroise _ => none
  | .keyCtrSelect _ _ => none
  | .canInitLeave _ _ _ => none
  | .canInitEnter _ _ _ => none
  | .canIntegrated _ _ => none
  | .canFrameRx _ _ _ _ => none
  | .canArbitrationSelect _ _ => none
  | .canTxSuccess _ _ _ _ => none
  | .canTxError _ _ _ _ _ _ _ => none
  | .canTxRequest _ _ _ => none
  | .canTxCancel _ _ _ _ => none
  | .canRxError _ _ _ _ _ => none
  | .canRecoveryDelay _ _ => none
  | .canRecovered _ _ => none
  | .canProtocolException _ _ => none
  | .canMemAccess _ _ _ _ => none
  | .canMemAddrWrite _ _ _ _ => none
  | .canHoldWrite _ _ => none
  | .canRxfAck _ _ _ => none
  | .relock _ _ => none
  | .lockVerified _ => none
  | .lockAttemptTimeout _ => none
  | .lossOfLock _ => none
  | .lockRegained _ => none
  | .lossOfReference _ => none
  | .referenceRegained _ => none
  | .rampGo _ => none
  | .rampStop _ => none
  | .rampStep _ => none
  | .pllLol _ => none
  | .hubLossOfLock _ _ => none
  | .pmEvaluate _ _ => none
  | .pmLower _ => none
  | .pmStateReached _ => none
  | .pmWake _ _ => none
  | .tempConversion _ _ => none
  | .throttleUpdate _ => none
  | .junctionShutdown _ => none
  | .thDieSelect _ => none
  | .ageingMeasure _ _ => none
  | .ageingReplan _ => none
  | .ageingRecord _ => none
  | .ageSelect _ => none
  | .cobRun _ => some 0x0901
  | .cobAbort _ => some 0x0902
  | .cobSched _ => some 0x0903
  | .cobTestDue _ _ => none
  | .cobTestStart => none
  | .cobTestEnd _ _ => none
  | .cobTestAbort _ => none
  | .cobWaitRaise _ => none
  | .cobResSelect _ => none
  | .vauxValid _ _ => none
  | .vholdOk _ => none
  | .holdupMeasure _ => none
  | .pfail _ => none
  | .railsOff _ => none
  | .hubBoot _ _ => none
  | .soleBoot _ _ _ _ => none
  | .resetPin _ _ => none
  | .resetStuck _ => none
  | .resetUnmask _ => none
  | .stuckAck _ => some 0x0707
  | .hubWatchdogExpiry => none
  | .soleWatchdogExpiry _ => none
  | .tongueWatchdogExpiry _ => none
  | .vauxSurge _ _ => none
  | .unsupportedRequest _ => none
  | .configStoreTimeout => none
  | .busMasterEnable _ => none

/-- The check of a command. -/
def Instr.wf : Instr → Bool
  | .registerWrite ofs _ _ => decide (ofs < 0x20000)
  | .lowerWordRead ofs => decide (ofs < 0x20000)
  | .stitchClr _ => true
  | .stitchPacket ch _ _ => decide (ch < 4)
  | .stitchRetrainDone ch => decide (ch < 4)
  | .heartbeatSend => true
  | .hubLost ch => decide (ch < 4)
  | .soleLost ch => decide (ch < 4)
  | .journalForward ch => decide (ch < 4)
  | .dramError region _ => decide (region < 8)
  | .dramRefresh => true
  | .railFault die => decide (die ≤ 4)
  | .eyeletFaultReport ch => decide (ch < 4)
  | .eyeletStatusFrame ch _ _ _ => decide (ch < 4)
  | .arm ch => decide (ch < 4)
  | .disarm ch => decide (ch < 4)
  | .periodWrite ch _ => decide (ch < 4)
  | .carrierStart ch k => decide (ch < 4 ∧ k < 24)
  | .gateFaultInput ch g _ _ => decide (ch < 4 ∧ g < 6)
  | .overcurrentInput ch _ _ => decide (ch < 4)
  | .shankGateInhibit ch => decide (ch < 4)
  | .tripClear ch _ => decide (ch < 4)
  | .gateTelemetryFrame ch g _ => decide (ch < 4 ∧ g < 6)
  | .telemetryTimeout ch => decide (ch < 4)
  | .imbalanceWindow ch => decide (ch < 4)
  | .dwellUpExpiry ch => decide (ch < 4)
  | .dwellDnExpiry ch => decide (ch < 4)
  | .offModeAdd ch => decide (ch < 4)
  | .shedReplan ch => decide (ch < 4)
  | .shedCfgWrite ch _ => decide (ch < 4)
  | .retireRequest ch k => decide (ch < 4 ∧ k < 24)
  | .retireClear ch k => decide (ch < 4 ∧ k < 24)
  | .syncSrcWrite ch _ => decide (ch < 4)
  | .psyncEdge ch _ => decide (ch < 4)
  | .psyncTimeout ch => decide (ch < 4)
  | .phSelCapture ch _ => decide (ch < 4)
  | .shedViewSelect ch _ => decide (ch < 4)
  | .innerTick ch => decide (ch < 4)
  | .outerSample ch => decide (ch < 4)
  | .limitApplyIdle ch => decide (ch < 4)
  | .loopStart d => decide (d.opcode = 0x0204)
  | .onDelayExpiry ch => decide (ch < 4)
  | .offDelayExpiry ch => decide (ch < 4)
  | .stopTimeout ch => decide (ch < 4)
  | .loopStop d => decide (d.opcode = 0x0205)
  | .loopClear d => decide (d.opcode = 0x0208)
  | .bankWrite d => decide (d.opcode = 0x0201)
  | .bankSeal d => decide (d.opcode = 0x0202)
  | .bankSealReg ch _ => decide (ch < 4)
  | .bankSwap d => decide (d.opcode = 0x0203)
  | .setpoint d => decide (d.opcode = 0x0206)
  | .limits d => decide (d.opcode = 0x0207)
  | .fbReturn d => decide (d.opcode = 0x0209)
  | .cdataAccess ch _ => decide (ch < 4)
  | .bankCheck ch _ => decide (ch < 4)
  | .fallbackTimeout ch => decide (ch < 4)
  | .ntcConversion ch _ => decide (ch < 4)
  | .auxLoopMark ch => decide (ch < 4)
  | .contextRecordSend ch => decide (ch < 4)
  | .contextRecord _ => true
  | .curveRecordSend ch => decide (ch < 4)
  | .curveRecord _ => true
  | .epochBoundary => true
  | .grantRecord ch _ _ => decide (ch < 4)
  | .grantHoldTimeout ch => decide (ch < 4)
  | .grantFloorTimeout ch => decide (ch < 4)
  | .mergeTimeout ch => decide (ch < 4)
  | .pinCheck ch => decide (ch < 4)
  | .ghostTimeout g => decide (g < 256)
  | .siteCaps d => decide (d.opcode = 0x0301)
  | .feederCfg d => decide (d.opcode = 0x0302)
  | .curtail d => decide (d.opcode = 0x0303)
  | .curtailExpiry k => decide (k < 9)
  | .channelCfg d => decide (d.opcode = 0x0304)
  | .priority d => decide (d.opcode = 0x0305)
  | .escrowRelease d => decide (d.opcode = 0x0306)
  | .plannerCfg d => decide (d.opcode = 0x0307)
  | .configStore src ws => decide (src < 64 ∧ ws.length = 16)
  | .ctxSelect _ => true
  | .streamFault ch i => decide (ch < 4 ∧ i < 12)
  | .streamFaultEnd ch i => decide (ch < 4 ∧ i < 12)
  | .fastOutput ch _ => decide (ch < 4)
  | .metrologySample ch _ => decide (ch < 4)
  | .acWindowEnd ch => decide (ch < 4)
  | .msResults ch => decide (ch < 4)
  | .calApply ch _ => decide (ch < 4)
  | .ivlSnapshotRead ch => decide (ch < 4)
  | .ivlReset ch _ => decide (ch < 4)
  | .qSelect ch _ => decide (ch < 4)
  | .effWindowEnd ch => decide (ch < 4)
  | .emapStore ch => decide (ch < 4)
  | .emapSelect ch _ => decide (ch < 4)
  | .capArm d => decide (d.opcode = 0x0401)
  | .capTrigger d => decide (d.opcode = 0x0402)
  | .capTriggerEvent ch bit => decide (ch < 4 ∧ bit < 5)
  | .capPostEnd ch => decide (ch < 4)
  | .capRead d => decide (d.opcode = 0x0403)
  | .emapClear d => decide (d.opcode = 0x0404)
  | .legalSeal d => decide (d.opcode = 0x0405)
  | .legalUnseal d => decide (d.opcode = 0x0406)
  | .ledgerRead d => decide (d.opcode = 0x0407)
  | .ledgerAck d => decide (d.opcode = 0x0408)
  | .legalCodeLoad d => decide (d.opcode = 0x0409)
  | .recordWriteDone ch _ => decide (ch < 4)
  | .recordWriteRetry ch _ => decide (ch < 4)
  | .driftCompare ch => decide (ch < 4)
  | .legalStore ch => decide (ch < 4)
  | .ceIdSample ch _ _ => decide (ch < 4)
  | .vehEnable ch _ => decide (ch < 4)
  | .t1sLinkUp ch => decide (ch < 4)
  | .sdpReq ch => decide (ch < 4)
  | .sessionSetupReq ch _ => decide (ch < 4)
  | .authorizationReq ch _ _ _ => decide (ch < 4)
  | .chargeParameterDiscovery ch _ _ _ _ _ => decide (ch < 4)
  | .scheduleExchange ch => decide (ch < 4)
  | .cableCheckReq ch => decide (ch < 4)
  | .cableCheckHold ch => decide (ch < 4)
  | .cableCheckTimeout ch => decide (ch < 4)
  | .prechargeReq ch _ => decide (ch < 4)
  | .prechargeTimeout ch => decide (ch < 4)
  | .powerDeliveryReq ch kind => decide (ch < 4 ∧ kind < 3)
  | .dcChargeLoopReq ch _ _ _ _ _ _ _ => decide (ch < 4)
  | .weldingDetectionReq ch => decide (ch < 4)
  | .sessionStopReq ch => decide (ch < 4)
  | .tlsLost ch => decide (ch < 4)
  | .sequenceTimeout ch => decide (ch < 4)
  | .chargeLoopTimeout ch => decide (ch < 4)
  | .authTimeout ch => decide (ch < 4)
  | .pauseTimeout ch => decide (ch < 4)
  | .authAccept d => decide (d.opcode = 0x0101)
  | .authReject d => decide (d.opcode = 0x0102)
  | .sessionStop d => decide (d.opcode = 0x0103)
  | .certLoad d => decide (d.opcode = 0x0104)
  | .authMode d => decide (d.opcode = 0x0105)
  | .vehEvtRead ch => decide (ch < 4)
  | .certCheck ch => decide (ch < 4)
  | .coolSensorConversion ch _ _ _ => decide (ch < 4)
  | .flowUpdate ch _ => decide (ch < 4)
  | .coolEnable ch _ => decide (ch < 4)
  | .ageRst ch => decide (ch < 4)
  | .coolMark ch => decide (ch < 4)
  | .rundownTimeout ch => decide (ch < 4)
  | .flowLowSet ch => decide (ch < 4)
  | .flowLowClear ch => decide (ch < 4)
  | .presFltSet ch => decide (ch < 4)
  | .presFltClear ch => decide (ch < 4)
  | .pinDiscSet ch => decide (ch < 4)
  | .pinDiscClear ch => decide (ch < 4)
  | .eyeletCommandFrame ch => decide (ch < 4)
  | .eyOvercurrentTrip ch i _ => decide (ch < 4 ∧ i < 8)
  | .eyShortCircuit ch i _ => decide (ch < 4 ∧ i < 8)
  | .eyThermalTrip ch i _ _ => decide (ch < 4 ∧ i < 8)
  | .eyThermalRearm ch i _ _ => decide (ch < 4 ∧ i < 8)
  | .inrushWindowEnd ch i => decide (ch < 4 ∧ i < 8)
  | .retryPauseEnd ch i => decide (ch < 4 ∧ i < 8)
  | .fcntClear ch i => decide (ch < 4 ∧ i < 8)
  | .eyClear d => decide (d.opcode = 0x0502)
  | .openLoadJudge ch i _ _ _ => decide (ch < 4 ∧ i < 8)
  | .outputUndervoltage ch i _ _ _ => decide (ch < 4 ∧ i < 8)
  | .supplyDip ch _ _ _ => decide (ch < 4)
  | .supplyDipEnd ch _ _ => decide (ch < 4)
  | .vswUndervoltage ch _ => decide (ch < 4)
  | .vswRestore ch _ => decide (ch < 4)
  | .mirrorSelectInput ch _ => decide (ch < 4)
  | .watchdogFeed ch _ => decide (ch < 4)
  | .eyeletWatchdogExpiry ch => decide (ch < 4)
  | .failsafeDelayEnd ch => decide (ch < 4)
  | .eyOutput d => decide (d.opcode = 0x0501)
  | .eyLimits d => decide (d.opcode = 0x0503)
  | .eyResume d => decide (d.opcode = 0x0504)
  | .eyFailsafe d => decide (d.opcode = 0x0505)
  | .eyCmdWrite ch _ => decide (ch < 4)
  | .shankInputSample ch _ => decide (ch < 4)
  | .pairDiscrepancy ch _ => decide (ch < 4)
  | .sf4Comparator ch _ _ => decide (ch < 4)
  | .safePdu ch path _ => decide (ch < 4 ∧ path < 4)
  | .safePathLost ch i _ => decide (ch < 4 ∧ i < 6)
  | .safePathRestored ch i _ => decide (ch < 4 ∧ i < 6)
  | .sitePduSend ch => decide (ch < 4)
  | .shankDemand ch => decide (ch < 4)
  | .shankArm ch => decide (ch < 4)
  | .shankFault ch => decide (ch < 4)
  | .blockedClear ch => decide (ch < 4)
  | .degradedTimeout ch => decide (ch < 4)
  | .degradedCurrentCheck ch => decide (ch < 4)
  | .stop1Timeout ch => decide (ch < 4)
  | .contactorDelayEnd ch => decide (ch < 4)
  | .safeStopExit ch => decide (ch < 4)
  | .testPulse ch => decide (ch < 4)
  | .testPulseEnd ch => decide (ch < 4)
  | .clockMonitorTrip ch _ _ => decide (ch < 4)
  | .pwmPeriodWatchdogTrip ch _ _ => decide (ch < 4)
  | .weldCheck ch _ => decide (ch < 4)
  | .dischargeCheck ch => decide (ch < 4)
  | .paramBlockCheck ch j _ => decide (ch < 4 ∧ j < 16)
  | .shkParamWrite d => decide (d.opcode = 0x0601)
  | .shkConfirm d => decide (d.opcode = 0x0602)
  | .shkReset d => decide (d.opcode = 0x0603)
  | .shkTest d => decide (d.opcode = 0x0604)
  | .blockLock _ => true
  | .awlBlock _ _ _ _ _ _ _ => true
  | .linkUp _ => true
  | .linkDown _ _ => true
  | .ringIsolate _ _ => true
  | .wrapRelease _ => true
  | .ringFrame _ _ _ _ _ _ => true
  | .tripBlock _ _ => true
  | .tripRequest ch => decide (ch < 4)
  | .presenceSend => true
  | .presence _ => true
  | .nidClaim => true
  | .nodeDepart _ => true
  | .delayExchange _ _ => true
  | .delayReq _ _ _ _ => true
  | .delayResp _ _ _ => true
  | .syncSend _ => true
  | .sync _ links _ _ => decide (links ≤ 64)
  | .syncLoss => true
  | .holdoverTimeout => true
  | .masterChange => true
  | .todWrite _ => true
  | .ppsEdge => true
  | .laneSleep _ => true
  | .laneWake _ => true
  | .loopbackWrite _ => true
  | .errSelect _ => true
  | .errClear _ => true
  | .nodeSelect _ => true
  | .nidCfgWrite _ => true
  | .remoteRegisterAccess node ofs _ _ => decide (node < 64 ∧ ofs < 0x20000)
  | .regReq src _ _ => decide (src < 64)
  | .regResp _ _ => true
  | .remoteReadTimeout rid => decide (rid < 4096)
  | .sqDoorbell k _ => decide (k < 64)
  | .cqDoorbell k _ => decide (k < 64)
  | .ringEnable k => decide (k < 64)
  | .ringDisable k => decide (k < 64)
  | .ringAbort k => decide (k < 64)
  | .ringDrainDone k => decide (k < 64)
  | .descriptorFetch k _ ds => decide (k < 64 ∧ ds.length ≤ 8)
  | .desc _ => true
  | .compl src _ => decide (src < 64)
  | .irqTimeExpiry k => decide (k < 64)
  | .descriptorTimeout rid => decide (rid < 4096)
  | .sessionAttnRepeat ch => decide (ch < 4)
  | .wpDataAccess node k ofs _ _ => decide (node < 64 ∧ k < 8 ∧ ofs < 4096)
  | .wpCommit node k _ => decide (node < 64 ∧ k < 8)
  | .wpAck node k => decide (node < 64 ∧ k < 8)
  | .wpNak node k => decide (node < 64 ∧ k < 8)
  | .wpAbort node k => decide (node < 64 ∧ k < 8)
  | .wpTimeout node k => decide (node < 64 ∧ k < 8)
  | .word src _ _ _ => decide (src < 64)
  | .endpointReset => true
  | .gatewayRoleChange _ _ _ => true
  | .cntSelect _ => true
  | .coordElect => true
  | .mirrorCaps _ => true
  | .mirrorCtx _ => true
  | .checkpointTimer => true
  | .ckpt _ => true
  | .verdict _ => true
  | .takeoverFrame _ => true
  | .higherGenGrant _ => true
  | .plannerWakeDone => true
  | .swapReq src _ => decide (src < 64)
  | .swapAck _ => true
  | .fwLoad d => decide (d.opcode = 0x0801)
  | .fwCommit d => decide (d.opcode = 0x0802)
  | .fwCommitDone die _ => decide (die ≤ 4)
  | .fwActivate d => decide (d.opcode = 0x0803)
  | .fwRunning die => decide (die ≤ 4)
  | .trialLapse die => decide (die ≤ 4)
  | .pairAssign d => decide (d.opcode = 0x0804)
  | .pairSwap d => decide (d.opcode = 0x0805)
  | .chHold d => decide (d.opcode = 0x0806)
  | .keyWrite d => decide (d.opcode = 0x0701)
  | .keyZeroise d => decide (d.opcode = 0x0702)
  | .lcAdvance d => decide (d.opcode = 0x0703)
  | .debugSet d => decide (d.opcode = 0x0704)
  | .tamperClear d => decide (d.opcode = 0x0705)
  | .tamperCfg d => decide (d.opcode = 0x0706)
  | .tamperInputAlarm die _ _ _ => decide (die ≤ 4)
  | .tamperDetectorAlarm die _ _ => decide (die ≤ 4)
  | .sessionKeyZeroise ch => decide (ch < 4)
  | .keyCtrSelect die _ => decide (die ≤ 4)
  | .canInitLeave ch _ _ => decide (ch < 4)
  | .canInitEnter ch _ _ => decide (ch < 4)
  | .canIntegrated ch _ => decide (ch < 4)
  | .canFrameRx ch _ _ _ => decide (ch < 4)
  | .canArbitrationSelect ch _ => decide (ch < 4)
  | .canTxSuccess ch _ _ _ => decide (ch < 4)
  | .canTxError ch _ _ _ _ _ _ => decide (ch < 4)
  | .canTxRequest ch _ k => decide (ch < 4 ∧ k < 64)
  | .canTxCancel ch _ k _ => decide (ch < 4 ∧ k < 64)
  | .canRxError ch _ _ _ _ => decide (ch < 4)
  | .canRecoveryDelay ch _ => decide (ch < 4)
  | .canRecovered ch _ => decide (ch < 4)
  | .canProtocolException ch _ => decide (ch < 4)
  | .canMemAccess ch _ _ _ => decide (ch < 4)
  | .canMemAddrWrite ch _ _ _ => decide (ch < 4)
  | .canHoldWrite ch _ => decide (ch < 4)
  | .canRxfAck ch _ _ => decide (ch < 4)
  | .relock ch _ => decide (ch < 4)
  | .lockVerified ch => decide (ch < 4)
  | .lockAttemptTimeout ch => decide (ch < 4)
  | .lossOfLock ch => decide (ch < 4)
  | .lockRegained ch => decide (ch < 4)
  | .lossOfReference ch => decide (ch < 4)
  | .referenceRegained ch => decide (ch < 4)
  | .rampGo ch => decide (ch < 4)
  | .rampStop ch => decide (ch < 4)
  | .rampStep ch => decide (ch < 4)
  | .pllLol ch => decide (ch < 4)
  | .hubLossOfLock which _ => decide (which < 5)
  | .pmEvaluate _ _ => true
  | .pmLower u => decide (u ≤ 4)
  | .pmStateReached u => decide (u ≤ 4)
  | .pmWake u code => decide (u ≤ 4 ∧ 1 ≤ code ∧ code ≤ 9)
  | .tempConversion die _ => decide (die ≤ 10)
  | .throttleUpdate die => decide (die ≤ 4)
  | .junctionShutdown ch => decide (ch < 4)
  | .thDieSelect _ => true
  | .ageingMeasure die _ => decide (die ≤ 4)
  | .ageingReplan die => decide (die ≤ 4)
  | .ageingRecord die => decide (die ≤ 4)
  | .ageSelect _ => true
  | .cobRun d => decide (d.opcode = 0x0901)
  | .cobAbort d => decide (d.opcode = 0x0902)
  | .cobSched d => decide (d.opcode = 0x0903)
  | .cobTestDue die test => decide (die ≤ 4 ∧ 1 ≤ test ∧ test ≤ 15)
  | .cobTestStart => true
  | .cobTestEnd die _ => decide (die ≤ 4)
  | .cobTestAbort die => decide (die ≤ 4)
  | .cobWaitRaise die => decide (die ≤ 4)
  | .cobResSelect _ => true
  | .vauxValid _ _ => true
  | .vholdOk _ => true
  | .holdupMeasure _ => true
  | .pfail _ => true
  | .railsOff _ => true
  | .hubBoot _ _ => true
  | .soleBoot ch _ _ _ => decide (ch < 4)
  | .resetPin _ _ => true
  | .resetStuck _ => true
  | .resetUnmask _ => true
  | .stuckAck d => decide (d.opcode = 0x0707)
  | .hubWatchdogExpiry => true
  | .soleWatchdogExpiry ch => decide (ch < 4)
  | .tongueWatchdogExpiry ch => decide (ch < 4)
  | .vauxSurge _ _ => true
  | .unsupportedRequest ch => decide (ch < 4)
  | .configStoreTimeout => true
  | .busMasterEnable _ => true

end Sys2Proof
end

