-- ==== Sys2Proof/Decode.lean ====
section
/-! DEFINITION. Sys2Proof/Decode.lean: the commands that words of the operations table spell. The table gives no row any bits, so
no word spells a command; descriptors and frames are decoded where they are taken (Machine/Desc.lean, Machine/Ring.lean). -/

namespace Sys2Proof

/-- The command a word spells by the table's bits: none, since no row gives bits. -/
def decodeTableWord (_nbits _w : Nat) : Option Instr := none

end Sys2Proof
end

