-- ==== Sys2Proof/Machine/OpTable.lean ====
section
/-! DEFINITION. Sys2Proof/Machine/OpTable.lean: every descriptor opcode, whether it is critical and the die it is addressed
to (R751). -/

namespace Sys2Proof.Machine

/-- The addressing of an opcode: a Sole, a hub, or either. -/
inductive OpTarget where
  | gcid | nid | either
  deriving DecidableEq, Repr

/-- One opcode (R751): 0x07 group opcodes are critical or untagged under R589. -/
structure OpRow where
  op : Nat
  critical : Bool
  target : OpTarget
  deriving DecidableEq, Repr

/-- R751. -/
def opTable : List OpRow :=
  [0x0101, 0x0104, 0x0105].map (fun o => ⟨o, true, .gcid⟩)
  ++ [0x0102, 0x0103].map (fun o => ⟨o, false, .gcid⟩)
  ++ [0x0201, 0x0202, 0x0205].map (fun o => ⟨o, false, .gcid⟩)
  ++ [0x0203, 0x0204, 0x0206, 0x0207, 0x0208, 0x0209].map (fun o => ⟨o, true, .gcid⟩)
  ++ [0x0301, 0x0302, 0x0303, 0x0307].map (fun o => ⟨o, true, .nid⟩)
  ++ [0x0304, 0x0306].map (fun o => ⟨o, true, .gcid⟩)
  ++ [⟨0x0305, false, .gcid⟩]
  ++ [0x0401, 0x0402, 0x0403].map (fun o => ⟨o, false, .gcid⟩)
  ++ [0x0404, 0x0405, 0x0406, 0x0408, 0x0409].map (fun o => ⟨o, true, .gcid⟩)
  ++ [⟨0x0407, false, .gcid⟩]
  ++ [0x0501, 0x0502, 0x0503, 0x0504].map (fun o => ⟨o, false, .gcid⟩)
  ++ [⟨0x0505, true, .gcid⟩]
  ++ [0x0601, 0x0602, 0x0603].map (fun o => ⟨o, true, .gcid⟩)
  ++ [⟨0x0604, false, .gcid⟩]
  ++ [0x0701, 0x0702, 0x0703, 0x0704, 0x0705, 0x0706].map (fun o => ⟨o, true, .either⟩)
  ++ [⟨0x0707, true, .nid⟩]
  ++ [0x0801, 0x0802, 0x0803].map (fun o => ⟨o, true, .either⟩)
  ++ [0x0804, 0x0805].map (fun o => ⟨o, true, .nid⟩)
  ++ [⟨0x0806, true, .gcid⟩]
  ++ [0x0901, 0x0902].map (fun o => ⟨o, false, .either⟩)
  ++ [⟨0x0903, true, .nid⟩]

/-- The row of an opcode. -/
def opRow (op : Nat) : Option OpRow := opTable.find? (fun r => decide (r.op = op))

/-- The group of an opcode is assigned (R23). -/
def groupOk (op : Nat) : Bool := decide (1 ≤ op / 256) && decide (op / 256 ≤ 9)

/-- CHAN fits the addressing of an opcode. -/
def OpTarget.fits (t : OpTarget) (chan : Bool) : Bool :=
  match t with
  | .gcid => chan
  | .nid => !chan
  | .either => true

end Sys2Proof.Machine
end

