-- ==== Sys2Proof/Config.lean ====
section
/-! DEFINITION. Sys2Proof/Config.lean: what an implementation fixes and the spec leaves open. The constants here
have no body: nothing can be proved of their values, so a claim holds whatever they are. -/

namespace Sys2Proof.Config

/-- The free values (log entry 1): the n-th value that the spec leaves open. A step that needs one reads the
counter it belongs to, takes `freeValue` there and advances the counter. -/
opaque freeValue : Nat → BitVec 64

/-- Word `i` of the key that the Emraix test root holds for a slot, of the hub (`hub`) or of a Sole (R582). The manual
publishes these keys with Idsyn Workbench and does not state them (log entry 4). -/
opaque testRoot (hub : Bool) (slot i : Nat) : BitVec 32

/-- Bytes one journal entry takes in the buffer of R41 and in the saved part of R707: the spec gives the sizes of the
stores, not of an entry (log entry 6). -/
opaque journalEntryBytes : Nat

end Sys2Proof.Config
end

