-- ==== Sys2Proof/Machine/Arith.lean ====
section
/-! DEFINITION. Sys2Proof/Machine/Arith.lean: the arithmetic rules of R12 and the numeric functions the chapters
use: rounding to nearest with ties to even, saturation, square root, logarithm, sine, cosine and angle in fixed
point, and the check codes CRC-8, CRC-16 and CRC-32C. -/

namespace Sys2Proof.Machine

/-- A flag as 0 or 1. -/
def b2n (b : Bool) : Nat := if b then 1 else 0

/-- R12: division rounded to nearest, ties to even (the divisor above 0). -/
def divHE (a : Int) (b : Nat) : Int :=
  let q := a / b
  let r := (a % b).toNat
  if 2 * r < b then q else if b < 2 * r then q + 1 else if q % 2 = 0 then q else q + 1

/-- R12: a rational rounded to the nearest integer, ties to even. -/
def roundHE (x : Rat) : Int := divHE x.num x.den

/-- A rational truncated toward zero (limits, R135). -/
def truncZ (x : Rat) : Int := x.num.tdiv x.den

/-- The least integer at or above a rational, not below 0. -/
def ceilNat (x : Rat) : Nat := (-((-x.num) / (x.den : Int))).toNat

/-- The magnitude of a rational. -/
def rabs (x : Rat) : Rat := if x < 0 then -x else x

/-- A rational held between two bounds (the lower bound wins when they cross). -/
def rclamp (x lo hi : Rat) : Rat := max lo (min hi x)

/-- An integer held between two bounds. -/
def iclamp (x lo hi : Int) : Int := max lo (min hi x)

/-- R12: saturation at the limits of a signed format of n bits. -/
def satS (n : Nat) (x : Int) : Int := iclamp x (-(2 ^ (n - 1))) (2 ^ (n - 1) - 1)

/-- R12: saturation at the limits of an unsigned format of n bits. -/
def satU (n : Nat) (x : Int) : Nat := (iclamp x 0 (2 ^ n - 1)).toNat

/-- A counter field of n bits that saturates. -/
def satInc {n : Nat} (v : BitVec n) : BitVec n := if v = BitVec.allOnes n then v else v + 1

/-- A counter field of n bits advanced by k that saturates. -/
def satAdd {n : Nat} (v : BitVec n) (k : Nat) : BitVec n := BitVec.ofNat n (min (v.toNat + k) (2 ^ n - 1))

/-- One step of the integer square root by bits. -/
def isqrtGo (n : Nat) : Nat → Nat → Nat
  | 0, r => r
  | k + 1, r => let c := r + 2 ^ k; isqrtGo n k (if c * c ≤ n then c else r)

/-- The integer square root, rounded down, of a number below 2^256. -/
def isqrt (n : Nat) : Nat := isqrtGo n 128 0

/-- The square root rounded to the nearest integer. -/
def isqrtR (n : Nat) : Nat := let r := isqrt n; if r * r + r < n then r + 1 else r

/-- The scale of the fixed-point functions below: 60 fraction bits. -/
def fxOne : Nat := 2 ^ 60

/-- π in the fixed-point scale. -/
def fxPi : Int := 3622009729038561421

/-- A fixed-point product. -/
def fxMul (a b : Int) : Int := divHE (a * b) fxOne

/-- A fixed-point quotient (0 for a zero divisor). -/
def fxDiv (a b : Int) : Int :=
  if b = 0 then 0 else if b < 0 then divHE (-a * fxOne) b.natAbs else divHE (a * fxOne) b.natAbs

/-- The alternating power series of sine and cosine from a term. -/
def fxSeries (x2 : Int) : Nat → Int → Nat → Int
  | 0, _, _ => 0
  | k + 1, t, i => t + fxSeries x2 k (-(fxMul t x2) / ((i + 1) * (i + 2) : Nat)) (i + 2)

/-- Sine of a fixed-point angle in radians. -/
def fxSin (a : Int) : Int :=
  let r := a % (2 * fxPi)
  let r := if fxPi < r then r - 2 * fxPi else r
  fxSeries (fxMul r r) 20 r 1

/-- Cosine of a fixed-point angle in radians. -/
def fxCos (a : Int) : Int :=
  let r := a % (2 * fxPi)
  let r := if fxPi < r then r - 2 * fxPi else r
  fxSeries (fxMul r r) 20 fxOne 0

/-- One Newton step toward the angle whose sine and cosine are proportional to s and c. -/
def fxAngGo (s c : Int) : Nat → Int → Int
  | 0, a => a
  | k + 1, a =>
    -- the residual of the vector turned back by the present angle
    let y := fxMul s (fxCos a) - fxMul c (fxSin a)
    let x := fxMul c (fxCos a) + fxMul s (fxSin a)
    fxAngGo s c k (a + fxDiv y (if x = 0 then fxOne else x))

/-- The angle of the vector (c, s) in 0.01°, 0 to 35,999; 0 for the zero vector. -/
def angle01 (s c : Int) : Nat :=
  if s = 0 ∧ c = 0 then 0 else
  let m := isqrt (s * s + c * c).toNat
  let s' := fxDiv s m
  let c' := fxDiv c m
  -- start within 45 degrees of the vector
  let a0 : Int := if s.natAbs ≤ c.natAbs then (if 0 ≤ c then 0 else fxPi) else (if 0 ≤ s then fxPi / 2 else -(fxPi / 2))
  let a := fxAngGo s' c' 8 a0
  ((divHE (a * 18000) fxPi.toNat) % 36000).toNat

/-- The atanh series used for logarithms. -/
def fxAtanhGo (z2 : Int) : Nat → Int → Nat → Int
  | 0, _, _ => 0
  | k + 1, t, i => t / (i : Int) + fxAtanhGo z2 k (fxMul t z2) (i + 2)

/-- The natural logarithm of a fixed-point number between 1 and 2. -/
def fxLn12 (m : Int) : Int := 2 * fxAtanhGo (fxMul (fxDiv (m - fxOne) (m + fxOne)) (fxDiv (m - fxOne) (m + fxOne))) 40
  (fxDiv (m - fxOne) (m + fxOne)) 1

/-- The natural logarithm of the positive rational a / b in fixed point (0 when either is 0). -/
def fxLn (a b : Nat) : Int :=
  if a = 0 ∨ b = 0 then 0 else
  let la : Int := a.log2
  let lb : Int := b.log2
  let ma : Int := if 60 ≤ a.log2 then (a / 2 ^ (a.log2 - 60) : Nat) else (a * 2 ^ (60 - a.log2) : Nat)
  let mb : Int := if 60 ≤ b.log2 then (b / 2 ^ (b.log2 - 60) : Nat) else (b * 2 ^ (60 - b.log2) : Nat)
  (la - lb) * fxLn12 (2 * fxOne) + fxLn12 ma - fxLn12 mb

/-- A natural number given in fixed point as a rational. -/
def fxRat (x : Int) : Rat := (x : Rat) / (fxOne : Rat)

/-- The bytes of a 32-bit word, least significant first (R14). -/
def wordBytes (w : Word) : List Byte :=
  [w.extractLsb' 0 8, w.extractLsb' 8 8, w.extractLsb' 16 8, w.extractLsb' 24 8]

/-- Eight shift steps of the reflected CRC-32C register. -/
def crc32cShift : Nat → Word → Word
  | 0, c => c
  | k + 1, c => crc32cShift k (if c.getLsbD 0 then (c >>> 1) ^^^ 0x82F63B78 else c >>> 1)

/-- The CRC-32C register after more bytes. -/
def crc32cUpd (c : Word) : List Byte → Word
  | [] => c
  | b :: bs => crc32cUpd (crc32cShift 8 (c ^^^ b.setWidth 32)) bs

/-- R159: CRC-32C, polynomial 0x1EDC_6F41 reflected, initial value and final exclusive OR 0xFFFF_FFFF. -/
def crc32cBytes (bs : List Byte) : Word := crc32cUpd 0xFFFFFFFF bs ^^^ 0xFFFFFFFF

/-- R159: CRC-32C over words, each as four bytes, least significant byte first. -/
def crc32c (ws : List Word) : Word := crc32cBytes (ws.flatMap wordBytes)

/-- Shift steps of an unreflected CRC-8 register, polynomial 0x07. -/
def crc8Shift : Nat → Byte → Byte
  | 0, c => c
  | k + 1, c => crc8Shift k (if c.getLsbD 7 then (c <<< 1) ^^^ 0x07 else c <<< 1)

/-- R86: CRC-8, polynomial 0x07, initial value 0x00, over bytes in order. -/
def crc8 (bs : List Byte) : Byte := bs.foldl (fun c b => crc8Shift 8 (c ^^^ b)) 0

/-- A state that the spec gives no number format is held to 24 fraction bits (DESIGN CHOICE). -/
def fine (x : Rat) : Rat := (roundHE (x * 2 ^ 24) : Rat) / 2 ^ 24

end Sys2Proof.Machine
end

