-- ==== Sys2Proof/Machine/Crypto.lean ====
section
/-! DEFINITION. Sys2Proof/Machine/Crypto.lean: the published algorithms the manual names by standard: AES-128 and
AES-CMAC (SP 800-38B, R529), SHA-256, HMAC and the nonces of RFC 6979 (R311), ECDSA on P-256 (R307, R592). PRESUMED
(log entry 3): the manual names the standards and does not restate them. -/

namespace Sys2Proof.Machine

/-! ### Bytes -/

/-- The bytes of words, each word little-endian (R14). -/
def bytesOfWords (ws : List Word) : List Nat := ws.flatMap (fun (w : Word) => (List.range 4).map (fun i => (w.extractLsb' (8 * i) 8).toNat))

/-- Words from bytes, little-endian; a last partial word is filled with zero bytes. -/
def wordsOfBytes : List Nat → List Word
  | a :: b :: c :: d :: r => BitVec.ofNat 32 (a + 256 * b + 65536 * c + 16777216 * d) :: wordsOfBytes r
  | [] => []
  | l => [BitVec.ofNat 32 (l.getD 0 0 + 256 * l.getD 1 0 + 65536 * l.getD 2 0)]

/-- A big-endian number. -/
def natOfBytes (bs : List Nat) : Nat := bs.foldl (fun a b => a * 256 + b) 0

/-- A number as n bytes, big-endian. -/
def bytesOfNat (n x : Nat) : List Nat := (List.range n).map (fun i => x / 256 ^ (n - 1 - i) % 256)

/-! ### SHA-256 and HMAC -/

/-- The round constants of SHA-256. -/
def shaK : List Nat :=
  [0x428a2f98, 0x71374491, 0xb5c0fbcf, 0xe9b5dba5, 0x3956c25b, 0x59f111f1, 0x923f82a4, 0xab1c5ed5,
   0xd807aa98, 0x12835b01, 0x243185be, 0x550c7dc3, 0x72be5d74, 0x80deb1fe, 0x9bdc06a7, 0xc19bf174,
   0xe49b69c1, 0xefbe4786, 0x0fc19dc6, 0x240ca1cc, 0x2de92c6f, 0x4a7484aa, 0x5cb0a9dc, 0x76f988da,
   0x983e5152, 0xa831c66d, 0xb00327c8, 0xbf597fc7, 0xc6e00bf3, 0xd5a79147, 0x06ca6351, 0x14292967]
  ++
  [0x27b70a85, 0x2e1b2138, 0x4d2c6dfc, 0x53380d13, 0x650a7354, 0x766a0abb, 0x81c2c92e, 0x92722c85,
   0xa2bfe8a1, 0xa81a664b, 0xc24b8b70, 0xc76c51a3, 0xd192e819, 0xd6990624, 0xf40e3585, 0x106aa070,
   0x19a4c116, 0x1e376c08, 0x2748774c, 0x34b0bcb5, 0x391c0cb3, 0x4ed8aa4a, 0x5b9cca4f, 0x682e6ff3,
   0x748f82ee, 0x78a5636f, 0x84c87814, 0x8cc70208, 0x90befffa, 0xa4506ceb, 0xbef9a3f7, 0xc67178f2]

/-- A rotation to the right. -/
def ror (n : Nat) (x : Word) : Word := x.rotateRight n

/-- The message schedule: the last sixteen words newest first, extended to n further words. -/
def shaSched : Nat → List Word → List Word
  | 0, w => w
  | n + 1, w =>
    let a := w.getD 1 0
    let b := w.getD 14 0
    let s1 := ror 17 a ^^^ ror 19 a ^^^ (a >>> 10)
    let s0 := ror 7 b ^^^ ror 18 b ^^^ (b >>> 3)
    shaSched n ((s1 + w.getD 6 0 + s0 + w.getD 15 0) :: w)

/-- One round on the eight working words. -/
def shaRound (s : List Word) (k : Nat) (w : Word) : List Word :=
  match s with
  | [a, b, c, d, e, f, g, h] =>
    let t1 := h + (ror 6 e ^^^ ror 11 e ^^^ ror 25 e) + ((e &&& f) ^^^ (~~~e &&& g)) + BitVec.ofNat 32 k + w
    let t2 := (ror 2 a ^^^ ror 13 a ^^^ ror 22 a) + ((a &&& b) ^^^ (a &&& c) ^^^ (b &&& c))
    [t1 + t2, a, b, c, d + t1, e, f, g]
  | l => l

/-- One block of sixteen big-endian words. -/
def shaBlock (h : List Word) (m : List Word) : List Word :=
  let w := (shaSched 48 m.reverse).reverse
  let s := (shaK.zip w).foldl (fun s (x : Nat × Word) => shaRound s x.1 x.2) h
  (h.zip s).map (fun (x : Word × Word) => x.1 + x.2)

/-- Bytes as big-endian words. -/
def beWords : List Nat → List Word
  | a :: b :: c :: d :: r => BitVec.ofNat 32 (a * 16777216 + b * 65536 + c * 256 + d) :: beWords r
  | _ => []

/-- Blocks of sixteen words folded into the state, with fuel. -/
def shaBlocks : Nat → List Word → List Word → List Word
  | 0, h, _ => h
  | n + 1, h, ws => if ws.length < 16 then h else shaBlocks n (shaBlock h (ws.take 16)) (ws.drop 16)

/-- SHA-256 of bytes, as 32 bytes. -/
def sha256 (m : List Nat) : List Nat :=
  let l := m.length
  let pad := m ++ [128] ++ List.replicate ((119 - l % 64) % 64) 0 ++ bytesOfNat 8 (8 * l)
  let h := shaBlocks (pad.length / 64)
    [0x6a09e667, 0xbb67ae85, 0x3c6ef372, 0xa54ff53a, 0x510e527f, 0x9b05688c, 0x1f83d9ab, 0x5be0cd19] (beWords pad)
  h.flatMap (fun (w : Word) => bytesOfNat 4 w.toNat)

/-- HMAC with SHA-256; a key of at most 64 bytes. -/
def hmac (key m : List Nat) : List Nat :=
  let k := key ++ List.replicate (64 - key.length) 0
  sha256 (k.map (fun x => Nat.xor x 0x5c) ++ sha256 (k.map (fun x => Nat.xor x 0x36) ++ m))

/-! ### AES-128 and AES-CMAC -/

/-- Doubling in the AES field. -/
def gfDbl (x : Nat) : Nat := if x < 128 then 2 * x else Nat.xor (2 * x - 256) 0x1b

/-- The AES S-box, sixteen bytes to a number, the first in its low byte. -/
def sboxRows : List Nat :=
  [0x76abd7fe2b670130c56f6bf27b777c63, 0xc072a49cafa2d4adf04759fa7dc982ca, 0x1531d871f1e5a534ccf73f362693fdb7,
   0x75b227ebe28012079a059618c323c704, 0x842fe329b3d63b52a05a6e1b1a2c8309, 0xcf584c4a39becb6a5bb1fc20ed00d153,
   0xa89f3c507f02f94585334d43fbaaefd0, 0xd2f3ff1021dab6bcf5389d928f40a351, 0x73195d643d7ea7c41744975fec130ccd,
   0xdb0b5ede14b8ee4688902a22dc4f8160, 0x79e4959162acd3c25c2406490a3a32e0, 0x08ae7a65eaf4566ca94ed58d6d37c8e7,
   0x8a8bbd4b1f74dde8c6b4a61c2e2578ba, 0x9e1dc186b95735610ef6034866b53e70, 0xdf2855cee9871e9b948ed9691198f8e1,
   0x16bb54b00f2d99416842e6bf0d89a18c]

/-- The AES S-box of a byte. -/
def sbox (x : Nat) : Nat := sboxRows.getD (x / 16) 0 / 256 ^ (x % 16) % 256

/-- Two byte lists, bit by bit exclusive or. -/
def xorL (a b : List Nat) : List Nat := (a.zip b).map (fun (x : Nat × Nat) => Nat.xor x.1 x.2)

/-- The next round key. -/
def nextKey (k : List Nat) (rcon : Nat) : List Nat :=
  let t := [Nat.xor (sbox (k.getD 13 0)) rcon, sbox (k.getD 14 0), sbox (k.getD 15 0), sbox (k.getD 12 0)]
  let a := xorL (k.take 4) t
  let b := xorL ((k.drop 4).take 4) a
  let c := xorL ((k.drop 8).take 4) b
  a ++ b ++ c ++ xorL (k.drop 12) c

/-- SubBytes and ShiftRows. -/
def subShift (s : List Nat) : List Nat :=
  (List.range 16).map (fun i => sbox (s.getD ((i + 4 * (i % 4)) % 16) 0))

/-- MixColumns. -/
def mixCols (s : List Nat) : List Nat :=
  (List.range 16).map (fun i =>
    let g (j : Nat) := s.getD (4 * (i / 4) + (i + j) % 4) 0
    Nat.xor (Nat.xor (gfDbl (g 0)) (Nat.xor (gfDbl (g 1)) (g 1))) (Nat.xor (g 2) (g 3)))

/-- Rounds with the given round constants; the last has no MixColumns. -/
def aesRounds : List Nat → List Nat → List Nat → List Nat
  | [], _, s => s
  | [r], k, s => xorL (subShift s) (nextKey k r)
  | r :: rs, k, s => aesRounds rs (nextKey k r) (xorL (mixCols (subShift s)) (nextKey k r))

/-- One AES-128 block. -/
def aes (k s : List Nat) : List Nat := aesRounds [1, 2, 4, 8, 16, 32, 64, 128, 0x1b, 0x36] k (xorL s k)

/-- A subkey doubled in the CMAC field. -/
def cmacDbl (l : List Nat) : List Nat :=
  let x := natOfBytes l
  bytesOfNat 16 (if x < 2 ^ 127 then 2 * x else Nat.xor (2 * x - 2 ^ 128) 0x87)

/-- The CBC chain over a message, with fuel; the last block is masked by a subkey. -/
def cmacChain : Nat → List Nat → List Nat → List Nat → List Nat
  | 0, _, c, _ => c
  | n + 1, k, c, m =>
    if m.length ≤ 16 then
      let k1 := cmacDbl (aes k (List.replicate 16 0))
      let b := if m.length = 16 then xorL m k1 else xorL (m ++ [128] ++ List.replicate (15 - m.length) 0) (cmacDbl k1)
      aes k (xorL c b)
    else cmacChain n k (aes k (xorL c (m.take 16))) (m.drop 16)

/-- AES-CMAC of a message under a 16-byte key. -/
def cmac (k m : List Nat) : List Nat := cmacChain (m.length / 16 + 1) k (List.replicate 16 0) m

/-- PRESUMED (SEC 2): the order of secp521r1. -/
def n521 : Nat :=
  0x1fffffffffffffffffffffffffffffffffffffffffffffffffffffffffffffffffa51868783bf2f966b7fcc0148f709a5d03bb5c9b8899c47aebb6fb71e91386409

/-! ### P-256 -/

/-- The prime, the order, the coefficient b and the base point of P-256. -/
def p256 : Nat := 0xffffffff00000001000000000000000000000000ffffffffffffffffffffffff
def n256 : Nat := 0xffffffff00000000ffffffffffffffffbce6faada7179e84f3b9cac2fc632551
def b256 : Nat := 0x5ac635d8aa3a93e7b3ebbd55769886bc651d06b0cc53b0f63bce3c3e27d2604b
def gx256 : Nat := 0x6b17d1f2e12c4247f8bce6e563a440f277037d812deb33a0f4a13945d898c296
def gy256 : Nat := 0x4fe342e2fe1a7f9b8ee7eb4a7c0f9e162bce33576b315ececbb6406837bf51f5

/-- x^e mod m over the low n bits of e. -/
def powMod (m : Nat) : Nat → Nat → Nat → Nat → Nat
  | 0, _, _, a => a
  | n + 1, x, e, a => powMod m n (x * x % m) (e / 2) (if e % 2 = 1 then a * x % m else a)

/-- The inverse modulo a prime of 256 bits. -/
def invMod (m x : Nat) : Nat := powMod m 256 (x % m) (m - 2) 1

/-- The difference modulo m. -/
def subMod (m a b : Nat) : Nat := (a + (m - b % m)) % m

/-- A point is on P-256. -/
def onCurve (x y : Nat) : Bool :=
  decide (x < p256) && decide (y < p256) && decide (y * y % p256 = subMod p256 (x * x * x + b256) (3 * x))

/-- A point in Jacobian coordinates; z = 0 is the point at infinity. -/
structure JPoint where
  x : Nat
  y : Nat
  z : Nat
  deriving DecidableEq, Repr

/-- The double of a point. -/
def JPoint.dbl (a : JPoint) : JPoint :=
  if a.z = 0 ∨ a.y = 0 then { x := 1, y := 1, z := 0 }
  else
    let y2 := a.y * a.y % p256
    let s := 4 * a.x * y2 % p256
    let z2 := a.z * a.z % p256
    let m := 3 * (subMod p256 a.x z2) * (a.x + z2) % p256
    let x := subMod p256 (m * m) (2 * s)
    { x := x, y := subMod p256 (m * subMod p256 s x) (8 * y2 * y2), z := 2 * a.y * a.z % p256 }

/-- The sum of two points. -/
def JPoint.add (a b : JPoint) : JPoint :=
  if a.z = 0 then b else if b.z = 0 then a
  else
    let za := a.z * a.z % p256
    let zb := b.z * b.z % p256
    let u1 := a.x * zb % p256
    let u2 := b.x * za % p256
    let s1 := a.y * zb * b.z % p256
    let s2 := b.y * za * a.z % p256
    if u1 = u2 then (if s1 = s2 then a.dbl else { x := 1, y := 1, z := 0 })
    else
      let h := subMod p256 u2 u1
      let r := subMod p256 s2 s1
      let h2 := h * h % p256
      let h3 := h2 * h % p256
      let v := u1 * h2 % p256
      let x := subMod p256 (r * r) (h3 + 2 * v)
      { x := x, y := subMod p256 (r * subMod p256 v x) (s1 * h3), z := h * a.z * b.z % p256 }

/-- e times a point, over the low n bits of e. -/
def JPoint.mul : Nat → Nat → JPoint → JPoint → JPoint
  | 0, _, _, acc => acc
  | n + 1, e, a, acc => JPoint.mul n (e / 2) a.dbl (if e % 2 = 1 then acc.add a else acc)

/-- The affine x coordinate; 0 at infinity. -/
def JPoint.affX (a : JPoint) : Nat := if a.z = 0 then 0 else a.x * powMod p256 256 (invMod p256 a.z) 2 1 % p256

/-- The base point. -/
def gPoint : JPoint := { x := gx256, y := gy256, z := 1 }

/-- e times a point. -/
def smul (e : Nat) (a : JPoint) : JPoint := JPoint.mul 256 e a { x := 1, y := 1, z := 0 }

/-- ECDSA verification of (r, s) over a 32-byte digest under the point (qx, qy). -/
def ecdsaVerify (qx qy : Nat) (dig : List Nat) (r s : Nat) : Bool :=
  decide (0 < r ∧ r < n256 ∧ 0 < s ∧ s < n256) && onCurve qx qy &&
    (let w := invMod n256 s
     let z := natOfBytes dig
     let p := (smul (z * w % n256) gPoint).add (smul (r * w % n256) { x := qx, y := qy, z := 1 })
     decide (p.z ≠ 0) && decide (p.affX % n256 = r))

/-- The candidates of RFC 6979 from the state (K, V): the first in range that gives r and s not zero, with fuel. -/
def rfcLoop : Nat → Nat → Nat → List Nat → List Nat → Nat × Nat
  | 0, _, _, _, _ => (0, 0)
  | n + 1, d, z, K, V =>
    let V := hmac K V
    let k := natOfBytes V
    let r := (smul k gPoint).affX % n256
    let s := invMod n256 k * (z + r * d) % n256
    if 0 < k ∧ k < n256 ∧ r ≠ 0 ∧ s ≠ 0 then (r, s)
    else
      let K := hmac K (V ++ [0])
      rfcLoop n d z K (hmac K V)

/-- ECDSA with the deterministic nonce of RFC 6979 under the scalar d over a 32-byte digest. -/
def ecdsaSign (d : Nat) (dig : List Nat) : Nat × Nat :=
  let z := natOfBytes dig
  let x := bytesOfNat 32 d ++ bytesOfNat 32 (z % n256)
  let V := List.replicate 32 1
  let K := List.replicate 32 0
  let K := hmac K (V ++ [0] ++ x)
  let V := hmac K V
  let K := hmac K (V ++ [1] ++ x)
  rfcLoop 64 d z K (hmac K V)

end Sys2Proof.Machine
end

