-- ==== Sys2Proof/Machine/RegAccess.lean ====
section
/-! DEFINITION. Sys2Proof/Machine/RegAccess.lean: how each register of the maps is packed into 32 bits for a read,
and what a plain 32-bit write does to its fields (R17, R19, R753): RW and RWL fields take the written bits, held
within the range the description states; W1C fields clear where a 1 is written; every other field is unchanged.
Registers whose write has an effect of its own are handled before these functions are reached. -/

namespace Sys2Proof.Machine

/-- One bit as a 32-bit word. -/
def bit32 (b : Bool) : BitVec 32 := if b then 1 else 0

/-- R753: a written value outside the stated range is taken as the nearest bound. -/
def clampBv {n : Nat} (v : BitVec n) (lo hi : Nat) : BitVec n :=
  if v.toNat < lo then BitVec.ofNat n lo else if hi < v.toNat then BitVec.ofNat n hi else v

/-- The entry of a register array at an index; the default outside the array. -/
def vget {α : Type} {n : Nat} (v : Vector α n) (i : Nat) (d : α) : α := v[i]?.getD d

/-- A register array with one entry changed; unchanged for an index outside the array. -/
def vset {α : Type} {n : Nat} (v : Vector α n) (i : Nat) (x : α) : Vector α n := v.setIfInBounds i x

/-- HUB_ID as a 32-bit word. -/
def HubId.read (r : HubId) : BitVec 32 :=
  (r.part.setWidth 32 <<< 16)
  ||| (r.hubStep.setWidth 32 <<< 12)

/-- HUB_DIE_STATUS as a 32-bit word. -/
def HubDieStatus.read (r : HubDieStatus) : BitVec 32 :=
  (bit32 r.norOk <<< 23)
  ||| (bit32 r.dramOk <<< 22)
  ||| (bit32 r.pmOk <<< 21)
  ||| (r.eydOk.setWidth 32 <<< 16)
  ||| (r.soleState.setWidth 32)

/-- HUB_STITCH_ERR as a 32-bit word. -/
def HubStitchErr.read (r : HubStitchErr) : BitVec 32 :=
  (r.crcCh3.setWidth 32 <<< 24)
  ||| (r.crcCh2.setWidth 32 <<< 16)
  ||| (r.crcCh1.setWidth 32 <<< 8)
  ||| (r.crcCh0.setWidth 32)

/-- HUB_FW_STATUS as a 32-bit word. -/
def HubFwStatus.read (r : HubFwStatus) : BitVec 32 :=
  (BitVec.ofNat 32 r.fwState.code <<< 29)
  ||| (bit32 r.slot <<< 28)
  ||| (bit32 r.trialFail <<< 27)
  ||| (r.trialLeft.setWidth 32)

/-- A plain write of HUB_FW_STATUS. -/
def HubFwStatus.write (r : HubFwStatus) (w : BitVec 32) : HubFwStatus :=
  { r with
    trialFail := r.trialFail && !w.getLsbD 27 }

/-- HUB_CLK_STATUS as a 32-bit word. -/
def HubClkStatus.read (r : HubClkStatus) : BitVec 32 :=
  (bit32 r.refLost <<< 5)
  ||| (bit32 r.refNow <<< 4)
  ||| (bit32 r.pcieLol <<< 3)
  ||| (bit32 r.dramLol <<< 2)
  ||| (bit32 r.laneLol <<< 1)
  ||| (bit32 r.coreLol)

/-- A plain write of HUB_CLK_STATUS. -/
def HubClkStatus.write (r : HubClkStatus) (w : BitVec 32) : HubClkStatus :=
  { r with
    refLost := r.refLost && !w.getLsbD 5
    pcieLol := r.pcieLol && !w.getLsbD 3
    dramLol := r.dramLol && !w.getLsbD 2
    laneLol := r.laneLol && !w.getLsbD 1
    coreLol := r.coreLol && !w.getLsbD 0 }

/-- HUB_RST_CAUSE as a 32-bit word. -/
def HubRstCause.read (r : HubRstCause) : BitVec 32 :=
  (bit32 r.commitLost <<< 6)
  ||| (bit32 r.rail <<< 5)
  ||| (bit32 r.hubWdt <<< 4)
  ||| (bit32 r.pfailOk <<< 3)
  ||| (bit32 r.stuck <<< 2)
  ||| (bit32 r.pin <<< 1)
  ||| (bit32 r.por)

/-- A plain write of HUB_RST_CAUSE. -/
def HubRstCause.write (r : HubRstCause) (w : BitVec 32) : HubRstCause :=
  { r with
    commitLost := r.commitLost && !w.getLsbD 6
    rail := r.rail && !w.getLsbD 5
    hubWdt := r.hubWdt && !w.getLsbD 4
    pfailOk := r.pfailOk && !w.getLsbD 3
    stuck := r.stuck && !w.getLsbD 2
    pin := r.pin && !w.getLsbD 1
    por := r.por && !w.getLsbD 0 }

/-- HUB_RST_STATUS as a 32-bit word. -/
def HubRstStatus.read (r : HubRstStatus) : BitVec 32 :=
  (bit32 r.pinMasked <<< 31)
  ||| (bit32 r.ackPend <<< 30)
  ||| (bit32 r.vholdOk <<< 29)
  ||| (bit32 r.holdWeak <<< 28)
  ||| (r.vhold.setWidth 32)

/-- HUB_HOLDUP as a 32-bit word. -/
def HubHoldup.read (r : HubHoldup) : BitVec 32 :=
  (r.cap.setWidth 32 <<< 16)
  ||| (r.pfCnt.setWidth 32)

/-- HUB_WDT as a 32-bit word. -/
def HubWdt.read (r : HubWdt) : BitVec 32 :=
  (r.exp.setWidth 32 <<< 24)
  ||| (r.tmo.setWidth 32)

/-- A plain write of HUB_WDT. -/
def HubWdt.write (r : HubWdt) (w : BitVec 32) : HubWdt :=
  { r with
    tmo := clampBv (w.extractLsb' 0 16) 50 1000 }

/-- HUB_BOOT as a 32-bit word. -/
def HubBoot.read (r : HubBoot) : BitVec 32 :=
  (bit32 r.recovery <<< 31)
  ||| (bit32 r.slotAlt <<< 30)
  ||| (bit32 r.commitInt <<< 29)
  ||| (bit32 r.trialEnd <<< 28)
  ||| (r.soleRec.setWidth 32)

/-- A plain write of HUB_BOOT. -/
def HubBoot.write (r : HubBoot) (w : BitVec 32) : HubBoot :=
  { r with
    commitInt := r.commitInt && !w.getLsbD 29
    trialEnd := r.trialEnd && !w.getLsbD 28 }

/-- A read of the block at an offset; none where no register stands. -/
def HubRegs.read (r : HubRegs) (o : Nat) : Option (BitVec 32) :=
  if o = 0x0 then some (r.id.read) else
  if o = 0x10 then some (r.dieStatus.read) else
  if o = 0x14 then some (r.stitchErr.read) else
  if o = 0x18 then some (0#32) else
  if o = 0x20 then some (r.fwStatus.read) else
  if o = 0x24 then some (r.fwVer) else
  if o = 0x28 then some (r.fwNext) else
  if o = 0x30 then some (r.clkStatus.read) else
  if o = 0x40 then some (r.rstCause.read) else
  if o = 0x44 then some (r.rstStatus.read) else
  if o = 0x48 then some (r.holdup.read) else
  if o = 0x4C then some (r.wdt.read) else
  if o = 0x50 then some (r.boot.read) else
  none

/-- A plain write of the block at an offset; unchanged where no register stands. -/
def HubRegs.write (r : HubRegs) (o : Nat) (w : BitVec 32) : HubRegs :=
  if o = 0x20 then { r with fwStatus := r.fwStatus.write w } else
  if o = 0x30 then { r with clkStatus := r.clkStatus.write w } else
  if o = 0x40 then { r with rstCause := r.rstCause.write w } else
  if o = 0x4C then { r with wdt := r.wdt.write w } else
  if o = 0x50 then { r with boot := r.boot.write w } else
  r

/-- RING_CTRL as a 32-bit word. -/
def RingCtrl.read (r : RingCtrl) : BitVec 32 :=
  (bit32 r.isolateW <<< 5)
  ||| (bit32 r.isolateE <<< 4)
  ||| (bit32 r.ppsEn <<< 3)
  ||| (bit32 r.sleepEn <<< 2)

/-- A plain write of RING_CTRL. -/
def RingCtrl.write (r : RingCtrl) (w : BitVec 32) : RingCtrl :=
  { r with
    isolateW := w.getLsbD 5
    isolateE := w.getLsbD 4
    ppsEn := w.getLsbD 3
    sleepEn := w.getLsbD 2 }

/-- RING_STATUS as a 32-bit word. -/
def RingStatus.read (r : RingStatus) : BitVec 32 :=
  (bit32 r.nidValid <<< 31)
  ||| (bit32 r.master <<< 30)
  ||| (bit32 r.timeValid <<< 29)
  ||| (BitVec.ofNat 32 r.timeState.code <<< 27)
  ||| (BitVec.ofNat 32 r.topo.code <<< 25)
  ||| (bit32 r.large <<< 24)
  ||| (r.nodes.setWidth 32 <<< 16)
  ||| (bit32 r.siteSet <<< 15)
  ||| (r.masterNid.setWidth 32 <<< 8)
  ||| (r.nid.setWidth 32)

/-- RING_NID_CFG as a 32-bit word. -/
def RingNidCfg.read (r : RingNidCfg) : BitVec 32 :=
  (bit32 r.auto <<< 8)
  ||| (bit32 r.valid <<< 7)
  ||| (r.nid.setWidth 32)

/-- A plain write of RING_NID_CFG. -/
def RingNidCfg.write (r : RingNidCfg) (w : BitVec 32) : RingNidCfg :=
  { r with
    auto := w.getLsbD 8
    valid := w.getLsbD 7
    nid := w.extractLsb' 0 6 }

/-- RING_LINK as a 32-bit word. -/
def RingLink.read (r : RingLink) : BitVec 32 :=
  (BitVec.ofNat 32 r.wState.code <<< 29)
  ||| (bit32 r.wTxSleep <<< 28)
  ||| (bit32 r.wRxSleep <<< 27)
  ||| (bit32 r.wSwap <<< 26)
  ||| (bit32 r.wNbrValid <<< 23)
  ||| (r.wNbr.setWidth 32 <<< 16)
  ||| (BitVec.ofNat 32 r.eState.code <<< 13)
  ||| (bit32 r.eTxSleep <<< 12)
  ||| (bit32 r.eRxSleep <<< 11)
  ||| (bit32 r.eSwap <<< 10)
  ||| (bit32 r.eNbrValid <<< 7)
  ||| (r.eNbr.setWidth 32)

/-- RING_ASYM as a 32-bit word. -/
def RingAsym.read (r : RingAsym) : BitVec 32 :=
  (r.asymW.setWidth 32 <<< 16)
  ||| (r.asymE.setWidth 32)

/-- A plain write of RING_ASYM. -/
def RingAsym.write (r : RingAsym) (w : BitVec 32) : RingAsym :=
  { r with
    asymW := w.extractLsb' 16 16
    asymE := w.extractLsb' 0 16 }

/-- RING_TIME_OFS as a 32-bit word. -/
def RingTimeOfs.read (r : RingTimeOfs) : BitVec 32 :=
  (r.freq.setWidth 32 <<< 16)
  ||| (r.ofs.setWidth 32)

/-- RING_ERR_SEL as a 32-bit word. -/
def RingErrSel.read (r : RingErrSel) : BitVec 32 :=
  (r.lane.setWidth 32 <<< 4)
  ||| (r.code.setWidth 32)

/-- A plain write of RING_ERR_SEL. -/
def RingErrSel.write (r : RingErrSel) (w : BitVec 32) : RingErrSel :=
  { r with
    lane := w.extractLsb' 4 2
    code := w.extractLsb' 0 4 }

/-- RING_EVT as a 32-bit word. -/
def RingEvt.read (r : RingEvt) : BitVec 32 :=
  (bit32 r.nidFull <<< 9)
  ||| (bit32 r.masterChg <<< 8)
  ||| (bit32 r.skewErr <<< 7)
  ||| (bit32 r.timeLost <<< 6)
  ||| (bit32 r.nidConflict <<< 5)
  ||| (bit32 r.nodeLeave <<< 4)
  ||| (bit32 r.nodeJoin <<< 3)
  ||| (bit32 r.topoChg <<< 2)
  ||| (bit32 r.linkWDown <<< 1)
  ||| (bit32 r.linkEDown)

/-- A plain write of RING_EVT. -/
def RingEvt.write (r : RingEvt) (w : BitVec 32) : RingEvt :=
  { r with
    nidFull := r.nidFull && !w.getLsbD 9
    masterChg := r.masterChg && !w.getLsbD 8
    skewErr := r.skewErr && !w.getLsbD 7
    timeLost := r.timeLost && !w.getLsbD 6
    nidConflict := r.nidConflict && !w.getLsbD 5
    nodeLeave := r.nodeLeave && !w.getLsbD 4
    nodeJoin := r.nodeJoin && !w.getLsbD 3
    topoChg := r.topoChg && !w.getLsbD 2
    linkWDown := r.linkWDown && !w.getLsbD 1
    linkEDown := r.linkEDown && !w.getLsbD 0 }

/-- RING_NODE_DATA0 as a 32-bit word. -/
def RingNodeData0.read (r : RingNodeData0) : BitVec 32 :=
  (bit32 r.present <<< 31)
  ||| (bit32 r.gateway <<< 30)
  ||| (bit32 r.coordAct <<< 29)
  ||| (bit32 r.coordSby <<< 28)
  ||| (r.tclass.setWidth 32 <<< 26)
  ||| (bit32 r.eUp <<< 25)
  ||| (bit32 r.wUp <<< 24)
  ||| (r.eNbr.setWidth 32 <<< 16)
  ||| (r.wNbr.setWidth 32 <<< 8)

/-- A read of the block at an offset; none where no register stands. -/
def RingRegs.read (r : RingRegs) (o : Nat) : Option (BitVec 32) :=
  if o = 0x1000 then some (r.ctrl.read) else
  if o = 0x1004 then some (r.status.read) else
  if o = 0x1008 then some (r.nidCfg.read) else
  if o = 0x100C then some (r.link.read) else
  if o = 0x1010 then some (r.delayE) else
  if o = 0x1014 then some (r.delayW) else
  if o = 0x1018 then some (r.asym.read) else
  if o = 0x1020 then some (r.timeLo) else
  if o = 0x1024 then some (r.timeHi) else
  if o = 0x1028 then some (r.timeOfs.read) else
  if o = 0x102C then some (r.todLo) else
  if o = 0x1030 then some ((r.todHi.setWidth 32)) else
  if o = 0x1034 then some ((r.lb.setWidth 32)) else
  if o = 0x1040 then some (r.errSel.read) else
  if o = 0x1044 then some (r.errData) else
  if o = 0x1048 then some (0#32) else
  if o = 0x104C then some (r.evt.read) else
  if o = 0x1050 then some ((r.nodeSel.setWidth 32)) else
  if o = 0x1054 then some (r.nodeData0.read) else
  if o = 0x1058 then some (r.nodeData1) else
  if o = 0x105C then some (r.nodeData2) else
  none

/-- A plain write of the block at an offset; unchanged where no register stands. -/
def RingRegs.write (r : RingRegs) (o : Nat) (w : BitVec 32) : RingRegs :=
  if o = 0x1000 then { r with ctrl := r.ctrl.write w } else
  if o = 0x1008 then { r with nidCfg := r.nidCfg.write w } else
  if o = 0x1018 then { r with asym := r.asym.write w } else
  if o = 0x102C then { r with todLo := w } else
  if o = 0x1030 then { r with todHi := w.extractLsb' 0 16 } else
  if o = 0x1034 then { r with lb := w.extractLsb' 0 16 } else
  if o = 0x1040 then { r with errSel := r.errSel.write w } else
  if o = 0x104C then { r with evt := r.evt.write w } else
  if o = 0x1050 then { r with nodeSel := w.extractLsb' 0 6 } else
  r

/-- LAST_CFG as a 32-bit word. -/
def LastCfg.read (r : LastCfg) : BitVec 32 :=
  (bit32 r.en <<< 31)
  ||| (r.iterMax.setWidth 32 <<< 24)
  ||| (r.epoch.setWidth 32 <<< 16)
  ||| (r.effDef.setWidth 32)

/-- LAST_STATUS as a 32-bit word. -/
def LastStatus.read (r : LastStatus) : BitVec 32 :=
  (bit32 r.active <<< 31)
  ||| (bit32 r.standby <<< 30)
  ||| (bit32 r.large <<< 29)
  ||| (bit32 r.curtSite <<< 28)
  ||| (r.curtFdr.setWidth 32 <<< 20)
  ||| (r.iter.setWidth 32 <<< 8)
  ||| (r.nodes.setWidth 32)

/-- LAST_SITE_METER as a 32-bit word. -/
def LastSiteMeter.read (r : LastSiteMeter) : BitVec 32 :=
  (bit32 r.en <<< 8)
  ||| (r.gcid.setWidth 32)

/-- LAST_CTX_DATA0 as a 32-bit word. -/
def LastCtxData0.read (r : LastCtxData0) : BitVec 32 :=
  (r.state.setWidth 32 <<< 29)
  ||| (r.pc.setWidth 32 <<< 24)
  ||| (r.fdr.setWidth 32 <<< 20)
  ||| (r.ig.setWidth 32 <<< 16)
  ||| (bit32 r.ofsOk <<< 15)
  ||| (bit32 r.ackLate <<< 14)
  ||| (r.nRec.setWidth 32 <<< 8)

/-- LAST_CTX_DATA5 as a 32-bit word. -/
def LastCtxData5.read (r : LastCtxData5) : BitVec 32 :=
  (r.price.setWidth 32 <<< 16)
  ||| (r.theta.setWidth 32)

/-- LAST_FLAGS as a 32-bit word. -/
def LastFlags.read (r : LastFlags) : BitVec 32 :=
  (bit32 r.unconfDraw <<< 7)
  ||| (bit32 r.meterStale <<< 6)
  ||| (bit32 r.floorScaled <<< 5)
  ||| (bit32 r.iterLimit <<< 4)
  ||| (bit32 r.ackLate <<< 3)
  ||| (bit32 r.curveBad <<< 2)
  ||| (bit32 r.ghost <<< 1)
  ||| (bit32 r.overMeas)

/-- A plain write of LAST_FLAGS. -/
def LastFlags.write (r : LastFlags) (w : BitVec 32) : LastFlags :=
  { r with
    unconfDraw := r.unconfDraw && !w.getLsbD 7
    meterStale := r.meterStale && !w.getLsbD 6
    floorScaled := r.floorScaled && !w.getLsbD 5
    iterLimit := r.iterLimit && !w.getLsbD 4
    ackLate := r.ackLate && !w.getLsbD 3
    curveBad := r.curveBad && !w.getLsbD 2
    ghost := r.ghost && !w.getLsbD 1
    overMeas := r.overMeas && !w.getLsbD 0 }

/-- LAST_FDR_CAPk as a 32-bit word. -/
def LastFdrCap.read (r : LastFdrCap) : BitVec 32 :=
  (bit32 r.en <<< 31)
  ||| (bit32 r.mtrEn <<< 30)
  ||| (r.imp.setWidth 32)

/-- LAST_FDR_BASEk as a 32-bit word. -/
def LastFdrBase.read (r : LastFdrBase) : BitVec 32 :=
  (r.mtrGcid.setWidth 32 <<< 24)
  ||| (r.base.setWidth 32)

/-- A read of the block at an offset; none where no register stands. -/
def LastRegs.read (r : LastRegs) (o : Nat) : Option (BitVec 32) :=
  if o = 0x2000 then some (r.cfg.read) else
  if o = 0x2004 then some (r.status.read) else
  if o = 0x2008 then some (r.epoch) else
  if o = 0x200C then some (r.t0Lo) else
  if o = 0x2010 then some (r.t0Hi) else
  if o = 0x2014 then some ((r.gen.setWidth 32)) else
  if o = 0x2018 then some ((r.siteCap.setWidth 32)) else
  if o = 0x201C then some ((r.siteCapx.setWidth 32)) else
  if o = 0x2020 then some (r.siteMeter.read) else
  if o = 0x2024 then some ((r.siteRoom.setWidth 32)) else
  if o = 0x2028 then some ((r.siteSum.setWidth 32)) else
  if o = 0x2100 then some ((r.ctxSel.setWidth 32)) else
  if o = 0x2104 then some (r.ctxData0.read) else
  if o = 0x2108 then some ((r.ctxData1.setWidth 32)) else
  if o = 0x210C then some ((r.ctxData2.setWidth 32)) else
  if o = 0x2110 then some ((r.ctxData3.setWidth 32)) else
  if o = 0x2114 then some ((r.ctxData4.setWidth 32)) else
  if o = 0x2118 then some (r.ctxData5.read) else
  if o = 0x2120 then some (r.flags.read) else
  if 0x2040 ≤ o ∧ o < 0x2060 ∧ (o - 0x2040) % 4 = 0 then some ((vget r.fdrCap ((o - 0x2040) / 4) {}).read) else
  if 0x2060 ≤ o ∧ o < 0x2080 ∧ (o - 0x2060) % 4 = 0 then some (((vget r.fdrCapx ((o - 0x2060) / 4) 0).setWidth 32)) else
  if 0x2080 ≤ o ∧ o < 0x20A0 ∧ (o - 0x2080) % 4 = 0 then some ((vget r.fdrBase ((o - 0x2080) / 4) {}).read) else
  if 0x20A0 ≤ o ∧ o < 0x20C0 ∧ (o - 0x20A0) % 4 = 0 then some (((vget r.fdrRoom ((o - 0x20A0) / 4) 0).setWidth 32)) else
  if 0x20C0 ≤ o ∧ o < 0x20E0 ∧ (o - 0x20C0) % 4 = 0 then some (((vget r.fdrSum ((o - 0x20C0) / 4) 0).setWidth 32)) else
  none

/-- A plain write of the block at an offset; unchanged where no register stands. -/
def LastRegs.write (r : LastRegs) (o : Nat) (w : BitVec 32) : LastRegs :=
  if o = 0x2100 then { r with ctxSel := w.extractLsb' 0 8 } else
  if o = 0x2120 then { r with flags := r.flags.write w } else
  r

/-- PAIR_CFG as a 32-bit word. -/
def PairCfg.read (r : PairCfg) : BitVec 32 :=
  (bit32 r.aValid <<< 31)
  ||| (r.nidA.setWidth 32 <<< 24)
  ||| (bit32 r.bValid <<< 23)
  ||| (r.nidB.setWidth 32 <<< 16)
  ||| (bit32 r.sbyRest <<< 1)
  ||| (bit32 r.auto)

/-- PAIR_STATUS as a 32-bit word. -/
def PairStatus.read (r : PairStatus) : BitVec 32 :=
  (BitVec.ofNat 32 r.role.code <<< 29)
  ||| (bit32 r.quorum <<< 28)
  ||| (bit32 r.ckptValid <<< 27)
  ||| (bit32 r.planOn <<< 26)
  ||| (r.peerNid.setWidth 32 <<< 16)
  ||| (bit32 r.peerValid <<< 15)
  ||| (r.failRun.setWidth 32 <<< 8)

/-- PAIR_EVT as a 32-bit word. -/
def PairEvt.read (r : PairEvt) : BitVec 32 :=
  (bit32 r.overlap <<< 7)
  ||| (bit32 r.quorumLost <<< 6)
  ||| (bit32 r.peerLost <<< 5)
  ||| (bit32 r.mirrorStale <<< 4)
  ||| (bit32 r.checkFail <<< 3)
  ||| (bit32 r.swap <<< 2)
  ||| (bit32 r.demoted <<< 1)
  ||| (bit32 r.takeover)

/-- A plain write of PAIR_EVT. -/
def PairEvt.write (r : PairEvt) (w : BitVec 32) : PairEvt :=
  { r with
    overlap := r.overlap && !w.getLsbD 7
    quorumLost := r.quorumLost && !w.getLsbD 6
    peerLost := r.peerLost && !w.getLsbD 5
    mirrorStale := r.mirrorStale && !w.getLsbD 4
    checkFail := r.checkFail && !w.getLsbD 3
    swap := r.swap && !w.getLsbD 2
    demoted := r.demoted && !w.getLsbD 1
    takeover := r.takeover && !w.getLsbD 0 }

/-- PAIR_CHECK as a 32-bit word. -/
def PairCheck.read (r : PairCheck) : BitVec 32 :=
  (r.check.setWidth 32 <<< 28)
  ||| (r.cap.setWidth 32 <<< 16)
  ||| (r.gcid.setWidth 32)

/-- A read of the block at an offset; none where no register stands. -/
def PairRegs.read (r : PairRegs) (o : Nat) : Option (BitVec 32) :=
  if o = 0x2400 then some (r.cfg.read) else
  if o = 0x2404 then some (r.status.read) else
  if o = 0x2408 then some (r.evt.read) else
  if o = 0x240C then some (r.check.read) else
  if o = 0x2410 then some (r.failCnt) else
  if o = 0x2414 then some ((r.ckptAge.setWidth 32)) else
  if o = 0x2418 then some (r.takeEpoch) else
  none

/-- A plain write of the block at an offset; unchanged where no register stands. -/
def PairRegs.write (r : PairRegs) (o : Nat) (w : BitVec 32) : PairRegs :=
  if o = 0x2408 then { r with evt := r.evt.write w } else
  r

/-- GW_CTRL as a 32-bit word. -/
def GwCtrl.read (r : GwCtrl) : BitVec 32 :=
  (r.rdTmo.setWidth 32 <<< 16)
  ||| (bit32 r.refsel)

/-- A plain write of GW_CTRL. -/
def GwCtrl.write (r : GwCtrl) (w : BitVec 32) : GwCtrl :=
  { r with
    rdTmo := clampBv (w.extractLsb' 16 16) 100 1000
    refsel := w.getLsbD 0 }

/-- GW_STATUS as a 32-bit word. -/
def GwStatus.read (r : GwStatus) : BitVec 32 :=
  (bit32 r.gateway <<< 31)
  ||| (bit32 r.refused <<< 30)
  ||| (bit32 r.linkUp <<< 29)
  ||| (bit32 r.bme <<< 28)
  ||| (r.speed.setWidth 32 <<< 24)
  ||| (r.width.setWidth 32 <<< 22)
  ||| (r.peerNid.setWidth 32 <<< 16)
  ||| (bit32 r.peerValid <<< 15)
  ||| (r.inflight.setWidth 32)

/-- GW_IRQ_CFG as a 32-bit word. -/
def GwIrqCfg.read (r : GwIrqCfg) : BitVec 32 :=
  (r.errVec.setWidth 32 <<< 24)
  ||| (r.nattnVec.setWidth 32 <<< 16)
  ||| (r.attnVec.setWidth 32 <<< 8)
  ||| (bit32 r.errEn <<< 2)
  ||| (bit32 r.nattnEn <<< 1)
  ||| (bit32 r.attnEn)

/-- A plain write of GW_IRQ_CFG. -/
def GwIrqCfg.write (r : GwIrqCfg) (w : BitVec 32) : GwIrqCfg :=
  { r with
    errVec := w.extractLsb' 24 6
    nattnVec := w.extractLsb' 16 6
    attnVec := w.extractLsb' 8 6
    errEn := w.getLsbD 2
    nattnEn := w.getLsbD 1
    attnEn := w.getLsbD 0 }

/-- A read of the block at an offset; none where no register stands. -/
def GwRegs.read (r : GwRegs) (o : Nat) : Option (BitVec 32) :=
  if o = 0x3000 then some (r.ctrl.read) else
  if o = 0x3004 then some (r.status.read) else
  if o = 0x3008 then some (r.irqCfg.read) else
  if o = 0x3010 then some ((r.cntSel.setWidth 32)) else
  if o = 0x3014 then some (r.cntData) else
  if o = 0x3100 then some ((r.ringSel.setWidth 32)) else
  if 0x3020 ≤ o ∧ o < 0x3040 ∧ (o - 0x3020) % 4 = 0 then some ((vget r.attn ((o - 0x3020) / 4) 0)) else
  if 0x3040 ≤ o ∧ o < 0x3048 ∧ (o - 0x3040) % 4 = 0 then some ((vget r.nattn ((o - 0x3040) / 4) 0)) else
  none

/-- A plain write of the block at an offset; unchanged where no register stands. -/
def GwRegs.write (r : GwRegs) (o : Nat) (w : BitVec 32) : GwRegs :=
  if o = 0x3000 then { r with ctrl := r.ctrl.write w } else
  if o = 0x3008 then { r with irqCfg := r.irqCfg.write w } else
  if o = 0x3010 then { r with cntSel := w.extractLsb' 0 4 } else
  if o = 0x3100 then { r with ringSel := w.extractLsb' 0 6 } else
  if 0x3020 ≤ o ∧ o < 0x3040 ∧ (o - 0x3020) % 4 = 0 then { r with attn := vset r.attn ((o - 0x3020) / 4) ((vget r.attn ((o - 0x3020) / 4) 0) &&& ~~~(w)) } else
  if 0x3040 ≤ o ∧ o < 0x3048 ∧ (o - 0x3040) % 4 = 0 then { r with nattn := vset r.nattn ((o - 0x3040) / 4) ((vget r.nattn ((o - 0x3040) / 4) 0) &&& ~~~(w)) } else
  r

/-- GW_RING_CFG as a 32-bit word. -/
def GwRingCfg.read (r : GwRingCfg) : BitVec 32 :=
  (bit32 r.en <<< 31)
  ||| (r.size.setWidth 32 <<< 16)
  ||| (r.tmoDef.setWidth 32)

/-- A plain write of GW_RING_CFG. -/
def GwRingCfg.write (r : GwRingCfg) (w : BitVec 32) : GwRingCfg :=
  { r with
    en := w.getLsbD 31
    size := clampBv (w.extractLsb' 16 4) 4 12
    tmoDef := clampBv (w.extractLsb' 0 16) 1 65535 }

/-- GW_RING_IRQ as a 32-bit word. -/
def GwRingIrq.read (r : GwRingIrq) : BitVec 32 :=
  (r.time.setWidth 32 <<< 16)
  ||| (r.cnt.setWidth 32 <<< 8)
  ||| (r.vec.setWidth 32)

/-- A plain write of GW_RING_IRQ. -/
def GwRingIrq.write (r : GwRingIrq) (w : BitVec 32) : GwRingIrq :=
  { r with
    time := w.extractLsb' 16 16
    cnt := w.extractLsb' 8 8
    vec := w.extractLsb' 0 6 }

/-- GW_RING_STATUS as a 32-bit word. -/
def GwRingStatus.read (r : GwRingStatus) : BitVec 32 :=
  (BitVec.ofNat 32 r.state.code <<< 29)
  ||| (r.err.setWidth 32 <<< 26)
  ||| (r.inflight.setWidth 32)

/-- GW_RING_PTR as a 32-bit word. -/
def GwRingPtr.read (r : GwRingPtr) : BitVec 32 :=
  (r.sqHead.setWidth 32 <<< 16)
  ||| (r.cqTail.setWidth 32)

/-- A read of the block at an offset; none where no register stands. -/
def GwRingRegs.read (r : GwRingRegs) (o : Nat) : Option (BitVec 32) :=
  if o = 0x3104 then some ((r.sqBaseLo.setWidth 32 <<< 6)) else
  if o = 0x3108 then some (r.sqBaseHi) else
  if o = 0x310C then some ((r.cqBaseLo.setWidth 32 <<< 4)) else
  if o = 0x3110 then some (r.cqBaseHi) else
  if o = 0x3114 then some (r.cfg.read) else
  if o = 0x3118 then some (r.irq.read) else
  if o = 0x311C then some (r.status.read) else
  if o = 0x3120 then some (r.ptr.read) else
  none

/-- A plain write of the block at an offset; unchanged where no register stands. -/
def GwRingRegs.write (r : GwRingRegs) (o : Nat) (w : BitVec 32) : GwRingRegs :=
  if o = 0x3104 then { r with sqBaseLo := w.extractLsb' 6 26 } else
  if o = 0x3108 then { r with sqBaseHi := w } else
  if o = 0x310C then { r with cqBaseLo := w.extractLsb' 4 28 } else
  if o = 0x3110 then { r with cqBaseHi := w } else
  if o = 0x3114 then { r with cfg := r.cfg.write w } else
  if o = 0x3118 then { r with irq := r.irq.write w } else
  r

/-- GW_WPk_STATUS as a 32-bit word. -/
def GwWpkStatus.read (r : GwWpkStatus) : BitVec 32 :=
  (BitVec.ofNat 32 r.state.code <<< 28)
  ||| (r.wlen.setWidth 32 <<< 16)
  ||| (bit32 r.naked <<< 15)
  ||| (r.bseq.setWidth 32)

/-- GW_WPk_CMD as a 32-bit word. -/
def GwWpkCmd.read (r : GwWpkCmd) : BitVec 32 :=
  0#32

/-- GW_WPk_INFO as a 32-bit word. -/
def GwWpkInfo.read (r : GwWpkInfo) : BitVec 32 :=
  (r.opcode.setWidth 32 <<< 16)
  ||| (bit32 r.dir <<< 8)
  ||| (r.target.setWidth 32)

/-- A read of the block at an offset; none where no register stands. -/
def GwPortRegs.read (r : GwPortRegs) (o : Nat) : Option (BitVec 32) :=
  if o = 0x3200 then some (r.status.read) else
  if o = 0x3204 then some (r.check) else
  if o = 0x3208 then some (r.cmd.read) else
  if o = 0x320C then some (r.info.read) else
  none

/-- A plain write of the block at an offset; unchanged where no register stands. -/
def GwPortRegs.write (r : GwPortRegs) (o : Nat) (w : BitVec 32) : GwPortRegs :=
  if o = 0x3204 then { r with check := w } else
  r

/-- LC_STATUS as a 32-bit word. -/
def LcStatus.read (r : LcStatus) : BitVec 32 :=
  (BitVec.ofNat 32 r.state.code <<< 29)
  ||| (bit32 r.debug <<< 28)
  ||| (bit32 r.busy <<< 27)

/-- LC_ARB as a 32-bit word. -/
def LcArb.read (r : LcArb) : BitVec 32 :=
  (r.arbLegal.setWidth 32 <<< 24)
  ||| (r.arbFw.setWidth 32 <<< 16)

/-- KEY_CTR_HI as a 32-bit word. -/
def KeyCtrHi.read (r : KeyCtrHi) : BitVec 32 :=
  (r.groups.setWidth 32 <<< 16)
  ||| (r.ctr.setWidth 32)

/-- KEY_FAIL as a 32-bit word. -/
def KeyFail.read (r : KeyFail) : BitVec 32 :=
  (r.tagFail.setWidth 32 <<< 16)
  ||| (r.ctrStale.setWidth 32)

/-- TAMP_CFG as a 32-bit word. -/
def TampCfg.read (r : TampCfg) : BitVec 32 :=
  (r.tf1.setWidth 32 <<< 24)
  ||| (r.tf0.setWidth 32 <<< 16)
  ||| (bit32 r.en1 <<< 1)
  ||| (bit32 r.en0)

/-- TAMP_STATUS as a 32-bit word. -/
def TampStatus.read (r : TampStatus) : BitVec 32 :=
  (bit32 r.hold <<< 31)
  ||| (bit32 r.startup <<< 30)
  ||| (bit32 r.in1Open <<< 25)
  ||| (bit32 r.in0Open <<< 24)
  ||| (r.first.setWidth 32 <<< 16)
  ||| (r.seen.setWidth 32)

/-- A plain write of TAMP_STATUS. -/
def TampStatus.write (r : TampStatus) (w : BitVec 32) : TampStatus :=
  { r with
    seen := r.seen &&& ~~~(w.extractLsb' 0 7) }

/-- A read of the block at an offset; none where no register stands. -/
def KeyRegs.read (r : KeyRegs) (o : Nat) : Option (BitVec 32) :=
  if o = 0x0 then some (r.lcStatus.read) else
  if o = 0x4 then some (r.lcArb.read) else
  if o = 0x8 then some (r.keySlotStatus) else
  if o = 0xC then some ((r.keyCtrSel.setWidth 32)) else
  if o = 0x10 then some (r.keyCtrLo) else
  if o = 0x14 then some (r.keyCtrHi.read) else
  if o = 0x18 then some (r.keyFail.read) else
  if o = 0x20 then some (r.tampCfg.read) else
  if o = 0x24 then some (r.tampStatus.read) else
  if o = 0x28 then some ((r.tampCnt.setWidth 32)) else
  none

/-- A plain write of the block at an offset; unchanged where no register stands. -/
def KeyRegs.write (r : KeyRegs) (o : Nat) (w : BitVec 32) : KeyRegs :=
  if o = 0xC then { r with keyCtrSel := w.extractLsb' 0 4 } else
  if o = 0x24 then { r with tampStatus := r.tampStatus.write w } else
  r

/-- PM_CTRL as a 32-bit word. -/
def PmCtrl.read (r : PmCtrl) : BitVec 32 :=
  (bit32 r.auto <<< 31)
  ||| (r.dwell.setWidth 32)

/-- A plain write of PM_CTRL. -/
def PmCtrl.write (r : PmCtrl) (w : BitVec 32) : PmCtrl :=
  { r with
    auto := w.getLsbD 31
    dwell := clampBv (w.extractLsb' 0 16) 10 60000 }

/-- PM_LIMIT as a 32-bit word. -/
def PmLimit.read (r : PmLimit) : BitVec 32 :=
  (r.hubDeep.setWidth 32 <<< 16)
  ||| (r.chDeep.setWidth 32)

/-- A plain write of PM_LIMIT. -/
def PmLimit.write (r : PmLimit) (w : BitVec 32) : PmLimit :=
  { r with
    hubDeep := w.extractLsb' 16 2
    chDeep := w.extractLsb' 0 16 }

/-- PM_STATUS as a 32-bit word. -/
def PmStatus.read (r : PmStatus) : BitVec 32 :=
  (r.hub.setWidth 32 <<< 16)
  ||| (r.ch.setWidth 32)

/-- PM_WHY as a 32-bit word. -/
def PmWhy.read (r : PmWhy) : BitVec 32 :=
  (r.hub.setWidth 32 <<< 16)
  ||| (r.ch.setWidth 32)

/-- PM_POWER as a 32-bit word. -/
def PmPower.read (r : PmPower) : BitVec 32 :=
  (r.vaux.setWidth 32 <<< 16)
  ||| (r.pin.setWidth 32)

/-- PM_OVH as a 32-bit word. -/
def PmOvh.read (r : PmOvh) : BitVec 32 :=
  (bit32 r.valid <<< 31)
  ||| (r.ovh.setWidth 32)

/-- TH_CFG as a 32-bit word. -/
def ThCfg.read (r : ThCfg) : BitVec 32 :=
  (r.thrT.setWidth 32 <<< 16)
  ||| (r.maxLevel.setWidth 32)

/-- A plain write of TH_CFG. -/
def ThCfg.write (r : ThCfg) (w : BitVec 32) : ThCfg :=
  { r with
    thrT := clampBv (w.extractLsb' 16 16) 880 1100
    maxLevel := w.extractLsb' 0 3 }

/-- TH_MAX as a 32-bit word. -/
def ThMax.read (r : ThMax) : BitVec 32 :=
  (r.band.setWidth 32 <<< 24)
  ||| (r.die.setWidth 32 <<< 20)
  ||| (r.t.setWidth 32)

/-- TH_DIE_DATA0 as a 32-bit word. -/
def ThDieData0.read (r : ThDieData0) : BitVec 32 :=
  (r.tPeak.setWidth 32 <<< 16)
  ||| (r.t.setWidth 32)

/-- TH_DIE_DATA1 as a 32-bit word. -/
def ThDieData1.read (r : ThDieData1) : BitVec 32 :=
  (bit32 r.sensFlt <<< 31)
  ||| (bit32 r.tjSd <<< 30)
  ||| (r.band.setWidth 32 <<< 24)
  ||| (r.level.setWidth 32 <<< 16)
  ||| (r.thrS.setWidth 32)

/-- TH_EVT as a 32-bit word. -/
def ThEvt.read (r : ThEvt) : BitVec 32 :=
  (bit32 r.tjSd <<< 5)
  ||| (bit32 r.tb4 <<< 4)
  ||| (bit32 r.tb3 <<< 3)
  ||| (bit32 r.tb0 <<< 2)
  ||| (bit32 r.throttle <<< 1)
  ||| (bit32 r.sensFlt)

/-- A plain write of TH_EVT. -/
def ThEvt.write (r : ThEvt) (w : BitVec 32) : ThEvt :=
  { r with
    tjSd := r.tjSd && !w.getLsbD 5
    tb4 := r.tb4 && !w.getLsbD 4
    tb3 := r.tb3 && !w.getLsbD 3
    tb0 := r.tb0 && !w.getLsbD 2
    throttle := r.throttle && !w.getLsbD 1
    sensFlt := r.sensFlt && !w.getLsbD 0 }

/-- AGE_CFG as a 32-bit word. -/
def AgeCfg.read (r : AgeCfg) : BitVec 32 :=
  (r.replan.setWidth 32 <<< 24)
  ||| (r.mTgt.setWidth 32 <<< 8)

/-- A plain write of AGE_CFG. -/
def AgeCfg.write (r : AgeCfg) (w : BitVec 32) : AgeCfg :=
  { r with
    replan := clampBv (w.extractLsb' 24 8) 1 168
    mTgt := clampBv (w.extractLsb' 8 8) 4 40 }

/-- AGE_DATA0 as a 32-bit word. -/
def AgeData0.read (r : AgeData0) : BitVec 32 :=
  (r.vSet.setWidth 32 <<< 16)
  ||| (r.vBase.setWidth 32)

/-- AGE_DATA1 as a 32-bit word. -/
def AgeData1.read (r : AgeData1) : BitVec 32 :=
  (r.vAge.setWidth 32 <<< 24)
  ||| (r.vBand.setWidth 32 <<< 16)
  ||| (r.margin.setWidth 32)

/-- AGE_DATA2 as a 32-bit word. -/
def AgeData2.read (r : AgeData2) : BitVec 32 :=
  (r.years.setWidth 32 <<< 16)
  ||| (r.headroom.setWidth 32 <<< 8)
  ||| (r.records.setWidth 32)

/-- AGE_EVT as a 32-bit word. -/
def AgeEvt.read (r : AgeEvt) : BitVec 32 :=
  (r.limit.setWidth 32 <<< 16)
  ||| (r.fast.setWidth 32 <<< 8)
  ||| (r.step.setWidth 32)

/-- A plain write of AGE_EVT. -/
def AgeEvt.write (r : AgeEvt) (w : BitVec 32) : AgeEvt :=
  { r with
    limit := r.limit &&& ~~~(w.extractLsb' 16 5)
    fast := r.fast &&& ~~~(w.extractLsb' 8 5)
    step := r.step &&& ~~~(w.extractLsb' 0 5) }

/-- A read of the block at an offset; none where no register stands. -/
def PmRegs.read (r : PmRegs) (o : Nat) : Option (BitVec 32) :=
  if o = 0x5000 then some (r.pmCtrl.read) else
  if o = 0x5004 then some ((r.pmLtrVd.setWidth 32)) else
  if o = 0x5008 then some ((r.pmLtrGr.setWidth 32)) else
  if o = 0x500C then some ((r.pmLtrDr.setWidth 32)) else
  if o = 0x5010 then some (r.pmLimit.read) else
  if o = 0x5014 then some (r.pmStatus.read) else
  if o = 0x5018 then some (r.pmWhy.read) else
  if o = 0x501C then some ((r.pmWake.setWidth 32)) else
  if o = 0x5020 then some (r.pmPower.read) else
  if o = 0x5024 then some (r.pmOvh.read) else
  if o = 0x5100 then some (r.thCfg.read) else
  if o = 0x5104 then some (r.thMax.read) else
  if o = 0x5108 then some ((r.thDieSel.setWidth 32)) else
  if o = 0x510C then some (r.thDieData0.read) else
  if o = 0x5110 then some (r.thDieData1.read) else
  if o = 0x5114 then some (r.thEvt.read) else
  if o = 0x5200 then some (r.ageCfg.read) else
  if o = 0x5204 then some ((r.ageSel.setWidth 32)) else
  if o = 0x5208 then some (r.ageData0.read) else
  if o = 0x520C then some (r.ageData1.read) else
  if o = 0x5210 then some (r.ageData2.read) else
  if o = 0x5214 then some (r.ageEvt.read) else
  none

/-- A plain write of the block at an offset; unchanged where no register stands. -/
def PmRegs.write (r : PmRegs) (o : Nat) (w : BitVec 32) : PmRegs :=
  if o = 0x5000 then { r with pmCtrl := r.pmCtrl.write w } else
  if o = 0x5004 then { r with pmLtrVd := w.extractLsb' 0 24 } else
  if o = 0x5008 then { r with pmLtrGr := w.extractLsb' 0 24 } else
  if o = 0x500C then { r with pmLtrDr := w.extractLsb' 0 24 } else
  if o = 0x5010 then { r with pmLimit := r.pmLimit.write w } else
  if o = 0x5100 then { r with thCfg := r.thCfg.write w } else
  if o = 0x5108 then { r with thDieSel := w.extractLsb' 0 4 } else
  if o = 0x5114 then { r with thEvt := r.thEvt.write w } else
  if o = 0x5200 then { r with ageCfg := r.ageCfg.write w } else
  if o = 0x5204 then { r with ageSel := w.extractLsb' 0 3 } else
  if o = 0x5214 then { r with ageEvt := r.ageEvt.write w } else
  r

/-- COB_SCHED as a 32-bit word. -/
def CobSched.read (r : CobSched) : BitVec 32 :=
  (r.interval.setWidth 32 <<< 16)
  ||| (r.mask.setWidth 32 <<< 1)

/-- COB_STATUS as a 32-bit word. -/
def CobStatus.read (r : CobStatus) : BitVec 32 :=
  (BitVec.ofNat 32 r.state.code <<< 30)
  ||| (r.die.setWidth 32 <<< 24)
  ||| (r.test.setWidth 32 <<< 16)
  ||| (r.queued.setWidth 32)

/-- COB_RES_SEL as a 32-bit word. -/
def CobResSel.read (r : CobResSel) : BitVec 32 :=
  (r.die.setWidth 32 <<< 8)
  ||| (r.test.setWidth 32)

/-- A plain write of COB_RES_SEL. -/
def CobResSel.write (r : CobResSel) (w : BitVec 32) : CobResSel :=
  { r with
    die := w.extractLsb' 8 3
    test := w.extractLsb' 0 4 }

/-- COB_RES_DATA0 as a 32-bit word. -/
def CobResData0.read (r : CobResData0) : BitVec 32 :=
  (r.result.setWidth 32 <<< 30)
  ||| (r.detail.setWidth 32 <<< 16)
  ||| (r.dur.setWidth 32)

/-- COB_CNT as a 32-bit word. -/
def CobCnt.read (r : CobCnt) : BitVec 32 :=
  (r.pass.setWidth 32 <<< 16)
  ||| (r.fail.setWidth 32)

/-- A read of the block at an offset; none where no register stands. -/
def CobRegs.read (r : CobRegs) (o : Nat) : Option (BitVec 32) :=
  if o = 0x6000 then some (r.sched.read) else
  if o = 0x6004 then some (r.status.read) else
  if o = 0x6008 then some (r.resSel.read) else
  if o = 0x600C then some (r.resData0.read) else
  if o = 0x6010 then some (r.resTLo) else
  if o = 0x6014 then some (r.resTHi) else
  if o = 0x6018 then some ((r.fail.setWidth 32)) else
  if o = 0x601C then some (r.cnt.read) else
  none

/-- A plain write of the block at an offset; unchanged where no register stands. -/
def CobRegs.write (r : CobRegs) (o : Nat) (w : BitVec 32) : CobRegs :=
  if o = 0x6008 then { r with resSel := r.resSel.write w } else
  if o = 0x6018 then { r with fail := r.fail &&& ~~~(w.extractLsb' 0 5) } else
  r

/-- CH_ID as a 32-bit word. -/
def ChId.read (r : ChId) : BitVec 32 :=
  (r.part.setWidth 32 <<< 16)
  ||| (r.soleStep.setWidth 32 <<< 12)
  ||| (r.ch.setWidth 32 <<< 10)
  ||| (bit32 r.gcidValid <<< 8)
  ||| (r.gcid.setWidth 32)

/-- CH_LINK_STATUS as a 32-bit word. -/
def ChLinkStatus.read (r : ChLinkStatus) : BitVec 32 :=
  (bit32 r.hubLost <<< 31)
  ||| (bit32 r.hubPresent <<< 30)
  ||| (bit32 r.eydLinkOk <<< 29)
  ||| (bit32 r.eydLinkErr <<< 28)
  ||| (bit32 r.aonPend <<< 27)
  ||| (bit32 r.relockActive <<< 26)
  ||| (r.retrain.setWidth 32)

/-- A plain write of CH_LINK_STATUS. -/
def ChLinkStatus.write (r : ChLinkStatus) (w : BitVec 32) : ChLinkStatus :=
  { r with
    hubLost := r.hubLost && !w.getLsbD 31
    eydLinkErr := r.eydLinkErr && !w.getLsbD 28 }

/-- CH_SVC as a 32-bit word. -/
def ChSvc.read (r : ChSvc) : BitVec 32 :=
  (BitVec.ofNat 32 r.state.code <<< 30)
  ||| (BitVec.ofNat 32 r.purpose.code <<< 28)
  ||| (bit32 r.stop <<< 27)

/-- CH_FW_STATUS as a 32-bit word. -/
def ChFwStatus.read (r : ChFwStatus) : BitVec 32 :=
  (BitVec.ofNat 32 r.fwState.code <<< 29)
  ||| (bit32 r.slot <<< 28)
  ||| (bit32 r.trialFail <<< 27)
  ||| (r.trialLeft.setWidth 32)

/-- A plain write of CH_FW_STATUS. -/
def ChFwStatus.write (r : ChFwStatus) (w : BitVec 32) : ChFwStatus :=
  { r with
    trialFail := r.trialFail && !w.getLsbD 27 }

/-- CH_RST_CAUSE as a 32-bit word. -/
def ChRstCause.read (r : ChRstCause) : BitVec 32 :=
  (bit32 r.rail <<< 2)
  ||| (bit32 r.wdt <<< 1)
  ||| (bit32 r.module)

/-- A plain write of CH_RST_CAUSE. -/
def ChRstCause.write (r : ChRstCause) (w : BitVec 32) : ChRstCause :=
  { r with
    rail := r.rail && !w.getLsbD 2
    wdt := r.wdt && !w.getLsbD 1
    module := r.module && !w.getLsbD 0 }

/-- CH_WDT as a 32-bit word. -/
def ChWdt.read (r : ChWdt) : BitVec 32 :=
  (r.exp.setWidth 32 <<< 24)
  ||| (r.tmo.setWidth 32)

/-- A plain write of CH_WDT. -/
def ChWdt.write (r : ChWdt) (w : BitVec 32) : ChWdt :=
  { r with
    tmo := clampBv (w.extractLsb' 0 16) 20 1000 }

/-- CH_BOOT as a 32-bit word. -/
def ChBoot.read (r : ChBoot) : BitVec 32 :=
  (bit32 r.lcodeBad <<< 4)
  ||| (bit32 r.trialEnd <<< 3)
  ||| (bit32 r.commitInt <<< 2)
  ||| (bit32 r.slotAlt <<< 1)

/-- A plain write of CH_BOOT. -/
def ChBoot.write (r : ChBoot) (w : BitVec 32) : ChBoot :=
  { r with
    trialEnd := r.trialEnd && !w.getLsbD 3
    commitInt := r.commitInt && !w.getLsbD 2 }

/-- CH_ROLE as a 32-bit word. -/
def ChRole.read (r : ChRole) : BitVec 32 :=
  (bit32 r.meterNext <<< 1)
  ||| (bit32 r.meter)

/-- A read of the block at an offset; none where no register stands. -/
def ChRegs.read (r : ChRegs) (o : Nat) : Option (BitVec 32) :=
  if o = 0x0 then some (r.id.read) else
  if o = 0x4 then some (r.linkStatus.read) else
  if o = 0x10 then some (r.svc.read) else
  if o = 0x14 then some (r.fwStatus.read) else
  if o = 0x18 then some (r.fwVer) else
  if o = 0x1C then some (r.fwNext) else
  if o = 0x20 then some (r.rstCause.read) else
  if o = 0x24 then some (r.wdt.read) else
  if o = 0x28 then some (r.boot.read) else
  if o = 0x2C then some (r.role.read) else
  none

/-- A plain write of the block at an offset; unchanged where no register stands. -/
def ChRegs.write (r : ChRegs) (o : Nat) (w : BitVec 32) : ChRegs :=
  if o = 0x4 then { r with linkStatus := r.linkStatus.write w } else
  if o = 0x14 then { r with fwStatus := r.fwStatus.write w } else
  if o = 0x20 then { r with rstCause := r.rstCause.write w } else
  if o = 0x24 then { r with wdt := r.wdt.write w } else
  if o = 0x28 then { r with boot := r.boot.write w } else
  r

/-- CH_GRANT_CFG as a 32-bit word. -/
def ChGrantCfg.read (r : ChGrantCfg) : BitVec 32 :=
  (r.tHold.setWidth 32 <<< 16)
  ||| (r.effMin.setWidth 32 <<< 8)
  ||| (r.effMargin.setWidth 32 <<< 3)
  ||| (r.pc.setWidth 32)

/-- CH_GRANT_STATE as a 32-bit word. -/
def ChGrantState.read (r : ChGrantState) : BitVec 32 :=
  (BitVec.ofNat 32 r.state.code <<< 29)
  ||| (bit32 r.merge <<< 28)
  ||| (bit32 r.large <<< 27)
  ||| (bit32 r.holdSeen <<< 26)
  ||| (r.coordNid.setWidth 32 <<< 16)
  ||| (r.gen.setWidth 32)

/-- A plain write of CH_GRANT_STATE. -/
def ChGrantState.write (r : ChGrantState) (w : BitVec 32) : ChGrantState :=
  { r with
    holdSeen := r.holdSeen && !w.getLsbD 26 }

/-- A read of the block at an offset; none where no register stands. -/
def GrantRegs.read (r : GrantRegs) (o : Nat) : Option (BitVec 32) :=
  if o = 0x300 then some (r.cfg.read) else
  if o = 0x304 then some ((r.floor.setWidth 32)) else
  if o = 0x308 then some ((r.pmax.setWidth 32)) else
  if o = 0x30C then some (r.state.read) else
  if o = 0x310 then some ((r.imp.setWidth 32)) else
  if o = 0x314 then some ((r.exp.setWidth 32)) else
  if o = 0x318 then some ((r.flr.setWidth 32)) else
  if o = 0x31C then some (r.epoch) else
  if o = 0x320 then some ((r.plim.setWidth 32)) else
  none

/-- A plain write of the block at an offset; unchanged where no register stands. -/
def GrantRegs.write (r : GrantRegs) (o : Nat) (w : BitVec 32) : GrantRegs :=
  if o = 0x30C then { r with state := r.state.write w } else
  r

/-- PWM_CTRL as a 32-bit word. -/
def PwmCtrl.read (r : PwmCtrl) : BitVec 32 :=
  (bit32 r.ofsSrc <<< 2)
  ||| (bit32 r.syncSrc <<< 1)
  ||| (bit32 r.arm)

/-- A plain write of PWM_CTRL. -/
def PwmCtrl.write (r : PwmCtrl) (w : BitVec 32) : PwmCtrl :=
  { r with
    ofsSrc := w.getLsbD 2
    syncSrc := w.getLsbD 1
    arm := w.getLsbD 0 }

/-- PWM_STATUS as a 32-bit word. -/
def PwmStatus.read (r : PwmStatus) : BitVec 32 :=
  (bit32 r.slewing <<< 31)
  ||| (bit32 r.fading <<< 30)
  ||| (bit32 r.ls <<< 29)
  ||| (bit32 r.retRef <<< 28)
  ||| (bit32 r.wrIgn <<< 27)
  ||| (bit32 r.cfgErr <<< 26)
  ||| (BitVec.ofNat 32 r.syncState.code <<< 24)
  ||| (r.nEn.setWidth 32 <<< 16)
  ||| (r.nAct.setWidth 32 <<< 8)
  ||| (BitVec.ofNat 32 r.state.code)

/-- A plain write of PWM_STATUS. -/
def PwmStatus.write (r : PwmStatus) (w : BitVec 32) : PwmStatus :=
  { r with
    ls := r.ls && !w.getLsbD 29
    retRef := r.retRef && !w.getLsbD 28
    wrIgn := r.wrIgn && !w.getLsbD 27 }

/-- PWM_DEADTIME as a 32-bit word. -/
def PwmDeadtime.read (r : PwmDeadtime) : BitVec 32 :=
  (r.dtHl.setWidth 32 <<< 16)
  ||| (r.dtLh.setWidth 32)

/-- A plain write of PWM_DEADTIME. -/
def PwmDeadtime.write (r : PwmDeadtime) (w : BitVec 32) : PwmDeadtime :=
  { r with
    dtHl := w.extractLsb' 16 14
    dtLh := w.extractLsb' 0 14 }

/-- PWM_DUTY_LIM as a 32-bit word. -/
def PwmDutyLim.read (r : PwmDutyLim) : BitVec 32 :=
  (r.dMax.setWidth 32 <<< 16)
  ||| (r.dMin.setWidth 32)

/-- A plain write of PWM_DUTY_LIM. -/
def PwmDutyLim.write (r : PwmDutyLim) (w : BitVec 32) : PwmDutyLim :=
  { r with
    dMax := w.extractLsb' 16 16
    dMin := w.extractLsb' 0 16 }

/-- PWM_OFFSET as a 32-bit word. -/
def PwmOffset.read (r : PwmOffset) : BitVec 32 :=
  (r.ofsHost.setWidth 32 <<< 16)
  ||| (r.ofsApplied.setWidth 32)

/-- A plain write of PWM_OFFSET. -/
def PwmOffset.write (r : PwmOffset) (w : BitVec 32) : PwmOffset :=
  { r with
    ofsHost := w.extractLsb' 16 16 }

/-- PWM_SYNC as a 32-bit word. -/
def PwmSync.read (r : PwmSync) : BitVec 32 :=
  (bit32 r.extPol <<< 8)
  ||| (r.spreadSlew.setWidth 32)

/-- A plain write of PWM_SYNC. -/
def PwmSync.write (r : PwmSync) (w : BitVec 32) : PwmSync :=
  { r with
    extPol := w.getLsbD 8
    spreadSlew := w.extractLsb' 0 8 }

/-- PWM_GSYNC as a 32-bit word. -/
def PwmGsync.read (r : PwmGsync) : BitVec 32 :=
  (bit32 r.en <<< 31)
  ||| (r.gdiv.setWidth 32)

/-- A plain write of PWM_GSYNC. -/
def PwmGsync.write (r : PwmGsync) (w : BitVec 32) : PwmGsync :=
  { r with
    en := w.getLsbD 31
    gdiv := w.extractLsb' 0 9 }

/-- PWM_PROT as a 32-bit word. -/
def PwmProt.read (r : PwmProt) : BitVec 32 :=
  (r.ocpThr.setWidth 32 <<< 16)
  ||| (r.ocpFilt.setWidth 32 <<< 4)
  ||| (r.gfltFilt.setWidth 32)

/-- A plain write of PWM_PROT. -/
def PwmProt.write (r : PwmProt) (w : BitVec 32) : PwmProt :=
  { r with
    ocpThr := w.extractLsb' 16 10
    ocpFilt := w.extractLsb' 4 3
    gfltFilt := w.extractLsb' 0 3 }

/-- PWM_TRIP as a 32-bit word. -/
def PwmTrip.read (r : PwmTrip) : BitVec 32 :=
  (bit32 r.shank <<< 10)
  ||| (bit32 r.ring <<< 9)
  ||| (bit32 r.ocp <<< 8)
  ||| (r.gflt.setWidth 32)

/-- A plain write of PWM_TRIP. -/
def PwmTrip.write (r : PwmTrip) (w : BitVec 32) : PwmTrip :=
  { r with
    shank := r.shank && !w.getLsbD 10
    ring := r.ring && !w.getLsbD 9
    ocp := r.ocp && !w.getLsbD 8
    gflt := r.gflt &&& ~~~(w.extractLsb' 0 6) }

/-- PWM_SHED_CFG as a 32-bit word. -/
def PwmShedCfg.read (r : PwmShedCfg) : BitVec 32 :=
  (r.hyst.setWidth 32 <<< 16)
  ||| (r.nMin.setWidth 32 <<< 8)
  ||| (r.tau.setWidth 32 <<< 4)
  ||| (bit32 r.fallback <<< 2)
  ||| (r.mode.setWidth 32)

/-- A plain write of PWM_SHED_CFG. -/
def PwmShedCfg.write (r : PwmShedCfg) (w : BitVec 32) : PwmShedCfg :=
  { r with
    hyst := w.extractLsb' 16 12
    nMin := clampBv (w.extractLsb' 8 5) 1 24
    tau := w.extractLsb' 4 3
    fallback := w.getLsbD 2
    mode := w.extractLsb' 0 2 }

/-- PWM_SHED_TIME as a 32-bit word. -/
def PwmShedTime.read (r : PwmShedTime) : BitVec 32 :=
  (r.dwellUp.setWidth 32 <<< 16)
  ||| (r.dwellDn.setWidth 32)

/-- A plain write of PWM_SHED_TIME. -/
def PwmShedTime.write (r : PwmShedTime) (w : BitVec 32) : PwmShedTime :=
  { r with
    dwellUp := clampBv (w.extractLsb' 16 10) 0 1000
    dwellDn := clampBv (w.extractLsb' 0 16) 1 10000 }

/-- PWM_LOADSTEP as a 32-bit word. -/
def PwmLoadstep.read (r : PwmLoadstep) : BitVec 32 :=
  (r.lsDidt.setWidth 32 <<< 16)
  ||| (r.lsErr.setWidth 32)

/-- A plain write of PWM_LOADSTEP. -/
def PwmLoadstep.write (r : PwmLoadstep) (w : BitVec 32) : PwmLoadstep :=
  { r with
    lsDidt := w.extractLsb' 16 12
    lsErr := w.extractLsb' 0 12 }

/-- PWM_SHED_LIM as a 32-bit word. -/
def PwmShedLim.read (r : PwmShedLim) : BitVec 32 :=
  (r.replan.setWidth 32 <<< 16)
  ||| (r.phImax.setWidth 32)

/-- A plain write of PWM_SHED_LIM. -/
def PwmShedLim.write (r : PwmShedLim) (w : BitVec 32) : PwmShedLim :=
  { r with
    replan := clampBv (w.extractLsb' 16 6) 1 60
    phImax := clampBv (w.extractLsb' 0 9) 1 400 }

/-- PWM_IMB_CFG as a 32-bit word. -/
def PwmImbCfg.read (r : PwmImbCfg) : BitVec 32 :=
  (bit32 r.autoRet <<< 31)
  ||| (r.retThr.setWidth 32 <<< 24)
  ||| (r.thr.setWidth 32 <<< 16)
  ||| (r.cnt.setWidth 32 <<< 8)
  ||| (r.win.setWidth 32)

/-- A plain write of PWM_IMB_CFG. -/
def PwmImbCfg.write (r : PwmImbCfg) (w : BitVec 32) : PwmImbCfg :=
  { r with
    autoRet := w.getLsbD 31
    retThr := clampBv (w.extractLsb' 24 6) 1 50
    thr := clampBv (w.extractLsb' 16 6) 1 50
    cnt := clampBv (w.extractLsb' 8 4) 1 15
    win := clampBv (w.extractLsb' 0 8) 1 255 }

/-- PWM_TEL_STATUS as a 32-bit word. -/
def PwmTelStatus.read (r : PwmTelStatus) : BitVec 32 :=
  (r.telOk.setWidth 32 <<< 24)
  ||| (r.telLost.setWidth 32 <<< 16)
  ||| (r.crcErr.setWidth 32)

/-- A plain write of PWM_TEL_STATUS. -/
def PwmTelStatus.write (r : PwmTelStatus) (w : BitVec 32) : PwmTelStatus :=
  { r with
    telLost := r.telLost &&& ~~~(w.extractLsb' 16 6) }

/-- PWM_PH_DATA0 as a 32-bit word. -/
def PwmPhData0.read (r : PwmPhData0) : BitVec 32 :=
  (r.imb.setWidth 32 <<< 16)
  ||| (r.iAvg.setWidth 32)

/-- PWM_PH_DATA1 as a 32-bit word. -/
def PwmPhData1.read (r : PwmPhData1) : BitVec 32 :=
  (bit32 r.telValid <<< 31)
  ||| (bit32 r.drvUv <<< 30)
  ||| (bit32 r.drvOt <<< 29)
  ||| (r.pstate.setWidth 32 <<< 26)
  ||| (r.temp.setWidth 32)

/-- PWM_SHED_VIEW as a 32-bit word. -/
def PwmShedView.read (r : PwmShedView) : BitVec 32 :=
  (r.n.setWidth 32 <<< 24)
  ||| (bit32 r.src <<< 12)
  ||| (r.thr.setWidth 32)

/-- A plain write of PWM_SHED_VIEW. -/
def PwmShedView.write (r : PwmShedView) (w : BitVec 32) : PwmShedView :=
  { r with
    n := clampBv (w.extractLsb' 24 5) 1 24 }

/-- PWM_SHED_TBL0–11 as a 32-bit word. -/
def PwmShedTbl.read (r : PwmShedTbl) : BitVec 32 :=
  (r.thrHi.setWidth 32 <<< 16)
  ||| (r.thrLo.setWidth 32)

/-- A plain write of PWM_SHED_TBL0–11. -/
def PwmShedTbl.write (r : PwmShedTbl) (w : BitVec 32) : PwmShedTbl :=
  { r with
    thrHi := w.extractLsb' 16 12
    thrLo := w.extractLsb' 0 12 }

/-- A read of the block at an offset; none where no register stands. -/
def PwmRegs.read (r : PwmRegs) (o : Nat) : Option (BitVec 32) :=
  if o = 0x100 then some (r.ctrl.read) else
  if o = 0x104 then some (r.status.read) else
  if o = 0x108 then some ((r.period.setWidth 32)) else
  if o = 0x10C then some (r.deadtime.read) else
  if o = 0x110 then some (r.dutyLim.read) else
  if o = 0x114 then some ((r.minpulse.setWidth 32)) else
  if o = 0x118 then some ((r.duty.setWidth 32)) else
  if o = 0x11C then some ((r.phaseCfg.setWidth 32)) else
  if o = 0x120 then some ((r.retire.setWidth 32)) else
  if o = 0x124 then some ((r.active.setWidth 32)) else
  if o = 0x128 then some (r.offset.read) else
  if o = 0x12C then some (r.sync.read) else
  if o = 0x130 then some (r.gsync.read) else
  if o = 0x134 then some (r.prot.read) else
  if o = 0x138 then some (r.trip.read) else
  if o = 0x13C then some ((r.tripCnt.setWidth 32)) else
  if o = 0x140 then some (r.shedCfg.read) else
  if o = 0x144 then some (r.shedTime.read) else
  if o = 0x148 then some (r.loadstep.read) else
  if o = 0x14C then some (r.shedLim.read) else
  if o = 0x180 then some (r.imbCfg.read) else
  if o = 0x184 then some ((r.imbFlag.setWidth 32)) else
  if o = 0x188 then some (r.telStatus.read) else
  if o = 0x18C then some ((r.phSel.setWidth 32)) else
  if o = 0x190 then some (r.phData0.read) else
  if o = 0x194 then some (r.phData1.read) else
  if o = 0x198 then some (r.shedView.read) else
  if 0x150 ≤ o ∧ o < 0x180 ∧ (o - 0x150) % 4 = 0 then some ((vget r.shedTbl ((o - 0x150) / 4) {}).read) else
  none

/-- A plain write of the block at an offset; unchanged where no register stands. -/
def PwmRegs.write (r : PwmRegs) (o : Nat) (w : BitVec 32) : PwmRegs :=
  if o = 0x100 then { r with ctrl := r.ctrl.write w } else
  if o = 0x104 then { r with status := r.status.write w } else
  if o = 0x108 then { r with period := w.extractLsb' 0 19 } else
  if o = 0x10C then { r with deadtime := r.deadtime.write w } else
  if o = 0x110 then { r with dutyLim := r.dutyLim.write w } else
  if o = 0x114 then { r with minpulse := w.extractLsb' 0 12 } else
  if o = 0x11C then { r with phaseCfg := w.extractLsb' 0 24 } else
  if o = 0x120 then { r with retire := w.extractLsb' 0 24 } else
  if o = 0x128 then { r with offset := r.offset.write w } else
  if o = 0x12C then { r with sync := r.sync.write w } else
  if o = 0x130 then { r with gsync := r.gsync.write w } else
  if o = 0x134 then { r with prot := r.prot.write w } else
  if o = 0x138 then { r with trip := r.trip.write w } else
  if o = 0x140 then { r with shedCfg := r.shedCfg.write w } else
  if o = 0x144 then { r with shedTime := r.shedTime.write w } else
  if o = 0x148 then { r with loadstep := r.loadstep.write w } else
  if o = 0x14C then { r with shedLim := r.shedLim.write w } else
  if o = 0x180 then { r with imbCfg := r.imbCfg.write w } else
  if o = 0x184 then { r with imbFlag := r.imbFlag &&& ~~~(w.extractLsb' 0 24) } else
  if o = 0x188 then { r with telStatus := r.telStatus.write w } else
  if o = 0x18C then { r with phSel := clampBv (w.extractLsb' 0 5) 0 23 } else
  if o = 0x198 then { r with shedView := r.shedView.write w } else
  if 0x150 ≤ o ∧ o < 0x180 ∧ (o - 0x150) % 4 = 0 then { r with shedTbl := vset r.shedTbl ((o - 0x150) / 4) ((vget r.shedTbl ((o - 0x150) / 4) {}).write w) } else
  r

/-- LOOP_CTRL as a 32-bit word. -/
def LoopCtrl.read (r : LoopCtrl) : BitVec 32 :=
  (bit32 r.spSrc <<< 8)
  ||| (bit32 r.fbAuto <<< 5)
  ||| (bit32 r.fbEn <<< 4)

/-- A plain write of LOOP_CTRL. -/
def LoopCtrl.write (r : LoopCtrl) (w : BitVec 32) : LoopCtrl :=
  { r with
    spSrc := w.getLsbD 8
    fbAuto := w.getLsbD 5
    fbEn := w.getLsbD 4 }

/-- LOOP_STATUS as a 32-bit word. -/
def LoopStatus.read (r : LoopStatus) : BitVec 32 :=
  (bit32 r.wrIgn <<< 31)
  ||| (bit32 r.startRef <<< 30)
  ||| (bit32 r.stopTmo <<< 29)
  ||| (bit32 r.bankErr <<< 28)
  ||| (bit32 r.sat <<< 27)
  ||| (bit32 r.fbLatch <<< 26)
  ||| (bit32 r.fb <<< 25)
  ||| (bit32 r.otSd <<< 24)
  ||| (bit32 r.otWarn <<< 23)
  ||| (bit32 r.awIn <<< 22)
  ||| (bit32 r.awOut <<< 21)
  ||| (bit32 r.ramping <<< 20)
  ||| (bit32 r.swapPend <<< 19)
  ||| (bit32 r.actIn <<< 18)
  ||| (bit32 r.actOut <<< 17)
  ||| (BitVec.ofNat 32 r.state.code)

/-- A plain write of LOOP_STATUS. -/
def LoopStatus.write (r : LoopStatus) (w : BitVec 32) : LoopStatus :=
  { r with
    wrIgn := r.wrIgn && !w.getLsbD 31
    startRef := r.startRef && !w.getLsbD 30
    stopTmo := r.stopTmo && !w.getLsbD 29
    bankErr := r.bankErr && !w.getLsbD 28
    sat := r.sat && !w.getLsbD 27 }

/-- LOOP_TICK as a 32-bit word. -/
def LoopTick.read (r : LoopTick) : BitVec 32 :=
  (r.m.setWidth 32 <<< 16)
  ||| (r.div.setWidth 32)

/-- A plain write of LOOP_TICK. -/
def LoopTick.write (r : LoopTick) (w : BitVec 32) : LoopTick :=
  { r with
    m := w.extractLsb' 16 7
    div := w.extractLsb' 0 11 }

/-- LOOP_VNOM as a 32-bit word. -/
def LoopVnom.read (r : LoopVnom) : BitVec 32 :=
  (r.vdcFloor.setWidth 32 <<< 16)
  ||| (r.vNom.setWidth 32)

/-- A plain write of LOOP_VNOM. -/
def LoopVnom.write (r : LoopVnom) (w : BitVec 32) : LoopVnom :=
  { r with
    vdcFloor := w.extractLsb' 16 16
    vNom := w.extractLsb' 0 16 }

/-- LOOP_FF as a 32-bit word. -/
def LoopFf.read (r : LoopFf) : BitVec 32 :=
  (bit32 r.dclEn <<< 31)
  ||| (bit32 r.cabEn <<< 30)
  ||| (bit32 r.rSrc <<< 29)
  ||| (r.lCab.setWidth 32 <<< 16)
  ||| (r.rCab.setWidth 32)

/-- A plain write of LOOP_FF. -/
def LoopFf.write (r : LoopFf) (w : BitVec 32) : LoopFf :=
  { r with
    dclEn := w.getLsbD 31
    cabEn := w.getLsbD 30
    rSrc := w.getLsbD 29
    lCab := w.extractLsb' 16 13
    rCab := w.extractLsb' 0 16 }

/-- LOOP_ILIM_HOST as a 32-bit word. -/
def LoopIlimHost.read (r : LoopIlimHost) : BitVec 32 :=
  (r.ilimExp.setWidth 32 <<< 16)
  ||| (r.ilimImp.setWidth 32)

/-- LOOP_VREF_LIM as a 32-bit word. -/
def LoopVrefLim.read (r : LoopVrefLim) : BitVec 32 :=
  (r.vrefMax.setWidth 32 <<< 16)
  ||| (r.vrefMin.setWidth 32)

/-- LOOP_RAMP_I as a 32-bit word. -/
def LoopRampI.read (r : LoopRampI) : BitVec 32 :=
  (r.dn.setWidth 32 <<< 16)
  ||| (r.up.setWidth 32)

/-- A plain write of LOOP_RAMP_I. -/
def LoopRampI.write (r : LoopRampI) (w : BitVec 32) : LoopRampI :=
  { r with
    dn := w.extractLsb' 16 16
    up := w.extractLsb' 0 16 }

/-- LOOP_RAMP_X as a 32-bit word. -/
def LoopRampX.read (r : LoopRampX) : BitVec 32 :=
  (r.stop.setWidth 32 <<< 16)
  ||| (r.v.setWidth 32)

/-- A plain write of LOOP_RAMP_X. -/
def LoopRampX.write (r : LoopRampX) (w : BitVec 32) : LoopRampX :=
  { r with
    stop := w.extractLsb' 16 16
    v := w.extractLsb' 0 16 }

/-- LOOP_DELAY as a 32-bit word. -/
def LoopDelay.read (r : LoopDelay) : BitVec 32 :=
  (r.offDly.setWidth 32 <<< 16)
  ||| (r.onDly.setWidth 32)

/-- A plain write of LOOP_DELAY. -/
def LoopDelay.write (r : LoopDelay) (w : BitVec 32) : LoopDelay :=
  { r with
    offDly := clampBv (w.extractLsb' 16 16) 0 1000
    onDly := clampBv (w.extractLsb' 0 16) 0 1000 }

/-- LOOP_STOPCFG as a 32-bit word. -/
def LoopStopcfg.read (r : LoopStopcfg) : BitVec 32 :=
  (r.stopTmo.setWidth 32 <<< 16)
  ||| (r.iZero.setWidth 32)

/-- A plain write of LOOP_STOPCFG. -/
def LoopStopcfg.write (r : LoopStopcfg) (w : BitVec 32) : LoopStopcfg :=
  { r with
    stopTmo := clampBv (w.extractLsb' 16 16) 10 10000
    iZero := w.extractLsb' 0 16 }

/-- LOOP_SP as a 32-bit word. -/
def LoopSp.read (r : LoopSp) : BitVec 32 :=
  (r.iSp.setWidth 32 <<< 16)
  ||| (r.vSp.setWidth 32)

/-- LOOP_TARGET as a 32-bit word. -/
def LoopTarget.read (r : LoopTarget) : BitVec 32 :=
  (r.iTgt.setWidth 32 <<< 16)
  ||| (r.vTgt.setWidth 32)

/-- LOOP_ILIM_VIEW as a 32-bit word. -/
def LoopIlimView.read (r : LoopIlimView) : BitVec 32 :=
  (r.src.setWidth 32 <<< 16)
  ||| (r.ilim.setWidth 32)

/-- LOOP_BANK_CTL as a 32-bit word. -/
def LoopBankCtl.read (r : LoopBankCtl) : BitVec 32 :=
  (bit32 r.loop <<< 4)
  ||| (r.bank.setWidth 32)

/-- A plain write of LOOP_BANK_CTL. -/
def LoopBankCtl.write (r : LoopBankCtl) (w : BitVec 32) : LoopBankCtl :=
  { r with
    loop := w.getLsbD 4
    bank := w.extractLsb' 0 2 }

/-- LOOP_BANK_STATUS as a 32-bit word. -/
def LoopBankStatus.read (r : LoopBankStatus) : BitVec 32 :=
  (bit32 r.sealFail <<< 8)
  ||| (r.outOk.setWidth 32 <<< 4)
  ||| (r.inOk.setWidth 32)

/-- A plain write of LOOP_BANK_STATUS. -/
def LoopBankStatus.write (r : LoopBankStatus) (w : BitVec 32) : LoopBankStatus :=
  { r with
    sealFail := r.sealFail && !w.getLsbD 8 }

/-- LOOP_CSEL as a 32-bit word. -/
def LoopCsel.read (r : LoopCsel) : BitVec 32 :=
  (bit32 r.loop <<< 12)
  ||| (r.bank.setWidth 32 <<< 8)
  ||| (r.word.setWidth 32)

/-- A plain write of LOOP_CSEL. -/
def LoopCsel.write (r : LoopCsel) (w : BitVec 32) : LoopCsel :=
  { r with
    loop := w.getLsbD 12
    bank := w.extractLsb' 8 2
    word := clampBv (w.extractLsb' 0 6) 0 40 }

/-- LOOP_PM_MODEL as a 32-bit word. -/
def LoopPmModel.read (r : LoopPmModel) : BitVec 32 :=
  (r.lPh.setWidth 32 <<< 16)
  ||| (r.cOut.setWidth 32)

/-- A plain write of LOOP_PM_MODEL. -/
def LoopPmModel.write (r : LoopPmModel) (w : BitVec 32) : LoopPmModel :=
  { r with
    lPh := w.extractLsb' 16 16
    cOut := w.extractLsb' 0 16 }

/-- LOOP_PM_MODEL2 as a 32-bit word. -/
def LoopPmModel2.read (r : LoopPmModel2) : BitVec 32 :=
  (r.rEq.setWidth 32 <<< 16)
  ||| (r.g.setWidth 32)

/-- A plain write of LOOP_PM_MODEL2. -/
def LoopPmModel2.write (r : LoopPmModel2) (w : BitVec 32) : LoopPmModel2 :=
  { r with
    rEq := w.extractLsb' 16 16
    g := clampBv (w.extractLsb' 0 5) 1 16 }

/-- LOOP_PM_TOL as a 32-bit word. -/
def LoopPmTol.read (r : LoopPmTol) : BitVec 32 :=
  (r.failn.setWidth 32 <<< 24)
  ||| (r.ctol.setWidth 32 <<< 16)
  ||| (r.itol.setWidth 32 <<< 8)
  ||| (r.vtol.setWidth 32)

/-- A plain write of LOOP_PM_TOL. -/
def LoopPmTol.write (r : LoopPmTol) (w : BitVec 32) : LoopPmTol :=
  { r with
    failn := clampBv (w.extractLsb' 24 8) 1 16
    ctol := w.extractLsb' 16 8
    itol := w.extractLsb' 8 8
    vtol := w.extractLsb' 0 8 }

/-- LOOP_PM_VDC as a 32-bit word. -/
def LoopPmVdc.read (r : LoopPmVdc) : BitVec 32 :=
  (r.vdcMax.setWidth 32 <<< 16)
  ||| (r.vdcMin.setWidth 32)

/-- A plain write of LOOP_PM_VDC. -/
def LoopPmVdc.write (r : LoopPmVdc) (w : BitVec 32) : LoopPmVdc :=
  { r with
    vdcMax := w.extractLsb' 16 16
    vdcMin := w.extractLsb' 0 16 }

/-- LOOP_PM_STATUS as a 32-bit word. -/
def LoopPmStatus.read (r : LoopPmStatus) : BitVec 32 :=
  (r.seen.setWidth 32 <<< 16)
  ||| (r.tripped.setWidth 32 <<< 8)
  ||| (r.suspect.setWidth 32)

/-- A plain write of LOOP_PM_STATUS. -/
def LoopPmStatus.write (r : LoopPmStatus) (w : BitVec 32) : LoopPmStatus :=
  { r with
    seen := r.seen &&& ~~~(w.extractLsb' 16 5) }

/-- LOOP_FB_CFG as a 32-bit word. -/
def LoopFbCfg.read (r : LoopFbCfg) : BitVec 32 :=
  (r.fbIlim.setWidth 32 <<< 24)
  ||| (r.fbDslew.setWidth 32 <<< 16)
  ||| (r.fbTmax.setWidth 32)

/-- A plain write of LOOP_FB_CFG. -/
def LoopFbCfg.write (r : LoopFbCfg) (w : BitVec 32) : LoopFbCfg :=
  { r with
    fbIlim := clampBv (w.extractLsb' 24 8) 1 40
    fbDslew := w.extractLsb' 16 8
    fbTmax := clampBv (w.extractLsb' 0 9) 1 300 }

/-- LOOP_OT_CFG1 as a 32-bit word. -/
def LoopOtCfg1.read (r : LoopOtCfg1) : BitVec 32 :=
  (r.tSd.setWidth 32 <<< 16)
  ||| (r.tWarn.setWidth 32)

/-- A plain write of LOOP_OT_CFG1. -/
def LoopOtCfg1.write (r : LoopOtCfg1) (w : BitVec 32) : LoopOtCfg1 :=
  { r with
    tSd := w.extractLsb' 16 16
    tWarn := w.extractLsb' 0 16 }

/-- LOOP_OT_CFG2 as a 32-bit word. -/
def LoopOtCfg2.read (r : LoopOtCfg2) : BitVec 32 :=
  (r.tDr1.setWidth 32 <<< 16)
  ||| (r.tDr0.setWidth 32)

/-- A plain write of LOOP_OT_CFG2. -/
def LoopOtCfg2.write (r : LoopOtCfg2) (w : BitVec 32) : LoopOtCfg2 :=
  { r with
    tDr1 := w.extractLsb' 16 16
    tDr0 := w.extractLsb' 0 16 }

/-- LOOP_OT_CFG3 as a 32-bit word. -/
def LoopOtCfg3.read (r : LoopOtCfg3) : BitVec 32 :=
  (r.drMin.setWidth 32 <<< 24)
  ||| (r.sdHyst.setWidth 32 <<< 16)
  ||| (bit32 r.telEn <<< 8)
  ||| (r.ntcEn.setWidth 32)

/-- A plain write of LOOP_OT_CFG3. -/
def LoopOtCfg3.write (r : LoopOtCfg3) (w : BitVec 32) : LoopOtCfg3 :=
  { r with
    drMin := clampBv (w.extractLsb' 24 8) 0 100
    sdHyst := w.extractLsb' 16 8
    telEn := w.getLsbD 8
    ntcEn := w.extractLsb' 0 8 }

/-- LOOP_NTC_CFG as a 32-bit word. -/
def LoopNtcCfg.read (r : LoopNtcCfg) : BitVec 32 :=
  (r.ntcB.setWidth 32 <<< 16)
  ||| (r.ntcRnom.setWidth 32)

/-- A plain write of LOOP_NTC_CFG. -/
def LoopNtcCfg.write (r : LoopNtcCfg) (w : BitVec 32) : LoopNtcCfg :=
  { r with
    ntcB := w.extractLsb' 16 16
    ntcRnom := w.extractLsb' 0 16 }

/-- LOOP_OT_STATUS as a 32-bit word. -/
def LoopOtStatus.read (r : LoopOtStatus) : BitVec 32 :=
  (r.ntcFlt.setWidth 32 <<< 24)
  ||| (r.f.setWidth 32 <<< 16)
  ||| (r.tMax.setWidth 32)

/-- LOOP_AUX_STATUS as a 32-bit word. -/
def LoopAuxStatus.read (r : LoopAuxStatus) : BitVec 32 :=
  (r.en.setWidth 32 <<< 16)
  ||| (r.runs.setWidth 32)

/-- LOOP_NTC01–67 as a 32-bit word. -/
def LoopNtc0167.read (r : LoopNtc0167) : BitVec 32 :=
  (r.tHi.setWidth 32 <<< 16)
  ||| (r.tLo.setWidth 32)

/-- A read of the block at an offset; none where no register stands. -/
def LoopRegs.read (r : LoopRegs) (o : Nat) : Option (BitVec 32) :=
  if o = 0x200 then some (r.ctrl.read) else
  if o = 0x204 then some (r.status.read) else
  if o = 0x208 then some (r.tick.read) else
  if o = 0x20C then some (r.vnom.read) else
  if o = 0x210 then some (r.ff.read) else
  if o = 0x214 then some (r.ilimHost.read) else
  if o = 0x218 then some (r.vrefLim.read) else
  if o = 0x21C then some (r.rampI.read) else
  if o = 0x220 then some (r.rampX.read) else
  if o = 0x224 then some (r.delay.read) else
  if o = 0x228 then some (r.stopcfg.read) else
  if o = 0x22C then some (r.sp.read) else
  if o = 0x230 then some (r.target.read) else
  if o = 0x234 then some (r.ilimView.read) else
  if o = 0x238 then some (r.bankCtl.read) else
  if o = 0x23C then some (r.bankCrc) else
  if o = 0x240 then some (r.bankStatus.read) else
  if o = 0x244 then some (r.csel.read) else
  if o = 0x248 then some (r.cdata) else
  if o = 0x24C then some (r.pmModel.read) else
  if o = 0x250 then some (r.pmModel2.read) else
  if o = 0x254 then some (r.pmTol.read) else
  if o = 0x258 then some (r.pmVdc.read) else
  if o = 0x25C then some (r.pmStatus.read) else
  if o = 0x260 then some (r.fbCfg.read) else
  if o = 0x264 then some (r.otCfg1.read) else
  if o = 0x268 then some (r.otCfg2.read) else
  if o = 0x26C then some (r.otCfg3.read) else
  if o = 0x270 then some (r.ntcCfg.read) else
  if o = 0x274 then some (r.otStatus.read) else
  if o = 0x288 then some (r.auxStatus.read) else
  if 0x278 ≤ o ∧ o < 0x288 ∧ (o - 0x278) % 4 = 0 then some ((vget r.ntc ((o - 0x278) / 4) {}).read) else
  none

/-- A plain write of the block at an offset; unchanged where no register stands. -/
def LoopRegs.write (r : LoopRegs) (o : Nat) (w : BitVec 32) : LoopRegs :=
  if o = 0x200 then { r with ctrl := r.ctrl.write w } else
  if o = 0x204 then { r with status := r.status.write w } else
  if o = 0x208 then { r with tick := r.tick.write w } else
  if o = 0x20C then { r with vnom := r.vnom.write w } else
  if o = 0x210 then { r with ff := r.ff.write w } else
  if o = 0x21C then { r with rampI := r.rampI.write w } else
  if o = 0x220 then { r with rampX := r.rampX.write w } else
  if o = 0x224 then { r with delay := r.delay.write w } else
  if o = 0x228 then { r with stopcfg := r.stopcfg.write w } else
  if o = 0x238 then { r with bankCtl := r.bankCtl.write w } else
  if o = 0x23C then { r with bankCrc := w } else
  if o = 0x240 then { r with bankStatus := r.bankStatus.write w } else
  if o = 0x244 then { r with csel := r.csel.write w } else
  if o = 0x248 then { r with cdata := w } else
  if o = 0x24C then { r with pmModel := r.pmModel.write w } else
  if o = 0x250 then { r with pmModel2 := r.pmModel2.write w } else
  if o = 0x254 then { r with pmTol := r.pmTol.write w } else
  if o = 0x258 then { r with pmVdc := r.pmVdc.write w } else
  if o = 0x25C then { r with pmStatus := r.pmStatus.write w } else
  if o = 0x260 then { r with fbCfg := r.fbCfg.write w } else
  if o = 0x264 then { r with otCfg1 := r.otCfg1.write w } else
  if o = 0x268 then { r with otCfg2 := r.otCfg2.write w } else
  if o = 0x26C then { r with otCfg3 := r.otCfg3.write w } else
  if o = 0x270 then { r with ntcCfg := r.ntcCfg.write w } else
  r

/-- MET_CTRL as a 32-bit word. -/
def MetCtrl.read (r : MetCtrl) : BitVec 32 :=
  (bit32 r.mclk1En <<< 2)
  ||| (bit32 r.mclk0En <<< 1)

/-- A plain write of MET_CTRL. -/
def MetCtrl.write (r : MetCtrl) (w : BitVec 32) : MetCtrl :=
  { r with
    mclk1En := w.getLsbD 2
    mclk0En := w.getLsbD 1 }

/-- MET_STATUS as a 32-bit word. -/
def MetStatus.read (r : MetStatus) : BitVec 32 :=
  (bit32 r.notMetered <<< 31)
  ||| (bit32 r.legalGap <<< 30)
  ||| (bit32 r.seqErr <<< 29)
  ||| (bit32 r.neutLost <<< 28)
  ||| (bit32 r.ctResid <<< 27)
  ||| (r.phLoss.setWidth 32 <<< 24)
  ||| (bit32 r.freqValid <<< 23)
  ||| (r.seq.setWidth 32 <<< 21)
  ||| (r.vband.setWidth 32 <<< 19)
  ||| (r.streamOk.setWidth 32)

/-- A plain write of MET_STATUS. -/
def MetStatus.write (r : MetStatus) (w : BitVec 32) : MetStatus :=
  { r with
    notMetered := r.notMetered && !w.getLsbD 31 }

/-- MET_STREAM_FLT as a 32-bit word. -/
def MetStreamFlt.read (r : MetStreamFlt) : BitVec 32 :=
  (r.fsl.setWidth 32 <<< 16)
  ||| (r.flt.setWidth 32)

/-- A plain write of MET_STREAM_FLT. -/
def MetStreamFlt.write (r : MetStreamFlt) (w : BitVec 32) : MetStreamFlt :=
  { r with
    fsl := r.fsl &&& ~~~(w.extractLsb' 16 12)
    flt := r.flt &&& ~~~(w.extractLsb' 0 12) }

/-- MET_CAL_CTL as a 32-bit word. -/
def MetCalCtl.read (r : MetCalCtl) : BitVec 32 :=
  (bit32 r.lockIgn <<< 1)

/-- A plain write of MET_CAL_CTL. -/
def MetCalCtl.write (r : MetCalCtl) (w : BitVec 32) : MetCalCtl :=
  { r with
    lockIgn := r.lockIgn && !w.getLsbD 1 }

/-- MET_RMCS as a 32-bit word. -/
def MetRmcs.read (r : MetRmcs) : BitVec 32 :=
  (r.iSt.setWidth 32 <<< 16)
  ||| (r.rMcs.setWidth 32)

/-- A plain write of MET_RMCS. -/
def MetRmcs.write (r : MetRmcs) (w : BitVec 32) : MetRmcs :=
  { r with
    iSt := w.extractLsb' 16 16
    rMcs := w.extractLsb' 0 16 }

/-- MET_AC_CFG as a 32-bit word. -/
def MetAcCfg.read (r : MetAcCfg) : BitVec 32 :=
  (r.vNomAc.setWidth 32 <<< 16)
  ||| (r.ncyc.setWidth 32 <<< 8)
  ||| (bit32 r.seqExp <<< 2)
  ||| (bit32 r.nomF <<< 1)
  ||| (bit32 r.wiring)

/-- A plain write of MET_AC_CFG. -/
def MetAcCfg.write (r : MetAcCfg) (w : BitVec 32) : MetAcCfg :=
  { r with
    vNomAc := w.extractLsb' 16 16
    ncyc := w.extractLsb' 8 4
    seqExp := w.getLsbD 2
    nomF := w.getLsbD 1
    wiring := w.getLsbD 0 }

/-- MET_AC_CFG2 as a 32-bit word. -/
def MetAcCfg2.read (r : MetAcCfg2) : BitVec 32 :=
  (r.v0Thr.setWidth 32 <<< 24)
  ||| (r.resThr.setWidth 32 <<< 12)
  ||| (r.inMin.setWidth 32)

/-- A plain write of MET_AC_CFG2. -/
def MetAcCfg2.write (r : MetAcCfg2) (w : BitVec 32) : MetAcCfg2 :=
  { r with
    v0Thr := w.extractLsb' 24 8
    resThr := w.extractLsb' 12 12
    inMin := w.extractLsb' 0 12 }

/-- MET_Q_DATA1 as a 32-bit word. -/
def MetQData1.read (r : MetQData1) : BitVec 32 :=
  (bit32 r.valid <<< 31)
  ||| (r.seq.setWidth 32)

/-- MET_IVL_WRAP as a 32-bit word. -/
def MetIvlWrap.read (r : MetIvlWrap) : BitVec 32 :=
  (r.wAce.setWidth 32 <<< 24)
  ||| (r.wAci.setWidth 32 <<< 16)
  ||| (r.wDce.setWidth 32 <<< 8)
  ||| (r.wDci.setWidth 32)

/-- MET_IVL_CTL as a 32-bit word. -/
def MetIvlCtl.read (r : MetIvlCtl) : BitVec 32 :=
  (r.skip.setWidth 32)

/-- MET_EMAP_CFG as a 32-bit word. -/
def MetEmapCfg.read (r : MetEmapCfg) : BitVec 32 :=
  (bit32 r.en <<< 31)
  ||| (r.vbHyst.setWidth 32 <<< 16)
  ||| (r.pbin.setWidth 32)

/-- A plain write of MET_EMAP_CFG. -/
def MetEmapCfg.write (r : MetEmapCfg) (w : BitVec 32) : MetEmapCfg :=
  { r with
    en := w.getLsbD 31
    vbHyst := w.extractLsb' 16 8
    pbin := w.extractLsb' 0 16 }

/-- MET_EMAP_VB as a 32-bit word. -/
def MetEmapVb.read (r : MetEmapVb) : BitVec 32 :=
  (r.edge3.setWidth 32 <<< 16)
  ||| (r.edge2.setWidth 32 <<< 8)
  ||| (r.edge1.setWidth 32)

/-- A plain write of MET_EMAP_VB. -/
def MetEmapVb.write (r : MetEmapVb) (w : BitVec 32) : MetEmapVb :=
  { r with
    edge3 := w.extractLsb' 16 8
    edge2 := w.extractLsb' 8 8
    edge1 := w.extractLsb' 0 8 }

/-- MET_EMAP_SEL as a 32-bit word. -/
def MetEmapSel.read (r : MetEmapSel) : BitVec 32 :=
  (r.band.setWidth 32 <<< 8)
  ||| (r.bin.setWidth 32)

/-- A plain write of MET_EMAP_SEL. -/
def MetEmapSel.write (r : MetEmapSel) (w : BitVec 32) : MetEmapSel :=
  { r with
    band := w.extractLsb' 8 2
    bin := w.extractLsb' 0 5 }

/-- MET_EMAP_DATA as a 32-bit word. -/
def MetEmapData.read (r : MetEmapData) : BitVec 32 :=
  (bit32 r.valid <<< 31)
  ||| (r.count.setWidth 32 <<< 16)
  ||| (r.eta.setWidth 32)

/-- MET_EFF as a 32-bit word. -/
def MetEff.read (r : MetEff) : BitVec 32 :=
  (bit32 r.valid <<< 31)
  ||| (r.eta1s.setWidth 32)

/-- MET_CAP_CFG as a 32-bit word. -/
def MetCapCfg.read (r : MetCapCfg) : BitVec 32 :=
  (r.mask.setWidth 32 <<< 16)
  ||| (r.pre.setWidth 32 <<< 8)
  ||| (bit32 r.mode <<< 7)
  ||| (r.trig.setWidth 32)

/-- A plain write of MET_CAP_CFG. -/
def MetCapCfg.write (r : MetCapCfg) (w : BitVec 32) : MetCapCfg :=
  { r with
    mask := w.extractLsb' 16 12
    pre := clampBv (w.extractLsb' 8 8) 0 60
    mode := w.getLsbD 7
    trig := w.extractLsb' 0 5 }

/-- MET_CAP_THR as a 32-bit word. -/
def MetCapThr.read (r : MetCapThr) : BitVec 32 :=
  (bit32 r.dir <<< 31)
  ||| (r.stream.setWidth 32 <<< 24)
  ||| (r.level.setWidth 32)

/-- A plain write of MET_CAP_THR. -/
def MetCapThr.write (r : MetCapThr) (w : BitVec 32) : MetCapThr :=
  { r with
    dir := w.getLsbD 31
    stream := w.extractLsb' 24 4
    level := w.extractLsb' 0 16 }

/-- MET_CAP_STATUS as a 32-bit word. -/
def MetCapStatus.read (r : MetCapStatus) : BitVec 32 :=
  (BitVec.ofNat 32 r.state.code <<< 29)
  ||| (r.cause.setWidth 32 <<< 24)
  ||| (r.miss.setWidth 32 <<< 16)

/-- A read of the block at an offset; none where no register stands. -/
def MetRegs.read (r : MetRegs) (o : Nat) : Option (BitVec 32) :=
  if o = 0x400 then some (r.ctrl.read) else
  if o = 0x404 then some (r.status.read) else
  if o = 0x408 then some (r.streamFlt.read) else
  if o = 0x40C then some ((r.calSel.setWidth 32)) else
  if o = 0x41C then some (r.calCtl.read) else
  if o = 0x420 then some (r.lcalVgain) else
  if o = 0x424 then some (r.lcalVofs) else
  if o = 0x428 then some (r.lcalIgain) else
  if o = 0x42C then some (r.lcalIofs) else
  if o = 0x430 then some (r.rmcs.read) else
  if o = 0x434 then some (r.acCfg.read) else
  if o = 0x438 then some (r.acCfg2.read) else
  if o = 0x440 then some ((r.qSel.setWidth 32)) else
  if o = 0x444 then some (r.qData0) else
  if o = 0x448 then some (r.qData1.read) else
  if o = 0x470 then some (r.ivlWrap.read) else
  if o = 0x474 then some (r.ivlCtl.read) else
  if o = 0x478 then some (r.gap) else
  if o = 0x480 then some (r.emapCfg.read) else
  if o = 0x484 then some (r.emapVb.read) else
  if o = 0x488 then some (r.emapSel.read) else
  if o = 0x48C then some (r.emapData.read) else
  if o = 0x490 then some (r.eff.read) else
  if o = 0x4A0 then some (r.capCfg.read) else
  if o = 0x4A4 then some (r.capThr.read) else
  if o = 0x4A8 then some (r.capStatus.read) else
  if 0x450 ≤ o ∧ o < 0x458 ∧ (o - 0x450) % 4 = 0 then some ((vget r.eImpW ((o - 0x450) / 4) 0)) else
  if 0x458 ≤ o ∧ o < 0x460 ∧ (o - 0x458) % 4 = 0 then some ((vget r.eExpW ((o - 0x458) / 4) 0)) else
  if 0x460 ≤ o ∧ o < 0x470 ∧ (o - 0x460) % 4 = 0 then some ((vget r.ivl ((o - 0x460) / 4) 0)) else
  if 0x4AC ≤ o ∧ o < 0x4B4 ∧ (o - 0x4AC) % 4 = 0 then some ((vget r.capT ((o - 0x4AC) / 4) 0)) else
  none

/-- A plain write of the block at an offset; unchanged where no register stands. -/
def MetRegs.write (r : MetRegs) (o : Nat) (w : BitVec 32) : MetRegs :=
  if o = 0x400 then { r with ctrl := r.ctrl.write w } else
  if o = 0x404 then { r with status := r.status.write w } else
  if o = 0x408 then { r with streamFlt := r.streamFlt.write w } else
  if o = 0x40C then { r with calSel := w.extractLsb' 0 4 } else
  if o = 0x41C then { r with calCtl := r.calCtl.write w } else
  if o = 0x420 then { r with lcalVgain := w } else
  if o = 0x424 then { r with lcalVofs := w } else
  if o = 0x428 then { r with lcalIgain := w } else
  if o = 0x42C then { r with lcalIofs := w } else
  if o = 0x430 then { r with rmcs := r.rmcs.write w } else
  if o = 0x434 then { r with acCfg := r.acCfg.write w } else
  if o = 0x438 then { r with acCfg2 := r.acCfg2.write w } else
  if o = 0x440 then { r with qSel := w.extractLsb' 0 6 } else
  if o = 0x480 then { r with emapCfg := r.emapCfg.write w } else
  if o = 0x484 then { r with emapVb := r.emapVb.write w } else
  if o = 0x488 then { r with emapSel := r.emapSel.write w } else
  if o = 0x4A0 then { r with capCfg := r.capCfg.write w } else
  if o = 0x4A4 then { r with capThr := r.capThr.write w } else
  r

/-- MET_CAL_FS as a 32-bit word. -/
def MetCalFs.read (r : MetCalFs) : BitVec 32 :=
  (r.phc.setWidth 32 <<< 24)
  ||| (r.skew.setWidth 32 <<< 16)
  ||| (r.fs.setWidth 32)

/-- A plain write of MET_CAL_FS. -/
def MetCalFs.write (r : MetCalFs) (w : BitVec 32) : MetCalFs :=
  { r with
    phc := if w.extractLsb' 24 8 = 0x80 then 0x81 else w.extractLsb' 24 8
    skew := clampBv (w.extractLsb' 16 6) 0 39
    fs := w.extractLsb' 0 16 }

/-- A read of the block at an offset; none where no register stands. -/
def MetCalRegs.read (r : MetCalRegs) (o : Nat) : Option (BitVec 32) :=
  if o = 0x410 then some (r.gain) else
  if o = 0x414 then some (r.ofs) else
  if o = 0x418 then some (r.fs.read) else
  none

/-- A plain write of the block at an offset; unchanged where no register stands. -/
def MetCalRegs.write (r : MetCalRegs) (o : Nat) (w : BitVec 32) : MetCalRegs :=
  if o = 0x410 then { r with gain := w } else
  if o = 0x414 then { r with ofs := w } else
  if o = 0x418 then { r with fs := r.fs.write w } else
  r

/-- LEDG_STATUS as a 32-bit word. -/
def LedgStatus.read (r : LedgStatus) : BitVec 32 :=
  (bit32 r.sealed <<< 31)
  ||| (bit32 r.legalWarn <<< 30)
  ||| (bit32 r.test <<< 29)
  ||| (bit32 r.openF <<< 28)
  ||| (bit32 r.full <<< 27)
  ||| (bit32 r.low <<< 26)
  ||| (bit32 r.recErr <<< 25)
  ||| (bit32 r.abort <<< 24)
  ||| (r.sealGen.setWidth 32)

/-- A plain write of LEDG_STATUS. -/
def LedgStatus.write (r : LedgStatus) (w : BitVec 32) : LedgStatus :=
  { r with
    recErr := r.recErr && !w.getLsbD 25
    abort := r.abort && !w.getLsbD 24 }

/-- LEDG_FREE as a 32-bit word. -/
def LedgFree.read (r : LedgFree) : BitVec 32 :=
  (r.lostEvt.setWidth 32 <<< 16)
  ||| (r.free.setWidth 32)

/-- LEDG_RMEAS as a 32-bit word. -/
def LedgRmeas.read (r : LedgRmeas) : BitVec 32 :=
  (r.drift.setWidth 32 <<< 16)
  ||| (r.rMeas.setWidth 32)

/-- LEDG_PFAIL as a 32-bit word. -/
def LedgPfail.read (r : LedgPfail) : BitVec 32 :=
  (bit32 r.lastOk <<< 31)
  ||| (r.abortCnt.setWidth 32 <<< 16)
  ||| (r.pfailCnt.setWidth 32)

/-- A read of the block at an offset; none where no register stands. -/
def LedgRegs.read (r : LedgRegs) (o : Nat) : Option (BitVec 32) :=
  if o = 0x500 then some (r.status.read) else
  if o = 0x504 then some (r.seqNext) else
  if o = 0x508 then some (r.seqAck) else
  if o = 0x50C then some (r.free.read) else
  if o = 0x510 then some ((r.cfg.setWidth 32)) else
  if o = 0x514 then some (r.paramCrc) else
  if o = 0x518 then some (r.lcodeVer) else
  if o = 0x51C then some (r.rmeas.read) else
  if o = 0x520 then some (r.pfail.read) else
  none

/-- A plain write of the block at an offset; unchanged where no register stands. -/
def LedgRegs.write (r : LedgRegs) (o : Nat) (w : BitVec 32) : LedgRegs :=
  if o = 0x500 then { r with status := r.status.write w } else
  if o = 0x510 then { r with cfg := clampBv (w.extractLsb' 0 15) 17 16384 } else
  r

/-- VEH_CTRL as a 32-bit word. -/
def VehCtrl.read (r : VehCtrl) : BitVec 32 :=
  (bit32 r.bptEn <<< 1)
  ||| (bit32 r.en)

/-- A plain write of VEH_CTRL. -/
def VehCtrl.write (r : VehCtrl) (w : BitVec 32) : VehCtrl :=
  { r with
    bptEn := w.getLsbD 1
    en := w.getLsbD 0 }

/-- VEH_STATUS as a 32-bit word. -/
def VehStatus.read (r : VehStatus) : BitVec 32 :=
  (r.evtCnt.setWidth 32 <<< 24)
  ||| (bit32 r.bpt <<< 23)
  ||| (bit32 r.pnc <<< 22)
  ||| (bit32 r.tls <<< 21)
  ||| (bit32 r.link <<< 20)
  ||| (BitVec.ofNat 32 r.id.code <<< 18)
  ||| (BitVec.ofNat 32 r.ce.code <<< 16)
  ||| (r.cause.setWidth 32 <<< 8)
  ||| (BitVec.ofNat 32 r.state.code)

/-- VEH_EVT as a 32-bit word. -/
def VehEvt.read (r : VehEvt) : BitVec 32 :=
  (r.code.setWidth 32 <<< 24)
  ||| (r.data.setWidth 32)

/-- VEH_FLAGS as a 32-bit word. -/
def VehFlags.read (r : VehFlags) : BitVec 32 :=
  (bit32 r.certExp <<< 3)
  ||| (bit32 r.certWarn <<< 2)
  ||| (bit32 r.evtOvf <<< 1)
  ||| (bit32 r.wrIgn)

/-- A plain write of VEH_FLAGS. -/
def VehFlags.write (r : VehFlags) (w : BitVec 32) : VehFlags :=
  { r with
    evtOvf := r.evtOvf && !w.getLsbD 1
    wrIgn := r.wrIgn && !w.getLsbD 0 }

/-- VEH_CE_THR as a 32-bit word. -/
def VehCeThr.read (r : VehCeThr) : BitVec 32 :=
  (r.deb.setWidth 32 <<< 24)
  ||| (r.thA.setWidth 32 <<< 16)
  ||| (r.thC.setWidth 32 <<< 8)
  ||| (r.thErr.setWidth 32)

/-- A plain write of VEH_CE_THR. -/
def VehCeThr.write (r : VehCeThr) (w : BitVec 32) : VehCeThr :=
  { r with
    deb := clampBv (w.extractLsb' 24 8) 1 100
    thA := w.extractLsb' 16 8
    thC := w.extractLsb' 8 8
    thErr := w.extractLsb' 0 8 }

/-- VEH_ID_THR as a 32-bit word. -/
def VehIdThr.read (r : VehIdThr) : BitVec 32 :=
  (r.idOpen.setWidth 32 <<< 8)
  ||| (r.idLo.setWidth 32)

/-- A plain write of VEH_ID_THR. -/
def VehIdThr.write (r : VehIdThr) (w : BitVec 32) : VehIdThr :=
  { r with
    idOpen := w.extractLsb' 8 8
    idLo := w.extractLsb' 0 8 }

/-- VEH_TMO1 as a 32-bit word. -/
def VehTmo1.read (r : VehTmo1) : BitVec 32 :=
  (r.preTol.setWidth 32 <<< 24)
  ||| (r.ccHold.setWidth 32 <<< 16)
  ||| (r.ccTmo.setWidth 32 <<< 8)
  ||| (r.preTmo.setWidth 32)

/-- A plain write of VEH_TMO1. -/
def VehTmo1.write (r : VehTmo1) (w : BitVec 32) : VehTmo1 :=
  { r with
    preTol := clampBv (w.extractLsb' 24 8) 1 50
    ccHold := clampBv (w.extractLsb' 16 8) 1 100
    ccTmo := clampBv (w.extractLsb' 8 8) 5 60
    preTmo := clampBv (w.extractLsb' 0 8) 1 30 }

/-- VEH_TMO2 as a 32-bit word. -/
def VehTmo2.read (r : VehTmo2) : BitVec 32 :=
  (r.clTmo.setWidth 32 <<< 24)
  ||| (r.authTmo.setWidth 32 <<< 16)
  ||| (r.pauseMax.setWidth 32)

/-- A plain write of VEH_TMO2. -/
def VehTmo2.write (r : VehTmo2) (w : BitVec 32) : VehTmo2 :=
  { r with
    clTmo := clampBv (w.extractLsb' 24 8) 5 50
    authTmo := clampBv (w.extractLsb' 16 8) 1 55
    pauseMax := clampBv (w.extractLsb' 0 16) 1 3600 }

/-- VEH_EY_MAP as a 32-bit word. -/
def VehEyMap.read (r : VehEyMap) : BitVec 32 :=
  (r.dis.setWidth 32 <<< 8)
  ||| (r.neg.setWidth 32 <<< 4)
  ||| (r.pos.setWidth 32)

/-- A plain write of VEH_EY_MAP. -/
def VehEyMap.write (r : VehEyMap) (w : BitVec 32) : VehEyMap :=
  { r with
    dis := w.extractLsb' 8 3
    neg := w.extractLsb' 4 3
    pos := w.extractLsb' 0 3 }

/-- VEH_EV_LIM1 as a 32-bit word. -/
def VehEvLim1.read (r : VehEvLim1) : BitVec 32 :=
  (r.iMax.setWidth 32 <<< 16)
  ||| (r.vMax.setWidth 32)

/-- VEH_EV_LIM2 as a 32-bit word. -/
def VehEvLim2.read (r : VehEvLim2) : BitVec 32 :=
  (r.iDis.setWidth 32 <<< 16)
  ||| (r.vMin.setWidth 32)

/-- VEH_EV_TGT as a 32-bit word. -/
def VehEvTgt.read (r : VehEvTgt) : BitVec 32 :=
  (r.iTgt.setWidth 32 <<< 16)
  ||| (r.vTgt.setWidth 32)

/-- A read of the block at an offset; none where no register stands. -/
def VehRegs.read (r : VehRegs) (o : Nat) : Option (BitVec 32) :=
  if o = 0x600 then some (r.ctrl.read) else
  if o = 0x604 then some (r.status.read) else
  if o = 0x608 then some (r.evt.read) else
  if o = 0x60C then some (r.flags.read) else
  if o = 0x610 then some (r.ceThr.read) else
  if o = 0x614 then some (r.idThr.read) else
  if o = 0x618 then some (r.tmo1.read) else
  if o = 0x61C then some (r.tmo2.read) else
  if o = 0x620 then some (r.eyMap.read) else
  if o = 0x624 then some (r.evLim1.read) else
  if o = 0x628 then some (r.evLim2.read) else
  if o = 0x62C then some (r.evTgt.read) else
  if o = 0x630 then some (r.evccidLo) else
  if o = 0x634 then some ((r.evccidHi.setWidth 32)) else
  if o = 0x650 then some (r.macLo) else
  if o = 0x654 then some ((r.macHi.setWidth 32)) else
  if o = 0x658 then some ((bit32 r.auth)) else
  if 0x638 ≤ o ∧ o < 0x640 ∧ (o - 0x638) % 4 = 0 then some ((vget r.sid ((o - 0x638) / 4) 0)) else
  if 0x640 ≤ o ∧ o < 0x650 ∧ (o - 0x640) % 4 = 0 then some ((vget r.emaid ((o - 0x640) / 4) 0)) else
  none

/-- A plain write of the block at an offset; unchanged where no register stands. -/
def VehRegs.write (r : VehRegs) (o : Nat) (w : BitVec 32) : VehRegs :=
  if o = 0x600 then { r with ctrl := r.ctrl.write w } else
  if o = 0x60C then { r with flags := r.flags.write w } else
  if o = 0x610 then { r with ceThr := r.ceThr.write w } else
  if o = 0x614 then { r with idThr := r.idThr.write w } else
  if o = 0x618 then { r with tmo1 := r.tmo1.write w } else
  if o = 0x61C then { r with tmo2 := r.tmo2.write w } else
  if o = 0x620 then { r with eyMap := r.eyMap.write w } else
  r

/-- COOL_CTRL as a 32-bit word. -/
def CoolCtrl.read (r : CoolCtrl) : BitVec 32 :=
  (r.pumpMin.setWidth 32 <<< 24)
  ||| (r.tWake.setWidth 32 <<< 16)
  ||| (r.rundown.setWidth 32 <<< 4)
  ||| (bit32 r.pwmF <<< 1)
  ||| (bit32 r.en)

/-- A plain write of COOL_CTRL. -/
def CoolCtrl.write (r : CoolCtrl) (w : BitVec 32) : CoolCtrl :=
  { r with
    pumpMin := clampBv (w.extractLsb' 24 8) 0 100
    tWake := w.extractLsb' 16 8
    rundown := w.extractLsb' 4 12
    pwmF := w.getLsbD 1
    en := w.getLsbD 0 }

/-- COOL_STATUS as a 32-bit word. -/
def CoolStatus.read (r : CoolStatus) : BitVec 32 :=
  (bit32 r.wrIgn <<< 31)
  ||| (bit32 r.ageStep <<< 30)
  ||| (bit32 r.pinDisc <<< 29)
  ||| (bit32 r.flowLow <<< 28)
  ||| (bit32 r.presFlt <<< 27)
  ||| (r.cntcFlt.setWidth 32 <<< 25)
  ||| (r.pinFlt.setWidth 32 <<< 20)
  ||| (bit32 r.rlValid <<< 19)
  ||| (bit32 r.ageValid <<< 18)
  ||| (r.src.setWidth 32 <<< 8)
  ||| (BitVec.ofNat 32 r.state.code)

/-- A plain write of COOL_STATUS. -/
def CoolStatus.write (r : CoolStatus) (w : BitVec 32) : CoolStatus :=
  { r with
    wrIgn := r.wrIgn && !w.getLsbD 31
    ageStep := r.ageStep && !w.getLsbD 30 }

/-- COOL_CAP as a 32-bit word. -/
def CoolCap.read (r : CoolCap) : BitVec 32 :=
  (r.iTh.setWidth 32 <<< 16)
  ||| (r.cap.setWidth 32)

/-- COOL_TMODEL as a 32-bit word. -/
def CoolTmodel.read (r : CoolTmodel) : BitVec 32 :=
  (r.tC.setWidth 32 <<< 16)
  ||| (r.tK.setWidth 32)

/-- COOL_TCOOL as a 32-bit word. -/
def CoolTcool.read (r : CoolTcool) : BitVec 32 :=
  (r.tOut.setWidth 32 <<< 16)
  ||| (r.tIn.setWidth 32)

/-- COOL_PIN01 as a 32-bit word. -/
def CoolPin01.read (r : CoolPin01) : BitVec 32 :=
  (r.pt1.setWidth 32 <<< 16)
  ||| (r.pt0.setWidth 32)

/-- COOL_PIN23 as a 32-bit word. -/
def CoolPin23.read (r : CoolPin23) : BitVec 32 :=
  (r.pt3.setWidth 32 <<< 16)
  ||| (r.pt2.setWidth 32)

/-- COOL_FLOW as a 32-bit word. -/
def CoolFlow.read (r : CoolFlow) : BitVec 32 :=
  (r.pres.setWidth 32 <<< 16)
  ||| (r.flow.setWidth 32)

/-- COOL_DRIVE as a 32-bit word. -/
def CoolDrive.read (r : CoolDrive) : BitVec 32 :=
  (r.fan.setWidth 32 <<< 8)
  ||| (r.pump.setWidth 32)

/-- COOL_EY_MAP as a 32-bit word. -/
def CoolEyMap.read (r : CoolEyMap) : BitVec 32 :=
  (r.valve.setWidth 32 <<< 8)
  ||| (r.fan.setWidth 32 <<< 4)
  ||| (r.pump.setWidth 32)

/-- A plain write of COOL_EY_MAP. -/
def CoolEyMap.write (r : CoolEyMap) (w : BitVec 32) : CoolEyMap :=
  { r with
    valve := w.extractLsb' 8 3
    fan := w.extractLsb' 4 3
    pump := w.extractLsb' 0 3 }

/-- COOL_CABLE as a 32-bit word. -/
def CoolCable.read (r : CoolCable) : BitVec 32 :=
  (r.iRated.setWidth 32 <<< 16)
  ||| (r.rCond20.setWidth 32)

/-- A plain write of COOL_CABLE. -/
def CoolCable.write (r : CoolCable) (w : BitVec 32) : CoolCable :=
  { r with
    iRated := w.extractLsb' 16 16
    rCond20 := w.extractLsb' 0 16 }

/-- COOL_THERM1 as a 32-bit word. -/
def CoolTherm1.read (r : CoolTherm1) : BitVec 32 :=
  (r.cC.setWidth 32 <<< 16)
  ||| (r.gCk.setWidth 32)

/-- A plain write of COOL_THERM1. -/
def CoolTherm1.write (r : CoolTherm1) (w : BitVec 32) : CoolTherm1 :=
  { r with
    cC := clampBv (w.extractLsb' 16 16) 1 65535
    gCk := w.extractLsb' 0 16 }

/-- COOL_THERM2 as a 32-bit word. -/
def CoolTherm2.read (r : CoolTherm2) : BitVec 32 :=
  (r.cK.setWidth 32 <<< 16)
  ||| (r.cpf.setWidth 32)

/-- A plain write of COOL_THERM2. -/
def CoolTherm2.write (r : CoolTherm2) (w : BitVec 32) : CoolTherm2 :=
  { r with
    cK := clampBv (w.extractLsb' 16 16) 1 65535
    cpf := w.extractLsb' 0 16 }

/-- COOL_LIM1 as a 32-bit word. -/
def CoolLim1.read (r : CoolLim1) : BitVec 32 :=
  (r.tCLim.setWidth 32 <<< 16)
  ||| (r.tPinLim.setWidth 32)

/-- A plain write of COOL_LIM1. -/
def CoolLim1.write (r : CoolLim1) (w : BitVec 32) : CoolLim1 :=
  { r with
    tCLim := w.extractLsb' 16 16
    tPinLim := w.extractLsb' 0 16 }

/-- COOL_LIM2 as a 32-bit word. -/
def CoolLim2.read (r : CoolLim2) : BitVec 32 :=
  (r.h.setWidth 32 <<< 24)
  ||| (r.pinBand.setWidth 32 <<< 16)
  ||| (r.fltCap.setWidth 32 <<< 8)
  ||| (r.ageFloor.setWidth 32)

/-- A plain write of COOL_LIM2. -/
def CoolLim2.write (r : CoolLim2) (w : BitVec 32) : CoolLim2 :=
  { r with
    h := clampBv (w.extractLsb' 24 8) 1 255
    pinBand := clampBv (w.extractLsb' 16 8) 1 50
    fltCap := clampBv (w.extractLsb' 8 8) 0 100
    ageFloor := clampBv (w.extractLsb' 0 8) 10 100 }

/-- COOL_SET as a 32-bit word. -/
def CoolSet.read (r : CoolSet) : BitVec 32 :=
  (r.tCSet.setWidth 32 <<< 16)
  ||| (r.tKSet.setWidth 32)

/-- A plain write of COOL_SET. -/
def CoolSet.write (r : CoolSet) (w : BitVec 32) : CoolSet :=
  { r with
    tCSet := w.extractLsb' 16 16
    tKSet := w.extractLsb' 0 16 }

/-- COOL_PI as a 32-bit word. -/
def CoolPi.read (r : CoolPi) : BitVec 32 :=
  (r.kpP.setWidth 32 <<< 24)
  ||| (r.tiP.setWidth 32 <<< 16)
  ||| (r.kpF.setWidth 32 <<< 8)
  ||| (r.tiF.setWidth 32)

/-- A plain write of COOL_PI. -/
def CoolPi.write (r : CoolPi) (w : BitVec 32) : CoolPi :=
  { r with
    kpP := w.extractLsb' 24 8
    tiP := clampBv (w.extractLsb' 16 8) 1 255
    kpF := w.extractLsb' 8 8
    tiF := clampBv (w.extractLsb' 0 8) 1 255 }

/-- COOL_FF as a 32-bit word. -/
def CoolFf.read (r : CoolFf) : BitVec 32 :=
  (r.kffF.setWidth 32 <<< 8)
  ||| (r.kffP.setWidth 32)

/-- A plain write of COOL_FF. -/
def CoolFf.write (r : CoolFf) (w : BitVec 32) : CoolFf :=
  { r with
    kffF := w.extractLsb' 8 8
    kffP := w.extractLsb' 0 8 }

/-- COOL_SENS as a 32-bit word. -/
def CoolSens.read (r : CoolSens) : BitVec 32 :=
  (r.pMax.setWidth 32 <<< 24)
  ||| (r.pMin.setWidth 32 <<< 16)
  ||| (r.fMin.setWidth 32 <<< 8)
  ||| (r.kFlow.setWidth 32)

/-- A plain write of COOL_SENS. -/
def CoolSens.write (r : CoolSens) (w : BitVec 32) : CoolSens :=
  { r with
    pMax := w.extractLsb' 24 8
    pMin := w.extractLsb' 16 8
    fMin := w.extractLsb' 8 8
    kFlow := clampBv (w.extractLsb' 0 8) 1 255 }

/-- COOL_EST as a 32-bit word. -/
def CoolEst.read (r : CoolEst) : BitVec 32 :=
  (r.estSpread.setWidth 32 <<< 16)
  ||| (r.iEstMin.setWidth 32)

/-- A plain write of COOL_EST. -/
def CoolEst.write (r : CoolEst) (w : BitVec 32) : CoolEst :=
  { r with
    estSpread := w.extractLsb' 16 16
    iEstMin := w.extractLsb' 0 16 }

/-- COOL_RMEAS as a 32-bit word. -/
def CoolRmeas.read (r : CoolRmeas) : BitVec 32 :=
  (r.rCon.setWidth 32 <<< 16)
  ||| (r.rMeas.setWidth 32)

/-- COOL_AGE as a 32-bit word. -/
def CoolAge.read (r : CoolAge) : BitVec 32 :=
  (r.count.setWidth 32 <<< 16)
  ||| (r.rCon0.setWidth 32)

/-- COOL_FCAST as a 32-bit word. -/
def CoolFcast.read (r : CoolFcast) : BitVec 32 :=
  (r.daysLegal.setWidth 32 <<< 16)
  ||| (r.daysFloor.setWidth 32)

/-- COOL_SESS as a 32-bit word. -/
def CoolSess.read (r : CoolSess) : BitVec 32 :=
  (r.npts.setWidth 32 <<< 16)
  ||| (r.rS20.setWidth 32)

/-- A read of the block at an offset; none where no register stands. -/
def CoolRegs.read (r : CoolRegs) (o : Nat) : Option (BitVec 32) :=
  if o = 0x700 then some (r.ctrl.read) else
  if o = 0x704 then some (r.status.read) else
  if o = 0x708 then some (r.cap.read) else
  if o = 0x70C then some (r.tmodel.read) else
  if o = 0x710 then some (r.tcool.read) else
  if o = 0x714 then some (r.pin01.read) else
  if o = 0x718 then some (r.pin23.read) else
  if o = 0x71C then some (r.flow.read) else
  if o = 0x720 then some (r.drive.read) else
  if o = 0x724 then some (r.eyMap.read) else
  if o = 0x728 then some (r.cable.read) else
  if o = 0x72C then some (r.therm1.read) else
  if o = 0x730 then some (r.therm2.read) else
  if o = 0x734 then some (r.lim1.read) else
  if o = 0x738 then some (r.lim2.read) else
  if o = 0x73C then some (r.set.read) else
  if o = 0x740 then some (r.pi.read) else
  if o = 0x744 then some (r.ff.read) else
  if o = 0x748 then some (r.sens.read) else
  if o = 0x74C then some (r.est.read) else
  if o = 0x750 then some ((r.rlink.setWidth 32)) else
  if o = 0x754 then some (r.rmeas.read) else
  if o = 0x758 then some (r.age.read) else
  if o = 0x75C then some (r.fcast.read) else
  if o = 0x760 then some (r.sess.read) else
  none

/-- A plain write of the block at an offset; unchanged where no register stands. -/
def CoolRegs.write (r : CoolRegs) (o : Nat) (w : BitVec 32) : CoolRegs :=
  if o = 0x700 then { r with ctrl := r.ctrl.write w } else
  if o = 0x704 then { r with status := r.status.write w } else
  if o = 0x724 then { r with eyMap := r.eyMap.write w } else
  if o = 0x728 then { r with cable := r.cable.write w } else
  if o = 0x72C then { r with therm1 := r.therm1.write w } else
  if o = 0x730 then { r with therm2 := r.therm2.write w } else
  if o = 0x734 then { r with lim1 := r.lim1.write w } else
  if o = 0x738 then { r with lim2 := r.lim2.write w } else
  if o = 0x73C then { r with set := r.set.write w } else
  if o = 0x740 then { r with pi := r.pi.write w } else
  if o = 0x744 then { r with ff := r.ff.write w } else
  if o = 0x748 then { r with sens := r.sens.write w } else
  if o = 0x74C then { r with est := r.est.write w } else
  r

/-- EY_STATUS as a 32-bit word. -/
def EyStatus.read (r : EyStatus) : BitVec 32 :=
  (bit32 r.wrIgn <<< 31)
  ||| (bit32 r.failsafe <<< 30)
  ||| (bit32 r.wdExp <<< 29)
  ||| (bit32 r.dip <<< 28)
  ||| (bit32 r.vswUv <<< 27)
  ||| (r.shkMask.setWidth 32 <<< 16)
  ||| (r.out.setWidth 32 <<< 8)
  ||| (r.eff.setWidth 32)

/-- A plain write of EY_STATUS. -/
def EyStatus.write (r : EyStatus) (w : BitVec 32) : EyStatus :=
  { r with
    wrIgn := r.wrIgn && !w.getLsbD 31
    wdExp := r.wdExp && !w.getLsbD 29 }

/-- EY_FAULT as a 32-bit word. -/
def EyFault.read (r : EyFault) : BitVec 32 :=
  (r.ouv.setWidth 32 <<< 24)
  ||| (r.th.setWidth 32 <<< 16)
  ||| (r.oc.setWidth 32 <<< 8)

/-- A plain write of EY_FAULT. -/
def EyFault.write (r : EyFault) (w : BitVec 32) : EyFault :=
  { r with
    ouv := r.ouv &&& ~~~(w.extractLsb' 24 8)
    th := r.th &&& ~~~(w.extractLsb' 16 8)
    oc := r.oc &&& ~~~(w.extractLsb' 8 8) }

/-- EY_MIRROR as a 32-bit word. -/
def EyMirror.read (r : EyMirror) : BitVec 32 :=
  (bit32 r.src <<< 4)
  ||| (bit32 r.en <<< 3)
  ||| (r.sel.setWidth 32)

/-- A plain write of EY_MIRROR. -/
def EyMirror.write (r : EyMirror) (w : BitVec 32) : EyMirror :=
  { r with
    src := w.getLsbD 4
    en := w.getLsbD 3
    sel := w.extractLsb' 0 3 }

/-- EY_WDT as a 32-bit word. -/
def EyWdt.read (r : EyWdt) : BitVec 32 :=
  (r.fsDly.setWidth 32 <<< 8)
  ||| (r.wdtT.setWidth 32)

/-- EY_SUPPLY as a 32-bit word. -/
def EySupply.read (r : EySupply) : BitVec 32 :=
  (r.ouvV.setWidth 32 <<< 24)
  ||| (r.dipCnt.setWidth 32 <<< 16)
  ||| (r.vsw.setWidth 32)

/-- A plain write of EY_SUPPLY. -/
def EySupply.write (r : EySupply) (w : BitVec 32) : EySupply :=
  { r with
    ouvV := clampBv (w.extractLsb' 24 8) 50 255 }

/-- EY_OL as a 32-bit word. -/
def EyOl.read (r : EyOl) : BitVec 32 :=
  (r.shortVsw.setWidth 32 <<< 16)
  ||| (r.olOn.setWidth 32 <<< 8)
  ||| (r.olOff.setWidth 32)

/-- EY_OSTATk as a 32-bit word. -/
def EyOstat.read (r : EyOstat) : BitVec 32 :=
  (BitVec.ofNat 32 r.state.code <<< 29)
  ||| (r.fcnt.setWidth 32 <<< 24)
  ||| (r.dt.setWidth 32 <<< 16)
  ||| (r.i.setWidth 32)

/-- EY_LIMk as a 32-bit word. -/
def EyLim.read (r : EyLim) : BitVec 32 :=
  (r.inrushT.setWidth 32 <<< 16)
  ||| (r.inrushI.setWidth 32 <<< 8)
  ||| (r.ilim.setWidth 32)

/-- A plain write of EY_LIMk. -/
def EyLim.write (r : EyLim) (w : BitVec 32) : EyLim :=
  { r with
    inrushT := clampBv (w.extractLsb' 16 9) 5 500
    inrushI := clampBv (w.extractLsb' 8 7) (clampBv (w.extractLsb' 0 7) 5 90).toNat 120
    ilim := clampBv (w.extractLsb' 0 7) 5 90 }

/-- EY_RETRYk as a 32-bit word. -/
def EyRetry.read (r : EyRetry) : BitVec 32 :=
  (r.n.setWidth 32 <<< 28)
  ||| (r.pause0.setWidth 32 <<< 16)
  ||| (r.ocFilt.setWidth 32)

/-- A plain write of EY_RETRYk. -/
def EyRetry.write (r : EyRetry) (w : BitVec 32) : EyRetry :=
  { r with
    n := clampBv (w.extractLsb' 28 4) 1 15
    pause0 := clampBv (w.extractLsb' 16 9) 1 500
    ocFilt := clampBv (w.extractLsb' 0 10) 1 1000 }

/-- EY_OLCFGk as a 32-bit word. -/
def EyOlcfg.read (r : EyOlcfg) : BitVec 32 :=
  (bit32 r.offEn <<< 31)
  ||| (bit32 r.onEn <<< 30)
  ||| (bit32 r.fine <<< 29)
  ||| (r.olIon.setWidth 32 <<< 16)
  ||| (r.offVth.setWidth 32 <<< 8)
  ||| (r.olT.setWidth 32)

/-- A plain write of EY_OLCFGk. -/
def EyOlcfg.write (r : EyOlcfg) (w : BitVec 32) : EyOlcfg :=
  { r with
    offEn := w.getLsbD 31
    onEn := w.getLsbD 30
    fine := w.getLsbD 29
    olIon := w.extractLsb' 16 8
    offVth := clampBv (w.extractLsb' 8 8) 0 40
    olT := clampBv (w.extractLsb' 0 8) 1 255 }

/-- EY_PWMk as a 32-bit word. -/
def EyPwm.read (r : EyPwm) : BitVec 32 :=
  (r.freq.setWidth 32 <<< 24)
  ||| (r.duty.setWidth 32)

/-- A plain write of EY_PWMk. -/
def EyPwm.write (r : EyPwm) (w : BitVec 32) : EyPwm :=
  { r with
    freq := w.extractLsb' 24 2
    duty := w.extractLsb' 0 8 }

/-- A read of the block at an offset; none where no register stands. -/
def EyRegs.read (r : EyRegs) (o : Nat) : Option (BitVec 32) :=
  if o = 0x800 then some (0#32) else
  if o = 0x804 then some ((r.cmd.setWidth 32)) else
  if o = 0x808 then some (r.status.read) else
  if o = 0x80C then some (r.fault.read) else
  if o = 0x810 then some (r.mirror.read) else
  if o = 0x814 then some (r.wdt.read) else
  if o = 0x818 then some ((r.fsafe.setWidth 32)) else
  if o = 0x81C then some (r.supply.read) else
  if o = 0x820 then some (r.ol.read) else
  if 0x8C0 ≤ o ∧ o < 0x8E0 ∧ (o - 0x8C0) % 4 = 0 then some ((vget r.ostat ((o - 0x8C0) / 4) {}).read) else
  if 0x840 ≤ o ∧ o < 0x8C0 ∧ (o - 0x840) % 16 = 0 then some ((vget r.lim ((o - 0x840) / 16) {}).read) else
  if 0x844 ≤ o ∧ o < 0x8C4 ∧ (o - 0x844) % 16 = 0 then some ((vget r.retry ((o - 0x844) / 16) {}).read) else
  if 0x848 ≤ o ∧ o < 0x8C8 ∧ (o - 0x848) % 16 = 0 then some ((vget r.olcfg ((o - 0x848) / 16) {}).read) else
  if 0x84C ≤ o ∧ o < 0x8CC ∧ (o - 0x84C) % 16 = 0 then some ((vget r.pwm ((o - 0x84C) / 16) {}).read) else
  none

/-- A plain write of the block at an offset; unchanged where no register stands. -/
def EyRegs.write (r : EyRegs) (o : Nat) (w : BitVec 32) : EyRegs :=
  if o = 0x804 then { r with cmd := w.extractLsb' 0 16 } else
  if o = 0x808 then { r with status := r.status.write w } else
  if o = 0x80C then { r with fault := r.fault.write w } else
  if o = 0x810 then { r with mirror := r.mirror.write w } else
  if o = 0x81C then { r with supply := r.supply.write w } else
  if 0x840 ≤ o ∧ o < 0x8C0 ∧ (o - 0x840) % 16 = 0 then { r with lim := vset r.lim ((o - 0x840) / 16) ((vget r.lim ((o - 0x840) / 16) {}).write w) } else
  if 0x844 ≤ o ∧ o < 0x8C4 ∧ (o - 0x844) % 16 = 0 then { r with retry := vset r.retry ((o - 0x844) / 16) ((vget r.retry ((o - 0x844) / 16) {}).write w) } else
  if 0x848 ≤ o ∧ o < 0x8C8 ∧ (o - 0x848) % 16 = 0 then { r with olcfg := vset r.olcfg ((o - 0x848) / 16) ((vget r.olcfg ((o - 0x848) / 16) {}).write w) } else
  if 0x84C ≤ o ∧ o < 0x8CC ∧ (o - 0x84C) % 16 = 0 then { r with pwm := vset r.pwm ((o - 0x84C) / 16) ((vget r.pwm ((o - 0x84C) / 16) {}).write w) } else
  r

/-- SHK_STATUS as a 32-bit word. -/
def ShkStatus.read (r : ShkStatus) : BitVec 32 :=
  (BitVec.ofNat 32 r.state.code <<< 29)
  ||| (bit32 r.permit <<< 28)
  ||| (bit32 r.inhibit <<< 27)
  ||| (bit32 r.disReq <<< 26)
  ||| (bit32 r.confOk <<< 25)
  ||| (bit32 r.paramBad <<< 24)
  ||| (r.offMask.setWidth 32 <<< 16)

/-- SHK_DEMAND as a 32-bit word. -/
def ShkDemand.read (r : ShkDemand) : BitVec 32 :=
  (r.latch.setWidth 32 <<< 16)
  ||| (r.active.setWidth 32 <<< 8)
  ||| (r.lastSrc.setWidth 32)

/-- SHK_DEG as a 32-bit word. -/
def ShkDeg.read (r : ShkDeg) : BitVec 32 :=
  (r.cap.setWidth 32 <<< 16)
  ||| (r.left.setWidth 32)

/-- SHK_TP as a 32-bit word. -/
def ShkTp.read (r : ShkTp) : BitVec 32 :=
  (r.pass.setWidth 32 <<< 16)
  ||| (r.preempt.setWidth 32 <<< 8)
  ||| (bit32 r.next <<< 3)
  ||| (bit32 r.active <<< 2)
  ||| (BitVec.ofNat 32 r.last.code)

/-- SHK_INPUT as a 32-bit word. -/
def ShkInput.read (r : ShkInput) : BitVec 32 :=
  (r.lands.setWidth 32 <<< 2)
  ||| (bit32 r.idOk <<< 1)
  ||| (bit32 r.ceOk)

/-- SHK_CNT as a 32-bit word. -/
def ShkCnt.read (r : ShkCnt) : BitVec 32 :=
  (r.crcErr.setWidth 32 <<< 16)
  ||| (r.demands.setWidth 32)

/-- A read of the block at an offset; none where no register stands. -/
def ShkRegs.read (r : ShkRegs) (o : Nat) : Option (BitVec 32) :=
  if o = 0x900 then some (r.status.read) else
  if o = 0x904 then some (r.demand.read) else
  if o = 0x908 then some ((r.fault.setWidth 32)) else
  if o = 0x90C then some ((r.faultSeen.setWidth 32)) else
  if o = 0x910 then some (r.deg.read) else
  if o = 0x914 then some (r.crc) else
  if o = 0x918 then some (r.confCrc) else
  if o = 0x91C then some ((r.psel.setWidth 32)) else
  if o = 0x920 then some (r.pdata) else
  if o = 0x924 then some (r.tp.read) else
  if o = 0x928 then some ((r.pw.setWidth 32)) else
  if o = 0x92C then some (r.input.read) else
  if o = 0x930 then some ((r.srcStat.setWidth 32)) else
  if o = 0x934 then some (r.cnt.read) else
  none

/-- A plain write of the block at an offset; unchanged where no register stands. -/
def ShkRegs.write (r : ShkRegs) (o : Nat) (w : BitVec 32) : ShkRegs :=
  if o = 0x90C then { r with faultSeen := r.faultSeen &&& ~~~(w.extractLsb' 0 16) } else
  if o = 0x91C then { r with psel := w.extractLsb' 0 4 } else
  r

/-- CAN_CTRL as a 32-bit word. -/
def CanCtrl.read (r : CanCtrl) : BitVec 32 :=
  (bit32 r.init <<< 31)
  ||| (bit32 r.autoRec <<< 30)
  ||| (bit32 r.dar <<< 29)
  ||| (bit32 r.triple <<< 28)
  ||| (r.mode.setWidth 32 <<< 26)
  ||| (bit32 r.selfRx <<< 25)
  ||| (r.collLim.setWidth 32 <<< 16)
  ||| (r.recDly.setWidth 32)

/-- A plain write of CAN_CTRL. -/
def CanCtrl.write (r : CanCtrl) (w : BitVec 32) : CanCtrl :=
  { r with
    init := w.getLsbD 31
    autoRec := w.getLsbD 30
    dar := w.getLsbD 29
    triple := w.getLsbD 28
    mode := w.extractLsb' 26 2
    selfRx := w.getLsbD 25
    collLim := w.extractLsb' 16 4
    recDly := clampBv (w.extractLsb' 0 10) 0 1000 }

/-- CAN_STATUS as a 32-bit word. -/
def CanStatus.read (r : CanStatus) : BitVec 32 :=
  (BitVec.ofNat 32 r.state.code <<< 29)
  ||| (bit32 r.ew <<< 28)
  ||| (bit32 r.cfgErr <<< 27)

/-- CAN_NBT as a 32-bit word. -/
def CanNbt.read (r : CanNbt) : BitVec 32 :=
  (r.nPresc.setWidth 32 <<< 24)
  ||| (r.nBefore.setWidth 32 <<< 16)
  ||| (r.nAfter.setWidth 32 <<< 8)
  ||| (r.nSjw.setWidth 32)

/-- A plain write of CAN_NBT. -/
def CanNbt.write (r : CanNbt) (w : BitVec 32) : CanNbt :=
  { r with
    nPresc := w.extractLsb' 24 8
    nBefore := w.extractLsb' 16 8
    nAfter := w.extractLsb' 8 7
    nSjw := w.extractLsb' 0 7 }

/-- CAN_DBT as a 32-bit word. -/
def CanDbt.read (r : CanDbt) : BitVec 32 :=
  (r.dPresc.setWidth 32 <<< 24)
  ||| (r.dBefore.setWidth 32 <<< 16)
  ||| (r.dAfter.setWidth 32 <<< 8)
  ||| (r.dSjw.setWidth 32)

/-- A plain write of CAN_DBT. -/
def CanDbt.write (r : CanDbt) (w : BitVec 32) : CanDbt :=
  { r with
    dPresc := w.extractLsb' 24 5
    dBefore := w.extractLsb' 16 5
    dAfter := w.extractLsb' 8 4
    dSjw := w.extractLsb' 0 4 }

/-- CAN_SSP as a 32-bit word. -/
def CanSsp.read (r : CanSsp) : BitVec 32 :=
  (bit32 r.sspEn <<< 31)
  ||| (r.sspPct.setWidth 32 <<< 24)
  ||| (r.dlyMax.setWidth 32 <<< 16)
  ||| (r.dlyMin.setWidth 32 <<< 9)
  ||| (r.loopdly.setWidth 32)

/-- A plain write of CAN_SSP. -/
def CanSsp.write (r : CanSsp) (w : BitVec 32) : CanSsp :=
  { r with
    sspEn := w.getLsbD 31
    sspPct := clampBv (w.extractLsb' 24 7) 50 95
    dlyMax := w.extractLsb' 16 7
    dlyMin := w.extractLsb' 9 7 }

/-- CAN_ERR as a 32-bit word. -/
def CanErr.read (r : CanErr) : BitVec 32 :=
  (r.errframes.setWidth 32 <<< 16)
  ||| (r.recF.setWidth 32 <<< 8)
  ||| (r.tec.setWidth 32)

/-- CAN_RXCFG as a 32-bit word. -/
def CanRxcfg.read (r : CanRxcfg) : BitVec 32 :=
  (r.nflt.setWidth 32 <<< 24)
  ||| (bit32 r.fifoOvw <<< 21)
  ||| (bit32 r.rrf <<< 20)
  ||| (r.nmXtd.setWidth 32 <<< 18)
  ||| (r.nmStd.setWidth 32 <<< 16)

/-- A plain write of CAN_RXCFG. -/
def CanRxcfg.write (r : CanRxcfg) (w : BitVec 32) : CanRxcfg :=
  { r with
    nflt := w.extractLsb' 24 8
    fifoOvw := w.getLsbD 21
    rrf := w.getLsbD 20
    nmXtd := w.extractLsb' 18 2
    nmStd := w.extractLsb' 16 2 }

/-- CAN_RXF_STATUS as a 32-bit word. -/
def CanRxfStatus.read (r : CanRxfStatus) : BitVec 32 :=
  (bit32 r.full <<< 31)
  ||| (r.fill.setWidth 32 <<< 16)
  ||| (r.put.setWidth 32 <<< 8)
  ||| (r.get.setWidth 32)

/-- CAN_TXCMD as a 32-bit word. -/
def CanTxcmd.read (r : CanTxcmd) : BitVec 32 :=
  0#32

/-- CAN_EVT as a 32-bit word. -/
def CanEvt.read (r : CanEvt) : BitVec 32 :=
  (bit32 r.watch <<< 10)
  ||| (bit32 r.rxfLost <<< 9)
  ||| (bit32 r.rxOvr <<< 8)
  ||| (bit32 r.holdLost <<< 7)
  ||| (bit32 r.lockAbnd <<< 6)
  ||| (bit32 r.txcoll <<< 5)
  ||| (bit32 r.pxe <<< 4)
  ||| (bit32 r.bo <<< 3)
  ||| (bit32 r.ep <<< 2)
  ||| (bit32 r.ew <<< 1)
  ||| (bit32 r.wrIgn)

/-- A plain write of CAN_EVT. -/
def CanEvt.write (r : CanEvt) (w : BitVec 32) : CanEvt :=
  { r with
    watch := r.watch && !w.getLsbD 10
    rxfLost := r.rxfLost && !w.getLsbD 9
    rxOvr := r.rxOvr && !w.getLsbD 8
    holdLost := r.holdLost && !w.getLsbD 7
    lockAbnd := r.lockAbnd && !w.getLsbD 6
    txcoll := r.txcoll && !w.getLsbD 5
    pxe := r.pxe && !w.getLsbD 4
    bo := r.bo && !w.getLsbD 3
    ep := r.ep && !w.getLsbD 2
    ew := r.ew && !w.getLsbD 1
    wrIgn := r.wrIgn && !w.getLsbD 0 }

/-- CAN_ERRKIND as a 32-bit word. -/
def CanErrkind.read (r : CanErrkind) : BitVec 32 :=
  (r.dKind.setWidth 32 <<< 8)
  ||| (r.nKind.setWidth 32)

/-- A plain write of CAN_ERRKIND. -/
def CanErrkind.write (r : CanErrkind) (w : BitVec 32) : CanErrkind :=
  { r with
    dKind := r.dKind &&& ~~~(w.extractLsb' 8 7)
    nKind := r.nKind &&& ~~~(w.extractLsb' 0 7) }

/-- A read of the block at an offset; none where no register stands. -/
def CanRegs.read (r : CanRegs) (o : Nat) : Option (BitVec 32) :=
  if o = 0x0 then some (r.ctrl.read) else
  if o = 0x4 then some (r.status.read) else
  if o = 0x8 then some (r.nbt.read) else
  if o = 0xC then some (r.dbt.read) else
  if o = 0x10 then some (r.ssp.read) else
  if o = 0x14 then some (r.err.read) else
  if o = 0x18 then some (r.rxcfg.read) else
  if o = 0x1C then some (r.rxfStatus.read) else
  if o = 0x20 then some (0#32) else
  if o = 0x3C then some (r.txcmd.read) else
  if o = 0x58 then some ((r.memAddr.setWidth 32 <<< 2)) else
  if o = 0x5C then some (r.memData) else
  if o = 0x60 then some (r.evt.read) else
  if o = 0x64 then some (r.errkind.read) else
  if 0x24 ≤ o ∧ o < 0x34 ∧ (o - 0x24) % 4 = 0 then some ((vget r.buftype ((o - 0x24) / 4) 0)) else
  if 0x34 ≤ o ∧ o < 0x3C ∧ (o - 0x34) % 4 = 0 then some ((vget r.newB ((o - 0x34) / 4) 0)) else
  if 0x40 ≤ o ∧ o < 0x48 ∧ (o - 0x40) % 4 = 0 then some ((vget r.txpend ((o - 0x40) / 4) 0)) else
  if 0x48 ≤ o ∧ o < 0x50 ∧ (o - 0x48) % 4 = 0 then some ((vget r.txdone ((o - 0x48) / 4) 0)) else
  if 0x50 ≤ o ∧ o < 0x58 ∧ (o - 0x50) % 4 = 0 then some ((vget r.txcxl ((o - 0x50) / 4) 0)) else
  none

/-- A plain write of the block at an offset; unchanged where no register stands. -/
def CanRegs.write (r : CanRegs) (o : Nat) (w : BitVec 32) : CanRegs :=
  if o = 0x0 then { r with ctrl := r.ctrl.write w } else
  if o = 0x8 then { r with nbt := r.nbt.write w } else
  if o = 0xC then { r with dbt := r.dbt.write w } else
  if o = 0x10 then { r with ssp := r.ssp.write w } else
  if o = 0x18 then { r with rxcfg := r.rxcfg.write w } else
  if o = 0x58 then { r with memAddr := w.extractLsb' 2 12 } else
  if o = 0x5C then { r with memData := w } else
  if o = 0x60 then { r with evt := r.evt.write w } else
  if o = 0x64 then { r with errkind := r.errkind.write w } else
  if 0x24 ≤ o ∧ o < 0x34 ∧ (o - 0x24) % 4 = 0 then { r with buftype := vset r.buftype ((o - 0x24) / 4) (w) } else
  if 0x34 ≤ o ∧ o < 0x3C ∧ (o - 0x34) % 4 = 0 then { r with newB := vset r.newB ((o - 0x34) / 4) ((vget r.newB ((o - 0x34) / 4) 0) &&& ~~~(w)) } else
  if 0x48 ≤ o ∧ o < 0x50 ∧ (o - 0x48) % 4 = 0 then { r with txdone := vset r.txdone ((o - 0x48) / 4) ((vget r.txdone ((o - 0x48) / 4) 0) &&& ~~~(w)) } else
  if 0x50 ≤ o ∧ o < 0x58 ∧ (o - 0x50) % 4 = 0 then { r with txcxl := vset r.txcxl ((o - 0x50) / 4) ((vget r.txcxl ((o - 0x50) / 4) 0) &&& ~~~(w)) } else
  r

/-- CLK_CTRL as a 32-bit word. -/
def ClkCtrl.read (r : ClkCtrl) : BitVec 32 :=
  (bit32 r.auto <<< 30)

/-- A plain write of CLK_CTRL. -/
def ClkCtrl.write (r : ClkCtrl) (w : BitVec 32) : ClkCtrl :=
  { r with
    auto := w.getLsbD 30 }

/-- CLK_STATUS as a 32-bit word. -/
def ClkStatus.read (r : ClkStatus) : BitVec 32 :=
  (BitVec.ofNat 32 r.state.code <<< 29)
  ||| (bit32 r.lolNow <<< 28)
  ||| (bit32 r.lorNow <<< 27)
  ||| (bit32 r.wrIgn <<< 24)
  ||| (bit32 r.lol <<< 23)
  ||| (bit32 r.lor <<< 22)
  ||| (bit32 r.pllLol <<< 21)
  ||| (bit32 r.clamp <<< 20)
  ||| (bit32 r.lim <<< 19)
  ||| (bit32 r.relockRef <<< 18)
  ||| (bit32 r.minper <<< 17)
  ||| (r.relocks.setWidth 32)

/-- A plain write of CLK_STATUS. -/
def ClkStatus.write (r : ClkStatus) (w : BitVec 32) : ClkStatus :=
  { r with
    wrIgn := r.wrIgn && !w.getLsbD 24
    lol := r.lol && !w.getLsbD 23
    lor := r.lor && !w.getLsbD 22
    pllLol := r.pllLol && !w.getLsbD 21
    clamp := r.clamp && !w.getLsbD 20
    lim := r.lim && !w.getLsbD 19
    relockRef := r.relockRef && !w.getLsbD 18
    minper := r.minper && !w.getLsbD 17 }

/-- CLK_RAMP_CFG as a 32-bit word. -/
def ClkRampCfg.read (r : ClkRampCfg) : BitVec 32 :=
  (r.mode.setWidth 32 <<< 30)
  ||| (r.loop.setWidth 32 <<< 8)
  ||| (r.last.setWidth 32)

/-- A plain write of CLK_RAMP_CFG. -/
def ClkRampCfg.write (r : ClkRampCfg) (w : BitVec 32) : ClkRampCfg :=
  { r with
    mode := w.extractLsb' 30 2
    loop := w.extractLsb' 8 4
    last := w.extractLsb' 0 4 }

/-- CLK_RAMP_NOW as a 32-bit word. -/
def ClkRampNow.read (r : ClkRampNow) : BitVec 32 :=
  (bit32 r.running <<< 31)
  ||| (r.seg.setWidth 32 <<< 24)
  ||| (r.ofs.setWidth 32)

/-- CLK_OUT as a 32-bit word. -/
def ClkOut.read (r : ClkOut) : BitVec 32 :=
  (r.gsync.setWidth 32 <<< 8)
  ||| (r.mclk1.setWidth 32 <<< 4)
  ||| (r.mclk0.setWidth 32)

/-- A plain write of CLK_OUT. -/
def ClkOut.write (r : ClkOut) (w : BitVec 32) : ClkOut :=
  { r with
    gsync := w.extractLsb' 8 4
    mclk1 := w.extractLsb' 4 4
    mclk0 := w.extractLsb' 0 4 }

/-- CLK_SEGk as a 32-bit word. -/
def ClkSeg.read (r : ClkSeg) : BitVec 32 :=
  (r.steps.setWidth 32 <<< 16)
  ||| (r.delta.setWidth 32)

/-- A plain write of CLK_SEGk. -/
def ClkSeg.write (r : ClkSeg) (w : BitVec 32) : ClkSeg :=
  { r with
    steps := w.extractLsb' 16 16
    delta := w.extractLsb' 0 16 }

/-- A read of the block at an offset; none where no register stands. -/
def ClkRegs.read (r : ClkRegs) (o : Nat) : Option (BitVec 32) :=
  if o = 0xB00 then some (r.ctrl.read) else
  if o = 0xB04 then some (r.status.read) else
  if o = 0xB08 then some ((r.centre.setWidth 32)) else
  if o = 0xB0C then some (r.rampCfg.read) else
  if o = 0xB10 then some (r.rampNow.read) else
  if o = 0xB14 then some (r.out.read) else
  if 0xB40 ≤ o ∧ o < 0xB80 ∧ (o - 0xB40) % 4 = 0 then some ((vget r.seg ((o - 0xB40) / 4) {}).read) else
  none

/-- A plain write of the block at an offset; unchanged where no register stands. -/
def ClkRegs.write (r : ClkRegs) (o : Nat) (w : BitVec 32) : ClkRegs :=
  if o = 0xB00 then { r with ctrl := r.ctrl.write w } else
  if o = 0xB04 then { r with status := r.status.write w } else
  if o = 0xB08 then { r with centre := clampBv (w.extractLsb' 0 26) 31457280 34603008 } else
  if o = 0xB0C then { r with rampCfg := r.rampCfg.write w } else
  if o = 0xB14 then { r with out := r.out.write w } else
  if 0xB40 ≤ o ∧ o < 0xB80 ∧ (o - 0xB40) % 4 = 0 then { r with seg := vset r.seg ((o - 0xB40) / 4) ((vget r.seg ((o - 0xB40) / 4) {}).write w) } else
  r

end Sys2Proof.Machine
end

