-- ==== Sys2Proof/Machine/StPower.lean ====
section
/-! DEFINITION. Sys2Proof/Machine/StPower.lean: the state of the power path of a channel beside its registers:
the phase modulator, the loop engine and the metrology engine. -/

namespace Sys2Proof.Machine

/-- What a phase does at its next carrier start: not switching; latches the common duty; latches a third, two thirds
and then all of it (add ramp, R100); latches two thirds, a third and then goes low (fade-out, R99); goes low (the end
of RUN, R72). -/
inductive PhAct where
  | off | on | add1 | add2 | add3 | fade1 | fade2 | fade3 | ending
  deriving DecidableEq, Repr

/-- The edges of one carrier period, in taps from its start (R66); `supp`: the PWMH pulse is suppressed (R67). -/
structure Edges where
  lFall : Nat := 0
  hRise : Nat := 0
  hFall : Nat := 0
  lRise : Nat := 0
  supp : Bool := false
  deriving DecidableEq, Repr

/-- One phase of the converter string. -/
structure PhaseSt where
  /-- activity (R63, R99, R100) -/
  act : PhAct := .off
  /-- 1: the fade-out is for retirement (R103) -/
  ret : Bool := false
  /-- the duty a fade-out starts from when it began in an add ramp (R102) -/
  base : Option (BitVec 16) := none
  /-- ψ applied, 0.01° (R75, R78) -/
  psi : Nat := 0
  /-- θ applied at this phase's carrier starts, 0.01° (R78) -/
  theta : Nat := 0
  /-- PERIOD applied at this phase's carrier starts, taps (R71) -/
  per : Nat := 0
  /-- site time of the latest carrier start, taps -/
  start : Int := 0
  /-- site time of the next carrier start, taps -/
  next : Int := 0
  /-- latched duty (R68) -/
  duty : BitVec 16 := 0
  /-- edges of the present period (R66) -/
  edges : Edges := {}
  /-- anchor error at the latest carrier start, taps (R81) -/
  err : Int := 0
  /-- 1: no further correction is due at this phase (R78, R81) -/
  atGoal : Bool := true
  /-- time of the newest current frame, ns (R87) -/
  tI : Option Nat := none
  /-- time of the newest temperature frame, ns (R87) -/
  tT : Option Nat := none
  /-- newest current, 10 mA (R86) -/
  cur : Int := 0
  /-- newest switch temperature, 0.1 °C (R86) -/
  temp : Int := 0
  /-- newest DRV_UV (R86) -/
  drvUv : Bool := false
  /-- newest DRV_OT (R86) -/
  drvOt : Bool := false
  /-- sum of the currents received in the window (R88) -/
  sum : Int := 0
  /-- currents received in the window (R88) -/
  cnt : Nat := 0
  /-- Ik of the last window, 10 mA (R88) -/
  iAvg : Int := 0
  /-- ek of the last computed window, 0.1 % (R88) -/
  imb : Int := 0
  /-- consecutive computed windows above THR (R89) -/
  runThr : Nat := 0
  /-- consecutive computed windows above RET_THR (R89) -/
  runRet : Nat := 0
  deriving DecidableEq, Repr

/-- The phase modulator of a channel. -/
structure Pwm where
  /-- its registers (R107) -/
  r : PwmRegs := {}
  /-- the phases P0 to P23 -/
  ph : Vector PhaseSt 24 := Vector.replicate 24 {}
  /-- the state before HOLD (R72) -/
  holdFrom : PwmState := .disabled
  /-- the duty written before the newest one (R68) -/
  dutyPrev : BitVec 16 := 0
  /-- site time of the newest duty write, taps (R68) -/
  dutyAt : Int := 0
  /-- carrier offset of the newest grant, 0.01° (R77) -/
  thGrant : Nat := 0
  /-- recommended phase count of the newest grant (R96) -/
  nRec : Nat := 0
  /-- filtered output current, A (R91) -/
  iFilt : Rat := 0
  /-- demand current, A (R91) -/
  iDem : Rat := 0
  /-- time from which the add condition has held, ns (R97) -/
  upSince : Option Nat := none
  /-- time from which the shed condition has held, ns (R97) -/
  dnSince : Option Nat := none
  /-- thresholds derived from the map, A; none: the table value (R95) -/
  thrMap : Vector (Option (BitVec 12)) 25 := Vector.replicate 25 none
  /-- time of the last derivation, ns (R95) -/
  tReplan : Nat := 0
  /-- site time of the last accepted CHn_PSYNC edge, taps (R81) -/
  psLast : Option Int := none
  /-- consecutive accepted edges (R81) -/
  psRun : Nat := 0
  /-- measured edge interval, taps; the period held in HOLDOVER (R81) -/
  extPer : Nat := 0
  /-- gate-fault inputs asserted beyond the filter (R84) -/
  gflt : BitVec 6 := 0
  /-- over-current present beyond the filter (R84) -/
  oc : Bool := false
  /-- SEQ of the newest frame of each group (R87) -/
  gtSeq : Vector (Option (BitVec 8)) 6 := Vector.replicate 6 none
  /-- start of the present imbalance window, ns (R88) -/
  tImb : Nat := 0
  deriving DecidableEq, Repr

/-- One coefficient bank: the words in use, and the words and CRC of its last successful seal (R139, R159). -/
structure Bank where
  words : Vector (BitVec 32) 41 := Vector.replicate 41 0
  stWords : Vector (BitVec 32) 41 := Vector.replicate 41 0
  stCrc : BitVec 32 := 0
  deriving DecidableEq, Repr

/-- The states s1 and s2 of one section, Q9.31 (R137). -/
structure SecSt where
  s1 : Int := 0
  s2 : Int := 0
  deriving DecidableEq, Repr

/-- A swap accepted and not yet in effect (R161), with the descriptor that asked for it. -/
structure SwapReq where
  inner : Bool
  outer : Bool
  reset : Bool
  ref : DescRef
  deriving DecidableEq, Repr

/-- The loop engine of a channel. -/
structure Loop where
  /-- its registers (R178) -/
  r : LoopRegs := {}
  /-- inner banks A, B, F (R158) -/
  bankIn : Vector Bank 3 := Vector.replicate 3 {}
  /-- outer banks A, B, F (R158) -/
  bankOut : Vector Bank 3 := Vector.replicate 3 {}
  /-- stored selection of the active inner and outer banks (R160) -/
  selNv : Bool × Bool := (false, false)
  /-- section states of the inner loop (R136) -/
  secIn : Vector SecSt 8 := Vector.replicate 8 {}
  /-- section states of the outer loop (R136) -/
  secOut : Vector SecSt 8 := Vector.replicate 8 {}
  /-- newest inner output u, Q1.31 (R141) -/
  u : Int := 0
  /-- newest outer output, Q1.31 (R146) -/
  yo : Int := 0
  /-- I_ref, A (R150) -/
  iRef : Rat := 0
  /-- V_ref, V (R146, R153) -/
  vRef : Rat := 0
  /-- I_tgt, A (R148) -/
  iTgt : Rat := 0
  /-- V_tgt, V (R148) -/
  vTgt : Rat := 0
  /-- the target mode is CC (R155) -/
  tgtCC : Bool := false
  /-- inner ticks since entry to CV or CC (R144) -/
  tick : Nat := 0
  /-- the running loop regulates current (the mode kept through STOPR and OFFDLY, R155) -/
  ccMode : Bool := false
  /-- a stop or a temperature shutdown waits for the next sample (R155) -/
  stopReq : Bool := false
  /-- tick count of the last outer sample (R144) -/
  outDone : Nat := 0
  /-- time of entry to the present state, ns (R155) -/
  tState : Nat := 0
  /-- consecutive outer samples at zero current (R155) -/
  zeroRun : Nat := 0
  /-- import limit L+, A (R149) -/
  lp : Rat := 0
  /-- export limit L−, A (R149) -/
  lm : Rat := 0
  /-- swap pending (R161) -/
  swap : Option SwapReq := none
  /-- suspect that caused the present fallback (R168) -/
  fbCode : Nat := 0
  /-- time of entry to fallback, ns (R168) -/
  tFb : Nat := 0
  /-- time from which every test has passed, ns (R168) -/
  passSince : Option Nat := none
  /-- a return from fallback is due at the next outer sample (R168) -/
  fbRet : Bool := false
  /-- plant model current, A (R164) -/
  iL : Rat := 0
  /-- plant model voltage, V (R164) -/
  vHat : Rat := 0
  /-- last 16 results of PT1 to PT5, newest in bit 0 (R165) -/
  hist : Vector (BitVec 16) 5 := Vector.replicate 5 0
  /-- last 16 results of PT4 on MDAT7 to MDAT11 (R165, R166) -/
  hist4 : Vector (BitVec 16) 5 := Vector.replicate 5 0
  /-- last 16 results of PT5 on MDAT7 to MDAT11 (R165, R166) -/
  hist5 : Vector (BitVec 16) 5 := Vector.replicate 5 0
  /-- single-sensor fault reported to Shank (R167) -/
  sensFault : Bool := false
  /-- derating factor in force, % (R171) -/
  fNow : Rat := 100
  /-- time of the last rise of the factor, ns (R171) -/
  tRise : Nat := 0
  /-- temperatures of the power-stage NTCs, 0.1 °C; none: faulty (R169) -/
  ntc : Vector (Option Int) 8 := Vector.replicate 8 none
  /-- T_MAX, 0.1 °C (R170) -/
  tMax : Option Int := none
  /-- section states of AUX0 to AUX3, two sections each (R172) -/
  aux : Vector (SecSt × SecSt) 4 := Vector.replicate 4 ({}, {})
  deriving DecidableEq, Repr

/-- One of the twelve streams. -/
structure StreamSt where
  /-- faulted under R246 -/
  flt : Bool := false
  /-- fast outputs still withheld (R250) -/
  setF : Nat := 0
  /-- metrology samples still invalid (R250) -/
  setM : Nat := 0
  /-- newest fast raw output, 2^−15 (R247) -/
  raw16 : Int := 0
  /-- newest fast-path value, V or A (R251) -/
  fast : Rat := 0
  /-- the outputs before it (R101) -/
  fast1 : Rat := 0
  fast2 : Rat := 0
  /-- the newest fast output is at the full-scale limit (R249) -/
  fs : Bool := false
  /-- a fast output has arrived since the last inner tick (R165) -/
  fresh : Bool := false
  /-- consecutive inner ticks without a new output (R165) -/
  miss : Nat := 0
  /-- newest metrology raw output, 2^−23 (R247) -/
  raw24 : Int := 0
  /-- newest metrology value, mV or mA (R251) -/
  mval : Int := 0
  /-- calibration in force (R254) -/
  cal : MetCalRegs := {}
  /-- staged calibration (R254) -/
  stage : MetCalRegs := {}
  deriving DecidableEq, Repr

/-- A mean over a millisecond: the sum over the valid samples and their number (R258). -/
structure MeanAcc where
  sum : Int := 0
  n : Nat := 0
  deriving DecidableEq, Repr

/-- A result and its validity (R257, R258). -/
structure QRes where
  val : BitVec 32 := 0
  ok : Bool := false
  deriving DecidableEq, Repr

/-- One metrology sample kept for the AC window: its time and MDAT0 to MDAT6, mV or mA (R257). -/
structure AcSample where
  t : Nat
  v : List Int
  deriving DecidableEq, Repr

/-- One bin of the efficiency map (R278). -/
structure EBin where
  eta : BitVec 16 := 0
  cnt : BitVec 8 := 0
  deriving DecidableEq, Repr

/-- An interval counter: whole Wh, wrap count, wraps since the last snapshot, and mWh not yet a whole Wh (R270). -/
structure IvlCnt where
  wh : BitVec 32 := 0
  wraps : BitVec 8 := 0
  tally : Nat := 0
  rem : Nat := 0
  deriving DecidableEq, Repr

/-- A snapshot of the interval counters (R271). -/
structure IvlSnap where
  wh : List (BitVec 32)
  wraps : List (BitVec 8)
  skip : BitVec 4
  deriving DecidableEq, Repr

/-- Sums of one 100 ms window, and whether it met conditions 3, 5 and 7 of R277. -/
structure EffWin where
  cab : Int := 0
  pin : Int := 0
  ok : Bool := false
  deriving DecidableEq, Repr

/-- The metrology engine of a channel. -/
structure Met where
  /-- its registers (R289) -/
  r : MetRegs := {}
  /-- the streams MDAT0 to MDAT11 (R243) -/
  st : Vector StreamSt 12 := Vector.replicate 12 {}
  /-- t_n of the newest metrology sample (R263) -/
  tn : Option Nat := none
  /-- import accumulator, µW·ns (R264) -/
  accI : Nat := 0
  /-- export accumulator, µW·ns (R264) -/
  accE : Nat := 0
  /-- MET_E_IMP, mWh (R268) -/
  eImp : BitVec 64 := 0
  /-- MET_E_EXP, mWh (R268) -/
  eExp : BitVec 64 := 0
  /-- AC import and export accumulators, µW·ns (R269) -/
  acI : Nat := 0
  acE : Nat := 0
  /-- interval counters DCI, DCE, ACI, ACE (R270) -/
  ivl : Vector IvlCnt 4 := Vector.replicate 4 {}
  /-- the interval snapshot held (R271) -/
  snap : Option IvlSnap := none
  /-- an interval reset is due at the next metrology sample (R272) -/
  ivlRst : Bool := false
  /-- legal-set registers in force for billing from the next sample (R253): LGAIN_V, LOFS_V, LGAIN_I, LOFS_I -/
  lv : Int := 0
  li : Int := 0
  /-- newest billed power, µW (R262) -/
  pBill : Int := 0
  /-- the present millisecond holds an invalid legal sample (R264) -/
  gapMs : Bool := false
  /-- samples of the present millisecond and the means of codes 0x20 to 0x28 (R258) -/
  msN : Nat := 0
  ms : Vector MeanAcc 9 := Vector.replicate 9 {}
  /-- results of the last complete millisecond, codes 0x20 to 0x28 (R258) -/
  msRes : Vector QRes 9 := Vector.replicate 9 {}
  /-- the operational mean of MDAT11 in the present and the last complete millisecond (R378) -/
  ms11 : MeanAcc := {}
  ms11Res : QRes := {}
  /-- millisecond and window counts (R294) -/
  msSeq : BitVec 16 := 0
  acSeq : BitVec 16 := 0
  /-- samples of the present AC window; the window holds an invalid sample (R257) -/
  ac : List AcSample := []
  acBad : Bool := false
  /-- results of the last AC window, codes 0x00 to 0x1D (R257) -/
  acRes : Vector QRes 30 := Vector.replicate 30 {}
  /-- hysteresis side of V_a, crossings and times of the first and last crossing of the window (R256) -/
  zcLow : Bool := false
  zc : Nat := 0
  zcFirst : Nat := 0
  zcLast : Nat := 0
  /-- consecutive windows with, and without, NEUT_LOST and CT_RESID (R260) -/
  neutRun : Nat := 0
  neutOff : Nat := 0
  ctOff : Nat := 0
  /-- the efficiency map, band by bin (R278) -/
  emap : Vector (Vector EBin 32) 4 := Vector.replicate 4 (Vector.replicate 32 {})
  /-- the stored efficiency map (R280) -/
  emapNv : Vector (Vector EBin 32) 4 := Vector.replicate 4 (Vector.replicate 32 {})
  /-- the present 100 ms window: sums in µW, a condition failed, the 10 ms sums of P_cab, sample count of the
  present 10 ms, N_act at its start (R277) -/
  effCab : Int := 0
  effPin : Int := 0
  effN : Nat := 0
  effBad : Bool := false
  effBad3 : Bool := false
  eff10 : List Int := []
  effSum10 : Int := 0
  effN10 : Nat := 0
  effNact : Nat := 0
  /-- the last ten windows, newest first (R279) -/
  wins : List EffWin := []
  /-- capture: configuration in force, instants kept, newest first, instants before the trigger, instants still to
  take, the record's cause and trigger time (R281 to R284) -/
  capCfg : MetCapCfg := {}
  capThr : MetCapThr := {}
  capBuf : List (List (BitVec 32)) := []
  capPre : Nat := 0
  capLeft : Nat := 0
  capT : Nat := 0
  /-- the fast raw value the threshold trigger last saw (R283) -/
  capPrev : Option Int := none
  /-- the modulator clocks run (R244) -/
  clkRun : Bool := true
  /-- time of the last store of the map, ns (R280) -/
  tEmap : Nat := 0
  deriving DecidableEq, Repr

end Sys2Proof.Machine
end

