-- ==== Sys2Proof/Machine/StChan.lean ====
section
/-! DEFINITION. Sys2Proof/Machine/StChan.lean: the state of a channel die (Sole) with its Eyelet die. -/

namespace Sys2Proof.Machine

/-- A grant record as it reached the channel, with the engine, generation and epoch of its header (R219). -/
structure GrantRec where
  nid : Nat
  gen : BitVec 16
  epoch : BitVec 32
  imp : BitVec 24
  exp : BitVec 24
  floor : BitVec 24
  nRec : Nat
  theta : Nat
  /-- time of arrival, ns -/
  at_ : Nat
  deriving DecidableEq, Repr

/-- The grant state of a channel (R225 to R231). -/
structure Grant where
  /-- its registers (R241) -/
  r : GrantRegs := {}
  /-- P_LIM_IMP and P_LIM_EXP, W (R225) -/
  plimI : Rat := 0
  plimE : Rat := 0
  /-- the reduced efficiency kept under R226 -/
  etaRed : Option Rat := none
  /-- time from which P_IN has stayed at or below G_IMP, ns (R226) -/
  okSince : Option Nat := none
  /-- a record has been taken since the Sole booted (R30) -/
  seen : Bool := false
  /-- epoch length of the newest header, ns (R219) -/
  eLen : Nat := 100000
  /-- time of the last valid record, ns (R228) -/
  tValid : Nat := 0
  /-- the newest record of the newest generation, and the newest of the lower one while merging (R231) -/
  hi : Option GrantRec := none
  lo : Option GrantRec := none
  /-- consecutive valid records of the higher generation while merging (R231) -/
  hiRun : Nat := 0
  /-- the last EPOCH accepted from each NID (R227) -/
  lastEp : List (Nat × BitVec 32) := []
  /-- a record awaits its outer sample; a record has been applied; the epoch, generation and grants of the newest
  one applied (R151, R197) -/
  ackPend : Bool := false
  acked : Bool := false
  ackEpoch : BitVec 32 := 0
  ackGen : BitVec 16 := 0
  apImp : BitVec 24 := 0
  apExp : BitVec 24 := 0
  /-- PC_DEF of the channel's context, as 0x0304 stored it (R233) -/
  pcDef : BitVec 3 := 0
  /-- a class of 0x0305 is in force (R233) -/
  pcSet : Bool := false
  deriving DecidableEq, Repr

/-- One key slot of a die beside its status field (R583, R588, R590). -/
structure KeySlot where
  /-- the key, as the words of its form (R583) -/
  val : List Word := []
  /-- groups permitted (R588) -/
  groups : BitVec 9 := 0
  /-- last accepted counter (R590) -/
  ctr : Nat := 0
  /-- last accepted counter of the test-root key (R582) -/
  tctr : Nat := 0
  deriving DecidableEq, Repr

/-- The key store, life cycle and tamper state of one die (R579 to R608). -/
structure Key where
  /-- its registers (R606) -/
  r : KeyRegs := {}
  /-- the slots KS0 to KS15 (R583) -/
  slots : Vector KeySlot 16 := Vector.replicate 16 {}
  /-- detectors in alarm now, bit c − 1 for code c (R596) -/
  det : BitVec 7 := 0
  /-- the hold holds only an alarm passed on from the hub (R600) -/
  propOnly : Bool := false
  /-- the die stopped before unlocking its keys (R598) -/
  held : Bool := false
  /-- volatile session keys exist (R598) -/
  vol : Bool := false
  /-- time of the alarm after which the volatile keys are to be zeroised, ns (R598) -/
  tVol : Option Nat := none
  deriving DecidableEq, Repr

/-- A ledger record that is open or not yet written: what its body takes from the span it covers (R307 to R309).
FLAGS holds the flags of the span; those of the writing are added then. -/
structure LRec where
  typ : Nat
  close : Nat := 0
  flags : BitVec 16 := 0
  tStart : Nat := 0
  tEnd : Nat := 0
  eIS : BitVec 64 := 0
  eIE : BitVec 64 := 0
  eES : BitVec 64 := 0
  eEE : BitVec 64 := 0
  /-- MET_GAP at T_START, and its increase over the span -/
  gap0 : BitVec 32 := 0
  gap : BitVec 32 := 0
  rMeas : BitVec 16 := 0
  drift : BitVec 16 := 0
  /-- SESSION_ID, EVCCID and AUTH_REF as words -/
  sid : List Word := []
  evccid : List Word := []
  auth : List Word := []
  pMaxI : BitVec 24 := 0
  pMaxE : BitVec 24 := 0
  evtCode : BitVec 8 := 0
  evtData : BitVec 24 := 0
  /-- the seal state that the record's write leaves in force, where it changes it, with the descriptor that asked and
  the version it named (R303) -/
  sealTo : Option Bool := none
  ref : Option DescRef := none
  ver : Word := 0
  deriving DecidableEq, Repr

/-- What the legal region keeps of the legal registers and remainders (R298, R320). -/
structure LegalNv where
  eImp : BitVec 64 := 0
  eExp : BitVec 64 := 0
  accI : Nat := 0
  accE : Nat := 0
  deriving DecidableEq, Repr

/-- The sealed partition and ledger of a channel. -/
structure Ledg where
  /-- its registers (R326) -/
  r : LedgRegs := {}
  /-- the session record that is open (R314) -/
  opn : Option LRec := none
  /-- records closed and not yet written, oldest first; the head is being signed (R311, R319) -/
  pend : List LRec := []
  /-- the open-record image stored: a record, and whether it had been closed (R298, R320) -/
  img : List (LRec × Bool) := []
  /-- the slots written: slot number and 64 words (R298) -/
  slots : List (Nat × List Word) := []
  /-- records streamed: SEQ and the words of it acknowledged, bit by bit (R317) -/
  streamed : List (BitVec 32 × BitVec 64) := []
  /-- consecutive comparisons over 5 % (R312) -/
  overRun : Nat := 0
  /-- staged legal code: its image (R305) -/
  staged : Option (List Word) := none
  /-- the legal code image in force (R298); none: the image the Sole was made with -/
  code : Option (List Word) := none
  /-- legal registers as last stored (R320) -/
  nv : LegalNv := {}
  /-- the last commit is marked complete (R320, R321) -/
  committed : Bool := true
  /-- seals, unseals and code loads that wait for one being carried out (R303) -/
  wait : List Desc := []
  deriving DecidableEq, Repr

/-- The vehicle session of a channel. -/
structure Veh where
  /-- its registers (R357) -/
  r : VehRegs := {}
  /-- AUTH_REF of the session (R354) -/
  authRef : List Word := []
  /-- session maximum voltage, V, and code 1 limits, A (R346) -/
  vMax : Rat := 0
  iChg : Rat := 0
  iDis : Rat := 0
  /-- contactor and discharge outputs commanded on; the CE source is on; the PHY is powered (R340) -/
  ctOn : Bool := false
  disOn : Bool := false
  ceOn : Bool := false
  phy : Bool := false
  /-- events queued, oldest first (R351) -/
  evq : List Word := []
  /-- time of entry to the present state; of entry to AUTH, ns -/
  tState : Nat := 0
  tAuth : Nat := 0
  /-- time of the newest valid vehicle request, ns (R340) -/
  tReq : Nat := 0
  /-- authorisation was asked of the host; it was decided; ScheduleExchange was answered; SessionStop was answered -/
  authAsked : Bool := false
  authDone : Bool := false
  sched : Bool := false
  stopAns : Bool := false
  /-- the stop is a pause; a cause has been recorded; TRANSFER was reached and event 0x09 is owed (R343, R352) -/
  pause : Bool := false
  causeSet : Bool := false
  owe09 : Bool := false
  /-- the session was running when it entered SHUTDOWN (R342) -/
  fromRun : Bool := false
  /-- a firmware activation of the Tongue waits for OFF, UNPLUGGED or ENDED (R350) -/
  fwWait : Bool := false
  /-- V_CC, V (R341); the conditions of CC_HOLD hold since -/
  vcc : Rat := 0
  tCc : Option Nat := none
  /-- candidate classes of CE and ID and the time from which each has been seen (R329) -/
  ceCand : CeState := .a
  idCand : IdState := .none
  tCe : Nat := 0
  tId : Nat := 0
  /-- certificate store: KIND, INDEX and the DER bytes as words with their length (R335) -/
  certs : List (Nat × Nat × Nat × List Word) := []
  /-- time of the last attention raised for the queue, ns (R532) -/
  tAttn : Nat := 0
  deriving DecidableEq, Repr

/-- What R379 keeps of the points of a session: their number, sums in mA and mV, the span of x and the sum of the
model conductor temperatures in 0.1 °C. -/
structure EstSums where
  n : Nat := 0
  sx : Int := 0
  sy : Int := 0
  sxx : Int := 0
  sxy : Int := 0
  xMin : Int := 0
  xMax : Int := 0
  sT : Rat := 0
  deriving DecidableEq, Repr

/-- The cable cooling controller of a channel. -/
structure Cool where
  /-- its registers (R386) -/
  r : CoolRegs := {}
  /-- newest PT1000 and coolant NTC readings, 0.1 °C; none: faulty (R363) -/
  pt : Vector (Option Int) 4 := Vector.replicate 4 none
  cn : Vector (Option Int) 2 := Vector.replicate 2 none
  /-- newest pressure, 0.01 kPa; none: pressure fault (R363) -/
  pres : Option Int := none
  /-- a pressure has been converted since boot -/
  presRead : Bool := false
  /-- newest flow, l/min (R363) -/
  flow : Rat := 0
  /-- model temperatures, °C, and heat, W (R372) -/
  tc : Rat := 0
  tk : Rat := 0
  ph : Rat := 0
  /-- last valid T_IN since the controller left OFF, 0.1 °C (R372) -/
  tinHeld : Option Int := none
  /-- time the pump Eyelet turned on, ns (R377) -/
  tPump : Option Nat := none
  /-- time of entry to RUNDOWN, ns (R367) -/
  tRun : Nat := 0
  /-- times from which the conditions of R364 and R377 have held, ns -/
  flowLowSince : Option Nat := none
  flowOkSince : Option Nat := none
  presBadSince : Option Nat := none
  presOkSince : Option Nat := none
  discSince : Option Nat := none
  discOkSince : Option Nat := none
  /-- PRES_FLT was set for a faulty input (R377) -/
  presIn : Bool := false
  /-- time of the last rise of the cap, ns (R376) -/
  tRise : Nat := 0
  /-- R_LINK, Ω, and milliseconds of |I8| ≥ 100 A (R378) -/
  rl : Rat := 0
  rlMs : Nat := 0
  /-- operational 1 ms means of I8 (mA) and V11 (mV), newest first, at most 500; none: not valid (R379) -/
  means : List (Option (Int × Int)) := []
  /-- points of the present session (R379) -/
  pts : EstSums := {}
  /-- trend R_MEAS in 2^-8 × 0.1 µΩ (R381) -/
  trend : Option Int := none
  /-- baseline R_CON0 (R382) -/
  con0 : Option (BitVec 16) := none
  /-- consecutive outliers on one side: above, and their number (R381) -/
  outUp : Bool := false
  outRun : Nat := 0
  /-- newest 64 values of r_s20 − R_COND20 with their days, newest first (R384) -/
  fc : List (Int × Int) := []
  deriving DecidableEq, Repr

/-- One output of the Eyelet die. -/
structure EyOut where
  /-- its protection state and fault count (R395, R398) -/
  st : EyState := .off
  fcnt : Nat := 0
  /-- its owner's mode as the die holds it: 0 OFF, 1 ON, 2 PWM (R393) -/
  mode : Nat := 0
  /-- settings in force (R425) -/
  lim : EyLim := {}
  retry : EyRetry := {}
  ol : EyOlcfg := {}
  /-- start of the inrush window, ns (R398, R409) -/
  tIn : Option Nat := none
  /-- start and length of the pause, ns (R399) -/
  tPause : Nat := 0
  pause : Nat := 0
  /-- entry to ON, ns (R395) -/
  tOn : Nat := 0
  /-- it conducts without a break since, ns (R402) -/
  tCond : Nat := 0
  /-- junction less case, K, and load current, mA, as last measured (R423) -/
  dt : Nat := 0
  ma : Nat := 0
  deriving DecidableEq, Repr

/-- The Eyelet die of a channel with the EY_ registers of its Sole. -/
structure Ey where
  /-- the registers (R422) -/
  r : EyRegs := {}
  /-- modes the host has set, two bits per output (R393) -/
  host : BitVec 16 := 0
  /-- the outputs -/
  o : Vector EyOut 8 := Vector.replicate 8 {}
  /-- Shank's off mask as the die holds it (R394) -/
  mask : BitVec 8 := 0
  /-- the watchdog is armed; time and sequence of the last counted feed; a feed has counted in FAILSAFE (R412, R417) -/
  armed : Bool := false
  tFeed : Nat := 0
  seq : Option (BitVec 4) := none
  fed : Bool := false
  /-- FAILSAFE, its entry, and its delayed step done (R413) -/
  failsafe : Bool := false
  tFs : Nat := 0
  fsDone : Bool := false
  /-- writes of the fail-safe memory (R415) -/
  nvWrites : Nat := 0
  /-- VSWn undervoltage, dip, the level before the dip and VSWn, mV (R405, R411) -/
  uv : Bool := false
  dip : Bool := false
  dipRef : Nat := 0
  vsw : Nat := 0
  /-- levels on CHn_EYSEL2–0 (R410) -/
  eysel : BitVec 3 := 0
  /-- flags the die holds for its next report (R401 to R403) -/
  flags : EyOl := {}
  fault : EyFault := {}
  wdExp : Bool := false
  /-- a fault report is due (R38) -/
  report : Bool := false
  deriving DecidableEq, Repr

/-- A valid copy of a safe PDU on one path: SEQ, word 0x04 and its arrival (R433). -/
structure PduCopy where
  seq : BitVec 8
  w4 : Word
  t : Nat
  deriving DecidableEq, Repr

/-- One path of a safe-data source (R433). -/
structure PduPath where
  /-- valid copies, newest first, at most 128 -/
  copies : List PduCopy := []
  /-- time of the newest valid copy, ns; the path is lost; valid copies arrive without a loss since -/
  tLast : Nat := 0
  lost : Bool := false
  okSince : Option Nat := none
  deriving DecidableEq, Repr

/-- A safe-data source: CAN sources 0 to 3, ring masters 0 and 1 (R431 to R434). -/
structure PduSrc where
  a : PduPath := {}
  b : PduPath := {}
  /-- its copies disagree (R433) -/
  disc : Bool := false
  deriving DecidableEq, Repr

/-- The Shank of a channel. -/
structure Shk where
  /-- its registers (R455) -/
  r : ShkRegs := {}
  /-- the safety parameter block in use, the stored block and its CRC; a valid copy is stored (R447) -/
  block : Vector Word 16 := Vector.replicate 16 0
  stored : Vector Word 16 := Vector.replicate 16 0
  storedCrc : Word := 0
  storedOk : Bool := false
  /-- time from which each land differs from its filtered level, in the order of SHK_INPUT.LANDS (R430) -/
  tDiff : Vector (Option Nat) 6 := Vector.replicate 6 none
  /-- the lands have been sampled since the Sole reset: their filtered levels are known (R430) -/
  sampled : Bool := false
  /-- time from which the filtered lands of the ESTOP and IMD pair differ; discrepancy latched (R430) -/
  tPair : Option Nat × Option Nat := (none, none)
  disc : Bool × Bool := (false, false)
  /-- consecutive SF4 comparator samples out of range (R430) -/
  sf4Run : Nat := 0
  /-- SF4 demands in force: signalling, communication (R428) -/
  sf4Sig : Bool := false
  sf4Com : Bool := false
  /-- consecutive conversions over the SF3 limits; SF3 demand in force (R428) -/
  sf3Run : Nat := 0
  sf3 : Bool := false
  /-- sources of SF1 and SF2 that demand now: bit 0 hardwired, 1 ring, 2 CAN, 3 CAN silence (R428, R451) -/
  lv1 : BitVec 4 := 0
  lv2 : BitVec 4 := 0
  /-- a demand of category 0, of category 1, waits for its transition (R435) -/
  pend0 : Bool := false
  pend1 : Bool := false
  /-- safe-data sources: CAN sources 0 to 3, then masters M0 and M1 (R432) -/
  src : Vector PduSrc 6 := Vector.replicate 6 {}
  /-- latched: TP_FAIL, INHIB_TEST, CLK, PW_WD (R436, R440, R442, R443) -/
  tpFail : Bool := false
  inhibTest : Bool := false
  clkTrip : Bool := false
  pwWd : Bool := false
  /-- mirror-contact faults of POS and NEG (R445) -/
  mirror : Bool × Bool := (false, false)
  /-- time of the category 0 step, for CT_DLY, ns; the mask of the safe state is set (R429) -/
  tInh : Nat := 0
  masked : Bool := true
  /-- entry to STOP1 and DEGRADED, faults at that entry, current above 1.1 × I_cap since (R435, R438) -/
  tStop1 : Nat := 0
  tDeg : Nat := 0
  degBits : BitVec 16 := 0
  tOver : Option Nat := none
  /-- time from which no fault is present (R435) -/
  tClear : Option Nat := none
  /-- test pulse: next due, start, its output (true: NEG), the output was on, the status has confirmed it (R439) -/
  tpDue : Nat := 0
  tpT : Nat := 0
  tpNeg : Bool := false
  tpOn : Bool := false
  tpSeen : Bool := false
  /-- the mask bit of a preempted test is kept: POS, NEG (R441); an output tested on is on its way back (R445) -/
  tpKeep : Bool × Bool := (false, false)
  tpBack : Bool := false
  /-- coils of POS and NEG as last reported; weld and mirror timers; both mirrors read open since (R445) -/
  coil : Bool × Bool := (false, false)
  tOffC : Option Nat × Option Nat := (none, none)
  tOnC : Option Nat × Option Nat := (none, none)
  tOpen : Option Nat := none
  /-- the SF5 timer; MDAT11 was faulted while it ran (R446) -/
  tSf5 : Option Nat := none
  sf5Flt : Bool := false
  /-- the RC serves as reference; the reference is within 12 % since (R442) -/
  onRc : Bool := false
  refOk : Option Nat := none
  /-- the watched phase and its consecutive intervals out of range (R443) -/
  pwPh : Option Nat := none
  pwBad : Nat := 0
  /-- SEQ of the site PDUs sent; a trip frame is asked of the hub (R434) -/
  siteSeq : BitVec 8 := 0
  tripReq : Bool := false
  deriving DecidableEq, Repr

/-- One CAN FD controller (R609 to R633). -/
structure CanBus where
  /-- its registers (R631); CAN_MEM_ADDR is the host port's -/
  r : CanRegs := {}
  /-- message memory, byte by byte (R616) -/
  mem : List Host.Cell := []
  /-- the element locked to the host's port, and to the channel core's port, by its address (R619) -/
  lockH : Option Nat := none
  lockC : Option Nat := none
  /-- word address of the channel core's port (R618) -/
  addrC : BitVec 12 := 0
  /-- the hold register: the frame's buffer (none: the FIFO) and its words (R619) -/
  hold : Option (Option Nat × List Word) := none
  /-- attempts ended in an identifier collision, in a row, for each buffer (R628) -/
  coll : Vector Nat 64 := Vector.replicate 64 0
  /-- the buffer of the attempt selected; it was cancelled after its cut-off (R626, R627) -/
  cur : Option Nat := none
  canc : Bool := false
  /-- INIT was written 1 while a frame was in progress (R611) -/
  initReq : Bool := false
  /-- TEC as ISO 11898-1 counts it; CAN_ERR saturates at 255 (R629) -/
  tec : Nat := 0
  /-- entry to BUS_OFF, ns (R611) -/
  tBo : Nat := 0
  deriving DecidableEq, Repr

/-- The synthesiser of a channel (R634 to R656). -/
structure Clk where
  /-- its registers (R654) -/
  r : ClkRegs := {}
  /-- the lock centre in force, 2^-20 of 25 MHz (R635, R637) -/
  centre : Nat := 0x2000000
  /-- start of the present lock attempt, ns, and failed attempts in a row (R644) -/
  tAtt : Nat := 0
  fails : Nat := 0
  /-- steps the present segment still holds (R640) -/
  left : Nat := 0
  /-- a relock asked for in VIGIL waits for TRIM (R678) -/
  pend : Bool := false
  deriving DecidableEq, Repr

/-- The channel core of a Sole: its control and identity registers and what runs on it. -/
structure Core where
  /-- its registers (R62) -/
  r : ChRegs := {}
  /-- the channel is configured metering-only (R20) -/
  meterRole : Bool := false
  /-- the 64-bit identity of the die -/
  dieId : BitVec 64 := 0
  /-- power state: 0 RUN, 1 TRIM, 2 VIGIL, 3 REST, 4 OFF (R657, R680) -/
  pm : Nat := 0
  /-- the Sole: 0 off or in reset, 1 booting, 2 running, 3 recovery (R57, R702, R706) -/
  run : Nat := 0
  /-- ACK_PEND of the module as the Sole sees it (R714) -/
  ackPend : Bool := false
  /-- PFAIL or RESET_N has asked for the commit of R707, and the Sole has not been reset since -/
  pfail : Bool := false
  deriving DecidableEq, Repr

/-- A channel: its Sole and its Eyelet die, with what they send: journal entries, completions, messages; and the count of
free values taken (log entry 1). -/
structure Chan where
  idx : Nat := 0
  core : Core := {}
  grant : Grant := {}
  pwm : Pwm := {}
  loop : Loop := {}
  met : Met := {}
  ledg : Ledg := {}
  veh : Veh := {}
  cool : Cool := {}
  ey : Ey := {}
  shk : Shk := {}
  clk : Clk := {}
  key : Key := {}
  canA : CanBus := {}
  canB : CanBus := {}
  jq : List JEntry := []
  cq : List Compl := []
  oq : List Out := []
  fc : Nat := 0
  deriving DecidableEq, Repr

end Sys2Proof.Machine
end

