-- ==== Sys2Proof/Machine/Ops.lean ====
section
/-! DEFINITION. Sys2Proof/Machine/Ops.lean: the shared operations of a channel die: its time base, its journal and
its completions. -/

namespace Sys2Proof.Machine

/-- What a channel step sees of the module: the time since power-up in ns, site time in ns, and whether site time
is valid. -/
structure Env where
  now : Nat
  site : Nat
  siteValid : Bool
  deriving DecidableEq, Repr

/-- A channel journals an event (R54). -/
def Chan.jr (k : Chan) (e : Env) (src : JSrc) (ev : JEv) (data : List Int := []) (safe : Bool := false) : Chan :=
  { k with jq := k.jq ++ [{ t := e.site, src := src, ch := some k.idx, ev := ev, data := data, safe := safe }] }

/-- A channel completes a descriptor with a status code. -/
def Chan.compl (k : Chan) (ref : DescRef) (st : Nat) : Chan := { k with cq := k.cq ++ [{ ref := ref, status := st }] }

/-- A channel sends something out of the module. -/
def Chan.send (k : Chan) (o : Out) : Chan := { k with oq := k.oq ++ [o] }

/-- The next free value of a channel, and the channel with its counter advanced (log entry 1). -/
def Chan.free (k : Chan) : BitVec 64 × Chan :=
  (Config.freeValue (8 * k.fc + k.idx), { k with fc := k.fc + 1 })

/-- The next n free values of a channel as words, and the channel with its counter behind them (log entry 1). -/
def Chan.freeWords (k : Chan) (n : Nat) : (Nat → Word) × Chan :=
  (fun j => (Config.freeValue (8 * (k.fc + j) + k.idx)).extractLsb' 0 32, { k with fc := k.fc + n })

/-- Site time in taps of 156.25 ps: 6.4 taps to the ns (R65, R76). -/
def Env.taps (e : Env) : Int := divHE ((e.site : Int) * 32) 5

/-- ms as ns. -/
def msNs (n : Nat) : Nat := n * 1000000

/-- µs as ns. -/
def usNs (n : Nat) : Nat := n * 1000

/-- s as ns. -/
def sNs (n : Nat) : Nat := n * 1000000000

/-- A signed field of n bits read as an integer in its LSB. -/
def sI {n : Nat} (v : BitVec n) : Int := v.toInt

/-- An integer stored in a signed field of n bits, saturating (R12). -/
def toS (n : Nat) (x : Int) : BitVec n := BitVec.ofInt n (satS n x)

/-- An integer stored in an unsigned field of n bits, saturating (R12). -/
def toU (n : Nat) (x : Int) : BitVec n := BitVec.ofNat n (satU n x)

/-- The positions of a vector at which a test holds, ascending. -/
def vIdx {α : Type} {n : Nat} (v : Vector α n) (p : Nat → α → Bool) : List Nat :=
  (v.toList.zipIdx.filter (fun x => p x.2 x.1)).map (·.2)

/-- A vector mapped with its positions. -/
def vMapI {α β : Type} {n : Nat} (v : Vector α n) (f : Nat → α → β) : Vector β n :=
  (v.zipIdx).map (fun x => f x.2 x.1)

/-- One entry of a vector changed by a function; unchanged outside it. -/
def vMod {α : Type} {n : Nat} (v : Vector α n) (i : Nat) (f : α → α) : Vector α n :=
  match v[i]? with
  | some x => v.setIfInBounds i (f x)
  | none => v

/-- A bit of a mask, false outside it. -/
def mbit {n : Nat} (m : BitVec n) (i : Nat) : Bool := m.getLsbD i

/-- A mask with one bit set to a value. -/
def msetb {n : Nat} (m : BitVec n) (i : Nat) (b : Bool) : BitVec n :=
  if b then m ||| (1#n <<< i) else m &&& ~~~(1#n <<< i)

/-- The number of ones of a mask. -/
def mcount {n : Nat} (m : BitVec n) : Nat := ((List.range n).filter (fun i => m.getLsbD i)).length

/-- The reset calibration of stream i (R291). -/
def calReset (i : Nat) : MetCalRegs :=
  let f : BitVec 16 := if i < 3 then 8000 else if i < 7 then 40000 else if i = 8 ∨ i = 9 then 40960 else 20480
  { ({} : MetCalRegs) with fs := { ({} : MetCalFs) with fs := f } }

end Sys2Proof.Machine
end

