-- ==== Sys2Proof/Machine/Keys.lean ====
section
/-! DEFINITION. Sys2Proof/Machine/Keys.lean: life cycle, key slots, the check of critical descriptors, signed images
and Tamper-hold of one die (R579 to R608). -/

namespace Sys2Proof.Machine

/-! ### Slots (R583, R584) -/

/-- The class of a key slot. -/
inductive KeyClass where
  | verification | priv | command | reserved
  deriving DecidableEq, Repr

/-- R583: the class of a slot. -/
def keyClass (hub : Bool) (slot : Nat) : KeyClass :=
  if slot = 0 then .verification
  else if slot = 1 then (if hub then .verification else .priv)
  else if slot = 2 then (if hub then .reserved else .priv)
  else if slot = 3 then (if hub then .reserved else .verification)
  else if slot < 12 then .command
  else .reserved

/-- R583: the words of a slot's form. -/
def keyWords (hub : Bool) (slot : Nat) : Nat :=
  match keyClass hub slot with
  | .verification => 16
  | .priv => if slot = 1 then 8 else 17
  | .command => 4
  | .reserved => 0

/-- PRESUMED: a secp521r1 scalar of KS2 lies from 1 to the order of the curve less 1, as R583 says of KS1.
R583, R585: the value fits the slot's form. -/
def keyValid (hub : Bool) (slot : Nat) (ws : List Word) : Bool :=
  let bs := bytesOfWords ws
  decide (ws.length = keyWords hub slot) &&
  match keyClass hub slot with
  | .verification => onCurve (natOfBytes (bs.take 32)) (natOfBytes (bs.drop 32))
  | .priv => if slot = 1 then decide (1 ≤ natOfBytes bs ∧ natOfBytes bs < n256) else decide (bs.drop 66 = [0, 0] ∧ 1 ≤ natOfBytes (bs.take 66) ∧ natOfBytes (bs.take 66) < n521)
  | .command => true
  | .reserved => false

/-- The status code of a slot: 0 EMPTY, 1 LOADED, 2 ZEROISED (R584). -/
def Key.slotSt (k : Key) (i : Nat) : Nat := (k.r.keySlotStatus.extractLsb' (2 * i) 2).toNat

/-- A slot is LOADED (R584). -/
def Key.loaded (k : Key) (i : Nat) : Bool := decide (k.slotSt i = 1)

/-- A slot's status written. -/
def Key.setSt (k : Key) (i st : Nat) : Key :=
  { k with r := { k.r with
      keySlotStatus := (k.r.keySlotStatus &&& ~~~(3#32 <<< (2 * i))) ||| (BitVec.ofNat 32 (st % 4) <<< (2 * i)) } }

/-- R582: a slot can be used: LOADED, or a private or command slot while DEBUG is 1. -/
def Key.usable (k : Key) (hub : Bool) (i : Nat) : Bool :=
  if k.r.lcStatus.debug ∧ (keyClass hub i = .priv ∨ keyClass hub i = .command) then true else k.loaded i

/-- The words of the test-root key of a slot (R582). -/
def testKey (hub : Bool) (i : Nat) : List Word := (List.range (keyWords hub i)).map (Config.testRoot hub i)

/-- R582: the key a private or command slot works with. -/
def Key.keyOf (k : Key) (hub : Bool) (i : Nat) : List Word :=
  if k.r.lcStatus.debug ∧ (keyClass hub i = .priv ∨ keyClass hub i = .command) then testKey hub i else (vget k.slots i {}).val

/-! ### Critical descriptors (R529, R530, R588 to R590) -/

/-- R529: the message a tag covers: bytes 0x00 to 0x37 with CID, FENCE and TMO as 0. -/
def Desc.tagMsg (d : Desc) : List Nat :=
  bytesOfWords ([(d.word 0) &&& 0xFFFF, d.word 1, (d.word 2) &&& 0x7FFF0000] ++ (List.range 11).map (fun i => d.word (3 + i)))

/-- R529: the tag verifies under a key. -/
def Desc.tagOk (d : Desc) (key : List Word) : Bool :=
  decide ((cmac (bytesOfWords key) d.tagMsg).take 8 = bytesOfWords [d.word 14, d.word 15])

/-- R589: the descriptor carries no authentication. -/
def Desc.untagged (d : Desc) : Bool :=
  decide (d.word 12 = 0) && decide ((d.word 13) &&& 0xFFFFF = 0) && decide (d.word 14 = 0) && decide (d.word 15 = 0)

/-- The group of an opcode (R23). -/
def Desc.group (d : Desc) : Nat := d.opcode / 256

/-- R580: the life-cycle state permits critical descriptors of an opcode outside group 0x07. -/
def Key.criticalState (k : Key) (op : Nat) : Bool :=
  match k.r.lcStatus.state with
  | .blank => decide (op / 256 = 7)
  | .retired => decide (op = 0x0408 ∨ op / 256 = 7)
  | _ => true

/-- R588, step 1 of R530: the slot may carry the descriptor. -/
def Key.kslotOk (k : Key) (hub : Bool) (d : Desc) : Bool :=
  let i := d.kslot
  let g := d.group
  let gr : BitVec 9 := if k.r.lcStatus.debug then 0x1FF else (vget k.slots i {}).groups
  decide (keyClass hub i = .command) && k.usable hub i && decide (1 ≤ g ∧ g ≤ 9) && mbit gr (g - 1) && k.criticalState d.opcode

/-- R590: the last counter accepted for a slot: the test root's own while DEBUG is 1. -/
def Key.lastCtr (k : Key) (i : Nat) : Nat :=
  let s := vget k.slots i {}
  if k.r.lcStatus.debug then s.tctr else s.ctr

/-- R590: the counter of a slot stored. -/
def Key.storeCtr (k : Key) (i c : Nat) : Key :=
  let dbg := k.r.lcStatus.debug
  { k with slots := vMod k.slots i (fun (s : KeySlot) => if dbg then { s with tctr := c } else { s with ctr := c }) }

/-- Steps 1 to 4 of R530, and R589: the key store after the check, the code returned (none: execute), and whether the
counter was stored. -/
def Key.critical (k : Key) (hub : Bool) (d : Desc) : Key × Option Nat × Bool :=
  let hold := k.r.tampStatus.hold && decide (d.opcode ≠ 0x0705)
  let early := decide (k.r.lcStatus.state = .blank ∨ k.r.lcStatus.state = .provision)
  if early ∧ d.group = 7 ∧ d.untagged then (k, if hold then some 0x09 else none, false)
  else if !k.kslotOk hub d then (k, some 0x08, false)
  else if hold then (k, some 0x09, false)
  else if !d.tagOk (k.keyOf hub d.kslot) then
    ({ k with r.keyFail.tagFail := satInc k.r.keyFail.tagFail }, some 0x06, false)
  else if d.ctr ≤ k.lastCtr d.kslot then
    ({ k with r.keyFail.ctrStale := satInc k.r.keyFail.ctrStale }, some 0x07, false)
  else (k.storeCtr d.kslot d.ctr, none, true)

/-- R591: a write to KEY_CTR_SEL captures the slot's counter and mask. -/
def Key.ctrSelect (k : Key) (hub : Bool) (w : Word) : Key :=
  let i := (w.extractLsb' 0 4).toNat
  let s := vget k.slots i {}
  let cmd := decide (keyClass hub i = .command)
  { k with r := { k.r with
      keyCtrSel := BitVec.ofNat 4 i
      keyCtrLo := if cmd then BitVec.ofNat 32 s.ctr else 0
      keyCtrHi := if cmd then { groups := s.groups, ctr := BitVec.ofNat 16 (s.ctr / 2 ^ 32) } else {} } }

/-! ### Slot writes and zeroisation (R585 to R587) -/

/-- What a Sole's keys depend on outside the key store: seal state, an open session record, a charging channel, the
loop idle, CONF_OK; and a commit or activation running on either die. -/
structure KeyCtx where
  sealed : Bool := false
  recOpen : Bool := false
  charging : Bool := false
  loopIdle : Bool := true
  confOk : Bool := true
  busy : Bool := false
  deriving DecidableEq, Repr

/-- R587: the states in which a class may be written. -/
def Key.writeState (k : Key) (c : KeyClass) : Bool :=
  match c, k.r.lcStatus.state with
  | .command, .provision | .command, .verify | .command, .field | .command, .service => true
  | .priv, .provision | .priv, .verify | .priv, .service => true
  | .verification, .provision | .verification, .service => true
  | _, _ => false

/-- R587: the states in which a class may be zeroised. -/
def Key.zeroState (k : Key) (c : KeyClass) : Bool :=
  match c, k.r.lcStatus.state with
  | .command, .blank | .priv, .blank => false
  | .command, _ | .priv, _ => true
  | .verification, .provision | .verification, .service => true
  | _, _ => false

/-- R585, R587, R604: the checks of a 0x0701 before its block; none: the word port is bound. -/
def Key.writeCheck (k : Key) (hub : Bool) (x : KeyCtx) (d : Desc) : Option Nat :=
  let i := d.fld 0 16 4
  let c := keyClass hub i
  let g := d.fld 1 0 9
  if !d.onlyBits [0x000F0007, 0x1FF] then some 0x05
  else if k.r.lcStatus.state = .blank ∨ k.r.lcStatus.state = .retired then some 0xB0
  else if c = .reserved then some 0xB1
  else if !k.writeState c then some 0xB0
  else if (c = .command ∧ g = 0) ∨ (c ≠ .command ∧ g ≠ 0) then some 0xB1
  else if !hub ∧ i = 1 ∧ x.recOpen then some 0xB5
  else if !hub ∧ (i = 1 ∨ i = 3) ∧ x.sealed then some 0xB6
  else none

/-- R585: the block of a 0x0701 has arrived. -/
def Key.writeSlot (k : Key) (hub : Bool) (slot : Nat) (groups : BitVec 9) (ws : List Word) : Key × Nat :=
  if !keyValid hub slot ws then (k, 0xB1)
  else
    (({ k with slots := vMod k.slots slot (fun (s : KeySlot) => { s with val := ws, groups := groups }) } : Key).setSt slot 1, 0)

/-- One slot zeroised: its value is gone, its counter kept (R586). -/
def Key.zeroSlot (k : Key) (i : Nat) : Key :=
  ({ k with slots := vMod k.slots i (fun (s : KeySlot) => { s with val := [] }) } : Key).setSt i 2

/-- R586, R587: 0x0702. -/
def Key.zeroise (k : Key) (hub : Bool) (x : KeyCtx) (d : Desc) : Key × Nat :=
  let is := (List.range 16).filter (fun i => d.bit 0 i)
  if !d.onlyBits [0xFFFF] then (k, 0x05)
  else if is.any (fun i => !k.zeroState (keyClass hub i)) then (k, 0xB0)
  else if !hub ∧ is.contains 1 ∧ x.recOpen then (k, 0xB5)
  else (is.foldl Key.zeroSlot k, 0)

/-! ### Life cycle and debug flag (R581, R582) -/

/-- A command key whose GROUPS includes 0x07 is LOADED (R581). -/
def Key.has07 (k : Key) : Bool :=
  (List.range 8).any (fun j => k.loaded (4 + j) && mbit (vget k.slots (4 + j) {}).groups 6)

/-- The life-cycle state of a code (R604). -/
def lcOf : Nat → Option LcState
  | 0 => some .blank | 1 => some .provision | 2 => some .verify | 3 => some .field | 4 => some .service
  | 5 => some .retired | _ => none

/-- R581: 0x0703. -/
def Key.advance (k : Key) (hub : Bool) (x : KeyCtx) (d : Desc) : Key × Nat :=
  let put (s : LcState) : Key := { k with r.lcStatus.state := s }
  if !d.onlyBits [7] then (k, 0x05)
  else match k.r.lcStatus.state, lcOf (d.fld 0 0 3) with
  | .blank, some .provision => (put .provision, 0)
  | .provision, some .verify =>
    if k.loaded 0 && k.loaded 1 && (hub || k.loaded 3) && k.has07 then (put .verify, 0) else (k, 0xB2)
  | .verify, some .field | .service, some .field =>
    if !k.r.lcStatus.debug && (hub || (x.confOk && (!x.charging || x.sealed))) then (put .field, 0) else (k, 0xB2)
  | .field, some .service => (put .service, 0)
  | .provision, some .retired | .verify, some .retired | .field, some .retired | .service, some .retired =>
    if x.busy ∨ (!hub ∧ (!x.loopIdle ∨ x.recOpen)) then (k, 0xB5)
    else
      let k := put .retired
      (if hub then k else (k.zeroSlot 1).zeroSlot 2, 0)
  | _, _ => (k, 0xB0)

/-- R582: the volatile session keys are zeroised. -/
def Key.zeroVol (k : Key) : Key := { k with vol := false, tVol := none }

/-- R582: 0x0704. -/
def Key.debugSet (k : Key) (hub : Bool) (x : KeyCtx) (d : Desc) : Key × Nat :=
  let v := d.bit 0 0
  let st := k.r.lcStatus.state
  if !d.onlyBits [1] then (k, 0x05)
  else if v ∧ (st = .field ∨ st = .retired) ∨ st = .retired then (k, 0xB0)
  else if v ∧ !hub ∧ (!x.loopIdle ∨ x.recOpen) then (k, 0xB5)
  else
    let k := if v then { k with slots := k.slots.map (fun (s : KeySlot) => { s with tctr := 0 }) } else k
    let k := if v ≠ k.r.lcStatus.debug then k.zeroVol else k
    ({ k with r.lcStatus.debug := v }, 0)

/-! ### Tamper (R595 to R603) -/

/-- An enabled input reads open (R600). -/
def Key.inputOpen (k : Key) : Bool :=
  (k.r.tampCfg.en0 && k.r.tampStatus.in0Open) || (k.r.tampCfg.en1 && k.r.tampStatus.in1Open)

/-- A source of the die persists (R600). -/
def Key.sourceOpen (k : Key) : Bool := k.inputOpen || decide (k.det ≠ 0)

/-- R599: an alarm with a code; true when it enters the hold. `boot`: the die has not unlocked its keys. -/
def Key.alarm (k : Key) (code : Nat) (boot : Bool) : Key × Bool :=
  let t := k.r.tampStatus
  let seen := msetb t.seen (code - 1) true
  let k := { k with r.tampCnt := satInc k.r.tampCnt }
  if t.hold then ({ k with r.tampStatus.seen := seen, propOnly := k.propOnly && decide (code = 7) }, false)
  else
    ({ k with
       propOnly := decide (code = 7)
       held := boot
       r.tampStatus := { t with hold := true, startup := boot, first := BitVec.ofNat 8 code, seen := seen } }, true)

/-- R595: a tamper input read for a time: its state, and whether it raises an alarm. -/
def Key.input (k : Key) (i : Bool) (isOpen : Bool) (ms : Nat) : Key × Bool :=
  let c := k.r.tampCfg
  if i then
    ({ k with r.tampStatus.in1Open := isOpen }, c.en1 && isOpen && decide (max 1 c.tf1.toNat ≤ ms))
  else
    ({ k with r.tampStatus.in0Open := isOpen }, c.en0 && isOpen && decide (max 1 c.tf0.toNat ≤ ms))

/-- R596: the reading x of a detector is an alarm. Code 0x03: ns a core rail spent outside ±15 %; 0x04: the shortest
reference period, ns; 0x05: junction temperature, 0.1 °C; 0x06: 1 when the mesh is broken. -/
def detAlarm (code : Nat) (x : Int) : Bool :=
  match code with
  | 3 => decide (50 < x)
  | 4 => decide (x < 30)
  | 5 => decide (x < -550 ∨ 1500 < x)
  | 6 => decide (x ≠ 0)
  | _ => false

/-- R599: the hold ends. -/
def Key.release (k : Key) : Key :=
  { k with propOnly := false, held := false
           r.tampStatus := { k.r.tampStatus with hold := false, startup := false, first := 0 } }

/-- R603: 0x0706 writes TAMP_CFG. -/
def Key.tampCfg (k : Key) (d : Desc) : Key × Nat :=
  let w := d.pay 0
  let tf (v : BitVec 8) : BitVec 8 := if v = 0 then 1 else v
  if !d.onlyBits [0xFFFFFFFF] then (k, 0x05)
  else if k.r.lcStatus.state = .retired then (k, 0xB0)
  else
    ({ k with r.tampCfg :=
        { tf1 := tf (w.extractLsb' 24 8), tf0 := tf (w.extractLsb' 16 8), en1 := w.getLsbD 1, en0 := w.getLsbD 0 } }, 0)

/-! ### Signed images (R592 to R594) -/

/-- The public point an image of the slot is checked under: the test root's where TEST is 1 (R593). -/
def Key.verifyKey (k : Key) (hub : Bool) (slot : Nat) (test : Bool) : List Word :=
  if test then testKey hub slot else if k.loaded slot then (vget k.slots slot {}).val else []

/-- R593: an image of a kind verifies under a slot, with a floor; `length` is the descriptor's. -/
def Key.imageOk (k : Key) (hub : Bool) (slot kind floor length : Nat) (img : List Word) : Bool :=
  let w (i : Nat) : Word := img.getD i 0
  let bs := bytesOfWords img
  let test := (w 5).getLsbD 0
  let key := bytesOfWords (k.verifyKey hub slot test)
  let body := bs.drop 128
  decide (w 0 = 0x4B444D47) && decide (((w 1).extractLsb' 0 8).toNat = kind) &&
  decide ((w 3).toNat + 128 = length) && decide (4 * img.length = length) &&
  decide (sha256 body = (bs.drop 0x18).take 32) &&
  decide (key.length = 64) &&
  ecdsaVerify (natOfBytes (key.take 32)) (natOfBytes (key.drop 32)) (sha256 (bs.take 64))
    (natOfBytes ((bs.drop 0x40).take 32)) (natOfBytes ((bs.drop 0x60).take 32)) &&
  decide (floor ≤ ((w 4).extractLsb' 0 6).toNat) && (!test || k.r.lcStatus.debug)

/-- VERSION and ARB of an image's header (R592). -/
def imgVersion (img : List Word) : Word := img.getD 2 0
def imgArb (img : List Word) : BitVec 6 := (img.getD 4 0).extractLsb' 0 6

/-- R594: a floor that never falls. -/
def raiseArb (a b : BitVec 6) : BitVec 6 := if a.toNat < b.toNat then b else a

end Sys2Proof.Machine
end

