-- ==== Sys2Proof/Machine/StGw.lean ====
section
/-! DEFINITION. Sys2Proof/Machine/StGw.lean: the state of the host gateway, and the word-port transfers of the dies of a
node (R506 to R546). -/

namespace Sys2Proof.Machine

/-- One submission ring with its completion ring. -/
structure GwRing where
  /-- its registers (R545) -/
  r : GwRingRegs := {}
  /-- doorbell words as last written (R518) -/
  sqTail : Word := 0
  cqHead : Word := 0
  /-- PHASE of the next completion (R520) -/
  phase : Bool := true
  /-- completions posted and not released; posted and not signalled; time of the first of those, ns (R519, R521) -/
  posted : Nat := 0
  unsig : Nat := 0
  tSig : Option Nat := none
  deriving DecidableEq, Repr

/-- A descriptor forwarded and not completed (R526). `ch`: the target's channel, none for a hub. -/
structure Outst where
  d : Desc
  ring : Nat
  node : Nat
  ch : Option Nat
  /-- timeout, ms; its start, ns; stopped since (R526) -/
  tmo : Nat
  t : Nat
  paused : Option Nat := none
  /-- the word port bound (R533) -/
  port : Option Nat := none
  deriving DecidableEq, Repr

/-- A descriptor fetched and not forwarded (R525). -/
structure Held where
  d : Desc
  ring : Nat
  deriving DecidableEq, Repr

/-- A word port bound at this gateway (R533). -/
structure PortSt where
  node : Nat
  k : Nat
  rid : Nat
  r : GwPortRegs
  buf : List Word
  /-- time of the newest host access, or of entry to its state, ns (R538) -/
  tHost : Nat
  deriving DecidableEq, Repr

/-- A register access sent to another node (R512). -/
structure RegAcc where
  rid : Nat
  node : Nat
  ofs : Nat
  write : Bool
  t : Nat
  deriving DecidableEq, Repr

/-- What the gateway sends to a node, which may be its own: a descriptor, a word-port message (R539: KIND, PORT, BSEQ,
check value, words), or a register access. -/
inductive GwMsg where
  | desc (node : Nat) (d : Desc)
  | word (node kind port bseq : Nat) (crc : Word) (ws : List Word)
  | reg (node rid ofs : Nat) (write : Bool) (w : Word)
  deriving DecidableEq, Repr

/-- The host gateway of a node. -/
structure Gw where
  /-- its registers (R544) -/
  r : GwRegs := {}
  /-- counts of codes 0 to 8 of GW_CNT_SEL -/
  cnt : Vector Word 9 := Vector.replicate 9 0
  /-- REFSEL as in force since the last endpoint reset (R508) -/
  refsel : Bool := false
  rings : Vector GwRing 64 := Vector.ofFn (fun (i : Fin 64) => { r := { irq := { vec := BitVec.ofNat 6 i.val } } })
  held : List Held := []
  out : List Outst := []
  ports : List PortSt := []
  reads : List RegAcc := []
  /-- identifier of the next request, 12 bits (R539) -/
  rid : Nat := 0
  /-- completions and MSI-X messages that wait for Bus Master Enable (R507) -/
  waitC : List (Nat × Nat × Nat × Nat × Word × Word) := []
  waitI : List Nat := []
  msgs : List GwMsg := []
  oq : List Out := []
  deriving DecidableEq, Repr

/-- A word-port transfer at its target die (R535, R536): `die` 0 to 3 for a Sole, 4 for the hub. -/
structure Xfer where
  die : Nat
  d : Desc
  ref : DescRef
  port : Nat
  isOut : Bool
  /-- out: the words to send; in: the words taken -/
  words : List Word
  /-- the length the descriptor named, in words -/
  need : Nat
  /-- words delivered or taken; block number; consecutive NAKs of this block; blocks resent -/
  pos : Nat := 0
  bseq : Nat := 0
  naks : Nat := 0
  resent : Nat := 0
  deriving DecidableEq, Repr

end Sys2Proof.Machine
end

