-- ==== Sys2Proof/Machine/Gateway.lean ====
section
/-! DEFINITION. Sys2Proof/Machine/Gateway.lean: the host gateway (R506 to R546). What it does at a target, its own node
included, leaves it as a message. -/

namespace Sys2Proof.Machine

/-- What the gateway sees of its node: time in ns, the NID held, the NIDs present, the NIDs of the other present nodes
that report GATEWAY. -/
structure GCtx where
  now : Nat
  nid : Option Nat
  present : List Nat
  gws : List Nat
  deriving DecidableEq, Repr

/-! ### Counts, vectors and completions (R515, R520, R521, R527) -/

/-- A count of GW_CNT_SEL; it saturates. -/
def Gw.count (g : Gw) (code : Nat) : Gw :=
  let c := vMod g.cnt code satInc
  { g with cnt := c, r.cntData := vget c g.r.cntSel.toNat 0 }

/-- The role is held. -/
def Gw.role (g : Gw) : Bool := g.r.status.gateway

def Gw.bme (g : Gw) : Bool := g.r.status.bme

/-- An MSI-X message, or its wait for Bus Master Enable (R507). -/
def Gw.msi (g : Gw) (vec : Nat) : Gw :=
  if g.bme then { g with oq := g.oq ++ [.msi vec] } else { g with waitI := g.waitI ++ [vec] }

def Gw.ring (g : Gw) (k : Nat) : GwRing := vget g.rings k {}

def Gw.setRing (g : Gw) (k : Nat) (x : GwRing) : Gw := { g with rings := g.rings.setIfInBounds k x }

/-- The entries of a ring (R516). -/
def GwRing.n (x : GwRing) : Nat := 2 ^ (max 4 (min 12 x.r.cfg.size.toNat))

def GwRing.st (x : GwRing) : RingState := x.r.status.state

def GwRing.setSt (x : GwRing) (s : RingState) : GwRing := { x with r.status.state := s }

/-- R517: descriptors of a ring fetched and not completed. -/
def Gw.inflight (g : Gw) (k : Nat) : Nat :=
  g.held.countP (fun (h : Held) => decide (h.ring = k)) + g.out.countP (fun (o : Outst) => decide (o.ring = k))

/-- The registers that show numbers in flight. -/
def Gw.view (g : Gw) (c : GCtx) : Gw :=
  let peer := c.gws.head?
  { g with
    rings := vMapI g.rings (fun k (x : GwRing) => { x with r.status.inflight := BitVec.ofNat 13 (g.inflight k) })
    r.status.inflight := toU 9 g.out.length
    r.status.peerValid := peer.isSome
    r.status.peerNid := BitVec.ofNat 6 (peer.getD 0) }

/-- R521: the message of a ring is due. -/
def Gw.signal (g : Gw) (now k : Nat) : Gw :=
  let x := g.ring k
  let u := x.unsig + 1
  if x.r.irq.time = 0 ∨ max 1 x.r.irq.cnt.toNat ≤ u then
    (g.setRing k { x with unsig := 0, tSig := none }).msi x.r.irq.vec.toNat
  else g.setRing k { x with unsig := u, tSig := some (x.tSig.getD now) }

/-- COMPLETION_POST (R520, R527): the completion is written at CQ tail. -/
def Gw.write (g : Gw) (now k cid op st : Nat) (r0 r1 : Word) : Gw :=
  let x := g.ring k
  let slot := x.r.ptr.cqTail.toNat
  let w3 : Word := (if x.phase then 1#32 <<< 31 else 0) ||| BitVec.ofNat 32 (k % 64 * 2 ^ 24 + st % 256 * 2 ^ 16 + op % 65536)
  let w0 : Word := BitVec.ofNat 32 (cid % 65536 * 65536 + x.r.ptr.sqHead.toNat)
  let nxt := (slot + 1) % x.n
  let x : GwRing := { x with
    r.ptr.cqTail := BitVec.ofNat 12 nxt, phase := if nxt = 0 then !x.phase else x.phase, posted := x.posted + 1 }
  ({ g.setRing k x with oq := g.oq ++ [.completion k slot [w0, r0, r1, w3]] } : Gw).signal now k

/-- A descriptor of a ring completes: discarded on a DISABLED ring, held while Bus Master Enable is 0 (R507, R517). -/
def Gw.post (g : Gw) (now k cid op st : Nat) (r0 r1 : Word) : Gw :=
  if (g.ring k).st = .disabled then g.count 2
  else
    let g : Gw := if st = 0x0F then g.count 3 else if st = 0x06 then g.count 6 else if st = 0x07 then g.count 7 else g
    if g.bme then g.write now k cid op st r0 r1
    else { g with waitC := g.waitC ++ [(k, cid, op, st, r0, r1)] }

/-! ### Word ports bound here (R533) -/

def Gw.port (g : Gw) (node k : Nat) : Option PortSt :=
  g.ports.find? (fun (p : PortSt) => decide (p.node = node) && decide (p.k = k))

def Gw.setPort (g : Gw) (p : PortSt) : Gw :=
  { g with ports := p :: g.ports.filter (fun (q : PortSt) => !(decide (q.node = p.node) && decide (q.k = p.k))) }

def Gw.dropPort (g : Gw) (rid : Nat) : Gw := { g with ports := g.ports.filter (fun (p : PortSt) => decide (p.rid ≠ rid)) }

/-- The word port a descriptor names, and its direction: true out of the module. -/
def Desc.portOf (d : Desc) : Option (Nat × Bool) :=
  if d.opcode = 0x0104 then some (d.fld 1 0 3, false)
  else if d.opcode = 0x0409 ∨ d.opcode = 0x0701 ∨ d.opcode = 0x0801 then some (d.fld 0 0 3, false)
  else if d.opcode = 0x0403 ∨ d.opcode = 0x0407 then some (d.fld 0 0 3, true)
  else none

/-- R526: the timer of a descriptor is stopped while its port waits on the host. -/
def Gw.pause (g : Gw) (now rid : Nat) (stop : Bool) : Gw :=
  let f (o : Outst) : Outst :=
    if o.d.rid ≠ rid then o
    else match o.paused, stop with
      | none, true => { o with paused := some now }
      | some t, false => { o with paused := none, t := o.t + (now - t) }
      | _, _ => o
  { g with out := g.out.map f }

/-- A port enters a state. -/
def Gw.portTo (g : Gw) (now : Nat) (p : PortSt) (s : PortState) : Gw :=
  (g.setPort { p with r.status.state := s, tHost := now }).pause now p.rid (decide (s = .inReady) || decide (s = .outFull))

/-- R533: the port of a descriptor is bound when it goes to its target. -/
def Gw.bind (g : Gw) (now : Nat) (node : Nat) (d : Desc) : Gw :=
  match d.portOf with
  | none => g
  | some (k, isOut) =>
    if (g.port node k).isSome then g
    else
      let info : GwWpkInfo := { opcode := BitVec.ofNat 16 d.opcode, dir := isOut, target := BitVec.ofNat 8 d.target }
      let g : Gw := { g with out := g.out.map (fun (o : Outst) => if o.d.rid = d.rid then { o with port := some k } else o) }
      g.portTo now { node := node, k := k, rid := d.rid, r := { info := info }, buf := [], tHost := now }
        (if isOut then .outEmpty else .inReady)

/-! ### Forwarding (R523 to R525) -/

/-- R524: the node and the channel of a target. -/
def Desc.dst (d : Desc) : Nat × Option Nat :=
  if d.chan then (d.target / 4, some (d.target % 4)) else (d.target % 64, none)

/-- R522: the reserved bits outside the payload are 0. -/
def Desc.resvOk (d : Desc) : Bool :=
  decide ((d.word 1) &&& (if d.chan then 0xFFFFFE00#32 else 0xFFFFFEC0#32) = 0) && decide ((d.word 2) &&& 0x7FFF0000#32 = 0)
  && decide (d.word 3 = 0) && decide ((d.word 13) &&& 0xFFF00000#32 = 0)

/-- R523: the checks of the gateway. -/
def gwCheck (c : GCtx) (d : Desc) : Option Nat :=
  let row := opRow d.opcode
  if !groupOk d.opcode then some 0x01
  else if row.any (fun r => !r.target.fits d.chan) then some 0x02
  else if !(c.present.contains d.dst.1) then some 0x03
  else if !d.resvOk || (row.any (fun r => !r.critical) && !d.untagged) then some 0x05
  else none

/-- R525: descriptors a target die holds from this gateway. -/
def Gw.load (g : Gw) (node : Nat) (ch : Option Nat) : Nat :=
  g.out.countP (fun (o : Outst) => decide (o.node = node) && decide (o.ch = ch))

/-- R525: a held descriptor may go: its FENCE is met and its target has room. -/
def Gw.mayGo (g : Gw) (h : Held) : Bool :=
  (!h.d.fence || !g.out.any (fun (o : Outst) => decide (o.ring = h.ring))) && decide (g.load h.d.dst.1 h.d.dst.2 < 16)

/-- R524: a descriptor goes to its target. -/
def Gw.forward (g : Gw) (now : Nat) (h : Held) : Gw :=
  let x := g.ring h.ring
  let tmo := if h.d.tmo = 0 then max 1 x.r.cfg.tmoDef.toNat else h.d.tmo
  let g : Gw := { g with
    out := g.out ++ [{ d := h.d, ring := h.ring, node := h.d.dst.1, ch := h.d.dst.2, tmo := tmo, t := now }]
    msgs := g.msgs ++ [.desc h.d.dst.1 h.d] }
  g.bind now h.d.dst.1 h.d

/-- R525: the held descriptors in order; one that waits holds back the later ones of its ring. -/
def Gw.pumpGo (now : Nat) : List Held → Gw → List Nat → Gw
  | [], g, _ => g
  | h :: hs, g, stuck =>
    if !stuck.contains h.ring && g.mayGo h then Gw.pumpGo now hs (g.forward now h) stuck
    else Gw.pumpGo now hs { g with held := g.held ++ [h] } (h.ring :: stuck)

def Gw.pump (g : Gw) (now : Nat) : Gw := Gw.pumpGo now g.held { g with held := [] } []

/-- A completion for a request arrives or is made: code 2 where none is outstanding (R526). -/
def Gw.complete (g : Gw) (now rid st : Nat) (r0 r1 : Word) : Gw :=
  match g.out.find? (fun (o : Outst) => decide (o.d.rid = rid)) with
  | none => g.count 2
  | some o =>
    let g : Gw := { g with out := g.out.filter (fun (x : Outst) => decide (x.d.rid ≠ rid)) }.dropPort rid
    (g.post now o.ring o.d.cid o.d.opcode st r0 r1).pump now

/-! ### Rings (R517 to R519) -/

/-- R517: in-flight descriptors of a ring are abandoned; their completions count when they come. -/
def Gw.abandon (g : Gw) (k : Nat) : Gw :=
  let gone := (g.out.filter (fun (o : Outst) => decide (o.ring = k))).map (fun (o : Outst) => o.d.rid)
  { g with
    out := g.out.filter (fun (o : Outst) => decide (o.ring ≠ k))
    held := g.held.filter (fun (h : Held) => decide (h.ring ≠ k))
    ports := g.ports.filter (fun (p : PortSt) => !gone.contains p.rid)
    waitC := g.waitC.filter (fun x => decide (x.1 ≠ k)) }

/-- R528: descriptors fetched and not forwarded when their ring leaves ACTIVE complete with 0x0B. -/
def Gw.flushHeld (g : Gw) (now k : Nat) : Gw :=
  let hs := g.held.filter (fun (h : Held) => decide (h.ring = k))
  hs.foldl (fun (g : Gw) (h : Held) => g.post now k h.d.cid h.d.opcode 0x0B 0 0)
    ({ g with held := g.held.filter (fun (h : Held) => decide (h.ring ≠ k)) } : Gw)

/-- R517: a ring enters ERROR and the error vector is raised. -/
def Gw.ringError (g : Gw) (now k err : Nat) : Gw :=
  let x := g.ring k
  let g : Gw := g.setRing k { x with r.status.state := .error, r.status.err := BitVec.ofNat 3 err }
  let g : Gw := g.flushHeld now k
  if g.r.irqCfg.errEn then g.msi g.r.irqCfg.errVec.toNat else g

/-- SQ_DOORBELL (R518). -/
def Gw.sqDoorbell (g : Gw) (now k : Nat) (w : Word) : Gw :=
  let x := g.ring k
  if !g.role then g
  else if x.st ≠ .active then g.count 4
  else
    let g : Gw := g.setRing k { x with sqTail := w }
    if x.n ≤ w.toNat then g.ringError now k 1 else g

/-- CQ_DOORBELL (R518). -/
def Gw.cqDoorbell (g : Gw) (k : Nat) (w : Word) : Gw :=
  let x := g.ring k
  if !g.role then g
  else if x.st ≠ .active then g.count 4
  else g.setRing k { x with cqHead := w, posted := x.posted - (w.toNat + x.n - x.cqHead.toNat % x.n) % x.n }

/-- RING_ENABLE (R517). -/
def Gw.enable (g : Gw) (k : Nat) : Gw :=
  let x := g.ring k
  if g.role && decide (x.st = .disabled) then
    g.setRing k { x with
      r.cfg.en := true, r.status.state := .active, r.status.err := 0, r.ptr := {}, sqTail := 0, cqHead := 0, phase := true
      posted := 0, unsig := 0, tSig := none }
  else g

/-- A ring is disabled. -/
def Gw.ringOff (g : Gw) (k : Nat) : Gw :=
  let x := g.ring k
  g.setRing k { x with r.cfg.en := false, r.status.state := .disabled }

/-- RING_DISABLE (R517). -/
def Gw.disable (g : Gw) (now k : Nat) : Gw :=
  let x := g.ring k
  match x.st with
  | .active => (g.setRing k { x with r.cfg.en := false, r.status.state := .draining }).flushHeld now k
  | .error => (g.abandon k).ringOff k
  | _ => g

/-- RING_ABORT (R517). -/
def Gw.abort (g : Gw) (k : Nat) : Gw :=
  let x := g.ring k
  if x.st = .active ∨ x.st = .draining then (g.abandon k).ringOff k else g

/-- RING_DRAIN_DONE (R517). -/
def Gw.drainDone (g : Gw) (k : Nat) : Gw :=
  if (g.ring k).st = .draining ∧ g.inflight k = 0 then g.ringOff k else g

/-- One descriptor of a fetch (R523): it is held for forwarding, or completes at once. -/
def Gw.take (c : GCtx) (k : Nat) (g : Gw) (ws : Vector Word 16) : Gw :=
  let x := g.ring k
  let head := x.r.ptr.sqHead.toNat
  if x.st ≠ .active ∨ head = x.sqTail.toNat ∨ x.n ≤ g.inflight k + x.posted then g
  else
    let g : Gw := g.setRing k { x with r.ptr.sqHead := BitVec.ofNat 12 ((head + 1) % x.n) }
    let d : Desc := { w := ws, gw := c.nid.getD 0, rid := g.rid }
    match gwCheck c d with
    | some st => g.post c.now k d.cid d.opcode st 0 0
    | none => ({ g with rid := (g.rid + 1) % 4096, held := g.held ++ [{ d := d, ring := k }] } : Gw).pump c.now

/-- DESCRIPTOR_FETCH (R519): a read of host memory ends, with up to eight descriptors, or in an error. -/
def Gw.fetch (g : Gw) (c : GCtx) (k : Nat) (ok : Bool) (ds : List (Vector Word 16)) : Gw :=
  let x := g.ring k
  if !g.role || !g.bme then g
  else if !ok then (if x.st = .active ∨ x.st = .draining then g.ringError c.now k 2 else g)
  else (ds.take 8).foldl (Gw.take c k) g

/-- IRQ_TIME_EXPIRY (R521). -/
def Gw.irqTime (g : Gw) (now k : Nat) : Gw :=
  let x := g.ring k
  match x.tSig with
  | some t => if t + usNs x.r.irq.time.toNat ≤ now then (g.setRing k { x with unsig := 0, tSig := none }).msi x.r.irq.vec.toNat else g
  | none => g

/-- DESCRIPTOR_TIMEOUT (R526). -/
def Gw.timeout (g : Gw) (now rid : Nat) : Gw :=
  match g.out.find? (fun (o : Outst) => decide (o.d.rid = rid)) with
  | some o => if o.paused.isNone && decide (o.t + msNs o.tmo ≤ now) then g.complete now rid 0x0A 0 0 else g
  | none => g

/-- TARGET_LOST_COMPLETE (R526): the outstanding descriptors of a node, or of one of its channels, complete with 0x0F. -/
def Gw.lost (g : Gw) (now node : Nat) (ch : Option Nat) : Gw :=
  let hit := g.out.filter (fun (o : Outst) => decide (o.node = node) && (ch.isNone || decide (o.ch = ch)))
  hit.foldl (fun (g : Gw) (o : Outst) => g.complete now o.d.rid 0x0F 0 0) g

/-- BUS_MASTER_ENABLE (R507): what waited goes out in order. -/
def Gw.setBme (g : Gw) (now : Nat) (on : Bool) : Gw :=
  let g0 : Gw := { g with r.status.bme := on }
  if !on then g0
  else
    let g1 := g.waitC.foldl (fun (x : Gw) (c : Nat × Nat × Nat × Nat × Word × Word) =>
      x.write now c.1 c.2.1 c.2.2.1 c.2.2.2.1 c.2.2.2.2.1 c.2.2.2.2.2) { g0 with waitC := [], waitI := [] }
    g.waitI.foldl (fun (x : Gw) v => x.msi v) g1

/-! ### Attention (R532) -/

/-- ATTENTION_NOTICE (R532, R539): a notice of a node: bits 3 to 0 its channels, bit 4 the node. -/
def Gw.notice (g : Gw) (node : Nat) (w : Word) : Gw :=
  let one (g : Gw) (ch : Nat) : Gw :=
    if w.getLsbD ch then
      let gc := 4 * node + ch
      let old := vget g.r.attn (gc / 32) 0
      let g' : Gw := { g with r.attn := g.r.attn.setIfInBounds (gc / 32) (old ||| (1#32 <<< (gc % 32))) }
      if !old.getLsbD (gc % 32) && g.r.irqCfg.attnEn then g'.msi g.r.irqCfg.attnVec.toNat else g'
    else g
  let g : Gw := (List.range 4).foldl one g
  if w.getLsbD 4 then
    let old := vget g.r.nattn (node / 32) 0
    let g' : Gw := { g with r.nattn := g.r.nattn.setIfInBounds (node / 32) (old ||| (1#32 <<< (node % 32))) }
    if !old.getLsbD (node % 32) && g.r.irqCfg.nattnEn then g'.msi g.r.irqCfg.nattnVec.toNat else g'
  else g

/-! ### Word-port accesses of the host (R535 to R538) -/

/-- A word written into the buffer of a port. -/
def bufSet (buf : List Word) (i : Nat) (w : Word) : List Word :=
  if i < buf.length then buf.set i w else buf ++ List.replicate (i - buf.length) 0 ++ [w]

/-- WP_DATA_ACCESS (R537): a word of the data window written, or read. -/
def Gw.wpData (g : Gw) (now node k ofs : Nat) (write : Bool) (w : Word) : Gw :=
  let ans (g : Gw) (w : Word) : Gw := if write then g else { g with oq := g.oq ++ [.readData node (0x18000 + 4096 * k + ofs) w] }
  if !g.role then ans g 0xFFFFFFFF
  else match g.port node k with
    | none => ans (g.count 0) 0
    | some p =>
      if write then
        if p.r.status.state = .inReady ∧ ofs < 4096 then g.setPort { p with buf := bufSet p.buf (ofs / 4) w, tHost := now }
        else g.count 0
      else if p.r.status.state = .outFull ∧ ofs < 4 * p.r.status.wlen.toNat then
        ans (g.setPort { p with tHost := now }) (p.buf.getD (ofs / 4) 0)
      else ans (g.count 0) 0

/-- A host write of GW_WPk_CHECK: taken in IN_READY. -/
def Gw.wpCheck (g : Gw) (now node k : Nat) (w : Word) : Gw :=
  match g.port node k with
  | some p => if g.role ∧ p.r.status.state = .inReady then g.setPort { p with r.check := w, tHost := now } else g
  | none => g

/-- WP_COMMIT (R535): the block goes to the target. -/
def Gw.wpCommit (g : Gw) (now node k wlen : Nat) : Gw :=
  if !g.role then g
  else match g.port node k with
    | some p =>
      if p.r.status.state = .inReady ∧ 1 ≤ wlen ∧ wlen ≤ 1024 then
        let ws := (List.range wlen).map (fun i => p.buf.getD i 0)
        { g.portTo now { p with r.status.wlen := BitVec.ofNat 12 wlen } .inBusy with
          msgs := g.msgs ++ [.word node 1 k p.r.status.bseq.toNat p.r.check ws] }
      else g.count 0
    | none => g.count 0

/-- WP_ACK (R536). -/
def Gw.wpAck (g : Gw) (now node k : Nat) : Gw :=
  if !g.role then g
  else match g.port node k with
    | some p =>
      if p.r.status.state = .outFull then
        { g.portTo now p .outEmpty with msgs := g.msgs ++ [.word node 2 k p.r.status.bseq.toNat 0 []] }
      else g.count 0
    | none => g.count 0

/-- WP_NAK (R536): the target counts the NAKs of a block. -/
def Gw.wpNak (g : Gw) (now node k : Nat) : Gw :=
  if !g.role then g
  else match g.port node k with
    | some p =>
      if p.r.status.state = .outFull then
        { (g.portTo now p .outEmpty).count 5 with msgs := g.msgs ++ [.word node 3 k p.r.status.bseq.toNat 0 []] }
      else g.count 0
    | none => g.count 0

/-- WP_ABORT (R538). -/
def Gw.wpAbort (g : Gw) (now node k : Nat) : Gw :=
  if !g.role then g
  else match g.port node k with
    | some p => g.complete now p.rid 0x0D 0 0
    | none => g.count 0

/-- WP_TIMEOUT (R538): 10 s in IN_READY or OUT_FULL without a host access. -/
def Gw.wpDue (g : Gw) (now node k : Nat) : Option PortSt :=
  (g.port node k).filter (fun (p : PortSt) =>
    (decide (p.r.status.state = .inReady) || decide (p.r.status.state = .outFull)) && decide (p.tHost + sNs 10 ≤ now))

def Gw.wpTimeout (g : Gw) (now node k : Nat) : Gw :=
  match g.wpDue now node k with
  | some p => (g.complete now p.rid 0x0C 0 0).count 8
  | none => g

/-- A WORD frame of a target reaches the gateway (R535, R536): a block out, or the answer to a block in. -/
def Gw.word (g : Gw) (now node kind k bseq : Nat) (crc : Word) (ws : List Word) : Gw :=
  match g.port node k with
  | none => g
  | some p =>
    let st := p.r.status
    if kind = 1 ∧ st.state = .outEmpty then
      g.portTo now { p with
        r.status.wlen := BitVec.ofNat 12 ws.length, r.status.bseq := BitVec.ofNat 15 bseq, r.check := crc, buf := ws } .outFull
    else if kind = 2 ∧ st.state = .inBusy then
      g.portTo now { p with r.status.bseq := st.bseq + 1, r.status.naked := false, buf := [] } .inReady
    else if kind = 3 ∧ st.state = .inBusy then (g.portTo now { p with r.status.naked := true } .inReady).count 5
    else g

/-! ### Register accesses to other nodes (R512, R22) -/

/-- REMOTE_REGISTER_ACCESS (R512): the access travels; to a node that is not present it has no effect. -/
def Gw.regAccess (g : Gw) (c : GCtx) (node ofs : Nat) (write : Bool) (w : Word) : Gw :=
  let ones (g : Gw) : Gw := if write then g else { g with oq := g.oq ++ [.readData node ofs 0xFFFFFFFF] }
  if !g.role || !c.present.contains node then ones g
  else { g with
    rid := (g.rid + 1) % 4096
    reads := g.reads ++ [{ rid := g.rid, node := node, ofs := ofs, write := write, t := c.now }]
    msgs := g.msgs ++ [.reg node g.rid ofs write w] }

/-- REG_RESP (R512, R539). -/
def Gw.regResp (g : Gw) (rid rstat : Nat) (w : Word) : Gw :=
  match g.reads.find? (fun (x : RegAcc) => decide (x.rid = rid)) with
  | none => g
  | some x =>
    let g : Gw := { g with reads := g.reads.filter (fun (y : RegAcc) => decide (y.rid ≠ rid)) }
    let g : Gw := if rstat = 2 then g.count 0 else g
    if x.write then g else { g with oq := g.oq ++ [.readData x.node x.ofs w] }

/-- REMOTE_READ_TIMEOUT (R512). -/
def Gw.readTimeout (g : Gw) (now rid : Nat) : Gw :=
  match g.reads.find? (fun (x : RegAcc) => decide (x.rid = rid)) with
  | none => g
  | some x =>
    if x.t + usNs (10 * (max 100 (min 1000 g.r.ctrl.rdTmo.toNat))) ≤ now then
      let g : Gw := { g with reads := g.reads.filter (fun (y : RegAcc) => decide (y.rid ≠ rid)) }
      if x.write then g else { g.count 1 with oq := g.oq ++ [.readData x.node x.ofs 0xFFFFFFFF] }
    else g

/-! ### Endpoint and role (R509, R510) -/

/-- R509, R517, R538: rings, bindings and attention are cleared. -/
def Gw.clear (g : Gw) : Gw :=
  { g with
    rings := Vector.ofFn (fun (i : Fin 64) => { r := { irq := { vec := BitVec.ofNat 6 i.val } } })
    held := [], out := [], ports := [], reads := [], waitC := [], waitI := [], msgs := []
    r.attn := Vector.replicate 8 0, r.nattn := Vector.replicate 2 0 }

/-- ENDPOINT_RESET (R508, R509): the counts and the configuration space are cleared too. -/
def Gw.reset (g : Gw) : Gw :=
  let g : Gw := g.clear
  { g with
    cnt := Vector.replicate 9 0, refsel := g.r.ctrl.refsel
    r.status.bme := false, r.status.linkUp := false, r.status.speed := 0, r.status.width := 0, r.status.gateway := false
    r.status.refused := false, r.cntData := 0 }

/-- R510: the role as the node and the others stand: with two or more others reporting GATEWAY, the node keeps or takes
it only where fewer than two of them have a lower NID and it holds it already. -/
def Gw.evalRole (g : Gw) (c : GCtx) : Gw :=
  let able := g.r.status.linkUp && c.nid.isSome
  let me := c.nid.getD 64
  let may := if g.role then decide ((c.gws.filter (fun n => decide (n < me))).length < 2) else decide (c.gws.length < 2)
  if able && may then { g with r.status.gateway := true, r.status.refused := false }
  else
    let g' : Gw := if g.role then g.clear else g
    { g' with r.status.gateway := false, r.status.refused := able }

/-- GATEWAY_ROLE_CHANGE (R510): the link enters or leaves L0 and L1, at a speed and width; the role follows. -/
def Gw.linkTo (g : Gw) (c : GCtx) (up : Bool) (speed : BitVec 4) (width : BitVec 2) : Gw :=
  { g with
    r.status.linkUp := up, r.status.speed := if up then speed else 0
    r.status.width := if up then width else 0 }.evalRole c

/-- CNT_SELECT (R544). -/
def Gw.cntSelect (g : Gw) (w : Word) : Gw :=
  let c : BitVec 4 := w.extractLsb' 0 4
  { g with r.cntSel := c, r.cntData := vget g.cnt c.toNat 0 }

/-- The reads of GW_WPk_ registers (R546): a port not bound here reads IDLE. -/
def Gw.portRegs (g : Gw) (node k : Nat) : GwPortRegs :=
  match g.port node k with
  | some p => p.r
  | none => {}

end Sys2Proof.Machine
end

