-- ==== Sys2Proof/Machine/ClkCore.lean ====
section
/-! DEFINITION. Sys2Proof/Machine/ClkCore.lean: the frequency the channel synthesiser commands, its limits and its ramp
walk (R635 to R642). -/

namespace Sys2Proof.Machine

/-- OFS, signed (R635). -/
def Clk.ofs (c : Clk) : Int := c.r.rampNow.ofs.toInt

/-- MULT = CENTRE + OFS (R635). -/
def Clk.mult (c : Clk) : Int := c.centre + c.ofs

/-- R642: the running window in MULT. -/
def multLo : Int := 32883343
def multHi : Int := 34225520

/-- R642: f lies in the running window. -/
def Clk.inWindow (c : Clk) : Bool := decide (multLo ≤ c.mult) && decide (c.mult ≤ multHi)

/-- R636: an offset within ±6 % of CENTRE and MULT at most 34,952,533; the flag says that a limit acted. -/
def Clk.limit (c : Clk) (o : Int) : Int × Bool :=
  let six : Int := (c.centre * 6 / 100 : Nat)
  let x := min (iclamp o (-six) six) (34952533 - c.centre)
  (x, decide (x ≠ o))

/-- OFS replaced. -/
def Clk.setOfs (c : Clk) (o : Int) : Clk := { c with r.rampNow.ofs := BitVec.ofInt 22 o }

/-- R636, R642: an offset asked for comes into force within the limits; `xfer`: the channel transfers power. From outside
the window OFS moves toward the nearer edge at 32,767 LSB per µs. -/
def Clk.applyOfs (c : Clk) (o : Int) (xfer : Bool) : Clk :=
  let edge (m : Int) : Int := iclamp m multLo multHi
  if xfer && !c.inWindow then
    let d := edge c.mult - c.mult
    c.setOfs (c.ofs + iclamp d (-32767) 32767)
  else
    let l := c.limit o
    let m := c.centre + l.1
    if xfer ∧ edge m ≠ m then { (c.setOfs (edge m - c.centre)) with r.status.clamp := true }
    else { (c.setOfs l.1) with r.status.lim := c.r.status.lim || l.2 }

/-- MODE; 3 is taken as OFF (R640, R655). -/
def Clk.mode (c : Clk) : Nat := if c.r.rampCfg.mode = 3 then 0 else c.r.rampCfg.mode.toNat

/-- Segment k. -/
def Clk.seg (c : Clk) (k : Nat) : ClkSeg := vget c.r.seg k {}

/-- R640: a segment of the walk is entered; one with no steps ends the profile. -/
def Clk.enterSeg (c : Clk) (k : Nat) : Option Clk :=
  let n := (c.seg k).steps.toNat
  if n = 0 then none
  else some { c with left := n, r.rampNow.running := true, r.rampNow.seg := BitVec.ofNat 4 k }

/-- R640: what follows the end of the profile: in CYCLIC the walk goes on from LOOP where that segment has steps. -/
def Clk.endProfile (c : Clk) : Clk :=
  let stop : Clk := { c with left := 0, r.rampNow.running := false }
  if c.mode = 2 then (c.enterSeg c.r.rampCfg.loop.toNat).getD stop else stop

/-- R640: the segment in progress has ended. -/
def Clk.nextSeg (c : Clk) : Clk :=
  let k := c.r.rampNow.seg.toNat
  if k = c.r.rampCfg.last.toNat ∨ 15 ≤ k then c.endProfile
  else match c.enterSeg (k + 1) with
    | some c' => c'
    | none => c.endProfile

/-- RAMP_GO (R640, R641, R653). -/
def Clk.rampGo (c : Clk) : Clk :=
  if c.r.status.state ≠ .locked then { c with r.status.wrIgn := true }
  else if c.mode = 0 then c
  else match c.enterSeg 0 with
    | some c' => c'
    | none => c.endProfile

/-- RAMP_STOP (R641). -/
def Clk.rampStop (c : Clk) : Clk := { c with left := 0, r.rampNow.running := false }

/-- RAMP_STEP (R640, R642): one microsecond of site time. -/
def Clk.rampStep (c : Clk) (xfer : Bool) : Clk :=
  if c.r.status.state ≠ .locked then c
  else if c.r.rampNow.running then
    let c := c.applyOfs (c.ofs + (c.seg c.r.rampNow.seg.toNat).delta.toInt) xfer
    if c.left ≤ 1 then c.nextSeg else { c with left := c.left - 1 }
  else if xfer && !c.inWindow then c.applyOfs c.ofs true
  else c

end Sys2Proof.Machine
end

