-- ==== Sys2Proof/Machine/Pwm.lean ====
section
/-! DEFINITION. Sys2Proof/Machine/Pwm.lean: the phase modulator and converter string (spec/02_phase_modulator.md). -/

namespace Sys2Proof.Machine

/-! ### Sets of phases (R63) -/

/-- The configured phases. -/
def Pwm.cfg (p : Pwm) : BitVec 24 := p.r.phaseCfg

/-- The enabled phases: configured and not retired (R63). -/
def Pwm.enabled (p : Pwm) : BitVec 24 := p.r.phaseCfg &&& ~~~p.r.retire

/-- N_en. -/
def Pwm.nEn (p : Pwm) : Nat := mcount p.enabled

/-- A phase that is switching, fades and ramps included. -/
def PhaseSt.isOn (x : PhaseSt) : Bool := x.act ≠ .off && x.act ≠ .ending

/-- A phase in a fade-out. -/
def PhaseSt.fading (x : PhaseSt) : Bool := x.act = .fade1 || x.act = .fade2 || x.act = .fade3

/-- A phase in an add ramp. -/
def PhaseSt.adding (x : PhaseSt) : Bool := x.act = .add1 || x.act = .add2 || x.act = .add3

/-- Phase k. -/
def Pwm.phase (p : Pwm) (k : Nat) : PhaseSt := vget p.ph k {}

/-- N_act. -/
def Pwm.nAct (p : Pwm) : Nat := (p.ph.toList.filter PhaseSt.isOn).length

/-- N_keep: active phases not in a fade-out (R93). -/
def Pwm.nKeep (p : Pwm) : Nat := (p.ph.toList.filter (fun (x : PhaseSt) => x.isOn && !x.fading)).length

/-- PWM_STATUS.FADING: a fade-out or an add ramp is in progress. -/
def Pwm.fading (p : Pwm) : Bool := p.ph.toList.any (fun (x : PhaseSt) => x.fading || x.adding)

/-- PWM_STATUS.SLEWING: an offset or anchor correction is in progress (R78). -/
def Pwm.slewing (p : Pwm) : Bool := p.ph.toList.any (fun (x : PhaseSt) => x.isOn && !x.atGoal)

/-- The modulator's derived status fields brought up to date (R109, R115). -/
def Pwm.view (p : Pwm) : Pwm :=
  { p with
    r.status.slewing := p.slewing
    r.status.fading := p.fading
    r.status.nEn := BitVec.ofNat 5 p.nEn
    r.status.nAct := BitVec.ofNat 5 p.nAct
    r.active := (vIdx p.ph (fun _ (x : PhaseSt) => x.isOn)).foldl (fun m k => msetb m k true) 0 }

/-- A group with an enabled phase (R82). -/
def Pwm.groupEn (p : Pwm) (g : Nat) : Bool := (List.range 4).any (fun j => mbit p.enabled (4 * g + j))

/-! ### Telemetry (R87) -/

/-- R87: current and temperature frames of the phase within the last 10 ms. -/
def PhaseSt.telValid (x : PhaseSt) (now : Nat) : Bool :=
  match x.tI, x.tT with
  | some a, some b => now < a + msNs 10 && now < b + msNs 10
  | _, _ => false

/-- R87: every enabled phase of the group has valid telemetry (a group without an enabled phase shows 0, as the
reset value does). -/
def Pwm.telGroupOk (p : Pwm) (now g : Nat) : Bool :=
  p.groupEn g && (List.range 4).all (fun j => !mbit p.enabled (4 * g + j) || (p.phase (4 * g + j)).telValid now)

/-- TEL_OK and TEL_LOST brought up to date (R87). -/
def Pwm.telView (p : Pwm) (now : Nat) : Pwm :=
  let ok := (List.range 6).foldl (fun (m : BitVec 6) g => msetb m g (p.telGroupOk now g)) 0
  let live := p.r.status.state = .ready || p.r.status.state = .run
  let lost := if live then p.r.telStatus.telOk &&& ~~~ok else 0
  { p with r.telStatus.telOk := ok, r.telStatus.telLost := p.r.telStatus.telLost ||| lost }

/-! ### Offsets and anchors (R75 to R81) -/

/-- R77: the target of θ, 0.01°. -/
def Pwm.thetaTgt (p : Pwm) : Nat :=
  if p.r.ctrl.syncSrc = false ∧ p.r.ctrl.ofsSrc = false then p.thGrant % 36000 else p.r.offset.ofsHost.toNat % 36000

/-- The spread set, ascending (R75). -/
def Pwm.spread (p : Pwm) : List Nat := vIdx p.ph (fun _ (x : PhaseSt) => x.isOn)

/-- R75: the target ψ of phase k, 0.01°. -/
def Pwm.psiTgt (p : Pwm) (k : Nat) : Nat :=
  let sp := p.spread
  let r := (sp.filter (· < k)).length
  (divHE ((r : Int) * 36000) (max 1 sp.length)).toNat % 36000

/-- R78: the change from a to b by the shorter way round, 0.01°; exactly 180° lengthens. -/
def shortWay (a b : Nat) : Int :=
  let d : Int := ((b : Int) - a) % 36000
  if 18000 < d then d - 36000 else d

/-- R76: an anchor instant of offset φ on a period, taps: the position of the grid. -/
def Pwm.grid (p : Pwm) (phi per : Nat) : Int :=
  let base : Int := if p.r.ctrl.syncSrc then p.psLast.getD 0 else 0
  base + divHE ((phi : Int) * per) 36000

/-- The anchor instant nearest to a position. -/
def Pwm.anchorNear (p : Pwm) (phi per : Nat) (x : Int) : Int :=
  let m := (x - p.grid phi per) % (max 1 per : Nat)
  if 2 * m ≤ per then x - m else x - m + per

/-- The first anchor instant at or after a position (R79). -/
def Pwm.anchorFrom (p : Pwm) (phi per : Nat) (x : Int) : Int := x + (p.grid phi per - x) % (max 1 per : Nat)

/-- SPREAD_SLEW in whole degrees: values outside 1 to 45 are taken as 45 (R117). -/
def Pwm.slew (p : Pwm) : Nat :=
  let v := p.r.sync.spreadSlew.toNat
  if 1 ≤ v ∧ v ≤ 45 then v else 45

/-- R71: one step of the period toward its target, at most 0.1 %. -/
def perStep (per tgt : Nat) : Nat :=
  let d := per / 1000
  if per < tgt then min tgt (per + d) else max tgt (per - d)

/-- The period applied at a carrier start (R71, R81). -/
def Pwm.perNext (p : Pwm) (x : PhaseSt) : Nat :=
  let tgt := p.r.period.toNat
  if p.r.ctrl.syncSrc ∧ (p.r.status.syncState = .pulling ∨ p.r.status.syncState = .locked) then p.extPer
  else perStep x.per tgt

/-! ### Edges (R66, R67) -/

/-- R66: the edges of a period of T taps at duty D. -/
def edgesAt (T dtLH dtHL D : Nat) : Edges :=
  let e1 := (divHE ((65536 - D : Int) * T) 131072).toNat
  let e2 := (divHE ((65536 + D : Int) * T) 131072).toNat
  { lFall := e1, hRise := e1 + dtLH, hFall := e2, lRise := e2 + dtHL, supp := false }

/-- The PWML on-time of a period in whole taps from its edges (R67). -/
def lOn (T : Nat) (e : Edges) : Int := (T : Int) - e.lRise + e.lFall

/-- R67: the largest duty from a start value down whose PWML on-time is at least MIN_PULSE. -/
def lowerDuty (T dtLH dtHL minP : Nat) : Nat → Nat → Nat
  | 0, _ => 0
  | n + 1, d => if (minP : Int) ≤ lOn T (edgesAt T dtLH dtHL d) then d else lowerDuty T dtLH dtHL minP n (d - 1)

/-- R66, R67: the edges of a period of actual length T with latched duty D: the duty lowered for the period where
PWML would be too short, the PWMH pulse suppressed where it would be too short. -/
def edgesOf (T dtLH dtHL minP D : Nat) : Edges :=
  let short := (65536 - D : Int) * T < ((dtHL + minP : Nat) : Int) * 65536
  let top := min D (((T - dtHL - minP) * 65536) / (max 1 T) + 4)
  let D' := if short then lowerDuty T dtLH dtHL minP 16 top else D
  let e := edgesAt T dtLH dtHL D'
  if (D' * T : Int) < ((dtLH + minP : Nat) : Int) * 65536 then { e with supp := true } else e

/-! ### Number of active phases (R90 to R98) -/

/-- R94: THR_N of the table, A. -/
def Pwm.thrTbl (p : Pwm) (n : Nat) : Nat :=
  if n ≤ 1 then 0
  else
    let w := vget p.r.shedTbl ((n - 1) / 2) {}
    if n % 2 = 0 then w.thrHi.toNat else w.thrLo.toNat

/-- R94: the table is monotonic up to the number of configured phases. -/
def Pwm.monotonic (p : Pwm) : Bool :=
  (List.range (mcount p.cfg - 1)).all (fun i => p.thrTbl (i + 1) + p.r.shedCfg.hyst.toNat ≤ p.thrTbl (i + 2))

/-- How the number of active phases is chosen (R90, R96): `auto`: the channel-autonomy rules are in force. -/
inductive ShedMode where
  | off | table | map | last
  deriving DecidableEq, Repr

/-- R90: the mode in force. -/
def Pwm.mode (p : Pwm) (auto : Bool) : ShedMode :=
  if p.r.shedCfg.mode = 0 then .off
  else if p.r.shedCfg.mode = 1 then .table
  else if p.r.shedCfg.mode = 2 then .map
  else if auto then (if p.r.shedCfg.fallback then .map else .table) else .last

/-- The threshold in use for N phases, A (R92, R95). -/
def Pwm.thr (p : Pwm) (m : ShedMode) (n : Nat) : Nat :=
  if m = .map then
    match vget p.thrMap n none with
    | some t => t.toNat
    | none => p.thrTbl n
  else p.thrTbl n

/-- The hard floor ceil(I_dem / PH_IMAX), capped at N_en (R73, R93). -/
def Pwm.floorN (p : Pwm) : Nat := min (ceilNat (p.iDem / (max 1 p.r.shedLim.phImax.toNat : Nat))) p.nEn

/-- min(N_MIN, N_en) (R92, R104). -/
def Pwm.nMin (p : Pwm) : Nat := min p.r.shedCfg.nMin.toNat p.nEn

/-- R96: N_t. -/
def Pwm.nTgt (p : Pwm) : Nat := max p.floorN (max p.nMin (min p.nRec p.nEn))

/-- The add condition of R92 or R96. -/
def Pwm.addCond (p : Pwm) (m : ShedMode) : Bool :=
  match m with
  | .off => false
  | .last => p.nAct < p.nTgt
  | _ => p.nAct < p.nEn && decide ((p.thr m (p.nAct + 1) : Rat) < p.iDem)

/-- The shed condition of R92 or R96. -/
def Pwm.shedCond (p : Pwm) (m : ShedMode) : Bool :=
  match m with
  | .off => false
  | .last => p.nTgt < p.nAct
  | _ => p.nMin < p.nAct && decide (p.iDem < (p.thr m p.nAct : Rat) - (p.r.shedCfg.hyst.toNat : Rat))

/-- R97: the dwell timers judged: at zero while FADING or SLEWING is 1, running while their condition holds. -/
def Pwm.dwell (p : Pwm) (now : Nat) (auto : Bool) : Pwm :=
  let m := p.mode auto
  let idle := p.r.status.state = .run && !p.fading && !p.slewing
  let keep (c : Bool) (s : Option Nat) : Option Nat := if idle && c then some (s.getD now) else none
  { p with upSince := keep (p.addCond m) p.upSince, dnSince := keep (p.shedCond m) p.dnSince }

/-- R97: the dwell timers reset. -/
def Pwm.dwellReset (p : Pwm) : Pwm := { p with upSince := none, dnSince := none }

/-- The better of two phases in the order in which phases are restored (R98): valid telemetry first, then the lower
temperature, then the lower number. -/
def Pwm.cooler (p : Pwm) (now a b : Nat) : Bool :=
  let va := (p.phase a).telValid now
  let vb := (p.phase b).telValid now
  if va ≠ vb then va
  else if va ∧ (p.phase a).temp ≠ (p.phase b).temp then (p.phase a).temp < (p.phase b).temp
  else a < b

/-- The first of a list of phases in the order of R98 (restoring). -/
def Pwm.coolest (p : Pwm) (now : Nat) : List Nat → Option Nat
  | [] => none
  | k :: ks =>
    match p.coolest now ks with
    | none => some k
    | some j => if p.cooler now k j then some k else some j

/-- The first of a list of phases in the order of R98 (shedding): without valid telemetry first, then the highest
temperature, then the highest number. -/
def Pwm.hottest (p : Pwm) (now : Nat) : List Nat → Option Nat
  | [] => none
  | k :: ks =>
    match p.hottest now ks with
    | none => some k
    | some j => if p.cooler now k j then some j else some k

/-- Enabled phases that are shed (R63). -/
def Pwm.shedSet (p : Pwm) : List Nat := vIdx p.ph (fun k (x : PhaseSt) => mbit p.enabled k && !x.isOn)

/-- The period of the running carriers; PERIOD where none runs. -/
def Pwm.perRef (p : Pwm) : Nat :=
  match p.ph.toList.find? PhaseSt.isOn with
  | some x => x.per
  | none => p.r.period.toNat

/-- R79: phase k becomes active with an activity, at its target place in the spread that includes it; its first
carrier start is the first anchor instant of its total offset at or after the decision. -/
def Pwm.activate (p : Pwm) (now : Int) (k : Nat) (a : PhAct) : Pwm :=
  let th := p.r.offset.ofsApplied.toNat
  let per := p.perRef
  let q := { p with ph := vMod p.ph k (fun (x : PhaseSt) => { x with act := a, ret := false, base := none }) }
  let psi := q.psiTgt k
  let x0 := q.anchorFrom ((th + psi) % 36000) per now
  { q with ph := vMod q.ph k (fun (x : PhaseSt) => 
      { x with
        psi := psi, theta := th, per := per, next := x0, start := x0, err := 0
        atGoal := true }) }

/-- Phases whose ψ no longer is the target of the present spread are not at their goal (R78, R79). -/
def Pwm.goals (p : Pwm) : Pwm :=
  let th := p.thetaTgt
  { p with ph := vMapI p.ph (fun k x =>
      if x.isOn then
        { x with atGoal := x.atGoal && (x.fading || x.psi = p.psiTgt k) && x.theta = th }
      else { x with atGoal := true }) }

/-- R100: one phase is added. -/
def Pwm.addOne (p : Pwm) (e : Env) : Pwm :=
  match p.coolest e.now p.shedSet with
  | some k => ((p.activate e.taps k .add1).goals).dwellReset
  | none => p

/-- R99: one phase begins its fade-out. -/
def Pwm.shedOne (p : Pwm) (e : Env) : Pwm :=
  let cand := vIdx p.ph (fun _ (x : PhaseSt) => x.act = .on)
  match p.hottest e.now cand with
  | some k =>
    if p.nKeep ≤ p.floorN then p
    else ({ p with ph := vMod p.ph k (fun (x : PhaseSt) => { x with act := .fade1, ret := false, base := none }) }).dwellReset
  | none => p

/-- R93, R101: fades that are not for retirement are reversed and shed phases restored, in the order of R98, until
N_keep reaches a number. -/
def Pwm.restoreTo (p : Pwm) (e : Env) (n : Nat) : Nat → Pwm
  | 0 => p
  | fuel + 1 =>
    if n ≤ p.nKeep then p
    else
      match p.coolest e.now (vIdx p.ph (fun _ (x : PhaseSt) => x.fading && !x.ret)) with
      | some k => ({ p with ph := vMod p.ph k (fun (x : PhaseSt) => { x with act := .on, base := none }) }).restoreTo e n fuel
      | none =>
        match p.coolest e.now p.shedSet with
        | some k => (p.activate e.taps k .on).restoreTo e n fuel
        | none => p

/-- R93: the hard floor holds: N_keep is raised to it at once. -/
def Pwm.hardFloor (p : Pwm) (e : Env) : Pwm :=
  if p.r.status.state = .run ∧ p.nKeep < p.floorN then ((p.restoreTo e p.floorN 48).goals).dwellReset else p

/-- R101: a load-step restore. -/
def Pwm.loadStep (p : Pwm) (e : Env) : Pwm :=
  if p.r.status.state ≠ .run then p
  else
    let q := p.restoreTo e p.nEn 48
    let q := { q with ph := q.ph.map (fun (x : PhaseSt) => if x.adding then { x with act := .on } else x) }
    ({ q.goals.dwellReset with r.status.ls := true })

/-! ### States (R69 to R74) -/

/-- R69: the configuration check. -/
def Pwm.check (p : Pwm) : Bool :=
  let per := p.r.period.toNat
  let dmax := p.r.dutyLim.dMax.toNat
  let m := p.r.shedCfg.mode
  decide (32000 ≤ per) && decide (per ≤ 320000)
  && decide (p.r.deadtime.dtLh.toNat ≤ 12800) && decide (p.r.deadtime.dtHl.toNat ≤ 12800)
  && decide (dmax ≤ 64225) && decide (p.r.dutyLim.dMin.toNat < dmax)
  && decide ((p.r.deadtime.dtHl.toNat + p.r.minpulse.toNat) * 65536 ≤ (65536 - dmax) * per)
  && decide (p.r.minpulse.toNat ≤ 3200)
  && decide (1 ≤ p.nEn)
  && decide (16 ≤ p.r.gsync.gdiv.toNat) && decide (p.r.gsync.gdiv.toNat ≤ 400)
  && decide (p.r.shedCfg.tau ≠ 7)
  && decide (p.r.imbCfg.thr.toNat < p.r.imbCfg.retThr.toNat)
  && (!(decide (m = 1) || (decide (m = 3) && !p.r.shedCfg.fallback)) || p.monotonic)

/-- R69, R72: ARM is set. In DISABLED the check is made; in HOLD the write is kept; elsewhere it only holds the
bit. -/
def Pwm.arm (p : Pwm) : Pwm :=
  let p := { p with r.ctrl.arm := true }
  if p.r.status.state = .disabled then
    if p.check then
      { p with r.status.state := .ready, r.status.cfgErr := false,
               ph := p.ph.map (fun (x : PhaseSt) => { x with per := p.r.period.toNat }) }
    else { p with r.status.cfgErr := true }
  else p

/-- READY becomes DISABLED when ARM is clear and no phase has a period left to end (R72). -/
def Pwm.readyEnd (p : Pwm) : Pwm :=
  if p.r.status.state = .ready ∧ p.r.ctrl.arm = false ∧ p.ph.toList.all (fun (x : PhaseSt) => x.act = .off) then
    { p with r.status.state := .disabled }
  else p

/-- R72: RUN ends in READY; each phase goes low at its next carrier start. -/
def Pwm.stop (p : Pwm) : Pwm :=
  if p.r.status.state = .run then
    (({ p with r.status.state := .ready,
               ph := p.ph.map (fun (x : PhaseSt) => if x.isOn then { x with act := .ending, ret := false, base := none } else x) }
      ).dwellReset).readyEnd.view
  else p

/-- R72: ARM is cleared. -/
def Pwm.disarm (p : Pwm) : Pwm :=
  let p := { p with r.ctrl.arm := false }
  match p.r.status.state with
  | .run => p.stop
  | .ready => p.readyEnd
  | .tripped => { p with r.status.state := .disabled }
  | _ => p

/-- R73: N_start. -/
def Pwm.nStart (p : Pwm) : Nat :=
  if p.r.shedCfg.mode = 0 then p.nEn else max p.nMin p.floorN

/-- The lowest-ranked enabled phases of R98 that start RUN. -/
def Pwm.startSet (p : Pwm) (now : Nat) : Nat → List Nat → List Nat
  | 0, _ => []
  | n + 1, ks =>
    match p.coolest now ks with
    | some k => k :: p.startSet now n (ks.filter (· ≠ k))
    | none => []

/-- R72: entry to RUN: N_start phases become active at their target places. -/
def Pwm.run (p : Pwm) (e : Env) : Pwm :=
  let p := { p with ph := p.ph.map (fun (x : PhaseSt) => { x with act := .off, ret := false, base := none }),
                    r.offset.ofsApplied := BitVec.ofNat 16 p.thetaTgt }
  let ks := p.startSet e.now p.nStart p.shedSet
  let q := { p with ph := vMapI p.ph (fun k (x : PhaseSt) => if ks.contains k then { x with act := .on } else x) }
  let q := ks.foldl (fun (q : Pwm) k => q.activate e.taps k .on) q
  ({ q with r.status.state := .run }).dwellReset.view

/-- R72: a relock begins: HOLD from DISABLED, READY or TRIPPED. -/
def Pwm.hold (p : Pwm) : Pwm :=
  match p.r.status.state with
  | .disabled | .ready | .tripped =>
    { p with holdFrom := p.r.status.state, r.status.state := .hold, ph := p.ph.map (fun (x : PhaseSt) => { x with act := .off }) }.view
  | _ => p

/-- No PWM_TRIP bit is set. -/
def Pwm.noTrip (p : Pwm) : Bool :=
  !p.r.trip.shank && !p.r.trip.ring && !p.r.trip.ocp && decide (p.r.trip.gflt = 0)

/-- R72: a relock completes: HOLD ends, and a kept write of ARM is acted on. -/
def Pwm.unhold (p : Pwm) : Pwm :=
  if p.r.status.state ≠ .hold then p
  else if p.r.ctrl.arm = false then { p with r.status.state := .disabled }
  else
    match p.holdFrom with
    | .disabled => ({ p with r.status.state := .disabled }).arm
    | .tripped => { p with r.status.state := if p.noTrip then .ready else .tripped }
    | f => { p with r.status.state := f }

/-- The sources of a trip (R84). -/
inductive TripSrc where
  | gflt (g : Nat) | ocp | ring | shank
  deriving DecidableEq, Repr

/-- R84: in RUN a trip source latches its bit and every land goes low. The answer's flag says that the modulator
entered TRIPPED. -/
def Pwm.trip (p : Pwm) (src : TripSrc) : Pwm × Bool :=
  if p.r.status.state ≠ .run then (p, false)
  else
    let p := match src with
      | .gflt g => { p with r.trip.gflt := msetb p.r.trip.gflt g true }
      | .ocp => { p with r.trip.ocp := true }
      | .ring => { p with r.trip.ring := true }
      | .shank => { p with r.trip.shank := true }
    (({ p with r.status.state := .tripped, r.tripCnt := satInc p.r.tripCnt,
               ph := p.ph.map (fun (x : PhaseSt) => { x with act := .off, ret := false, base := none }) }).dwellReset.view, true)

/-- R85, R53: PWM_TRIP bits are cleared; a bit whose source is still present sets again; TRIPPED with no bit left
becomes READY. `inh`: Shank's gate inhibit is present. -/
def Pwm.tripClear (p : Pwm) (w : BitVec 32) (inh : Bool) : Pwm :=
  let t := p.r.trip.write w
  let gnow := (List.range 6).foldl (fun (m : BitVec 6) g => msetb m g (mbit p.gflt g && p.groupEn g)) 0
  let t := { t with gflt := t.gflt ||| (p.r.trip.gflt &&& gnow), ocp := t.ocp || (p.r.trip.ocp && p.oc),
                    shank := t.shank || (p.r.trip.shank && inh) }
  let p := { p with r.trip := t }
  if p.r.status.state = .tripped ∧ p.noTrip then { p with r.status.state := .ready } else p

/-! ### Synchronisation (R76, R81) -/

/-- R81: SYNC_STATE judged: the rows that need no carrier start. -/
def Pwm.syncBase (p : Pwm) (siteValid : Bool) : Pwm :=
  let st := p.r.status.syncState
  if p.r.ctrl.syncSrc = false then
    if siteValid then (if st = .own then { p with r.status.syncState := .pulling } else p)
    else if st = .locked ∨ st = .pulling then { p with r.status.syncState := .own } else p
  else if (st = .own ∨ st = .holdover) ∧ 4 ≤ p.psRun then { p with r.status.syncState := .pulling }
  else p

/-- R81: SYNC_STATE judged at a carrier start. -/
def Pwm.syncJudge (p : Pwm) (siteValid : Bool) : Pwm :=
  let p := p.syncBase siteValid
  match p.r.status.syncState with
  | .pulling =>
    if !p.slewing ∧ p.ph.toList.all (fun (x : PhaseSt) => !x.isOn || decide (x.err.natAbs * 36000 ≤ 10 * x.per)) then
      { p with r.status.syncState := .locked }
    else p
  | .holdover =>
    if p.ph.toList.all (fun (x : PhaseSt) => !x.isOn || decide (x.per = p.r.period.toNat)) then
      { p with r.status.syncState := .own }
    else p
  | _ => p

/-- R81: SYNC_SRC is written. -/
def Pwm.setSyncSrc (p : Pwm) (b siteValid : Bool) : Pwm :=
  ({ p with r.ctrl.syncSrc := b, r.status.syncState := .own, psLast := none, psRun := 0 }).syncBase siteValid

/-- R81: an edge of CHn_PSYNC arrives. -/
def Pwm.psyncEdge (p : Pwm) (e : Env) (rising : Bool) : Pwm :=
  if p.r.ctrl.syncSrc = false ∨ rising = p.r.sync.extPol then p
  else
    match p.psLast with
    | none => { p with psLast := some e.taps, psRun := 1 }
    | some a =>
      let d := e.taps - a
      let per : Int := p.r.period.toNat
      if (d - per).natAbs * 100 ≤ 2 * per.natAbs then
        ({ p with psLast := some e.taps, psRun := p.psRun + 1, extPer := d.toNat }).syncBase e.siteValid
      else p

/-- R81: no accepted edge within 1.5 P of the last one. -/
def Pwm.psyncTimeout (p : Pwm) (e : Env) : Pwm :=
  match p.psLast with
  | none => p
  | some a =>
    if 3 * (p.r.period.toNat : Int) ≤ 2 * (e.taps - a) then
      let q := { p with psLast := none, psRun := 0 }
      if p.r.ctrl.syncSrc ∧ (p.r.status.syncState = .locked ∨ p.r.status.syncState = .pulling) then
        { q with r.status.syncState := .holdover,
                 ph := q.ph.map (fun (x : PhaseSt) => if x.isOn then { x with per := q.extPer } else x) }
      else q
    else p

/-! ### A carrier start (R66 to R68, R78, R99, R100) -/

/-- R68: the duty a phase latches at a carrier start: the newest value written at least 2.5 ns before it, clamped. -/
def Pwm.common (p : Pwm) (s : Int) : BitVec 16 :=
  let d := if p.dutyAt + 16 ≤ s then p.r.duty else p.dutyPrev
  BitVec.ofNat 16 (max p.r.dutyLim.dMin.toNat (min d.toNat p.r.dutyLim.dMax.toNat))

/-- A third, or two thirds, of a duty, rounded (R99, R100). -/
def dutyPart (n : Nat) (d : BitVec 16) : BitVec 16 := toU 16 (divHE ((n : Int) * d.toNat) 3)

/-- The duty latched at a start, and the activity after it (R99, R100); none: the phase goes low. -/
def PhaseSt.latch (x : PhaseSt) (d : BitVec 16) : Option (BitVec 16) × PhAct :=
  let b := x.base.getD d
  match x.act with
  | .on => (some d, .on)
  | .add1 => (some (dutyPart 1 d), .add2)
  | .add2 => (some (dutyPart 2 d), .add3)
  | .add3 => (some d, .on)
  | .fade1 => (some (dutyPart 2 b), .fade2)
  | .fade2 => (some (dutyPart 1 b), .fade3)
  | .fade3 | .ending | .off => (none, .off)

/-- One carrier start of an active phase: the duty latched, one correction step, the edges of the period. -/
def Pwm.stepPhase (p : Pwm) (k : Nat) : Pwm :=
  let x := p.phase k
  let s := x.next
  match x.latch (p.common s) with
  | (none, a) =>
    { p with ph := vMod p.ph k (fun (x : PhaseSt) => 
        { x with
          act := a, ret := false, base := none, start := s, duty := 0
          edges := {}, atGoal := true }) }.goals
  | (some d, a) =>
    let per := p.perNext x
    let thT := p.thetaTgt
    let psT := if x.fading then x.psi else p.psiTgt k
    let dPsi := iclamp (shortWay x.psi psT) (-(100 * p.slew : Nat)) (100 * p.slew : Nat)
    let dTh := iclamp (shortWay x.theta thT) (-100) 100
    let psi := ((x.psi + dPsi) % 36000).toNat
    let th := ((x.theta + dTh) % 36000).toNat
    let nom := s + per + divHE ((dPsi + dTh) * per) 36000
    let anchored := p.r.status.syncState = .pulling ∨ p.r.status.syncState = .locked
    let full := if anchored then p.anchorNear ((psi + th) % 36000) per nom - nom else 0
    let room : Int := ((100 - dTh.natAbs) * per : Nat) / 36000
    let corr := iclamp full (-room) room
    let nx := nom + corr
    let err := if anchored then p.anchorNear ((psT + thT) % 36000) per nx - nx else 0
    let T := (nx - s).toNat
    let e := edgesOf T p.r.deadtime.dtLh.toNat p.r.deadtime.dtHl.toNat p.r.minpulse.toNat d.toNat
    { p with
      r.offset.ofsApplied := BitVec.ofNat 16 th
      ph := vMod p.ph k (fun (x : PhaseSt) => 
        { x with
          act := a, base := (if a = .off then none else x.base), psi := psi, theta := th
          per := per, start := s, next := nx, duty := d, edges := e, err := err
          atGoal := decide (psi = psT ∧ th = thT ∧ corr = full) }) }

/-- R68: a carrier start of phase k. In READY and TRIPPED only the period moves (R71). -/
def Pwm.carrierStart (p : Pwm) (e : Env) (k : Nat) (auto : Bool) : Pwm :=
  match p.r.status.state with
  | .run =>
    if (p.phase k).act ≠ .off then (((p.stepPhase k).syncJudge e.siteValid).dwell e.now auto).view else p
  | .ready | .tripped =>
    let q := if (p.phase k).act = .ending then p.stepPhase k
      else { p with ph := vMod p.ph k (fun (x : PhaseSt) => { x with per := p.perNext x }) }
    q.readyEnd.view
  | .disabled => if (p.phase k).act = .ending then (p.stepPhase k).view else p
  | _ => p

/-! ### Retirement (R103 to R105) -/

/-- R103: retirement of phase k is requested. -/
def Pwm.retireReq (p : Pwm) (k : Nat) : Pwm :=
  if mbit p.r.retire k then p
  else if !mbit p.cfg k ∨ (mbit p.enabled k ∧ p.nEn ≤ 1) then { p with r.status.retRef := true }
  else
    let p := { p with r.retire := msetb p.r.retire k true }
    let x := p.phase k
    if x.act = .on then { p with ph := vMod p.ph k (fun (x : PhaseSt) => { x with act := .fade1, ret := true, base := none }) }
    else if x.adding then
      { p with ph := vMod p.ph k (fun (x : PhaseSt) => { x with act := .fade1, ret := true, base := some x.duty }) }
    else if x.fading then { p with ph := vMod p.ph k (fun (x : PhaseSt) => { x with ret := true }) }
    else p

/-- R105: phase k returns to service by a write of 0 in DISABLED or READY; elsewhere the write is ignored. -/
def Pwm.retireClr (p : Pwm) (k : Nat) : Pwm :=
  if !mbit p.r.retire k then p
  else if p.r.status.state = .disabled ∨ p.r.status.state = .ready then { p with r.retire := msetb p.r.retire k false }
  else { p with r.status.wrIgn := true }

/-- A write of PWM_RETIRE: bits judged one by one, ascending (R103, R105). -/
def Pwm.retireWrite (p : Pwm) (w : BitVec 24) : Pwm :=
  ((List.range 24).foldl (fun (p : Pwm) k => if mbit w k then p.retireReq k else p.retireClr k) p).view

/-! ### Imbalance (R88, R89) -/

/-- A phase at full duty with valid telemetry (R88). -/
def PhaseSt.judged (x : PhaseSt) (now : Nat) : Bool := x.act = .on && x.telValid now && decide (0 < x.cnt)

/-- R88, R89: the end of an imbalance window. The answer's list names the phases whose retirement is requested. -/
def Pwm.imbWindow (p : Pwm) (now : Nat) : Pwm :=
  let ph := p.ph.map (fun (x : PhaseSt) => { x with iAvg := if x.cnt = 0 then x.iAvg else divHE x.sum x.cnt })
  let js := vIdx ph (fun _ (x : PhaseSt) => x.judged now)
  let tot : Rat := (js.map (fun k => ((vget ph k {}).sum : Rat) / ((vget ph k {}).cnt : Rat))).foldl (· + ·) 0
  let mean : Rat := tot / (max 1 js.length : Nat)
  let lim : Rat := (p.r.shedLim.phImax.toNat : Rat) * 100 / 10
  let comp := 2 ≤ js.length ∧ lim ≤ rabs mean
  let ph' := vMapI ph (fun k x =>
    let x' :=
      if comp ∧ js.contains k then
        let ek : Rat := ((x.sum : Rat) / (x.cnt : Rat) - mean) / mean * 100
        { x with imb := roundHE (ek * 10),
                 runThr := if (p.r.imbCfg.thr.toNat : Rat) < rabs ek then x.runThr + 1 else 0,
                 runRet := if (p.r.imbCfg.retThr.toNat : Rat) < rabs ek then x.runRet + 1 else 0 }
      else x
    { x' with sum := 0, cnt := 0 })
  let n := p.r.imbCfg.cnt.toNat
  let flag := (vIdx ph' (fun k (x : PhaseSt) => comp && js.contains k && decide (n ≤ x.runThr))).foldl (fun m k => msetb m k true) p.r.imbFlag
  let rets := vIdx ph' (fun k (x : PhaseSt) => comp && js.contains k && p.r.imbCfg.autoRet && decide (n ≤ x.runRet))
  let p := { p with ph := ph', r.imbFlag := flag, tImb := now }
  (rets.foldl (fun (p : Pwm) k => p.retireReq k) p).view

/-- R87: a telemetry frame of group g, 40 bits as R86 lays them out. -/
def Pwm.telFrame (p : Pwm) (now g : Nat) (f : BitVec 40) : Pwm :=
  let body := [f.extractLsb' 24 8, f.extractLsb' 16 8, f.extractLsb' 8 8, f.extractLsb' 0 8]
  if crc8 body ≠ f.extractLsb' 32 8 then { p with r.telStatus.crcErr := satInc p.r.telStatus.crcErr }
  else
    let sq := f.extractLsb' 20 8
    if vget p.gtSeq g none = some sq then p
    else
      let k := 4 * g + (f.extractLsb' 0 2).toNat
      let v := (f.extractLsb' 4 16).toInt
      let ty := f.extractLsb' 2 2
      let upd (x : PhaseSt) : PhaseSt :=
        let x := { x with drvUv := f.getLsbD 29, drvOt := f.getLsbD 30 }
        if ty = 0 then { x with cur := v, tI := some now, sum := x.sum + v, cnt := x.cnt + 1 }
        else if ty = 1 then { x with temp := v, tT := some now }
        else x
      let p := { p with gtSeq := vset p.gtSeq g (some sq) }
      if ty = 2 ∨ ty = 3 then p else ({ p with ph := vMod p.ph k upd }).telView now

/-! ### Thresholds from the efficiency map (R95) -/

/-- Efficiency at a power per phase from valid bins (VALID, ETA), interpolated between bin centres; none where a bin
needed is not valid. Powers in units of half a bin width: bin j has its centre at 2 j + 1. -/
def etaAt (bins : List (Option Nat)) (x : Rat) : Option Rat :=
  let j := ((x - 1) / 2).floor
  if x < 1 then none
  else
    let jn := j.toNat
    let fr : Rat := (x - (2 * jn + 1 : Nat)) / 2
    match bins.getD jn none with
    | none => none
    | some a =>
      if fr = 0 then some ((a : Rat) / 65536)
      else match bins.getD (jn + 1) none with
        | none => none
        | some b => some (((a : Rat) + ((b : Rat) - a) * fr) / 65536)

/-- R95 step 1: the loss at total power P with n phases, in the unit of P. -/
def lossAt (bins : List (Option Nat)) (P : Rat) (n : Nat) : Option Rat :=
  match etaAt bins (P / n) with
  | none => none
  | some e => if e = 0 then none else some (P * (1 / e - 1))

/-- R95 step 2: the smallest N p_j at which L_N ≤ L_(N−1); none where a bin needed is not valid or there is no such
power. -/
def crossAt (bins : List (Option Nat)) (n : Nat) : List Nat → Option Rat
  | [] => none
  | j :: js =>
    let P : Rat := (n * (2 * j + 1) : Nat)
    match lossAt bins P n, lossAt bins P (n - 1) with
    | some a, some b => if a ≤ b then some P else crossAt bins n js
    | _, _ => none

/-- R95 steps 3 and 4: THR_N from the map, A. `halfBin`: half a bin width in W; `v`: V_out in V. -/
def thrFromMap (bins : List (Option Nat)) (halfBin v : Rat) (n : Nat) : Option Nat :=
  if v ≤ 0 then none
  else match crossAt bins n (List.range 32) with
    | some P => some (satU 12 (roundHE (P * halfBin / v)))
    | none => none

/-- R95: the thresholds derived again, each raised where necessary to THR_(N−1) + HYST. -/
def Pwm.replan (p : Pwm) (now : Nat) (bins : List (Option Nat)) (halfBin v : Rat) : Pwm :=
  let hyst := p.r.shedCfg.hyst.toNat
  let go (acc : List (Option (BitVec 12)) × Nat) (n : Nat) : List (Option (BitVec 12)) × Nat :=
    let m := if n ≤ p.nEn then thrFromMap bins halfBin v n else none
    let t := max (m.getD (p.thrTbl n)) (acc.2 + hyst)
    (acc.1 ++ [if m.isNone ∧ t = p.thrTbl n then none else some (toU 12 t)], t)
  let r := ((List.range 23).map (· + 2)).foldl go ([none, none], 0)
  { p with thrMap := Vector.ofFn (fun i : Fin 25 => r.1.getD i.val none), tReplan := now }

/-! ### Views (R106, R130, R131) -/

/-- R106: the clock of CHn_GSYNC runs. -/
def Pwm.gsyncOn (p : Pwm) : Bool :=
  p.r.gsync.en && (p.r.status.state = .ready || p.r.status.state = .run || p.r.status.state = .tripped)

/-- R130: PSTATE of phase k. -/
def Pwm.pstate (p : Pwm) (k : Nat) : PhState :=
  let x := p.phase k
  if !mbit p.cfg k then .notConfigured
  else if x.fading then .fading
  else if x.adding then .adding
  else if x.isOn then .active
  else if mbit p.r.retire k then .retired
  else .shed

/-- R130: a write to PWM_PH_SEL captures both data words. -/
def Pwm.capture (p : Pwm) (now : Nat) (w : BitVec 32) : Pwm :=
  let k := (clampBv (w.extractLsb' 0 5) 0 23).toNat
  let x := p.phase k
  { p with
    r.phSel := clampBv (w.extractLsb' 0 5) 0 23
    r.phData0 := { imb := toS 16 x.imb, iAvg := toS 16 x.iAvg }
    r.phData1 := { telValid := x.telValid now, drvUv := x.drvUv, drvOt := x.drvOt,
                   pstate := BitVec.ofNat 3 (p.pstate k).code, temp := toS 16 x.temp } }

/-- R131: a write to PWM_SHED_VIEW.N selects the threshold in use for that phase count. -/
def Pwm.shedView (p : Pwm) (w : BitVec 32) (auto : Bool) : Pwm :=
  let n := clampBv (w.extractLsb' 24 5) 1 24
  let m := p.mode auto
  { p with
    r.shedView := { n := n, src := m = .map && (vget p.thrMap n.toNat none).isSome,
                    thr := toU 12 (p.thr m n.toNat) } }

end Sys2Proof.Machine
end

