-- ==== Sys2Proof/Machine/Loop.lean ====
section
/-! DEFINITION. Sys2Proof/Machine/Loop.lean: the loop engine (spec/03_loop_engine.md). -/

namespace Sys2Proof.Machine

/-! ### Second-order sections (R136 to R139) -/

/-- A rational as Q1.31 (R133): rounded and saturated. -/
def q31 (x : Rat) : Int := satS 32 (roundHE (x * 2 ^ 31))

/-- Q1.31 as a rational. -/
def ofQ31 (y : Int) : Rat := (y : Rat) / 2 ^ 31

/-- Coefficient i of section s of a bank: b0, b1, b2, a1, a2 (R139). -/
def coef (w : Vector (BitVec 32) 41) (s i : Nat) : Int := (vget w (1 + 5 * s + i) 0).toInt

/-- NSEC of a bank (R139). -/
def nsec (w : Vector (BitVec 32) 41) : Nat := ((vget w 0 0).extractLsb' 0 4).toNat

/-- R136, R137: one section: its saturated output, its next states and whether anything saturated. -/
def section1 (w : Vector (BitVec 32) 41) (s : Nat) (st : SecSt) (x : Int) : Int × SecSt × Bool :=
  let y0 := divHE (coef w s 0 * x + st.s1 * 2 ^ 28) (2 ^ 28)
  let y := satS 32 y0
  let n1 := divHE (coef w s 1 * x - coef w s 3 * y + st.s2 * 2 ^ 28) (2 ^ 28)
  let n2 := divHE (coef w s 2 * x - coef w s 4 * y) (2 ^ 28)
  (y, { s1 := satS 40 n1, s2 := satS 40 n2 }, y ≠ y0 || satS 40 n1 ≠ n1 || satS 40 n2 ≠ n2)

/-- The sections of a bank from section s on: output, next states, saturation. -/
def sections (w : Vector (BitVec 32) 41) (sts : Vector SecSt 8) : Nat → Nat → Int → Int × List SecSt × Bool
  | 0, _, x => (x, [], false)
  | n + 1, s, x =>
    let a := section1 w s (vget sts s {}) x
    let b := sections w sts n (s + 1) a.1
    (b.1, a.2.1 :: b.2.1, a.2.2 || b.2.2)

/-- R136 to R138: one sample of a loop. `frz` decides from the output whether the marked sections keep their states.
The answer: output, next states, saturation, and whether a freeze was made. -/
def runLoop (w : Vector (BitVec 32) 41) (sts : Vector SecSt 8) (x : Int) (frz : Int → Bool) :
    Int × Vector SecSt 8 × Bool × Bool :=
  let n := min 8 (nsec w)
  let r := sections w sts n 0 x
  let f := frz r.1
  let mask := (vget w 0 0).extractLsb' 16 8
  let nx := vMapI sts (fun s (old : SecSt) => if n ≤ s ∨ (f ∧ mbit mask s) then old else r.2.1.getD s old)
  (r.1, nx, r.2.2, f && decide (mask ≠ 0))

/-- R154: the states that make the last section answer y0 to a zero input. -/
def presetStates (w : Vector (BitVec 32) 41) (y0 : Int) : Vector SecSt 8 :=
  let last := nsec w - 1
  vMapI (Vector.replicate 8 ({} : SecSt)) (fun s (x : SecSt) =>
    if s = last then { s1 := y0, s2 := satS 40 (divHE (-(coef w s 4) * y0) (2 ^ 28)) } else x)

/-! ### Banks (R158 to R163) -/

/-- The bank index the inner or outer loop computes with: A, B, or F in fallback (R168). -/
def Loop.bankIdx (l : Loop) (outer : Bool) : Nat :=
  if l.r.status.fb then 2 else b2n (if outer then l.r.status.actOut else l.r.status.actIn)

/-- A bank of a loop. -/
def Loop.bank (l : Loop) (outer : Bool) (i : Nat) : Bank := vget (if outer then l.bankOut else l.bankIn) i {}

/-- The words a loop computes with. -/
def Loop.words (l : Loop) (outer : Bool) : Vector (BitVec 32) 41 := (l.bank outer (l.bankIdx outer)).words

/-- The OK bit of a bank. -/
def Loop.bankOk (l : Loop) (outer : Bool) (i : Nat) : Bool :=
  if outer then mbit l.r.bankStatus.outOk i else mbit l.r.bankStatus.inOk i

/-- The OK bit of a bank set to a value. -/
def Loop.setOk (l : Loop) (outer : Bool) (i : Nat) (b : Bool) : Loop :=
  if outer then { l with r.bankStatus.outOk := msetb l.r.bankStatus.outOk i b }
  else { l with r.bankStatus.inOk := msetb l.r.bankStatus.inOk i b }

/-- A bank changed by a function. -/
def Loop.modBank (l : Loop) (outer : Bool) (i : Nat) (f : Bank → Bank) : Loop :=
  if outer then { l with bankOut := vMod l.bankOut i f } else { l with bankIn := vMod l.bankIn i f }

/-- R159: the check of word 0. -/
def word0Ok (w : Vector (BitVec 32) 41) : Bool :=
  let x := vget w 0 0
  decide (1 ≤ nsec w) && decide (nsec w ≤ 8) && decide (x &&& 0xFF00FFF0 = 0)

/-- The CRC-32C of a bank (R159). -/
def bankCrc (w : Vector (BitVec 32) 41) : BitVec 32 := crc32c w.toList

/-- The bank is one of A and B and is the active one of its loop (R158). -/
def Loop.isActive (l : Loop) (outer : Bool) (i : Nat) : Bool :=
  decide (i < 2) && decide (b2n (if outer then l.r.status.actOut else l.r.status.actIn) = i)

/-- R158: why a write or a seal of a bank is refused, as a code of R177; none: it is accepted. -/
def Loop.bankRefuse (l : Loop) (outer : Bool) (i : Nat) : Option Nat :=
  if 2 < i then some 0x42
  else if l.isActive outer i then some 0x40
  else if i = 2 ∧ l.r.status.state ≠ .idle then some 0x41
  else none

/-- R158: words of a bank are written from a position on, and its OK bit is cleared. -/
def Loop.bankPut (l : Loop) (outer : Bool) (i pos : Nat) (ws : List (BitVec 32)) : Loop :=
  (l.modBank outer i (fun b =>
    { b with words := (ws.zipIdx).foldl (fun v x => v.setIfInBounds (pos + x.2) x.1) b.words })).setOk outer i false

/-- R159: a bank is sealed against a CRC; the code of R177 it fails with, or 0. -/
def Loop.seal (l : Loop) (outer : Bool) (i : Nat) (crc : BitVec 32) : Loop × Nat :=
  let b := l.bank outer i
  if !word0Ok b.words then ({ l with r.bankStatus.sealFail := true }, 0x42)
  else if bankCrc b.words ≠ crc then ({ l with r.bankStatus.sealFail := true }, 0x43)
  else ((l.modBank outer i (fun b => { b with stWords := b.words, stCrc := crc })).setOk outer i true, 0)

/-- R159, R163: a bank's words pass the check against its stored CRC. -/
def bankGood (b : Bank) : Bool := word0Ok b.words && decide (bankCrc b.words = b.stCrc)

/-! ### Feedback -/

/-- The newest fast-path value of a stream, V or A (R132). -/
def Chan.fast (k : Chan) (i : Nat) : Rat := (vget k.met.st i {}).fast

def Chan.vOut (k : Chan) : Rat := k.fast 7
def Chan.iOut (k : Chan) : Rat := k.fast 8
def Chan.iAux (k : Chan) : Rat := k.fast 9
def Chan.vDc (k : Chan) : Rat := k.fast 10
def Chan.vCon (k : Chan) : Rat := k.fast 11

/-- A register in tenths as a rational. -/
def tenths {n : Nat} (v : BitVec n) : Rat := (v.toNat : Rat) / 10

/-- R147: R_c in ohms. R_CAB is in µΩ, R_LINK in the unit of COOL_RLINK, 0.1 µΩ. -/
def Chan.rc (k : Chan) : Rat :=
  if k.loop.r.ff.rSrc ∧ k.cool.r.status.rlValid then (k.cool.r.rlink.toNat : Rat) / 10 ^ 7
  else (k.loop.r.ff.rCab.toNat : Rat) / 10 ^ 6

/-- R143, R166: the inner feedback. -/
def Chan.innerFb (k : Chan) : Rat :=
  if k.loop.r.status.fb ∧ k.loop.fbCode = 1 then k.vCon + k.rc * k.iOut else k.vOut

/-- R146, R166: I_fb. -/
def Chan.iFb (k : Chan) : Rat := if k.loop.r.status.fb ∧ k.loop.fbCode = 3 then k.iAux else k.iOut

/-- R141, R166: the DC-link voltage used. -/
def Chan.vDcUsed (k : Chan) : Rat :=
  if k.loop.r.status.fb ∧ k.loop.fbCode = 5 then tenths k.loop.r.vnom.vNom else k.vDc

/-- R146: VREF_MAX_eff in V. With SP_SRC HOST the session takes no part. -/
def Chan.vrefMax (k : Chan) : Rat :=
  let m := tenths k.loop.r.vrefLim.vrefMax
  if k.loop.r.ctrl.spSrc then m else min m k.veh.vMax

/-- The inner tick period in ms (R140). -/
def Loop.tickMs (l : Loop) : Rat := (l.r.tick.div.toNat : Rat) / 400000

/-- T_out in ms (R144). -/
def Loop.toutMs (l : Loop) : Rat := l.tickMs * (l.r.tick.m.toNat : Rat)

/-- A slope field: 0 is taken as 1; in units per ms (R186). -/
def slope (v : BitVec 16) : Rat := (max 1 v.toNat : Nat) / 10

/-! ### Limits (R149) -/

/-- N_en × PH_IMAX, A. -/
def Chan.phaseLim (k : Chan) : Rat := (k.pwm.nEn * k.pwm.r.shedLim.phImax.toNat : Nat)

/-- A limit in A, rounded toward zero to 0.1 A and never below 0 (R135, R149). -/
def limA (x : Rat) : Rat := if x < 0 then 0 else (truncZ (x * 10) : Rat) / 10

/-- The sources of R149 that take part: code, import limit, export limit. -/
def Chan.limits (k : Chan) : List (Nat × Rat × Rat) :=
  let v := max k.vOut 150
  let ph := k.phaseLim
  [(0, tenths k.loop.r.ilimHost.ilimImp, tenths k.loop.r.ilimHost.ilimExp)]
  ++ (if k.loop.r.ctrl.spSrc then [] else [(1, limA k.veh.iChg, limA k.veh.iDis)])
  ++ [(2, limA (k.grant.plimI / v), limA (k.grant.plimE / v)), (3, limA ph, limA ph),
      (4, tenths k.cool.r.cap.cap, tenths k.cool.r.cap.cap),
      (5, limA (k.loop.fNow / 100 * ph), limA (k.loop.fNow / 100 * ph))]
  ++ (if k.loop.r.status.fb then
        [(6, limA ((k.loop.r.fbCfg.fbIlim.toNat : Rat) / 100 * ph), limA ((k.loop.r.fbCfg.fbIlim.toNat : Rat) / 100 * ph))]
      else [])
  ++ (if k.shk.r.status.state = .degraded then [(7, tenths k.shk.r.deg.cap, tenths k.shk.r.deg.cap)] else [])

/-- The least limit of a list in one direction with the code that binds, the lower code on a tie. -/
def leastLim (f : Rat × Rat → Rat) : List (Nat × Rat × Rat) → Nat × Rat
  | [] => (0, 0)
  | [(c, x)] => (c, f x)
  | (c, x) :: r => let b := leastLim f r; if f x ≤ b.2 then (c, f x) else b

/-- R149: the limits formed and LOOP_ILIM_VIEW written. -/
def Chan.formLimits (k : Chan) : Chan :=
  let ls := k.limits
  let p := leastLim (·.1) ls
  let m := leastLim (·.2) ls
  let imp := 0 < k.loop.iRef ∨ (k.loop.iRef = 0 ∧ 0 ≤ k.loop.iTgt)
  -- R228, R229: in HOLD no rise is accepted from any source
  let held := decide (k.grant.r.state.state = .hold)
  let p := if held ∧ k.loop.lp < p.2 then (p.1, k.loop.lp) else p
  let m := if held ∧ k.loop.lm < m.2 then (m.1, k.loop.lm) else m
  let b := if imp then p else m
  { k with loop.lp := p.2, loop.lm := m.2,
           loop.r.ilimView := { src := BitVec.ofNat 4 b.1, ilim := toU 16 (roundHE (b.2 * 10)) } }

/-- R151: the limit in force is reported applied to the channel core. -/
def Chan.applied (k : Chan) : Chan :=
  let g := k.grant
  if g.ackPend then
    { k with grant := { g with
        ackPend := false, acked := g.acked || g.seen, ackEpoch := g.r.epoch, ackGen := g.r.state.gen
        apImp := g.r.imp, apExp := g.r.exp } }
  else k

/-! ### Ramps (R150, R153) -/

/-- R150: one step from a present value toward a goal: `dn` bounds a move that reduces the magnitude, `up` one that
increases it, and a move that crosses zero is split at zero. -/
def rampStep (i g dn up : Rat) : Rat :=
  if 0 < i ∧ g < i then
    if 0 ≤ g then max g (i - dn)
    else if dn ≤ i then i - dn
    else max g (-((dn - i) * up / dn))
  else if i < 0 ∧ i < g then
    if g ≤ 0 then min g (i + dn)
    else if dn ≤ -i then i + dn
    else min g ((dn + i) * up / dn)
  else rclamp g (i - up) (i + up)

/-- LOOP_SP and LOOP_TARGET brought up to date (R187). -/
def Loop.view (l : Loop) : Loop :=
  { l with
    r.sp := { iSp := toS 16 (roundHE (l.iRef * 10)), vSp := toU 16 (roundHE (l.vRef * 10)) }
    r.target := { iTgt := toS 16 (roundHE (l.iTgt * 10)), vTgt := toU 16 (roundHE (l.vTgt * 10)) } }

/-! ### State changes (R154, R155) -/

/-- The loop computes: CV, CC, STOPR or OFFDLY. -/
def LoopState.running : LoopState → Bool
  | .cv | .cc | .stopr | .offdly => true
  | _ => false

/-- A state entered at a time. -/
def Loop.enter (l : Loop) (now : Nat) (s : LoopState) : Loop := { l with r.status.state := s, tState := now }

/-- R155: IDLE, states zero; fallback and the fault reported to Shank end. The modulator is stopped. -/
def Chan.loopIdle (k : Chan) (e : Env) : Chan :=
  { k with
    pwm := k.pwm.stop
    loop := ({ (k.loop.enter e.now .idle) with
      secIn := Vector.replicate 8 {}, secOut := Vector.replicate 8 {}, u := 0, yo := 0, iRef := 0, vRef := 0,
      ccMode := false, stopReq := false, zeroRun := 0, fbCode := 0, passSince := none, fbRet := false,
      sensFault := false, r.status.fb := false, r.status.ramping := false, r.status.awIn := false,
      r.status.awOut := false, r.pmStatus.tripped := 0, r.pmStatus.suspect := 0 }).view }

/-- R154: presets for the inner loop. -/
def Loop.presetIn (l : Loop) (y0 : Int) : Loop := { l with u := y0, secIn := presetStates (l.words false) y0 }

/-- R154: presets for the outer loop. -/
def Loop.presetOut (l : Loop) (y0 : Int) : Loop := { l with yo := y0, secOut := presetStates (l.words true) y0 }

/-- The inner output that matches a voltage: V / V_NOM (R133, R154). -/
def Loop.uOf (l : Loop) (v : Rat) : Int := q31 (v / tenths l.r.vnom.vNom)

/-- R146: the cable term of the voltage set-point. `dI`: change of I_ref per second. -/
def Chan.cable (k : Chan) (dI : Rat) : Rat :=
  if k.loop.r.ff.cabEn then k.rc * k.loop.iRef + (k.loop.r.ff.lCab.toNat : Rat) / 10 ^ 9 * dI else 0

/-- R146: V_ref held within its limits, and whether it was clamped above (1) or below (−1). -/
def Chan.clampV (k : Chan) (v : Rat) : Rat × Int :=
  let lo := tenths k.loop.r.vrefLim.vrefMin
  let hi := k.vrefMax
  if hi < v then (max lo hi, 1) else if v < lo then (lo, -1) else (v, 0)

/-- R154: entry to CC: outer preset, I_ref from I_out. `v`: the voltage whose preset is made. -/
def Chan.enterCC (k : Chan) (e : Env) (v : Rat) : Chan :=
  let k := { k with loop := { (k.loop.enter e.now .cc) with iRef := k.iOut, ccMode := true, zeroRun := 0 } }
  { k with loop := k.loop.presetOut (q31 ((v - k.rc * k.iOut) / 2048)) }

/-- R155: entry to CV or CC from ONDLY: the modulator starts, presets and the plant model are made. -/
def Chan.loopRun (k : Chan) (e : Env) : Chan :=
  let l := { k.loop with
    tick := 0, outDone := 0, stopReq := false, iL := k.iOut, vHat := k.vOut, hist := Vector.replicate 5 0,
    hist4 := Vector.replicate 5 0, hist5 := Vector.replicate 5 0, passSince := none }
  let k := { k with loop := l.presetIn (l.uOf k.vOut) }
  let k :=
    if k.loop.tgtCC then
      let k := k.enterCC e k.vOut
      { k with loop.vRef := (k.clampV (2048 * ofQ31 k.loop.yo + k.cable 0)).1 }
    else { k with loop := { (k.loop.enter e.now .cv) with vRef := k.vOut, ccMode := false } }
  let k := { k with pwm.iDem := max (rabs k.pwm.iFilt) (rabs k.loop.iRef) }
  { k with pwm := k.pwm.run e, loop := k.loop.view }

/-- R155: OFFDLY is entered; fallback, if any, ends here (R168), the outputs carried over to the active banks. -/
def Chan.toOffdly (k : Chan) (e : Env) : Chan :=
  let l := k.loop.enter e.now .offdly
  let l := if l.r.status.fb then
      let l := { l with r.status.fb := false, fbCode := 0, passSince := none, fbRet := false }
      (l.presetIn l.u).presetOut l.yo
    else l
  { k with loop := { l with stopReq := false, iRef := if l.ccMode then 0 else l.iRef } }

/-- R155: STOPR is entered. -/
def Chan.toStopr (k : Chan) (e : Env) : Chan :=
  { k with loop := { (k.loop.enter e.now .stopr) with stopReq := false, zeroRun := 0 } }

/-- R155: a stop, or (`temp`) a temperature shutdown, reaches the loop. -/
def Chan.loopStop (k : Chan) (e : Env) (temp : Bool) : Chan :=
  match k.loop.r.status.state with
  | .ondly =>
    let k := k.loopIdle e
    if temp then { k with loop.r.status.startRef := true } else k
  | .cv | .cc => { k with loop.stopReq := true }
  | _ => k

/-- R155, R174: the modulator has entered TRIPPED: a loop that has started goes to FAULT; a pending swap is
cancelled with 0x46. -/
def Chan.loopFault (k : Chan) (e : Env) : Chan :=
  let k := match k.loop.swap with
    | some sw => ({ k with loop.swap := none, loop.r.status.swapPend := false }).compl sw.ref 0x46
    | none => k
  match k.loop.r.status.state with
  | .idle | .fault => k
  | _ => { k with loop := { (k.loop.enter e.now .fault) with stopReq := false } }

/-- R156: the start checks; a latched SF5 (R446), a bad legal code (R702) and ACK_PEND (R714) refuse starts. -/
def Chan.startOk (k : Chan) (cc : Bool) : Bool :=
  let r := k.loop.r
  decide (r.status.state = .idle) && decide (k.pwm.r.status.state = .ready)
  && decide (200 ≤ r.tick.div.toNat) && decide (r.tick.div.toNat ≤ 1600)
  && decide (1 ≤ r.tick.m.toNat) && decide (r.tick.m.toNat ≤ 64)
  && (decide (400 ≤ r.tick.div.toNat) || decide (2 ≤ r.tick.m.toNat))
  && k.loop.bankOk false (b2n r.status.actIn) && k.loop.bankOk true (b2n r.status.actOut)
  && (!r.ctrl.fbEn || (k.loop.bankOk false 2 && k.loop.bankOk true 2))
  && decide (0 < r.vnom.vNom.toNat) && decide (r.vnom.vdcFloor.toNat ≤ r.vnom.vNom.toNat)
  && decide (r.vrefLim.vrefMin.toNat < r.vrefLim.vrefMax.toNat)
  && decide (0 < r.pmModel.lPh.toNat) && decide (0 < r.pmModel.cOut.toNat)
  && decide (r.otCfg1.tWarn.toInt < r.otCfg2.tDr0.toInt) && decide (r.otCfg2.tDr0.toInt < r.otCfg2.tDr1.toInt)
  && decide (r.otCfg2.tDr1.toInt < r.otCfg1.tSd.toInt)
  && !r.status.otSd && !r.status.fbLatch
  && (!cc || decide (0 < r.ilimHost.ilimImp.toNat) || decide (0 < r.ilimHost.ilimExp.toNat))
  && k.shk.r.status.permit && !(mbit k.shk.r.demand.latch 4)
  && !k.core.r.boot.lcodeBad && !k.core.ackPend

/-- R155: a start is asked for in CV or CC; the flag says that it was accepted. -/
def Chan.loopStart (k : Chan) (e : Env) (cc : Bool) : Chan × Bool :=
  if k.startOk cc then
    ({ k with loop := { (k.loop.enter e.now .ondly) with tgtCC := cc, stopReq := false } }, true)
  else ({ k with loop.r.status.startRef := true }, false)

/-- R155: ON_DLY has elapsed. -/
def Chan.onDelay (k : Chan) (e : Env) : Chan :=
  if k.loop.r.status.state = .ondly ∧ k.loop.tState + msNs k.loop.r.delay.onDly.toNat ≤ e.now then
    if k.pwm.r.status.state = .ready ∧ k.shk.r.status.permit ∧ k.pwm.noTrip then
      if k.clk.inWindow then k.loopRun e else k
    else
      let k := k.loopIdle e
      { k with loop.r.status.startRef := true }
  else k

/-- R155: OFF_DLY has elapsed. -/
def Chan.offDelay (k : Chan) (e : Env) : Chan :=
  if k.loop.r.status.state = .offdly ∧ k.loop.tState + msNs k.loop.r.delay.offDly.toNat ≤ e.now then k.loopIdle e else k

/-- R155: STOP_TMO has elapsed in STOPR. -/
def Chan.stopTimeout (k : Chan) (e : Env) : Chan :=
  if k.loop.r.status.state = .stopr ∧ k.loop.tState + msNs k.loop.r.stopcfg.stopTmo.toNat ≤ e.now then
    let k := k.toOffdly e
    { k with loop.r.status.stopTmo := true }
  else k

/-! ### Plant model and fallback (R164 to R168) -/

/-- R165: a test result shifted into its history. -/
def histPush (h : BitVec 16) (failed : Bool) : BitVec 16 := (h <<< 1) ||| (if failed then 1 else 0)

/-- R165: a history has tripped. -/
def Loop.tripped (l : Loop) (h : BitVec 16) : Bool := decide (l.r.pmTol.failn.toNat ≤ mcount h)

/-- The tests tripped now: bit n − 1 for PTn. -/
def Loop.trippedMask (l : Loop) : BitVec 5 :=
  (List.range 5).foldl (fun (m : BitVec 5) i => msetb m i (l.tripped (vget l.hist i 0))) 0

/-- The streams of MDAT7 to MDAT11 on which PT4 or PT5 has tripped (index 0: MDAT7). -/
def Loop.trippedStreams (l : Loop) : List Nat :=
  (List.range 5).filter (fun i => l.tripped (vget l.hist4 i 0) || l.tripped (vget l.hist5 i 0))

/-- The suspect code of one stream (R166); index 0: MDAT7. -/
def streamSuspect (i : Nat) : Nat :=
  match i with
  | 0 => 1
  | 1 => 3
  | 2 => 4
  | 4 => 2
  | _ => 5

/-- R166: the suspect named by the tripped tests; 0: none. -/
def Chan.suspect (k : Chan) : Nat :=
  let m := k.loop.trippedMask
  if m = 0 then 0
  else
    let s := k.loop.trippedStreams
    if (mbit m 3 ∨ mbit m 4) ∧ s.contains 3 then 5
    else if (mbit m 3 ∨ mbit m 4) ∧ s.length = 1 then streamSuspect (s.headD 0)
    else if mbit m 3 ∨ mbit m 4 then 6
    else if mbit m 0 ∧ mbit m 2 ∧ !mbit m 1 then 1
    else if m = 0b00100 then 2
    else if mbit m 1 then (if rabs (k.iAux - k.loop.iL) < rabs (k.iOut - k.loop.iL) then 3 else 4)
    else 6

/-- R168: fallback is entered with a suspect: bank F preset, the substitution made. -/
def Chan.enterFb (k : Chan) (e : Env) (code : Nat) : Chan :=
  let l := { k.loop with r.status.fb := true, fbCode := code, tFb := e.now, passSince := none, fbRet := false }
  { k with loop := (l.presetIn l.u).presetOut l.yo }

/-- R168: STOPR is entered, or kept, in fallback with FB_LATCH set. -/
def Chan.fbStop (k : Chan) (e : Env) : Chan :=
  let k := { k with loop.r.status.fbLatch := true }
  if k.loop.r.status.state = .cc then k.toStopr e else k

/-- R166 to R168: a named suspect takes its consequence in CC or STOPR. -/
def Chan.suspectAct (k : Chan) (e : Env) (code : Nat) : Chan :=
  if code = 0 then k
  else
    let k := { k with loop.r.pmStatus.suspect := BitVec.ofNat 3 code, loop.sensFault := true }
    if k.loop.r.status.fb then
      if code = k.loop.fbCode ∨ code = 2 ∨ code = 4 then k else k.fbStop e
    else if code = 2 ∨ code = 4 then k
    else if k.loop.r.ctrl.fbEn = false then (if k.loop.r.status.state = .cc then { k with loop.stopReq := true } else k)
    else
      let k := k.enterFb e code
      if code = 6 ∧ k.loop.r.status.state = .cc then k.toStopr e else k

/-- R165, R168: the tests are judged after an evaluation: TRIPPED and SEEN, the suspect, and the time from which every
test has passed in fallback. -/
def Chan.judge (k : Chan) (e : Env) : Chan :=
  let m := k.loop.trippedMask
  let k := { k with
    loop.r.pmStatus.tripped := m, loop.r.pmStatus.seen := k.loop.r.pmStatus.seen ||| m
    loop.passSince := if m ≠ 0 ∨ !k.loop.r.status.fb then none else some (k.loop.passSince.getD e.now) }
  match k.loop.r.status.state with
  | .cv => if m ≠ 0 then k.toOffdly e else k
  | .cc | .stopr => k.suspectAct e k.suspect
  | _ => k

/-- R164: one step of the plant model; the answer's second part is r_v. -/
def Chan.plant (k : Chan) : Chan × Rat :=
  let l := k.loop
  let T : Rat := l.tickMs / 1000
  let leq : Rat := (l.r.pmModel.lPh.toNat : Rat) / 10 ^ 7 / (max 1 k.pwm.nAct : Nat)
  let c : Rat := (l.r.pmModel.cOut.toNat : Rat) / 10 ^ 6
  let req : Rat := (l.r.pmModel2.rEq.toNat : Rat) / 10 ^ 5
  let g : Rat := (l.r.pmModel2.g.toNat : Rat) / 16
  let d : Rat := (k.pwm.r.duty.toNat : Rat) / 65536
  let iL := l.iL + T / leq * (d * k.vDc - l.vHat - req * l.iL)
  let vPre := l.vHat + T / c * (iL - k.iOut)
  let rv := k.vOut - vPre
  ({ k with loop := { l with iL := fine iL, vHat := fine (vPre + g * rv) } }, rv)

/-- R165: the per-tick tests PT1, PT4 and PT5 evaluated. -/
def Chan.tickTests (k : Chan) (rv : Rat) : Chan :=
  let l := k.loop
  let vdcBad := decide (k.vDc < tenths l.r.pmVdc.vdcMin) || decide (tenths l.r.pmVdc.vdcMax < k.vDc)
  let f4 (i : Nat) : Bool := (vget k.met.st (7 + i) {}).fs || (decide (i = 3) && vdcBad)
  let miss (i : Nat) : Nat := let s := vget k.met.st (7 + i) ({} : StreamSt); if s.fresh then 0 else s.miss + 1
  let f5 (i : Nat) : Bool := decide (2 ≤ miss i)
  let any (f : Nat → Bool) : Bool := (List.range 5).any f
  let h := l.hist
  let h := vMod h 0 (fun x => histPush x (decide ((l.r.pmTol.vtol.toNat : Rat) < rabs rv)))
  let h := vMod h 3 (fun x => histPush x (any f4))
  let h := vMod h 4 (fun x => histPush x (any f5))
  { k with
    loop := { l with
      hist := h, hist4 := vMapI l.hist4 (fun i (x : BitVec 16) => histPush x (f4 i))
      hist5 := vMapI l.hist5 (fun i (x : BitVec 16) => histPush x (f5 i)) }
    met.st := vMapI k.met.st (fun i (s : StreamSt) =>
      if 7 ≤ i then { s with fresh := false, miss := miss (i - 7) } else s) }

/-- R165: the per-sample tests PT2 and PT3 evaluated. -/
def Chan.sampleTests (k : Chan) : Chan :=
  let l := k.loop
  let f2 := decide ((l.r.pmTol.itol.toNat : Rat) + rabs k.iOut / 32 < rabs (k.iOut - k.iAux))
  let f3 := decide ((l.r.pmTol.ctol.toNat : Rat) < rabs (k.vOut - k.vCon - k.rc * k.iOut))
  let h := vMod l.hist 1 (fun x => histPush x f2)
  let h := if l.r.status.state = .cc ∨ l.r.status.state = .stopr then vMod h 2 (fun x => histPush x f3) else h
  { k with loop := { l with hist := h } }

/-! ### Swaps (R161, R162) -/

/-- R162: the states of a loop after its bank changed. -/
def Loop.swapStates (l : Loop) (outer reset : Bool) (oldN : Nat) : Loop :=
  if reset then
    if l.r.status.state = .idle then
      (if outer then { l with secOut := Vector.replicate 8 {} } else { l with secIn := Vector.replicate 8 {} })
    else if l.r.status.fb then l
    else (if outer then l.presetOut l.yo else l.presetIn l.u)
  else
    let keep (v : Vector SecSt 8) : Vector SecSt 8 := vMapI v (fun s (x : SecSt) => if oldN ≤ s then {} else x)
    if l.r.status.fb then l
    else if outer then { l with secOut := keep l.secOut } else { l with secIn := keep l.secIn }

/-- R161: one loop's selection changes to the other of A and B. -/
def Loop.swapOne (l : Loop) (outer reset : Bool) : Loop :=
  let oldN := nsec (l.words outer)
  let l := if outer then { l with r.status.actOut := !l.r.status.actOut }
           else { l with r.status.actIn := !l.r.status.actIn }
  l.swapStates outer reset oldN

/-- R161: an accepted swap takes effect at a boundary; it is stored and its completion posted. -/
def Chan.swapAt (k : Chan) (outerBoundary : Bool) : Chan :=
  match k.loop.swap with
  | none => k
  | some sw =>
    if sw.outer ∧ !outerBoundary then k
    else
      let l := if sw.inner then k.loop.swapOne false sw.reset else k.loop
      let l := if sw.outer then l.swapOne true sw.reset else l
      ({ k with loop := { l with swap := none, r.status.swapPend := false,
                                 selNv := (l.r.status.actIn, l.r.status.actOut) } }).compl sw.ref 0

/-- R161: a swap is asked for; the code of R177 when it is refused. -/
def Chan.swapReq (k : Chan) (inner outer reset : Bool) (ref : DescRef) : Chan × Option Nat :=
  let l := k.loop
  let idx (o : Bool) : Nat := 1 - b2n (if o then l.r.status.actOut else l.r.status.actIn)
  let bad (f : Bool → Bool) : Bool := (inner && f false) || (outer && f true)
  if !inner ∧ !outer then (k, some 0x42)
  else if l.swap.isSome then (k, some 0x45)
  else if bad (fun o => !l.bankOk o (idx o)) then (k, some 0x44)
  else if bad (fun o => !bankGood (l.bank o (idx o))) then (k, some 0x43)
  else ({ k with loop := { l with swap := some { inner := inner, outer := outer, reset := reset, ref := ref },
                                  r.status.swapPend := true } }, none)

/-! ### The inner tick (R141) and the outer sample (R144) -/

/-- R141 steps 1 to 5: the inner sections and the duty. -/
def Chan.innerLoop (k : Chan) (e : Env) : Chan :=
  let l := k.loop
  let ev := q31 ((l.vRef - k.innerFb) / 2048)
  let vdc := max k.vDcUsed (tenths l.r.vnom.vdcFloor)
  let duty (u : Int) : Int :=
    let d := if l.r.ff.dclEn then ofQ31 u * tenths l.r.vnom.vNom / vdc else ofQ31 u
    roundHE (d * 65536)
  let lo : Int := k.pwm.r.dutyLim.dMin.toNat
  let hi : Int := k.pwm.r.dutyLim.dMax.toNat
  let frz (u : Int) : Bool := (decide (hi < duty u) && decide (0 < ev)) || (decide (duty u < lo) && decide (ev < 0))
  let r := runLoop (l.words false) l.secIn ev frz
  let d0 := iclamp (duty r.1) lo hi
  let old : Int := k.pwm.r.duty.toNat
  let step : Int := 16 * (l.r.fbCfg.fbDslew.toNat : Int)
  let d1 := if l.r.status.fb then iclamp d0 (old - step) (old + step) else d0
  { k with
    loop := { l with u := r.1, secIn := r.2.1, r.status.sat := l.r.status.sat || r.2.2.1, r.status.awIn := r.2.2.2 }
    pwm := { k.pwm with dutyPrev := k.pwm.r.duty, r.duty := toU 16 d1, dutyAt := e.taps } }

/-- R153: V_ref moves toward V_tgt in CV. -/
def Chan.cvRamp (k : Chan) : Chan :=
  let step := slope k.loop.r.rampX.v * k.loop.tickMs
  let v := rclamp k.loop.vTgt (k.loop.vRef - step) (k.loop.vRef + step)
  let v := (k.clampV v).1
  { k with loop.vRef := v, loop.r.status.ramping := decide (v ≠ (k.clampV k.loop.vTgt).1) }

/-- The state changes due at an inner tick (R155). -/
def Chan.tickMoves (k : Chan) (e : Env) : Chan :=
  match k.loop.r.status.state with
  | .cv => if k.loop.stopReq then k.toOffdly e else k
  | .cc =>
    if !k.loop.tgtCC then { k with loop := { (k.loop.enter e.now .cv) with ccMode := false } } else k
  | _ => k

/-- R141, R164: one inner tick. -/
def Chan.innerTick (k : Chan) (e : Env) : Chan :=
  let bound := !k.loop.r.status.state.running || decide (k.loop.tick % max 1 k.loop.r.tick.m.toNat = 0)
  let k := k.swapAt bound
  if !k.loop.r.status.state.running then k
  else
    let k := k.tickMoves e
    let pl := k.plant
    let k := pl.1.tickTests pl.2
    let k := k.judge e
    let k := if k.loop.r.status.state = .cv then k.cvRamp else k
    let k := k.innerLoop e
    { k with loop := { k.loop with tick := k.loop.tick + 1 }.view }

/-- R150, R155: the goal and the falling slope of the ramp. -/
def Chan.rampGoal (k : Chan) : Rat × Rat :=
  match k.loop.r.status.state with
  | .stopr => (0, slope k.loop.r.rampX.stop)
  | .offdly => (0, slope k.loop.r.rampI.dn)
  | _ => (rclamp k.loop.iTgt (-k.loop.lm) k.loop.lp, slope k.loop.r.rampI.dn)

/-- R150: I_ref at an outer sample. -/
def Chan.rampI (k : Chan) : Chan :=
  let t := k.loop.toutMs
  let i0 := if k.loop.lp < k.loop.iRef then k.loop.lp else k.loop.iRef
  let i0 := if i0 < -k.loop.lm then -k.loop.lm else i0
  let g := k.rampGoal
  let i := rampStep i0 g.1 (g.2 * t) (slope k.loop.r.rampI.up * t)
  { k with loop.iRef := i, loop.r.status.ramping := decide (i ≠ g.1) }

/-- R146: the outer sections and the voltage set-point. `old`: I_ref before this sample. -/
def Chan.outerLoop (k : Chan) (old : Rat) : Chan :=
  let l := k.loop
  let ei := q31 ((l.iRef - k.iFb) / 4096)
  let dI := rclamp ((l.iRef - old) / l.toutMs) (-(slope l.r.rampI.dn)) (slope l.r.rampI.up) * 1000
  let cab := k.cable dI
  let vOf (y : Int) : Rat × Int := k.clampV (2048 * ofQ31 y + cab)
  let frz (y : Int) : Bool := (decide ((vOf y).2 = 1) && decide (0 < ei)) || (decide ((vOf y).2 = -1) && decide (ei < 0))
  let r := runLoop (l.words true) l.secOut ei frz
  { k with loop := { l with yo := r.1, secOut := r.2.1, vRef := (vOf r.1).1,
                            r.status.sat := l.r.status.sat || r.2.2.1, r.status.awOut := r.2.2.2 } }

/-- R155: ten outer samples at zero current end STOPR. -/
def Chan.zeroCheck (k : Chan) (e : Env) : Chan :=
  if k.loop.r.status.state ≠ .stopr then k
  else
    let n := if rabs k.iFb ≤ tenths k.loop.r.stopcfg.iZero then k.loop.zeroRun + 1 else 0
    let k := { k with loop.zeroRun := n }
    if 10 ≤ n then k.toOffdly e else k

/-- The state changes due at an outer sample (R155, R168). -/
def Chan.sampleMoves (k : Chan) (e : Env) : Chan :=
  match k.loop.r.status.state with
  | .cv => if k.loop.tgtCC ∧ !k.loop.stopReq then k.enterCC e k.loop.vRef else k
  | .cc => if k.loop.stopReq then k.toStopr e else k
  | _ => k

/-- R168: every test has passed for 1 s in fallback. -/
def Chan.fbPassed (k : Chan) (e : Env) : Bool :=
  match k.loop.passSince with
  | some t => decide (t + sNs 1 ≤ e.now)
  | none => false

/-- R168: the return from fallback at an outer sample. -/
def Chan.fbReturn (k : Chan) (e : Env) : Chan :=
  if k.loop.r.status.fb ∧ k.loop.r.status.state = .cc ∧ (k.loop.fbRet ∨ (k.loop.r.ctrl.fbAuto ∧ k.fbPassed e)) then
    let l := { k.loop with
      r.status.fb := false, fbCode := 0, fbRet := false, passSince := none, sensFault := false, r.pmStatus.suspect := 0 }
    { k with loop := (l.presetIn l.u).presetOut l.yo }
  else k

/-- The channel-autonomy rules are in force: no grant holds (R96, R228). -/
def Chan.auto (k : Chan) : Bool := k.grant.r.state.state ≠ .granted

/-- R91, R93, R101: the modulator's part of an outer sample. -/
def Chan.pwmSample (k : Chan) (e : Env) : Chan :=
  let s8 := vget k.met.st 8 ({} : StreamSt)
  let p : Pwm := { k.pwm with iDem := max (rabs k.pwm.iFilt) (rabs k.loop.iRef) }
  let ls : Bool :=
    decide (0 < p.r.loadstep.lsErr.toNat ∧ (p.r.loadstep.lsErr.toNat : Rat) < rabs (k.loop.iRef - k.iFb)) ||
    decide (0 < p.r.loadstep.lsDidt.toNat ∧ (p.r.loadstep.lsDidt.toNat : Rat) < rabs (s8.fast - s8.fast2))
  let p := p.hardFloor e
  let p := if ls then p.loadStep e else p
  { k with pwm := (p.dwell e.now k.auto).view }

/-- The outer sample of R144 is due: the newest inner tick was a multiple of M and not tick 0. -/
def Loop.sampleDue (l : Loop) : Bool :=
  l.r.status.state.running && decide (1 < l.tick) && decide ((l.tick - 1) % max 1 l.r.tick.m.toNat = 0)
  && decide (l.outDone ≠ l.tick)

/-- R144: one outer sample. -/
def Chan.outerSample (k : Chan) (e : Env) : Chan :=
  if !k.loop.sampleDue then k
  else
    let k := { k with loop.outDone := k.loop.tick }
    let k := (k.sampleMoves e).fbReturn e
    let k := (k.sampleTests).judge e
    let k := k.formLimits
    let old := k.loop.iRef
    let k := if k.loop.ccMode then (k.rampI).outerLoop old else k
    let k := (k.applied.pwmSample e).zeroCheck e
    { k with loop := k.loop.view }

/-- R151: in IDLE, ONDLY and FAULT a new grant record is applied. -/
def Chan.limitIdle (k : Chan) : Chan :=
  if k.loop.r.status.state.running then k else k.formLimits.applied

/-- R168: FB_TMAX has elapsed in fallback. -/
def Chan.fbTimeout (k : Chan) (e : Env) : Chan :=
  if k.loop.r.status.fb ∧ k.loop.tFb + sNs k.loop.r.fbCfg.fbTmax.toNat ≤ e.now ∧ !k.loop.r.status.fbLatch then k.fbStop e
  else k

/-- R163: the consequence of a mismatch found by the 1 ms check. -/
def Chan.bankFail (k : Chan) (e : Env) (outer : Bool) (i : Nat) : Chan :=
  let k := { k with loop := { (k.loop.setOk outer i false) with r.status.bankErr := true } }
  -- R174: a pending swap of that loop is refused with 0x43
  let k := match k.loop.swap with
    | some sw =>
      if (if outer then sw.outer else sw.inner) then
        ({ k with loop.swap := none, loop.r.status.swapPend := false }).compl sw.ref 0x43
      else k
    | none => k
  if i = 2 then
    if k.loop.r.status.fb then
      let k := k.loopIdle e
      { k with loop.r.status.fbLatch := true }
    else k
  else
    match k.loop.r.status.state with
    | .cc | .stopr => k.suspectAct e 7
    | .cv => k.toOffdly e
    | .ondly =>
      let k := k.loopIdle e
      { k with loop.r.status.startRef := true }
    | _ => k

/-- R163: each active bank and each F bank whose OK bit is 1 is checked. -/
def Chan.bankCheck (k : Chan) (e : Env) : Chan :=
  let one (k : Chan) (outer : Bool) (i : Nat) : Chan :=
    if k.loop.bankOk outer i ∧ (i = 2 ∨ k.loop.isActive outer i) ∧ !bankGood (k.loop.bank outer i) then
      k.bankFail e outer i
    else k
  [(false, 0), (false, 1), (false, 2), (true, 0), (true, 1), (true, 2)].foldl (fun k x => one k x.1 x.2) k

/-! ### Power-stage temperature (R169 to R171) -/

/-- R169: a resistance in ohms as a temperature in 0.1 °C; none: the sensor is faulty. The inner none: the formula
gives no temperature above absolute zero. -/
def ntcTemp (b rnom10 r : Nat) : Option (Option Int) :=
  if r < 100 ∨ 1000000 < r ∨ b = 0 ∨ rnom10 = 0 then none
  else
    let x : Rat := 100 / 29815 + fxRat (fxLn r (rnom10 * 10)) / b
    if x ≤ 0 then some none else some (some (satS 16 (roundHE ((1 / x - 27315 / 100) * 10))))

/-- R171: the target of the derating factor, %. -/
def Chan.fTarget (k : Chan) : Rat :=
  let r := k.loop.r
  let dmin : Rat := r.otCfg3.drMin.toNat
  match k.loop.tMax with
  | none => dmin
  | some t =>
    let t0 := r.otCfg2.tDr0.toInt
    let t1 := r.otCfg2.tDr1.toInt
    if t < t0 then 100 else if t1 ≤ t then dmin else 100 - (100 - dmin) * (t - t0 : Int) / (t1 - t0 : Int)

/-- R171: the factor in force: falls at once, rises by at most one point in 100 ms. -/
def Chan.fUpdate (k : Chan) (e : Env) : Chan :=
  let t := k.fTarget
  let k := if t ≤ k.loop.fNow then { k with loop.fNow := t, loop.tRise := e.now }
    else if k.loop.tRise + msNs 100 ≤ e.now then { k with loop.fNow := min t (k.loop.fNow + 1), loop.tRise := e.now }
    else k
  { k with loop.r.otStatus.f := toU 8 (truncZ k.loop.fNow) }

/-- R170: T_MAX from the valid enabled readings. -/
def Chan.tMaxOf (k : Chan) (e : Env) : Option Int :=
  let ntc := (List.range 8).filterMap (fun i => if mbit k.loop.r.otCfg3.ntcEn i then vget k.loop.ntc i none else none)
  let tel := if k.loop.r.otCfg3.telEn then
      (k.pwm.ph.toList.filter (fun (x : PhaseSt) => x.telValid e.now)).map (·.temp) else []
  (ntc ++ tel).foldl (fun m x => some (match m with | none => x | some y => max x y)) none

/-- A temperature register: signed 0.1 °C, or 0x8000 where there is no reading. -/
def tReg (t : Option Int) : BitVec 16 :=
  match t with
  | none => 0x8000
  | some x => BitVec.ofInt 16 (iclamp x (-32767) 32767)

/-- R171: warning, derating and shutdown judged on the present readings. -/
def Chan.otJudge (k : Chan) (e : Env) : Chan :=
  let k := { k with loop.tMax := k.tMaxOf e }
  let k := { k with loop.r.otStatus.tMax := tReg k.loop.tMax }
  let k := match k.loop.tMax with
    | none => k
    | some t =>
      let w := k.loop.r.otCfg1.tWarn.toInt
      let k := { k with loop.r.status.otWarn := decide (w ≤ t) || (k.loop.r.status.otWarn && decide (w - 20 ≤ t)) }
      if k.loop.r.otCfg1.tSd.toInt ≤ t then
        let k := if k.loop.r.status.otSd then k else k.loopStop e true
        { k with loop.r.status.otSd := true }
      else k
  k.fUpdate e

/-- R169: the eight power-stage NTCs are converted from their resistances in ohms. -/
def Chan.ntcConv (k : Chan) (e : Env) (rs : List Nat) : Chan :=
  let b := k.loop.r.ntcCfg.ntcB.toNat
  let rn := k.loop.r.ntcCfg.ntcRnom.toNat
  let step (k : Chan) (i : Nat) : Chan :=
    match ntcTemp b rn (rs.getD i 0) with
    | none => { k with loop.ntc := vset k.loop.ntc i none }
    | some (some t) => { k with loop.ntc := vset k.loop.ntc i (some t) }
    | some none => let f := k.free; { f.2 with loop.ntc := vset f.2.loop.ntc i (some ((f.1.setWidth 15).toNat : Int)) }
  let k := (List.range 8).foldl step k
  let flt := (List.range 8).foldl (fun (m : BitVec 8) i => msetb m i (vget k.loop.ntc i none).isNone) 0
  let k := { k with
    loop.r.otStatus.ntcFlt := flt
    loop.r.ntc := Vector.ofFn (fun i : Fin 4 =>
      { tHi := tReg (vget k.loop.ntc (2 * i.val + 1) none), tLo := tReg (vget k.loop.ntc (2 * i.val) none) }) }
  k.otJudge e

/-! ### Descriptors (R175 to R177) -/

/-- 0x0201 BANK_WRITE. -/
def Chan.dBankWrite (k : Chan) (d : Desc) : Chan × Option Nat :=
  let n := d.fld 0 16 4
  let outer := d.bit 0 12
  let b := d.fld 0 8 2
  let pos := d.fld 0 0 6
  if !d.onlyBits [0xF133F, 0xFFFFFFFF, 0xFFFFFFFF, 0xFFFFFFFF, 0xFFFFFFFF, 0xFFFFFFFF, 0xFFFFFFFF] then (k, some 5)
  else if n < 1 ∨ 6 < n ∨ 40 < pos ∨ 41 < pos + n ∨ b = 3 then (k, some 0x42)
  else match k.loop.bankRefuse outer b with
    | some c => (k, some c)
    | none => ({ k with loop := k.loop.bankPut outer b pos ((List.range n).map (fun i => d.pay (1 + i))) }, some 0)

/-- 0x0202 BANK_SEAL. -/
def Chan.dBankSeal (k : Chan) (d : Desc) : Chan × Option Nat :=
  let outer := d.bit 0 12
  let b := d.fld 0 8 2
  if !d.onlyBits [0x1300, 0xFFFFFFFF] then (k, some 5)
  else match k.loop.bankRefuse outer b with
    | some c => (k, some c)
    | none => let r := k.loop.seal outer b (d.pay 1); ({ k with loop := r.1 }, some r.2)

/-- 0x0203 BANK_SWAP. -/
def Chan.dBankSwap (k : Chan) (d : Desc) : Chan × Option Nat :=
  if !d.onlyBits [0x13] then (k, some 5) else k.swapReq (d.bit 0 0) (d.bit 0 1) (d.bit 0 4) (d.ref true)

/-- The signed current of a payload word in 0.1 A, and the voltage in 0.1 V (R176). -/
def Desc.iTgt (d : Desc) : Rat := (((d.pay 1).extractLsb' 16 16).toInt : Rat) / 10
def Desc.vTgt (d : Desc) : Rat := (d.fld 1 0 16 : Rat) / 10

/-- 0x0204 LOOP_START. -/
def Chan.dLoopStart (k : Chan) (e : Env) (d : Desc) : Chan × Option Nat :=
  if !d.onlyBits [0x1, 0xFFFFFFFF] then (k, some 5)
  else if k.loop.r.ctrl.spSrc = false then (k, some 0x47)
  else
    let r := k.loopStart e (d.bit 0 0)
    if r.2 then
      ({ r.1 with loop := { r.1.loop with iTgt := d.iTgt, vTgt := d.vTgt }.view }, some 0)
    else (r.1, some 0x48)

/-- 0x0205 LOOP_STOP. -/
def Chan.dLoopStop (k : Chan) (e : Env) (d : Desc) : Chan × Option Nat :=
  if !d.onlyBits [] then (k, some 5) else (k.loopStop e false, some 0)

/-- 0x0206 SETPOINT. -/
def Chan.dSetpoint (k : Chan) (d : Desc) : Chan × Option Nat :=
  if !d.onlyBits [0x3, 0xFFFFFFFF] then (k, some 5)
  else if k.loop.r.ctrl.spSrc = false then (k, some 0x47)
  else if !k.loop.r.status.state.running then (k, some 0x49)
  else
    let l := k.loop
    let l := if d.bit 0 1 then { l with iTgt := d.iTgt } else l
    let l := if d.bit 0 0 then { l with vTgt := d.vTgt } else l
    ({ k with loop := l.view }, some 0)

/-- 0x0207 LIMITS. -/
def Chan.dLimits (k : Chan) (d : Desc) : Chan × Option Nat :=
  let ie := d.fld 0 16 16
  let ii := d.fld 0 0 16
  let vx := d.fld 1 16 16
  let vn := d.fld 1 0 16
  if !d.onlyBits [0xFFFFFFFF, 0xFFFFFFFF] then (k, some 5)
  else if 30000 < ie ∨ 30000 < ii ∨ 12800 < vx ∨ vx ≤ vn then (k, some 0x42)
  else ({ k with
    loop.r.ilimHost := { ilimExp := BitVec.ofNat 16 ie, ilimImp := BitVec.ofNat 16 ii }
    loop.r.vrefLim := { vrefMax := BitVec.ofNat 16 vx, vrefMin := BitVec.ofNat 16 vn } }, some 0)

/-- R171, R673: OT_SD can be cleared: T_MAX has a value below T_SD − SD_HYST (`hot`: the die condition persists). -/
def Chan.otClear (k : Chan) (hot : Bool) : Bool :=
  !hot && match k.loop.tMax with
  | none => false
  | some t => decide (t < k.loop.r.otCfg1.tSd.toInt - (k.loop.r.otCfg3.sdHyst.toNat : Int))

/-- 0x0208 LOOP_CLEAR. A named condition that persists completes with 0x4A and nothing is cleared. -/
def Chan.dLoopClear (k : Chan) (e : Env) (hot : Bool) (d : Desc) : Chan × Option Nat :=
  let f := d.bit 0 0 && decide (k.loop.r.status.state = .fault)
  let o := d.bit 0 1 && k.loop.r.status.otSd
  let b := d.bit 0 2
  if !d.onlyBits [0x7] then (k, some 5)
  else if (f ∧ !k.pwm.noTrip) ∨ (o ∧ !k.otClear hot) ∨ (b ∧ k.loop.r.status.fb) then (k, some 0x4A)
  else
    let k := if f then k.loopIdle e else k
    let k := if o then { k with loop.r.status.otSd := false } else k
    let k := if b then { k with loop.r.status.fbLatch := false } else k
    (k, some 0)

/-- 0x0209 FB_RETURN. -/
def Chan.dFbReturn (k : Chan) (e : Env) (d : Desc) : Chan × Option Nat :=
  if !d.onlyBits [] then (k, some 5)
  else if !k.loop.r.status.fb then (k, some 0x4B)
  else if !k.fbPassed e then (k, some 0x4C)
  else ({ k with loop.fbRet := true }, some 0)

/-! ### Registers with an effect of their own (R188, R189) -/

/-- R188: a write of LOOP_BANK_CTL; SEAL = 1 seals the bank named. BANK 3 is ignored as a value. -/
def Loop.bankCtl (l : Loop) (w : BitVec 32) : Loop :=
  let l := { l with r.bankCtl := { l.r.bankCtl with loop := w.getLsbD 4, bank := w.extractLsb' 0 2 } }
  if w.getLsbD 8 then
    let outer := l.r.bankCtl.loop
    let i := l.r.bankCtl.bank.toNat
    match l.bankRefuse outer i with
    | some _ => { l with r.bankStatus.sealFail := true }
    | none => (l.seal outer i l.r.bankCrc).1
  else l

/-- R189: WORD after an access. -/
def Loop.cselNext (l : Loop) : Loop :=
  { l with r.csel.word := if 40 ≤ l.r.csel.word.toNat then 0 else l.r.csel.word + 1 }

/-- R189: the word LOOP_CDATA shows. -/
def Loop.cdata (l : Loop) : BitVec 32 :=
  if l.r.csel.bank.toNat = 3 then 0 else vget (l.bank l.r.csel.loop l.r.csel.bank.toNat).words l.r.csel.word.toNat 0

/-- R189: a write of LOOP_CDATA. -/
def Loop.cdataWrite (l : Loop) (w : BitVec 32) : Loop :=
  let b := l.r.csel.bank.toNat
  let l := match l.bankRefuse l.r.csel.loop b with
    | some _ => { l with r.status.wrIgn := true }
    | none => l.bankPut l.r.csel.loop b l.r.csel.word.toNat [w]
  l.cselNext

end Sys2Proof.Machine
end

