-- ==== Sys2Proof/Machine/Metro.lean ====
section
/-! DEFINITION. Sys2Proof/Machine/Metro.lean: the metrology engine (spec/05_metrology.md). The streams enter as the
output words of the two filters of R247, whose coefficients the spec does not give (log entry 20). -/

namespace Sys2Proof.Machine

/-! ### Streams and clocks (R244, R246, R250) -/

/-- The clock of stream i is enabled (R243). -/
def Met.clkEn (m : Met) (i : Nat) : Bool := if i ≤ 6 then m.r.ctrl.mclk0En else m.r.ctrl.mclk1En

/-- The clock of stream i runs (R244). -/
def Met.running (m : Met) (i : Nat) : Bool := m.clkRun && m.clkEn i

/-- Stream i. -/
def Met.stream (m : Met) (i : Nat) : StreamSt := vget m.st i {}

/-- A metrology sample of stream i is valid: not faulted, not settling, metered (R258). -/
def Met.valid (m : Met) (i : Nat) : Bool :=
  m.running i && !(m.stream i).flt && decide ((m.stream i).setM = 0)

/-- MET_STATUS.STREAM_OK (R246: the stream is judged and not faulted; DEDUCED: a settling stream shows 1), the energy and the interval registers brought up to date. -/
def Met.view (m : Met) : Met :=
  { m with
    r.status.streamOk := (List.range 12).foldl (fun (x : BitVec 12) i => msetb x i (m.running i && !(m.stream i).flt)) 0
    r.eImpW := #v[DWord.lo m.eImp, DWord.hi m.eImp]
    r.eExpW := #v[DWord.lo m.eExp, DWord.hi m.eExp]
    r.ivl := Vector.ofFn (fun i : Fin 4 => (m.ivl.get i).wh)
    r.ivlWrap := { wAce := (vget m.ivl 3 {}).wraps, wAci := (vget m.ivl 2 {}).wraps
                   wDce := (vget m.ivl 1 {}).wraps, wDci := (vget m.ivl 0 {}).wraps }
    r.ivlCtl := { skip := match m.snap with | some s => s.skip | none => 0 }
    r.capT := #v[BitVec.ofNat 32 m.capT, BitVec.ofNat 32 (m.capT / 2 ^ 32)] }

/-- R244, R250: the clocks change; a clock that stops sets NOT_METERED, one that starts makes its streams settle. -/
def Met.clocks (m : Met) (run en0 en1 : Bool) : Met :=
  let n := { m with clkRun := run, r.ctrl := { m.r.ctrl with mclk0En := en0, mclk1En := en1 } }
  let stopped := (List.range 12).any (fun i => m.running i && !n.running i)
  let st := vMapI n.st (fun i (s : StreamSt) =>
    if n.running i ∧ !m.running i then { s with setF := 3, setM := 40, flt := false } else s)
  { n with st := st, r.status.notMetered := n.r.status.notMetered || stopped, acBad := n.acBad || stopped
           effBad := n.effBad || stopped, effBad3 := n.effBad3 || stopped }.view

/-- R246: stream i shows no transition in 64 clocks. -/
def Met.fault (m : Met) (i : Nat) : Met :=
  if m.running i then
    { m with st := vMod m.st i (fun s => { s with flt := true }), r.streamFlt.flt := msetb m.r.streamFlt.flt i true }.view
  else m

/-- R246, R250: the fault of stream i ends and its filters settle. -/
def Met.faultEnd (m : Met) (i : Nat) : Met :=
  if m.running i ∧ (m.stream i).flt then
    { m with st := vMod m.st i (fun s => { s with flt := false, setF := 3, setM := 40 }) }.view
  else m

/-! ### Calibration (R251 to R255) -/

/-- R251: a raw output as a value in V or A. `den`: the raw value at full scale. -/
def calVal (c : MetCalRegs) (raw : Int) (den : Nat) : Rat :=
  (raw : Rat) / den * ((c.fs.fs.toNat : Rat) / 10) * ((c.gain.toNat : Rat) / 2 ^ 30) + (c.ofs.toInt : Rat) / 1000

/-- R252: a raw output under the legal set, mV or mA. -/
def legalVal (gain ofs : BitVec 32) (raw : Int) : Int :=
  satS 32 (roundHE ((raw : Rat) / 2 ^ 23 * (gain.toNat : Rat) + (ofs.toInt : Rat)))

/-- R254, R255: the staged calibration of a stream comes into force. -/
def Met.apply (m : Met) (sealedLegal : Bool) : Met :=
  let i := m.r.calSel.toNat
  let s := m.stream i
  let lock := sealedLegal && (decide (i = 8) || decide (i = 11))
  let ch := decide (s.stage.fs.skew ≠ s.cal.fs.skew ∨ s.stage.fs.phc ≠ s.cal.fs.phc)
  let c := if lock then { s.stage with fs := { s.stage.fs with skew := s.cal.fs.skew, phc := s.cal.fs.phc } } else s.stage
  { m with st := vMod m.st i (fun s => { s with cal := c, stage := c })
           r.calCtl.lockIgn := m.r.calCtl.lockIgn || (lock && ch), effBad := true }

/-! ### Waveform capture (R281 to R284) -/

/-- The streams a capture records, ascending (R281). -/
def capStreams (c : MetCapCfg) : List Nat :=
  let all := (List.range 12).filter (fun i => mbit c.mask i)
  if c.mode then all.take 4 else all

/-- A sample word (R284). -/
def capWord (raw : Int) (flt nm : Bool) : BitVec 32 :=
  ((BitVec.ofInt 24 raw).setWidth 32 <<< 8) ||| (bit32 flt <<< 7) ||| (bit32 nm <<< 6)

/-- PRE in instants (R281). -/
def capPreN (c : MetCapCfg) : Nat := if c.mode then c.pre.toNat * 200000 else c.pre.toNat * 78125

/-- The total length in ns, less PRE (R282). -/
def capPostNs (c : MetCapCfg) : Nat :=
  if c.mode then 6000000000 - c.pre.toNat * 100000000 else 60000000000 - c.pre.toNat * 1000000000

/-- R281, R282: an instant of the capture's path is recorded. -/
def Met.capTake (m : Met) (fast : Bool) (raws : List Int) : Met :=
  if m.capCfg.mode ≠ fast then m
  else
    let w := (capStreams m.capCfg).map (fun i =>
      let raw := raws.getD i 0
      capWord (if fast then raw * 256 else raw) (m.stream i).flt (!m.running i || decide (0 < (m.stream i).setM)))
    match m.r.capStatus.state with
    | .armed => { m with capBuf := (w :: m.capBuf).take (capPreN m.capCfg) }
    | .post => { m with capBuf := w :: m.capBuf, capLeft := m.capLeft + 1 }
    | _ => m

/-- R282: a trigger of the given bit. -/
def Met.trigger (m : Met) (e : Env) (bit : Nat) : Met :=
  if !mbit m.capCfg.trig bit then m
  else
    match m.r.capStatus.state with
    | .armed =>
      { m with capPre := m.capBuf.length, capLeft := 0, capT := e.site
               r.capStatus := { m.r.capStatus with state := .post, cause := BitVec.ofNat 5 bit } }.view
    | .post | .done => { m with r.capStatus.miss := satInc m.r.capStatus.miss }
    | _ => m

/-- R282: the post-trigger length has elapsed. -/
def Met.postEnd (m : Met) (e : Env) : Met :=
  if m.r.capStatus.state = .post ∧ m.capT + capPostNs m.capCfg ≤ e.site then { m with r.capStatus.state := .done } else m

/-- R282: ERROR from ARMED or POST. -/
def Met.capErr (m : Met) : Met :=
  match m.r.capStatus.state with
  | .armed | .post => { m with r.capStatus.state := .error }
  | _ => m

/-- R284: the words of the capture record of a channel. -/
def Met.capRecord (m : Met) (gcid : Nat) : List (BitVec 32) :=
  let c := m.capCfg
  let ss := capStreams c
  let fs (j : Nat) : BitVec 32 := ((m.stream j).cal.fs.fs).setWidth 32
  let hdr : List (BitVec 32) :=
    [0x01000000 ||| BitVec.ofNat 32 (gcid * 65536 + m.r.capStatus.cause.toNat * 256 + b2n c.mode * 16),
     c.mask.setWidth 32, BitVec.ofNat 32 m.capT, BitVec.ofNat 32 (m.capT / 2 ^ 32), BitVec.ofNat 32 m.capPre,
     BitVec.ofNat 32 m.capBuf.length]
    ++ (List.range 6).map (fun j => fs (2 * j) ||| (fs (2 * j + 1) <<< 16))
    ++ [0, 0, 0, 0]
  hdr ++ if ss.isEmpty then [] else m.capBuf.reverse.flatten

/-! ### The fast path (R248, R249, R91) -/

/-- R91: TAU in units of 0.5 µs, the spacing of fast outputs. -/
def tauOf (v : BitVec 3) : Nat :=
  match v.toNat with
  | 0 => 2000 | 1 => 4000 | 2 => 10000 | 3 => 20000 | 4 => 40000 | 5 => 100000 | _ => 200000

/-- R249, R250: one fast output of stream i; the fast path delivers nothing for a stream that is faulted, settling or
not clocked. -/
def Met.fastOne (m : Met) (i : Nat) (s : StreamSt) (raw : Int) : StreamSt :=
  if !m.running i ∨ s.flt then s
  else if 0 < s.setF then { s with setF := s.setF - 1 }
  else
    { s with raw16 := raw, fast2 := s.fast1, fast1 := s.fast, fast := calVal s.cal raw (2 ^ 15)
             fs := decide (98 * 32768 ≤ raw.natAbs * 100), fresh := true }

/-- R283: bit 3, the threshold of MET_CAP_THR crossed on the fast path. -/
def Met.thrCross (m : Met) (raws : List Int) : Bool × Int :=
  let x := raws.getD m.capThr.stream.toNat 0
  let l := m.capThr.level.toInt
  match m.capPrev with
  | none => (false, x)
  | some y => (if m.capThr.dir then decide (l ≤ y ∧ x < l) else decide (y ≤ l ∧ l < x), x)

/-- R248: the fast-path outputs of one instant reach the loop engine. -/
def Chan.fastOutput (k : Chan) (e : Env) (raws : List Int) : Chan :=
  let m := k.met
  let st := vMapI m.st (fun i (s : StreamSt) => m.fastOne i s (raws.getD i 0))
  let fsl := (List.range 12).foldl (fun (x : BitVec 12) i =>
    let s := vget st i ({} : StreamSt)
    if s.fresh ∧ s.fs then msetb x i true else x) m.r.streamFlt.fsl
  let x := m.thrCross raws
  let m := ({ m with st := st, r.streamFlt.fsl := fsl, capPrev := some x.2 }).capTake true raws
  let m := if x.1 then m.trigger e 3 else m
  let i8 := (m.stream 8).fast
  let y := fine (k.pwm.iFilt + (i8 - k.pwm.iFilt) / tauOf k.pwm.r.shedCfg.tau)
  { k with met := m, pwm.iFilt := y }

/-! ### Billed energy (R262 to R272) -/

/-- R262: billed power in µW from legal values in mV and mA and R_MCS in 0.1 µΩ. -/
def billed (v i : Int) (rmcs : Nat) : Int := v * i - divHE ((rmcs : Int) * (i * i)) (10 ^ 7)

/-- 3.6 × 10^15 µW·ns: one mWh (R265). -/
def mWh : Nat := 3600000000000000

/-- R270: an interval counter gains mWh. -/
def IvlCnt.gain (c : IvlCnt) (n : Nat) : IvlCnt :=
  let r := c.rem + n
  let w := c.wh.toNat + r / 1000
  { wh := BitVec.ofNat 32 w, wraps := c.wraps + BitVec.ofNat 8 (w / 2 ^ 32), tally := c.tally + w / 2 ^ 32, rem := r % 1000 }

/-- R264, R265: billed power over a duration routed to its accumulator, and whole mWh moved to the legal register. -/
def Met.route (m : Met) (p : Int) (d : Nat) : Met :=
  if 0 < p then
    let a := m.accI + p.toNat * d
    { m with accI := a % mWh, eImp := m.eImp + BitVec.ofNat 64 (a / mWh), ivl := vMod m.ivl 0 (fun c => c.gain (a / mWh)) }
  else if p < 0 then
    let a := m.accE + p.natAbs * d
    { m with accE := a % mWh, eExp := m.eExp + BitVec.ofNat 64 (a / mWh), ivl := vMod m.ivl 1 (fun c => c.gain (a / mWh)) }
  else m

/-- R269: the AC accumulators. -/
def Met.routeAc (m : Met) (p : Int) (d : Nat) : Met :=
  if 0 < p then
    let a := m.acI + p.toNat * d
    { m with acI := a % mWh, ivl := vMod m.ivl 2 (fun c => c.gain (a / mWh)) }
  else if p < 0 then
    let a := m.acE + p.natAbs * d
    { m with acE := a % mWh, ivl := vMod m.ivl 3 (fun c => c.gain (a / mWh)) }
  else m

/-- R272: the interval counters at zero; the snapshot is discarded. -/
def Met.ivlZero (m : Met) : Met := { m with ivl := Vector.replicate 4 {}, snap := none, ivlRst := false }

/-- R271: a read of MET_IVL_DCI: the value, and the snapshot taken. -/
def Met.ivlRead (m : Met) : BitVec 32 × Met :=
  let wh := m.ivl.toList.map (fun (c : IvlCnt) => c.wh)
  let skip := (List.range 4).foldl (fun (x : BitVec 4) i => msetb x i (decide (256 ≤ (vget m.ivl i {}).tally))) 0
  (wh.headD 0,
   ({ m with snap := some { wh := wh, wraps := m.ivl.toList.map (fun (c : IvlCnt) => c.wraps), skip := skip }
             ivl := m.ivl.map (fun (c : IvlCnt) => { c with tally := 0 }) }).view)

/-- A mean gains a sample when it is valid. -/
def MeanAcc.add (a : MeanAcc) (ok : Bool) (x : Int) : MeanAcc := if ok then { sum := a.sum + x, n := a.n + 1 } else a

/-- R256: the crossing detector on V_a in mV at a time. -/
def Met.cross (m : Met) (v : Int) (t : Nat) : Met :=
  let h : Int := (m.r.acCfg.vNomAc.toNat : Int) * 2
  if v ≤ -h then { m with zcLow := true }
  else if m.zcLow ∧ 0 ≤ v then
    { m with zcLow := false, zc := m.zc + 1, zcLast := t, zcFirst := if m.zc = 0 then t else m.zcFirst }
  else m

/-- R277: the conditions of a window that are judged at every sample: bad for the map, bad for MET_EFF. -/
def Chan.effSample (k : Chan) (pc pin : Int) (ok : Bool) : Bool × Bool :=
  let s := k.loop.r.status
  let flags := decide (k.met.r.status.phLoss ≠ 0) || k.met.r.status.neutLost || k.met.r.status.ctResid || k.met.r.status.seqErr
  let b3 := !ok || decide (pc < 10000000000) || decide (pin ≤ 0) || flags
  (b3 || !(decide (s.state = .cv) || decide (s.state = .cc)) || s.ramping || s.fb
    || decide (k.pwm.nAct ≠ k.met.effNact) || k.pwm.fading, b3)

/-- R263, R264, R269: one metrology sample of a channel from the raw outputs of the twelve streams. -/
def Chan.metSample (k : Chan) (e : Env) (raws : List Int) : Chan :=
  let m0 := k.met
  let d := e.site - m0.tn.getD e.site
  let m0 := { m0 with st := vMapI m0.st (fun i (s : StreamSt) =>
    { s with raw24 := raws.getD i 0, mval := satS 32 (roundHE (calVal s.cal (raws.getD i 0) (2 ^ 23) * 1000)) }) }
  let x (i : Nat) : Int := (m0.stream i).mval
  let ok (i : Nat) : Bool := m0.valid i
  let lv := legalVal m0.r.lcalVgain m0.r.lcalVofs (raws.getD 11 0)
  let li := legalVal m0.r.lcalIgain m0.r.lcalIofs (raws.getD 8 0)
  let p := billed lv li m0.r.rmcs.rMcs.toNat
  let okL := ok 8 && ok 11
  let okA := (List.range 6).all ok
  let pAc := x 0 * x 3 + x 1 * x 4 + x 2 * x 5
  let m := { m0 with
    tn := some e.site, lv := lv, li := li, pBill := p
    r.status.legalGap := !k.core.meterRole && !okL
    gapMs := m0.gapMs || (!k.core.meterRole && !okL)
    msN := m0.msN + 1
    ms11 := m0.ms11.add (ok 11) (x 11)
    ms := vMapI m0.ms (fun j (a : MeanAcc) =>
      match j with
      | 0 => a.add (ok 7) (x 7) | 1 => a.add (ok 8) (x 8) | 2 => a.add (ok 9) (x 9) | 3 => a.add (ok 10) (x 10)
      | 4 => a.add (ok 11) lv | 5 => a.add (ok 8) li | 6 => a.add (ok 7 && ok 8) (x 7 * x 8) | 7 => a.add okL p
      | _ => a.add okA pAc)
    ac := m0.ac ++ [({ t := e.site, v := (List.range 7).map x } : AcSample)]
    acBad := m0.acBad || !(List.range 7).all ok }
  let m := m.cross (x 0) e.site
  -- billed energy
  let m := if k.core.meterRole ∨ !okL ∨ li.natAbs < m.r.rmcs.iSt.toNat * 10 then m else m.route p d
  let m := if okA then m.routeAc pAc d else m
  let m := if m.ivlRst then m.ivlZero else m
  -- efficiency window
  let b := ({ k with met := m } : Chan).effSample (x 7 * x 8) pAc (okA && ok 7 && ok 8)
  let new10 := decide (e.site / 10000000 ≠ (m0.tn.getD e.site) / 10000000)
  let m := if new10 ∧ 0 < m.effN10 then { m with eff10 := divHE m.effSum10 m.effN10 :: m.eff10, effSum10 := 0, effN10 := 0 } else m
  let m := { m with effCab := m.effCab + x 7 * x 8, effPin := m.effPin + pAc, effN := m.effN + 1, effBad := m.effBad || b.1
                    effBad3 := m.effBad3 || b.2, effSum10 := m.effSum10 + x 7 * x 8, effN10 := m.effN10 + 1 }
  let m := m.capTake false raws
  { k with met := { m with st := m.st.map (fun (s : StreamSt) => { s with setM := s.setM - 1 }) }.view }

/-! ### Millisecond results (R258, R276) -/

/-- The mean of an accumulator in units of `u`, rounded; 0 where no sample is valid. -/
def MeanAcc.mean (a : MeanAcc) (u : Nat) : Int := if a.n = 0 then 0 else divHE a.sum (a.n * u)

/-- R276: the voltage band from V7 in mV and the edges, with hysteresis from the present band. -/
def bandOf (vb : MetEmapVb) (hyst : Nat) (band : Nat) (v : Int) : Nat :=
  let edge (i : Nat) : Int := (if i = 1 then vb.edge1.toNat else if i = 2 then vb.edge2.toNat else vb.edge3.toNat : Nat) * 10000
  let h : Int := (hyst : Int) * 1000
  let up := (List.range 4).foldl (fun b i => if b < i ∧ edge i + h < v then i else b) band
  if band < up then up
  else (List.range 4).foldl (fun b _ => if 0 < b ∧ v < edge b - h then b - 1 else b) band

/-- R258: the DC results and P_IN of the last complete millisecond. -/
def Chan.msResults (k : Chan) : Chan × Bool :=
  let m := k.met
  let a (j : Nat) : MeanAcc := vget m.ms j {}
  let full (j : Nat) : Bool := decide (0 < m.msN) && decide ((a j).n = m.msN)
  let res (j : Nat) : QRes :=
    let v : Int := if j < 6 then (a j).mean 1 else if j < 8 then (a j).mean 1000000
      else satS 24 (if (a j).n = 0 then 0 else ((a j).sum.tdiv (((a j).n * 100000000 : Nat) : Int)))
    { val := toS 32 v, ok := full j }
  let m := { m with
    ms11Res := { val := toS 32 (m.ms11.mean 1), ok := decide (0 < m.msN) && decide (m.ms11.n = m.msN) }, ms11 := {}
    msRes := Vector.ofFn (fun j : Fin 9 => res j.val), msSeq := m.msSeq + 1, msN := 0, ms := Vector.replicate 9 {}
    r.gap := if m.gapMs then satInc m.r.gap else m.r.gap, gapMs := false }
  let old := m.r.status.vband.toNat
  let nb := bandOf m.r.emapVb m.r.emapCfg.vbHyst.toNat old (res 0).val.toInt
  ({ k with met := { m with r.status.vband := BitVec.ofNat 2 nb, effBad := m.effBad || decide (nb ≠ old) } }, nb ≠ old)

/-- A millisecond result as an integer (code 0x20 + j). -/
def Chan.msVal (k : Chan) (j : Nat) : Int := (vget k.met.msRes j {}).val.toInt

/-! ### AC results and wiring checks (R256 to R261) -/

/-- The sum of a function over the samples of a window. -/
def acSum (ss : List AcSample) (f : AcSample → Int) : Int := (ss.map f).foldl (· + ·) 0

/-- The root of a mean square. -/
def rmsOf (ss : List AcSample) (f : AcSample → Int) : Nat :=
  if ss.isEmpty then 0 else isqrtR ((acSum ss (fun s => f s * f s)).toNat / ss.length)

/-- One channel of a sample. -/
def AcSample.x (s : AcSample) (i : Nat) : Int := s.v.getD i 0

/-- R257: the single-bin DFT of a channel at a frequency in mHz: cosine and sine sums, scaled by 2^20. -/
def dft (ss : List AcSample) (fmHz t0 i : Nat) : Int × Int :=
  let ang (s : AcSample) : Int := divHE (2 * fxPi * (fmHz : Int) * ((s.t - t0 : Nat) : Int)) (10 ^ 12)
  (divHE (acSum ss (fun s => s.x i * fxCos (ang s))) (2 ^ 40), divHE (acSum ss (fun s => s.x i * fxSin (ang s))) (2 ^ 40))

/-- The angle of a phasor, 0.01°. -/
def phAngle (d : Int × Int) : Int := angle01 (-d.2) d.1

/-- The lag of phasor b behind phasor a, 0.01° (R257). -/
def lagOf (a b : Int × Int) : Nat := ((phAngle a - phAngle b) % 36000).toNat

/-- R257: the results of one window, codes 0x00 to 0x1D, as integers. `fOk`: cycle-aligned with a valid frequency. -/
def acResults (c : MetAcCfg) (fsI : Nat → Nat) (ss : List AcSample) (fmHz : Nat) : List Int :=
  let n : Nat := max 1 ss.length
  let t0 := (ss.headD { t := 0, v := [] }).t
  let D := (List.range 6).map (fun i => dft ss fmHz t0 i)
  let dd (i : Nat) : Int × Int := D.getD i (0, 0)
  let rms (i : Nat) : Int := rmsOf ss (fun s => s.x i)
  let pw (p : Nat) : Int := divHE (acSum ss (fun s => s.x p * s.x (3 + p))) (n * 1000000)
  let q (p : Nat) : Int :=
    let v := dd p
    let i := dd (3 + p)
    divHE (2 * (v.1 * i.2 - v.2 * i.1)) (n * n * 2 ^ 40 * 1000000)
  let sv (p : Nat) : Int := rms p * rms (3 + p)
  let s (p : Nat) : Int := divHE (sv p) 1000000
  let thr (p : Nat) : Int := (c.vNomAc.toNat * 100 * (fsI p * 100) / 1000 : Nat)
  let pf (P S : Int) (Sv : Int) (p : Nat) : Int :=
    if Sv < thr p ∨ S ≤ 0 then 0 else divHE (P * 10000) S.toNat
  let p3 := pw 0 + pw 1 + pw 2
  let s3 := s 0 + s 1 + s 2
  [rms 0, rms 1, rms 2, rms 3, rms 4, rms 5, rms 6, fmHz, pw 0, pw 1, pw 2, p3, q 0, q 1, q 2, q 0 + q 1 + q 2,
   s 0, s 1, s 2, s3, pf (pw 0) (s 0) (sv 0) 0, pf (pw 1) (s 1) (sv 1) 1, pf (pw 2) (s 2) (sv 2) 2,
   pf p3 s3 (sv 0 + sv 1 + sv 2) 0, lagOf (dd 0) (dd 1), lagOf (dd 0) (dd 2), lagOf (dd 0) (dd 3), lagOf (dd 1) (dd 4),
   lagOf (dd 2) (dd 5), rmsOf ss (fun s => divHE (s.x 0 + s.x 1 + s.x 2) 3)]

/-- R259: the supply sequence from the lags of V_b and V_c: 0 unknown, 1 ABC, 2 ACB. -/
def seqOf (lb lc : Int) : Nat :=
  let near (x y : Int) : Bool := decide ((x - y).natAbs ≤ 2000)
  if near lb 12000 && near lc 24000 then 1 else if near lb 24000 && near lc 12000 then 2 else 0

/-- R256, R257: the end of an AC window: results, sequence and wiring checks. -/
def Chan.acWindow (k : Chan) (e : Env) : Chan :=
  let m := k.met
  let c := m.r.acCfg
  let ss := m.ac
  let va := rmsOf ss (fun s => s.x 0)
  let fixed := decide (va * 2 < c.vNomAc.toNat * 100) || decide (m.zc < 2) || decide (m.zcLast + 50000000 < e.site)
  let nom := if c.nomF then 60000 else 50000
  let f := if fixed then nom else (m.zc - 1) * 1000000000000 / max 1 (m.zcLast - m.zcFirst)
  let fOk := !fixed && decide (40000 ≤ f) && decide (f ≤ 70000)
  let rs := acResults c (fun p => (m.stream (3 + p)).cal.fs.fs.toNat) ss f
  let ok := !m.acBad && !ss.isEmpty
  let r (i : Nat) : Int := rs.getD i 0
  let sq := seqOf (r 0x18) (r 0x19)
  let m1 := { m with
    acRes := Vector.ofFn (fun i : Fin 30 => { val := toS 32 (r i.val), ok := ok && (i.val ≠ 7 || fOk) : QRes })
    acSeq := m.acSeq + 1, ac := [], acBad := false, zc := 0, r.status.freqValid := fOk }
  if !ok then { k with met := m1 }
  else
    let vn : Int := c.vNomAc.toNat
    let w3 := c.wiring
    let pl := (List.range 3).foldl (fun (x : BitVec 3) p =>
      if r p * 2 < vn * 100 then msetb x p true else if vn * 60 ≤ r p then msetb x p false else x) m.r.status.phLoss
    let neut := !w3 && decide ((m.r.acCfg2.v0Thr.toNat : Int) * vn / 10 < r 0x1D)
      && decide (r 6 < (m.r.acCfg2.inMin.toNat : Int) * 100)
    let nRun := if neut then m.neutRun + 1 else 0
    let nOff := if neut then 0 else m.neutOff + 1
    let nl := if 3 ≤ nRun then true else if 3 ≤ nOff then false else m.r.status.neutLost
    let resid := rmsOf ss (fun s => s.x 3 + s.x 4 + s.x 5 + if w3 then 0 else s.x 6)
    let ctc := decide (m.r.acCfg2.resThr.toNat * 1000 < resid)
    let cOff := if ctc then 0 else m.ctOff + 1
    let ct := if ctc then true else if 3 ≤ cOff then false else m.r.status.ctResid
    let se := decide (sq ≠ 0) && decide (sq ≠ 1 + b2n c.seqExp)
    let s0 := m.r.status
    let m2 := { m1 with neutRun := nRun, neutOff := nOff, ctOff := cOff
                        r.status := { m1.r.status with seq := BitVec.ofNat 2 sq, seqErr := se, phLoss := pl, neutLost := nl, ctResid := ct } }
    let k := { k with met := m2 }
    let k := if pl ≠ s0.phLoss then k.jr e .met JEv.phLoss [pl.toNat] else k
    let k := if nl ≠ s0.neutLost then k.jr e .met JEv.neutLost [b2n nl] else k
    let k := if ct ≠ s0.ctResid then k.jr e .met JEv.ctResid [b2n ct] else k
    if se ≠ s0.seqErr then k.jr e .met JEv.seqErr [b2n se] else k

/-! ### Efficiency map (R277 to R280) -/

/-- R278: one update of a bin. -/
def EBin.upd (b : EBin) (x : Nat) : EBin :=
  { eta := if b.cnt = 0 then toU 16 x else toU 16 ((b.eta.toNat : Int) + divHE ((x : Int) - b.eta.toNat) 16), cnt := satInc b.cnt }

/-- R277 to R279: the end of a 100 ms window. -/
def Chan.effEnd (k : Chan) : Chan :=
  let m := k.met
  let n := max 1 m.effN
  let mean := divHE m.effCab n
  let tens := if 0 < m.effN10 then divHE m.effSum10 m.effN10 :: m.eff10 else m.eff10
  let flat := tens.all (fun t => decide ((t - mean).natAbs * 50 ≤ mean.natAbs))
  let eta : Rat := if 0 < m.effPin then (m.effCab : Rat) / (m.effPin : Rat) else 0
  let c7 := decide (1 / 2 ≤ eta) && decide (eta ≤ 1)
  let used := decide (0 < m.effN) && !m.effBad && flat && c7 && m.r.emapCfg.en && !k.core.meterRole
  let pPh := mean / ((max 1 m.effNact : Nat) : Int)
  let bin := if m.r.emapCfg.pbin = 0 then 31 else min 31 (pPh / ((m.r.emapCfg.pbin.toNat * 100 * 1000000 : Nat) : Int)).toNat
  let x := satU 16 (roundHE (eta * 65536))
  let emap := if used then vMod m.emap m.r.status.vband.toNat (fun v => vMod v bin (fun b => b.upd x)) else m.emap
  let w : EffWin := { cab := m.effCab, pin := m.effPin, ok := decide (0 < m.effN) && !m.effBad3 && c7 }
  let ws := (w :: m.wins).take 10
  let cab : Int := (ws.map (fun (x : EffWin) => x.cab)).foldl (· + ·) (0 : Int)
  let pin : Int := (ws.map (fun (x : EffWin) => x.pin)).foldl (· + ·) (0 : Int)
  let eff : MetEff :=
    { valid := decide (ws.length = 10) && ws.all (·.ok)
      eta1s := if 0 < pin then toU 16 (roundHE ((cab : Rat) / (pin : Rat) * 65536)) else 0 }
  { k with met := { m with
      emap := emap, wins := ws, r.eff := eff, effCab := 0, effPin := 0, effN := 0, effBad := false, effBad3 := false
      eff10 := [], effSum10 := 0, effN10 := 0, effNact := k.pwm.nAct } }

/-- R296: a write to MET_EMAP_SEL captures the bin selected. -/
def Met.emapSel (m : Met) (w : BitVec 32) : Met :=
  let b := vget (vget m.emap (w.extractLsb' 8 2).toNat (Vector.replicate 32 {})) (w.extractLsb' 0 5).toNat {}
  { m with r.emapSel := { band := w.extractLsb' 8 2, bin := w.extractLsb' 0 5 }
           r.emapData := { valid := decide (8 ≤ b.cnt.toNat), count := b.cnt, eta := b.eta } }

/-- R294: a write to MET_Q_SEL captures both data words of the result selected. -/
def Met.qSel (m : Met) (w : BitVec 32) : Met :=
  let c := (w.extractLsb' 0 6).toNat
  let q : QRes := if c < 0x1E then vget m.acRes c {} else if 0x20 ≤ c ∧ c ≤ 0x28 then vget m.msRes (c - 0x20) {} else {}
  { m with r.qSel := w.extractLsb' 0 6, r.qData0 := q.val
           r.qData1 := { valid := q.ok, seq := if c < 0x1E then m.acSeq else if 0x20 ≤ c ∧ c ≤ 0x28 then m.msSeq else 0 } }

/-- R280: the map is stored. -/
def Met.emapStore (m : Met) : Met := { m with emapNv := m.emap }

/-! ### Descriptors (R286 to R288) -/

/-- 0x0401 CAP_ARM. -/
def Chan.dCapArm (k : Chan) (d : Desc) : Chan × Option Nat :=
  if !d.onlyBits [] then (k, some 5)
  else match k.met.r.capStatus.state with
    | .armed | .post => (k, some 0x60)
    | _ => ({ k with met := { k.met with
        capCfg := k.met.r.capCfg, capThr := k.met.r.capThr, capBuf := [], capPre := 0, capLeft := 0, capPrev := none
        r.capStatus := { state := .armed, cause := 0, miss := 0 } } }, some 0)

/-- 0x0402 CAP_TRIGGER. -/
def Chan.dCapTrigger (k : Chan) (e : Env) (d : Desc) : Chan × Option Nat :=
  if !d.onlyBits [] then (k, some 5)
  else if k.met.r.capStatus.state ≠ .armed then (k, some 0x60)
  else if !mbit k.met.capCfg.trig 4 then (k, some 0x62)
  else ({ k with met := k.met.trigger e 4 }, some 0)

/-- 0x0403 CAP_READ: the words to stream, or the code of R288. -/
def Chan.capWords (k : Chan) (gcid : Nat) (d : Desc) : Sum Nat (List (BitVec 32)) :=
  let off := (d.pay 1).toNat
  let n := (d.pay 2).toNat
  if !d.onlyBits [0x7, 0xFFFFFFFF, 0xFFFFFFFF] then .inl 5
  else if k.met.r.capStatus.state ≠ .done then .inl 0x60
  else
    let rec' := k.met.capRecord gcid
    if n < 1 ∨ 2 ^ 20 < n ∨ rec'.length < off + n then .inl 0x61 else .inr ((rec'.drop off).take n)

/-- 0x0404 EMAP_CLEAR. -/
def Chan.dEmapClear (k : Chan) (d : Desc) : Chan × Option Nat :=
  if !d.onlyBits [0xF] then (k, some 5)
  else if k.core.meterRole then (k, some 0x64)
  else
    let clr (v : Vector (Vector EBin 32) 4) : Vector (Vector EBin 32) 4 :=
      vMapI v (fun b (x : Vector EBin 32) => if d.bit 0 b then Vector.replicate 32 {} else x)
    ({ k with met := { k.met with emap := clr k.met.emap, emapNv := clr k.met.emapNv } }, some 0)

end Sys2Proof.Machine
end

