-- ==== Sys2Proof/Machine/Grant.lean ====
section
/-! DEFINITION. Sys2Proof/Machine/Grant.lean: what a channel does with grant records and without them (R225 to R231). -/

namespace Sys2Proof.Machine

/-- R13: `a` is later than `b` modulo 2^n. -/
def laterBv {n : Nat} (a b : BitVec n) : Bool := decide (0 < (a - b).toNat ∧ (a - b).toNat < 2 ^ (n - 1))

/-! ### The channel's own map at an input power (R199, R225) -/

/-- The bins of the present band: ETA where VALID (R278). -/
def Met.bins (m : Met) : List (Option Nat) :=
  ((vget m.emap m.r.status.vband.toNat (Vector.replicate 32 {})).toList).map
    (fun (b : EBin) => if 8 ≤ b.cnt.toNat then some b.eta.toNat else none)

/-- Half a bin width in W (R278). -/
def Met.halfBin (m : Met) : Rat := ((m.r.emapCfg.pbin.toNat * 50 : Nat) : Rat)

/-- The phase counts a curve covers: min(N_MIN, N_en) to N_en (R199). -/
def Pwm.curveNs (p : Pwm) : List Nat := ((List.range (p.nEn + 1)).filter (fun n => p.nMin ≤ n ∧ 0 < n))

/-- R199: the count of least loss at input power x in W, ties to the larger count, and the efficiency there; none
where no count has valid data. At one input the least loss is the greatest efficiency. -/
def Chan.bestEta (k : Chan) (x : Rat) : Option (Nat × Rat) :=
  let hb := k.met.halfBin
  if hb ≤ 0 then none
  else
    k.pwm.curveNs.foldl (fun (acc : Option (Nat × Rat)) (n : Nat) =>
      match etaAt k.met.bins (x / n / hb) with
      | none => acc
      | some e => match acc with
        | none => some (n, e)
        | some b => if b.2 ≤ e then some (n, e) else some b) none

/-! ### Turning a grant into limits (R225, R226) -/

/-- R225: η_s. -/
def Chan.etaS (k : Chan) : Rat :=
  let c := k.grant.r.cfg
  let a := (k.bestEta (k.grant.r.imp.toNat * 100 : Nat)).map (·.2)
  let b : Option Rat := if k.met.r.eff.valid then some ((k.met.r.eff.eta1s.toNat : Rat) / 65536) else none
  let less (x : Rat) : Rat := max 0 (x - (c.effMargin.toNat : Rat) / 1000)
  match a, b with
  | some x, some y => less (min x y)
  | some x, none => less x
  | none, some y => less y
  | none, none => min 1 (1 / 2 + (c.effMin.toNat : Rat) / 200)

/-- The η_s in force: the reduced one where R226 keeps one. -/
def Chan.etaNow (k : Chan) : Rat := k.grant.etaRed.getD k.etaS

/-- CH_GRANT_PLIM and the limits of R149 from an efficiency. -/
def Chan.limitsFrom (k : Chan) (eta : Rat) : Chan :=
  let p := toU 24 (truncZ ((k.grant.r.imp.toNat : Rat) * eta))
  { k with grant := { k.grant with
      r.plim := p
      plimI := ((p.toNat * 100 : Nat) : Rat)
      plimE := ((k.grant.r.exp.toNat * 100 : Nat) : Rat) } }

/-- R225: P_LIM_IMP and P_LIM_EXP. -/
def Chan.grantLimits (k : Chan) : Chan := k.limitsFrom k.etaNow

/-- P_IN over the last 1 ms in units of 100 W, signed (R197, R258). -/
def Chan.pIn (k : Chan) : Int := k.msVal 8

/-- R226: the 1 ms comparison of P_IN with G_IMP. -/
def Chan.pinCheck (k : Chan) (e : Env) : Chan :=
  let g : Int := k.grant.r.imp.toNat
  let p := k.pIn
  if k.core.meterRole then k
  else if g < p then
    let q : Rat := (g : Rat) / (p : Rat)
    let lim := toU 24 (truncZ ((k.grant.r.plim.toNat : Rat) * q))
    { k with grant := { k.grant with
        etaRed := some (k.etaNow * q)
        okSince := none
        r.plim := lim
        plimI := ((lim.toNat * 100 : Nat) : Rat) } }
  else if k.grant.etaRed.isNone then k
  else
    let t := k.grant.okSince.getD e.now
    if t + msNs 100 ≤ e.now ∧ k.grant.r.state.state ≠ .hold then
      ({ k with grant := { k.grant with etaRed := none, okSince := none } } : Chan).grantLimits
    else { k with grant := { k.grant with okSince := some t } }

/-! ### Grant records (R227, R228, R231) -/

/-- The header of a grant frame and one of its records (R219). -/
structure GrantMsg where
  epoch : BitVec 32
  gen : BitVec 16
  large : Bool
  nid : BitVec 6
  eLen : BitVec 7
  gcid : BitVec 8
  imp : BitVec 24
  exp : BitVec 24
  nRec : BitVec 5
  floor : BitVec 24
  theta : BitVec 16
  deriving DecidableEq, Repr

/-- R219: a header's words 0, 1 and 2 and a record's four words read as a message. -/
def GrantMsg.ofWords (h0 h1 h2 r0 r1 r2 r3 : Word) : GrantMsg :=
  { epoch := h0, gen := h1.extractLsb' 16 16, large := h1.getLsbD 7, nid := h1.extractLsb' 0 6, eLen := h2.extractLsb' 0 7
    gcid := r1.extractLsb' 24 8, imp := r0.extractLsb' 0 24, exp := r1.extractLsb' 0 24, nRec := r2.extractLsb' 24 5
    floor := r2.extractLsb' 0 24, theta := r3.extractLsb' 0 16 }

/-- R227: the record is valid for a channel of the GCID. While a channel merges, the lower engine's own generation is
its bound (R231). -/
def Grant.valid (g : Grant) (gcid : Nat) (m : GrantMsg) : Bool :=
  let genOk := match g.hi with
    | none => true
    | some h => !(laterBv h.gen m.gen) ||
        (match g.lo with
         | some l => decide (l.nid = m.nid.toNat) && !(laterBv l.gen m.gen)
         | none => false)
  let epOk := match g.lastEp.lookup m.nid.toNat with
    | none => true
    | some x => laterBv m.epoch x
  -- R232: a second record of one generation and one epoch is ignored
  let dup := match g.hi with
    | some h => decide (h.gen = m.gen ∧ h.epoch = m.epoch)
    | none => false
  decide (m.gcid.toNat = gcid) && genOk && epOk && !dup

/-- The lesser of two grant values. -/
def minBv {n : Nat} (a b : BitVec n) : BitVec n := if a.toNat ≤ b.toNat then a else b

/-- R228, R231: the grants in force from the records held. -/
def Chan.grantForce (k : Chan) : Chan :=
  match k.grant.hi with
  | none => k
  | some h =>
    let l := k.grant.lo.getD h
    let k : Chan := { k with
      grant := { k.grant with
        r.imp := minBv h.imp l.imp
        r.exp := minBv h.exp l.exp
        r.flr := minBv h.floor l.floor
        r.state.merge := k.grant.lo.isSome }
      pwm := ({ k.pwm with nRec := h.nRec, thGrant := h.theta } : Pwm).goals }
    k.grantLimits

/-- R228, R231: a valid grant record is taken. -/
def Chan.grantTake (k : Chan) (e : Env) (m : GrantMsg) : Chan :=
  let g := k.grant
  let rec_ : GrantRec :=
    { nid := m.nid.toNat, gen := m.gen, epoch := m.epoch, imp := m.imp, exp := m.exp, floor := m.floor
      nRec := m.nRec.toNat, theta := m.theta.toNat, at_ := e.now }
  let E := m.eLen.toNat * 10000
  let res : Option GrantRec × Option GrantRec × Nat := match g.hi with
    | none => (some rec_, none, 0)
    | some h =>
      if laterBv h.gen m.gen then (some h, some rec_, 0)
      else if h.nid ≠ rec_.nid ∧ e.now ≤ h.at_ + 2 * E then (some rec_, some h, 1)
      else if g.lo.isSome then
        if 1 ≤ g.hiRun then (some rec_, none, 0) else (some rec_, g.lo, g.hiRun + 1)
      else (some rec_, none, 0)
  let g : Grant := { g with
    hi := res.1, lo := res.2.1, hiRun := res.2.2, seen := true, tValid := e.now, eLen := E
    lastEp := (rec_.nid, m.epoch) :: g.lastEp.filter (fun x => x.1 ≠ rec_.nid)
    ackPend := true
    r.epoch := m.epoch
    r.state := { g.r.state with state := .granted, large := m.large, coordNid := m.nid, gen := m.gen } }
  ({ k with grant := g } : Chan).grantForce

/-- R228: a grant record reaches the channel. -/
def Chan.grantRecord (k : Chan) (e : Env) (gcid : Nat) (m : GrantMsg) : Chan :=
  if k.core.meterRole ∨ !k.grant.valid gcid m then k else k.grantTake e m

/-- R227: the hold time, ns. -/
def Grant.holdNs (g : Grant) : Nat :=
  if g.r.state.large then 3 * g.eLen else max (msNs g.r.cfg.tHold.toNat) (msNs 30)

/-- R228: no valid record for 1.5 E. -/
def Chan.grantHold (k : Chan) (e : Env) : Chan :=
  if k.grant.r.state.state = .granted ∧ 2 * k.grant.tValid + 3 * k.grant.eLen ≤ 2 * e.now then
    { k with grant.r.state := { k.grant.r.state with state := .hold, holdSeen := true } }
  else k

/-- R228: H has elapsed since the last valid record. -/
def Chan.grantFloor (k : Chan) (e : Env) : Chan :=
  if k.grant.r.state.state = .hold ∧ k.grant.tValid + k.grant.holdNs ≤ e.now then
    ({ k with grant := { k.grant with
        ackPend := true
        r.imp := k.grant.r.flr
        r.exp := 0
        r.state.state := .floor } } : Chan).grantLimits
  else k

/-- R231: 2 E has passed with no record from the lower generation. -/
def Chan.mergeTimeout (k : Chan) (e : Env) : Chan :=
  match k.grant.lo with
  | some l =>
    if l.at_ + 2 * k.grant.eLen ≤ e.now then ({ k with grant := { k.grant with lo := none, hiRun := 0 } } : Chan).grantForce
    else k
  | none => k

/-- R228: a Sole reset. -/
def Chan.grantBoot (k : Chan) : Chan :=
  if k.core.meterRole then
    { k with grant := { ({} : Grant) with r := { ({} : GrantRegs) with
        cfg := k.grant.r.cfg, floor := k.grant.r.floor, pmax := k.grant.r.pmax, state := { state := .meter } }, pcDef := k.grant.pcDef, pcSet := k.grant.pcSet } }
  else
    ({ k with grant := { ({} : Grant) with
        apImp := k.grant.r.floor, pcDef := k.grant.pcDef, pcSet := k.grant.pcSet
        r := { ({} : GrantRegs) with
          cfg := k.grant.r.cfg, floor := k.grant.r.floor, pmax := k.grant.r.pmax, imp := k.grant.r.floor
          flr := k.grant.r.floor } } } : Chan).grantLimits

/-! ### The curve record (R199) -/

/-- R199: bin j of the curve: VALID, N_BEST and ETA. -/
def Chan.curveBin (k : Chan) (j : Nat) : Word :=
  let x : Rat := ((2 * j + 1 : Nat) : Rat) * ((k.grant.r.pmax.toNat * 100 : Nat) : Rat) / 64
  match k.bestEta x with
  | none => 0
  | some (n, e) => (1#32 <<< 31) ||| (BitVec.ofNat 32 (n % 32) <<< 16) ||| BitVec.ofNat 32 (satU 16 (roundHE (e * 65536)))

/-- R199: the 34 words of the curve record. -/
def Chan.curveRecord (k : Chan) (gcid : Nat) : List Word :=
  [(BitVec.ofNat 32 gcid <<< 24) ||| k.grant.r.pmax.setWidth 32, k.met.r.status.vband.setWidth 32]
    ++ (List.range 32).map k.curveBin

end Sys2Proof.Machine
end

