-- ==== Sys2Proof/Machine/StLast.lean ====
section
/-! DEFINITION. Sys2Proof/Machine/StLast.lean: the state of a hub's Last engine and of its part in the coordinator pair
(R196 to R242, R547 to R578). Power is in units of 100 W. -/

namespace Sys2Proof.Machine

/-- The stored configuration of a GCID (R233). -/
structure CtxCfg where
  conf : Bool := false
  meter : Bool := false
  fdr : BitVec 3 := 0
  ig : BitVec 4 := 0
  pcDef : BitVec 3 := 0
  floor : Nat := 0
  pmax : Nat := 0
  tHold : Nat := 0
  deriving DecidableEq, Repr

/-- A context record (R197). -/
structure CtxRec where
  imp : Nat
  exp : Nat
  ackEpoch : BitVec 32
  ackGen : BitVec 16
  gstate : Nat
  meter : Bool
  ofsOk : Bool
  pc : Nat
  ackValid : Bool
  nEn : Nat
  req : Nat
  reqX : Nat
  pIn : Int
  per : Nat
  deriving DecidableEq, Repr

/-- One context (R222). -/
structure Ctx where
  gcid : Nat
  st : CtxState := .unconf
  cfg : CtxCfg := {}
  /-- newest record of the newest snapshot, and the epochs since -/
  rec' : Option CtxRec := none
  silent : Nat := 0
  /-- issued, acknowledged and, from the join on, held grants, import and export (R212, R222) -/
  gIss : Nat := 0
  gAck : Nat := 0
  hold : Nat := 0
  gIssX : Nat := 0
  gAckX : Nat := 0
  /-- epoch being planned when the context joined (R222) -/
  joinEp : BitVec 32 := 0
  /-- reserved power, import and export (R222, R223) -/
  resv : Nat := 0
  resvX : Nat := 0
  /-- epochs a fall has been unacknowledged; ACK_LATE (R216) -/
  fallRun : Nat := 0
  late : Bool := false
  /-- a record of the present generation has been acknowledged (R555) -/
  acked : Bool := true
  nRec : Nat := 0
  theta : Nat := 0
  price : Nat := 0
  floorEff : Nat := 0
  /-- floor last issued (R222) -/
  floorLast : Nat := 0
  /-- the curve as words of R551: VALID, N_BEST, price of segment j; its band and arrival, ns (R206) -/
  curve : Option (List Word × Nat × Nat) := none
  /-- GHOST ends at, ns -/
  tGhost : Option Nat := none
  deriving DecidableEq, Repr

/-- What reaches the engine and is taken at the next snapshot (R205, R222). -/
inductive EngIn where
  | ctx (gcid : Nat) (r : CtxRec)
  | curve (gcid : Nat) (ws : List Word) (t : Nat)
  | depart (nid : Nat)
  | conf (gcid : Nat)
  | unconf (gcid : Nat)
  | release (nid : Nat)
  deriving DecidableEq, Repr

/-- A curtailment: its cap and its end, ns (R220). -/
structure Curt where
  cap : Nat
  tEnd : Option Nat
  deriving DecidableEq, Repr

/-- A configuration broadcast and not yet stored by every present node (R233). -/
structure CfgPend where
  ref : DescRef
  words : List Word
  left : List Nat
  t : Nat
  deriving DecidableEq, Repr

/-- The Last engine of a hub. -/
structure Last where
  /-- its registers (R236) -/
  r : LastRegs := {}
  /-- contexts, ascending GCID; a GCID not listed is UNCONF -/
  ctxs : List Ctx := []
  inbox : List EngIn := []
  /-- the next boundary, site time in ns; E in force, ns; a new E and the time it was accepted, ns (R204) -/
  tNext : Option Nat := none
  eLen : Nat := 100000
  eNew : Option (Nat × Nat) := none
  /-- curtailments of feeders 0 to 7 and the site at 8 -/
  curt : Vector (Option Curt) 9 := Vector.replicate 9 none
  /-- filtered meter load of feeders 0 to 7 and the site, 2^-16 of 100 W (R201); epochs in a row a meter was over its cap -/
  mf : Vector Int 9 := Vector.replicate 9 0
  overRun : Vector Nat 9 := Vector.replicate 9 0
  pend : List CfgPend := []
  /-- descriptors this hub passed on to the active engine: the engine's identifier and the issuer's reference (R233) -/
  fwd : List (Nat × DescRef) := []
  deriving DecidableEq, Repr

/-- A grant frame seen (R219): issuer, generation, epoch, E in ns, time of arrival and its records: GCID, G_IMP, G_EXP,
FLOOR. -/
structure GFrame where
  nid : Nat
  gen : BitVec 16
  epoch : BitVec 32
  eLen : Nat
  t : Nat
  recs : List (Nat × Nat × Nat × Nat)
  deriving DecidableEq, Repr

/-- One context of the mirror (R551). -/
structure MirCtx where
  gcid : Nat
  st : Nat
  late : Bool
  pc : Nat
  req : Nat
  reqX : Nat
  gAck : Nat
  gAckX : Nat
  resv : Nat
  pIn : Int
  ackEpoch : BitVec 32
  timer : Nat
  deriving DecidableEq, Repr

/-- One cap of the mirror (R551): cap, curtailment in force, CAP_EFF, CURT_LEFT in ms. -/
structure MirCap where
  cap : Nat
  curt : Bool
  eff : Nat
  left : Word
  deriving DecidableEq, Repr

/-- A checkpoint: generation, epoch, parts expected and received, its contexts: GCID, band, curve age, 32 words. -/
structure Ckpt where
  gen : BitVec 16
  epoch : BitVec 32
  parts : Nat
  got : List Nat
  ctxs : List (Nat × Nat × Nat × List Word)
  t : Nat
  deriving DecidableEq, Repr

/-- A planned swap (R560): EPOCH_S, SWAP_ACK received, the descriptor that asked (at the active engine). -/
structure SwapSt where
  epochS : BitVec 32
  acked : Bool
  ref : Option DescRef
  /-- the standby named, or the active engine that asked -/
  peer : Nat
  deriving DecidableEq, Repr

/-- A hub's part in the coordinator pair. -/
structure Pair where
  /-- its registers (R576) -/
  r : PairRegs := {}
  /-- the newest valid grant frame of another engine: issuer, generation, time (R548) -/
  act : Option (Nat × BitVec 16 × Nat) := none
  /-- any generation seen (R548) -/
  genSeen : BitVec 16 := 0
  /-- time from which no active engine has been present, ns -/
  tGone : Nat := 0
  /-- grant frames of the newest epochs, newest first -/
  frames : List GFrame := []
  /-- newest mirror: epoch, caps, contexts; mirrors held in a row -/
  mirEpoch : Option (BitVec 32) := none
  mirCaps : List MirCap := []
  mirCtx : List MirCtx := []
  mirRun : Nat := 0
  /-- newest complete checkpoint, and the one being received -/
  ckpt : Option Ckpt := none
  part : Option Ckpt := none
  /-- the last epoch judged; unverifiable epochs in a row (R552, R554) -/
  judged : Option (BitVec 32) := none
  unver : Nat := 0
  swap : Option SwapSt := none
  /-- another engine issues too since, ns (R556) -/
  tOver : Option Nat := none
  /-- the resting planner wakes and is ready at, ns (R557) -/
  tWake : Option Nat := none
  /-- a TAKEOVER frame named this engine (R548) -/
  demote : Bool := false
  /-- N_ref and the NIDs of then (R559) -/
  nRef : List Nat := []
  deriving DecidableEq, Repr

/-- The coordinator of a hub: its engine, its part in the pair and what it sends: frames, completions, journal entries
and configurations for its own node to store. -/
structure Eng where
  last : Last := {}
  pair : Pair := {}
  tx : List (FType × Option Nat × List Word) := []
  cq : List Compl := []
  jq : List JEntry := []
  store : List (List Word) := []
  deriving DecidableEq, Repr

/-- The firmware of one target: the hub or a channel (R565 to R568, R703 to R705). -/
structure FwSt where
  /-- the images of slots 0 and 1, and the staged image, as words with their header; none: empty or invalid; `some []` is
  the image the die was made with -/
  s0 : Option (List Word) := some []
  s1 : Option (List Word) := none
  staged : Option (List Word) := none
  /-- the slot pointer: BOOT, PREV and TRIAL (R703) -/
  boot : Bool := false
  prev : Bool := false
  trialF : Bool := false
  /-- a commit is writing the inactive slot; since, ns (R704) -/
  commit : Bool := false
  tCommit : Nat := 0
  /-- an activation or reactivation is running; since, ns; it goes back to the previous slot (R566 to R568) -/
  act : Bool := false
  tAct : Nat := 0
  back : Bool := false
  /-- the descriptor whose commit or activation is running -/
  ref : Option DescRef := none
  /-- end of the trial, ns (R568) -/
  tTrial : Option Nat := none
  /-- length of the trial asked, ns -/
  trial : Nat := 0
  deriving DecidableEq, Repr

end Sys2Proof.Machine
end

