-- ==== Sys2Proof/Machine/Planner.lean ====
section
/-! DEFINITION. Sys2Proof/Machine/Planner.lean: prices, water-filling and the admission of rises (R206 to R218). Power is in
units of 100 W; caps are feeders 0 to 7 and the site at 8. -/

namespace Sys2Proof.Machine

/-! ### Prices (R206) -/

/-- η at an input x of a curve: bin centres x_j = (j + 1/2) PMAX / 32, linear between them, held outside. -/
def etaCurve (pmax : Nat) (eta : Nat → Rat) (x : Rat) : Rat :=
  let y : Rat := x * 32 / (pmax : Rat) - 1 / 2
  if y ≤ 0 then eta 0
  else if 31 ≤ y then eta 31
  else
    let j := y.floor.toNat
    eta j + (eta (j + 1) - eta j) * (y - (j : Rat))

/-- A run joined to the runs before it while they are dearer: each run as its sum and length, newest first. -/
def poolMerge : (Rat × Nat) → List (Rat × Nat) → List (Rat × Nat)
  | x, [] => [x]
  | x, y :: ys => if x.1 * (y.2 : Rat) < y.1 * (x.2 : Rat) then poolMerge (x.1 + y.1, x.2 + y.2) ys else x :: y :: ys

/-- Runs of decreasing prices, newest first. -/
def poolRuns (ps : List Rat) : List (Rat × Nat) := ps.foldl (fun acc p => poolMerge (p, 1) acc) []

/-- R206: the prices made non-decreasing. -/
def pool (ps : List Rat) : List Rat :=
  (poolRuns ps).reverse.flatMap (fun (r : Rat × Nat) => List.replicate r.2 (r.1 / (r.2 : Rat)))

/-- A price quantised to 16 bits, rounding up. -/
def quantPrice (p : Rat) : Nat := min 65535 (ceilNat (p * 65536))

/-- R206: the segment prices of a curve record's 32 bin words, with the default efficiency of invalid bins. -/
def curvePrices (pmax effDef : Nat) (bins : List Word) : List Nat :=
  let eta (j : Nat) : Rat :=
    let w := bins.getD j 0
    if w.getLsbD 31 then ((w.extractLsb' 0 16).toNat : Rat) / 65536 else (effDef : Rat) / 65536
  let w := pmax / 32
  let loss (x : Nat) : Rat := if x = 0 then 0 else (x : Rat) * (1 - etaCurve pmax eta (x : Rat))
  if w = 0 then List.replicate 32 (65536 - effDef)
  else (pool ((List.range 32).map (fun j => (loss ((j + 1) * w) - loss (j * w)) / (w : Rat)))).map quantPrice

/-- R206, R551: the curve kept: VALID and N_BEST of each bin with the price of its segment. -/
def curveWords (pmax effDef : Nat) (bins : List Word) : List Word :=
  let ps := curvePrices pmax effDef bins
  (List.range 32).map (fun j => ((bins.getD j 0) &&& 0x801F0000) ||| BitVec.ofNat 32 (ps.getD j 0 % 65536))

/-! ### Water-filling (R207 to R210) -/

/-- A channel as the plan sees it. -/
structure PCh where
  gcid : Nat
  fdr : Nat
  pc : Nat
  /-- W and the 32 prices -/
  w : Nat
  prices : List Nat
  /-- allocation and upper bound -/
  a : Nat
  u : Nat
  deriving DecidableEq, Repr

/-- A channel is under a cap. -/
def PCh.on (c : PCh) (k : Nat) : Bool := decide (k = 8) || decide (c.fdr = k)

/-- The number of leading segments priced below p, or at most p. -/
def PCh.segs (c : PCh) (p : Nat) (strict : Bool) : Nat :=
  (c.prices.takeWhile (fun q => if strict then decide (q < p) else decide (q ≤ p))).length

/-- The allocation after filling to a price; beyond the last segment the last price holds. -/
def PCh.fill (c : PCh) (p : Nat) (strict : Bool) : Nat :=
  let m := c.segs p strict
  max c.a (if 32 ≤ m then c.u else min c.u (m * c.w))

/-- R207: the least price at which filling the open channels of a cap uses its room; none: infinity. -/
def capLevel (cs : List PCh) (k : Nat) (room : Int) : Option Nat :=
  let mine := cs.filter (fun (c : PCh) => c.on k)
  let used (p : Nat) : Int := ((mine.map (fun (c : PCh) => c.fill p false - c.a)).sum : Nat)
  let cand := 0 :: mine.flatMap (fun (c : PCh) => (c.prices.drop (c.a / max 1 c.w)))
  let ok := cand.filter (fun p => decide (room ≤ used p))
  ok.foldl (fun (b : Option Nat) p => some (match b with | none => p | some q => min p q)) none

/-- R207: lam_s and k_s: the least level, the site before feeders, then the lower feeder. -/
def leastLevel (cs : List PCh) (caps : List Nat) (room : Nat → Int) : Option (Nat × Nat) :=
  ([8] ++ caps).foldl (fun (b : Option (Nat × Nat)) k =>
    match capLevel cs k (room k), b with
    | none, b => b
    | some p, none => some (p, k)
    | some p, some q => if p < q.1 then some (p, k) else some q) none

/-- R208: one round of shares of the room among channels with room of their own, in proportion to W, rounded down; the
flag says that a share was cut at a channel's own room. -/
def shareRound (left : Nat) (cs : List (PCh × Nat)) : List (PCh × Nat) × Nat × Bool :=
  let tot := ((cs.filter (fun x => decide (0 < x.2))).map (fun x => x.1.w)).sum
  let part (x : PCh × Nat) : Nat := if x.2 = 0 ∨ tot = 0 then 0 else left * x.1.w / tot
  let give (x : PCh × Nat) : Nat := min x.2 (part x)
  let used := (cs.map give).sum
  (cs.map (fun x => let g := give x; ({ x.1 with a := x.1.a + g }, x.2 - g)), left - used,
    cs.any (fun x => decide (0 < x.2) && decide (x.2 < part x)))

/-- R208: what a cut share leaves is shared again (DEDUCED, log entry 33). -/
def shareGo : Nat → Nat → List (PCh × Nat) → List (PCh × Nat) × Nat
  | 0, left, cs => (cs, left)
  | f + 1, left, cs =>
    let r := shareRound left cs
    if r.2.2 then shareGo f r.2.1 r.1 else (r.1, r.2.1)

/-- R208: units left over go one each in ascending GCID. -/
def shareUnits : Nat → List (PCh × Nat) → List PCh
  | _, [] => []
  | left, x :: xs =>
    if 0 < left ∧ 0 < x.2 then { x.1 with a := x.1.a + 1 } :: shareUnits (left - 1) xs else x.1 :: shareUnits left xs

/-- R208: what is left of a cap's room is shared among the segments priced lam on it. `cs`: the open channels, already
filled with every segment priced below lam. -/
def share (lam k : Nat) (room : Int) (cs : List PCh) : List PCh :=
  let xs := cs.map (fun (c : PCh) => (c, if c.on k then c.fill lam false - c.a else 0))
  let r := shareGo (xs.length + 1) room.toNat xs
  shareUnits r.2 r.1

/-- The state of a plan: rooms of feeders 0 to 7 and the site at 8, and the channels in ascending GCID. -/
structure Plan where
  room : Vector Int 9
  cs : List PCh
  it : Nat := 0
  deriving DecidableEq, Repr

/-- Channels take new allocations, and the rooms of their caps fall by the increase. -/
def Plan.update (p : Plan) (new : List PCh) : Plan :=
  let old (g : Nat) : Nat := ((p.cs.find? (fun (c : PCh) => decide (c.gcid = g))).map (·.a)).getD 0
  let rise (k : Nat) : Int := ((new.filter (fun (c : PCh) => c.on k)).map (fun (c : PCh) => (c.a : Int) - old c.gcid)).sum
  { p with
    room := vMapI p.room (fun k (r : Int) => r - rise k)
    cs := p.cs.map (fun (c : PCh) => (new.find? (fun (d : PCh) => decide (d.gcid = c.gcid))).getD c) }

/-- R207: the iterations of one class. `op`: the GCIDs open. Answered: the plan, and whether channels stayed open. -/
def Plan.classGo (itMax : Nat) (caps : List Nat) : Nat → Plan → List Nat → Plan × Bool
  | 0, p, op => (p, decide (op ≠ []))
  | f + 1, p, op =>
    if op = [] then (p, false)
    else if itMax ≤ p.it then (p, true)
    else
      let cs := p.cs.filter (fun (c : PCh) => op.contains c.gcid)
      let lv := leastLevel cs caps (fun k => vget p.room k 0)
      let p1 : Plan := { p with it := p.it + 1 }
      match lv with
      | none => (p1.update (cs.map (fun (c : PCh) => { c with a := max c.a c.u })), false)
      | some (lam, ks) =>
        let p2 := p1.update (cs.map (fun (c : PCh) => { c with a := c.fill lam true }))
        let cs2 := p2.cs.filter (fun (c : PCh) => op.contains c.gcid)
        let p3 := p2.update (share lam ks (vget p2.room ks 0) cs2)
        let op' := (p3.cs.filter (fun (c : PCh) => op.contains c.gcid && decide (c.a < c.u) && !c.on ks)).map (·.gcid)
        Plan.classGo itMax caps f p3 op'

/-- R207, R209: the classes in order; the flag says that ITER_MAX left a channel open or a class unreached. -/
def Plan.run (itMax : Nat) (caps : List Nat) (p : Plan) : Plan × Bool :=
  (List.range 8).foldl (fun (x : Plan × Bool) pc =>
    let op := (x.1.cs.filter (fun (c : PCh) => decide (c.pc = pc) && decide (c.a < c.u))).map (·.gcid)
    let r := Plan.classGo itMax caps (itMax + 1) x.1 op
    (r.1, x.2 || r.2)) (p, false)

/-! ### Admission (R213) -/

/-- A channel as admission sees it. -/
structure ACh where
  gcid : Nat
  fdr : Nat
  pc : Nat
  /-- price at the target -/
  price : Nat
  t : Nat
  iss : Nat
  /-- acknowledged and held -/
  ack : Nat
  /-- rises are permitted (R555, R559) -/
  may : Bool
  deriving DecidableEq, Repr

def ACh.comm (c : ACh) : Nat := max c.ack c.iss

/-- R213: rises come in order of class, then ascending price at the target, then ascending GCID. -/
def ACh.before (a b : ACh) : Bool :=
  decide (a.pc < b.pc) || (decide (a.pc = b.pc) && (decide (a.price < b.price) || (decide (a.price = b.price) && decide (a.gcid ≤ b.gcid))))

/-- An element put in its place. -/
def insertBy {α : Type} (le : α → α → Bool) (x : α) : List α → List α
  | [] => [x]
  | y :: ys => if le x y then x :: y :: ys else y :: insertBy le x ys

def sortBy {α : Type} (le : α → α → Bool) (l : List α) : List α := l.foldr (insertBy le) []

/-- R213: the rises, one by one, within the slacks. -/
def admitGo : Vector Int 9 → List ACh → List ACh → List ACh
  | _, done, [] => done
  | slack, done, c :: cs =>
    let r : Int := max 0 (min (vget slack 8 0) (vget slack c.fdr 0))
    let iss := max c.iss (min c.t (c.comm + r.toNat))
    let c' : ACh := { c with iss := iss }
    let d : Int := (c'.comm : Int) - c.comm
    let slack := (slack.setIfInBounds 8 (vget slack 8 0 - d)).setIfInBounds c.fdr (vget slack c.fdr 0 - d)
    admitGo slack (c' :: done) cs

/-- R213: falls and holds at once, then the rises. `eff`: effective caps; `resv`: power reserved under each. -/
def admission (eff resv : Vector Int 9) (cs : List ACh) : List ACh :=
  let fell := cs.map (fun (c : ACh) => if c.t ≤ c.iss then { c with iss := c.t } else c)
  let comm (k : Nat) : Int :=
    ((fell.filter (fun (c : ACh) => decide (k = 8) || decide (c.fdr = k))).map (fun (c : ACh) => (c.comm : Int))).sum
  let slack := vMapI eff (fun k (x : Int) => x - vget resv k 0 - comm k)
  let up := sortBy ACh.before (fell.filter (fun (c : ACh) => decide (c.iss < c.t) && c.may))
  let rest := fell.filter (fun (c : ACh) => !(decide (c.iss < c.t) && c.may))
  sortBy (fun (a b : ACh) => decide (a.gcid ≤ b.gcid)) (rest ++ admitGo slack [] up)

/-! ### Offsets (R218) -/

/-- R218: the offset of member j of K with N_g phases, 0.01°. -/
def thetaOf (j k ng : Nat) : Nat := if k * ng = 0 then 0 else (divHE ((j * 36000 : Nat) : Int) (k * ng)).toNat % 36000

end Sys2Proof.Machine
end

