-- ==== Sys2Proof/Machine/Last.lean ====
section
/-! DEFINITION. Sys2Proof/Machine/Last.lean: the Last engine (R196 to R224, R233 to R240). -/

namespace Sys2Proof.Machine

/-- What the engine sees of its node: time in ns, site time in ns, its NID, the NIDs present (its own among them), the
gateways among them, the nodes that show COORD_SBY, LARGE, and whether the ring is whole but for at most one link. -/
structure LCtx where
  now : Nat
  site : Nat
  nid : Option Nat
  nodes : List Nat
  gws : List Nat
  sby : List Nat
  large : Bool
  whole : Bool
  deriving DecidableEq, Repr

/-! ### Contexts -/

/-- The context of a GCID. -/
def Last.ctx (l : Last) (g : Nat) : Ctx := (l.ctxs.find? (fun (c : Ctx) => decide (c.gcid = g))).getD { gcid := g }

/-- A context put in its place. -/
def Last.setCtx (l : Last) (c : Ctx) : Last :=
  { l with
    ctxs := insertBy (fun (a b : Ctx) => decide (a.gcid ≤ b.gcid)) c (l.ctxs.filter (fun (x : Ctx) => decide (x.gcid ≠ c.gcid))) }

/-- The committed grant, import and export (R212, R222). -/
def Ctx.comm (c : Ctx) : Nat := max (max c.gAck c.gIss) c.hold
def Ctx.commX (c : Ctx) : Nat := max c.gAckX c.gIssX

/-- R227: the hold time of a configured channel, ns. -/
def Last.holdNs (l : Last) (large : Bool) (c : Ctx) : Nat := if large then 3 * l.eLen else max (msNs c.cfg.tHold) (msNs 30)

/-- R197: a context record from its eight words. -/
def CtxRec.ofWords (w : List Word) : Nat × CtxRec :=
  let x (i : Nat) : Word := w.getD i 0
  let p24 (v : Word) : Nat := (v.extractLsb' 0 24).toNat
  (((x 0).extractLsb' 24 8).toNat,
   { imp := p24 (x 0), exp := p24 (x 7), ackEpoch := x 1, ackGen := (x 2).extractLsb' 16 16
     gstate := ((x 2).extractLsb' 13 3).toNat, meter := (x 2).getLsbD 12, ofsOk := (x 2).getLsbD 11
     pc := ((x 2).extractLsb' 8 3).toNat, ackValid := (x 2).getLsbD 7, nEn := ((x 2).extractLsb' 0 5).toNat
     req := p24 (x 3), reqX := p24 (x 4), pIn := ((x 5).extractLsb' 0 24 : BitVec 24).toInt
     per := ((x 6).extractLsb' 0 19).toNat })

/-- R222: a context joins or comes back. -/
def Ctx.join (c : Ctx) (r : CtxRec) (ep : BitVec 32) : Ctx :=
  if r.meter then { c with st := .meter, rec' := some r, silent := 0, resv := 0, resvX := 0, tGhost := none }
  else { c with
    st := .live, rec' := some r, silent := 0, gAck := r.imp, gIss := r.imp, gAckX := r.exp, gIssX := r.exp
    hold := c.resv, joinEp := ep, resv := 0, resvX := 0, tGhost := none, fallRun := 0, late := false, acked := true }

/-- R212: a record of a LIVE context. -/
def Ctx.take (c : Ctx) (r : CtxRec) (gen : BitVec 16) : Ctx :=
  let mine := r.ackValid && decide (r.ackGen = gen)
  { c with
    rec' := some r, silent := 0
    gAck := if r.ackValid then r.imp else c.gAck
    gAckX := if r.ackValid then r.exp else c.gAckX
    acked := c.acked || mine
    hold := if mine && !laterBv c.joinEp r.ackEpoch then 0 else c.hold }

/-- R222: a context departs. -/
def Last.ghost (l : Last) (x : LCtx) (c : Ctx) : Last :=
  let m := decide (c.st = .meter)
  { l.setCtx { c with
      st := .ghost, resv := if m then 0 else c.comm, resvX := if m then 0 else c.commX
      tGhost := some (x.now + l.holdNs x.large c + msNs 20) } with r.flags.ghost := true }

/-- R222: 0x0304 reaches a context. -/
def Last.confCtx (l : Last) (g : Nat) : Last :=
  let c := l.ctx g
  if c.st = .unconf ∨ c.st = .absent then l.setCtx { c with st := .absent, resv := c.cfg.floor, resvX := 0 } else l

/-- R222: 0x0304 with REMOVE reaches a context. -/
def Last.unconfCtx (l : Last) (g : Nat) : Last :=
  let c := l.ctx g
  if c.st = .absent ∨ c.st = .out then l.setCtx { c with st := .unconf, resv := 0, resvX := 0, curve := none } else l

/-- R222: 0x0306 reaches the contexts of a node. -/
def Last.releaseNode (l : Last) (n : Nat) : Last :=
  (List.range 4).foldl (fun (l : Last) j =>
    let c := l.ctx (4 * n + j)
    if c.st = .escrow ∨ c.st = .absent then l.setCtx { c with st := .out, resv := 0, resvX := 0 } else l) l

/-- One thing taken at a snapshot (R222). -/
def Last.input (x : LCtx) (l : Last) (i : EngIn) : Last :=
  match i with
  | .ctx g r =>
    let c := l.ctx g
    match c.st with
    | .unconf => { l.setCtx { c with resv := r.imp, rec' := some r, silent := 0 } with r.flags.unconfDraw := true }
    | .live => l.setCtx (c.take r l.r.gen)
    | .meter => l.setCtx { c with rec' := some r, silent := 0 }
    | _ => l.setCtx (c.join r l.r.epoch)
  | .curve g ws t =>
    let c := l.ctx g
    if c.cfg.conf then
      l.setCtx { c with
        curve := some (curveWords c.cfg.pmax l.r.cfg.effDef.toNat (ws.drop 2), ((ws.getD 1 0).extractLsb' 0 2).toNat, t) }
    else l
  | .depart n =>
    (List.range 4).foldl (fun (l : Last) j =>
      let c := l.ctx (4 * n + j)
      if c.st = .live ∨ c.st = .meter then l.ghost x c else l) l
  | .conf g => l.confCtx g
  | .unconf g => l.unconfCtx g
  | .release n => l.releaseNode n

/-- R205, R222: the snapshot: what has arrived, then the contexts silent for three epochs. -/
def Last.snapshot (l : Last) (x : LCtx) : Last :=
  let l := l.inbox.foldl (Last.input x) { l with inbox := [] }
  l.ctxs.foldl (fun (l : Last) (c : Ctx) =>
    if c.st = .live ∨ c.st = .meter then
      if 3 ≤ c.silent then l.ghost x c else l.setCtx { c with silent := c.silent + 1 }
    else l) l

/-- GHOST_TIMEOUT (R222): the floor last issued stays reserved. -/
def Last.ghostTimeout (l : Last) (now g : Nat) : Last :=
  let c := l.ctx g
  match c.tGhost with
  | some t =>
    if c.st = .ghost ∧ t ≤ now then l.setCtx { c with st := .escrow, resv := c.floorLast, resvX := 0, tGhost := none } else l
  | none => l

/-! ### Caps (R200 to R203) -/

def Last.fdrEn (l : Last) (k : Nat) : Bool := (vget l.r.fdrCap k {}).en

/-- The feeders enabled. -/
def Last.feeders (l : Last) : List Nat := (List.range 8).filter l.fdrEn

def Last.base (l : Last) (k : Nat) : Nat :=
  if k = 8 then ((l.feeders).map (fun j => (vget l.r.fdrBase j {}).base.toNat)).sum else (vget l.r.fdrBase k {}).base.toNat

/-- The import cap and the export cap of a feeder or the site. -/
def Last.cap (l : Last) (k : Nat) : Nat := if k = 8 then l.r.siteCap.toNat else (vget l.r.fdrCap k {}).imp.toNat
def Last.capX (l : Last) (k : Nat) : Nat := if k = 8 then l.r.siteCapx.toNat else (vget l.r.fdrCapx k 0).toNat

/-- The meter of a cap. -/
def Last.meter (l : Last) (k : Nat) : Option Nat :=
  if k = 8 then (if l.r.siteMeter.en then some l.r.siteMeter.gcid.toNat else none)
  else if (vget l.r.fdrCap k {}).mtrEn then some (vget l.r.fdrBase k {}).mtrGcid.toNat else none

/-- A context counts under a cap: the site, or its feeder; an unconfigured one counts under the site alone. -/
def Ctx.under (c : Ctx) (k : Nat) : Bool := decide (k = 8) || (c.cfg.conf && decide (c.cfg.fdr.toNat = k))

/-- A meter whose context sends records (R201). -/
def Last.meterRec (l : Last) (g : Nat) : Option CtxRec := let c := l.ctx g; if c.st = .meter then c.rec' else none

/-- The LIVE contexts. -/
def Last.live (l : Last) : List Ctx := l.ctxs.filter (fun (c : Ctx) => decide (c.st = .live))

/-- R201: the non-charging load a meter sees: a rise at once, a fall with a time constant of 1 s. -/
def Last.meterStep (l : Last) (k : Nat) : Last :=
  match l.meter k with
  | none => l
  | some g =>
    match l.meterRec g with
    | none => { l with r.flags.meterStale := true, mf := l.mf.setIfInBounds k 0, overRun := l.overRun.setIfInBounds k 0 }
    | some r =>
      let ev : Int := ((l.live.filter (fun (c : Ctx) => c.under k)).map (fun (c : Ctx) => (c.rec'.map (·.pIn)).getD 0)).sum
      let m : Int := (r.pIn - ev) * 65536
      let old := vget l.mf k 0
      let new := if old ≤ m then m else old - divHE ((old - m) * l.eLen) 1000000000
      let n := if (l.cap k : Int) < r.pIn then vget l.overRun k 0 + 1 else 0
      { l with
        mf := l.mf.setIfInBounds k new, overRun := l.overRun.setIfInBounds k n
        r.flags.overMeas := l.r.flags.overMeas || decide (10 ≤ n) }

/-- R201: nc of a cap with a meter whose records come; else its base. -/
def Last.ncOne (l : Last) (k : Nat) : Int :=
  match (l.meter k).bind l.meterRec with
  | some _ => max (l.base k : Int) (-((-(vget l.mf k 0)) / 65536))
  | none => l.base k

/-- R201: nc. -/
def Last.nc (l : Last) (k : Nat) : Int :=
  if k = 8 ∧ (l.meter 8).isNone then (l.feeders.map l.ncOne).sum else l.ncOne k

/-- The curtailed cap in force (R220). -/
def Last.curtCap (l : Last) (k : Nat) : Option Nat := (vget l.curt k none).map (·.cap)

/-- R201: cap_eff of the import caps. -/
def Last.capEff (l : Last) (k : Nat) : Int :=
  max 0 ((min (l.cap k) ((l.curtCap k).getD (l.cap k)) : Nat) - l.nc k)

/-- Power reserved under a cap by contexts that are not LIVE, import and export (R222, R223). -/
def Last.reserved (l : Last) (k : Nat) : Int :=
  ((l.ctxs.filter (fun (c : Ctx) => c.under k && decide (c.st ≠ .live) && decide (c.st ≠ .meter))).map (fun (c : Ctx) => (c.resv : Int))).sum
def Last.reservedX (l : Last) (k : Nat) : Int :=
  ((l.ctxs.filter (fun (c : Ctx) => c.under k && decide (c.st ≠ .live) && decide (c.st ≠ .meter))).map (fun (c : Ctx) => (c.resvX : Int))).sum

/-- Power committed by LIVE contexts under a cap (R212). -/
def Last.committed (l : Last) (k : Nat) : Int :=
  ((l.live.filter (fun (c : Ctx) => c.under k)).map (fun (c : Ctx) => (c.comm : Int))).sum

/-- R203: the floors and bases fit the caps. -/
def Last.sumsOk (l : Last) : Bool :=
  let fl (k : Nat) : Nat :=
    ((l.ctxs.filter (fun (c : Ctx) => c.cfg.conf && !c.cfg.meter && c.under k)).map (fun (c : Ctx) => c.cfg.floor)).sum
  (l.feeders ++ [8]).all (fun k => decide (fl k + l.base k ≤ l.cap k))

/-! ### One epoch (R205) -/

/-- The 32 words of a context's curve; with none, every segment priced at 1 − EFF_DEF (R206). -/
def Last.curveOf (l : Last) (c : Ctx) : List Word :=
  match c.curve with
  | some x => x.1
  | none => List.replicate 32 (BitVec.ofNat 32 (65536 - l.r.cfg.effDef.toNat))

def curvePricesOf (ws : List Word) : List Nat := ws.map (fun w => (w.extractLsb' 0 16).toNat)

/-- R211: FLOOR_EFF: FLOOR × s, s the least over the caps of the context. -/
def Last.floorEff (l : Last) (c : Ctx) : Nat × Bool :=
  let s (k : Nat) : Rat :=
    let tot := ((l.live.filter (fun (d : Ctx) => d.under k)).map (fun (d : Ctx) => d.cfg.floor)).sum
    if tot = 0 then 1 else min 1 ((max 0 (l.capEff k - l.reserved k) : Int) / (tot : Rat))
  let m := min (s 8) (s c.cfg.fdr.toNat)
  (((c.cfg.floor : Rat) * m).floor.toNat, decide (m < 1))

/-- R207: a LIVE context as the import plan sees it. -/
def Last.planCh (l : Last) (c : Ctx) : PCh :=
  let r := c.rec'
  { gcid := c.gcid, fdr := c.cfg.fdr.toNat, pc := (r.map (·.pc)).getD c.cfg.pcDef.toNat, w := c.cfg.pmax / 32
    prices := curvePricesOf (l.curveOf c), a := c.floorEff
    u := max c.floorEff (min ((r.map (·.req)).getD 0) c.cfg.pmax) }

/-- R210: the same for the export plan. -/
def Last.planChX (l : Last) (c : Ctx) : PCh :=
  { l.planCh c with a := 0, u := (c.rec'.map (·.reqX)).getD 0 }

/-- R207: the price of the last segment allocated. -/
def lastPrice (ws : List Word) (w a : Nat) : Nat :=
  if a = 0 then 0 else (curvePricesOf ws).getD (min 31 ((a - 1) / max 1 w)) 0

/-- The registers that show caps and sums (R238). -/
def Last.viewCaps (l : Last) : Last :=
  let n24 (x : Int) : BitVec 24 := toU 24 x
  { l with
    r.siteRoom := n24 (l.capEff 8), r.siteSum := n24 (l.committed 8 + l.reserved 8)
    r.fdrRoom := Vector.ofFn (fun (k : Fin 8) => n24 (if l.fdrEn k.val then l.capEff k.val else 0))
    r.fdrSum := Vector.ofFn (fun (k : Fin 8) => n24 (l.committed k.val + l.reserved k.val)) }

/-- R217: N_REC: N_BEST of the bin the grant falls in; where it is invalid, N_en. -/
def Last.nRecOf (l : Last) (c : Ctx) : Nat :=
  let w := (l.curveOf c).getD (min 31 (c.gIss / max 1 (c.cfg.pmax / 32))) 0
  if w.getLsbD 31 then (w.extractLsb' 16 5).toNat else (c.rec'.map (·.nEn)).getD c.nRec

/-- R218: the members of an interleave group with a context. -/
def Last.members (l : Last) (c : Ctx) : List Ctx :=
  l.live.filter (fun (d : Ctx) =>
    decide (d.cfg.ig = c.cfg.ig) && (d.rec'.map (·.ofsOk)).getD false && decide (d.rec'.map (·.per) = c.rec'.map (·.per)))

/-- R218: the offset of a context. -/
def Last.theta (l : Last) (c : Ctx) : Nat :=
  if (c.rec'.map (·.ofsOk)).getD false then
    let ms := l.members c
    thetaOf ((ms.filter (fun (d : Ctx) => decide (d.gcid < c.gcid))).length) ms.length ((ms.map (·.nRec)).foldl max 0)
  else 0

/-- R219: the grant frame of an epoch. -/
def Last.grantFrame (l : Last) (x : LCtx) : List Word :=
  let live := l.live
  let t0 := l.r.t0Lo
  let h1 : Word := (l.r.gen.setWidth 32 <<< 16) ||| (if x.large then 0x80 else 0) ||| BitVec.ofNat 32 ((x.nid.getD 0) % 64)
  let h2 : Word := BitVec.ofNat 32 (live.length % 512 * 65536 + l.eLen / 10000 % 128)
  [l.r.epoch, h1, h2, t0] ++ live.flatMap (fun (c : Ctx) =>
    [BitVec.ofNat 32 c.gIss, BitVec.ofNat 32 (c.gcid % 256 * 2 ^ 24 + c.gIssX)
     , BitVec.ofNat 32 (c.nRec % 32 * 2 ^ 24 + c.floorLast), BitVec.ofNat 32 c.theta])

/-- R211 to R218: the plan of an epoch and the grants it issues. -/
def Last.plan (l : Last) (quorum : Bool) : Last :=
  let l := (l.feeders ++ [8]).foldl Last.meterStep l
  let fs := l.live.map (fun (c : Ctx) => (c, l.floorEff c))
  let l : Last := { l with
    r.flags.floorScaled := l.r.flags.floorScaled || fs.any (fun y => y.2.2)
    r.flags.curveBad := l.r.flags.curveBad || l.live.any (fun (c : Ctx) => !(l.curveOf c).any (fun w => w.getLsbD 31)) }
  let l := fs.foldl (fun (l : Last) y => l.setCtx { y.1 with floorEff := y.2.1 }) l
  let eff : Vector Int 9 := Vector.ofFn (fun (k : Fin 9) => if decide (k.val = 8) || l.fdrEn k.val then l.capEff k.val else 0)
  let resv : Vector Int 9 := Vector.ofFn (fun (k : Fin 9) => l.reserved k.val)
  let effX : Vector Int 9 := Vector.ofFn (fun (k : Fin 9) => (l.capX k.val : Int))
  let resvX : Vector Int 9 := Vector.ofFn (fun (k : Fin 9) => l.reservedX k.val)
  let cs := l.live.map l.planCh
  let floors (k : Nat) : Int := ((cs.filter (fun (c : PCh) => c.on k)).map (fun (c : PCh) => (c.a : Int))).sum
  let itMax := l.r.cfg.iterMax.toNat
  let p0 : Plan := { room := vMapI eff (fun k (v : Int) => v - vget resv k 0 - floors k), cs := cs }
  let pr := p0.run itMax l.feeders
  let px0 : Plan := { room := vMapI effX (fun k (v : Int) => v - vget resvX k 0), cs := l.live.map l.planChX, it := pr.1.it }
  let px := px0.run itMax l.feeders
  let tgt (p : Plan) (g : Nat) : Nat := ((p.cs.find? (fun (c : PCh) => decide (c.gcid = g))).map (·.a)).getD 0
  let ach (c : Ctx) : ACh :=
    let t := tgt pr.1 c.gcid
    { gcid := c.gcid, fdr := c.cfg.fdr.toNat, pc := (c.rec'.map (·.pc)).getD c.cfg.pcDef.toNat
      price := lastPrice (l.curveOf c) (c.cfg.pmax / 32) t, t := t, iss := c.gIss, ack := max c.gAck c.hold
      may := quorum && c.acked }
  let achX (c : Ctx) : ACh :=
    let t := tgt px.1 c.gcid
    { ach c with price := lastPrice (l.curveOf c) (c.cfg.pmax / 32) t, t := t, iss := c.gIssX, ack := c.gAckX }
  let ai := admission eff resv (l.live.map ach)
  let ax := admission effX resvX (l.live.map achX)
  let get (as : List ACh) (g d : Nat) : Nat := ((as.find? (fun (a : ACh) => decide (a.gcid = g))).map (·.iss)).getD d
  let l := l.live.foldl (fun (l : Last) (c : Ctx) =>
    let iss := get ai c.gcid c.gIss
    let c : Ctx := { c with gIss := iss, gIssX := get ax c.gcid c.gIssX, floorLast := min c.floorEff iss
                            price := lastPrice (l.curveOf c) (c.cfg.pmax / 32) (tgt pr.1 c.gcid) }
    let run := if c.gIss < c.gAck then c.fallRun + 1 else 0
    let late := decide (10 ≤ run)
    let c : Ctx := { c with fallRun := run, late := late }
    { l.setCtx { c with nRec := l.nRecOf c } with r.flags.ackLate := l.r.flags.ackLate || late }) l
  let l := l.live.foldl (fun (l : Last) (c : Ctx) => l.setCtx { c with theta := l.theta c }) l
  ({ l with
    r.status.iter := BitVec.ofNat 6 px.1.it
    r.flags.iterLimit := l.r.flags.iterLimit || pr.2 || px.2 } : Last).viewCaps

/-- R220: curtailments whose duration has run out end at this boundary. -/
def Last.curtEnd (l : Last) (now : Nat) : Last :=
  { l with curt := l.curt.map (fun (c : Option Curt) => c.filter (fun (y : Curt) => y.tEnd.all (fun t => decide (now < t)))) }

/-- R204: the first boundary after an enable: a whole multiple of E, at least 100 µs on. Its number is t_k / E (DESIGN
CHOICE, log entry 34). -/
def Last.first (l : Last) (site : Nat) : Last :=
  let e := l.r.cfg.epoch.toNat * 10000
  let t := (site + 100000 + e - 1) / e * e
  { l with eLen := e, tNext := some t, eNew := none, r.epoch := BitVec.ofNat 32 (t / e) - 1 }

/-- R204: the boundary passes: its number, its time and the next one. -/
def Last.tickEpoch (l : Last) (now site : Nat) : Last :=
  let t := l.tNext.getD site
  let l : Last := match l.eNew with
    | some (e, ta) => if ta + msNs 1 ≤ now then { l with eLen := e, eNew := none } else l
    | none => l
  let t64 : BitVec 64 := BitVec.ofNat 64 t
  { l with
    r.epoch := l.r.epoch + 1
    r.t0Lo := DWord.lo t64, r.t0Hi := DWord.hi t64, tNext := some (t + l.eLen) }

/-- R205: the work of the active engine at a boundary: the frame to broadcast. -/
def Last.issue (l : Last) (x : LCtx) (quorum : Bool) : Last × List Word :=
  let l := ((l.curtEnd x.now).snapshot x).plan quorum
  (l, l.grantFrame x)

/-! ### Start (R222) -/

/-- A cold start: configured contexts are ABSENT with their floors reserved. -/
def Last.cold (l : Last) : Last :=
  { l with
    inbox := [], mf := Vector.replicate 9 0, overRun := Vector.replicate 9 0
    ctxs := (l.ctxs.filter (fun (c : Ctx) => c.cfg.conf)).map (fun (c : Ctx) =>
      { gcid := c.gcid, cfg := c.cfg, st := .absent, resv := c.cfg.floor }) }

/-! ### Configuration (R233 to R235) -/

/-- A payload word of a configuration's 16 words. -/
def payOf (ws : List Word) (i : Nat) : Word := ws.getD (4 + i) 0

def p24Of (ws : List Word) (i : Nat) : BitVec 24 := (payOf ws i).extractLsb' 0 24

/-- R233: a configuration taken by a hub; `act`: its engine is active, and its contexts follow at the next snapshot (R222).
An engine that takes no snapshots changes its contexts at once (DESIGN CHOICE). -/
def Last.cfgApply (l : Last) (now : Nat) (act : Bool) (ws : List Word) : Last :=
  let op := ((ws.getD 0 0).extractLsb' 0 16).toNat
  let g := ((ws.getD 1 0).extractLsb' 0 8).toNat
  let p := payOf ws
  if op = 0x0301 then
    { l with
      r.siteCap := p24Of ws 0, r.siteCapx := p24Of ws 1
      r.siteMeter := { en := (p 2).getLsbD 8, gcid := (p 2).extractLsb' 0 8 } }
  else if op = 0x0302 then
    let k := ((p 0).extractLsb' 0 3).toNat
    { l with
      r.fdrCap := l.r.fdrCap.setIfInBounds k { en := (p 0).getLsbD 8, mtrEn := (p 4).getLsbD 8, imp := p24Of ws 1 }
      r.fdrCapx := l.r.fdrCapx.setIfInBounds k (p24Of ws 2)
      r.fdrBase := l.r.fdrBase.setIfInBounds k { mtrGcid := (p 4).extractLsb' 0 8, base := p24Of ws 3 } }
  else if op = 0x0303 then
    let k := ((p 0).extractLsb' 0 4).toNat
    let d := (p 2).toNat
    { l with
      curt := l.curt.setIfInBounds k
        (if (p 0).getLsbD 8 then none else some { cap := (p24Of ws 1).toNat, tEnd := if d = 0 then none else some (now + msNs d) }) }
  else if op = 0x0304 then
    let c := l.ctx g
    let q (i : EngIn) (l : Last) : Last :=
      if act then { l with inbox := l.inbox ++ [i] }
      else match i with
        | .conf g => l.confCtx g
        | .unconf g => l.unconfCtx g
        | _ => l
    if (p 0).getLsbD 16 then q (.unconf g) (l.setCtx { c with cfg := {} })
    else if (p 0).getLsbD 20 then
      q (.conf g) (l.setCtx { c with cfg := { conf := true, meter := true, tHold := ((p 2).extractLsb' 0 16).toNat } })
    else
      q (.conf g) (l.setCtx { c with
        cfg := { conf := true, fdr := (p 0).extractLsb' 0 3, ig := (p 0).extractLsb' 8 4, pcDef := (p 0).extractLsb' 4 3
                 floor := (p24Of ws 1).toNat, pmax := (p24Of ws 3).toNat, tHold := ((p 2).extractLsb' 0 16).toNat } })
  else if op = 0x0306 then (if act then { l with inbox := l.inbox ++ [.release (g / 4)] } else l.releaseNode (g / 4))
  else if op = 0x0307 then
    let e := ((p 0).extractLsb' 16 7 : BitVec 7)
    { l with
      r.cfg := { en := (p 0).getLsbD 31, iterMax := (p 0).extractLsb' 24 6, epoch := e, effDef := (p 0).extractLsb' 0 16 }
      eNew := if e = l.r.cfg.epoch then l.eNew else some (e.toNat * 10000, now) }
  else l

/-- R234: the payload bits an opcode lists. -/
def planMasks (op : Nat) : List Word :=
  if op = 0x0301 then [0xFFFFFF, 0xFFFFFF, 0x1FF]
  else if op = 0x0302 then [0x107, 0xFFFFFF, 0xFFFFFF, 0xFFFFFF, 0x1FF]
  else if op = 0x0303 then [0x10F, 0xFFFFFF, 0xFFFFFFFF]
  else if op = 0x0304 then [0x00110F77, 0xFFFFFF, 0xFFFF, 0xFFFFFF, 0xFFF8, 0xFFFFFF]
  else if op = 0x0305 then [7]
  else if op = 0x0307 then [0xBF7FFFFF]
  else if op = 0x0804 then [0xBFBF0003]
  else []

/-- R235: the checks of the planner group at the active engine; none: accepted. -/
def Last.cfgCheck (l : Last) (now : Nat) (d : Desc) : Option Nat :=
  let op := d.opcode
  let g := d.target
  let p := d.pay
  let after := l.cfgApply now false d.w.toList
  if !d.onlyBits (planMasks op) then some 0x05
  else if op = 0x0303 then (if 8 < d.fld 0 0 4 then some 0x50 else none)
  else if op = 0x0304 then
    if d.bit 0 16 then
      (if (l.ctx g).st = .absent ∨ (l.ctx g).st = .out then none else some 0x54)
    else if 30000 < d.fld 2 0 16 then some 0x50
    else if d.bit 0 20 then none
    else if d.fld 3 0 24 < 32 ∨ d.fld 1 0 24 < d.fld 5 0 24 then some 0x50
    else if !l.fdrEn (d.fld 0 0 3) then some 0x52
    else if !after.sumsOk then some 0x51 else none
  else if op = 0x0301 ∨ op = 0x0302 then (if after.sumsOk then none else some 0x51)
  else if op = 0x0305 then (if (l.ctx g).st = .live then none else some 0x53)
  else if op = 0x0306 then
    (if (List.range 4).any (fun j => let s := (l.ctx (g / 4 * 4 + j)).st; decide (s = .ghost) || decide (s = .escrow)) then none
     else some 0x54)
  else if op = 0x0307 then
    (if 1 ≤ d.fld 0 24 6 ∧ d.fld 0 24 6 ≤ 32 ∧ 5 ≤ d.fld 0 16 7 ∧ d.fld 0 16 7 ≤ 100 ∧ 32768 ≤ ((p 0).extractLsb' 0 16).toNat
     then none else some 0x50)
  else none

/-- CTX_SELECT (R239): the context selected is captured. -/
def Last.ctxSelect (l : Last) (w : Word) : Last :=
  let g : BitVec 8 := w.extractLsb' 0 8
  let c := l.ctx g.toNat
  let r := c.rec'
  { l with
    r.ctxSel := g
    r.ctxData0 := { state := BitVec.ofNat 3 c.st.code, pc := BitVec.ofNat 3 ((r.map (·.pc)).getD c.cfg.pcDef.toNat)
                    fdr := c.cfg.fdr, ig := c.cfg.ig, ofsOk := (r.map (·.ofsOk)).getD false, ackLate := c.late
                    nRec := BitVec.ofNat 5 c.nRec }
    r.ctxData1 := BitVec.ofNat 24 c.gIss, r.ctxData2 := BitVec.ofNat 24 c.gAck
    r.ctxData3 := BitVec.ofNat 24 ((r.map (·.req)).getD 0), r.ctxData4 := BitVec.ofNat 24 c.floorEff
    r.ctxData5 := { price := BitVec.ofNat 16 c.price, theta := BitVec.ofNat 16 c.theta } }

end Sys2Proof.Machine
end

