-- ==== Sys2Proof/Machine/Pair.lean ====
section
/-! DEFINITION. Sys2Proof/Machine/Pair.lean: the coordinator pair (R547 to R560, R573). -/

namespace Sys2Proof.Machine

/-! ### Ranks and roles (R547, R548) -/

def Eng.role (e : Eng) : PairRole := e.pair.r.status.role

def Eng.active (e : Eng) : Bool := decide (e.role = .active)

def Eng.setRole (e : Eng) (r : PairRole) : Eng := { e with pair.r.status.role := r }

/-- R547: the rank of a node as an engine; none: it never holds a role. -/
def Eng.rankOf (e : Eng) (x : LCtx) (n : Nat) : Option Nat :=
  let c := e.pair.r.cfg
  if c.aValid && decide (c.nidA.toNat = n) then some 0
  else if c.bValid && decide (c.nidB.toNat = n) then some 1
  else if !c.auto then none
  else if x.gws.contains n then some 2 else some 3

/-- R547: this engine is eligible; its rank. -/
def Eng.rank (e : Eng) (x : LCtx) : Option Nat :=
  match x.nid with
  | none => none
  | some n => if e.last.r.cfg.en && e.role ≠ .demoted && e.role ≠ .offline then e.rankOf x n else none

/-- R548: an active engine is present: a valid grant frame within 2 E. -/
def Eng.actPresent (e : Eng) (now : Nat) : Bool :=
  match e.pair.act with
  | some (_, _, t) => decide (now < t + 2 * e.last.eLen)
  | none => false

/-- R548: time from which no active engine has been present. -/
def Eng.goneSince (e : Eng) : Nat :=
  match e.pair.act with
  | some (_, _, t) => max e.pair.tGone (t + 2 * e.last.eLen)
  | none => e.pair.tGone

/-- The greater of two generations (R219, R549). -/
def genMax (a b : BitVec 16) : BitVec 16 := if laterBv b a then b else a

/-- R556: an overlap is in progress. -/
def Eng.overlap (e : Eng) (now : Nat) : Bool :=
  match e.pair.tOver with
  | some t => decide (2 * now < 2 * t + 3 * e.last.eLen)
  | none => false

/-- The best ranked of the other present nodes: where the standby is, or is to be. -/
def Eng.other (e : Eng) (x : LCtx) (skip : List Nat) : Option Nat :=
  let cs := x.nodes.filterMap (fun n => if skip.contains n then none else (e.rankOf x n).map (fun r => (r, n)))
  (cs.foldl (fun (b : Option (Nat × Nat)) c => match b with
    | none => some c
    | some y => if c.1 < y.1 ∨ (c.1 = y.1 ∧ c.2 < y.2) then some c else some y) none).map (·.2)

/-- The standby as the active engine knows it: a node that shows COORD_SBY, else the one that is to become it. -/
def Eng.peer (e : Eng) (x : LCtx) : Option Nat :=
  let me := x.nid.getD 64
  match x.sby.filter (fun n => decide (n ≠ me)) with
  | n :: _ => some n
  | [] => e.other x [me]

/-- R548: this engine becomes ACTIVE on a cold start. -/
def Eng.elect (e : Eng) (x : LCtx) : Eng :=
  match e.rank x with
  | some r =>
    if e.role = .none ∧ !e.actPresent x.now ∧ e.goneSince + msNs 10 + msNs (2 * r) ≤ x.now then
      let g := genMax e.last.r.gen e.pair.genSeen + 1
      { e.setRole .active with
        last := ({ e.last with r.gen := g } : Last).cold.first x.site
        pair := { (e.setRole .active).pair with
          genSeen := g, act := none, tWake := none, swap := none, tOver := none, r.status.planOn := true } }
    else e
  | none => e

/-- STANDBY_SYNC (R548): the best of the eligible engines but the active one enters SYNC; a better one makes it leave. -/
def Eng.sync (e : Eng) (x : LCtx) : Eng :=
  let me := x.nid.getD 64
  let act := e.pair.act.map (·.1)
  let best := decide (e.other x act.toList = x.nid) && x.nid.isSome
  if e.role = .none && (e.rank x).isSome && e.actPresent x.now && (x.sby.filter (fun n => decide (n ≠ me))).isEmpty && best then
    { e.setRole .sync with
      pair := { (e.setRole .sync).pair with
        mirEpoch := none, mirCaps := [], mirCtx := [], mirRun := 0, ckpt := none, part := none, judged := none, unver := 0
        r.status.failRun := 0, r.status.planOn := !(e.pair.r.cfg.sbyRest && !x.large) } }
  else if (e.role = .sync || e.role = .standby) && (e.rank x).isNone then e.setRole .none
  else if e.role = .active && !e.last.r.cfg.en then { e.setRole .none with pair := { (e.setRole .none).pair with tGone := x.now } }
  else e

/-- R559: QUORUM. -/
def Eng.quorum (e : Eng) (x : LCtx) : Bool :=
  let n := x.nodes.length
  let r := e.pair.nRef
  decide (r.length < 2 * n) || (decide (2 * n = r.length) && (match r with
    | [] => true
    | a :: l => x.nodes.contains (l.foldl min a)))

/-- The registers that show the engine and the pair (R237, R576), and the events of R559. -/
def Eng.view (e : Eng) (x : LCtx) : Eng :=
  let p := e.pair
  let p : Pair := { p with nRef := if x.whole then x.nodes else p.nRef }
  let e : Eng := { e with pair := p }
  let q := e.quorum x
  let act := e.active
  let sby := decide (e.role = .standby)
  let peer := if act then e.peer x else if e.role = .standby ∨ e.role = .sync then p.act.map (·.1) else none
  let pv := peer.any (fun n => x.nodes.contains n)
  let age := match p.ckpt with
    | some c => BitVec.ofNat 16 (min 65535 ((x.now - c.t) / 1000000))
    | none => 0xFFFF
  let curt (k : Nat) : Bool := (vget e.last.curt k none).isSome
  { e with
    last := { e.last with
      r.status.active := act, r.status.standby := sby, r.status.large := x.large
      r.status.nodes := BitVec.ofNat 7 x.nodes.length
      r.status.curtSite := curt 8
      r.status.curtFdr := (List.range 8).foldl (fun (b : BitVec 8) k => msetb b k (curt k)) 0 }
    pair := { p with
      r.evt.quorumLost := p.r.evt.quorumLost || (act && p.r.status.quorum && !q)
      r.evt.peerLost := p.r.evt.peerLost || (p.r.status.peerValid && !pv)
      r.status.quorum := q, r.status.peerNid := BitVec.ofNat 6 (peer.getD 0), r.status.peerValid := pv
      r.status.ckptValid := p.ckpt.isSome, r.ckptAge := age } }

/-! ### Grant frames of other engines (R548, R556) -/

/-- A grant frame as seen (R219). -/
def GFrame.ofWords (now : Nat) (ws : List Word) : GFrame :=
  let x (i : Nat) : Word := ws.getD i 0
  let n := ((x 2).extractLsb' 16 9).toNat
  { nid := ((x 1).extractLsb' 0 6).toNat, gen := (x 1).extractLsb' 16 16, epoch := x 0
    eLen := ((x 2).extractLsb' 0 7).toNat * 10000, t := now
    recs := (List.range n).map (fun i =>
      let w (j : Nat) : Word := x (4 + 4 * i + j)
      (((w 1).extractLsb' 24 8).toNat, ((w 0).extractLsb' 0 24).toNat, ((w 1).extractLsb' 0 24).toNat, ((w 2).extractLsb' 0 24).toNat)) }

/-- HIGHER_GEN_GRANT (R548): a valid grant frame of another engine; an active engine yields to a higher generation, or to a
lower NID with the same one. A standby keeps the frames of the newest epochs. -/
def Eng.grantSeen (e : Eng) (x : LCtx) (ws : List Word) : Eng :=
  let f := GFrame.ofWords x.now ws
  if x.nid = some f.nid ∨ laterBv e.pair.genSeen f.gen then e
  else
    let e : Eng := { e with pair := { e.pair with genSeen := f.gen } }
    if e.active then
      let yield := laterBv f.gen e.last.r.gen || (decide (f.gen = e.last.r.gen) && decide (f.nid < x.nid.getD 64))
      let e : Eng := { e with pair := { e.pair with r.evt.overlap := true, tOver := some (e.pair.tOver.getD x.now) } }
      if yield then
        { e with pair := { e.pair with
          act := some (f.nid, f.gen, x.now), swap := none
          r.status.role := if e.pair.demote then .demoted else .none } }
      else e
    else
      { e with
        pair := { e.pair with act := some (f.nid, f.gen, x.now), frames := (f :: e.pair.frames).take 8 }
        last := if e.role = .sync ∨ e.role = .standby ∨ e.role = .none then
            { e.last with
              eLen := if f.eLen = 0 then e.last.eLen else f.eLen
              r.epoch := if e.pair.judged.isNone || laterBv f.epoch e.last.r.epoch then f.epoch else e.last.r.epoch }
          else e.last }

/-! ### Pair frames (R550, R551) -/

/-- The header words of a PAIR frame. -/
def Eng.pairHead (e : Eng) (kind count : Nat) (ep : BitVec 32) : List Word :=
  [BitVec.ofNat 32 (kind % 16 * 2 ^ 28 + count % 256 * 2 ^ 20 + e.last.r.gen.toNat), ep]

/-- A PAIR frame to a node. -/
def Eng.pairTo (e : Eng) (n kind count : Nat) (ep : BitVec 32) (body : List Word) : Eng :=
  { e with tx := e.tx ++ [(.pair, some n, e.pairHead kind count ep ++ body)] }

/-- R551: the MIRROR_CAPS body. -/
def Eng.mirCaps (e : Eng) (now : Nat) : List Word :=
  (e.last.feeders ++ [8]).flatMap (fun k =>
    let c := vget e.last.curt k none
    [BitVec.ofNat 32 (k * 2 ^ 28 + (if c.isSome then 2 ^ 24 else 0) + (satU 24 (e.last.capEff k))),
     match c with
     | some y => (match y.tEnd with | some t => BitVec.ofNat 32 ((t - now) / 1000000) | none => 0xFFFFFFFF)
     | none => 0])

/-- R551: one context of a MIRROR_CTX body. -/
def mirCtxWords (now : Nat) (c : Ctx) : List Word :=
  let r := c.rec'
  let n (f : CtxRec → Nat) : Nat := (r.map f).getD 0
  [BitVec.ofNat 32 (c.gcid % 256 * 2 ^ 24 + n (·.req)),
   BitVec.ofNat 32 (c.st.code * 2 ^ 29 + (if c.late then 2 ^ 28 else 0) + n (·.pc) % 8 * 2 ^ 24 + n (·.reqX)),
   BitVec.ofNat 32 c.gAck, BitVec.ofNat 32 c.gAckX, BitVec.ofNat 32 c.resv,
   (BitVec.ofInt 24 ((r.map (·.pIn)).getD 0)).setWidth 32, (r.map (·.ackEpoch)).getD 0,
   BitVec.ofNat 32 (match c.tGhost with | some t => min 65535 ((t - now) / 1000000) * 65536 | none => 0)]

/-- R550: the mirror of an epoch. -/
def Eng.sendMirror (e : Eng) (x : LCtx) : Eng :=
  match e.peer x with
  | none => e
  | some n =>
    let cs := e.last.ctxs.filter (fun (c : Ctx) => decide (c.st ≠ .unconf))
    let caps := e.mirCaps x.now
    let e := e.pairTo n 1 (caps.length / 2) e.last.r.epoch caps
    let one (e : Eng) (part : List Ctx) : Eng :=
      if part = [] then e else e.pairTo n 2 part.length e.last.r.epoch (part.flatMap (mirCtxWords x.now))
    one (one e (cs.take 255)) (cs.drop 255)

/-- CHECKPOINT_TIMER (R550): the planner's snapshot in CKPT frames, 61 contexts to a frame at most. -/
def Eng.sendCkpt (e : Eng) (x : LCtx) : Eng :=
  match e.active, e.peer x with
  | true, some n =>
    let cs := e.last.ctxs.filter (fun (c : Ctx) => c.curve.isSome)
    let parts := max 1 ((cs.length + 60) / 61)
    let body (c : Ctx) : List Word := match c.curve with
      | some (ws, vb, t) =>
        BitVec.ofNat 32 (c.gcid % 256 * 2 ^ 24 + vb % 4 * 65536 + min 65535 ((x.now - t) / 1000000)) :: ws
      | none => []
    (List.range parts).foldl (fun (e : Eng) i =>
      let p := (cs.drop (61 * i)).take 61
      e.pairTo n 3 p.length e.last.r.epoch (BitVec.ofNat 32 (parts % 65536 * 65536 + i % 65536) :: p.flatMap body)) e
  | _, _ => e

/-- The words of a PAIR frame's body cut into entries of n words. -/
def chunks (n : Nat) : Nat → List Word → List (List Word)
  | 0, _ => []
  | k + 1, ws => if ws.length < n ∨ n = 0 then [] else ws.take n :: chunks n k (ws.drop n)

/-- MIRROR_CAPS (R550): the standby's mirror of the caps; a mirror that does not follow the last one starts the row anew. -/
def Eng.mirrorCaps (e : Eng) (ws : List Word) : Eng :=
  if e.role ≠ .sync ∧ e.role ≠ .standby then e
  else
    let ep := ws.getD 1 0
    let cap (w : List Word) : Nat × MirCap :=
      (((w.getD 0 0).extractLsb' 28 4).toNat,
       { cap := ((w.getD 0 0).extractLsb' 28 4).toNat, curt := (w.getD 0 0).getLsbD 24
         eff := ((w.getD 0 0).extractLsb' 0 24).toNat, left := w.getD 1 0 })
    let follows := match e.pair.mirEpoch with
      | some m => decide (ep = m + 1)
      | none => false
    { e with pair := { e.pair with
        mirEpoch := some ep, mirCtx := if e.pair.mirEpoch = some ep then e.pair.mirCtx else []
        mirRun := if follows then e.pair.mirRun + 1 else 1
        mirCaps := ((chunks 2 9 (ws.drop 2)).map cap).map (·.2) } }

/-- R551: one context of a mirror. -/
def MirCtx.ofWords (w : List Word) : MirCtx :=
  let x (i : Nat) : Word := w.getD i 0
  let p (i : Nat) : Nat := ((x i).extractLsb' 0 24).toNat
  { gcid := ((x 0).extractLsb' 24 8).toNat, req := p 0, st := ((x 1).extractLsb' 29 3).toNat, late := (x 1).getLsbD 28
    pc := ((x 1).extractLsb' 24 3).toNat, reqX := p 1, gAck := p 2, gAckX := p 3, resv := p 4
    pIn := ((x 5).extractLsb' 0 24 : BitVec 24).toInt, ackEpoch := x 6, timer := ((x 7).extractLsb' 16 16).toNat }

/-- SYNC to STANDBY (R548): a complete checkpoint and 16 mirrors in a row. -/
def Eng.syncDone (e : Eng) : Eng :=
  if e.role = .sync ∧ e.pair.ckpt.isSome ∧ 16 ≤ e.pair.mirRun then
    { e.setRole .standby with pair := { (e.setRole .standby).pair with judged := some (e.last.r.epoch - 1) } }
  else e

/-- MIRROR_CTX (R550). -/
def Eng.mirrorCtx (e : Eng) (ws : List Word) : Eng :=
  if e.role ≠ .sync ∧ e.role ≠ .standby then e
  else if e.pair.mirEpoch ≠ some (ws.getD 1 0) then e
  else
    let new := (chunks 8 255 (ws.drop 2)).map MirCtx.ofWords
    let keep := e.pair.mirCtx.filter (fun (c : MirCtx) => !(new.map (·.gcid)).contains c.gcid)
    ({ e with pair := { e.pair with mirCtx := keep ++ new } } : Eng).syncDone

/-- The planner is powered and awake: of a standby that rests, only after its wake (R557). -/
def Eng.swapAck (e : Eng) : Eng :=
  match e.pair.swap, e.pair.ckpt with
  | some s, some _ =>
    if e.role = .standby ∧ !s.acked then
      { (e.pairTo s.peer 7 0 e.last.r.epoch [s.epochS]) with pair.swap := some { s with acked := true } }
    else e
  | _, _ => e

/-- CKPT (R550): a part; the checkpoint is complete when every part of one GEN and EPOCH is there. -/
def Eng.ckptPart (e : Eng) (now : Nat) (ws : List Word) : Eng :=
  if e.role ≠ .sync ∧ e.role ≠ .standby then e
  else
    let gen : BitVec 16 := (ws.getD 0 0).extractLsb' 0 16
    let ep := ws.getD 1 0
    let h := ws.getD 2 0
    let parts := (h.extractLsb' 16 16).toNat
    let i := (h.extractLsb' 0 16).toNat
    let n := ((ws.getD 0 0).extractLsb' 20 8).toNat
    let entry (w : List Word) : Nat × Nat × Nat × List Word :=
      (((w.getD 0 0).extractLsb' 24 8).toNat, ((w.getD 0 0).extractLsb' 16 2).toNat, ((w.getD 0 0).extractLsb' 0 16).toNat, w.drop 1)
    let new := (chunks 33 n (ws.drop 3)).map entry
    let base : Ckpt := match e.pair.part with
      | some p => if p.gen = gen ∧ p.epoch = ep then p else { gen := gen, epoch := ep, parts := parts, got := [], ctxs := [], t := now }
      | none => { gen := gen, epoch := ep, parts := parts, got := [], ctxs := [], t := now }
    let c : Ckpt := if base.got.contains i then base else { base with got := i :: base.got, ctxs := base.ctxs ++ new }
    if c.got.length = c.parts then
      ({ e with pair := { e.pair with part := none, ckpt := some { c with t := now } } } : Eng).swapAck.syncDone
    else { e with pair := { e.pair with part := some c } }

/-- VERDICT (R551): the active engine journals a result other than pass. -/
def Eng.verdict (e : Eng) (x : LCtx) (w : Word) : Eng :=
  let r := (w.extractLsb' 28 4).toNat
  if e.active ∧ r ≠ 0 then
    { e with jq := e.jq ++ [{ t := x.site, src := .hub, ch := none, ev := JEv.verdict
                              data := [r, (w.extractLsb' 24 4).toNat, (w.extractLsb' 16 8).toNat, (w.extractLsb' 0 8).toNat]
                              safe := false }] }
  else e

/-- TAKEOVER_FRAME (R556): it names this engine. -/
def Eng.takeoverFrame (e : Eng) (x : LCtx) (w : Word) : Eng :=
  if e.active ∧ x.nid = some (w.extractLsb' 0 6).toNat then
    { e.setRole .demoted with pair := { (e.setRole .demoted).pair with demote := true, swap := none, tOver := none, r.evt.demoted := true } }
  else e

/-! ### Judging (R552 to R554) -/

/-- The result of a judgement: 0 pass, 1 failed, 2 missing, 3 unverifiable; the check, the cap and the GCID. -/
structure Judge where
  res : Nat
  check : Nat := 0
  cap : Nat := 0xFF
  gcid : Nat := 0
  deriving DecidableEq, Repr

/-- The grant of a GCID in force before an epoch (R552): of the newest earlier frame, else as acknowledged. -/
def Pair.prevIss (p : Pair) (ep : BitVec 32) (g : Nat) : Nat :=
  match (p.frames.filter (fun (f : GFrame) => laterBv ep f.epoch)).findSome? (fun (f : GFrame) => f.recs.lookup g) with
  | some r => r.1
  | none => ((p.mirCtx.find? (fun (c : MirCtx) => decide (c.gcid = g))).map (·.gAck)).getD 0

def Pair.prevIssX (p : Pair) (ep : BitVec 32) (g : Nat) : Nat :=
  match (p.frames.filter (fun (f : GFrame) => laterBv ep f.epoch)).findSome? (fun (f : GFrame) => f.recs.lookup g) with
  | some r => r.2.1
  | none => ((p.mirCtx.find? (fun (c : MirCtx) => decide (c.gcid = g))).map (·.gAckX)).getD 0

/-- R552: check C3 of one cap, import or export. -/
def Eng.c3 (e : Eng) (ep : BitVec 32) (recs : List (Nat × Nat × Nat × Nat)) (k : Nat) (x : Bool) : Bool :=
  let p := e.pair
  let under (g : Nat) : Bool := decide (k = 8) || (let c := e.last.ctx g; c.cfg.conf && decide (c.cfg.fdr.toNat = k))
  let val (r : Nat × Nat × Nat × Nat) : Nat := if x then r.2.2.1 else r.2.1
  let mine := recs.filter (fun r => under r.1)
  let rises := mine.any (fun r => decide ((if x then p.prevIssX ep r.1 else p.prevIss ep r.1) < val r))
  let ack (g : Nat) : Nat :=
    ((p.mirCtx.find? (fun (c : MirCtx) => decide (c.gcid = g))).map (fun c => if x then c.gAckX else c.gAck)).getD 0
  let live := (mine.map (fun r => max (ack r.1) (val r))).sum
  let resv := ((p.mirCtx.filter (fun (c : MirCtx) => under c.gcid && decide (c.st ≠ 2))).map (fun (c : MirCtx) => if x then 0 else c.resv)).sum
  let eff := if x then e.last.capX k
    else ((p.mirCaps.find? (fun (c : MirCap) => decide (c.cap = k))).map (·.eff)).getD 0
  rises && decide (eff < live + resv)

/-- R552: epoch ep judged. -/
def Eng.judge (e : Eng) (ep : BitVec 32) : Judge :=
  let p := e.pair
  let fs := p.frames.filter (fun (f : GFrame) => decide (f.epoch = ep))
  let recs := fs.flatMap (fun (f : GFrame) => f.recs)
  let live := (p.mirCtx.filter (fun (c : MirCtx) => decide (c.st = 2))).map (·.gcid)
  let lim (c : MirCtx) : Nat :=
    let cfg := (e.last.ctx c.gcid).cfg
    max cfg.floor (min c.req cfg.pmax)
  let find (g : Nat) : Option MirCtx := p.mirCtx.find? (fun (c : MirCtx) => decide (c.gcid = g))
  let caps := [8] ++ e.last.feeders
  if fs = [] then { res := 2 }
  else if p.mirEpoch.all (fun m => laterBv (ep - 3) m) then { res := 3 }
  else
    let act := p.act.map (fun a => (a.1, a.2.1))
    let badForm := fs.any (fun (f : GFrame) => act.any (fun a => decide (f.nid ≠ a.1) || decide (f.gen ≠ a.2)))
      || p.judged.any (fun j => decide (ep ≠ j + 1))
    let miss := live.find? (fun g => !recs.any (fun r => decide (r.1 = g)))
    let extra := (recs.find? (fun r => !live.contains r.1)).map (·.1)
    let c2 := (recs.find? (fun r => (find r.1).any (fun c => decide (lim c < r.2.1) || decide (c.reqX < r.2.2.1)))).map (·.1)
    let c3 := caps.find? (fun k => e.c3 ep recs k false || e.c3 ep recs k true)
    let c4 := (recs.find? (fun r => decide (r.2.1 < r.2.2.2))).map (·.1)
    if badForm then { res := 1, check := 1 }
    else match miss, extra, c2, c3, c4 with
      | some g, _, _, _, _ => { res := 1, check := 1, gcid := g }
      | _, some g, _, _, _ => { res := 1, check := 1, gcid := g }
      | _, _, some g, _, _ => { res := 1, check := 2, gcid := g }
      | _, _, _, some k, _ => { res := 1, check := 3, cap := k }
      | _, _, _, _, some g => { res := 1, check := 4, gcid := g }
      | _, _, _, _, _ => { res := 0 }

/-- EPOCH_JUDGE (R552 to R554): the standby judges the epoch that ends; the flag says that it takes over. -/
def Eng.judgeStep (e : Eng) (ep : BitVec 32) : Eng × Bool :=
  let j := e.judge ep
  let p := e.pair
  let fail := decide (j.res = 1) || decide (j.res = 2)
  let run : Nat := if fail then p.r.status.failRun.toNat + 1 else if j.res = 0 then 0 else p.r.status.failRun.toNat
  let unver := if j.res = 3 then p.unver + 1 else 0
  let stale := decide (100 ≤ unver)
  let p : Pair := { p with
    judged := some ep, unver := if stale then 0 else unver
    r.status.failRun := BitVec.ofNat 4 (min run 15)
    r.failCnt := if fail then satInc p.r.failCnt else p.r.failCnt
    r.evt.checkFail := p.r.evt.checkFail || fail
    r.evt.mirrorStale := p.r.evt.mirrorStale || stale
    r.check := if j.res = 1 then { check := BitVec.ofNat 4 j.check, cap := BitVec.ofNat 8 j.cap, gcid := BitVec.ofNat 8 j.gcid } else p.r.check
    r.status.role := if stale then .sync else p.r.status.role
    mirRun := if stale then 0 else p.mirRun }
  let e : Eng := { e with pair := p }
  let w : Word := BitVec.ofNat 32 (j.res * 2 ^ 28 + j.check * 2 ^ 24 + j.cap * 65536 + j.gcid)
  let e := match p.act with
    | some (n, _, _) => e.pairTo n 4 0 ep [w]
    | none => e
  (e, decide (2 ≤ run) && fail)

/-! ### Taking over and swapping (R555 to R557, R560) -/

/-- The contexts of a new active engine from the mirror, the newest grants and the checkpoint (R555); `acked`: the
acknowledgements count as of the new generation (R560). -/
def Eng.inherit (e : Eng) (now : Nat) (acked : Bool) : Last :=
  let p := e.pair
  let iss (g : Nat) : Option (Nat × Nat × Nat) := p.frames.findSome? (fun (f : GFrame) => f.recs.lookup g)
  let ctx (m : MirCtx) : Ctx :=
    let i := (iss m.gcid).getD (m.gAck, m.gAckX, 0)
    let st : CtxState := match m.st with
      | 1 => .absent | 2 => .live | 3 => .ghost | 4 => .escrow | 5 => .out | 6 => .meter | _ => .unconf
    let r : CtxRec :=
      { imp := m.gAck, exp := m.gAckX, ackEpoch := m.ackEpoch, ackGen := e.last.r.gen, gstate := 1, meter := decide (m.st = 6)
        ofsOk := false, pc := m.pc, ackValid := true, nEn := 0, req := m.req, reqX := m.reqX, pIn := m.pIn, per := 0 }
    let k := p.ckpt.bind (fun (c : Ckpt) => c.ctxs.find? (fun y => decide (y.1 = m.gcid)))
    { gcid := m.gcid, st := st, cfg := (e.last.ctx m.gcid).cfg, rec' := some r, gIss := i.1, gAck := m.gAck, gIssX := i.2.1
      gAckX := m.gAckX, resv := m.resv, late := m.late, acked := acked, floorLast := i.2.2
      curve := k.map (fun y => (y.2.2.2, y.2.1, now - msNs y.2.2.1))
      tGhost := if m.st = 3 then some (now + msNs m.timer) else none }
  let known := p.mirCtx.map (·.gcid)
  let rest := (e.last.ctxs.filter (fun (c : Ctx) => c.cfg.conf && !known.contains c.gcid)).map (fun (c : Ctx) =>
    { gcid := c.gcid, cfg := c.cfg, st := .absent, resv := c.cfg.floor : Ctx })
  let curt := p.mirCaps.foldl (fun (v : Vector (Option Curt) 9) (m : MirCap) =>
    vMod v m.cap (fun (c : Option Curt) =>
      if m.curt then
        some { cap := (c.map (·.cap)).getD m.eff, tEnd := if m.left = 0xFFFFFFFF then none else some (now + msNs m.left.toNat) }
      else none)) e.last.curt
  let l : Last := { e.last with inbox := [], ctxs := [], curt := curt }
  (p.mirCtx.map ctx ++ rest).foldl (fun (l : Last) (c : Ctx) => l.setCtx c) l

/-- R553, R555 to R557: the standby becomes ACTIVE with the next generation. -/
def Eng.takeover (e : Eng) (x : LCtx) (swap : Bool) : Eng :=
  let g := genMax e.last.r.gen e.pair.genSeen + 1
  let old := e.pair.act.map (·.1)
  let l := e.inherit x.now swap
  let rest := !swap && !e.pair.r.status.planOn
  let e : Eng := { e with
    last := { l with r.gen := g, tNext := some (e.last.tNext.getD x.site) }
    pair := { e.pair with
      act := none, genSeen := g, swap := none, tOver := if swap then none else some x.now
      tWake := if rest then some (x.now + msNs 25) else none
      r.status.role := .active, r.status.failRun := 0, r.takeEpoch := e.last.r.epoch
      r.status.planOn := !rest
      r.evt.takeover := e.pair.r.evt.takeover || !swap, r.evt.swap := e.pair.r.evt.swap || swap } }
  match old, swap with
  | some n, false => e.pairTo n 5 0 e.last.r.epoch [BitVec.ofNat 32 (n % 64)]
  | _, _ => e

/-- PLANNER_WAKE_DONE (R557). -/
def Eng.wakeDone (e : Eng) (now : Nat) : Eng :=
  match e.pair.tWake with
  | some t => if t ≤ now then { e with pair := { e.pair with tWake := none, r.status.planOn := true } } else e
  | none => e

/-- The active engine's boundary (R205): the grant frame leaves and the mirror follows. -/
def Eng.issue (e : Eng) (x : LCtx) : Eng :=
  if e.pair.r.status.planOn then
    let r := e.last.issue x (e.quorum x)
    ({ e with last := r.1, tx := e.tx ++ [(.grant, none, r.2)] } : Eng).sendMirror x
  else e

/-- A descriptor of the coordinator completes. -/
def Eng.compl (e : Eng) (ref : DescRef) (st : Nat) : Eng := { e with cq := e.cq ++ [{ ref := ref, status := st }] }

/-- SWAP_BOUNDARY (R560) at the active engine, before the boundary of an epoch: the swap is cancelled without SWAP_ACK at
t_s − E or without a quorum, and carried out at t_s. The flag says that this engine does not issue the epoch. -/
def Eng.swapStep (e : Eng) (x : LCtx) (ep : BitVec 32) : Eng × Bool :=
  match e.pair.swap with
  | none => (e, false)
  | some s =>
    let done (st : Nat) (e : Eng) : Eng := match s.ref with
      | some r => e.compl r st
      | none => e
    if !e.quorum x then (done 0xA9 { e with pair.swap := none }, false)
    else if ep + 1 = s.epochS ∧ !s.acked then (done 0xA7 { e with pair.swap := none }, false)
    else if ep = s.epochS then
      let e : Eng := { e with pair := { e.pair with
        swap := none, r.status.role := .standby, act := some (s.peer, e.last.r.gen + 1, x.now), judged := some (ep - 1), unver := 0
        frames := [], mirEpoch := none, r.status.failRun := 0, r.takeEpoch := ep, r.evt.swap := true } }
      (done 0 e, true)
    else (e, false)

/-- EPOCH_BOUNDARY (R205, R552, R553, R560): the active engine plans and issues; the standby judges, takes over or swaps. -/
def Eng.boundary (e : Eng) (x : LCtx) : Eng :=
  match e.role with
  | .active =>
    let e : Eng := { e with last := e.last.tickEpoch x.now x.site }
    let r := e.swapStep x e.last.r.epoch
    if r.2 then r.1 else r.1.issue x
  | .standby | .sync =>
    let ep := e.last.r.epoch
    let e : Eng := { e with last := e.last.tickEpoch x.now x.site }
    if e.pair.swap.any (fun (s : SwapSt) => s.acked && decide (s.epochS = e.last.r.epoch)) then (e.takeover x true).issue x
    else
      let r := e.judgeStep ep
      if r.2 then (r.1.takeover x false).issue x else r.1
  | _ => e

/-- SWAP_REQ (R560): the standby answers once its checkpoint is complete. -/
def Eng.swapReq (e : Eng) (src : Nat) (w : Word) : Eng :=
  if e.role = .standby then
    { e with pair.swap := some { epochS := w, acked := false, ref := none, peer := src }, pair.ckpt := none }
  else e

/-- SWAP_ACK (R560). -/
def Eng.swapAcked (e : Eng) (w : Word) : Eng :=
  match e.pair.swap with
  | some s => if e.active ∧ s.epochS = w then { e with pair.swap := some { s with acked := true } } else e
  | none => e

/-! ### Descriptors of the coordinator (R233 to R235, R560, R573) -/

/-- 0x0805 at the active engine. -/
def Eng.pairSwap (e : Eng) (x : LCtx) (ref : DescRef) : Eng × Option Nat :=
  let me := x.nid.getD 64
  if e.overlap x.now then (e, some 0x55)
  else if !e.quorum x then (e, some 0xA9)
  else match x.sby.filter (fun n => decide (n ≠ me)) with
    | [] => (e, some 0xA6)
    | n :: _ =>
      if e.pair.swap.isSome then (e, some 0xA6)
      else
        let t := e.last.tNext.getD x.site
        let k := (x.site + msNs 25 - t + e.last.eLen - 1) / e.last.eLen
        let s := e.last.r.epoch + 1 + BitVec.ofNat 32 k
        let e : Eng := { e with pair.swap := some { epochS := s, acked := false, ref := some ref, peer := n } }
        ((e.pairTo n 6 0 e.last.r.epoch [s]).sendCkpt x, none)

/-- A configuration taken by this hub (R233, R573). -/
def Eng.cfgTake (e : Eng) (x : LCtx) (ws : List Word) : Eng :=
  let op := ((ws.getD 0 0).extractLsb' 0 16).toNat
  let e : Eng := { e with last := e.last.cfgApply x.now e.active ws, store := e.store ++ [ws] }
  if op = 0x0804 then
    let p := payOf ws 0
    let c : PairCfg :=
      { aValid := p.getLsbD 31, nidA := p.extractLsb' 24 6, bValid := p.getLsbD 23, nidB := p.extractLsb' 16 6
        sbyRest := p.getLsbD 1, auto := p.getLsbD 0 }
    { e with pair := { e.pair with
        r.cfg := c, demote := if e.role = .demoted then false else e.pair.demote
        r.status.role := if e.role = .demoted then .none else e.role
        tGone := if e.role = .demoted then x.now else e.pair.tGone } }
  else e

/-- R233: the coordinator executes a planner or pair descriptor: it broadcasts the configuration, and completes once every
present node has stored it. -/
def Eng.config (e : Eng) (x : LCtx) (d : Desc) (ref : DescRef) : Eng × Option Nat :=
  let op := d.opcode
  if e.overlap x.now then (e, some 0x55)
  else if op = 0x0805 then (if !d.onlyBits [] then (e, some 0x05) else e.pairSwap x ref)
  else
    let chk := if op = 0x0804 then
        (if !d.onlyBits (planMasks op) then some 0x05
         else if d.bit 0 31 && d.bit 0 23 && decide (d.fld 0 24 6 = d.fld 0 16 6) then some 0xAA else none)
      else e.last.cfgCheck x.now d
    match chk with
    | some st => (e, some st)
    | none =>
      let ws := d.w.toList
      let others := x.nodes.filter (fun n => decide (some n ≠ x.nid))
      let e := e.cfgTake x ws
      if others = [] then (e, some 0)
      else ({ e with
        tx := e.tx ++ [(.config, none, ws)]
        last.pend := e.last.pend ++ [{ ref := ref, words := ws, left := others, t := x.now }] }, none)

/-- CONFIG_STORE (R233): a CONFIG frame is stored; at the hub that broadcast it, a node's having stored it is noted. -/
def Eng.configStore (e : Eng) (x : LCtx) (src : Nat) (ws : List Word) : Eng :=
  if e.last.pend.any (fun (c : CfgPend) => decide (c.words = ws)) then
    let ps := e.last.pend.map (fun (c : CfgPend) => if c.words = ws then { c with left := c.left.filter (fun n => decide (n ≠ src)) } else c)
    { e with
      last.pend := ps.filter (fun (c : CfgPend) => decide (c.left ≠ []))
      cq := e.cq ++ (ps.filter (fun (c : CfgPend) => decide (c.left = []))).map (fun (c : CfgPend) => { ref := c.ref, status := 0 }) }
  else e.cfgTake x ws

/-- CONFIG_STORE_TIMEOUT (R235): 100 ms have passed. -/
def Eng.configTimeout (e : Eng) (now : Nat) : Eng :=
  let due (c : CfgPend) : Bool := decide (c.t + msNs 100 ≤ now)
  { e with
    last.pend := e.last.pend.filter (fun c => !due c)
    cq := e.cq ++ (e.last.pend.filter due).map (fun (c : CfgPend) => { ref := c.ref, status := 0x56 }) }

/-- CURTAIL_EXPIRY (R220): the duration of a curtailment has run out; it ends at the next boundary. -/
def Eng.curtExpiry (e : Eng) (now k : Nat) : Eng :=
  { e with last.curt := vMod e.last.curt k (fun (c : Option Curt) =>
      c.map (fun (y : Curt) => if y.tEnd.any (fun t => decide (t ≤ now)) then { y with tEnd := some now } else y)) }

/-- A hub reset (R548): role NONE; what is stored stays: LAST_ and PAIR_ configuration, GEN, contexts' configurations. -/
def Eng.boot (e : Eng) (now : Nat) : Eng :=
  let r := e.last.r
  { last :=
      { r := { ({} : LastRegs) with
          cfg := r.cfg, gen := r.gen, siteCap := r.siteCap, siteCapx := r.siteCapx, siteMeter := r.siteMeter
          fdrCap := r.fdrCap, fdrCapx := r.fdrCapx, fdrBase := r.fdrBase }
        ctxs := (e.last.ctxs.filter (fun (c : Ctx) => c.cfg.conf)).map (fun (c : Ctx) => { gcid := c.gcid, cfg := c.cfg })
        eLen := r.cfg.epoch.toNat * 10000, curt := e.last.curt }
    pair := { r := { ({} : PairRegs) with cfg := e.pair.r.cfg }, tGone := now } }

end Sys2Proof.Machine
end

