-- ==== Sys2Proof/Machine/StPm.lean ====
section
/-! DEFINITION. Sys2Proof/Machine/StPm.lean: the state of power management, junction temperature and ageing of a module
(R657 to R682). -/

namespace Sys2Proof.Machine

/-- One unit: channels 0 to 3, the hub at 4. -/
structure UnitPm where
  /-- target state, and the state the unit is moving to (R664, R665) -/
  target : Nat := 0
  dest : Option Nat := none
  /-- the target has been deeper than the state since, ns (R665) -/
  tLow : Option Nat := none
  deriving DecidableEq, Repr

/-- The junction temperature of one die: Soles 0 to 3, hub 4, power-management die 5, DRAM 6, Eyelet dies 7 to 10 (R668,
R681). -/
structure DieTh where
  /-- newest die maximum and the highest since hub boot, 0.1 °C -/
  t : Option Int := none
  peak : Option Int := none
  /-- time from which each sensor has differed from the median, ns; a sensor is excluded (R668) -/
  tDev : List (Option Nat) := []
  flt : Bool := false
  /-- band, throttle level, ms at a level above 0, time of the last fall of the level, ns (R669, R672) -/
  band : Nat := 1
  level : Nat := 0
  thrMs : Nat := 0
  tFall : Nat := 0
  /-- maximum at or above 125.0 °C since, ns; TJ_SD in force (R673) -/
  tHot : Option Nat := none
  tjSd : Bool := false
  deriving DecidableEq, Repr

/-- The ageing state of one logic die (R674 to R677). Voltages in mV. -/
structure DieAge where
  vBase : Nat := 700
  vAge : Nat := 0
  /-- core voltage in force -/
  vSet : Nat := 700
  /-- newest 60 slacks of each replica, ps, newest first -/
  slack : Vector (List Int) 8 := Vector.replicate 8 []
  /-- time of the last re-plan, ns -/
  tPlan : Nat := 0
  /-- records: site time in ns and V_AGE, newest first, at most 64; site time of the newest -/
  recs : List (Nat × Nat) := []
  deriving DecidableEq, Repr

/-- One second of site time: module energy, µJ, and billed energy, mWh (R680). -/
structure OvhSec where
  mod : Nat
  bill : Nat
  deriving DecidableEq, Repr

/-- Power management, temperature and ageing of the module. -/
structure Pm where
  /-- the registers (R679) -/
  r : PmRegs := {}
  /-- units CH0 to CH3 and the hub -/
  u : Vector UnitPm 5 := Vector.replicate 5 {}
  /-- dies by their number in TH_DIE_SEL -/
  th : Vector DieTh 11 := Vector.replicate 11 {}
  /-- band of the reported maximum (R668) -/
  band : Nat := 1
  age : Vector DieAge 5 := Vector.replicate 5 {}
  /-- samples of the present second: sum in mW and number; seconds past, newest first, at most 3,600; billed energy at the
  last second, mWh; the second of site time in progress (R680) -/
  pwSum : Nat := 0
  pwN : Nat := 0
  ovh : List OvhSec := []
  billLast : Nat := 0
  sec : Nat := 0
  deriving DecidableEq, Repr

end Sys2Proof.Machine
end

