-- ==== Sys2Proof/Machine/Power.lean ====
section
/-! DEFINITION. Sys2Proof/Machine/Power.lean: the choice of power states, junction temperature, throttling and core
voltage (R657 to R682). Units are CH0 to CH3 and the hub at 4; state codes are those of R680. -/

namespace Sys2Proof.Machine

/-! ### States (R657, R680) -/

/-- The state of a unit as PM_STATUS shows it. -/
def Pm.state (p : Pm) (u : Nat) : Nat :=
  if u = 4 then p.r.pmStatus.hub.toNat else (p.r.pmStatus.ch.extractLsb' (4 * u) 4).toNat

/-- A nibble of a channel field, or of PM_WHY and PM_WAKE. -/
def setNib {n : Nat} (w : BitVec n) (k : Nat) (v : Nat) : BitVec n :=
  (w &&& ~~~(BitVec.ofNat n (15 * 2 ^ (4 * k)))) ||| BitVec.ofNat n (v % 16 * 2 ^ (4 * k))

/-- The state of a unit set. -/
def Pm.setState (p : Pm) (u st : Nat) : Pm :=
  if u = 4 then { p with r.pmStatus.hub := BitVec.ofNat 2 st } else { p with r.pmStatus.ch := setNib p.r.pmStatus.ch u st }

/-- R657: the exit latency of a state, µs. -/
def exitUs (hub : Bool) (st : Nat) : Nat :=
  if hub then [0, 400, 25000].getD st 25000 else [0, 200, 2000, 12000, 180000].getD st 180000

/-- The deepest state of a unit. -/
def deepest (hub : Bool) : Nat := if hub then 2 else 4

/-- R664: the deepest state PM_LIMIT permits. -/
def Pm.limit (p : Pm) (u : Nat) : Nat :=
  if u = 4 then min 2 p.r.pmLimit.hubDeep.toNat else min 4 ((p.r.pmLimit.chDeep.extractLsb' (4 * u) 3).toNat)

/-- R664: the deepest state whose exit latency is within every tolerance given. -/
def tolState (hub : Bool) (tols : List (BitVec 24)) : Nat :=
  let ok (s : Nat) : Bool := tols.all (fun t => decide (t = 0xFFFFFF) || decide (exitUs hub s ≤ t.toNat))
  ((List.range (deepest hub + 1)).filter ok).foldl max 0

/-- What power management sees of one unit: the floors in force as codes and states, and which tolerances apply. -/
structure PmUnit where
  floors : List (Nat × Nat)
  vd : Bool
  gr : Bool
  deriving DecidableEq, Repr

/-- R664: the target of a unit and the code of the constraint that sets it: the least state, at a tie the lower code. -/
def Pm.choose (p : Pm) (u : Nat) (x : PmUnit) : Nat × Nat :=
  let hub := decide (u = 4)
  if !p.r.pmCtrl.auto then (0, 0)
  else
    let tols := (if x.vd then [p.r.pmLtrVd] else []) ++ (if x.gr then [p.r.pmLtrGr] else []) ++ [p.r.pmLtrDr]
    let cs := (0, tolState hub tols) :: (1, p.limit u) :: x.floors
    let t := (cs.map (·.2)).foldl min (deepest hub)
    (t, ((cs.filter (fun c => decide (c.2 = t))).map (·.1)).foldl min 15)

/-- R664, R665: a target comes into force: a shallower one raises the unit at once and abandons a lowering; a deeper one
starts DWELL. A raise that is under way runs to its end (DEDUCED). -/
def Pm.aim (p : Pm) (now u t why : Nat) : Pm :=
  let x := vget p.u u {}
  let st := p.state u
  let x : UnitPm :=
    if t < st then { x with target := t, dest := some t, tLow := none }
    else match x.dest with
      | some m =>
        if st < m ∧ t < m then { x with target := t, dest := none, tLow := if t = st then none else some now }
        else { x with target := t }
      | none => { x with target := t, tLow := if t = st then none else some (x.tLow.getD now) }
  { p with u := p.u.setIfInBounds u x, r.pmWhy := if u = 4 then { p.r.pmWhy with hub := BitVec.ofNat 4 why }
      else { p.r.pmWhy with ch := setNib p.r.pmWhy.ch u why } }

/-- PM_EVALUATE (R664): every unit's target. -/
def Pm.evaluate (p : Pm) (now : Nat) (us : List PmUnit) : Pm :=
  us.zipIdx.foldl (fun (p : Pm) x => let c := p.choose x.2 x.1; p.aim now x.2 c.1 c.2) p

/-- PM_LOWER (R665): the deeper target has stood for DWELL: the unit begins to lower. -/
def Pm.lower (p : Pm) (now u : Nat) : Pm :=
  let x := vget p.u u {}
  match x.tLow with
  | some t =>
    if p.state u < x.target ∧ t + msNs (max 10 (min 60000 p.r.pmCtrl.dwell.toNat)) ≤ now then
      { p with u := p.u.setIfInBounds u { x with dest := some x.target, tLow := none } }
    else p
  | none => p

/-- PM_STATE_REACHED (R665): the unit has reached the state it moves to. -/
def Pm.reached (p : Pm) (u : Nat) : Pm :=
  let x := vget p.u u {}
  match x.dest with
  | some t => { (p.setState u t) with u := p.u.setIfInBounds u { x with dest := none, tLow := none } }
  | none => p

/-- The state at which a wake source can be served (R661, R666, R678): DEDUCED where the table states none. -/
def wakeState (hub : Bool) (code : Nat) : Option Nat :=
  if hub then (match code with | 4 => some 0 | 7 => some 1 | 8 => some 0 | 9 => some 0 | _ => none)
  else (match code with | 1 => some 1 | 2 => some 2 | 3 => some 2 | 4 => some 1 | 9 => some 2 | _ => none)

/-- PM_WAKE (R665, R666): the code is shown, a lowering is abandoned, and the unit is raised. -/
def Pm.wake (p : Pm) (now u code : Nat) (x : PmUnit) : Pm :=
  let p : Pm := { p with r.pmWake := setNib p.r.pmWake u code }
  let m := vget p.u u {}
  let low := match m.dest with | some t => decide (p.state u < t) | none => false
  let p : Pm := { p with u := p.u.setIfInBounds u { m with dest := if low then none else m.dest, tLow := none } }
  let c := p.choose u x
  match wakeState (decide (u = 4)) code with
  | some w => p.aim now u (min w c.1) c.2
  | none => p.aim now u c.1 c.2

/-! ### Temperature (R668 to R673) -/

/-- The band a temperature lies in, 0.1 °C (R10). -/
def bandOfT (t : Int) : Nat :=
  if t < -100 then 0 else if t < 400 then 1 else if t < 850 then 2 else if t ≤ 1100 then 3 else 4

/-- R669: warmer at once, colder only when the maximum lies 3.0 °C inside the colder band. -/
def bandNext (b : Nat) (t : Int) : Nat :=
  let n := bandOfT t
  if b ≤ n then n
  else
    let c := bandOfT (t + 30)
    if c < b then c else b

/-- Insertion into a sorted list. -/
def insInt (x : Int) : List Int → List Int
  | [] => [x]
  | y :: ys => if x ≤ y then x :: y :: ys else y :: insInt x ys

/-- Twice the median of a list. -/
def median2 (l : List Int) : Int :=
  let s := l.foldr insInt []
  let n := s.length
  if n = 0 then 0 else if n % 2 = 1 then 2 * s.getD (n / 2) 0 else s.getD (n / 2 - 1) 0 + s.getD (n / 2) 0

/-- Sensors of a die. -/
def sensorsOf (die : Nat) : Nat := if die < 4 then 6 else if die = 4 then 8 else if die = 5 then 2 else 1

/-- R668: one conversion of a die's sensors, 0.1 °C. -/
def DieTh.convert (d : DieTh) (now die : Nat) (rs : List Int) : DieTh :=
  let rs := rs.take (sensorsOf die)
  let m := median2 rs
  let dev (i : Nat) (x : Int) : Option Nat :=
    if 400 < (2 * x - m).natAbs then some ((d.tDev.getD i none).getD now) else none
  let ds := rs.zipIdx.map (fun p => dev p.2 p.1)
  let ok (i : Nat) (x : Int) : Bool :=
    decide (-600 ≤ x) && decide (x ≤ 1600) &&
    !(match ds.getD i none with | some t => decide (t + sNs 1 ≤ now) | none => false)
  let vs := (rs.zipIdx.filter (fun p => ok p.2 p.1)).map (·.1)
  let t : Option Int := match vs with | [] => none | v :: r => some (r.foldl max v)
  let hot := match t with | some v => decide (1250 ≤ v) | none => false
  { d with
    t := t
    tDev := ds
    flt := decide (vs.length < rs.length)
    peak := match d.peak, t with | some a, some b => some (max a b) | a, none => a | none, b => b
    band := match t with | some v => if die ≤ 4 then bandNext d.band v else d.band | none => d.band
    tHot := if hot then some (d.tHot.getD now) else none
    tjSd := d.tjSd && (match t with | some v => decide (1150 ≤ v) | none => true) }

/-- A temperature as its register shows it (R681). -/
def tShow (t : Option Int) : BitVec 16 := match t with | some v => toS 16 v | none => 0x8000

/-- Die d of the table. -/
def Pm.die (p : Pm) (d : Nat) : DieTh := vget p.th d {}

/-- R668: TH_MAX: the highest die maximum of the logic dies and the power-management die, the lower number at a tie. -/
def Pm.thMax (p : Pm) : Pm :=
  let best := (List.range 6).foldl (fun (b : Option (Nat × Int)) d => match (p.die d).t, b with
    | some t, none => some (d, t)
    | some t, some (e, u) => if u < t then some (d, t) else some (e, u)
    | none, b => b) none
  match best with
  | some (d, t) =>
    let b := bandNext p.band t
    { p with band := b, r.thMax := { band := BitVec.ofNat 3 b, die := BitVec.ofNat 4 d, t := tShow (some t) } }
  | none => { p with r.thMax := { p.r.thMax with die := 0, t := 0x8000 } }

/-- TEMP_CONVERSION (R668 to R670). -/
def Pm.temp (p : Pm) (now die : Nat) (rs : List Int) : Pm :=
  let o := p.die die
  let n := o.convert now die rs
  let ev := p.r.thEvt
  let ent (b : Nat) : Bool := decide (n.band = b) && decide (o.band ≠ b)
  ({ p with
    th := p.th.setIfInBounds die n
    r.thEvt := { ev with
      tb4 := ev.tb4 || ent 4, tb3 := ev.tb3 || ent 3, tb0 := ev.tb0 || ent 0, sensFlt := ev.sensFlt || n.flt } } : Pm).thMax

/-- THR_T held between 88.0 and 110.0 °C (R680, R753). -/
def Pm.thrT (p : Pm) : Int := iclamp p.r.thCfg.thrT.toInt 880 1100

/-- THROTTLE_UPDATE (R672) of a logic die. -/
def Pm.throttle (p : Pm) (now die : Nat) : Pm :=
  let d := p.die die
  let mx := p.r.thCfg.maxLevel.toNat
  let thr := p.thrT
  let up := match d.t with | some t => decide (thr ≤ t) | none => false
  let dn := match d.t with | some t => decide (t < thr - 30) | none => false
  let l :=
    if d.band = 4 then mx
    else if up then min mx (d.level + 1)
    else if dn ∧ d.tFall + sNs 1 ≤ now then d.level - 1
    else min d.level mx
  let d' : DieTh := { d with
    level := l
    thrMs := d.thrMs + (if 0 < d.level then 100 else 0)
    tFall := if l < d.level then now else d.tFall }
  if 4 < die then p
  else { p with th := p.th.setIfInBounds die d', r.thEvt.throttle := p.r.thEvt.throttle || (decide (d.level = 0) && decide (0 < l)) }

/-- R673: the die maximum has stood at or above 125.0 °C for 100 ms. -/
def Pm.hotDue (p : Pm) (now die : Nat) : Bool :=
  match (p.die die).tHot with | some t => decide (t + msNs 100 ≤ now) | none => false

/-- R673: TJ_SD set. -/
def Pm.tjSet (p : Pm) (die : Nat) : Pm :=
  { p with th := vMod p.th die (fun (d : DieTh) => { d with tjSd := true }), r.thEvt.tjSd := true }

/-- TH_DIE_SELECT (R681): values 11 to 15 are ignored. -/
def Pm.thSel (p : Pm) (w : Word) : Pm :=
  let n := (w.extractLsb' 0 4).toNat
  if 10 < n then p
  else
    let d := p.die n
    let lg := decide (n < 5)
    { p with r := { p.r with
        thDieSel := BitVec.ofNat 4 n
        thDieData0 := { t := tShow d.t, tPeak := tShow d.peak }
        thDieData1 :=
          { sensFlt := d.flt, tjSd := lg && d.tjSd, band := BitVec.ofNat 3 (if lg then d.band else 0)
            level := BitVec.ofNat 4 (if lg then d.level else 0), thrS := BitVec.ofNat 16 (min 65535 (d.thrMs / 1000)) } } }

/-! ### Ageing and core voltage (R674 to R677) -/

/-- V_BAND of a logic die (R670). -/
def Pm.vBand (p : Pm) (d : Nat) : Nat := if (p.die d).band = 0 then 15 else 0

/-- The ageing state of logic die d. -/
def Pm.ag (p : Pm) (d : Nat) : DieAge := vget p.age d {}

/-- V_SET as R675 states it. -/
def Pm.vWant (p : Pm) (d : Nat) : Nat := let a := p.ag d; min (a.vBase + a.vAge + p.vBand d) 850

/-- R675: V_SET comes into force: a rise at once, a fall only where `fallOk` (the hub; a Sole's loop IDLE or FAULT). -/
def Pm.vApply (p : Pm) (d : Nat) (fallOk : Bool) : Pm :=
  let w := p.vWant d
  { p with age := vMod p.age d (fun (a : DieAge) => if a.vSet ≤ w ∨ fallOk then { a with vSet := w } else a) }

/-- R674: M in ps: the least of the means of the last 60 measurements; none before the first. -/
def DieAge.margin (a : DieAge) : Option Int :=
  let ms := (a.slack.toList.filter (fun l => !l.isEmpty)).map (fun l => divHE l.sum l.length)
  match ms with | [] => none | m :: r => some (r.foldl min m)

/-- AGEING_MEASURE (R674, R676): the slacks of the eight replicas, ps, taken to 5 ps. -/
def Pm.ageMeasure (p : Pm) (d : Nat) (ss : List Int) (fallOk : Bool) : Pm :=
  let q (x : Int) : Int := x / 5 * 5
  let a := p.ag d
  let fast := (ss.take 8).any (fun x => decide (q x < 15))
  let a : DieAge := { a with
    slack := vMapI a.slack (fun i (l : List Int) => match ss[i]? with | some x => (q x :: l).take 60 | none => l)
    vAge := if fast then min 255 (a.vAge + 5) else a.vAge }
  let p : Pm := { p with age := p.age.setIfInBounds d a, r.ageEvt.fast := if fast then msetb p.r.ageEvt.fast d true else p.r.ageEvt.fast }
  p.vApply d fallOk

/-- AGEING_REPLAN (R676): the flag says that LIMIT was met. `boot`: the re-plan of a boot. -/
def Pm.ageReplan (p : Pm) (now d : Nat) (boot fallOk : Bool) : Pm × Bool :=
  let a := p.ag d
  if !boot ∧ now < a.tPlan + 3600 * sNs (max 1 (min 168 p.r.ageCfg.replan.toNat)) then (p, false)
  else
    let tgt : Int := 5 * (max 4 (min 40 p.r.ageCfg.mTgt.toNat))
    let low := match a.margin with | some m => decide (m < tgt) | none => false
    let lim := low && decide (a.vSet = 850)
    let a : DieAge := { a with tPlan := now, vAge := if low then min 255 (a.vAge + 5) else a.vAge }
    let ev := p.r.ageEvt
    let p : Pm := { p with
      age := p.age.setIfInBounds d a
      r.ageEvt := { ev with step := if low then msetb ev.step d true else ev.step, limit := if lim then msetb ev.limit d true else ev.limit } }
    (p.vApply d fallOk, lim)

/-- AGEING_RECORD (R677): every 7 days of site time. -/
def Pm.ageRecord (p : Pm) (site d : Nat) : Pm :=
  let a := p.ag d
  let due := match a.recs with | (t, _) :: _ => decide (t + 7 * 86400 * sNs 1 ≤ site) | [] => true
  if due then { p with age := p.age.setIfInBounds d { a with recs := ((site, a.vAge) :: a.recs).take 64 } } else p

/-- R677: the slope of V_AGE in mV per year. -/
def DieAge.slope (a : DieAge) : Rat :=
  let n : Rat := a.recs.length
  let x (r : Nat × Nat) : Rat := (r.1 : Rat) / (365 * 86400 * 1000000000 : Nat)
  let y (r : Nat × Nat) : Rat := r.2
  let s (f : Nat × Nat → Rat) : Rat := (a.recs.map f).foldl (· + ·) 0
  let den := n * s (fun r => x r * x r) - s x * s x
  if den = 0 then 0 else (n * s (fun r => x r * y r) - s x * s y) / den

/-- R677: YEARS. -/
def DieAge.years (a : DieAge) (siteValid : Bool) : Nat :=
  if a.recs.length < 8 ∨ a.slope ≤ 0 ∨ !siteValid then 0xFFFF
  else min 0xFFFE (roundHE ((850 - a.vSet : Nat) * 10 / a.slope)).toNat

/-- AGE_SELECT (R682): values above 4 are ignored. -/
def Pm.ageSel (p : Pm) (w : Word) (siteValid : Bool) : Pm :=
  let n := (w.extractLsb' 0 3).toNat
  if 4 < n then p
  else
    let a := p.ag n
    { p with r := { p.r with
        ageSel := BitVec.ofNat 3 n
        ageData0 := { vSet := BitVec.ofNat 16 a.vSet, vBase := BitVec.ofNat 16 a.vBase }
        ageData1 := { vAge := BitVec.ofNat 8 a.vAge, vBand := BitVec.ofNat 8 (p.vBand n), margin := toS 16 (a.margin.getD 0) }
        ageData2 :=
          { years := BitVec.ofNat 16 (a.years siteValid), headroom := BitVec.ofNat 8 (850 - a.vSet)
            records := BitVec.ofNat 8 a.recs.length } } }

/-! ### Module power (R680) -/

/-- A power reading of the power-management die: VAUX in 10 mV, module power in mW; a second of site time that ends gives
PM_POWER and PM_OVH. `billed`: billed import plus export of the node's channels, mWh. -/
def Pm.power (p : Pm) (site vaux mw billed : Nat) : Pm :=
  let s := site / sNs 1
  let p : Pm := { p with r.pmPower.vaux := BitVec.ofNat 16 (min 65535 vaux) }
  if s = p.sec then { p with pwSum := p.pwSum + mw, pwN := p.pwN + 1 }
  else
    let mean := if p.pwN = 0 then mw else (divHE p.pwSum p.pwN).toNat
    let hist := ({ mod := mean * 1000, bill := billed - p.billLast } :: p.ovh).take 3600
    let e : Nat := (hist.map (·.mod)).sum
    let b : Nat := (hist.map (·.bill)).sum
    -- energies in µJ and mWh: 0.01 Wh/MWh = 100 (e / 3.6e9 Wh) / (b / 1e9 MWh)
    { p with
      sec := s, pwSum := mw, pwN := 1, ovh := hist, billLast := billed
      r.pmPower.pin := BitVec.ofNat 16 (min 65535 mean)
      r.pmOvh :=
        { valid := decide (1000000000 ≤ b)
          ovh := if b = 0 then 0 else BitVec.ofNat 16 (min 65535 (divHE ((e : Int) * 1000) (36 * b)).toNat) } }

end Sys2Proof.Machine
end

