-- ==== Sys2Proof/Machine/Ring.lean ====
section
/-! DEFINITION. Sys2Proof/Machine/Ring.lean: the Xaneno ring (R457 to R505): links, frames, trips, discovery, site time
and loopbacks. -/

namespace Sys2Proof.Machine

/-- What the ring sees of its node: time since power-up in ns, gateway role, coordinator roles, hub state (0 H-RUN),
identity of the hub die, and whether every channel's loop is IDLE or FAULT. -/
structure RCtx where
  now : Nat
  gw : Bool
  coordA : Bool
  coordS : Bool
  hub : Nat
  dieId : BitVec 64
  idle : Bool
  deriving DecidableEq, Repr

/-! ### Links and counts -/

/-- The west or the east link. -/
def Ring.link (g : Ring) (w : Bool) : LinkSt := if w then g.west else g.east

/-- The west or the east link replaced. -/
def Ring.setLink (g : Ring) (w : Bool) (l : LinkSt) : Ring := if w then { g with west := l } else { g with east := l }

/-- A link changed by a function. -/
def Ring.modLink (g : Ring) (w : Bool) (f : LinkSt → LinkSt) : Ring := g.setLink w (f (g.link w))

/-- A count of codes 5 to 8 of R504 for a direction; it saturates. -/
def Ring.cnt (g : Ring) (w : Bool) (code : Nat) : Ring :=
  g.modLink w (fun (l : LinkSt) => { l with err := vMod l.err (code - 5) satInc })

/-- The place of a lane code in the counts of a lane: codes 0 to 4, then 9. -/
def laneCode (code : Nat) : Nat := if code = 9 then 5 else code

/-- A count of codes 0 to 4 and 9 of R504 for a lane raised; it saturates. -/
def LinkSt.cnt (l : LinkSt) (lane1 : Bool) (code n : Nat) : LinkSt :=
  { l with lane := vMod l.lane (b2n lane1) (fun (x : LaneSt) => { x with err := vMod x.err (laneCode code) (fun (v : Word) => satAdd v n) }) }

/-- The link is UP and no wrap is in force for it (R480). -/
def LinkSt.clear (l : LinkSt) : Bool := decide (l.st = .up) && !l.wrap

/-! ### Site time (R490, R491) -/

/-- Site time in 2^-16 ns. -/
def SiteClock.val (c : SiteClock) (now : Nat) : Int :=
  let d : Int := (now : Int) - c.t0
  c.base + d * 65536 + d * c.freq * 65536 / 100000000

/-- Site time in whole ns. -/
def Ring.site (g : Ring) (now : Nat) : Nat := (g.clock.val now / 65536).toNat

/-- The clock runs on at another rate. -/
def SiteClock.rate (c : SiteClock) (now : Nat) (f : Int) : SiteClock := { base := c.val now, t0 := now, freq := f }

/-- The clock is stepped. -/
def SiteClock.step (c : SiteClock) (now : Nat) (v : Int) : SiteClock := { c with base := v, t0 := now }

/-- The next free value of the ring interface (log entry 1). -/
def Ring.free (g : Ring) : BitVec 64 × Ring := (Config.freeValue (8 * g.fc + 5), { g with fc := g.fc + 1 })

/-- The servo's control law is not stated: the rate is a free value of at most lim, 0.01 ppm, that works against an
offset (log entry 30). -/
def Ring.slew (g : Ring) (now lim : Nat) (off : Int) : Ring :=
  let f := g.free
  let m : Int := (f.1.toNat % (lim + 1) : Nat)
  { f.2 with clock := f.2.clock.rate now (if 0 < off then -m else m) }

/-! ### Topology and the time master (R483, R488) -/

/-- The NID a node shows in its PRESENCE. -/
def NodeSt.nid (n : NodeSt) : Option (BitVec 6) := if n.w2.getLsbD 31 then some (n.w2.extractLsb' 24 6) else none

/-- The time class a node shows. -/
def NodeSt.tclass (n : NodeSt) : Nat := (n.w2.extractLsb' 16 2).toNat

def NodeSt.eUp (n : NodeSt) : Bool := n.w3.getLsbD 31
def NodeSt.wUp (n : NodeSt) : Bool := n.w3.getLsbD 23
def NodeSt.eNbr (n : NodeSt) : BitVec 6 := n.w3.extractLsb' 24 6
def NodeSt.wNbr (n : NodeSt) : BitVec 6 := n.w3.extractLsb' 16 6

/-- The node known under an NID. -/
def Ring.node (g : Ring) (nid : BitVec 6) : Option NodeSt := g.nodes.find? (fun (n : NodeSt) => decide (n.nid = some nid))

/-- An NID is present: this node's, or one that a PRESENCE frame within 3 ms named (R487). -/
def Ring.present (g : Ring) (nid : BitVec 6) : Bool := decide (g.nid = some nid) || (g.node nid).isSome

/-- The ends of links that are not UP, as the NID at the end and the neighbour it last showed there: east ends, or west
ends. -/
def Ring.downEnds (g : Ring) (w : Bool) : List (Option (BitVec 6) × Option (BitVec 6)) :=
  let own := if (g.link w).st = .up then [] else [(g.nid, (g.link w).nbr)]
  own ++ (g.nodes.filter (fun (n : NodeSt) => !(if w then n.wUp else n.eUp))).map
    (fun (n : NodeSt) => (n.nid, if w then n.lastW else n.lastE))

/-- R483: an east end and a west end that name each other, or do not know their neighbour, are the two ends of one
link (DEDUCED, log entry 31). -/
def sameLink (e w : Option (BitVec 6) × Option (BitVec 6)) : Bool :=
  (e.2.isNone || decide (e.2 = w.1)) && (w.2.isNone || decide (w.2 = e.1))

/-- R483: the number of links that are not UP. -/
def Ring.downLinks (g : Ring) : Nat :=
  let es := g.downEnds false
  let ws := g.downEnds true
  let lone := (ws.filter (fun w => !es.any (fun e => sameLink e w))).length
  es.length + lone

/-- R483: TOPO. -/
def Ring.topo (g : Ring) : Topo :=
  if g.east.st ≠ .up && g.west.st ≠ .up then .none
  else match g.downLinks with
    | 0 => .ring
    | 1 => .wrapped
    | _ => .split

/-- R488: the time class of this node. -/
def Ring.ownClass (g : Ring) (c : RCtx) : BitVec 2 :=
  let pps := match g.tPps with
    | some t => decide (t + sNs 10 ≤ c.now)
    | none => false
  if c.gw && g.r.ctrl.ppsEn && pps then 2 else if c.gw || g.siteSet then 1 else 0

/-- This node is the time master (R488, R492). -/
def Ring.isMaster (g : Ring) : Bool :=
  decide (g.topo = .none) || (g.nid.isSome && decide (g.master = g.nid))

/-- The class of an NID and the time from which it has held it. -/
def Ring.classOf (g : Ring) (nid : BitVec 6) : Nat × Nat :=
  if g.nid = some nid then (g.tcls.toNat, g.tCls)
  else match g.node nid with
    | some n => (n.tclass, n.tClass)
    | none => (0, 0)

/-- The better master of two: the higher class, among equals the lower NID. -/
def Ring.better (g : Ring) (a b : BitVec 6) : BitVec 6 :=
  let x := (g.classOf a).1
  let y := (g.classOf b).1
  if y < x ∨ (x = y ∧ a.toNat ≤ b.toNat) then a else b

/-- R488: the master as it is to be now: a node of higher class counts only once it has held it for 1 s, unless the
master is gone. -/
def Ring.chooseMaster (g : Ring) (now : Nat) : Option (BitVec 6) :=
  let all := g.nid.toList ++ g.nodes.filterMap (fun (n : NodeSt) => n.nid)
  let ok := match g.master with
    | some m =>
      if g.present m then all.filter (fun n =>
        decide ((g.classOf n).1 ≤ (g.classOf m).1) || decide ((g.classOf n).2 + sNs 1 ≤ now))
      else all
    | none => all
  match ok with
  | [] => none
  | a :: l => some (l.foldl g.better a)

/-- Site time is valid (R492). -/
def Ring.timeValid (g : Ring) : Bool :=
  g.isMaster || decide (g.servo.st = .locked) || decide (g.servo.st = .holdover)

/-- The delay of a link as filtered, 2^-16 ns (R489). -/
def LinkSt.delay (l : LinkSt) : Int := if l.ds = [] then 0 else divHE l.ds.sum l.ds.length

/-- The delay as RING_DELAY_E and RING_DELAY_W show it, ps. -/
def LinkSt.delayPs (l : LinkSt) : Word :=
  if l.st = .up then BitVec.ofNat 32 (satU 32 (divHE (l.delay * 1000) 65536)) else 0

/-- The registers that show the state of the ring, and the events that follow from a change of it (R483, R488, R492). -/
def Ring.view (g : Ring) (c : RCtx) : Ring :=
  let cls := g.ownClass c
  let g := if cls = g.tcls then g else { g with tcls := cls, tCls := c.now }
  let g : Ring := { g with master := g.chooseMaster c.now }
  let topo := g.topo
  let valid := g.timeValid
  let o := g.r.status
  let n := g.nodes.countP (fun (n : NodeSt) => n.nid.isSome) + b2n g.nid.isSome
  let mn := if g.isMaster then g.nid.getD 0 else g.master.getD 0
  let st : RingStatus :=
    { nidValid := g.nid.isSome, master := g.isMaster, timeValid := valid
      timeState := if g.isMaster then .locked else g.servo.st
      topo := topo, large := decide (16 < n), nodes := BitVec.ofNat 7 n, siteSet := g.siteSet
      masterNid := mn, nid := g.nid.getD 0 }
  let lk : RingLink :=
    { wState := g.west.st, wTxSleep := g.west.txSleep, wRxSleep := g.west.rxSleep, wSwap := g.west.swap
      wNbrValid := g.west.nbr.isSome, wNbr := g.west.nbr.getD 0
      eState := g.east.st, eTxSleep := g.east.txSleep, eRxSleep := g.east.rxSleep, eSwap := g.east.swap
      eNbrValid := g.east.nbr.isSome, eNbr := g.east.nbr.getD 0 }
  let ev := g.r.evt
  { g with
    r.status := st, r.link := lk
    r.delayE := g.east.delayPs, r.delayW := g.west.delayPs
    r.timeOfs.freq := toS 16 g.clock.freq
    r.evt := { ev with
      topoChg := ev.topoChg || decide (topo ≠ o.topo)
      masterChg := ev.masterChg || decide (mn ≠ o.masterNid) || decide (g.isMaster ≠ o.master)
      timeLost := ev.timeLost || (o.timeValid && !valid) } }

/-! ### Link states (R463, R464, R480, R481) -/

/-- BLOCK_LOCK (R464): every receive lane that is awake has block lock. -/
def Ring.blockLock (g : Ring) (w : Bool) : Ring :=
  g.modLink w (fun (l : LinkSt) =>
    if l.st = .down then { l with st := .lock, lane := l.lane.map (fun (x : LaneSt) => { x with seen := 0, miss := 0 }) } else l)

/-- R464, R480: a link leaves service: FAULT blocks go out and the node wraps. -/
def Ring.fall (g : Ring) (w : Bool) (dest : LinkState) : Ring :=
  let l := g.link w
  let wasUp := decide (l.st = .up)
  let g := g.setLink w { l with
    st := dest, wrap := true, nbr := none, ds := [], t1 := none, l1Ready := false
    lane := l.lane.map (fun (x : LaneSt) => { x with seen := 0, miss := 0 }) }
  if wasUp then
    if w then { g with r.evt.linkWDown := true } else { g with r.evt.linkEDown := true }
  else g

/-- The link can fall: LOCK, ALIGN or UP. -/
def LinkSt.canFall (l : LinkSt) : Bool := decide (l.st = .lock) || decide (l.st = .align) || decide (l.st = .up)

/-- LINK_DOWN (R464): a sleeping lane is no cause. -/
def Ring.linkDown (g : Ring) (w : Bool) (cause : LinkCause) : Ring :=
  let l := g.link w
  let lane (l1 : Bool) (code : Option Nat) : Ring :=
    if l1 && l.rxSleep then g
    else
      let g := match code with
        | some k => g.modLink w (fun (x : LinkSt) => x.cnt l1 k 1)
        | none => g
      if l.canFall then g.fall w .down else g
  match cause with
  | .blockLock l1 => lane l1 (some 1)
  | .hiBer l1 => lane l1 (some 2)
  | .awlLock l1 => lane l1 none
  | .skew => if l.canFall then { g with r.evt.skewErr := true }.fall w .down else g
  | .fault n => if 2 ≤ n ∧ l.canFall then g.fall w .down else g

/-- A single FAULT block in ALIGN starts its millisecond anew (R464). -/
def Ring.faultSeen (g : Ring) (now : Nat) (w : Bool) (cause : LinkCause) : Ring :=
  match cause with
  | .fault n =>
    if 0 < n then g.modLink w (fun (l : LinkSt) => if l.st = .align then { l with tClean := now } else l) else g
  | _ => g

/-- Byte i of an Awl block. -/
def awlByte (b : BitVec 64) (i : Nat) : Byte := b.extractLsb' (8 * i) 8

/-- R463: the fixed bytes of an Awl block. -/
def awlOk (b : BitVec 64) : Bool :=
  decide (awlByte b 0 = 0xA5) && decide (awlByte b 6 = 0x5A) && decide (awlByte b 7 = 0xC3)

/-- The receive lanes that are awake have Awl lock. -/
def LinkSt.awlLocked (l : LinkSt) : Bool :=
  decide ((vget l.lane 0 {}).seen = 2) && (l.rxSleep || decide ((vget l.lane 1 {}).seen = 2))

/-- R496, R497, R462: what a valid Awl block tells. -/
def LinkSt.awlTake (l : LinkSt) (lane1 : Bool) (b : BitVec 64) : LinkSt :=
  let b4 := awlByte b 4
  let nb := awlByte b 2
  let ready := b4.getLsbD 0
  { l with
    l1Ready := ready
    nbr := if nb.getLsbD 7 then some (nb.extractLsb' 0 6) else none
    rxSleep := if lane1 then l.rxSleep else b4.getLsbD 1
    txSleep := l.txSleep && !(l.waking && ready)
    waking := l.waking && !ready }

/-- AWL_BLOCK (R462, R463): the block at an expected position of a receive lane, the parity formed over the payloads
received since the last one, the skew between the lanes in blocks, and the invalid sync headers and control blocks seen
since the last one. -/
def Ring.awl (g : Ring) (now : Nat) (w lane1 : Bool) (b : BitVec 64) (bip : Byte) (skew bad ctl : Nat) : Ring :=
  let g := g.modLink w (fun (l : LinkSt) => (l.cnt lane1 0 bad).cnt lane1 9 ctl)
  let l := g.link w
  let i := b2n lane1
  let x := vget l.lane i {}
  if !l.canFall || (lane1 && l.rxSleep) then g
  else if !awlOk b then
    let l := l.cnt lane1 3 (b2n (decide (x.seen = 2)))
    let x := vget l.lane i {}
    if x.seen = 2 ∧ 3 ≤ x.miss then (g.setLink w l).fall w .down
    else g.setLink w { l with
      lane := l.lane.setIfInBounds i
        (if x.seen = 2 then { x with miss := x.miss + 1 } else { x with seen := 0 }) }
  else
    let l := if 0 < x.seen then l.cnt lane1 4 (mcount (awlByte b 5 ^^^ bip)) else l
    let x := vget l.lane i {}
    let l := { l with
      lane := l.lane.setIfInBounds i { x with seen := min 2 (x.seen + 1), miss := 0, lane := (awlByte b 1).extractLsb' 6 2 } }
    let l := l.awlTake lane1 b
    if l.awlLocked && !l.rxSleep && decide (32 < skew) then { g.setLink w l with r.evt.skewErr := true }.fall w .down
    else if l.awlLocked && decide (l.st = .lock) then
      g.setLink w { l with st := .align, tClean := now, swap := (vget l.lane 0 {}).lane.getLsbD 0 }
    else g.setLink w l

/-- LINK_UP (R464): 1 ms without a FAULT block and the partner ready. -/
def Ring.linkUp (g : Ring) (now : Nat) (w : Bool) : Ring :=
  let l := g.link w
  if l.st = .align ∧ l.tClean + msNs 1 ≤ now ∧ (l.l1Ready || l.txSleep) then
    let first := decide (g.east.st ≠ .up) && decide (g.west.st ≠ .up)
    let g := g.setLink w { l with st := .up, tUp := now }
    if first && g.claim then { g with tListen := now, named := 0 } else g
  else g

/-- The lanes of a link in RING_LB. -/
def lbMask (w : Bool) : BitVec 16 := if w then 0xFF00 else 0x00FF

/-- RING_ISOLATE (R464): ISOLATE set or cleared; clearing ends the loopbacks of the link. -/
def Ring.isolate (g : Ring) (w on : Bool) : Ring :=
  let g := if w then { g with r.ctrl.isolateW := on } else { g with r.ctrl.isolateE := on }
  let st := (g.link w).st
  if on then (if st = .isolated then g else g.fall w .isolated)
  else if st = .isolated then { g.fall w .down with r.lb := g.r.lb &&& ~~~(lbMask w) }
  else g

/-- WRAP_RELEASE (R481): at an Awl boundary of lane 0, once the link has been UP for 100 ms. -/
def Ring.wrapRelease (g : Ring) (now : Nat) (w : Bool) : Ring :=
  g.modLink w (fun (l : LinkSt) =>
    if l.st = .up ∧ l.tUp + msNs 100 ≤ now then { l with wrap := false } else l)

/-- LANE_SLEEP (R496): the hub is in H-QUIET or H-SLEEP. -/
def Ring.laneSleep (g : Ring) (c : RCtx) (w : Bool) : Ring :=
  if g.r.ctrl.sleepEn && decide (c.hub ≠ 0) then g.modLink w (fun (l : LinkSt) => { l with txSleep := true, waking := false })
  else g

/-- LANE_WAKE (R497): the transmitter starts; two lanes carry the direction again once the partner reports L1_READY. -/
def Ring.laneWake (g : Ring) (c : RCtx) (w : Bool) : Ring :=
  if c.hub = 0 then g.modLink w (fun (l : LinkSt) => { l with waking := l.txSleep }) else g

/-! ### Frames (R466 to R469, R477 to R480) -/

/-- A frame header (R466). -/
structure Hdr where
  tc : BitVec 2
  src : BitVec 6
  dst : BitVec 6
  bc : Bool
  west : Bool
  wrap : BitVec 2
  hops : BitVec 7
  len : BitVec 10
  typ : BitVec 6
  seq : BitVec 7
  deriving DecidableEq, Repr

/-- Header bits [55:8]. -/
def Hdr.body (h : Hdr) : BitVec 48 :=
  (h.tc.setWidth 48 <<< 46) ||| (h.src.setWidth 48 <<< 40) ||| (h.dst.setWidth 48 <<< 34)
  ||| (if h.bc then 1#48 <<< 33 else 0) ||| (if h.west then 1#48 <<< 32 else 0) ||| (h.wrap.setWidth 48 <<< 30)
  ||| (h.hops.setWidth 48 <<< 23) ||| (h.len.setWidth 48 <<< 13) ||| (h.typ.setWidth 48 <<< 7) ||| h.seq.setWidth 48

/-- CRC-8 over six bytes, most significant first: HCRC and TCRC. -/
def crc48 (x : BitVec 48) : Byte := crc8 ((List.range 6).map (fun i => x.extractLsb' (40 - 8 * i) 8))

/-- The header as it travels, with its HCRC (R466). -/
def Hdr.word (h : Hdr) : BitVec 56 := (h.body.setWidth 56 <<< 8) ||| (crc48 h.body).setWidth 56

/-- A header as received. -/
def Hdr.of (x : BitVec 56) : Hdr :=
  { tc := x.extractLsb' 54 2, src := x.extractLsb' 48 6, dst := x.extractLsb' 42 6, bc := x.getLsbD 41
    west := x.getLsbD 40, wrap := x.extractLsb' 38 2, hops := x.extractLsb' 31 7, len := x.extractLsb' 21 10
    typ := x.extractLsb' 15 6, seq := x.extractLsb' 8 7 }

/-- HCRC of a header received is right. -/
def hcrcOk (x : BitVec 56) : Bool := decide (crc48 (x.extractLsb' 8 48) = x.extractLsb' 0 8)

/-- R467: CRC of a frame: over the header with HOPS, WRAP and HCRC 0, then the payload. -/
def frameCrc (h : Hdr) (pay : List Word) : Word :=
  let b := { h with hops := 0, wrap := 0 }.body
  crc32cBytes ((List.range 6).map (fun i => b.extractLsb' (40 - 8 * i) 8) ++ [0#8] ++ pay.flatMap wordBytes)

/-- The TYPE of a code (R468). -/
def FType.ofCode (c : Nat) : Option FType :=
  [FType.safe, .grant, .context, .sync, .delayReq, .delayResp, .presence, .curve, .regReq, .regResp, .desc, .compl,
    .config, .pair, .word, .test].find? (fun t => decide (t.code = c))

/-- R468: the range of LEN of a TYPE. -/
def FType.lenOk (t : FType) (n : Nat) : Bool :=
  let lo_hi : Nat × Nat := match t with
    | .safe => (2, 2)
    | .grant => (2, 1023)
    | .context => (4, 4)
    | .sync => (3, 3)
    | .delayReq => (2, 2)
    | .delayResp => (3, 3)
    | .presence => (3, 3)
    | .curve => (17, 17)
    | .regReq | .regResp => (1, 2)
    | .desc | .compl => (1, 9)
    | .config => (1, 16)
    | .pair | .test => (1, 1023)
    | .word => (1, 513)
  decide (lo_hi.1 ≤ n) && decide (n ≤ lo_hi.2) && (decide (t ≠ .grant) || decide (n % 2 = 0))

/-- R477, R480: the frame leaves on a ring: on its link, or, while that one wraps, on the other link and ring with WRAP
raised. With neither link UP there is no ring. -/
def Ring.emit (g : Ring) (west : Bool) (h : Hdr) (pay : List Word) (abort : Bool) : Ring :=
  if (g.link west).clear then { g with oq := g.oq ++ [.ring west h.word pay abort] }
  else if (g.link !west).st = .up then
    { g with oq := g.oq ++ [.ring (!west) { h with wrap := if h.wrap = 3 then 3 else h.wrap + 1 }.word pay abort] }
  else g

/-- R477: links to a node in a direction over links that are UP; none: not reached. -/
def Ring.distGo (g : Ring) (w : Bool) (dst : BitVec 6) : Nat → Option (BitVec 6) → Nat → Option Nat
  | 0, _, _ => none
  | _, none, _ => none
  | k + 1, some n, d =>
    if n = dst then some d
    else match g.node n with
      | some x => if (if w then x.wUp else x.eUp) then g.distGo w dst k (some (if w then x.wNbr else x.eNbr)) (d + 1) else none
      | none => none

/-- R477: links to a node in a direction. -/
def Ring.dist (g : Ring) (w : Bool) (dst : BitVec 6) : Option Nat :=
  if (g.link w).st = .up then g.distGo w dst 64 (g.link w).nbr 1 else none

/-- R477: the ring a unicast frame leaves on; a tie goes east. -/
def Ring.goWest (g : Ring) (dst : BitVec 6) : Bool :=
  match g.dist false dst, g.dist true dst with
  | some e, some w => decide (w < e)
  | none, some _ => true
  | _, none => false

/-- R474: this node may still send on a direction within the ms: at most lim. -/
def recentMs (now : Nat) (l : List Nat) : List Nat := l.filter (fun t => decide (now < t + msNs 1))

/-- R474, R478: one copy of a TC0 frame of this node on a ring, or its drop. -/
def Ring.sendTc0 (g : Ring) (now : Nat) (west : Bool) (h : Hdr) (pay : List Word) : Ring :=
  let l := g.link west
  let ts := recentMs now l.tc0
  if 16 ≤ ts.length then (g.setLink west { l with tc0 := ts }).cnt west 8
  else (g.setLink west { l with tc0 := now :: ts }).emit west h pay false

/-- A frame of this node (R466, R477 to R479). -/
def Ring.originate (g : Ring) (now : Nat) (typ : FType) (dst : Option Nat) (pay : List Word) : Ring :=
  let tc := typ.tc
  let h : Hdr :=
    { tc := BitVec.ofNat 2 tc, src := g.nid.getD 0, dst := 0, bc := true, west := false, wrap := 0, hops := 127
      len := BitVec.ofNat 10 ((pay.length + 1) / 2), typ := BitVec.ofNat 6 typ.code, seq := 0 }
  match dst with
  | some d =>
    let d6 := BitVec.ofNat 6 d
    let w := g.goWest d6
    g.emit w { h with dst := d6, bc := false, west := w } pay false
  | none =>
    let s := vget g.mySeq tc 0 + 1
    let g : Ring := { g with mySeq := g.mySeq.setIfInBounds tc s }
    if tc = 0 then
      (g.sendTc0 now false { h with seq := s } pay).sendTc0 now true { h with seq := s, west := true } pay
    else (g.emit false { h with seq := s } pay false).emit true { h with seq := s, west := true } pay false

/-- A frame to the neighbour on a link (R468, R489). -/
def Ring.toNeighbour (g : Ring) (w : Bool) (typ : FType) (pay : List Word) : Ring :=
  let h : Hdr :=
    { tc := BitVec.ofNat 2 typ.tc, src := g.nid.getD 0, dst := (g.link w).nbr.getD 0, bc := false, west := w, wrap := 0
      hops := 127, len := BitVec.ofNat 10 ((pay.length + 1) / 2), typ := BitVec.ofNat 6 typ.code, seq := 0 }
  if (g.link w).st = .up then { g with oq := g.oq ++ [.ring w h.word pay false] } else g

/-- R478: a copy ends here: at its source with WRAP 0 on its ring of origin, at its source with WRAP 2, or with HOPS 1. -/
def Ring.removed (g : Ring) (src : BitVec 6) (onWest origWest : Bool) (wrap : BitVec 2) (hops : BitVec 7) (bySrc : Bool) :
    Bool :=
  (bySrc && decide (g.nid = some src) && ((decide (wrap = 0) && (onWest == origWest)) || decide (wrap = 2)))
  || decide (hops.toNat ≤ 1)

/-- R479: a broadcast is newer than the newest delivered of its source and class, and of its ring of origin for TC0. -/
def Ring.fresh (g : Ring) (now : Nat) (h : Hdr) : Bool :=
  match g.seqs.find? (fun (s : SeqSt) => decide (s.src = h.src) && decide (s.tc = h.tc) && (decide (h.tc ≠ 0) || (s.west == h.west))) with
  | none => true
  | some s =>
    let d := (h.seq - s.seq).toNat
    (decide (1 ≤ d) && decide (d ≤ 63)) || decide (s.t + msNs 3 ≤ now)

/-- The newest broadcast delivered is noted. -/
def Ring.noteSeq (g : Ring) (now : Nat) (h : Hdr) : Ring :=
  let same (s : SeqSt) : Bool := decide (s.src = h.src) && decide (s.tc = h.tc) && (decide (h.tc ≠ 0) || (s.west == h.west))
  { g with
    seqs := { src := h.src, tc := h.tc, west := h.west && decide (h.tc = 0), seq := h.seq, t := now }
      :: g.seqs.filter (fun (s : SeqSt) => !same s) }

/-- A signed 64-bit field from two words. -/
def i64 (hi lo : Word) : Int := (DWord.of hi lo).toInt

/-- The receive delay of a link, 2^-16 ns (R489): the filtered delay and half of ASYM. -/
def Ring.recvDelay (g : Ring) (w : Bool) : Int :=
  (g.link w).delay + divHE (sI (if w then g.r.asym.asymW else g.r.asym.asymE) * 32768) 100

/-- R490: a forwarded SYNC: CORR grows by the receive delay of the arrival link and the residence time. -/
def Ring.corrected (g : Ring) (w : Bool) (resid : Nat) (pay : List Word) : List Word :=
  let c := BitVec.ofInt 64 (i64 (pay.getD 4 0) (pay.getD 3 0) + g.recvDelay w + resid)
  pay.take 3 ++ [DWord.lo c, DWord.hi c] ++ pay.drop 5

/-- RING_FRAME (R469, R478 to R480): a frame arrives on the east or west ring with its CRC, its ABORT and, for a SYNC, the
residence time in 2^-16 ns. Answered: the ring and, where this node is to have it, the header and TYPE. -/
def Ring.frame (g : Ring) (now : Nat) (onWest : Bool) (hdr : BitVec 56) (pay : List Word) (crc : Word) (abort : Bool)
    (resid : Nat) : Ring × Option (Hdr × FType) :=
  let w := !onWest
  let h := Hdr.of hdr
  if (g.link w).st ≠ .up then
    (if (g.link w).st = .isolated && decide (g.r.lb &&& lbMask w ≠ 0) then
      (if !hcrcOk hdr then g.cnt w 5 else if abort || decide (crc ≠ frameCrc h pay) then g.cnt w 6 else g)
     else g, none)
  else if !hcrcOk hdr then (g.cnt w 5, none)
  else
    match FType.ofCode h.typ.toNat with
    | none => (g.cnt w 7, none)
    | some t =>
      if t = .test || decide (h.tc.toNat ≠ t.tc) || !t.lenOk h.len.toNat || decide (pay.length ≠ 2 * h.len.toNat)
          || (h.bc && decide (h.dst ≠ 0)) then (g.cnt w 7, none)
      else
        let bad := abort || decide (crc ≠ frameCrc h pay)
        let g := if bad then g.cnt w 6 else g
        let mine := !h.bc && decide (g.nid = some h.dst)
        let bySrc := decide (t ≠ .presence) || (pay.getD 2 0).getLsbD 31
        let fwd := !mine && !(g.removed h.src onWest h.west h.wrap h.hops (bySrc && h.bc))
        let g := if !mine && decide (h.hops.toNat ≤ 1) then g.cnt w 7 else g
        let out := if t = .sync then g.corrected w resid pay else pay
        let g1 := if fwd then g.emit onWest { h with hops := h.hops - 1 } out bad else g
        let own := decide (g.nid = some h.src) && decide (t ≠ .presence)
        if bad then (g1, none)
        else if mine then (g1, some (h, t))
        else if !h.bc || own then (g1, none)
        else if t = .sync then (g1, some (h, t))
        else if g1.fresh now h then (g1.noteSeq now h, some (h, t))
        else (g1, none)

/-! ### TRIP blocks (R470, R471) -/

/-- The trip field of this node (R470). -/
def tripField (west : Bool) (src : BitVec 6) (wrap : BitVec 2) (seq : BitVec 6) (ch : Nat) (hops : BitVec 7) : BitVec 56 :=
  let b : BitVec 48 := (if west then 1#48 <<< 47 else 0) ||| (src.setWidth 48 <<< 40) ||| (wrap.setWidth 48 <<< 38)
    ||| (seq.setWidth 48 <<< 32) ||| (1#48 <<< 24) ||| (BitVec.ofNat 48 (ch % 4) <<< 16) ||| hops.setWidth 48
  (b.setWidth 56 <<< 8) ||| (crc48 b).setWidth 56

/-- A trip field with another WRAP and HOPS. -/
def reTrip (f : BitVec 56) (wrap : BitVec 2) (hops : BitVec 7) : BitVec 56 :=
  tripField (f.getLsbD 55) (f.extractLsb' 48 6) wrap (f.extractLsb' 40 6) (f.extractLsb' 24 2).toNat hops

/-- A TRIP block leaves on a ring (R478, R480). -/
def Ring.emitTrip (g : Ring) (west : Bool) (f : BitVec 56) : Ring :=
  let wr : BitVec 2 := f.extractLsb' 46 2
  if (g.link west).clear then { g with oq := g.oq ++ [.tripBlock west f] }
  else if (g.link !west).st = .up then
    { g with oq := g.oq ++ [.tripBlock (!west) (reTrip f (if wr = 3 then 3 else wr + 1) (f.extractLsb' 8 7))] }
  else g

/-- R471: TRIP blocks of the last 10 ms. -/
def Ring.recentTrips (g : Ring) (now : Nat) : List (BitVec 6 × BitVec 6 × Nat) :=
  g.trips.filter (fun x => decide (now < x.2.2 + msNs 10))

/-- TRIP_BLOCK (R471): answered: the ring, and whether the trip pair is asserted. -/
def Ring.tripBlock (g : Ring) (now : Nat) (onWest : Bool) (f : BitVec 56) : Ring × Bool :=
  let w := !onWest
  let src : BitVec 6 := f.extractLsb' 48 6
  let seq : BitVec 6 := f.extractLsb' 40 6
  let hops : BitVec 7 := f.extractLsb' 8 7
  let wrap : BitVec 2 := f.extractLsb' 46 2
  if (g.link w).st ≠ .up then (g, false)
  else if !hcrcOk f then (g.cnt w 5, false)
  else if f.extractLsb' 32 8 ≠ 1#8 || !g.present src then (g.cnt w 7, false)
  else
    let old := g.recentTrips now
    let first := !old.any (fun x => decide (x.1 = src) && decide (x.2.1 = seq)) && decide (g.nid ≠ some src)
    let g : Ring := { g with trips := if first then (src, seq, now) :: old else old }
    let g := if g.removed src onWest (f.getLsbD 55) wrap hops true then g else g.emitTrip onWest (reTrip f wrap (hops - 1))
    (g, first)

/-- R474, R478: one TRIP block of this node on a ring, or its drop. -/
def Ring.sendTrip (g : Ring) (now : Nat) (west : Bool) (ch : Nat) : Ring :=
  let l := g.link west
  let ts := recentMs now l.trips
  if 4 ≤ ts.length then (g.setLink west { l with trips := ts }).cnt west 8
  else (g.setLink west { l with trips := now :: ts }).emitTrip west (tripField west (g.nid.getD 0) 0 g.tripSeq ch 127)

/-- TRIP_REQUEST (R475): a TRIP block leaves on both links. -/
def Ring.tripRequest (g : Ring) (now ch : Nat) : Ring :=
  let g : Ring := { g with tripSeq := g.tripSeq + 1 }
  (g.sendTrip now false ch).sendTrip now true ch

/-! ### Discovery (R484 to R487) -/

/-- ms since the NID was taken (R484). -/
def Ring.uptime (g : Ring) (now : Nat) : Nat := if g.nid.isSome then min (2 ^ 32 - 1) ((now - g.tNid) / 1000000) else 0

/-- R484: the PRESENCE payload. -/
def Ring.presenceWords (g : Ring) (c : RCtx) : List Word :=
  let b (x : Bool) (i : Nat) : Word := if x then 1#32 <<< i else 0
  let w2 := b g.nid.isSome 31 ||| ((g.nid.getD 0).setWidth 32 <<< 24) ||| b c.gw 23 ||| b c.coordA 22 ||| b c.coordS 21
    ||| b g.siteSet 20 ||| ((g.ownClass c).setWidth 32 <<< 16)
  let w3 := b (decide (g.east.st = .up)) 31 ||| ((g.east.nbr.getD 0).setWidth 32 <<< 24)
    ||| b (decide (g.west.st = .up)) 23 ||| ((g.west.nbr.getD 0).setWidth 32 <<< 16)
  [DWord.lo c.dieId, DWord.hi c.dieId, w2, w3, BitVec.ofNat 32 (g.uptime c.now), 0]

/-- PRESENCE_SEND (R484). -/
def Ring.presenceSend (g : Ring) (c : RCtx) : Ring := g.originate c.now .presence none (g.presenceWords c)

/-- The hub journals an event of the ring. -/
def Ring.jr (g : Ring) (now : Nat) (ev : JEv) (data : List Int) : Ring :=
  { g with jq := g.jq ++ [{ t := g.site now, src := .hub, ch := none, ev := ev, data := data, safe := false }] }

/-- A node joins or departs: it is reported to the Last engine and journalled (R487). -/
def Ring.move (g : Ring) (now : Nat) (joined : Bool) (nid : Option (BitVec 6)) : Ring :=
  match nid with
  | none => g
  | some n =>
    let g := g.jr now (if joined then JEv.nodeJoin else JEv.nodeLeave) [n.toNat]
    let g : Ring := { g with moved := g.moved ++ [(joined, n)] }
    if joined then { g with r.evt.nodeJoin := true } else { g with r.evt.nodeLeave := true }

/-- R486: a PRESENCE names this node's NID with another DIE_ID: the greater UPTIME keeps it, at a tie the lower DIE_ID. -/
def Ring.conflict (g : Ring) (c : RCtx) (die : BitVec 64) (w2 w4 : Word) : Ring :=
  if w2.getLsbD 31 && g.nid.isSome && decide (g.nid = some (w2.extractLsb' 24 6)) then
    let u := g.uptime c.now
    if w4.toNat < u ∨ (u = w4.toNat ∧ c.dieId.toNat < die.toNat) then g
    else { g with nid := none, claim := g.bootCfg.auto, tListen := c.now, named := 0, r.evt.nidConflict := true }
  else g

/-- PRESENCE (R484, R486, R487): a PRESENCE frame is taken. -/
def Ring.presence (g : Ring) (c : RCtx) (w0 w1 w2 w3 w4 : Word) : Ring :=
  let die := DWord.of w1 w0
  if die = c.dieId then g
  else
    let g := g.conflict c die w2 w4
    let nid : Option (BitVec 6) := if w2.getLsbD 31 then some (w2.extractLsb' 24 6) else none
    let g : Ring := match nid with
      | some n => { g with named := g.named ||| (1#64 <<< n.toNat) }
      | none => g
    let old := g.nodes.find? (fun (n : NodeSt) => decide (n.dieId = die))
    let cls : Nat := (w2.extractLsb' 16 2).toNat
    let e : Option (BitVec 6) := if w3.getLsbD 31 then some (w3.extractLsb' 24 6) else old.bind (·.lastE)
    let w : Option (BitVec 6) := if w3.getLsbD 23 then some (w3.extractLsb' 16 6) else old.bind (·.lastW)
    let tc := match old with
      | some o => if o.tclass = cls then o.tClass else c.now
      | none => c.now
    let x : NodeSt := { dieId := die, w2 := w2, w3 := w3, w4 := w4, tLast := c.now, tClass := tc, lastE := e, lastW := w }
    let g : Ring := { g with nodes := x :: g.nodes.filter (fun (n : NodeSt) => decide (n.dieId ≠ die)) }
    match old with
    | none => g.move c.now true nid
    | some o => if o.nid = nid then g else (g.move c.now false o.nid).move c.now true nid

/-- NODE_DEPART (R487): no PRESENCE for 3 ms. -/
def Ring.depart (g : Ring) (now : Nat) (die : BitVec 64) : Ring :=
  match g.nodes.find? (fun (n : NodeSt) => decide (n.dieId = die)) with
  | some n =>
    if n.tLast + msNs 3 ≤ now then
      { g with nodes := g.nodes.filter (fun (n : NodeSt) => decide (n.dieId ≠ die)) }.move now false n.nid
    else g
  | none => g

/-- NID_CLAIM (R485): after the listen, the stored NID, or the lowest that no PRESENCE has named. -/
def Ring.nidClaim (g : Ring) (now : Nat) : Ring :=
  if g.nid.isSome || !g.claim || decide (now < g.tListen + msNs 10) || !(g.bootCfg.valid || g.bootCfg.auto) then g
  else
    let stored := g.bootCfg.valid && !g.r.evt.nidConflict
    let free := (List.range 64).find? (fun i => !g.named.getLsbD i)
    match free with
    | none => { g with claim := false, r.evt.nidFull := true }
    | some f =>
      let n : BitVec 6 := if stored then g.bootCfg.nid else BitVec.ofNat 6 f
      { g with nid := some n, tNid := now, claim := false }

/-! ### Delay and the servo (R489 to R492) -/

/-- DELAY_EXCHANGE (R489): a DELAY_REQ on each UP link; the fractions are those of the stamps at the lanes. -/
def Ring.delayExchange (g : Ring) (now : Nat) (fE fW : BitVec 16) : Ring :=
  let one (g : Ring) (w : Bool) (f : BitVec 16) : Ring :=
    if (g.link w).st = .up then
      let ns := BitVec.ofNat 64 (g.site now)
      let g := g.modLink w (fun (l : LinkSt) => { l with t1 := some ((ns.toNat : Int) * 65536 + f.toNat) })
      g.toNeighbour w .delayReq [DWord.lo ns, DWord.hi ns, f.setWidth 32, 0]
    else g
  one (one g false fE) true fW

/-- DELAY_REQ (R489): it is answered with the stamps of its arrival and of the answer. -/
def Ring.delayReq (g : Ring) (now : Nat) (w : Bool) (f2 f3 : BitVec 16) (turn : Nat) : Ring :=
  let t2 := BitVec.ofNat 64 (g.site now)
  let t3 := BitVec.ofNat 64 (g.site now + turn)
  g.toNeighbour w .delayResp
    [DWord.lo t2, DWord.hi t2, (f3.setWidth 32 <<< 16) ||| f2.setWidth 32, DWord.lo t3, DWord.hi t3, 0]

/-- DELAY_RESP (R489): d = ((T4 − T1) − (T3 − T2)) / 2 joins the mean of 16. -/
def Ring.delayResp (g : Ring) (now : Nat) (w : Bool) (w0 w1 w2 w3 w4 : Word) (f4 : BitVec 16) : Ring :=
  match (g.link w).t1 with
  | none => g
  | some t1 =>
    if (g.link w).st ≠ .up then g
    else
      let t2 : Int := ((DWord.of w1 w0).toNat : Int) * 65536 + ((w2.extractLsb' 0 16 : BitVec 16).toNat : Int)
      let t3 : Int := ((DWord.of w4 w3).toNat : Int) * 65536 + ((w2.extractLsb' 16 16 : BitVec 16).toNat : Int)
      let t4 : Int := (g.site now : Int) * 65536 + f4.toNat
      let d := divHE ((t4 - t1) - (t3 - t2)) 2
      g.modLink w (fun (l : LinkSt) => { l with t1 := none, ds := (d :: l.ds).take 16 })

/-- SYNC_SEND (R490): the master broadcasts its time. -/
def Ring.syncSend (g : Ring) (c : RCtx) (f : BitVec 16) : Ring :=
  if g.isMaster then
    let ns := BitVec.ofNat 64 (g.site c.now)
    let w2 : Word := (f.setWidth 32 <<< 16) ||| (if g.siteSet then 1#32 <<< 11 else 0)
      ||| ((g.ownClass c).setWidth 32 <<< 8) ||| (g.nid.getD 0).setWidth 32
    g.originate c.now .sync none [DWord.lo ns, DWord.hi ns, w2, 0, 0, 0]
  else g

/-- R491: the servo after a valid SYNC of an offset in 2^-16 ns. -/
def Servo.take (v : Servo) (now : Nat) (off : Int) : Servo :=
  let a := off.natAbs
  let v : Servo := { v with tSync := now, near := if a ≤ 2 * 65536 then v.near + 1 else 0, far := if 10 * 65536 < a then v.far + 1 else 0 }
  match v.st with
  | .free => { v with st := .acquire }
  | .acquire => if 16 ≤ v.near then { v with st := .locked, far := 0 } else v
  | .locked => if 4 ≤ v.far then { v with st := .acquire, near := 0 } else v
  | .holdover => if a ≤ 10 * 65536 then { v with st := .locked, far := 0 } else { v with st := .acquire, near := 0 }

/-- SYNC (R490, R491): a copy of a SYNC arrives on the east or west ring after some links, with the fraction of its
stamp. Of the copies of one SYNC the one that crossed fewer links counts, at a tie the east copy. -/
def Ring.syncTake (g : Ring) (c : RCtx) (onWest : Bool) (links : Nat) (w0 w1 w2 w3 w4 : Word) (f : BitVec 16) : Ring :=
  let m : BitVec 6 := w2.extractLsb' 0 6
  let tm := DWord.of w1 w0
  if g.isMaster || decide (g.master ≠ some m) then g
  else
    let again : Option SyncSt := g.sync.filter (fun (s : SyncSt) => decide (s.nid = m) && decide (s.tm = tm))
    let worse := match again with
      | some s => decide (s.links < links) || (decide (s.links = links) && (s.east || onWest))
      | none => false
    if worse then g
    else
      let v0 := if again.isSome then g.servo0 else g.servo
      let own := g.clock.val c.now + f.toNat
      let off := own - ((tm.toNat : Int) * 65536 + ((w2.extractLsb' 16 16 : BitVec 16).toNat : Int)) - i64 w4 w3 - g.recvDelay (!onWest)
      let v := v0.take c.now off
      let g : Ring := { g with
        sync := some { nid := m, tm := tm, links := links, east := !onWest }
        servo0 := v0, servo := v, siteSet := w2.getLsbD 11
        r.timeOfs.ofs := toS 16 (divHE (off * 100) 65536) }
      if v0.st = .acquire ∧ 65536000 < off.natAbs then
        if c.idle then { g with clock := g.clock.step c.now (g.clock.val c.now - off) } else g.slew c.now 4000 off
      else if v.st = .holdover then g
      else g.slew c.now 4000 off

/-- SYNC_LOSS (R491): LOCKED and no valid SYNC for 500 µs. -/
def Ring.syncLoss (g : Ring) (now : Nat) : Ring :=
  if !g.isMaster && decide (g.servo.st = .locked) && decide (g.servo.tSync + usNs 500 ≤ now) then
    { g with servo.st := .holdover, servo.tHold := now }
  else g

/-- HOLDOVER_TIMEOUT (R491): 10 ms in HOLDOVER. -/
def Ring.holdoverEnd (g : Ring) (now : Nat) : Ring :=
  if !g.isMaster && decide (g.servo.st = .holdover) && decide (g.servo.tHold + msNs 10 ≤ now) then
    { g with servo.st := if g.master.isSome then .acquire else .free, servo.near := 0 }
  else g

/-! ### Calendar time (R495) -/

/-- The TAI time of the TOD registers, 2^-16 ns. -/
def Ring.tod (g : Ring) : Int := (g.r.todLo.toNat + 2 ^ 32 * g.r.todHi.toNat : Nat) * 1000000000 * 65536

/-- R495: the calendar time holds now: the first one steps site time at the master; a later one is steered to. -/
def Ring.setTod (g : Ring) (now : Nat) : Ring :=
  if !g.isMaster then g
  else if g.siteSet then g.slew now 500 (g.clock.val now - g.tod)
  else { g with clock := g.clock.step now g.tod, siteSet := true }

/-- TOD_WRITE (R495): RING_TOD_HI is written; on a node that is no gateway it is ignored. -/
def Ring.todWrite (g : Ring) (c : RCtx) (w : Word) : Ring :=
  if !c.gw then g
  else
    let g : Ring := { g with r.todHi := w.extractLsb' 0 16 }
    if g.r.ctrl.ppsEn then { g with todArmed := true } else g.setTod c.now

/-- PPS_EDGE (R495, R488): a rising edge on HUB_PPS_IN, used with PPS_EN 1. -/
def Ring.pps (g : Ring) (c : RCtx) : Ring :=
  if !c.gw || !g.r.ctrl.ppsEn then g
  else
    let g := if g.todArmed then { g with todArmed := false }.setTod c.now
      else if g.isMaster && g.siteSet then
        let r : Int := g.clock.val c.now % (1000000000 * 65536)
        g.slew c.now 500 (if 2 * r < 1000000000 * 65536 then r else r - 1000000000 * 65536)
      else g
    let r : Nat := g.site c.now % 1000000000
    let near := decide (r ≤ 1000) || decide (999999000 ≤ r)
    { g with tPps := if near then some (g.tPps.getD c.now) else none }

/-! ### Loopbacks, counts and the node map (R498, R501, R504, R505) -/

/-- LOOPBACK_WRITE (R498): a mode is taken for a lane whose link is ISOLATED; the others keep 0. -/
def Ring.lbWrite (g : Ring) (w : Word) : Ring :=
  let nib (i : Nat) : BitVec 16 :=
    let v : BitVec 16 := (w.extractLsb' (4 * i) 4 : BitVec 4).setWidth 16
    if (g.link (decide (2 ≤ i))).st = .isolated ∧ v.toNat ≤ 3 then v <<< (4 * i) else 0
  { g with r.lb := nib 0 ||| nib 1 ||| nib 2 ||| nib 3 }

/-- The count RING_ERR_SEL names. -/
def Ring.errCount (g : Ring) (lane code : Nat) : Word :=
  let l := g.link (decide (2 ≤ lane))
  if code ≤ 4 ∨ code = 9 then vget (vget l.lane (lane % 2) {}).err (laneCode code) 0
  else if code ≤ 8 then (if lane % 2 = 0 then vget l.err (code - 5) 0 else 0)
  else 0

/-- ERR_SELECT (R504): the count selected is captured. -/
def Ring.errSelect (g : Ring) (w : Word) : Ring :=
  let g : Ring := { g with r.errSel := g.r.errSel.write w }
  { g with r.errData := g.errCount g.r.errSel.lane.toNat g.r.errSel.code.toNat }

/-- ERR_CLEAR (R504): every count of the lanes named is cleared. -/
def Ring.errClear (g : Ring) (w : Word) : Ring :=
  let one (g : Ring) (i : Nat) : Ring :=
    if w.getLsbD i then
      g.modLink (decide (2 ≤ i)) (fun (l : LinkSt) =>
        { l with
          lane := vMod l.lane (i % 2) (fun (x : LaneSt) => { x with err := Vector.replicate 6 0 })
          err := if i % 2 = 0 then Vector.replicate 4 0 else l.err })
    else g
  (List.range 4).foldl one g

/-- NODE_SELECT (R505): the map entry of an NID is captured. -/
def Ring.nodeSelect (g : Ring) (c : RCtx) (w : Word) : Ring :=
  let n : BitVec 6 := w.extractLsb' 0 6
  let ws : List Word :=
    if g.nid = some n then g.presenceWords c
    else match g.node n with
      | some x => [DWord.lo x.dieId, DWord.hi x.dieId, x.w2, x.w3]
      | none => []
  let w2 := ws.getD 2 0
  let w3 := ws.getD 3 0
  let d : RingNodeData0 :=
    { present := g.present n, gateway := w2.getLsbD 23, coordAct := w2.getLsbD 22, coordSby := w2.getLsbD 21
      tclass := w2.extractLsb' 16 2, eUp := w3.getLsbD 31, wUp := w3.getLsbD 23
      eNbr := w3.extractLsb' 24 6, wNbr := w3.extractLsb' 16 6 }
  { g with r.nodeSel := n, r.nodeData0 := d, r.nodeData1 := ws.getD 0 0, r.nodeData2 := ws.getD 1 0 }

/-- NID_CFG_WRITE (R501): stored at once, in effect at the next boot. -/
def Ring.nidCfgWrite (g : Ring) (w : Word) : Ring := { g with r.nidCfg := g.r.nidCfg.write w }

/-- A hub reset (R464, R491, R504): links DOWN, counts clear, time from 0 on the crystal; stored registers and lane
settings stay as the reset of the registers leaves them. -/
def Ring.boot (g : Ring) (now : Nat) : Ring :=
  { r := { ({} : RingRegs) with nidCfg := g.r.nidCfg, asym := g.r.asym }
    bootCfg := g.r.nidCfg, tListen := now, fc := g.fc
    clock := { base := 0, t0 := now, freq := 0 } }

end Sys2Proof.Machine
end

