-- ==== Sys2Proof/Machine/Mem.lean ====
section
/-! DEFINITION. Sys2Proof/Machine/Mem.lean: a byte memory as a list of cells in one canonical form: addresses strictly
rising, and no cell equal to what an unlisted address reads as. `d` says what an unlisted address reads as; none: the
spec gives no content (R633). -/

namespace Sys2Proof.Machine

/-- The listed byte of an address. -/
def memFind (m : List Host.Cell) (a : Nat) : Option Byte :=
  match m with
  | [] => none
  | (x, b) :: r => if x = a then some b else memFind r a

/-- The byte an address reads as. -/
def memGet (d : Nat → Option Byte) (m : List Host.Cell) (a : Nat) : Option Byte :=
  match memFind m a with
  | some b => some b
  | none => d a

/-- A cell put in its place. -/
def memPut (m : List Host.Cell) (a : Nat) (b : Byte) : List Host.Cell :=
  match m with
  | [] => [(a, b)]
  | (x, c) :: r => if a < x then (a, b) :: (x, c) :: r else if x = a then (a, b) :: r else (x, c) :: memPut r a b

/-- A cell taken out. -/
def memDel (m : List Host.Cell) (a : Nat) : List Host.Cell :=
  match m with
  | [] => []
  | (x, c) :: r => if x = a then r else (x, c) :: memDel r a

/-- A byte written. -/
def memSet (d : Nat → Option Byte) (m : List Host.Cell) (a : Nat) (b : Byte) : List Host.Cell :=
  if d a = some b then memDel m a else memPut m a b

/-- A word written, byte 0 in its low byte (R14, R617). -/
def memSetW (d : Nat → Option Byte) (m : List Host.Cell) (a : Nat) (w : Word) : List Host.Cell :=
  memSet d (memSet d (memSet d (memSet d m a (w.extractLsb' 0 8)) (a + 1) (w.extractLsb' 8 8)) (a + 2) (w.extractLsb' 16 8))
    (a + 3) (w.extractLsb' 24 8)

/-- The word at an address, where all its bytes have a content. -/
def memGetW (d : Nat → Option Byte) (m : List Host.Cell) (a : Nat) : Option Word :=
  match memGet d m a, memGet d m (a + 1), memGet d m (a + 2), memGet d m (a + 3) with
  | some b0, some b1, some b2, some b3 => some (b3 ++ b2 ++ b1 ++ b0)
  | _, _, _, _ => none

/-- Words written at rising addresses. -/
def memSetWs (d : Nat → Option Byte) (m : List Host.Cell) (a : Nat) (ws : List Word) : List Host.Cell :=
  match ws with
  | [] => m
  | w :: r => memSetWs d (memSetW d m a w) (a + 4) r

/-- Every address of a list is above a bound, rising, and no cell equals its default. -/
def memAbove (d : Nat → Option Byte) (lo : Nat) (m : List Host.Cell) : Bool :=
  match m with
  | [] => true
  | (x, b) :: r => decide (lo ≤ x) && decide (d x ≠ some b) && memAbove d (x + 1) r

/-- The canonical form of a memory. -/
def Memory.wf (d : Nat → Option Byte) (m : List Host.Cell) : Bool := memAbove d 0 m

end Sys2Proof.Machine
end

