-- ==== Sys2Proof/Machine/Cool.lean ====
section
/-! DEFINITION. Sys2Proof/Machine/Cool.lean: the cable cooling controller, its thermal model, the cable cap and the
resistance estimates (R362 to R390), with the auxiliary loops that serve it (R172, R173). -/

namespace Sys2Proof.Machine

/-! ### Sensors (R363, R364) -/

/-- R363: a PT1000 resistance in mΩ as 0.1 °C by the formula with the IEC 60751 coefficients
A = 3.9083e-3, B = −5.775e-7; none: the sensor is faulty. -/
def ptTemp (mohm : Nat) : Option Int :=
  if mohm < 803000 ∨ 1759000 < mohm then none
  else
    let disc := 1758480889 - 231 * mohm
    some (divHE ((39083000 : Int) - isqrtR (disc * 1000000)) 1155)

/-- The higher of two optional readings. -/
def optMax (a b : Option Int) : Option Int :=
  match a, b with
  | some x, some y => some (max x y)
  | some x, none => some x
  | none, y => y

/-- T_PIN, 0.1 °C (R364). -/
def Cool.tPin (c : Cool) : Option Int :=
  optMax (optMax (vget c.pt 0 none) (vget c.pt 1 none)) (optMax (vget c.pt 2 none) (vget c.pt 3 none))

/-- Both sensors of one contact are faulty (R364). -/
def Cool.contactFault (c : Cool) : Bool :=
  ((vget c.pt 0 none).isNone && (vget c.pt 1 none).isNone) || ((vget c.pt 2 none).isNone && (vget c.pt 3 none).isNone)

/-- T_IN and T_OUT, 0.1 °C: one stands for both when the other is faulty (R364). -/
def Cool.tIn (c : Cool) : Option Int := (vget c.cn 0 none).or (vget c.cn 1 none)
def Cool.tOut (c : Cool) : Option Int := (vget c.cn 1 none).or (vget c.cn 0 none)

/-- Both coolant NTCs are faulty (R364). -/
def Cool.coolantFault (c : Cool) : Bool := c.tIn.isNone

/-- Two valid sensors of a contact differ by more than 10 °C (R364). -/
def Cool.disc (c : Cool) : Bool :=
  let d (i j : Nat) : Bool := match vget c.pt i none, vget c.pt j none with
    | some a, some b => decide (100 < (a - b).natAbs)
    | _, _ => false
  d 0 1 || d 2 3

/-- ACTIVE or RUNDOWN. -/
def Cool.working (c : Cool) : Bool := c.r.status.state = .active || c.r.status.state = .rundown

/-- A stamp kept while a condition holds. -/
def stamp (now : Nat) (cond : Bool) (t : Option Nat) : Option Nat := if cond then some (t.getD now) else none

/-- A condition has held for a time. -/
def held (now : Nat) (t : Option Nat) (ns : Nat) : Bool :=
  match t with
  | some t0 => decide (t0 + ns ≤ now)
  | none => false

/-- R377: the pump Eyelet has been on for 5 s. -/
def Cool.judged (c : Cool) (now : Nat) : Bool := c.working && held now c.tPump (sNs 5)

/-- P lies outside [P_MIN, P_MAX] (R377). -/
def Cool.presOut (c : Cool) : Bool :=
  match c.pres with
  | some p => decide (p < (c.r.sens.pMin.toNat * 1000 : Nat)) || decide ((c.r.sens.pMax.toNat * 1000 : Nat) < p)
  | none => false

/-- The pressure input is faulty (R363). -/
def Cool.presBadIn (c : Cool) : Bool := c.presRead && c.pres.isNone

/-- The stamps of R364 and R377 brought up to date. -/
def Cool.stamps (c : Cool) (now : Nat) : Cool :=
  let fmin : Rat := c.r.sens.fMin.toNat
  let j := c.judged now
  let low := j && decide (c.flow < fmin) && decide (c.r.ctrl.pumpMin.toNat ≤ c.r.drive.pump.toNat)
  let bad := j && c.presOut
  { c with
    flowLowSince := stamp now low c.flowLowSince
    flowOkSince := stamp now (decide (fmin ≤ c.flow)) c.flowOkSince
    presBadSince := stamp now bad c.presBadSince
    presOkSince := stamp now (!c.presBadIn && !bad) c.presOkSince
    discSince := stamp now c.disc c.discSince
    discOkSince := stamp now (!c.disc) c.discOkSince }

/-- A flag of this chapter changes and is journalled: 0 PIN_DISC, 1 FLOW_LOW, 2 PRES_FLT, 3 a sensor fault mask. -/
def Chan.coolFlag (k : Chan) (e : Env) (which : Nat) (v : Bool) (old : Bool) : Chan :=
  if v = old then k else k.jr e .cool JEv.coolFlag [which, if v then 1 else 0]

/-- PRES_FLT set or cleared, journalled on a change. -/
def Chan.setPres (k : Chan) (e : Env) (v : Bool) : Chan :=
  let old := k.cool.r.status.presFlt
  ({ k with cool := { k.cool with r.status.presFlt := v, presIn := v && k.cool.presBadIn } } : Chan).coolFlag e 2 v old

/-- FLOW_LOW set or cleared, journalled on a change. -/
def Chan.setFlowLow (k : Chan) (e : Env) (v : Bool) : Chan :=
  let old := k.cool.r.status.flowLow
  ({ k with cool := { k.cool with r.status.flowLow := v } } : Chan).coolFlag e 1 v old

/-- PIN_DISC set or cleared, journalled on a change. -/
def Chan.setDisc (k : Chan) (e : Env) (v : Bool) : Chan :=
  let old := k.cool.r.status.pinDisc
  ({ k with cool := { k.cool with r.status.pinDisc := v } } : Chan).coolFlag e 0 v old

/-- R363: one conversion: four PT1000 resistances in mΩ, two NTC resistances in Ω, the pressure voltage in mV. -/
def Chan.coolConvert (k : Chan) (e : Env) (pts : List Nat) (ntcs : List Nat) (mv : Nat) : Chan :=
  let old := k.cool.r.status
  let b := k.loop.r.ntcCfg.ntcB.toNat
  let rn := k.loop.r.ntcCfg.ntcRnom.toNat
  let ntc (k : Chan) (i : Nat) : Chan :=
    match ntcTemp b rn (ntcs.getD i 0) with
    | none => { k with cool.cn := vset k.cool.cn i none }
    | some (some t) => { k with cool.cn := vset k.cool.cn i (some t) }
    | some none =>
      let f := k.free
      { f.2 with cool.cn := vset f.2.cool.cn i (some (f.1.setWidth 16).toInt) }
  let k := ntc (ntc k 0) 1
  let pt : Vector (Option Int) 4 := Vector.ofFn (fun i : Fin 4 => ptTemp (pts.getD i.val 0))
  let p : Option Int := if mv < 250 ∨ 4750 < mv then none else some (((mv : Int) - 500) * 25)
  let c : Cool := { k.cool with pt := pt, pres := p, presRead := true }
  let c : Cool := { c with
    tinHeld := if c.tIn.isSome ∧ c.r.status.state ≠ .off then c.tIn else c.tinHeld
    r.pin01 := { pt1 := tReg (vget pt 1 none), pt0 := tReg (vget pt 0 none) }
    r.pin23 := { pt3 := tReg (vget pt 3 none), pt2 := tReg (vget pt 2 none) }
    r.tcool := { tOut := tReg (vget c.cn 1 none), tIn := tReg (vget c.cn 0 none) }
    r.flow.pres := toU 16 (match p with | some x => divHE x 100 | none => 0)
    r.status := { c.r.status with
      pinFlt := (List.range 4).foldl (fun (m : BitVec 4) i => msetb m i (vget pt i none).isNone) 0
      cntcFlt := (List.range 2).foldl (fun (m : BitVec 2) i => msetb m i (vget c.cn i none).isNone) 0 } }
  let k : Chan := { k with cool := c.stamps e.now }
  let k := k.coolFlag e 3 (decide (c.r.status.pinFlt ≠ old.pinFlt ∨ c.r.status.cntcFlt ≠ old.cntcFlt)) false
  -- R377: a faulty input sets PRES_FLT in every state
  if k.cool.presBadIn ∧ !k.cool.r.status.presFlt then k.setPres e true else k

/-- R363: the flow from the pulses of the last second. -/
def Chan.flowUpdate (k : Chan) (e : Env) (pulses : Nat) : Chan :=
  let f : Rat := ((pulses * 60 : Nat) : Rat) / ((max 1 k.cool.r.sens.kFlow.toNat : Nat) : Rat)
  { k with cool := ({ k.cool with flow := f, r.flow.flow := toU 16 (roundHE (f * 100)) } : Cool).stamps e.now }

/-! ### Fault flags (R364, R377) -/

/-- R377: F below F_MIN for 2 s. -/
def Chan.flowLowSet (k : Chan) (e : Env) : Chan :=
  if k.cool.working ∧ held e.now k.cool.flowLowSince (sNs 2) then k.setFlowLow e true else k

/-- R377: F at or above F_MIN for 5 s. -/
def Chan.flowLowClear (k : Chan) (e : Env) : Chan :=
  if held e.now k.cool.flowOkSince (sNs 5) then k.setFlowLow e false else k

/-- R377: P outside its bounds for 2 s. -/
def Chan.presSet (k : Chan) (e : Env) : Chan :=
  if k.cool.presBadIn ∨ held e.now k.cool.presBadSince (sNs 2) then k.setPres e true else k

/-- R377: 5 s without a pressure condition. -/
def Chan.presClear (k : Chan) (e : Env) : Chan :=
  if held e.now k.cool.presOkSince (sNs 5) then k.setPres e false else k

/-- R364: a difference above 10 °C for 1 s. -/
def Chan.discSet (k : Chan) (e : Env) : Chan :=
  if held e.now k.cool.discSince (sNs 1) then k.setDisc e true else k

/-- R364: 10 s without such a difference. -/
def Chan.discClear (k : Chan) (e : Env) : Chan :=
  if held e.now k.cool.discOkSince (sNs 10) then k.setDisc e false else k

/-! ### Controller states (R367, R374) -/

/-- 0.1 °C as °C. -/
def degC (x : Int) : Rat := (x : Rat) / 10

/-- Running: the loop state is neither IDLE nor FAULT (R367). -/
def Chan.loopOn (k : Chan) : Bool := k.loop.r.status.state ≠ .idle && k.loop.r.status.state ≠ .fault

/-- The temperatures that take part in Hot: the valid ones of T_PIN and T_OUT, and T_c (R367). -/
def Cool.wakeTemps (c : Cool) : List Rat := c.tc :: ((c.tPin.toList ++ c.tOut.toList).map degC)

/-- Hot (R367). -/
def Cool.hot (c : Cool) : Bool := c.wakeTemps.any (fun t => decide ((c.r.ctrl.tWake.toNat : Rat) ≤ t))

/-- Every temperature is below T_WAKE − 5 °C (R367). -/
def Cool.cold (c : Cool) : Bool := c.wakeTemps.all (fun t => decide (t < (c.r.ctrl.tWake.toNat : Rat) - 5))

/-- A state entered, with the auxiliary loops enabled in ACTIVE and RUNDOWN and the outputs low elsewhere; on leaving
those states FLOW_LOW clears, and PRES_FLT unless it stands for a faulty input (R366, R367, R377). -/
def Chan.coolEnter (k : Chan) (e : Env) (s : CoolState) : Chan :=
  let on := decide (s = .active ∨ s = .rundown)
  let k : Chan := { k with
    loop.r.auxStatus.en := if on then 3 else 0
    cool := { k.cool with
      r.status.state := s
      r.drive := if on then k.cool.r.drive else {} } }
  if on then k
  else
    let k : Chan := { k with cool := { k.cool with flowLowSince := none, presBadSince := none, tPump := none } }
    let k := k.setFlowLow e false
    if k.cool.r.status.presFlt ∧ !k.cool.presBadIn ∧ !k.cool.presIn then k.setPres e false else k

/-- R367, R374: EN written 1 in OFF. -/
def Chan.coolOn (k : Chan) (e : Env) : Chan :=
  let c := k.cool
  let t : Rat := match optMax (optMax c.tPin c.tIn) c.tOut with
    | some x => degC x
    | none => degC c.r.lim1.tCLim.toInt
  ({ k with cool := { c with tc := t, tk := t, tinHeld := c.tIn } } : Chan).coolEnter e .standby

/-- R367: the rundown is over. -/
def Chan.rundownEnd (k : Chan) (e : Env) : Chan :=
  if k.cool.r.status.state = .rundown ∧ k.cool.tRun + sNs k.cool.r.ctrl.rundown.toNat ≤ e.now ∧ k.cool.cold then
    k.coolEnter e .standby
  else k

/-- R367: the transitions of the 1 ms mark. -/
def Chan.coolMoves (k : Chan) (e : Env) : Chan :=
  match k.cool.r.status.state with
  | .standby => if k.loopOn ∨ k.cool.hot then k.coolEnter e .active else k
  | .active =>
    if !k.loopOn ∧ !k.cool.hot then ({ k with cool.tRun := e.now } : Chan).coolEnter e .rundown else k
  | .rundown => if k.loopOn then k.coolEnter e .active else k.rundownEnd e
  | .off => k

/-- R368, R383: a write to COOL_CTRL: EN, the fields, and AGE_RST. -/
def Chan.coolCtrl (k : Chan) (e : Env) (w : Word) : Chan :=
  let c := k.cool
  let new := CoolCtrl.write c.r.ctrl w
  let st := c.r.status.state
  let en := w.getLsbD 0
  let k : Chan := { k with cool.r.ctrl := { new with en := c.r.ctrl.en, ageRst := false } }
  if k.core.meterRole then k
  else if en then
    let k : Chan := { k with cool.r.ctrl.en := true }
    if st = .off then k.coolOn e else k
  else match st with
    | .active | .rundown => { k with cool.r.status.wrIgn := true }
    | .standby => ({ k with cool.r.ctrl.en := false } : Chan).coolEnter e .off
    | .off => { k with cool.r.ctrl.en := false }

/-- R383: the trend forgotten. -/
def Chan.ageRst (k : Chan) : Chan :=
  if k.ledg.r.status.sealed then { k with cool.r.status.wrIgn := true }
  else
    { k with cool := { k.cool with
        trend := none, con0 := none, outRun := 0, fc := []
        r.rmeas := {}
        r.age := {}
        r.fcast := {}
        r.status.ageValid := false } }

/-! ### Resistances (R378, R382) -/

/-- R_MEAS rounded to 0.1 µΩ; 0 when no trend is held (R382). -/
def Cool.rMeas (c : Cool) : Int := divHE (c.trend.getD 0) 256

/-- R_CON, 0.1 µΩ (R382). -/
def Cool.rCon (c : Cool) : Int := if c.trend.isSome then max 0 (c.rMeas - c.r.cable.rCond20.toNat) else 0

/-- The contact resistance the model uses, 0.1 µΩ (R372). -/
def Cool.rConModel (c : Cool) : Rat := if c.r.status.ageValid then (c.rCon : Rat) else (c.r.cable.rCond20.toNat : Rat) / 10

/-- rc at the model temperature, 0.1 µΩ (R372). -/
def Cool.rc (c : Cool) : Rat := (c.r.cable.rCond20.toNat : Rat) * (1 + 393 / 100000 * (c.tc - 20))

/-- R378: R_LINK from the newest 1 ms means. -/
def Chan.rLink (k : Chan) : Chan :=
  let i := k.msVal 1
  let v11 := k.met.ms11Res.val.toInt
  let ok := (vget k.met.msRes 0 {}).ok && (vget k.met.msRes 1 {}).ok && k.met.ms11Res.ok
  if !ok ∨ i.natAbs < 100000 then k
  else
    let r : Rat := ((k.msVal 0 - v11 : Int) : Rat) / (i : Rat)
    let rl := if k.cool.rlMs = 0 then fine r else fine (k.cool.rl + (r - k.cool.rl) / 10000)
    let n := k.cool.rlMs + 1
    { k with cool := { k.cool with
        rl := rl, rlMs := n
        r.rlink := toU 16 (roundHE (rl * 10 ^ 7))
        r.status.rlValid := k.cool.r.status.rlValid || decide (10000 ≤ n) } }

/-- R379: the operational means of the last millisecond are kept for 500 ms. -/
def Chan.estMeans (k : Chan) : Chan :=
  let ok := (vget k.met.msRes 1 {}).ok && k.met.ms11Res.ok
  let x := if ok then some (k.msVal 1, k.met.ms11Res.val.toInt) else none
  { k with cool.means := (x :: k.cool.means).take 500 }

/-! ### Thermal model and cap (R372 to R376) -/

/-- R373: the heat current, A. -/
def Chan.heatI (k : Chan) : Rat :=
  let a (j : Nat) : Option Int := if (vget k.met.msRes j {}).ok then some ((k.msVal j).natAbs : Int) else none
  if !k.loopOn then 0
  else match optMax (a 1) (a 2) with
    | some x => (x : Rat) / 1000
    | none => tenths k.cool.r.cap.cap

/-- R372: one step of the model. -/
def Chan.coolModel (k : Chan) : Chan :=
  let c := k.cool
  let r := c.r
  let ih := k.heatI
  let ph := fine (ih * ih * (c.rc + c.rConModel) / 10 ^ 7)
  let cc : Rat := ((max 1 r.therm1.cC.toNat * 10 : Nat) : Rat)
  let ck : Rat := ((max 1 r.therm2.cK.toNat * 10 : Nat) : Rat)
  let g : Rat := tenths r.therm1.gCk
  let cpf : Rat := tenths r.therm2.cpf
  let f : Rat := if r.status.flowLow then 0 else c.flow
  let tin : Rat := match c.tIn with
    | some x => degC x
    | none => match c.tinHeld with
      | some x => degC x
      | none => degC r.set.tKSet.toInt
  let tc := fine (c.tc + (ph - g * (c.tc - c.tk)) / (1000 * cc))
  let tk := fine (c.tk + (g * (c.tc - c.tk) - 2 * f * cpf * (c.tk - tin)) / (1000 * ck))
  let tk := match vget c.cn 0 none, vget c.cn 1 none with
    | some a, some b => fine (tk + ((degC a + degC b) / 2 - tk) / 64)
    | _, _ => tk
  { k with cool := { c with
      tc := tc, tk := tk, ph := ph
      r.tmodel := { tC := tReg (some (roundHE (tc * 10))), tK := tReg (some (roundHE (tk * 10))) } } }

/-- R375: the thermal term, 0.1 A. -/
def Cool.thermal (c : Cool) : Nat :=
  let r := c.r
  let num : Rat := tenths r.therm1.gCk * (c.tc - c.tk)
    + ((max 1 r.therm1.cC.toNat * 10 : Nat) : Rat) * (degC r.lim1.tCLim.toInt - c.tc) / ((max 1 r.lim2.h.toNat : Nat) : Rat)
  let den : Rat := (c.rc + c.rConModel) / 10 ^ 7
  if num ≤ 0 then 0 else if den ≤ 0 then 65535 else min 65535 (isqrt (truncZ (num / den * 100)).toNat)

/-- A percentage of I_RATED, 0.1 A, rounded toward zero. -/
def Cool.pctRated (c : Cool) (p : Nat) : Nat := c.r.cable.iRated.toNat * p / 100

/-- R375: the terms with their codes, 0.1 A. -/
def Cool.terms (c : Cool) : List (Nat × Nat) :=
  let r := c.r
  let rated := r.cable.iRated.toNat
  let contact := match c.tPin with
    | none => rated
    | some t => (truncZ (rclamp ((rated : Rat) * (degC r.lim1.tPinLim.toInt - degC t) / ((max 1 r.lim2.pinBand.toNat : Nat) : Rat))
        0 (rated : Rat))).toNat
  let ageing := match c.con0 with
    | some b =>
      if r.status.ageValid ∧ (b.toNat : Int) < c.rCon then
        max (isqrt (truncZ ((rated * rated * b.toNat : Nat) / (c.rCon : Rat))).toNat) (c.pctRated r.lim2.ageFloor.toNat)
      else rated
    | none => rated
  let fault := c.working && (r.status.flowLow || r.status.presFlt || c.contactFault || c.coolantFault)
  [(0, rated), (1, c.thermal), (2, contact), (3, ageing)]
    ++ (if fault then [(4, c.pctRated r.lim2.fltCap.toNat)] else [])
    ++ (if r.status.state = .off then [(5, 0)] else [])

/-- The least term, the lower code on a tie. -/
def leastTerm : List (Nat × Nat) → Nat × Nat
  | [] => (0, 0)
  | [x] => x
  | x :: r => let b := leastTerm r; if x.2 ≤ b.2 then x else b

/-- R375, R376: the cap in force: a fall at once, a rise of at most 1 % of I_RATED in 100 ms. -/
def Chan.coolCap (k : Chan) (e : Env) : Chan :=
  let c := k.cool
  let t := leastTerm c.terms
  let old := c.r.cap.cap.toNat
  let (new, tr) :=
    if t.2 ≤ old then (t.2, c.tRise)
    else if c.tRise + msNs 100 ≤ e.now then (min t.2 (old + c.pctRated 1), e.now)
    else (old, c.tRise)
  { k with cool := { c with
      tRise := tr
      r.cap := { iTh := BitVec.ofNat 16 c.thermal, cap := BitVec.ofNat 16 new }
      r.status.src := BitVec.ofNat 4 t.1 } }

/-- R372 to R378: the 1 ms mark. -/
def Chan.coolMark (k : Chan) (e : Env) : Chan :=
  let k : Chan := { k with cool := k.cool.stamps e.now }
  let k := k.coolMoves e
  let k := if k.cool.r.status.state = .off then k else k.coolModel
  (k.rLink.estMeans).coolCap e

/-! ### Cooling loops (R370, R371) and the auxiliary slots (R172, R173) -/

/-- R370: the section of a loop as a coefficient bank: b0 = 4 (1 + 1 ms / TI), b1 = −4, a1 = −1, FREEZE bit 0. -/
def auxWords (ti : Nat) : Vector (BitVec 32) 41 :=
  let w := (Vector.replicate 41 (0 : BitVec 32))
  let w := vset w 0 (1#32 ||| (1#32 <<< 16))
  let w := vset w 1 (toS 32 (roundHE (4 * (1 + 1 / ((max 1 ti * 1000 : Nat) : Rat)) * 2 ^ 28)))
  let w := vset w 2 (BitVec.ofInt 32 (-4 * 2 ^ 28))
  vset w 4 (BitVec.ofInt 32 (-(2 ^ 28)))

/-- R371: the duty in percent from a section output and the feed-forward. -/
def auxDuty (y : Int) (kff : Nat) (ph : Rat) : Int := roundHE ((ofQ31 y + (kff : Rat) * ph / 1000000) * 100)

/-- R370, R371: one auxiliary loop: the temperature error in K, gain, integral time, feed-forward and least duty; the
next states and the duty. -/
def auxRun (st : SecSt × SecSt) (err : Rat) (kp ti kff lo : Nat) (ph : Rat) : (SecSt × SecSt) × Nat :=
  let x := q31 (err * kp / 4000)
  let sts := vset (vset (Vector.replicate 8 ({} : SecSt)) 0 st.1) 1 st.2
  let frz (y : Int) : Bool :=
    let d := auxDuty y kff ph
    (decide (100 < d) && decide (0 < x)) || (decide (d < (lo : Int)) && decide (x < 0))
  let r := runLoop (auxWords ti) sts x frz
  ((vget r.2.1 0 {}, vget r.2.1 1 {}), (iclamp (auxDuty r.1 kff ph) lo 100).toNat)

/-- R173: the enabled auxiliary loops of one 1 ms mark; each computation counts in RUNS. -/
def Chan.auxMark (k : Chan) : Chan :=
  if !k.cool.working then k
  else
    let c := k.cool
    let pi := c.r.pi
    let a0 := auxRun (vget k.loop.aux 0 ({}, {})) (c.tc - degC c.r.set.tCSet.toInt) pi.kpP.toNat pi.tiP.toNat
      c.r.ff.kffP.toNat c.r.ctrl.pumpMin.toNat c.ph
    let k : Chan := { k with loop := { k.loop with
      aux := vset k.loop.aux 0 a0.1, r.auxStatus.runs := k.loop.r.auxStatus.runs + 1 } }
    let k : Chan := { k with cool.r.drive.pump := BitVec.ofNat 8 a0.2 }
    match c.tIn with
    | none => { k with cool.r.drive.fan := 100 }
    | some t =>
      let a1 := auxRun (vget k.loop.aux 1 ({}, {})) (degC t - degC c.r.set.tKSet.toInt) pi.kpF.toNat pi.tiF.toNat
        c.r.ff.kffF.toNat 0 c.ph
      { k with
        loop := { k.loop with aux := vset k.loop.aux 1 a1.1, r.auxStatus.runs := k.loop.r.auxStatus.runs + 1 }
        cool.r.drive.fan := BitVec.ofNat 8 a1.2 }

/-! ### Resistance estimates (R379 to R384) -/

/-- R379: one point from an EV present voltage in mV; none where the request carries none. -/
def Chan.estPoint (k : Chan) (ev : Option Int) : Chan :=
  let vEv := ev.getD 0
  let c := k.cool
  let ms := c.means
  let xs := ms.filterMap id
  let n := xs.length
  let sx := (xs.map (·.1)).foldl (· + ·) (0 : Int)
  let sv := (xs.map (·.2)).foldl (· + ·) (0 : Int)
  let flat := xs.all (fun p => decide (((p.1 * n - sx).natAbs) * 100 ≤ sx.natAbs))
  let x := divHE sx n
  let y := divHE sv n - vEv
  let p := c.pts
  if ev.isSome ∧ k.veh.r.status.state = .transfer ∧ ms.length = 500 ∧ n = 500 ∧ flat ∧ k.met.valid 8 ∧ k.met.valid 11
      ∧ c.r.est.iEstMin.toNat * 100 ≤ (k.msVal 1).natAbs ∧ p.n < 4096 then
    { k with cool.pts :=
      { n := p.n + 1, sx := p.sx + x, sy := p.sy + y, sxx := p.sxx + x * x, sxy := p.sxy + x * y
        xMin := if p.n = 0 then x else min p.xMin x
        xMax := if p.n = 0 then x else max p.xMax x
        sT := p.sT + c.tc } }
  else k

/-- R380: r_s20 in 0.1 µΩ, where the points suffice. -/
def Cool.rs20 (c : Cool) : Option Int :=
  let p := c.pts
  let den := (p.n : Int) * p.sxx - p.sx * p.sx
  if p.n < 20 ∨ p.xMax - p.xMin < (c.r.est.estSpread.toNat * 100 : Nat) ∨ den ≤ 0 then none
  else
    let rs : Rat := (((p.n : Int) * p.sxy - p.sx * p.sy : Int) : Rat) / (den : Rat) * 10 ^ 7
    some (roundHE (rs - (c.r.cable.rCond20.toNat : Rat) * (393 / 100000) * (p.sT / (p.n : Rat) - 20)))

/-- R384: the least-squares slope of values over days, where the rule lets it be used. -/
def slopeDays (h : List (Int × Int)) : Option Rat :=
  let n : Int := h.length
  let sx := (h.map (·.1)).foldl (· + ·) (0 : Int)
  let sy := (h.map (·.2)).foldl (· + ·) (0 : Int)
  let sxx := (h.map (fun p => p.1 * p.1)).foldl (· + ·) (0 : Int)
  let sxy := (h.map (fun p => p.1 * p.2)).foldl (· + ·) (0 : Int)
  let den := n * sxx - sx * sx
  let lo := (h.map (·.1)).foldl min ((h.map (·.1)).headD 0)
  let hi := (h.map (·.1)).foldl max ((h.map (·.1)).headD 0)
  if h.length < 8 ∨ hi - lo < 7 ∨ den ≤ 0 then none
  else
    let s : Rat := ((n * sxy - sx * sy : Int) : Rat) / (den : Rat)
    if s ≤ 0 then none else some s

/-- A number of days saturated at 0xFFFE, never below 0 (R384). -/
def daysSat (x : Rat) : BitVec 16 := BitVec.ofNat 16 (min 0xFFFE (max 0 x.floor).toNat)

/-- R384: the forecast. -/
def Chan.forecast (k : Chan) (e : Env) : Chan :=
  let c := k.cool
  match (if e.siteValid then slopeDays c.fc else none) with
  | none => { k with cool.r.fcast := { daysLegal := 0xFFFF, daysFloor := 0xFFFF } }
  | some s =>
    let fl : Rat := c.r.lim2.ageFloor.toNat
    let r0 : Rat := ((c.con0.getD 0).toNat : Rat)
    let leg : Rat := 105 / 100 * (k.met.r.rmcs.rMcs.toNat : Rat) - (c.trend.getD 0 : Rat) / 256
    { k with cool.r.fcast := { daysLegal := daysSat (leg / s), daysFloor := daysSat ((r0 * 10000 / (fl * fl) - (c.rCon : Rat)) / s) } }

/-- The day of site time. -/
def dayOf (e : Env) : Int := (e.site / 86400000000000 : Nat)

/-- R381, R382: the trend takes an estimate; the views and the forecast follow. -/
def Chan.trendUpdate (k : Chan) (e : Env) (rs : Int) : Chan :=
  let c := k.cool
  let r8 := rs * 256
  let (t, cnt, step, up, run, taken) : Option Int × Nat × Bool × Bool × Nat × Bool := match c.trend with
    | none => (some r8, 1, false, c.outUp, c.outRun, true)
    | some m =>
      if 4 * (r8 - m).natAbs ≤ m.natAbs then (some (m + divHE (r8 - m) 8), min 255 (c.r.age.count.toNat + 1), false, c.outUp, 0, true)
      else
        let side := decide (m < r8)
        let run := if side = c.outUp then c.outRun + 1 else 1
        if run < 3 then (some m, c.r.age.count.toNat, false, side, run, false)
        else (some r8, c.r.age.count.toNat, true, side, 0, true)
  let c : Cool := { c with trend := t, outUp := up, outRun := run }
  let c : Cool := { c with
    r.age.count := BitVec.ofNat 8 cnt
    r.status.ageStep := c.r.status.ageStep || step
    fc := if taken then ((dayOf e, rs - c.r.cable.rCond20.toNat) :: c.fc).take 64 else c.fc }
  let base := taken && decide (4 ≤ cnt) && c.con0.isNone
  let c0 : BitVec 16 := toU 16 (max 1 c.rCon)
  let c : Cool := if base then { c with con0 := some c0, r.age.rCon0 := c0, r.status.ageValid := true } else c
  let c : Cool := { c with r.rmeas := { rCon := toU 16 c.rCon, rMeas := toU 16 c.rMeas } }
  ({ k with cool := c } : Chan).forecast e

/-- R380: the session estimate on entry to SHUTDOWN. -/
def Chan.sessEstimate (k : Chan) (e : Env) : Chan :=
  let c := k.cool
  match c.rs20 with
  | none => { k with cool.pts := {} }
  | some rs =>
    let k : Chan := { k with cool := { c with pts := {}, r.sess := { npts := toU 16 c.pts.n, rS20 := toU 16 rs } } }
    k.trendUpdate e rs

/-- R312, R382: the valid estimate of the cable resistance, 0.1 µΩ. -/
def Cool.estimate (c : Cool) : Option Int := if c.r.status.ageValid then some c.rMeas else none

/-- R365: single-sensor faults of this chapter. -/
def Cool.sensorFault (c : Cool) : Bool := c.r.status.pinDisc || decide (c.r.status.pinFlt ≠ 0)

/-- R366, R367: a Sole reset: the trend, COUNT and baseline stay as stored. -/
def Chan.coolBoot (k : Chan) (cfg : CoolRegs) : Chan :=
  let c := k.cool
  let n : Cool := { ({} : Cool) with
    trend := c.trend, con0 := c.con0
    r := { cfg with
      status := { ({} : CoolStatus) with ageValid := decide (c.con0.isSome ∧ 4 ≤ c.r.age.count.toNat) }
      age := { c.r.age with rCon0 := c.con0.getD 0 } } }
  { k with cool := { n with r.rmeas := { rCon := toU 16 n.rCon, rMeas := toU 16 n.rMeas } } }

end Sys2Proof.Machine
end

