-- ==== Sys2Proof/Machine/Eyelet.lean ====
section
/-! DEFINITION. Sys2Proof/Machine/Eyelet.lean: the eight protected outputs of a channel's Eyelet die and what the Sole
sees of them (R391 to R425). -/

namespace Sys2Proof.Machine

/-! ### Owners and commands (R393, R394) -/

/-- Who decides an output's command (R393). -/
inductive EyOwner where
  | session | cooling | host
  deriving DecidableEq, Repr

/-- R393: the owner of output i. -/
def Chan.eyOwner (k : Chan) (i : Nat) : EyOwner :=
  let v := k.veh.r.eyMap
  let c := k.cool.r.eyMap
  if i = v.pos.toNat ∨ i = v.neg.toNat ∨ i = v.dis.toNat then .session
  else if k.cool.r.ctrl.en ∧ (i = c.pump.toNat ∨ i = c.fan.toNat ∨ i = c.valve.toNat) then .cooling
  else .host

/-- A mode of the host for output i; 3 is taken as OFF (R423). -/
def Ey.hostMode (y : Ey) (i : Nat) : Nat :=
  let m := (y.host.extractLsb' (2 * i) 2).toNat
  if m = 3 then 0 else m

/-- R393: the command of output i's owner: 0 OFF, 1 ON, 2 PWM. While DIS_REQ is 1 the discharge output is on (R429). -/
def Chan.eyMode (k : Chan) (i : Nat) : Nat :=
  match k.eyOwner i with
  | .session =>
    if i = k.veh.r.eyMap.dis.toNat then (if k.veh.disOn ∨ k.shk.r.status.disReq then 1 else 0)
    else if k.veh.ctOn then 1 else 0
  | .cooling => if k.cool.working then 1 else 0
  | .host => k.ey.hostMode i

/-- The command of output i is on (R394, R398); in FAILSAFE Shank's mask is not received (R413). -/
def Ey.on (y : Ey) (i : Nat) : Bool :=
  decide ((vget y.o i {}).mode ≠ 0) && !y.uv && (y.failsafe || !(mbit y.mask i))

/-- The output pulses or conducts: DUTY 0 holds a PWM output off (R408). -/
def Ey.pulses (y : Ey) (i : Nat) : Bool :=
  decide ((vget y.o i {}).mode ≠ 2) || decide ((vget y.r.pwm i {}).duty ≠ 0)

/-- The output is in INRUSH or ON. -/
def EyOut.live (o : EyOut) : Bool := o.st = .inrush || o.st = .on

/-! ### Transitions (R398) -/

/-- Entry to OFF: new settings come into force (R425). -/
def Ey.toOff (y : Ey) (i : Nat) : Ey :=
  { y with o := vMod y.o i (fun (o : EyOut) => { o with
      st := .off, tIn := none, ma := 0
      lim := vget y.r.lim i {}
      retry := vget y.r.retry i {}
      ol := vget y.r.olcfg i {} }) }

/-- Entry to INRUSH; the window starts at the first pulse (R409). -/
def Ey.toInrush (y : Ey) (now i : Nat) : Ey :=
  let p := y.pulses i
  { y with o := vMod y.o i (fun (o : EyOut) => { o with st := .inrush, tIn := if p then some now else none, tCond := now }) }

/-- R398: one output follows its command. -/
def Ey.follow (y : Ey) (now i : Nat) : Ey :=
  let o := vget y.o i {}
  match o.st, y.on i with
  | .off, true => y.toInrush now i
  | .inrush, false | .on, false | .pause, false => y.toOff i
  | .inrush, true =>
    if o.tIn.isNone ∧ y.pulses i then { y with o := vMod y.o i (fun (o : EyOut) => { o with tIn := some now, tCond := now }) }
    else y
  | _, _ => y

/-- R398: every output follows its command. -/
def Ey.followAll (y : Ey) (now : Nat) : Ey := (List.range 8).foldl (fun y i => y.follow now i) y

/-- A command frame reaches the Eyelet die: owners' modes and Shank's mask; in FAILSAFE it changes nothing (R413, R414). -/
def Chan.eyFrame (k : Chan) (e : Env) : Chan :=
  let y := k.ey
  let cmd := (List.range 8).foldl (fun (m : BitVec 16) i => m ||| (BitVec.ofNat 16 (k.eyMode i) <<< (2 * i))) 0
  if y.failsafe then { k with ey := { y with r.cmd := cmd } }
  else
    let y : Ey := { y with
      r.cmd := cmd
      mask := k.shk.r.status.offMask
      o := vMapI y.o (fun i (o : EyOut) => { o with mode := k.eyMode i }) }
    { k with ey := y.followAll e.now }

/-! ### Trips (R395 to R400) -/

/-- N, with 0 taken as 1 (R425). -/
def EyOut.n (o : EyOut) : Nat := max 1 o.retry.n.toNat

/-- R399: the pause after the trip that brings FCNT to f, ns. -/
def pauseNs (pause0 f : Nat) : Nat := min (msNs (max 1 pause0 * 10) * 2 ^ (f - 1)) (msNs 5000)

/-- R398: an over-current trip. -/
def Ey.ocTrip (y : Ey) (now i : Nat) : Ey :=
  let o := vget y.o i {}
  if !o.live then y
  else
    let f := min 15 (o.fcnt + 1)
    let p := decide (o.fcnt + 1 ≤ o.n)
    { y with
      report := true
      fault.oc := msetb y.fault.oc i true
      o := vMod y.o i (fun (o : EyOut) => { o with
        st := if p then .pause else .latched
        fcnt := f, tIn := none, tPause := now, pause := pauseNs o.retry.pause0.toNat f, ma := 0 }) }

/-- R396: the output has limited its current for a time, µs. -/
def Ey.overcurrent (y : Ey) (now i us : Nat) : Ey :=
  if max 1 (vget y.o i {}).retry.ocFilt.toNat * 10 ≤ us then y.ocTrip now i else y

/-- R396: the current exceeds 15.0 A. -/
def Ey.shortCircuit (y : Ey) (now i ma : Nat) : Ey := if 15000 < ma then y.ocTrip now i else y

/-- R397: the output's temperatures: junction less case in K, junction in °C. -/
def Ey.thermal (y : Ey) (i : Nat) (dt : Nat) (tj : Int) : Ey :=
  let o := vget y.o i {}
  let y : Ey := { y with o := vMod y.o i (fun (o : EyOut) => { o with dt := dt }) }
  if (60 ≤ dt ∨ 170 ≤ tj) ∧ (o.live ∨ o.st = .pause) then
    { y with
      report := true
      fault.th := msetb y.fault.th i true
      o := vMod y.o i (fun (o : EyOut) => { o with st := .thermHot, fcnt := min 15 (o.fcnt + 1), tIn := none, ma := 0 }) }
  else y

/-- R397: an output re-arms. -/
def Ey.rearm (y : Ey) (i : Nat) (dt : Nat) (tj : Int) : Ey :=
  let y : Ey := { y with o := vMod y.o i (fun (o : EyOut) => { o with dt := dt }) }
  if (vget y.o i {}).st = .thermHot ∧ dt ≤ 30 ∧ tj ≤ 150 then
    { y with o := vMod y.o i (fun (o : EyOut) => { o with st := .thermWait }) }
  else y

/-- R398: the inrush window has elapsed. -/
def Ey.inrushEnd (y : Ey) (now i : Nat) : Ey :=
  let o := vget y.o i {}
  match o.st, o.tIn with
  | .inrush, some t =>
    if t + msNs o.lim.inrushT.toNat ≤ now then { y with o := vMod y.o i (fun (o : EyOut) => { o with st := .on, tOn := now }) }
    else y
  | _, _ => y

/-- R399: the pause has elapsed. -/
def Ey.pauseEnd (y : Ey) (now i : Nat) : Ey :=
  let o := vget y.o i {}
  if o.st = .pause ∧ o.tPause + o.pause ≤ now ∧ y.on i then y.toInrush now i else y

/-- R395: the output has stayed in ON for 1 s with no trip. -/
def Ey.fcntClear (y : Ey) (now i : Nat) : Ey :=
  let o := vget y.o i {}
  if o.st = .on ∧ o.tOn + sNs 1 ≤ now then { y with o := vMod y.o i (fun (o : EyOut) => { o with fcnt := 0 }) } else y

/-- R398: a clear of output i; from OFF an output still commanded on re-enters INRUSH at once. -/
def Ey.clear (y : Ey) (now i : Nat) : Ey :=
  let o := vget y.o i {}
  match o.st with
  | .latched =>
    ({ y.toOff i with o := vMod (y.toOff i).o i (fun (o : EyOut) => { o with fcnt := 0 }) } : Ey).follow now i
  | .thermWait =>
    if o.fcnt ≤ o.n then (y.toOff i).follow now i
    else { y with o := vMod y.o i (fun (o : EyOut) => { o with st := .latched }) }
  | _ => y

/-- Outputs of a mask cleared. -/
def Ey.clearMask (y : Ey) (now : Nat) (m : BitVec 8) : Ey :=
  (List.range 8).foldl (fun (y : Ey) i => if mbit m i then y.clear now i else y) y

/-! ### Open load, undervoltage and dips (R401 to R406, R411) -/

/-- R408: the on-time of output i is at least 1 ms (R402). -/
def Ey.longPulse (y : Ey) (i : Nat) : Bool :=
  let p := vget y.r.pwm i {}
  let us : Nat := match p.freq.toNat with | 0 => 10000 | 1 => 5000 | 2 => 2500 | _ => 1000
  decide ((vget y.o i {}).mode ≠ 2) || decide (255000 ≤ us * p.duty.toNat)

/-- R401, R402: an output judged on its voltage in mV and current in mA, held for `ms`. -/
def Ey.openLoad (y : Ey) (now i mv ma ms : Nat) : Ey :=
  let o := vget y.o i {}
  let c := o.ol
  if ms < max 1 c.olT.toNat then y
  else match o.st with
    | .off =>
      let short := decide (y.vsw ≤ mv + 1000)
      let olOff := c.offEn && decide (c.offVth.toNat * 100 ≤ mv) && !short
      { y with flags := { y.flags with shortVsw := msetb y.flags.shortVsw i short, olOff := msetb y.flags.olOff i olOff } }
    | .on =>
      if c.onEn ∧ o.tCond + msNs 1 ≤ now ∧ y.longPulse i then
        let thr := c.olIon.toNat * (if c.fine then 1 else 10)
        { y with flags := { y.flags with olOn := msetb y.flags.olOn i (decide (ma < thr)) } }
      else y
    | _ => y

/-- R403: an output's voltage in mV has stayed for `us`; an output that limits is not judged, nor any during a dip. -/
def Ey.outputUv (y : Ey) (i mv us : Nat) (limiting : Bool) : Ey :=
  if (vget y.o i {}).live ∧ !limiting ∧ !y.dip ∧ mv < y.r.supply.ouvV.toNat * 100 ∧ 500 ≤ us then
    { y with fault.ouv := msetb y.fault.ouv i true, report := true }
  else y

/-- R405: VSWn moves from `v0` to `v1` mV within `us`. -/
def Ey.supplyDip (y : Ey) (v0 v1 us : Nat) : Ey :=
  let y : Ey := { y with vsw := v1 }
  if !y.dip ∧ ((v1 + 2000 ≤ v0 ∧ us ≤ 50) ∨ v1 < y.r.supply.ouvV.toNat * 100) then
    { y with dip := true, dipRef := v0, r.supply.dipCnt := satInc y.r.supply.dipCnt }
  else y

/-- R405: VSWn in mV has stood for `us`. -/
def Ey.supplyDipEnd (y : Ey) (mv us : Nat) : Ey :=
  let y : Ey := { y with vsw := mv }
  if y.dip ∧ max (y.dipRef - 1000) (y.r.supply.ouvV.toNat * 100) < mv ∧ 2000 ≤ us then { y with dip := false } else y

/-- R411: VSWn in mV falls below 5.0 V. -/
def Ey.vswUnder (y : Ey) (now mv : Nat) : Ey :=
  let y : Ey := { y with vsw := mv }
  if mv < 5000 then ({ y with uv := true } : Ey).followAll now else y

/-- R411: VSWn in mV is above 5.5 V again. -/
def Ey.vswRestore (y : Ey) (now mv : Nat) : Ey :=
  let y : Ey := { y with vsw := mv }
  if 5500 < mv then ({ y with uv := false } : Ey).followAll now else y

/-! ### Current mirror (R410) -/

/-- The output the mirror shows. -/
def Ey.mirrorSel (y : Ey) : Nat := if y.r.mirror.src then y.eysel.toNat else y.r.mirror.sel.toNat

/-- The current of CHn_ISENSE, µA. -/
def Ey.isense (y : Ey) : Nat :=
  let o := vget y.o y.mirrorSel {}
  if !y.r.mirror.en then 0
  else match o.st with
    | .off => 0
    | .inrush | .on => if o.ol.fine then min 750 (o.ma * 5) else o.ma / 5
    | _ => 3000

/-! ### Watchdog and fail-safe states (R412 to R417) -/

/-- The stored state of output i: 0 OFF, 1 ON, 2 KEEP; 3 is taken as OFF (R424). -/
def Ey.stored (y : Ey) (i : Nat) : Nat :=
  let m := (y.r.fsafe.extractLsb' (2 * i) 2).toNat
  if m = 3 then 0 else m

/-- R412, R417: a feed frame with a sequence. -/
def Ey.feed (y : Ey) (now : Nat) (sq : BitVec 4) : Ey :=
  if y.seq = some sq then y else { y with seq := some sq, tFeed := now, armed := true, fed := true }

/-- R413: no counted feed for WDT_T: FAILSAFE; outputs stored OFF go OFF, those stored KEEP keep their command and those
stored ON keep theirs until FS_DLY. -/
def Ey.wdExpire (y : Ey) (now : Nat) : Ey :=
  if y.armed ∧ !y.failsafe ∧ y.tFeed + msNs (max 1 y.r.wdt.wdtT.toNat) ≤ now then
    let y : Ey := { y with
      failsafe := true, tFs := now, fsDone := false, fed := false, wdExp := true, report := true
      o := vMapI y.o (fun i (o : EyOut) => if y.stored i = 0 then { o with mode := 0 } else o) }
    y.followAll now
  else y

/-- R413: FS_DLY after entry, outputs stored ON are commanded on. -/
def Ey.fsDelay (y : Ey) (now : Nat) : Ey :=
  if y.failsafe ∧ !y.fsDone ∧ y.tFs + msNs (10 * min 50 y.r.wdt.fsDly.toNat) ≤ now then
    let y : Ey := { y with
      fsDone := true
      o := vMapI y.o (fun i (o : EyOut) => if y.stored i = 1 then { o with mode := 1 } else o) }
    y.followAll now
  else y

/-! ### What the Sole sees (R38, R404, R422) -/

/-- The status of the die copied to the registers, changes of flags and trips journalled. -/
def Chan.eySync (k : Chan) (e : Env) : Chan :=
  let y := k.ey
  let old := y.r
  let bits (f : Nat → Bool) : BitVec 8 := (List.range 8).foldl (fun (m : BitVec 8) i => msetb m i (f i)) 0
  let y2 : Ey := { y with
    report := false
    fault := {}
    wdExp := false
    r := { old with
      status := { old.status with
        failsafe := y.failsafe, wdExp := old.status.wdExp || y.wdExp, dip := y.dip, vswUv := y.uv, shkMask := y.mask
        out := bits (fun i => (vget y.o i {}).live && y.pulses i)
        eff := bits y.on }
      fault := { ouv := old.fault.ouv ||| y.fault.ouv, th := old.fault.th ||| y.fault.th, oc := old.fault.oc ||| y.fault.oc }
      ol := y.flags
      supply := { old.supply with vsw := BitVec.ofNat 16 (min 65535 y.vsw) }
      ostat := y.o.map (fun (o : EyOut) =>
        { state := o.st, fcnt := BitVec.ofNat 4 o.fcnt, dt := BitVec.ofNat 8 (min 255 o.dt), i := BitVec.ofNat 16 (min 65535 o.ma) }) } }
  let k : Chan := { k with ey := y2 }
  let k := if y.flags ≠ old.ol then
      k.jr e .ey JEv.eyeletFlags [y.flags.olOff.toNat, y.flags.olOn.toNat, y.flags.shortVsw.toNat]
    else k
  if y.fault ≠ {} then k.jr e .ey JEv.eyeletTrip [y.fault.oc.toNat, y.fault.th.toNat, y.fault.ouv.toNat] else k

/-- R38: a status frame arrives with the load currents in mA and VSWn in mV, or is missing or fails its CRC. -/
def Chan.eyStatus (k : Chan) (e : Env) (ok : Bool) (mas : List Nat) (vsw : Nat) : Chan :=
  if !ok then
    { k with core.r.linkStatus := { k.core.r.linkStatus with eydLinkOk := false, eydLinkErr := true } }
  else
    let k : Chan := { k with
      core.r.linkStatus := { k.core.r.linkStatus with eydLinkOk := true }
      ey := { k.ey with
        vsw := vsw
        o := vMapI k.ey.o (fun i (o : EyOut) => { o with ma := if o.live then mas.getD i 0 else 0 }) } }
    k.eySync e

/-- R38: a fault report frame. -/
def Chan.eyReport (k : Chan) (e : Env) : Chan := if k.ey.report then k.eySync e else k

/-! ### Host commands (R393, R419 to R421) -/

/-- R393: a host write of modes: each output the host owns takes its field; a field that would change another output is
ignored and sets WR_IGN. -/
def Chan.eyCmdWrite (k : Chan) (w : BitVec 16) : Chan :=
  let own (i : Nat) : Bool := k.eyOwner i = .host
  let host := (List.range 8).foldl (fun (m : BitVec 16) i =>
    if own i then (m &&& ~~~(3#16 <<< (2 * i))) ||| (w &&& (3#16 <<< (2 * i))) else m) k.ey.host
  let ign := (List.range 8).any (fun i => !own i && decide ((w.extractLsb' (2 * i) 2).toNat ≠ k.eyMode i))
  { k with ey := { k.ey with host := host, r.status.wrIgn := k.ey.r.status.wrIgn || ign } }

/-- 0x87 while the Eyelet link is not valid (R421). -/
def Chan.eyLink (k : Chan) : Bool := k.core.r.linkStatus.eydLinkOk

/-- R419: 0x0501. -/
def Chan.dEyOutput (k : Chan) (d : Desc) : Chan × Option Nat :=
  let sel := (d.pay 0).extractLsb' 0 8
  let modes := (d.pay 1).extractLsb' 0 16
  let pw : Word := 0x030000FF
  if !d.onlyBits [0xFF, 0xFFFF, pw, pw, pw, pw, pw, pw] then (k, some 0x05)
  else if !k.eyLink then (k, some 0x87)
  else if (List.range 8).any (fun i => mbit sel i && k.eyOwner i ≠ .host) then (k, some 0x80)
  else
    let host := (List.range 8).foldl (fun (m : BitVec 16) i =>
      if mbit sel i then (m &&& ~~~(3#16 <<< (2 * i))) ||| (modes &&& (3#16 <<< (2 * i))) else m) k.ey.host
    let pwm := vMapI k.ey.r.pwm (fun i (p : EyPwm) =>
      if mbit sel i then { freq := (d.pay (2 + i)).extractLsb' 24 2, duty := (d.pay (2 + i)).extractLsb' 0 8 } else p)
    ({ k with ey := { k.ey with host := host, r.pwm := pwm } }, some 0)

/-- R398, R418: 0x0502. -/
def Chan.dEyClear (k : Chan) (e : Env) (d : Desc) : Chan × Option Nat :=
  let sel := (d.pay 0).extractLsb' 0 8
  if !d.onlyBits [0xFF] then (k, some 0x05)
  else if !k.eyLink then (k, some 0x87)
  else if (List.range 8).any (fun i => mbit sel i && (vget k.ey.o i {}).st = .thermHot) then (k, some 0x81)
  else ({ k with ey := k.ey.clearMask e.now sel }, some 0)

/-- R425: the fields of a limits write are in range. -/
def limitsOk (lim retry olcfg : Word) : Bool :=
  let il := (lim.extractLsb' 0 7).toNat
  let ir := (lim.extractLsb' 8 7).toNat
  let it := (lim.extractLsb' 16 9).toNat
  let p0 := (retry.extractLsb' 16 9).toNat
  let oc := (retry.extractLsb' 0 10).toNat
  decide (5 ≤ il ∧ il ≤ 90 ∧ il ≤ ir ∧ ir ≤ 120 ∧ 5 ≤ it ∧ it ≤ 500 ∧ 1 ≤ p0 ∧ p0 ≤ 500 ∧ 1 ≤ oc ∧ oc ≤ 1000
    ∧ (olcfg.extractLsb' 8 8).toNat ≤ 40 ∧ 1 ≤ (olcfg.extractLsb' 0 8).toNat)

/-- R419: 0x0503. -/
def Chan.dEyLimits (k : Chan) (d : Desc) : Chan × Option Nat :=
  let i := d.fld 0 0 3
  if !d.onlyBits [7, 0x01FF7F7F, 0xF1FF03FF, 0xE0FFFFFF] then (k, some 0x05)
  else if !k.eyLink then (k, some 0x87)
  else if !limitsOk (d.pay 1) (d.pay 2) (d.pay 3) then (k, some 0x82)
  else
    let r := k.ey.r
    ({ k with ey.r := { r with
        lim := vMod r.lim i (fun (x : EyLim) => x.write (d.pay 1))
        retry := vMod r.retry i (fun (x : EyRetry) => x.write (d.pay 2))
        olcfg := vMod r.olcfg i (fun (x : EyOlcfg) => x.write (d.pay 3)) } }, some 0)

/-- R414: 0x0504. -/
def Chan.dEyResume (k : Chan) (d : Desc) : Chan × Option Nat :=
  if !d.onlyBits [] then (k, some 0x05)
  else if !k.eyLink then (k, some 0x87)
  else if !k.ey.failsafe then (k, some 0x83)
  else if !k.ey.fed then (k, some 0x84)
  else ({ k with ey := { k.ey with failsafe := false, fsDone := false } }, some 0)

/-- R415, R416: 0x0505. -/
def Chan.dEyFailsafe (k : Chan) (d : Desc) : Chan × Option Nat :=
  let fs := (d.pay 0).extractLsb' 0 16
  let st (i : Nat) : Nat := (fs.extractLsb' (2 * i) 2).toNat
  let off (i : Nat) : Bool := decide (st i = 0 ∨ st i = 3)
  let dly := d.fld 1 8 7
  let t := d.fld 1 0 7
  let v := k.veh.r.eyMap
  if !d.onlyBits [0xFFFF, 0x7F7F] then (k, some 0x05)
  else if !k.eyLink then (k, some 0x87)
  else if 50 < dly ∨ t < 1 ∨ 100 < t then (k, some 0x82)
  else if !off v.pos.toNat ∨ !off v.neg.toNat then (k, some 0x85)
  else if 10000 ≤ k.ey.nvWrites then (k, some 0x86)
  else
    ({ k with ey := { k.ey with
        nvWrites := k.ey.nvWrites + 1
        r.fsafe := fs
        r.wdt := { fsDly := BitVec.ofNat 7 dly, wdtT := BitVec.ofNat 7 t } } }, some 0)

/-- A Sole reset: the Sole's EY_ registers start again; the die keeps running (R412, R710). -/
def Chan.eyBoot (k : Chan) (cfg : EyRegs) : Chan :=
  let r := k.ey.r
  { k with ey := { k.ey with host := 0, report := false, r := { cfg with
      wdt := r.wdt, fsafe := r.fsafe
      lim := r.lim, retry := r.retry, olcfg := r.olcfg, pwm := r.pwm } } }

end Sys2Proof.Machine
end

