-- ==== Sys2Proof/Machine/Ledger.lean ====
section
/-! DEFINITION. Sys2Proof/Machine/Ledger.lean: the sealed partition: seal state, ledger records, legal warning,
acknowledgement and what a power loss leaves (R298 to R326, R755). -/

namespace Sys2Proof.Machine

/-! ### The legal parameter block (R299) -/

/-- R299: the seven words of the legal parameter block for a code version. -/
def Chan.legalBlock (k : Chan) (ver : Word) : List Word :=
  let r := k.met.r
  let c8 := (vget k.met.st 8 ({} : StreamSt)).cal
  let c11 := (vget k.met.st 11 ({} : StreamSt)).cal
  [r.lcalVgain, r.lcalVofs, r.lcalIgain, r.lcalIofs, r.rmcs.read,
   (c8.fs.phc.setWidth 32 <<< 24) ||| (c8.fs.skew.setWidth 32 <<< 16) ||| (c11.fs.phc.setWidth 32 <<< 8)
     ||| c11.fs.skew.setWidth 32, ver]

/-- PARAM_CRC for a code version (R299). -/
def Chan.paramCrc (k : Chan) (ver : Word) : Word := crc32c (k.legalBlock ver)

/-! ### Capacity (R314, R315, R318) -/

/-- HELD (R314). -/
def Ledg.heldN (l : Ledg) : Nat := (l.r.seqNext - 1 - l.r.seqAck).toNat

/-- FREE (R314): a session record occupies its slot from its opening to its writing. -/
def Ledg.free (l : Ledg) : Nat :=
  16384 - l.heldN - (if l.opn.isSome || l.pend.any (fun (x : LRec) => x.typ = 1) then 1 else 0)

/-- R318: LEDG_FREE, OPEN, LOW and FULL brought up to date; a change of LOW or FULL is journalled. -/
def Chan.ledgView (k : Chan) (e : Env) : Chan :=
  let l := k.ledg
  let f := l.free
  let low := decide (f ≤ max 17 l.r.cfg.toNat)
  let full := decide (f ≤ 16)
  let st := l.r.status
  let k : Chan := { k with ledg := { l with
    r.free.free := BitVec.ofNat 15 f
    r.status := { st with openF := l.opn.isSome, low := low, full := full, test := k.key.r.lcStatus.debug } } }
  if low ≠ st.low ∨ full ≠ st.full then k.jr e .hub JEv.ledgerLevel [if low then 1 else 0, if full then 1 else 0] else k

/-- R312: DRIFT and R_MEAS in force. -/
def Chan.driftNow (k : Chan) : BitVec 16 × BitVec 16 :=
  match k.cool.estimate with
  | none => (0, 0)
  | some r =>
    let m : Int := k.met.r.rmcs.rMcs.toNat
    (if m = 0 then 0 else toS 16 (divHE (1000 * (r - m)) m.toNat), toU 16 r)

/-- LEDG_RMEAS brought up to date. -/
def Chan.rmeasView (k : Chan) : Chan :=
  let d := k.driftNow
  { k with ledg.r.rmeas := { drift := d.1, rMeas := d.2 } }

/-! ### Records (R307 to R311) -/

/-- The flag bits of R308 that a span collects. -/
def fWarn : BitVec 16 := 2
def fTamper : BitVec 16 := 4
def fPfail : BitVec 16 := 16
def fFault : BitVec 16 := 64
def fUnsync : BitVec 16 := 256
def fBoot : BitVec 16 := 1024

/-- A record at one instant: SEAL, EVENT, or a session at its start. -/
def Chan.recNow (k : Chan) (e : Env) (typ : Nat) : LRec :=
  let d := k.driftNow
  { typ := typ, tStart := e.site, tEnd := e.site
    flags := (if k.ledg.r.status.legalWarn then fWarn else 0) ||| (if e.siteValid then 0 else fUnsync)
    eIS := k.met.eImp, eIE := k.met.eImp, eES := k.met.eExp, eEE := k.met.eExp, gap0 := k.met.r.gap
    rMeas := d.2, drift := d.1 }

/-- R309: an EVENT record falls due. -/
def Chan.eventRec (k : Chan) (e : Env) (code : BitVec 8) (data : BitVec 24) : Chan :=
  let x := k.recNow e 3
  let tam : BitVec 16 := if code = 4 then fTamper else 0
  { k with ledg.pend := k.ledg.pend ++ [{ x with evtCode := code, evtData := data, flags := x.flags ||| tam }] }

/-- R344: the session's first authorised power transfer: the slot is reserved and the record opened. -/
def Chan.recOpen (k : Chan) (e : Env) : Chan :=
  let x := k.recNow e 1
  { k with ledg.opn := some { x with
      sid := k.veh.r.sid.toList, evccid := [k.veh.r.evccidLo, k.veh.r.evccidHi.setWidth 32], auth := k.veh.authRef } }

/-- R345: the session record takes its end values with a CLOSE code. -/
def Chan.recClose (k : Chan) (e : Env) (close : Nat) (extra : BitVec 16) : Chan :=
  match k.ledg.opn with
  | none => k
  | some x =>
    let d := k.driftNow
    let g := k.met.r.gap - x.gap0
    let x : LRec := { x with
      close := close, tEnd := e.site, eIE := k.met.eImp, eEE := k.met.eExp, gap := g, rMeas := d.2, drift := d.1
      flags := x.flags ||| extra ||| (if k.ledg.r.status.legalWarn then fWarn else 0) ||| (if e.siteValid then 0 else fUnsync)
        ||| (if close = 1 then fFault else 0) ||| (if close = 2 then fTamper else 0) }
    { k with ledg := { k.ledg with opn := none, pend := k.ledg.pend ++ [x], nv :=
        { eImp := k.met.eImp, eExp := k.met.eExp, accI := k.met.accI, accE := k.met.accE } } }

/-- A flag of the span of the open record. -/
def Chan.recFlag (k : Chan) (f : BitVec 16) : Chan :=
  match k.ledg.opn with
  | none => k
  | some x => { k with ledg.opn := some { x with flags := x.flags ||| f } }

/-- R308, R307: the open record follows site time's validity and the largest P_bill (code 0x27). -/
def Chan.recTrack (k : Chan) (e : Env) : Chan :=
  if e.siteValid then k else k.recFlag fUnsync

/-- The larger of two values. -/
def maxBv {n : Nat} (a b : BitVec n) : BitVec n := if a.toNat ≤ b.toNat then b else a

/-- R307: P_MAX_IMP and P_MAX_EXP take the P_bill of a millisecond, in W. -/
def Chan.recPower (k : Chan) : Chan :=
  match k.ledg.opn with
  | none => k
  | some x =>
    let p := k.msVal 7
    let g : BitVec 24 := toU 24 (p.natAbs / 100)
    { k with ledg.opn := some (if 0 ≤ p then { x with pMaxI := maxBv x.pMaxI g } else { x with pMaxE := maxBv x.pMaxE g }) }

/-- A word of the low or high half of a 64-bit value. -/
def lo64 (x : BitVec 64) : Word := x.extractLsb' 0 32
def hi64 (x : BitVec 64) : Word := x.extractLsb' 32 32

/-- A list padded with zero words to a length. -/
def padW (n : Nat) (l : List Word) : List Word := (l ++ List.replicate n 0).take n

/-- A bit of FLAGS. -/
def flagB (b : Bool) (i : Nat) : BitVec 16 := if b then 1#16 <<< i else 0

/-- R307, R308: the body of a record written now: words 0x00 to 0xBC. `unsealed`: the seal state the write leaves. -/
def Chan.recBody (k : Chan) (x : LRec) (nid : Option Nat) (unsealed aborted : Bool) (sealGen : BitVec 16) (crc ver : Word) :
    List Word :=
  let l := k.ledg
  let lost := l.r.free.lostEvt
  let seq := l.r.seqNext
  let prev : List Word := match l.slots.lookup (((seq - 2).toNat) % 16384) with
    | some ws => if seq = 1 then [] else wordsOfBytes ((sha256 (bytesOfWords ws)).take 16)
    | none => []
  let fl := x.flags ||| flagB k.key.r.lcStatus.debug 0 ||| flagB aborted 3 ||| flagB (decide (x.gap ≠ 0)) 5
    ||| flagB (decide (x.eES.toNat < x.eEE.toNat)) 7 ||| flagB (decide (lost ≠ 0)) 9 ||| flagB unsealed 11 ||| flagB nid.isNone 12
  let gcid : Nat := match nid with | some n => 4 * n + k.idx | none => 0
  let t0 := BitVec.ofNat 64 x.tStart
  let t1 := BitVec.ofNat 64 x.tEnd
  [(1#32 <<< 24) ||| (BitVec.ofNat 32 (x.typ % 16) <<< 20) ||| fl.setWidth 32, seq,
   (BitVec.ofNat 32 (gcid % 256) <<< 24) ||| (BitVec.ofNat 32 (k.idx % 4) <<< 16) ||| sealGen.setWidth 32,
   lo64 k.core.dieId, hi64 k.core.dieId, (BitVec.ofNat 32 (x.close % 256) <<< 16) ||| lost.setWidth 32,
   lo64 t0, hi64 t0, lo64 t1, hi64 t1, lo64 x.eIS, hi64 x.eIS, lo64 x.eIE, hi64 x.eIE, lo64 x.eES, hi64 x.eES,
   lo64 x.eEE, hi64 x.eEE, x.gap,
   (x.rMeas.setWidth 32 <<< 16) ||| k.met.r.rmcs.rMcs.setWidth 32, (x.drift.setWidth 32 <<< 16) ||| k.met.r.rmcs.iSt.setWidth 32,
   crc]
  ++ padW 2 x.sid ++ padW 2 x.evccid ++ padW 8 x.auth
  ++ [x.pMaxI.setWidth 32, x.pMaxE.setWidth 32] ++ padW 4 prev
  ++ [ver, (x.evtData.setWidth 32 <<< 8) ||| x.evtCode.setWidth 32] ++ List.replicate 6 0

/-- R300, R755: the signing key of the ledger, where one is usable. -/
def Chan.signKey (k : Chan) : Option Nat :=
  if k.key.usable false 1 then some (natOfBytes (bytesOfWords (k.key.keyOf false 1))) else none

/-- R307: the 64 words of a record: its body and its signature, or zeros where it is not signed. -/
def Chan.recWords (k : Chan) (x : LRec) (nid : Option Nat) (unsealed : Bool) (sealGen : BitVec 16) (crc ver : Word) : List Word :=
  let ab := decide ((x.flags &&& 8) ≠ 0)
  match (if ab then none else k.signKey) with
  | none => k.recBody x nid unsealed true sealGen crc ver ++ List.replicate 16 0
  | some d =>
    let b := k.recBody x nid unsealed false sealGen crc ver
    let s := ecdsaSign d (sha256 (bytesOfWords b))
    b ++ wordsOfBytes (bytesOfNat 32 s.1 ++ bytesOfNat 32 s.2)

/-- R319: the head of the waiting records is written: its slot, the pointer block, and the seal state it carries. -/
def Chan.recWrite (k : Chan) (e : Env) (nid : Option Nat) (x : LRec) (rest : List LRec) : Chan :=
  let l := k.ledg
  let r := l.r
  let code : Option (List Word) := match l.staged with
    | some im => if x.sealTo = some true ∧ imgVersion im = x.ver then some im else none
    | none => none
  let ver := match code with | some _ => x.ver | none => r.lcodeVer
  let crc := k.paramCrc ver
  let sealed := x.sealTo.getD r.status.sealed
  let gen := if x.sealTo = some true then r.status.sealGen + 1 else r.status.sealGen
  let warn := r.status.legalWarn && decide (x.sealTo ≠ some true)
  let ws := k.recWords x nid (!sealed) gen crc ver
  let slot := ((r.seqNext - 1).toNat) % 16384
  let l : Ledg := { l with
    pend := rest
    slots := (slot, ws) :: l.slots.filter (fun p => p.1 ≠ slot)
    overRun := if x.sealTo.isSome then 0 else l.overRun
    staged := if code.isSome then none else l.staged
    code := code.or l.code
    r := { r with
      seqNext := r.seqNext + 1
      free := { r.free with lostEvt := 0 }
      lcodeVer := ver, paramCrc := crc
      status := { r.status with sealed := sealed, sealGen := gen, legalWarn := warn } } }
  let k : Chan := { k with ledg := l }
  let k : Chan := match code with
    | some im => { k with key.r.lcArb.arbLegal := raiseArb k.key.r.lcArb.arbLegal (imgArb im) }
    | none => k
  let k := match x.ref with | some ref => k.compl ref 0 | none => k
  k.ledgView e

/-- R319: a record write: `bad` mismatches in the read-backs. Up to three retries set REC_ERR; after them the record is
kept for another try. -/
def Chan.recordWrite (k : Chan) (e : Env) (nid : Option Nat) (bad : Nat) : Chan :=
  match k.ledg.pend with
  | [] => k
  | x :: rest =>
    -- R315: an EVENT record that finds no slot is not written
    if x.typ = 3 ∧ x.sealTo.isNone ∧ k.ledg.free = 0 then
      { k with ledg := { k.ledg with pend := rest, r.free.lostEvt := satInc k.ledg.r.free.lostEvt } }
    else
      let k : Chan := if 0 < bad then { k with ledg.r.status.recErr := true } else k
      if 3 < bad then k else k.recWrite e nid x rest

/-! ### Legal warning (R312, R313) -/

/-- R312: the comparison made once per second. -/
def Chan.driftCompare (k : Chan) (e : Env) : Chan :=
  let k := k.rmeasView
  if !k.ledg.r.status.sealed then { k with ledg.overRun := 0 }
  else match k.cool.estimate with
    | none => { k with ledg.overRun := 0 }
    | some r =>
      let m : Int := k.met.r.rmcs.rMcs.toNat
      if m < 20 * ((r - m).natAbs : Int) then
        let n := k.ledg.overRun + 1
        let k : Chan := { k with ledg.overRun := min n 60 }
        if n = 60 ∧ !k.ledg.r.status.legalWarn then
          let k : Chan := { k with ledg.r.status.legalWarn := true }
          (k.recFlag fWarn).eventRec e 1 (k.driftNow.1.setWidth 24)
        else k
      else { k with ledg.overRun := 0 }

/-! ### Seal and unseal (R302, R303) -/

/-- A seal or unseal is being carried out (R303). -/
def Ledg.sealing (l : Ledg) : Bool := l.pend.any (fun (x : LRec) => x.sealTo.isSome)

/-- R324: the reserved payload bits of a ledger descriptor. -/
def Desc.ledgerBits (d : Desc) : Bool :=
  match d.opcode with
  | 0x0405 => d.onlyBits [0xFFFFFFFF, 0xFFFFFFFF]
  | 0x0406 => d.onlyBits [0xFFFFFF]
  | 0x0407 => d.onlyBits [7, 0xFFFFFFFF, 0x7FFF]
  | 0x0408 => d.onlyBits [0, 0xFFFFFFFF]
  | 0x0409 => d.onlyBits [7, 0xFFFFFFFF, 0xFFFFFFFF]
  | _ => true

/-- R302, R325: 0x0405. -/
def Chan.dSeal (k : Chan) (e : Env) (d : Desc) (ref : DescRef) : Chan × Option Nat :=
  let l := k.ledg
  let ver := d.pay 1
  let known := decide (ver = l.r.lcodeVer) || (match l.staged with | some im => decide (imgVersion im = ver) | none => false)
  let lc := k.key.r.lcStatus.state
  if l.sealing then ({ k with ledg.wait := l.wait ++ [d] }, none)
  else if l.r.status.sealed then (k, some 0x68)
  else if lc ≠ .verify ∧ lc ≠ .service then (k, some 0x6A)
  else if !k.key.usable false 1 then (k, some 0x6E)
  else if !known ∨ k.paramCrc ver ≠ d.pay 0 then (k, some 0x69)
  else if l.free = 0 then (k, some 0x6F)
  else
    let x := k.recNow e 2
    ({ k with ledg.pend := l.pend ++ [{ x with sealTo := some true, ref := some ref, ver := ver }] }, none)

/-- R302, R325: 0x0406. -/
def Chan.dUnseal (k : Chan) (e : Env) (d : Desc) (ref : DescRef) : Chan × Option Nat :=
  let l := k.ledg
  if l.sealing then ({ k with ledg.wait := l.wait ++ [d] }, none)
  else if !l.r.status.sealed then (k, some 0x68)
  else if k.key.r.lcStatus.state ≠ .service then (k, some 0x6A)
  else if l.opn.isSome ∨ k.loop.r.status.state ≠ .idle then (k, some 0x6B)
  else if l.free = 0 then (k, some 0x6F)
  else
    let x := k.recNow e 3
    ({ k with ledg.pend := l.pend ++ [{ x with
        sealTo := some false, ref := some ref, evtCode := 2, evtData := BitVec.ofNat 24 (d.fld 0 0 24) }] }, none)

/-! ### Export and acknowledgement (R316, R317) -/

/-- The words of a record that is held. -/
def Ledg.recordOf (l : Ledg) (seq : Nat) : List Word := (l.slots.lookup ((seq - 1) % 16384)).getD (List.replicate 64 0)

/-- R316, R325: 0x0407: the words to stream, or the code of the refusal. -/
def Chan.ledgerWords (k : Chan) (d : Desc) : Sum Nat (List Word) :=
  let first := (d.pay 1).toNat
  let n := d.fld 2 0 15
  if n = 0 ∨ 16384 < n ∨ first ≤ k.ledg.r.seqAck.toNat ∨ k.ledg.r.seqNext.toNat < first + n then .inl 0x6C
  else .inr ((List.range n).flatMap (fun i => k.ledg.recordOf (first + i)))

/-- R317: words of a record were delivered. `first`: SEQ of the transfer's first record; words `a` to `b` − 1 of it. -/
def Ledg.stream (l : Ledg) (first a b : Nat) : Ledg :=
  let one (m : List (BitVec 32 × BitVec 64)) (w : Nat) : List (BitVec 32 × BitVec 64) :=
    let q : BitVec 32 := BitVec.ofNat 32 (first + w / 64)
    let bits := (m.lookup q).getD 0 ||| (1#64 <<< (w % 64))
    (q, bits) :: m.filter (fun p => p.1 ≠ q)
  { l with streamed := ((List.range (b - a)).map (· + a)).foldl one l.streamed }

/-- R317: a record has been streamed whole. -/
def Ledg.wasStreamed (l : Ledg) (seq : Nat) : Bool :=
  decide ((l.streamed.lookup (BitVec.ofNat 32 seq)).getD 0 = BitVec.allOnes 64)

/-- R317: 0x0408. -/
def Chan.dLedgerAck (k : Chan) (e : Env) (d : Desc) : Chan × Option Nat :=
  let l := k.ledg
  let a := l.r.seqAck.toNat
  let last := (d.pay 1).toNat
  if last ≤ a ∨ l.r.seqNext.toNat ≤ last ∨ !((List.range (last - a)).all (fun i => l.wasStreamed (a + 1 + i))) then
    (k, some 0x6C)
  else
    (({ k with ledg := { l with
        r.seqAck := BitVec.ofNat 32 last
        streamed := l.streamed.filter (fun p => decide (last < p.1.toNat)) } } : Chan).ledgView e, some 0)

/-- R305, R325: the checks of a 0x0409 before its words. -/
def Chan.loadCheck (k : Chan) (d : Desc) : Option Nat :=
  let n := (d.pay 1).toNat
  let lc := k.key.r.lcStatus.state
  if k.ledg.r.status.sealed then some 0x68
  else if lc = .blank ∨ lc = .retired then some 0x6A
  else if k.ledg.opn.isSome ∨ k.loop.r.status.state ≠ .idle then some 0x6B
  else if n < 4 ∨ 983040 < n ∨ n % 4 ≠ 0 then some 0x6D
  else none

/-- R305: the words of a 0x0409 have all arrived. -/
def Chan.loadDone (k : Chan) (e : Env) (d : Desc) (ws : List Word) : Chan × Nat :=
  let ok := k.key.imageOk false 3 3 k.key.r.lcArb.arbLegal.toNat (d.pay 1).toNat ws && decide (imgVersion ws = d.pay 2)
  if k.ledg.r.status.sealed then (k, 0x68)
  else if !ok then (k, 0x6D)
  else (({ k with ledg.staged := some ws } : Chan).eventRec e 5 ((d.pay 2).setWidth 24), 0)

/-! ### Storage, power loss and boot (R319 to R322) -/

/-- R320: the legal registers and remainders are stored. -/
def Chan.legalStore (k : Chan) : Chan :=
  { k with ledg.nv := { eImp := k.met.eImp, eExp := k.met.eExp, accI := k.met.accI, accE := k.met.accE } }

/-- R320: the commit on the power-fail warning. A signing or seal in progress is abandoned: its record stays as it was
closed, and an interrupted seal or unseal leaves nothing (R322). -/
def Chan.legalCommit (k : Chan) (e : Env) : Chan :=
  let k := k.legalStore
  let d := k.driftNow
  let closed := (k.ledg.pend.filter (fun (x : LRec) => x.sealTo.isNone)).map (fun x => (x, true))
  let opn : List (LRec × Bool) := match k.ledg.opn with
    | none => []
    | some x => [({ x with
        tEnd := e.site, eIE := k.met.eImp, eEE := k.met.eExp, gap := k.met.r.gap - x.gap0, rMeas := d.2, drift := d.1
        flags := x.flags ||| fPfail }, false)]
  { k with ledg := { k.ledg with img := closed ++ opn, committed := true, r.pfail.pfailCnt := satInc k.ledg.r.pfail.pfailCnt } }

/-- R321: the boot path: records of the image are taken up again, and a lost commit restores the stored registers and
leaves an EVENT record. -/
def Chan.legalBoot (k : Chan) (e : Env) : Chan :=
  let l := k.ledg
  let again := l.img.map (fun (p : LRec × Bool) =>
    if p.2 then p.1 else { p.1 with flags := p.1.flags ||| fBoot, close := 3 })
  let k : Chan := { k with
    ledg := { l with
      pend := again, opn := none, img := [], wait := [], overRun := 0
      r := { l.r with status := { l.r.status with recErr := false, abort := false }, pfail.lastOk := l.committed } }
    met := { k.met with eImp := l.nv.eImp, eExp := l.nv.eExp, accI := l.nv.accI, accE := l.nv.accE } }
  let k := if l.committed then k else k.eventRec e 3 0
  ({ k with ledg.committed := false } : Chan).ledgView e

/-- R322: a tamper alarm: a signing in progress is aborted and its record will be written unsigned; a seal or unseal is
interrupted and completes with 0x09. -/
def Chan.legalTamper (k : Chan) : Chan :=
  let seals := k.ledg.pend.filter (fun (x : LRec) => x.sealTo.isSome)
  let rest := k.ledg.pend.filter (fun (x : LRec) => x.sealTo.isNone)
  let k : Chan := match rest with
    | [] => { k with ledg.pend := [] }
    | x :: xs =>
      let p := k.ledg.r.pfail
      { k with ledg := { k.ledg with
          pend := { x with flags := x.flags ||| fTamper ||| 8 } :: xs
          r.status.abort := true
          r.pfail := { p with abortCnt := satInc p.abortCnt } } }
  let k : Chan := seals.foldl (fun (k : Chan) (x : LRec) => match x.ref with | some ref => k.compl ref 9 | none => k) k
  k.recFlag fTamper

end Sys2Proof.Machine
end

