-- ==== Sys2Proof/Machine/Shank.lean ====
section
/-! DEFINITION. Sys2Proof/Machine/Shank.lean: the safety monitor of a channel: its demands, states, safe data on two
paths, test pulses, supervision and parameter block (R426 to R456). -/

namespace Sys2Proof.Machine

/-! ### The safety parameter block (R447) -/

/-- A field of the block in use. -/
def Shk.fld (x : Shk) (w lo n : Nat) : Nat := ((vget x.block w 0).extractLsb' lo n).toNat

/-- A bit of the block in use. -/
def Shk.bit (x : Shk) (w b : Nat) : Bool := (vget x.block w 0).getLsbD b

def Shk.sf6En (x : Shk) : Bool := x.bit 1 7
def Shk.sf3En (x : Shk) : Bool := x.bit 1 6
def Shk.siteMaster (x : Shk) : Bool := x.bit 1 5
def Shk.ringReq (x : Shk) : Bool := x.bit 1 4
def Shk.ringEn (x : Shk) : Bool := x.bit 1 3
def Shk.imdHw (x : Shk) : Bool := x.bit 1 2
def Shk.estopHw (x : Shk) : Bool := x.bit 1 1
def Shk.pos (x : Shk) : Nat := x.fld 15 0 3
def Shk.neg (x : Shk) : Nat := x.fld 15 4 3
def Shk.dis (x : Shk) : Nat := x.fld 15 8 3
def Shk.offExtra (x : Shk) : BitVec 8 := (vget x.block 14 0).extractLsb' 8 8

/-- The Eyelet of POS (false) or NEG (true). -/
def Shk.out (x : Shk) (n : Bool) : Nat := if n then x.neg else x.pos

/-- The CRC of a block (R448). -/
def blockCrc (b : Vector Word 16) : Word := crc32c b.toList

/-- R447: the bits of each word the table lists. -/
def blockMasks : List Word :=
  [0xFF00FFFF, 0xFE, 0xFFFFFFFF, 0x87FF07FF, 0x87FF07FF, 0x87FF07FF, 0x87FF07FF, 0xFFFF0000, 0xFF80FFFF, 0xFFFFFFFF,
   0xFFFFFFFF, 0xFF00FFFF, 0xFFFFFFFF, 0xFFFFFFFF, 0xFFFFFF00, 0x777]

/-- A number between two bounds. -/
def within (lo hi x : Nat) : Bool := decide (lo ≤ x) && decide (x ≤ hi)

/-- R448: every field lies within its range and the rule on OFF_EXTRA holds. The KIND of a CAN source is judged only
where the source is used (DEDUCED). -/
def Shk.inRange (x : Shk) : Bool :=
  (List.range 16).all (fun i => decide (vget x.block i 0 &&& ~~~(blockMasks.getD i 0) = 0))
  && decide (x.fld 0 24 8 = 1)
  && within 1 100 (x.fld 2 24 8) && within 1 100 (x.fld 2 16 8) && within 1 50 (x.fld 2 8 8) && within 0 50 (x.fld 2 0 8)
  && (List.range 4).all (fun i => !(x.bit (3 + i) 31) || within 1 2 (x.fld (3 + i) 24 3))
  && within 1 50 (x.fld 7 24 8) && within 1 100 (x.fld 7 16 8) && within 2 100 (x.fld 8 0 7)
  && within 100 2000 (x.fld 10 0 16) && within 1 40 (x.fld 11 24 8) && within 1 300 (x.fld 11 0 16)
  && within 1 30000 (x.fld 12 16 16) && within 20 500 (x.fld 12 0 16)
  && within 500 5800 (x.fld 13 16 16) && within 420 5000 (x.fld 13 0 16) && decide (x.fld 13 0 16 < x.fld 13 16 16)
  && within 10 3600 (x.fld 14 16 16)
  && !(mbit x.offExtra x.pos) && !(mbit x.offExtra x.neg) && !(mbit x.offExtra x.dis)

/-! ### Safe-data sources (R431 to R434) -/

/-- A source is configured: a CAN source with EN, a ring master with its EN while RING_EN is 1 (R434). -/
def Shk.srcUsed (x : Shk) (i : Nat) : Bool :=
  if i < 4 then x.bit (3 + i) 31 else x.ringEn && (if i = 4 then x.bit 8 23 else x.bit 8 7)

/-- KIND of a source: 1 ESTOP, 2 IMD, 3 SITE. -/
def Shk.srcKind (x : Shk) (i : Nat) : Nat := if i < 4 then x.fld (3 + i) 24 3 else 3

/-- SRC of a source. -/
def Shk.srcAddr (x : Shk) (i : Nat) : Nat :=
  if i < 4 then x.fld (3 + i) 16 8 else if i = 4 then x.fld 8 24 8 else x.fld 8 8 8

/-- SRC_WD or RING_WD in ns. -/
def Shk.srcWd (x : Shk) (i : Nat) : Nat := if i < 4 then msNs (10 * x.fld 7 24 8) else msNs (x.fld 8 0 7)

/-- Path A or east (false), path B or west (true), of a source. -/
def PduSrc.path (p : PduSrc) (b : Bool) : PduPath := if b then p.b else p.a

/-- A path of a source replaced. -/
def PduSrc.setPath (p : PduSrc) (b : Bool) (x : PduPath) : PduSrc := if b then { p with b := x } else { p with a := x }

/-- The newest valid copy of a path carries DEMAND or FAULT (R433). -/
def PduPath.demands (p : PduPath) : Bool :=
  match p.copies with
  | c :: _ => decide (c.w4 &&& 3 ≠ 0)
  | [] => false

/-- The newest valid copy on either path demands (R433). -/
def PduSrc.demands (p : PduSrc) : Bool := p.a.demands || p.b.demands

/-- Both paths are lost (R433). -/
def PduSrc.silent (p : PduSrc) : Bool := p.a.lost && p.b.lost

/-- Some configured source among those numbered satisfies a test. -/
def Shk.anySrc (x : Shk) (is : List Nat) (f : Nat → PduSrc → Bool) : Bool :=
  is.any (fun i => x.srcUsed i && f i (vget x.src i {}))

/-- R455: SHK_SRC_STAT. OK: neither path lost and no discrepancy (DEDUCED). -/
def Shk.srcStat (x : Shk) : BitVec 24 :=
  (List.range 6).foldl (fun (m : BitVec 24) i =>
    let p := vget x.src i {}
    if !x.srcUsed i then m
    else
      let m := msetb m (4 * i + 3) (p.demands || (decide (i < 4) && p.silent))
      let m := msetb m (4 * i + 2) p.b.lost
      let m := msetb m (4 * i + 1) p.a.lost
      msetb m (4 * i) (!p.a.lost && !p.b.lost && !p.disc)) 0

/-! ### Demand levels (R428) -/

/-- Either land of a used pair reads low, once the lands have been sampled. -/
def Shk.pairLow (x : Shk) (imd : Bool) : Bool :=
  let l := x.r.input.lands
  x.sampled && (if imd then x.imdHw && !(l.getLsbD 2 && l.getLsbD 3) else x.estopHw && !(l.getLsbD 0 && l.getLsbD 1))

/-- The sources that demand SF1 (kind 1) or SF2 (kind 2) now: hardwired, ring, CAN, CAN silence. -/
def Shk.levels (x : Shk) (kind : Nat) : BitVec 4 :=
  let k (f : PduSrc → Bool) : Bool := x.anySrc [0, 1, 2, 3] (fun i p => decide (x.srcKind i = kind) && f p)
  let m := msetb 0#4 0 (x.pairLow (kind = 2))
  let m := msetb m 1 (decide (kind = 1) && x.anySrc [4, 5] (fun _ p => p.demands))
  let m := msetb m 2 (k PduSrc.demands)
  msetb m 3 (k PduSrc.silent)

/-- LAST_SRC of the first rising source in the order hardwired, ring, CAN, CAN silence (R451, R455). -/
def lastSrcOf (m : BitVec 4) : BitVec 4 :=
  if m.getLsbD 0 then 1 else if m.getLsbD 1 then 3 else if m.getLsbD 2 then 2 else if m.getLsbD 3 then 5 else 0

/-! ### Faults (R435, R456) -/

/-- A watched source has its path lost. -/
def Shk.pathLost (x : Shk) (is : List Nat) (b : Bool) : Bool := x.anySrc is (fun _ p => (p.path b).lost)

/-- R456: the faults present. -/
def Chan.shkFaults (k : Chan) : BitVec 16 :=
  let x := k.shk
  [x.pathLost [0, 1, 2, 3] false, x.pathLost [0, 1, 2, 3] true, x.pathLost [4, 5] false, x.pathLost [4, 5] true,
   x.disc.1, x.disc.2, k.loop.sensFault, k.cool.sensorFault, x.mirror.1, x.mirror.2, x.tpFail, x.pwWd, x.clkTrip,
   x.r.status.paramBad, x.inhibTest, x.anySrc (List.range 6) (fun _ p => p.disc)].zipIdx.foldl
    (fun (m : BitVec 16) p => msetb m p.2 p.1) 0

/-- R435: the faults that move the state: single-path and single-sensor faults, the ring's only with RING_REQ (R434). -/
def Chan.shkRelevant (k : Chan) : BitVec 16 :=
  k.shkFaults &&& (if k.shk.ringReq then 0x83FF else 0x83F3)

/-! ### Mask, permit and register view (R427, R429, R435, R455) -/

/-- The POS and NEG bits. -/
def Shk.ctMask (x : Shk) : BitVec 8 := msetb (msetb 0#8 x.pos true) x.neg true

/-- The off mask in force; in REST (R659) and after PFAIL (R707) both outputs are masked. -/
def Chan.shkMask (k : Chan) : BitVec 8 :=
  let x := k.shk
  let both := k.core.meterRole || k.core.pfail || decide (k.core.pm = 3) || x.tpFail || mbit x.r.demand.latch 5 || x.inhibTest
  (if x.masked then x.ctMask ||| x.offExtra else 0) ||| (if both then x.ctMask else 0)
  ||| (if x.r.tp.active then msetb 0#8 (x.out x.tpNeg) true else 0)
  ||| (if x.tpKeep.1 then msetb 0#8 x.pos true else 0) ||| (if x.tpKeep.2 then msetb 0#8 x.neg true else 0)

/-- R435: PERMIT is 1 in READY, DEGRADED and STOP1. -/
def ShkState.permits : ShkState → Bool
  | .ready | .degraded | .stop1 => true
  | _ => false

/-- SF5's reset condition: V11 reads below 60 V (R446). -/
def Chan.v11Low (k : Chan) : Bool := decide (k.vCon < 60)

/-- SHK registers brought up to date. -/
def Chan.shkView (k : Chan) (e : Env) : Chan :=
  let x := k.shk
  let lt := x.r.demand.latch
  let act : BitVec 6 := [decide (x.lv1 ≠ 0), decide (x.lv2 ≠ 0), x.sf3, x.sf4Sig || x.sf4Com, mbit lt 4 && !k.v11Low,
    mbit lt 5 && x.tOpen.isNone].zipIdx.foldl (fun (m : BitVec 6) p => msetb m p.2 p.1) 0
  let lt := msetb (msetb lt 2 (mbit lt 2 && x.sf3)) 3 (mbit lt 3 && (x.sf4Sig || x.sf4Com))
  let f := k.shkFaults
  let st := x.r.status.state
  let left := (msNs (1000 * x.fld 11 0 16) + x.tDeg - e.now + (sNs 1 - 1)) / sNs 1
  { k with shk := { x with r := { x.r with
      status := { x.r.status with
        permit := st.permits, confOk := decide (x.r.confCrc = x.r.crc), offMask := k.shkMask
        inhibit := x.r.status.inhibit || k.core.meterRole || k.core.pfail }
      demand := { x.r.demand with active := act, latch := lt }
      fault := f
      faultSeen := x.r.faultSeen ||| f
      deg := if st = .degraded then
          { cap := BitVec.ofNat 16 (x.fld 11 24 8 * x.fld 12 16 16 / 100), left := BitVec.ofNat 9 (min 511 left) }
        else {}
      pdata := vget x.block x.r.psel.toNat 0
      srcStat := x.srcStat } } }

/-! ### Transitions (R429, R435) -/

/-- A gate trip: the modulator enters TRIPPED, the loop follows, and the capture sees the trigger (R84, R155, R283). -/
def Chan.gateTrip (k : Chan) (e : Env) (src : TripSrc) : Chan :=
  let r := k.pwm.trip src
  if r.2 then
    let k : Chan := { k with pwm := r.1, met := k.met.trigger e 0 }
    (k.jr e .pwm JEv.trip [k.pwm.r.trip.read.toNat]).loopFault e
  else { k with pwm := r.1 }

/-- Shank enters a state; the change is a safety entry of the journal and raises attention (R54, R532). -/
def Chan.shkSet (k : Chan) (e : Env) (s : ShkState) : Chan :=
  if k.shk.r.status.state = s then k
  else
    let k : Chan := { k with shk := { k.shk with r.status.state := s, tClear := none } }
    (k.jr e .shank JEv.shankState [s.code] true).send (.attention (some k.idx))

/-- R84: the gate inhibit asserted. -/
def Chan.shkInhibit (k : Chan) (e : Env) : Chan :=
  { k with shk.r.status.inhibit := true }.gateTrip e .shank

/-- R429: category 0 and entry to SAFE_STOP. -/
def Chan.shkSafe (k : Chan) (e : Env) : Chan :=
  match k.shk.r.status.state with
  | .init | .safeStop => k
  | _ =>
    let x := k.shk
    ({ k with shk := { x with
        tInh := e.now
        r.status.disReq := x.r.status.disReq || (!x.coil.1 && !x.coil.2) } }.shkInhibit e).shkSet e .safeStop

/-- R429: category 1: a loop stop is requested and STOP1_T starts. -/
def Chan.shkStop1 (k : Chan) (e : Env) : Chan :=
  ({ k with shk := { k.shk with tStop1 := e.now } }.loopStop e false).shkSet e .stop1

/-- R435: UNARMED: inhibit asserted, mask set. -/
def Chan.shkUnarmed (k : Chan) (e : Env) : Chan :=
  ({ k with shk := { k.shk with masked := true } }.shkInhibit e).shkSet e .unarmed

/-- R428: a demand arises: function f (1 to 6), its category, and for SF1 its source. It can trigger a capture (R283). -/
def Chan.shkRaise (k : Chan) (e : Env) (f : Nat) (cat1 : Bool) (src : BitVec 4 := 0) : Chan :=
  let x := k.shk
  let x : Shk := { x with
    r.demand := { x.r.demand with
      latch := msetb x.r.demand.latch (f - 1) true
      lastSrc := if f = 1 then src else x.r.demand.lastSrc }
    r.cnt := { x.r.cnt with demands := satInc x.r.cnt.demands }
    pend0 := x.pend0 || !cat1
    pend1 := x.pend1 || cat1 }
  ({ k with shk := x, met := k.met.trigger e 1 } : Chan).jr e .shank JEv.shankDemand [f, src.toNat] true

/-- R428: the levels of SF1 and SF2 are judged; a source that newly demands raises its function. A master asks for a
trip frame when its hardwired SF1 demand arises (R434). -/
def Chan.shkLevels (k : Chan) (e : Env) : Chan :=
  let x := k.shk
  let n1 := x.levels 1
  let n2 := x.levels 2
  let r1 := n1 &&& ~~~x.lv1
  let r2 := n2 &&& ~~~x.lv2
  let k : Chan := { k with shk := { x with
    lv1 := n1, lv2 := n2
    tripReq := x.tripReq || (x.siteMaster && r1.getLsbD 0) } }
  let k := if r1 ≠ 0 then k.shkRaise e 1 false (lastSrcOf r1) else k
  if r2 ≠ 0 then k.shkRaise e 2 false else k

/-- The session's demand under SF4: signalling or communication (R340, R428). -/
def Chan.shkSession (k : Chan) (e : Env) (com : Bool) : Chan :=
  if com then { k with shk.sf4Com := true }.shkRaise e 4 true
  else { k with shk.sf4Sig := true }.shkRaise e 4 false

/-- SHANK_DEMAND (R435): the waiting demands act by their category. -/
def Chan.shkDemand (k : Chan) (e : Env) : Chan :=
  let p0 := k.shk.pend0
  let p1 := k.shk.pend1
  let k : Chan := { k with shk := { k.shk with pend0 := false, pend1 := false } }
  match k.shk.r.status.state with
  | .ready | .degraded => if p0 then k.shkSafe e else if p1 then k.shkStop1 e else k
  | .blocked => if p0 ∨ p1 then k.shkSafe e else k
  | .stop1 => if p0 then k.shkSafe e else k
  | _ => k

/-- No demand is in force or waits, and no latch is set (R435); before the first sample of the lands that is not known. -/
def Shk.quiet (x : Shk) : Bool :=
  x.sampled && decide (x.lv1 = 0) && decide (x.lv2 = 0) && !x.sf3 && !x.sf4Sig && !x.sf4Com && decide (x.r.demand.latch = 0)
  && !x.pend0 && !x.pend1 && !x.tpFail && !x.inhibTest && !x.clkTrip && !x.pwWd

/-- Release to READY, or BLOCKED if a fault is present. -/
def Chan.shkRelease (k : Chan) (e : Env) : Chan :=
  let k : Chan := { k with shk := { k.shk with r.status.inhibit := k.core.meterRole, masked := false, tpKeep := (false, false) } }
  k.shkSet e (if k.shkRelevant = 0 then .ready else .blocked)

/-- The three Eyelets of VEH_EY_MAP equal word 15 (R435). -/
def Chan.mapMatches (k : Chan) : Bool :=
  let v := k.veh.r.eyMap
  decide (k.shk.pos = v.pos.toNat) && decide (k.shk.neg = v.neg.toNat) && decide (k.shk.dis = v.dis.toNat)

/-- SHANK_ARM (R435). -/
def Chan.shkArm (k : Chan) (e : Env) : Chan :=
  if k.shk.r.status.state = .unarmed ∧ k.shk.r.confCrc = k.shk.r.crc ∧ k.mapMatches ∧ !k.shk.r.status.paramBad ∧ k.shk.quiet then
    k.shkRelease e
  else k

/-- SHANK_FAULT (R435): a fault in READY; a second, different one in DEGRADED. -/
def Chan.shkFault (k : Chan) (e : Env) : Chan :=
  let f := k.shkRelevant
  match k.shk.r.status.state with
  | .ready =>
    if f = 0 then k
    else if k.loop.r.status.state = .idle then k.shkSet e .blocked
    else { k with shk := { k.shk with tDeg := e.now, degBits := f, tOver := none } }.shkSet e .degraded
  | .degraded => if f &&& ~~~k.shk.degBits ≠ 0 then k.shkSafe e else k
  | _ => k

/-- BLOCKED_CLEAR (R435): no fault for 1 s. -/
def Chan.shkBlockedClear (k : Chan) (e : Env) : Chan :=
  if k.shk.r.status.state = .blocked ∧ k.shkRelevant = 0 ∧ held e.now k.shk.tClear (sNs 1) then k.shkSet e .ready else k

/-- DEGRADED_TIMEOUT (R435). -/
def Chan.shkDegTimeout (k : Chan) (e : Env) : Chan :=
  if k.shk.r.status.state = .degraded ∧ k.shk.tDeg + sNs (k.shk.fld 11 0 16) ≤ e.now then k.shkStop1 e else k

/-- R438: I_cap in A. -/
def Shk.iCap (x : Shk) : Rat := (x.fld 11 24 8 * x.fld 12 16 16 / 100 : Nat) / 10

/-- DEGRADED_CURRENT_CHECK (R438). -/
def Chan.shkCurrent (k : Chan) (e : Env) : Chan :=
  if k.shk.r.status.state = .degraded ∧ k.shk.tDeg + msNs 500 ≤ e.now then
    let mag (i : Nat) : Rat := if k.met.valid i then rabs (k.fast i) else 0
    let hi := decide (11 / 10 * k.shk.iCap < max (mag 8) (mag 9))
    let t : Option Nat := if hi then some (k.shk.tOver.getD e.now) else none
    let k : Chan := { k with shk := { k.shk with tOver := t } }
    if held e.now t (msNs 100) then k.shkSafe e else k
  else k

/-- STOP1_TIMEOUT (R435). -/
def Chan.shkStop1Timeout (k : Chan) (e : Env) : Chan :=
  if k.shk.r.status.state = .stop1 ∧ (k.loop.r.status.state = .idle ∨ k.shk.tStop1 + msNs (k.shk.fld 10 0 16) ≤ e.now) then
    k.shkSafe e
  else k

/-- CONTACTOR_DELAY_END (R429): the mask of the safe state; DIS_REQ once POS and NEG are both off. -/
def Chan.shkDelayEnd (k : Chan) (e : Env) : Chan :=
  let x := k.shk
  if x.r.status.state = .safeStop ∧ x.tInh + msNs (x.fld 2 0 8) ≤ e.now ∧ !x.masked then
    { k with shk := { x with
        masked := true, tpKeep := (false, false)
        r.status.disReq := x.r.status.disReq || (!x.coil.1 && !x.coil.2) } }
  else k

/-- R342, R445: the weld check is done. -/
def Shk.weldDone (x : Shk) : Bool := !x.sf6En || mbit x.r.demand.latch 5 || (x.r.input.lands.getLsbD 4 && x.r.input.lands.getLsbD 5)

/-- SAFE_STOP_EXIT (R435). -/
def Chan.shkExit (k : Chan) (e : Env) : Chan :=
  let x := k.shk
  if x.r.status.state = .safeStop ∧ x.masked ∧ x.quiet ∧ x.weldDone ∧ x.tSf5.isNone ∧ x.tOffC = (none, none)
      ∧ !x.coil.1 ∧ !x.coil.2 then
    { k with shk := { x with r.status.disReq := false } }.shkRelease e
  else k

/-! ### Inputs (R430) -/

/-- The filter time of a land, ns; a mirror contact is not filtered. -/
def Shk.filt (x : Shk) (i : Nat) : Nat :=
  if i < 2 then usNs (100 * x.fld 2 24 8) else if i < 4 then usNs (100 * x.fld 2 16 8) else 0

/-- SHANK_INPUT_SAMPLE (R430): the lands in the order of SHK_INPUT.LANDS. The first sample after a Sole reset gives the
filtered levels their first value (DESIGN CHOICE: the spec does not say what a filter holds before it). -/
def Chan.shkSample (k : Chan) (e : Env) (lands : BitVec 6) : Chan :=
  let x : Shk := if k.shk.sampled then k.shk else { k.shk with sampled := true, r.input.lands := lands }
  let one (x : Shk) (i : Nat) : Shk :=
    let v := lands.getLsbD i
    if x.r.input.lands.getLsbD i = v then { x with tDiff := x.tDiff.setIfInBounds i none }
    else
      let t := (vget x.tDiff i none).getD e.now
      if t + x.filt i ≤ e.now then
        { x with tDiff := x.tDiff.setIfInBounds i none, r.input.lands := msetb x.r.input.lands i v }
      else { x with tDiff := x.tDiff.setIfInBounds i (some t) }
  let x := (List.range 6).foldl one x
  let l := x.r.input.lands
  let df (used : Bool) (a b : Nat) (t : Option Nat) : Option Nat :=
    if used && (l.getLsbD a != l.getLsbD b) then some (t.getD e.now) else none
  let opn := l.getLsbD 4 && l.getLsbD 5
  let x : Shk := { x with
    tPair := (df x.estopHw 0 1 x.tPair.1, df x.imdHw 2 3 x.tPair.2)
    tOpen := if opn then some (x.tOpen.getD e.now) else none }
  ({ k with shk := x } : Chan).shkLevels e

/-- PAIR_DISCREPANCY (R430). -/
def Chan.shkPair (k : Chan) (e : Env) (imd : Bool) : Chan :=
  let x := k.shk
  if held e.now (if imd then x.tPair.2 else x.tPair.1) (msNs (10 * x.fld 2 8 8)) then
    let k : Chan := { k with shk.disc := if imd then (x.disc.1, true) else (true, x.disc.2) }
    k.jr e .shank JEv.shankDisc [b2n imd] true
  else k

/-- SF4_COMPARATOR (R430): CE and ID in mV, compared while POS or NEG is on. -/
def Chan.shkSf4 (k : Chan) (e : Env) (ceMv idMv : Nat) : Chan :=
  let x := k.shk
  if !(x.coil.1 || x.coil.2) then { k with shk.sf4Run := 0 }
  else
    let ceOk := decide (100 * x.fld 10 24 8 ≤ ceMv)
    let idOk := decide (idMv < 100 * x.fld 10 16 8)
    let n := if ceOk && idOk then 0 else x.sf4Run + 1
    let k : Chan := { k with shk := { x with
      sf4Run := min n 3
      r.input := { x.r.input with ceOk := ceOk, idOk := idOk } } }
    if n = 3 then k.shkSession e false else k

/-- SF3 (R428): judged at each conversion of R365. A temperature with no valid reading takes no part, as in R367, and one
reading at least must show the fall that releases it (DESIGN CHOICE). -/
def Chan.shkSf3 (k : Chan) (e : Env) : Chan :=
  let x := k.shk
  let tp : Int := ((vget x.block 9 0).extractLsb' 16 16).toInt
  let tc : Int := ((vget x.block 9 0).extractLsb' 0 16).toInt
  let ge (t : Option Int) (l : Int) : Bool := match t with | some v => decide (l ≤ v) | none => false
  let lt (t : Option Int) (l : Int) : Bool := match t with | some v => decide (v < l - 50) | none => true
  if !x.sf3En then { k with shk := { x with sf3Run := 0, sf3 := false } }
  else
    let hi := ge k.cool.tPin tp || ge k.cool.tOut tc
    let n := if hi then min (x.sf3Run + 1) 2 else 0
    let k : Chan := { k with shk.sf3Run := n }
    if !x.sf3 ∧ n = 2 then { k with shk.sf3 := true }.shkRaise e 3 true
    else if x.sf3 ∧ lt k.cool.tPin tp ∧ lt k.cool.tOut tc ∧ (k.cool.tPin.isSome ∨ k.cool.tOut.isSome) then { k with shk.sf3 := false }
    else k

/-! ### Safe PDUs (R431 to R434) -/

/-- The source a PDU matches on a path (0, 1: CAN A, B; 2, 3: ring east, west) (R432). -/
def Shk.srcOf (x : Shk) (path : Nat) (w0 : Word) : Option Nat :=
  let kind := (w0.extractLsb' 16 8).toNat
  let src := (w0.extractLsb' 8 8).toNat
  (if path < 2 then [0, 1, 2, 3] else [4, 5]).find? (fun i =>
    x.srcUsed i && decide (x.srcKind i = kind) && decide (x.srcAddr i = src))

/-- R432: version, CRC and complement of a PDU. -/
def Shk.pduOk (x : Shk) (w0 w1 w2 w3 : Word) : Bool :=
  decide (w0.extractLsb' 24 8 = 1) && decide (w2 = ~~~w1)
  && decide (crc32c [BitVec.ofNat 32 (x.fld 0 0 16), w0, w1, w2] = w3)

/-- R433: SEQ of a path's newest copy. -/
def PduPath.seq (p : PduPath) : Option (BitVec 8) := p.copies.head?.map (·.seq)

/-- R433: the other path trails this one: a copy here newer than its newest SEQ is older than SD_WIN. -/
def PduPath.leads (p o : PduPath) (now win : Nat) : Bool :=
  match o.seq with
  | none => false
  | some n => p.copies.any (fun (c : PduCopy) => laterBv c.seq n && decide (c.t + win < now))

/-- R433: a new copy on a path of a source, and its discrepancy judged anew against the other path. -/
def PduSrc.take (p : PduSrc) (now wd win : Nat) (b : Bool) (c : PduCopy) : PduSrc :=
  let x := p.path b
  let o := p.path (!b)
  let same := o.copies.find? (fun (d : PduCopy) => decide (d.seq = c.seq))
  let late := (!o.lost && x.leads o now win) || (!o.lost && o.leads x now win)
  let disc := match same with
    | some d => decide (d.w4 ≠ c.w4) || decide (d.t + win < c.t) || late
    | none => p.disc || late
  let ok : Option Nat := if x.lost then (match x.okSince with
    | some t => if now - x.tLast ≤ wd then some t else some now
    | none => some now) else none
  { p.setPath b { x with copies := (c :: x.copies).take 128, tLast := now, okSince := ok } with disc := disc }

/-- SAFE_PDU (R432, R433). -/
def Chan.shkPdu (k : Chan) (e : Env) (path : Nat) (w0 w1 w2 w3 : Word) : Chan :=
  let x := k.shk
  match x.srcOf path w0, x.pduOk w0 w1 w2 w3 with
  | some i, true =>
    let b := decide (path % 2 = 1)
    let s := vget x.src i {}
    let q := w0.extractLsb' 0 8
    if (s.path b).seq = some q then k
    else
      let s' := s.take e.now (x.srcWd i) (msNs (x.fld 7 16 8)) b { seq := q, w4 := w1, t := e.now }
      ({ k with shk.src := x.src.setIfInBounds i s' } : Chan).shkLevels e
  | _, _ => { k with shk.r.cnt := { x.r.cnt with crcErr := satInc x.r.cnt.crcErr } }

/-- SAFE_PATH_LOST (R433). -/
def Chan.shkPathLost (k : Chan) (e : Env) (i : Nat) (b : Bool) : Chan :=
  let x := k.shk
  let s := vget x.src i {}
  let p := s.path b
  if x.srcUsed i ∧ !p.lost ∧ p.tLast + x.srcWd i ≤ e.now then
    let k : Chan := { k with shk.src := x.src.setIfInBounds i (s.setPath b { p with lost := true, okSince := none }) }
    (k.jr e .shank JEv.shankPath [i, b2n b, 1] true).shkLevels e
  else k

/-- SAFE_PATH_RESTORED (R433): 1 s of valid copies. -/
def Chan.shkPathBack (k : Chan) (e : Env) (i : Nat) (b : Bool) : Chan :=
  let x := k.shk
  let s := vget x.src i {}
  let p := s.path b
  if p.lost ∧ held e.now p.okSince (sNs 1) ∧ e.now - p.tLast ≤ x.srcWd i then
    let k : Chan := { k with shk.src := x.src.setIfInBounds i (s.setPath b { p with lost := false, okSince := none }) }
    (k.jr e .shank JEv.shankPath [i, b2n b, 0] true).shkLevels e
  else k

/-- R431, R434: the SITE PDU of a master. -/
def Shk.sitePdu (x : Shk) (gcid : Nat) : List Word :=
  let w0 := (1#32 <<< 24) ||| (3#32 <<< 16) ||| (BitVec.ofNat 32 (gcid % 256) <<< 8) ||| x.siteSeq.setWidth 32
  let w1 : Word := if x.lv1.getLsbD 0 then 1 else 0
  [w0, w1, ~~~w1, crc32c [BitVec.ofNat 32 (x.fld 0 0 16), w0, w1, ~~~w1]]

/-- SITE_PDU_SEND (R434): a master sends its PDU, which leaves on both rings (R478); without a hub or a NID there is no ring to send on. -/
def Chan.shkSite (k : Chan) (gcid : Option Nat) : Chan :=
  match gcid, k.shk.siteMaster with
  | some g, true =>
    { k with shk.siteSeq := k.shk.siteSeq + 1 }.send (.frame .safe none (k.shk.sitePdu g))
  | _, _ => k

/-- A TC0 trip frame reaches Shank (R434). -/
def Chan.shkTc0 (k : Chan) (e : Env) : Chan :=
  if k.shk.ringEn then k.shkRaise e 1 false 4 else k.jr e .shank JEv.shankTc0 [] true

/-! ### Gate-path test (R436) -/

/-- R436: the test at the end of ONDLY; it fails while the Eyelet status cannot echo the test bit. The flag says that
the start goes on. -/
def Chan.shkGateTest (k : Chan) (e : Env) : Chan × Bool :=
  if k.eyLink then (k, true)
  else (({ k with shk.inhibTest := true } : Chan).shkSafe e, false)

/-! ### Test pulses (R439 to R441) -/

/-- The Sole's view of an output: conducting state. -/
def Chan.coilOn (k : Chan) (i : Nat) : Bool :=
  match (vget k.ey.r.ostat i {}).state with
  | .inrush | .on => true
  | _ => false

/-- A test may start (R439). -/
def Chan.tpMay (k : Chan) : Bool :=
  let x := k.shk
  (match x.r.status.state with | .ready | .blocked | .degraded => true | _ => false)
  && !x.r.tp.active && !x.tpBack && decide ((vget k.ey.r.ostat (x.out x.r.tp.next) {}).state ≠ .inrush)

/-- TEST_PULSE (R439): the pulse due starts on the output NEXT names. -/
def Chan.tpStart (k : Chan) (e : Env) : Chan :=
  let x := k.shk
  if k.tpMay ∧ x.tpDue ≤ e.now then
    { k with shk := { x with
        tpDue := e.now + sNs (x.fld 14 16 16), tpT := e.now, tpNeg := x.r.tp.next
        tpOn := k.coilOn (x.out x.r.tp.next), tpSeen := false
        r.tp := { x.r.tp with active := true, next := !x.r.tp.next } } }
  else k

/-- R439: what an Eyelet status tells a running test. -/
def Chan.tpStatus (k : Chan) (e : Env) : Chan :=
  let x := k.shk
  let i := x.out x.tpNeg
  if x.r.tp.active ∧ e.now ≤ x.tpT + usNs 300 then
    let seen := if x.tpOn then !(k.coilOn i) else mbit k.ey.r.status.shkMask i
    { k with shk.tpSeen := x.tpSeen || seen }
  else k

/-- A timer of POS or NEG set. -/
def setSide {α : Type} (p : α × α) (n : Bool) (v : α) : α × α := if n then (p.1, v) else (v, p.2)

/-- TEST_PULSE_END (R439 to R441). -/
def Chan.tpEnd (k : Chan) (e : Env) : Chan :=
  let x := k.shk
  if x.r.tp.active ∧ x.tpT + usNs 340 ≤ e.now then
    let i := x.out x.tpNeg
    let stopped := decide (x.r.status.state = .safeStop)
    let off := x.tpOn && decide (k.eyMode i = 0)
    if stopped ∨ off then
      { k with shk := { x with
          tpKeep := if stopped ∧ !x.masked then setSide x.tpKeep x.tpNeg true else x.tpKeep
          coil := if x.tpOn then setSide x.coil x.tpNeg false else x.coil
          tOffC := if x.tpOn ∧ x.sf6En then setSide x.tOffC x.tpNeg (some x.tpT) else x.tOffC
          r.tp := { x.r.tp with active := false, last := .preempted, preempt := satInc x.r.tp.preempt } } }
    else if x.tpSeen then
      { k with shk := { x with
          tpBack := x.tpOn
          r.tp := { x.r.tp with active := false, last := .passed, pass := satInc x.r.tp.pass } } }
    else
      let k : Chan := { k with shk := { x with
        tpFail := true
        r.tp := { x.r.tp with active := false, last := .failed } } }
      if k.loop.r.status.state ≠ .idle ∧ k.loop.r.status.state ≠ .fault then k.shkStop1 e else k.shkSafe e
  else k

/-! ### Clock, carrier, weld, discharge (R442 to R446) -/

/-- CLOCK_MONITOR_TRIP (R442): the deviation of the reference in two consecutive windows, ‰; absent: −1000. -/
def Chan.shkClock (k : Chan) (e : Env) (d1 d2 : Int) : Chan :=
  let out (d : Int) : Bool := decide (120 < d.natAbs)
  if out d1 && out d2 then
    ({ k with shk := { k.shk with onRc := true, clkTrip := true, refOk := none } } : Chan).shkSafe e
  else if out d1 || out d2 then { k with shk.refOk := none }
  else { k with shk.refOk := some (k.shk.refOk.getD e.now) }

/-- R443: the lowest-numbered active phase that is not in a fade. -/
def Chan.pwWatched (k : Chan) : Option Nat := (vIdx k.pwm.ph (fun _ (x : PhaseSt) => x.isOn && !x.fading)).head?

/-- PWM_PERIOD_WATCHDOG_TRIP (R443): an interval in 10 ns, measured to 40 ns, or no marker within 2 × PER_MAX. -/
def Chan.shkPw (k : Chan) (e : Env) (iv : Nat) (marker : Bool) : Chan :=
  if k.pwm.r.status.state ≠ .run then { k with shk := { k.shk with pwPh := none, pwBad := 0 } }
  else
    let ph := k.pwWatched
    if marker ∧ (k.shk.pwPh ≠ ph ∨ ph.isNone) then { k with shk := { k.shk with pwPh := ph, pwBad := 0 } }
    else
      let iv4 := iv / 4 * 4
      let n := if marker then (if within (k.shk.fld 13 0 16) (k.shk.fld 13 16 16) iv4 then 0 else k.shk.pwBad + 1) else 2
      let k : Chan := { k with shk := { k.shk with
        pwBad := min n 2
        r.pw := if marker then BitVec.ofNat 16 (min 0xFFFF iv4) else k.shk.r.pw } }
      if 2 ≤ n then ({ k with shk.pwWd := true } : Chan).shkSafe e else k

/-- WELD_CHECK (R445): WELD_T after the coil of POS or NEG went off, or on. -/
def Chan.shkWeld (k : Chan) (e : Env) (n : Bool) : Chan :=
  let x := k.shk
  let side {α : Type} (p : α × α) : α := if n then p.2 else p.1
  let opn := x.r.input.lands.getLsbD (if n then 5 else 4)
  let wt := msNs (x.fld 12 0 16)
  if !x.sf6En then k
  else if held e.now (side x.tOffC) wt then
    let k : Chan := { k with shk.tOffC := setSide x.tOffC n none }
    if opn then k else k.shkRaise e 6 false
  else if held e.now (side x.tOnC) wt then
    let k : Chan := { k with shk := { x with tOnC := setSide x.tOnC n none, mirror := if opn then setSide x.mirror n true else x.mirror } }
    if opn then k.jr e .shank JEv.shankMirror [b2n n] true else k
  else k

/-- DISCHARGE_CHECK (R446): 1 s after POS and NEG turned off. -/
def Chan.shkDischarge (k : Chan) (e : Env) : Chan :=
  let x := k.shk
  if held e.now x.tSf5 (sNs 1) then
    let k : Chan := { k with shk := { x with tSf5 := none, sf5Flt := false } }
    if x.sf5Flt ∨ !k.v11Low then k.shkRaise e 5 false
    else if x.r.status.state = .safeStop then k
    else { k with shk.r.status.disReq := false }
  else k

/-- R445, R446: the coils as the Sole sees them: timers started at their changes. An output under test that was on
counts as on until its test has ended and it has returned. -/
def Chan.shkCoils (k : Chan) (e : Env) : Chan :=
  let x := k.shk
  let now1 (n : Bool) : Bool :=
    let i := x.out n
    let on := k.coilOn i
    if decide (x.tpNeg = n) && ((x.r.tp.active && x.tpOn) || (x.tpBack && decide (k.eyMode i ≠ 0) && !(mbit x.r.status.offMask i)
        && decide ((vget k.ey.r.ostat i {}).state = .off))) then true
    else on
  let c := (now1 false, now1 true)
  let off (o n : Bool) (t : Option Nat) : Option Nat := if o && !n then some e.now else if n then none else t
  let onT (o n : Bool) (t : Option Nat) : Option Nat := if !o && n then some e.now else if n then t else none
  let opn (i : Nat) : Bool := x.r.input.lands.getLsbD i
  let x1 : Shk := { x with
    coil := c
    tpBack := x.tpBack && !(k.coilOn (x.out x.tpNeg)) && (if x.tpNeg then c.2 else c.1)
    tOffC := if x.sf6En then
        ((if opn 4 then none else off x.coil.1 c.1 x.tOffC.1), (if opn 5 then none else off x.coil.2 c.2 x.tOffC.2))
      else (none, none)
    tOnC := if x.sf6En then (onT x.coil.1 c.1 x.tOnC.1, onT x.coil.2 c.2 x.tOnC.2) else (none, none)
    mirror := (x.mirror.1 && c.1 && opn 4, x.mirror.2 && c.2 && opn 5) }
  let x1 : Shk := if (x.coil.1 || x.coil.2) && !c.1 && !c.2 then
      { x1 with tSf5 := some e.now, sf5Flt := (k.met.stream 11).flt, r.status.disReq := true }
    else if x1.tSf5.isSome then { x1 with sf5Flt := x1.sf5Flt || (k.met.stream 11).flt }
    else x1
  { k with shk := x1 }

/-- What follows at once from the state of the other blocks: automatic resets, the clearing stamp, DEGRADED left when the
loop is IDLE, and the registers (R428, R435). -/
def Chan.shkSettle (k : Chan) (e : Env) : Chan :=
  let k := k.shkCoils e
  let x := k.shk
  let k : Chan := { k with shk := { x with
    sf4Sig := x.sf4Sig && decide (k.veh.r.status.id ≠ .none)
    sf4Com := x.sf4Com && decide (k.loop.r.status.state ≠ .idle)
    tClear := if k.shkRelevant = 0 then some (x.tClear.getD e.now) else none
    pwPh := if k.pwm.r.status.state = .run then x.pwPh else none } }
  let k := if k.shk.r.status.state = .degraded ∧ k.loop.r.status.state = .idle then
      k.shkSet e (if k.shkRelevant = 0 then .ready else .blocked)
    else k
  k.shkView e

/-! ### The block and its descriptors (R447, R448, R452 to R454) -/

/-- PARAM_BLOCK_CHECK (R447): the block in use, a word of it changed by an upset, against its stored CRC. -/
def Chan.shkBlockCheck (k : Chan) (e : Env) (word : Nat) (flip : Word) : Chan :=
  let b := vMod k.shk.block word (fun (w : Word) => w ^^^ flip)
  let k : Chan := { k with shk := { k.shk with block := b, r.crc := blockCrc b } }
  if blockCrc b = k.shk.storedCrc ∧ k.shk.storedOk then k
  else if k.shk.r.status.state = .init then { k with shk.r.status.paramBad := true }
  else { k with shk.r.status.paramBad := true }.shkUnarmed e

/-- 0x0601 (R447, R453, R454). -/
def Chan.dShkParam (k : Chan) (e : Env) (d : Desc) : Chan × Option Nat :=
  let word := d.fld 0 0 4
  let n := d.fld 0 16 4
  let lc := k.key.r.lcStatus.state
  if lc ≠ .verify ∧ lc ≠ .service then (k, some 0x90)
  else if k.loop.r.status.state ≠ .idle then (k, some 0x91)
  else if n = 0 ∨ 6 < n ∨ 16 < word + n then (k, some 0x92)
  else
    let b := (List.range n).foldl (fun (b : Vector Word 16) j => b.setIfInBounds (word + j) (d.pay (1 + j))) k.shk.block
    let k : Chan := { k with shk := { k.shk with
      block := b, stored := b, storedCrc := blockCrc b, storedOk := true
      r.crc := blockCrc b, r.confCrc := 0, r.status.paramBad := false } }
    (if k.shk.r.status.state = .init then k else k.shkUnarmed e, some 0)

/-- 0x0602 (R448, R454). -/
def Chan.dShkConfirm (k : Chan) (d : Desc) : Chan × Option Nat :=
  if d.pay 0 ≠ k.shk.r.crc then (k, some 0x93)
  else if !k.shk.inRange then (k, some 0x92)
  else ({ k with shk.r.confCrc := d.pay 0 }, some 0)

/-- The reset condition of latch bit b of 0x0603 (R428, R429, R430, R442, R445, R446): judged where the latch is set or
its demand is present. -/
def Chan.shkResetOk (k : Chan) (e : Env) (b : Nat) : Bool :=
  let x := k.shk
  let l := x.r.input.lands
  match b with
  | 0 => decide (x.lv1 = 0)
  | 1 => decide (x.lv2 = 0)
  | 2 => !x.sf3
  | 3 => !x.sf4Sig && !x.sf4Com
  | 4 => !(mbit x.r.demand.latch 4) || k.v11Low
  | 5 => !(mbit x.r.demand.latch 5) || held e.now x.tOpen (sNs 1)
  | 10 => !x.clkTrip || held e.now x.refOk (sNs 1)
  | 11 => (!x.disc.1 || (l.getLsbD 0 && l.getLsbD 1)) && (!x.disc.2 || (l.getLsbD 2 && l.getLsbD 3))
  | _ => true

/-- 0x0603 (R453). -/
def Chan.dShkReset (k : Chan) (e : Env) (d : Desc) : Chan × Option Nat :=
  let named (b : Nat) : Bool := d.bit 0 b
  if (List.range 12).any (fun b => named b && !(k.shkResetOk e b)) then (k, some 0x94)
  else
    let x := k.shk
    let sf : BitVec 6 := (d.pay 0).extractLsb' 0 6
    ({ k with shk := { x with
        r.demand := { x.r.demand with latch := x.r.demand.latch &&& ~~~sf }
        tpFail := x.tpFail && !named 8
        inhibTest := x.inhibTest && !named 8
        pwWd := x.pwWd && !named 9
        pwBad := if named 9 then 0 else x.pwBad
        clkTrip := x.clkTrip && !named 10
        onRc := x.onRc && !named 10
        disc := if named 11 then (false, false) else x.disc } }, some 0)

/-- 0x0604 (R439, R454). -/
def Chan.dShkTest (k : Chan) (e : Env) (_d : Desc) : Chan × Option Nat :=
  let st := k.shk.r.status.state
  if k.shk.r.tp.active ∨ (st ≠ .ready ∧ st ≠ .degraded) then (k, some 0x95)
  else (({ k with shk.tpDue := e.now } : Chan).tpStart e, some 0)

/-- R435, R447: a Sole reset has ended and the block is loaded: UNARMED. -/
def Chan.shkBoot (k : Chan) (e : Env) : Chan :=
  let x := k.shk
  let b := if x.storedOk then x.stored else Vector.replicate 16 0
  let p : PduPath := { tLast := e.now }
  { k with shk := { ({} : Shk) with
      block := b, stored := x.stored, storedCrc := x.storedCrc, storedOk := x.storedOk
      src := Vector.replicate 6 { a := p, b := p }
      tpDue := e.now + sNs (((vget b 14 0).extractLsb' 16 16).toNat)
      r := { ({} : ShkRegs) with
        crc := blockCrc b, confCrc := x.r.confCrc
        status := { ({} : ShkStatus) with state := .unarmed, inhibit := true, paramBad := !x.storedOk } } } }.shkView e

end Sys2Proof.Machine
end

