-- ==== Sys2Proof/Machine/Can.lean ====
section
/-! DEFINITION. Sys2Proof/Machine/Can.lean: the two CAN FD controllers of a channel (R609 to R633). -/

namespace Sys2Proof.Machine

/-! ### Message memory (R616 to R619) -/

/-- R633: the filter table holds its reset value 0 after a Sole reset; the rest of message memory has no content. -/
def canDflt (a : Nat) : Option Byte := if 0x1400 ≤ a ∧ a < 0x1800 then some 0 else none

/-- The type of a buffer: 1 receive, 2 transmit, 0 disabled; 3 is taken as disabled (R633). -/
def CanBus.btype (c : CanBus) (k : Nat) : Nat :=
  let t := ((vget c.r.buftype (k / 16) 0).extractLsb' (2 * (k % 16)) 2).toNat
  if t = 3 then 0 else t

/-- A bit of a register pair: buffer k. -/
def pairBit (v : Vector Word 2) (k : Nat) : Bool := (vget v (k / 32) 0).getLsbD (k % 32)

/-- A bit of a register pair set to a value. -/
def pairSet (v : Vector Word 2) (k : Nat) (b : Bool) : Vector Word 2 := vMod v (k / 32) (fun (w : Word) => msetb w (k % 32) b)

/-- The address of buffer k and of FIFO element e (R616). -/
def bufAddr (k : Nat) : Nat := 0x50 * k
def fifoAddr (e : Nat) : Nat := 0x1800 + 0x50 * e

/-- A word of message memory; none: undefined. -/
def CanBus.word (c : CanBus) (a : Nat) : Option Word := memGetW canDflt c.mem a

/-- Words written into message memory. -/
def CanBus.put (c : CanBus) (a : Nat) (ws : List Word) : CanBus := { c with mem := memSetWs canDflt c.mem a ws }

/-- An element is locked to a port (R619). -/
def CanBus.locked (c : CanBus) (a : Nat) : Bool := decide (c.lockH = some a) || decide (c.lockC = some a)

/-- Data bytes a DLC stands for; 0 for a remote frame (R617, R619). -/
def dlcBytes (w0 w1 : Word) : Nat :=
  let d := (w1.extractLsb' 16 4).toNat
  if w1.getLsbD 31 then
    (match d with | 9 => 12 | 10 => 16 | 11 => 20 | 12 => 24 | 13 => 32 | 14 => 48 | 15 => 64 | _ => min d 8)
  else if w0.getLsbD 30 then 0 else min d 8

/-! ### Register view and states (R611, R629) -/

/-- REC shown, TEC saturated, EW, and the FIFO status. -/
def CanBus.view (c : CanBus) : CanBus :=
  let f := c.r.rxfStatus.fill
  { c with r := { c.r with
      err.tec := BitVec.ofNat 8 (min 255 c.tec)
      status.ew := decide (96 ≤ c.tec) || decide (96 ≤ c.r.err.recF.toNat)
      rxfStatus.full := decide (f = 128) } }

/-- The states in which the controller takes part in traffic. -/
def CanBus.onBus (c : CanBus) : Bool := c.r.status.state = .active || c.r.status.state = .passive

/-- R611: PASSIVE, BUS_OFF and back as the counters say; EW, EP and BO events. -/
def CanBus.judge (c : CanBus) (now : Nat) : CanBus :=
  let old := c.r.status
  let c := c.view
  let hi := decide (128 ≤ c.tec) || decide (128 ≤ c.r.err.recF.toNat)
  let c : CanBus := if c.r.status.ew && !old.ew then { c with r.evt.ew := true } else c
  if c.onBus && decide (255 < c.tec) then
    { c with
      r.status.state := .busOff
      r.evt.bo := true
      cur := none, canc := false, tBo := now }
  else if c.r.status.state = .active ∧ hi then { c with r.status.state := .passive, r.evt.ep := true }
  else if c.r.status.state = .passive ∧ !hi then { c with r.status.state := .active }
  else c

/-- R611: INIT is entered: requests withdrawn without CXL. -/
def CanBus.toInit (c : CanBus) : CanBus :=
  { c with
    cur := none, canc := false, initReq := false
    r.ctrl.init := true
    r.status.state := .init
    r.txpend := Vector.replicate 2 0 }

/-- The end of a frame: an INIT written meanwhile takes effect (R611). -/
def CanBus.frameEnd (c : CanBus) : CanBus := if c.initReq then c.toInit else c

/-! ### Configuration (R612, R613, R615) -/

/-- Cycles of a nominal bit and of a data bit (R613). -/
def CanBus.nBit (c : CanBus) : Nat := c.r.nbt.nPresc.toNat * (1 + c.r.nbt.nBefore.toNat + c.r.nbt.nAfter.toNat)
def CanBus.dBit (c : CanBus) : Nat := c.r.dbt.dPresc.toNat * (1 + c.r.dbt.dBefore.toNat + c.r.dbt.dAfter.toNat)

/-- R615: the offset of the secondary sample point, quarter cycles. -/
def CanBus.sspOfs (c : CanBus) : Nat := 4 * c.dBit * max 50 (min 95 c.r.ssp.sspPct.toNat) / 100

/-- R620: word 0 or 1 of filter entry f. -/
def CanBus.filt (c : CanBus) (f i : Nat) : Word := (c.word (0x1400 + 8 * f + 4 * i)).getD 0

/-- KIND of a filter entry; 3 is taken as off. -/
def CanBus.filtKind (c : CanBus) (f : Nat) : Nat := let k := ((c.filt f 0).extractLsb' 30 2).toNat; if k = 3 then 0 else k

/-- DEST of a filter entry. -/
def CanBus.filtDest (c : CanBus) (f : Nat) : Nat := ((c.filt f 1).extractLsb' 30 2).toNat

/-- R613: the check made when INIT is left. -/
def CanBus.check (c : CanBus) : Bool :=
  let n := c.r.nbt
  let d := c.r.dbt
  let s := c.r.ssp
  decide (1 ≤ n.nPresc.toNat) && decide (2 ≤ n.nBefore.toNat) && decide (1 ≤ n.nAfter.toNat) && decide (1 ≤ n.nSjw.toNat)
  && decide (1 ≤ d.dPresc.toNat) && decide (1 ≤ d.dBefore.toNat) && decide (1 ≤ d.dAfter.toNat) && decide (1 ≤ d.dSjw.toNat)
  && decide (80 ≤ c.nBit) && decide (10 ≤ c.dBit) && decide (c.dBit ≤ c.nBit)
  && decide (n.nSjw.toNat ≤ n.nAfter.toNat) && decide (d.dSjw.toNat ≤ d.dAfter.toNat)
  && (!c.r.ctrl.triple || decide (3 ≤ n.nBefore.toNat))
  && (!s.sspEn || (decide (s.dlyMin.toNat ≤ s.dlyMax.toNat) && decide (4 * s.dlyMax.toNat + c.sspOfs ≤ 4 * 127)))
  && decide (c.r.rxcfg.nflt.toNat ≤ 128)
  && (List.range (min 64 c.r.rxcfg.nflt.toNat)).all (fun f =>
        decide (c.filtKind f = 0) || decide (c.filtDest f < 2) || decide (c.btype f = 1))

/-- R611, R612: a write of CAN_CTRL. -/
def CanBus.ctrlWrite (c : CanBus) (w : Word) : CanBus :=
  let o := c.r.ctrl
  let n := o.write w
  let rd : BitVec 10 := if 1000 < n.recDly.toNat then 1000 else n.recDly
  let inI := decide (c.r.status.state = .init)
  let cfg := decide (n.mode = o.mode) && (n.triple == o.triple) && (n.dar == o.dar)
  let ctrl : CanCtrl := if inI then { n with recDly := rd }
    else { n with recDly := rd, mode := o.mode, triple := o.triple, dar := o.dar }
  let c : CanBus := { c with r.ctrl := ctrl, r.evt.wrIgn := c.r.evt.wrIgn || (!inI && !cfg) }
  if inI then
    if n.init then c
    else if c.check then
      { c with
        r.status.state := .integrating
        r.status.cfgErr := false
        r.ssp.loopdly := BitVec.ofNat 9 (4 * c.r.ssp.dlyMin.toNat) }
    else { c with r.ctrl.init := true, r.status.cfgErr := true }
  else if n.init then (if c.cur.isSome then { c with initReq := true } else c.toInit)
  else { c with initReq := false }

/-- R612: a write of a register that takes effect only in INIT. -/
def CanBus.cfgWrite (c : CanBus) (f : CanRegs → CanRegs) : CanBus :=
  if c.r.status.state = .init then { c with r := f c.r } else { c with r.evt.wrIgn := true }

/-- R611: 11 consecutive recessive bits. -/
def CanBus.integrated (c : CanBus) (now : Nat) : CanBus :=
  if c.r.status.state = .integrating then { c with r.status.state := .active }.judge now else c

/-! ### Storage of received frames (R619, R622, R623) -/

/-- A frame written at a buffer (some) or at PUT of the FIFO (none). -/
def CanBus.storeAt (c : CanBus) (dst : Option Nat) (ws : List Word) : CanBus :=
  match dst with
  | some b =>
    let ovr := pairBit c.r.newB b
    { (c.put (bufAddr b) ws) with r.newB := pairSet c.r.newB b true, r.evt.rxOvr := c.r.evt.rxOvr || ovr }
  | none =>
    let s := c.r.rxfStatus
    let full := decide (s.fill = 128)
    let c := c.put (fifoAddr s.put.toNat) ws
    { c with r.rxfStatus := if full then { s with put := s.put + 1, get := s.get + 1 } else { s with put := s.put + 1, fill := s.fill + 1 } }.view

/-- The element a frame is bound for. -/
def CanBus.target (c : CanBus) (dst : Option Nat) : Nat :=
  match dst with
  | some b => bufAddr b
  | none => fifoAddr c.r.rxfStatus.put.toNat

/-- R619, R623: a frame bound for a buffer or the FIFO: stored, held while its element is locked, or lost. -/
def CanBus.store (c : CanBus) (dst : Option Nat) (ws : List Word) : CanBus :=
  let full := dst.isNone && decide (c.r.rxfStatus.fill = 128)
  let c : CanBus := if full then { c with r.evt.rxfLost := true } else c
  if full ∧ !c.r.rxcfg.fifoOvw then c
  else if c.locked (c.target dst) then
    (if c.hold.isSome then { c with r.evt.holdLost := true } else { c with hold := some (dst, ws) })
  else c.storeAt dst ws

/-- CAN_HOLD_WRITE (R619): the held frame is written once its element is free. -/
def CanBus.holdWrite (c : CanBus) : CanBus :=
  match c.hold with
  | some (dst, ws) => if c.locked (c.target dst) then c else { c with hold := none }.storeAt dst ws
  | none => c

/-- R620: the identifier bits that an entry judges. -/
def idBits (xtd : Bool) (w : Word) : Nat := if xtd then (w.extractLsb' 0 29).toNat else (w.extractLsb' 18 11).toNat

/-- R620: entry f matches a frame's word 0. -/
def CanBus.matches (c : CanBus) (f : Nat) (w0 : Word) : Bool :=
  let a := c.filt f 0
  let b := c.filt f 1
  let x := w0.getLsbD 31
  decide (a.getLsbD 29 = x) &&
  (match c.filtKind f with
   | 1 => decide (Nat.land (Nat.xor (idBits x w0) (idBits x a)) (idBits x b) = 0)
   | 2 => decide (idBits x a ≤ idBits x w0) && decide (idBits x w0 ≤ idBits x b)
   | _ => false)

/-- R617: words 0 to 3 and the data words of a received element. -/
def elemWords (fr : CanFrame) (fidx : Nat) (nmf : Bool) (ts : Nat) : List Word :=
  let x := fr.w0.getLsbD 31
  let w0 := fr.w0 &&& (if x then 0xDFFFFFFF else 0x5FFC0000)
  let w1 := (fr.w1 &&& 0xE00F0000) ||| (BitVec.ofNat 32 (fidx % 128) <<< 8) ||| (if nmf then 0x80 else 0)
  let n := dlcBytes fr.w0 fr.w1
  let keep (i : Nat) : Word := if 4 * i + 4 ≤ n then 0xFFFFFFFF else if n ≤ 4 * i then 0 else BitVec.ofNat 32 (2 ^ (8 * (n - 4 * i)) - 1)
  let t := BitVec.ofNat 64 ts
  [w0, w1, t.extractLsb' 0 32, t.extractLsb' 32 32] ++
    (List.range ((n + 3) / 4)).map (fun i => vget fr.data i 0 &&& keep i)

/-- R621: a valid frame is filtered and stored. -/
def CanBus.accept (c : CanBus) (fr : CanFrame) (ts : Nat) : CanBus :=
  let x := fr.w0.getLsbD 31
  let rtr := fr.w0.getLsbD 30 && !fr.w1.getLsbD 31
  if rtr && c.r.rxcfg.rrf then c
  else
    match (List.range c.r.rxcfg.nflt.toNat).find? (fun f => c.matches f fr.w0) with
    | none =>
      let nm := if x then c.r.rxcfg.nmXtd else c.r.rxcfg.nmStd
      if nm = 0 then c.store none (elemWords fr 0 true ts) else c
    | some f =>
      let ws := elemWords fr f false ts
      let d := c.filtDest f
      let c : CanBus := { c with r.evt.watch := c.r.evt.watch || ((c.filt f 1).getLsbD 29 && decide (d ≠ 0)) }
      let c := if d = 1 ∨ d = 3 ∨ (64 ≤ f ∧ d = 2) then c.store none ws else c
      if (d = 2 ∨ d = 3) ∧ f < 64 ∧ c.btype f = 1 then c.store (some f) ws else c

/-! ### Error counters (R629) -/

/-- Counters are frozen in bus monitoring and restricted operation (PRESUMED, ISO 11898-1). -/
def CanBus.frozen (c : CanBus) : Bool := decide (c.r.ctrl.mode = 1) || decide (c.r.ctrl.mode = 2)

/-- R629: an error kind is recorded for its phase. -/
def CanBus.errKind (c : CanBus) (kind : Nat) (dataPhase : Bool) : CanBus :=
  let c : CanBus := { c with r.err.errframes := satInc c.r.err.errframes }
  if dataPhase then { c with r.errkind.dKind := msetb c.r.errkind.dKind kind true }
  else { c with r.errkind.nKind := msetb c.r.errkind.nKind kind true }

/-- REC after a frame received without error: one less; from above 127 some value of 119 to 127 (ISO 11898-1), taken from
a free value. -/
def recGood (r : BitVec 8) (f : Nat) : BitVec 8 :=
  if r = 0 then 0 else if r.toNat ≤ 127 then r - 1 else BitVec.ofNat 8 (119 + f % 9)

/-- CAN_RX_ERROR (R629): an error in a frame received; `step`: what ISO 11898-1 adds to REC (0, 1 or 8). -/
def CanBus.rxError (c : CanBus) (now kind : Nat) (dataPhase : Bool) (step : Nat) : CanBus :=
  if !c.onBus then c
  else
    let c := c.errKind kind dataPhase
    let c : CanBus := if c.frozen then c else { c with r.err.recF := satAdd c.r.err.recF (min step 8) }
    c.judge now

/-! ### Transmission (R625 to R628) -/

/-- R626: the order of two pending buffers: base identifier, format, extension, data before remote, number. -/
def CanBus.txKey (c : CanBus) (b : Nat) : List Nat :=
  let w0 := (c.word (bufAddr b)).getD 0
  let w1 := (c.word (bufAddr b + 4)).getD 0
  let x := w0.getLsbD 31
  [(w0.extractLsb' 18 11).toNat, b2n x, if x then (w0.extractLsb' 0 18).toNat else 0, b2n (w0.getLsbD 30 && !w1.getLsbD 31), b]

/-- The lesser of two keys in order. -/
def keyLt : List Nat → List Nat → Bool
  | a :: as, b :: bs => if a < b then true else if b < a then false else keyLt as bs
  | _, _ => false

/-- CAN_ARBITRATION_SELECT (R626). -/
def CanBus.select (c : CanBus) : CanBus :=
  if c.onBus ∧ c.cur.isNone ∧ !c.frozen then
    let ps := (List.range 64).filter (fun b => pairBit c.r.txpend b)
    let best := ps.foldl (fun (m : Option Nat) b => match m with
      | none => some b
      | some a => if keyLt (c.txKey b) (c.txKey a) then some b else some a) none
    { c with cur := best, canc := false }
  else c

/-- CAN_TX_REQUEST (R625). -/
def CanBus.request (c : CanBus) (b : Nat) : CanBus :=
  if c.btype b = 2 ∧ !pairBit c.r.txpend b then
    { c with r.txpend := pairSet c.r.txpend b true, coll := c.coll.setIfInBounds b 0 }
  else { c with r.evt.wrIgn := true }

/-- A request ends without success: CXL. -/
def CanBus.drop (c : CanBus) (b : Nat) : CanBus :=
  { c with r.txpend := pairSet c.r.txpend b false, r.txcxl := pairSet c.r.txcxl b true }

/-- CAN_TX_CANCEL (R627): `cut`: the SOF sample point of the buffer's attempt has been reached. -/
def CanBus.cancel (c : CanBus) (b : Nat) (cut : Bool) : CanBus :=
  if !pairBit c.r.txpend b then c
  else if c.cur = some b ∧ cut then { c with canc := true }
  else { (c.drop b) with cur := if c.cur = some b then none else c.cur }

/-- CAN_TX_ERROR (R625, R627 to R629): a lost arbitration, or an error of a kind; `field`: in the control, data or CRC
field of an attempt that won arbitration; `exempt`: ISO 11898-1 excepts it from raising TEC. -/
def CanBus.txError (c : CanBus) (now : Nat) (lost : Bool) (kind : Nat) (dataPhase field exempt : Bool) : CanBus :=
  match c.cur with
  | none => c
  | some b =>
    let c : CanBus := if lost then c else
      let c := c.errKind kind dataPhase
      { c with tec := if exempt then c.tec else c.tec + 8 }
    let hit := !lost && field && (decide (kind = 3) || decide (kind = 4))
    let n := if lost then vget c.coll b 0 else if hit then vget c.coll b 0 + 1 else 0
    let lim := c.r.ctrl.collLim.toNat
    let over1 := hit && decide (0 < lim) && decide (lim ≤ n)
    let c : CanBus := { c with coll := c.coll.setIfInBounds b n }
    let c : CanBus := if over1 then { (c.drop b) with r.evt.txcoll := true }
      else if c.canc ∨ c.r.ctrl.dar then c.drop b else c
    let c : CanBus := { c with cur := none, canc := false }
    (c.judge now).frameEnd

/-- The frame a transmit buffer holds; words with no content are read as free values by the caller. -/
def CanBus.frameOf (c : CanBus) (b : Nat) (f : Nat → Word) : CanFrame :=
  let w (i : Nat) : Word := (c.word (bufAddr b + 4 * i)).getD (f i)
  { w0 := w 0, w1 := w 1, data := Vector.ofFn (fun i : Fin 16 => w (4 + i.val)) }

/-- CAN_TX_SUCCESS (R615, R625): the attempt succeeds; `ts`: site time of its SOF; `dly`: the loop delay measured, in quarter
cycles. -/
def CanBus.txSuccess (c : CanBus) (now : Nat) (b : Nat) (fr : CanFrame) (ts : Nat) (dly : Option Nat) : CanBus :=
  let t := BitVec.ofNat 64 ts
  let c := c.put (bufAddr b + 8) [t.extractLsb' 0 32, t.extractLsb' 32 32]
  let s := c.r.ssp
  let keep : Option Nat := match dly with
    | some q => if s.sspEn ∧ fr.w1.getLsbD 31 ∧ fr.w1.getLsbD 30 ∧ 4 * s.dlyMin.toNat ≤ q ∧ q ≤ 4 * s.dlyMax.toNat then some q else none
    | none => none
  let c : CanBus := { c with
    cur := none, canc := false
    tec := c.tec - 1
    coll := c.coll.setIfInBounds b 0
    r.txpend := pairSet c.r.txpend b false
    r.txdone := pairSet c.r.txdone b true
    r.ssp.loopdly := match keep with | some q => BitVec.ofNat 9 (min 511 q) | none => s.loopdly }
  let c := if c.r.ctrl.selfRx then c.accept fr ts else c
  (c.judge now).frameEnd

/-! ### Recovery (R611) -/

/-- CAN_RECOVERY_DELAY. -/
def CanBus.recovery (c : CanBus) (now : Nat) : CanBus :=
  if c.r.status.state = .busOff ∧ c.r.ctrl.autoRec ∧ c.tBo + msNs (min 1000 c.r.ctrl.recDly.toNat) ≤ now then
    { c with r.status.state := .recovering }
  else c

/-- CAN_RECOVERED. -/
def CanBus.recovered (c : CanBus) : CanBus :=
  if c.r.status.state = .recovering then
    { c with tec := 0, r.err.recF := 0, r.status.state := .active }.view
  else c

/-- CAN_PROTOCOL_EXCEPTION. -/
def CanBus.exception (c : CanBus) : CanBus :=
  if c.onBus then { c with cur := none, canc := false, r.status.state := .integrating, r.evt.pxe := true }.frameEnd else c

/-! ### Ports (R618, R619) -/

/-- The element an address lies in: its base, and whether writes are refused and reads lock (receive). -/
def CanBus.element (c : CanBus) (a : Nat) : Option (Nat × Bool × Bool) :=
  if a < 0x1400 then
    let b := a / 0x50
    some (bufAddr b, decide (c.btype b = 1), pairBit c.r.txpend b)
  else if 0x1800 ≤ a then some (0x1800 + 0x50 * ((a - 0x1800) / 0x50), true, false)
  else none

/-- The lock of a port: host (false) or channel core (true). -/
def CanBus.lock (c : CanBus) (core : Bool) : Option Nat := if core then c.lockC else c.lockH

/-- The lock of a port set; `abnd`: LOCK_ABND is set. -/
def CanBus.setLock (c : CanBus) (core : Bool) (l : Option Nat) (abnd : Bool) : CanBus :=
  let c : CanBus := { c with r.evt.lockAbnd := c.r.evt.lockAbnd || abnd }
  if core then { c with lockC := l } else { c with lockH := l }

/-- The address of a port. -/
def CanBus.addr (c : CanBus) (core : Bool) : Nat := 4 * (if core then c.addrC else c.r.memAddr).toNat

/-- The address of a port advanced by 4 (R618). -/
def CanBus.advance (c : CanBus) (core : Bool) : CanBus :=
  if core then { c with addrC := c.addrC + 1 } else { c with r.memAddr := c.r.memAddr + 1 }

/-- CAN_MEM_ADDR_WRITE (R618, R619). -/
def CanBus.addrWrite (c : CanBus) (core : Bool) (w : Word) : CanBus :=
  let c := c.setLock core none (c.lock core).isSome
  if core then { c with addrC := w.extractLsb' 2 12 } else { c with r.memAddr := w.extractLsb' 2 12 }

/-- A write of CAN_MEM_DATA (R618). -/
def CanBus.memWrite (c : CanBus) (core : Bool) (w : Word) : CanBus :=
  let a := c.addr core
  let ign := match c.element a with | some (_, rx, pend) => rx || pend | none => false
  let c := if ign then { c with r.evt.wrIgn := true } else c.put a [w]
  c.advance core

/-- A read of CAN_MEM_DATA (R619); `f`: the free value of a word with no content. -/
def CanBus.memRead (c : CanBus) (core : Bool) (f : Word) : Word × CanBus :=
  let a := c.addr core
  let w := (c.word a).getD f
  let c := match c.element a with
    | some (base, true, _) =>
      if a = base then c.setLock core (some base) (decide ((c.lock core).isSome ∧ c.lock core ≠ some base))
      else
        let n := dlcBytes ((c.word base).getD f) ((c.word (base + 4)).getD f)
        if c.lock core = some base ∧ a = base + 4 * (3 + (n + 3) / 4) then c.setLock core none false else c
    | _ => c
  (w, c.advance core)

/-- CAN_RXF_ACK (R623). -/
def CanBus.ack (c : CanBus) (i : Nat) : CanBus :=
  let s := c.r.rxfStatus
  let n := (BitVec.ofNat 7 i - s.get).toNat + 1
  if n ≤ s.fill.toNat then
    { c with r.rxfStatus := { s with get := BitVec.ofNat 7 (i + 1), fill := s.fill - BitVec.ofNat 8 n } }.view
  else { c with r.evt.wrIgn := true }

/-! ### On the channel -/

/-- Bus A (false) or B (true). -/
def Chan.bus (k : Chan) (b : Bool) : CanBus := if b then k.canB else k.canA

/-- A bus changed; changes of EP, BO and EW are journalled (R611). -/
def Chan.onBus (k : Chan) (e : Env) (b : Bool) (f : CanBus → CanBus) : Chan :=
  let o := k.bus b
  let n := f o
  let k : Chan := if b then { k with canB := n } else { k with canA := n }
  let s (c : CanBus) : List Int := [b2n (decide (c.r.status.state = .passive)), b2n (decide (c.r.status.state = .busOff)), b2n c.r.status.ew]
  if s o ≠ s n then k.jr e .can JEv.canState ((b2n b : Int) :: s n) else k

/-- R624: Shank takes the frame: an 11-bit identifier of an enabled source, FDF, 16 data bytes. -/
def Chan.canToShank (k : Chan) (fr : CanFrame) : Bool :=
  !fr.w0.getLsbD 31 && fr.w1.getLsbD 31 && decide (dlcBytes fr.w0 fr.w1 = 16) &&
  (List.range 4).any (fun i => k.shk.bit (3 + i) 31 && decide (k.shk.fld (3 + i) 0 11 = (fr.w0.extractLsb' 18 11).toNat))

/-- CAN_FRAME_RX (R621, R624, R629): `age`: ns from the sample point of its SOF. -/
def Chan.canRx (k : Chan) (e : Env) (b : Bool) (fr : CanFrame) (age : Nat) : Chan :=
  let c := k.bus b
  if !c.onBus ∨ c.r.ctrl.mode = 3 then k
  else
    let f := k.free
    let k := if 127 < c.r.err.recF.toNat then f.2 else k
    let k := k.onBus e b (fun c =>
      let c : CanBus := if c.frozen then c else { c with r.err.recF := recGood c.r.err.recF f.1.toNat }
      (c.accept fr (e.site - age)).judge e.now)
    if k.canToShank fr then k.shkPdu e (b2n b) (vget fr.data 0 0) (vget fr.data 1 0) (vget fr.data 2 0) (vget fr.data 3 0) else k

/-- CAN_TX_SUCCESS: the frame leaves on the bus. -/
def Chan.canTx (k : Chan) (e : Env) (b : Bool) (age : Nat) (dly : Option Nat) : Chan :=
  match (k.bus b).cur with
  | none => k
  | some i =>
    let f := k.freeWords 20
    let fr := (k.bus b).frameOf i f.1
    let n := (dlcBytes fr.w0 fr.w1 + 3) / 4
    let k := f.2.onBus e b (fun c => c.txSuccess e.now i fr (e.site - age) dly)
    k.send (.can k.idx (b2n b) ([fr.w0, fr.w1] ++ fr.data.toList.take n))

/-- CAN_MEM_ACCESS (R618, R619): a write, or a read with the word it answers. -/
def Chan.canMem (k : Chan) (e : Env) (b core : Bool) (w : Option Word) : Option Word × Chan :=
  match w with
  | some w => (none, k.onBus e b (fun c => c.memWrite core w))
  | none =>
    let f := k.free
    let k := if ((k.bus b).word ((k.bus b).addr core)).isNone then f.2 else k
    let r := (k.bus b).memRead core (f.1.extractLsb' 0 32)
    (some r.1, k.onBus e b (fun _ => r.2))

/-- R611, R633: a controller after a Sole reset. -/
def Chan.canBoot (k : Chan) : Chan := { k with canA := {}, canB := {} }

end Sys2Proof.Machine
end

