-- ==== Sys2Proof/Machine/Clock.lean ====
section
/-! DEFINITION. Sys2Proof/Machine/Clock.lean: lock, relock and loss of lock of the channel synthesiser (R644 to R653). -/

namespace Sys2Proof.Machine

/-- R157: the channel transfers power. -/
def Chan.transferring (k : Chan) : Bool := k.loop.r.status.state ≠ .idle && k.loop.r.status.state ≠ .fault

/-- R47: the output gated: the modulator holds, the modulator clocks stop. -/
def Chan.clkGate (k : Chan) : Chan :=
  { k with pwm := k.pwm.hold, met := k.met.clocks false k.met.r.ctrl.mclk0En k.met.r.ctrl.mclk1En }

/-- R644: RELOCKING is entered: OFS 0, the walk stopped, CENTRE of the register taken for the next lock. -/
def Chan.relockStart (k : Chan) (e : Env) : Chan :=
  let c := k.clk
  { k with clk := { (c.rampStop.setOfs 0) with
      centre := c.r.centre.toNat
      tAtt := e.now
      fails := 0
      r.status.state := .relocking } }.clkGate

/-- RELOCK (R644): a write of the bit (`auto` false), or LOL_NOW with AUTO. In VIGIL it is taken at the next entry to TRIM
(R678). -/
def Chan.relock (k : Chan) (e : Env) (auto : Bool) : Chan :=
  let s := k.clk.r.status
  if auto then
    if s.state = .locked ∧ s.lolNow ∧ k.clk.r.ctrl.auto ∧ !k.transferring then k.relockStart e else k
  else if 2 ≤ k.core.pm ∧ (s.state = .locked ∨ s.state = .failed) then { k with clk.pend := true }
  else match s.state with
    | .locked => if k.transferring then { k with clk.r.status.relockRef := true } else k.relockStart e
    | .failed => k.relockStart e
    | _ => k

/-- LOCK_VERIFIED (R644, R646): the dividers are released and the output ungated. -/
def Chan.lockVerified (k : Chan) (_e : Env) : Chan :=
  let s := k.clk.r.status
  if (s.state = .locking ∨ s.state = .relocking) ∧ !s.lorNow then
    { k with
      clk := { k.clk with fails := 0, r.status := { s with state := .locked, lolNow := false, relocks := satInc s.relocks } }
      pwm := k.pwm.unhold
      met := k.met.clocks true k.met.r.ctrl.mclk0En k.met.r.ctrl.mclk1En }
  else k

/-- LOCK_ATTEMPT_TIMEOUT (R644, R653): no lock within 5 ms, or the reference lost during the attempt. -/
def Chan.lockTimeout (k : Chan) (e : Env) : Chan :=
  let c := k.clk
  let s := c.r.status
  if (s.state = .locking ∨ s.state = .relocking) ∧ (c.tAtt + msNs 5 ≤ e.now ∨ s.lorNow) then
    let n := c.fails + 1
    let k : Chan := { k with clk := { c with
      fails := n
      tAtt := e.now
      r.status := { s with lol := true, state := if 3 ≤ n then .failed else s.state } } }
    if s.lol then k else k.jr e .pwm JEv.clkLol []
  else k

/-- LOSS_OF_LOCK (R647). -/
def Chan.lossOfLock (k : Chan) (e : Env) : Chan :=
  let s := k.clk.r.status
  if s.state = .locked ∧ !s.lolNow then
    { k with clk.r.status := { s with lolNow := true, lol := true } }.jr e .pwm JEv.clkLol []
  else k

/-- LOCK_REGAINED (R647). -/
def Chan.lockRegained (k : Chan) : Chan := { k with clk.r.status.lolNow := false }

/-- LOSS_OF_REFERENCE (R647). -/
def Chan.lossOfRef (k : Chan) (e : Env) : Chan :=
  let s := k.clk.r.status
  if s.lorNow then k
  else { k with clk.r.status := { s with lorNow := true, lor := true } }.jr e .pwm JEv.clkLor []

/-- REFERENCE_REGAINED (R647). -/
def Chan.refRegained (k : Chan) : Chan := { k with clk.r.status.lorNow := false }

/-- PLL_LOL (R649). -/
def Chan.pllLol (k : Chan) (e : Env) : Chan := { k with clk.r.status.pllLol := true }.jr e .pwm JEv.pllLol []

/-- A write of CLK_CTRL (R641, R644, R655). -/
def Chan.clkCtrl (k : Chan) (e : Env) (w : Word) : Chan :=
  let k : Chan := { k with clk.r.ctrl := { relock := false, auto := w.getLsbD 30, rampGo := false, rampStop := false } }
  let k := if w.getLsbD 31 then k.relock e false else k
  let k : Chan := if w.getLsbD 29 then { k with clk := k.clk.rampGo } else k
  if w.getLsbD 28 then { k with clk := k.clk.rampStop } else k

/-- A write of CLK_RAMP_CFG or CLK_SEGk (R641). -/
def Chan.clkCfg (k : Chan) (f : ClkRegs → ClkRegs) : Chan :=
  if k.clk.r.rampNow.running then { k with clk.r.status.wrIgn := true } else { k with clk.r := f k.clk.r }

/-- R644: LOCKING after a Sole reset. -/
def Chan.clkBoot (k : Chan) (e : Env) : Chan := { k with clk := { tAtt := e.now } }

end Sys2Proof.Machine
end

