-- ==== Sys2Proof/Machine/Session.lean ====
section
/-! DEFINITION. Sys2Proof/Machine/Session.lean: the vehicle session of a channel: its signalling circuits, messages,
states, hand-offs and events (R327 to R361). -/

namespace Sys2Proof.Machine

/-! ### Events and state (R343, R351) -/

/-- R351: an event is queued, journalled, and raises attention when the queue was empty (R532). -/
def Chan.vEvt (k : Chan) (e : Env) (code : Nat) (data : Nat) : Chan :=
  let v := k.veh
  let full := decide (32 ≤ v.evq.length)
  let q := (if full then v.evq.drop 1 else v.evq) ++ [(BitVec.ofNat 32 code <<< 24) ||| BitVec.ofNat 32 (data % 2 ^ 24)]
  let k : Chan := { k with veh := { v with
    evq := q
    tAttn := if v.evq = [] then e.now else v.tAttn
    r.flags.evtOvf := v.r.flags.evtOvf || full
    r.status.evtCnt := BitVec.ofNat 6 q.length } }
  let k := k.jr e .tongue JEv.session [code, (data % 2 ^ 24 : Nat)]
  if v.evq = [] then k.send (.attention (some k.idx)) else k

/-- VEH_EVT_READ (R351): the oldest entry, or 0. -/
def Chan.vEvtRead (k : Chan) : Word × Chan :=
  match k.veh.evq with
  | [] => (0, k)
  | w :: q => (w, { k with veh := { k.veh with evq := q, r.status.evtCnt := BitVec.ofNat 6 q.length } })

/-- The session answers the vehicle. -/
def Chan.vAns (k : Chan) (r : VRes) (data : List Int := []) : Chan := k.send (.vehicle k.idx r data)

/-- R340: a state is entered. -/
def Chan.vGo (k : Chan) (e : Env) (s : VehState) : Chan := { k with veh := { k.veh with tState := e.now, r.status.state := s } }

/-- R343: a cause is recorded, once per session. -/
def Chan.vCause (k : Chan) (c : Nat) : Chan :=
  if k.veh.causeSet then k else { k with veh := { k.veh with causeSet := true, r.status.cause := BitVec.ofNat 8 c } }

/-- The states of the "any running" rows (R340). -/
def VehState.running : VehState → Bool
  | .cableCheck | .precharge | .transfer | .paused | .stopping => true
  | _ => false

/-- The session is in a state. -/
def Chan.vIn (k : Chan) (ss : List VehState) : Bool := ss.any (fun s => decide (s = k.veh.r.status.state))

/-- R334 and what is held as under it: HOST set-points, a service hold (R562), a Tamper-hold (R601), a bad legal code
(R702), ACK_PEND (R714). -/
def Chan.vKept (k : Chan) : Bool :=
  k.loop.r.ctrl.spSrc || decide (k.core.r.svc.state ≠ .inService) || k.key.r.tampStatus.hold || k.core.r.boot.lcodeBad
  || k.core.ackPend

/-- R340, R380: entry to SHUTDOWN: the contactor outputs are off, the resistance estimate is made. `dis`: the discharge
output is turned on. A loop that still runs is stopped. -/
def Chan.vShutdown (k : Chan) (e : Env) (dis : Bool) : Chan :=
  let run := k.veh.r.status.state.running
  let k : Chan := { k with veh := { k.veh with
    ctOn := false, disOn := k.veh.disOn || dis, stopAns := false, pause := false, fromRun := run } }
  let k : Chan := if run then { k with loop.iTgt := 0 }.loopStop e false else k
  (k.vGo e .shutdown).sessEstimate e

/-- R340: STOPPING with a cause: a loop stop. -/
def Chan.vStop (k : Chan) (e : Env) (cause : Nat) : Chan :=
  let k := k.vCause cause
  let k : Chan := { k with veh.pause := false, loop.iTgt := 0 }
  (k.loopStop e false).vGo e .stopping

/-- Volts of an EV value in 0.1 V. -/
def dV (v : BitVec 16) : Rat := (v.toNat : Rat) / 10

/-- R346, R347: the session maximum voltage and the code 1 limits. -/
def Chan.vLimits (k : Chan) : Chan :=
  let v := k.veh
  { k with veh := { v with
    vMax := dV v.r.evLim1.vMax
    iChg := dV v.r.evLim1.iMax
    iDis := if v.r.status.bpt && v.r.ctrl.bptEn then dV v.r.evLim2.iDis else 0 } }

/-- A 1 ms result of R258 that is valid: code 0x20 + j. -/
def Chan.msOk (k : Chan) (j : Nat) : Option Int := let q := vget k.met.msRes j {}; if q.ok then some q.val.toInt else none

/-- A voltage in mV within PRE_TOL of one in V. -/
def Chan.vNear (k : Chan) (mv : Option Int) (v : Rat) : Bool :=
  match mv with
  | some x => decide (rabs ((x : Rat) / 1000 - v) ≤ (max 1 (min 50 k.veh.r.tmo1.preTol.toNat) : Nat))
  | none => false

/-- R340: Shank reports insulation OK. -/
def Chan.insulationOk (k : Chan) : Bool := decide (k.shk.lv2 = 0)

/-! ### Signalling circuits (R329, R340) -/

/-- R329: the class of a CE sample, mV. -/
def Veh.ceClass (v : Veh) (mv : Nat) : CeState :=
  let t (b : BitVec 8) : Nat := 100 * b.toNat
  if t v.r.ceThr.thA ≤ mv then .a else if t v.r.ceThr.thC ≤ mv then .b else if t v.r.ceThr.thErr ≤ mv then .c else .error

/-- R329: the class of an ID sample, mV. -/
def Veh.idClass (v : Veh) (mv : Nat) : IdState :=
  let t (b : BitVec 8) : Nat := 100 * b.toNat
  if t v.r.idThr.idOpen ≤ mv then .none else if t v.r.idThr.idLo ≤ mv then .present else .error

/-- R340: the row of a signalling fault. -/
def Chan.vSignal (k : Chan) (e : Env) : Chan :=
  let st := k.veh.r.status
  let run := st.state.running
  let k := k.vCause (if st.id = .none then 0x0E else 0x05)
  let k := if run then k.shkSession e false else k
  let k := k.vEvt e 0x0C (st.ce.code * 256 + st.id.code)
  if st.state = .shutdown then { k with veh.ctOn := false } else k.vShutdown e false

/-- The faults of the signalling row as levels: ID not PRESENT, CE ERROR, CE not C where the row asks for it. -/
def Chan.vSigBad (k : Chan) : Bool :=
  let st := k.veh.r.status
  decide (st.id ≠ .present) || decide (st.ce = .error) ||
    (k.vIn [.cableCheck, .precharge, .transfer] && decide (st.ce ≠ .c))

/-- CE_ID_SAMPLE (R329, R331): one sample of both circuits in mV; `full`: RUN or TRIM, where CE is classified. -/
def Chan.ceId (k : Chan) (e : Env) (ceMv idMv : Nat) (full : Bool) : Chan :=
  let v := k.veh
  let deb := msNs (max 1 (min 100 v.r.ceThr.deb.toNat))
  let cl := v.ceClass ceMv
  let i := v.idClass idMv
  let tC := if cl = v.ceCand then v.tCe else e.now
  let tI := if i = v.idCand then v.tId else e.now
  let v' : Veh := { v with
    idCand := i, tId := tI
    r.status.id := if tI + deb ≤ e.now then i else v.r.status.id }
  let v' : Veh := if full then { v' with
      ceCand := cl, tCe := tC
      r.status.ce := if tC + deb ≤ e.now then cl else v.r.status.ce }
    else v'
  let k' : Chan := { k with veh := v' }
  -- in SHUTDOWN the row acts on the change only
  if k'.vIn [.shutdown] ∧ v'.r.status ≠ v.r.status ∧ (v'.r.status.id ≠ .present ∨ v'.r.status.ce = .error) then k'.vSignal e
  else k'

/-! ### Enable and link (R331 to R334, R340) -/

/-- VEH_ENABLE (R340): a write of VEH_CTRL. -/
def Chan.vEnable (k : Chan) (e : Env) (w : Word) : Chan :=
  let k : Chan := { k with veh.r.ctrl := k.veh.r.ctrl.write w }
  if k.veh.r.ctrl.en then
    if k.vIn [.off] ∧ !k.core.meterRole then { k with veh.ceOn := true }.vGo e .unplugged else k
  else if k.vIn [.unplugged, .plugged, .setup, .auth, .discovery, .ended] then
    { k with veh := { k.veh with
        ceOn := false, phy := false, disOn := false
        r.status := { k.veh.r.status with tls := false, link := false } } }.vGo e .off
  else k

/-- T1S_LINK_UP (R328, R340): the PHY is powered in PLUGGED or later. -/
def Chan.vLink (k : Chan) : Chan := if k.veh.phy then { k with veh.r.status.link := true } else k

/-- SDP_REQ (R333, R334). -/
def Chan.vSdp (k : Chan) : Chan :=
  if k.veh.r.status.link ∧ k.vIn [.plugged, .setup] ∧ !k.vKept then k.vAns .sdp else k

/-- A valid vehicle request arrived (R340). -/
def Chan.vReq (k : Chan) (e : Env) : Chan := { k with veh.tReq := e.now }

/-! ### Session setup and authorisation (R335 to R340) -/

/-- R340: authorisation accepted. -/
def Chan.vAccept (k : Chan) (e : Env) (ref : List Word) : Chan :=
  let k : Chan := { k with veh := { k.veh with authDone := true, authRef := ref } }
  (k.vAns .authFinished).vGo e .discovery

/-- R340: authorisation rejected or timed out: cause 13. -/
def Chan.vReject (k : Chan) (e : Env) : Chan :=
  let k : Chan := { k with veh.authDone := true }
  ((k.vAns .authFailed).vCause 0x0D).vShutdown e false

/-- SESSION_SETUP_REQ (R340): the request has come over TLS (DESIGN CHOICE: the handshake is the sender's; KS2 is not
looked at); the session identifier is drawn (a free value), EVCCID stored. -/
def Chan.vSetup (k : Chan) (e : Env) (evccid : BitVec 48) : Chan :=
  if k.vIn [.setup] then
    let f := k.free
    let k := f.2
    let k : Chan := { k with
      key.vol := true
      veh := { k.veh with
        tAuth := e.now, tReq := e.now
        r.sid := #v[f.1.extractLsb' 0 32, f.1.extractLsb' 32 32]
        r.evccidLo := evccid.extractLsb' 0 32
        r.evccidHi := evccid.extractLsb' 32 16
        r.status.tls := true } }
    let k := ((k.vAns .sessionSetup).vGo e .auth).vEvt e 0x04 (f.1.extractLsb' 0 24).toNat
    if k.veh.r.auth then k.vAccept e (List.replicate 8 0) else k
  else k

/-- AUTHORIZATION_REQ (R337): `ok`: the contract chain and the signature verify. -/
def Chan.vAuthReq (k : Chan) (e : Env) (pnc ok : Bool) (emaid : Vector Word 4) : Chan :=
  if !k.vIn [.auth] then k
  else
    let k := k.vReq e
    let k : Chan := { k with veh.r.status.pnc := pnc }
    if pnc ∧ (!ok ∨ !e.siteValid) then k.vReject e
    else
      let k := if k.veh.authAsked then k
        else if pnc then ({ k with veh := { k.veh with r.emaid := emaid, authAsked := true } } : Chan).vEvt e 0x06 0
        else ({ k with veh.authAsked := true } : Chan).vEvt e 0x05 0
      k.vAns .authOngoing

/-- AUTH_TIMEOUT (R339). -/
def Chan.vAuthTimeout (k : Chan) (e : Env) : Chan :=
  if k.vIn [.auth] ∧ k.veh.tAuth + sNs (max 1 (min 55 k.veh.r.tmo2.authTmo.toNat)) ≤ e.now then k.vReject e else k

/-! ### Parameters and cable check (R340, R341, R346) -/

/-- CHARGE_PARAMETER_DISCOVERY (R332, R346): maxima and minimum in 0.1 V and 0.1 A. -/
def Chan.vParams (k : Chan) (e : Env) (bpt : Bool) (vMax vMin iMax iDis : BitVec 16) : Chan :=
  if !k.vIn [.discovery] then k
  else
    let k := k.vReq e
    if bpt ∧ !k.veh.r.ctrl.bptEn then k.vAns .unsupported
    else
      let k : Chan := { k with veh := { k.veh with
        r.status.bpt := bpt
        r.evLim1 := { iMax := iMax, vMax := vMax }
        r.evLim2 := { iDis := iDis, vMin := vMin } } }
      k.vLimits.vAns .chargeParameter

/-- SCHEDULE_EXCHANGE (R340). -/
def Chan.vSchedule (k : Chan) (e : Env) : Chan :=
  if k.vIn [.discovery] then (({ k with veh.sched := true } : Chan).vReq e).vAns .schedule else k

/-- R340: the contactor outputs on and the loop started in CV. -/
def Chan.vClose (k : Chan) (e : Env) (v : Rat) : Chan :=
  let k : Chan := { k with veh.ctOn := true, loop.vTgt := v, loop.iTgt := 0 }
  (k.loopStart e false).1

/-- CABLE_CHECK_REQ (R340, R341). -/
def Chan.vCableReq (k : Chan) (e : Env) : Chan :=
  if k.vIn [.cableCheck] then (k.vReq e).vAns .cableCheckOngoing
  else if k.vIn [.discovery] ∧ k.veh.sched then
    let k := k.vReq e
    if k.veh.r.status.ce = .c then
      let vcc := min k.veh.vMax (tenths k.loop.r.vrefLim.vrefMax)
      let k : Chan := { k with veh := { k.veh with vcc := vcc, tCc := none } }
      let k := k.vGo e .cableCheck
      if vcc < 150 then (k.vAns .cableCheckFailed).vStop e 0x06
      else (k.vClose e vcc).vAns .cableCheckOngoing
    else k.vAns .cableCheckOngoing
  else k

/-- CABLE_CHECK_HOLD (R340). -/
def Chan.vCableHold (k : Chan) (e : Env) : Chan :=
  if k.vIn [.cableCheck] ∧ held e.now k.veh.tCc (msNs (100 * max 1 (min 100 k.veh.r.tmo1.ccHold.toNat))) then
    (k.vAns .cableCheckFinished).vGo e .precharge
  else k

/-- CABLE_CHECK_TIMEOUT (R340). -/
def Chan.vCableTimeout (k : Chan) (e : Env) : Chan :=
  if k.vIn [.cableCheck] ∧ k.veh.tState + sNs (max 5 (min 60 k.veh.r.tmo1.ccTmo.toNat)) ≤ e.now then
    (k.vAns .cableCheckFailed).vStop e 0x06
  else k

/-! ### Precharge and transfer (R340, R344 to R348) -/

/-- PRECHARGE_REQ (R340): the EV target voltage, 0.1 V. -/
def Chan.vPrecharge (k : Chan) (e : Env) (v : BitVec 16) : Chan :=
  let res (k : Chan) : Chan := k.vAns .precharge [k.msVal 4]
  if k.vIn [.precharge] then
    res (({ k with loop.vTgt := dV v, veh.r.evTgt.vTgt := v } : Chan).vReq e)
  else if k.vIn [.paused] then
    let k := ({ k with veh.r.evTgt.vTgt := v } : Chan).vReq e
    res ((k.vClose e (dV v)).vGo e .precharge)
  else k

/-- PRECHARGE_TIMEOUT (R340). -/
def Chan.vPreTimeout (k : Chan) (e : Env) : Chan :=
  if k.vIn [.precharge] ∧ k.veh.tState + sNs (max 1 (min 30 k.veh.r.tmo1.preTmo.toNat)) ≤ e.now then k.vStop e 0x07 else k

/-- R344: the conditions of the legal gate that fail, as the DATA of event 0x0F: bit 0 seal, 1 ledger full, 2 KS1, 3 legal
streams, 4 tamper. -/
def Chan.legalGate (k : Chan) : Nat :=
  let lc := k.key.r.lcStatus
  let sealBad := !(k.ledg.r.status.sealed || decide (lc.state = .verify) || decide (lc.state = .service) || lc.debug)
  let full := !(decide (16 < k.ledg.free) || k.ledg.opn.isSome)
  let ks1 := !(k.key.loaded 1 || lc.debug)
  let streams := !(k.met.valid 8 && k.met.valid 11)
  b2n sealBad + 2 * b2n full + 4 * b2n ks1 + 8 * b2n streams + 16 * b2n k.key.r.tampStatus.hold

/-- PowerDeliveryReq Start in PRECHARGE (R340, R344). A Start outside PRE_TOL takes nothing of R344: a later Start is judged
afresh, and the slot is reserved by the one that enters TRANSFER (DEDUCED). -/
def Chan.vStart (k : Chan) (e : Env) : Chan :=
  let g := k.legalGate
  if g ≠ 0 then
    let cause := if k.ledg.opn.isNone then 0x0C else if k.key.r.tampStatus.hold then 0x09 else 0x08
    ((k.vAns .powerDeliveryFailed).vEvt e 0x0F g).vStop e cause
  else
    if k.vNear (k.msOk 4) k.loop.vTgt then
      let k := if k.ledg.opn.isSome then k else k.recOpen e
      let k : Chan := { k with loop.tgtCC := true, veh.owe09 := true }
      ((k.vAns .powerDeliveryOk).vGo e .transfer).vEvt e 0x07 (b2n k.veh.r.status.bpt)
    else k.vAns .powerDeliveryFailed

/-- POWER_DELIVERY_REQ (R340): 0 Start, 1 Stop, 2 Standby. -/
def Chan.vPower (k : Chan) (e : Env) (kind : Nat) : Chan :=
  match kind with
  | 0 => if k.vIn [.precharge] then (k.vReq e).vStart e else k
  | 1 => if k.vIn [.transfer] then ((k.vReq e).vAns .powerDeliveryOk).vStop e 0x01 else k
  | 2 =>
    if k.vIn [.transfer] then
      let k := (k.vReq e).vAns .powerDeliveryOk
      let k : Chan := { k with veh.pause := true, loop.iTgt := 0 }
      (k.loopStop e false).vGo e .stopping
    else k
  | _ => k

/-- R348: the figures of a DC_ChargeLoopRes: V11 mV, I8 mA, the least limits over every code except 1 in 0.1 A, and the
powers they give with V11 in W. -/
def Chan.loopRes (k : Chan) : List Int :=
  let ls := k.limits.filter (fun x => decide (x.1 ≠ 1))
  let imp := (leastLim (·.1) ls).2
  let xp := (leastLim (·.2) ls).2
  let v := k.msVal 4
  [v, k.msVal 5, truncZ (imp * 10), truncZ (xp * 10), truncZ (imp * v / 1000), truncZ (xp * v / 1000)]

/-- DC_CHARGE_LOOP_REQ (R340, R346 to R348, R379): targets and maxima in 0.1 A and 0.1 V, the EV's present voltage, and
whether it reports an error. -/
def Chan.vLoopReq (k : Chan) (e : Env) (iTgt vTgt vMax iMax iDis : BitVec 16) (vEv : Option Int) (evErr : Bool) : Chan :=
  if k.vIn [.transfer] then
    let k := (k.vReq e).estPoint vEv
    let k : Chan := { k with
      veh := { k.veh with
        r.evTgt := { iTgt := iTgt, vTgt := vTgt }
        r.evLim1 := { iMax := iMax, vMax := vMax }
        r.evLim2.iDis := iDis }
      loop.vTgt := dV vTgt
      loop.iTgt := (iTgt.toInt : Rat) / 10 }
    let k := k.vLimits
    let exp := k.veh.r.status.bpt && k.veh.r.ctrl.bptEn
    let k := k.vAns .chargeLoop (if iTgt.toInt < 0 ∧ !exp then [k.msVal 5] else k.loopRes)
    if evErr then k.vStop e 0x02 else k
  else if k.vIn [.stopping] then (k.vReq e).vAns .chargeLoop k.loopRes
  else k

/-! ### Ends (R340, R342, R343) -/

/-- WELDING_DETECTION_REQ (R342). -/
def Chan.vWelding (k : Chan) : Chan := if k.vIn [.shutdown] ∧ k.veh.fromRun then k.vAns .welding [k.msVal 4] else k

/-- From PAUSED to SHUTDOWN with a cause, the discharge output on (R340). -/
def Chan.vEndPause (k : Chan) (e : Env) (cause : Nat) : Chan := (k.vCause cause).vShutdown e true

/-- SESSION_STOP_REQ (R332, R340). -/
def Chan.vSessionStop (k : Chan) (e : Env) : Chan :=
  if k.vIn [.paused] then
    let k := (k.vReq e).vEndPause e 0x01
    ({ k with veh.stopAns := true } : Chan).vAns .sessionStop
  else if k.vIn [.shutdown] then (({ k with veh.stopAns := true } : Chan).vReq e).vAns .sessionStop
  else k

/-- R340: communication lost in the present state: cause 4 and event 0x0B. -/
def Chan.vCommLost (k : Chan) (e : Env) : Chan :=
  let st := k.veh.r.status.state
  let ev (k : Chan) : Chan := (k.vCause 0x04).vEvt e 0x0B st.code
  match st with
  | .setup | .auth | .discovery => (ev k).vShutdown e false
  | .shutdown => ev k
  | .cableCheck | .precharge => (ev k).vStop e 0x04
  | .transfer => ((ev k).shkSession e true).vStop e 0x04
  | .paused => ((ev k).shkSession e true).vShutdown e false
  | _ => k

/-- TLS_LOST (R340): TLS or TCP is lost; in SHUTDOWN after SessionStop was answered it is the orderly close. -/
def Chan.vTlsLost (k : Chan) (e : Env) : Chan :=
  let k : Chan := { k with veh.r.status.tls := false }
  if k.vIn [.shutdown] ∧ k.veh.stopAns then k else k.vCommLost e

/-- R598: the volatile session keys of a Sole are zeroised; a TLS session that was open is lost with them (DEDUCED). -/
def Chan.volZero (k : Chan) (e : Env) : Chan :=
  let tls := k.veh.r.status.tls
  let k : Chan := { k with key := { k.key with vol := false, tVol := none } }
  if tls then k.vTlsLost e else k

/-- SEQUENCE_TIMEOUT (R340): the Tongue closes the connection with it (DEDUCED). -/
def Chan.vSeqTimeout (k : Chan) (e : Env) : Chan :=
  if k.vIn [.setup, .auth, .discovery, .shutdown, .cableCheck, .precharge] then
    ({ k with veh.r.status.tls := false } : Chan).vCommLost e
  else k

/-- CHARGE_LOOP_TIMEOUT (R340). -/
def Chan.vLoopTimeout (k : Chan) (e : Env) : Chan :=
  if k.vIn [.transfer, .paused] ∧ k.veh.tReq + msNs (100 * max 5 (min 50 k.veh.r.tmo2.clTmo.toNat)) ≤ e.now then k.vCommLost e
  else k

/-- PAUSE_TIMEOUT (R340). -/
def Chan.vPauseTimeout (k : Chan) (e : Env) : Chan :=
  if k.vIn [.paused] ∧ k.veh.tState + sNs (max 1 (min 3600 k.veh.r.tmo2.pauseMax.toNat)) ≤ e.now then k.vEndPause e 0x0F else k

/-- R340, R354: the stop of 0x0103 or 0x0205: cause 0x03. -/
def Chan.vHostStop (k : Chan) (e : Env) : Chan :=
  let k := k.vAns .terminate
  match k.veh.r.status.state with
  | .discovery => (k.vCause 0x03).vShutdown e false
  | .cableCheck | .precharge | .transfer => k.vStop e 0x03
  | .paused => k.vEndPause e 0x03
  | _ => k

/-- R340, R598: a tamper alarm reaches the session. -/
def Chan.vTamper (k : Chan) (e : Env) : Chan :=
  match k.veh.r.status.state with
  | .cableCheck | .precharge | .transfer => k.vStop e 0x09
  | .setup | .auth | .discovery => (k.vCause 0x09).vShutdown e false
  | .paused => k.vEndPause e 0x09
  | _ => k

/-- UNSUPPORTED_REQUEST (R332). -/
def Chan.vUnsupported (k : Chan) : Chan := if k.veh.r.status.tls then k.vAns .unsupported else k

/-! ### What follows at once (R340, R349, R352) -/

/-- R349: a contactor output commanded on is held off. -/
def Chan.vHeldOff (k : Chan) : Bool :=
  let m := ({ k with shk.r.tp.active := false } : Chan).shkMask
  let bad (i : Nat) : Bool :=
    mbit m i || (match (vget k.ey.r.ostat i {}).state with
      | .pause | .latched | .thermHot | .thermWait => true
      | _ => false)
  k.veh.ctOn && (k.ey.r.status.vswUv || bad k.veh.r.eyMap.pos.toNat || bad k.veh.r.eyMap.neg.toNat)

/-- R345, R352: the loop has reached IDLE or FAULT in a stop: event 0x09 and the record. -/
def Chan.vLoopEnd (k : Chan) (e : Env) : Chan :=
  match k.loop.r.status.state with
  | .idle | .fault =>
    let k := if k.veh.owe09 ∧ !k.vIn [.transfer] then
        ({ k with veh.owe09 := false } : Chan).vEvt e 0x09 (if k.veh.pause then 0 else k.veh.r.status.cause.toNat)
      else k
    if k.vIn [.shutdown] ∧ k.ledg.opn.isSome then
      k.recClose e (if k.veh.r.status.cause = 8 then 1 else if k.veh.r.status.cause = 9 then 2 else 0) 0
    else k
  | _ => k

/-- The new session's marks are cleared on entry to PLUGGED. -/
def Chan.vPlug (k : Chan) (e : Env) : Chan :=
  let k : Chan := { k with veh := { k.veh with
    phy := true, causeSet := false, pause := false, owe09 := false, authAsked := false, authDone := false, sched := false
    stopAns := false, fromRun := false, authRef := []
    r.status := { k.veh.r.status with bpt := false, pnc := false } } }
  (k.vGo e .plugged).vEvt e 0x01 0

/-- One transition of R340 that the present state of the channel makes due. -/
def Chan.vMove (k : Chan) (e : Env) : Chan :=
  let st := k.veh.r.status
  let lp := k.loop.r.status.state
  if st.state.running ∧ (lp = .fault ∨ k.shk.r.status.state = .safeStop ∨ k.vHeldOff) then
    let shank := decide (k.shk.r.status.state = .safeStop) || k.vHeldOff || k.pwm.r.trip.shank
    (k.vCause (if shank then 0x0A else 0x0B)).vShutdown e false
  else if k.vIn [.plugged, .setup, .auth, .discovery, .cableCheck, .precharge, .transfer, .paused, .stopping] ∧ k.vSigBad then
    k.vSignal e
  else match st.state with
  | .unplugged => if st.id = .present then k.vPlug e else k
  | .plugged => if st.link ∧ !k.vKept then (k.vGo e .setup).vEvt e 0x03 0 else k
  | .cableCheck => if k.insulationOk then k else (k.vAns .cableCheckFailed).vStop e 0x06
  | .transfer => if lp = .cc ∧ !(k.met.valid 8 && k.met.valid 11) then k.vStop e 0x08 else k
  | .stopping =>
    match lp with
    | .offdly => { k with veh.ctOn := false }
    | .idle =>
      if k.veh.pause then
        (({ k with veh := { k.veh with ctOn := false } } : Chan).vGo e .paused).vEvt e 0x08 0
      else k.vShutdown e true
    | _ => k
  | .shutdown =>
    let low : Bool := match k.msOk 4 with | some v => decide (v < 60000) | none => false
    if low ∧ k.shk.weldDone ∧ (k.veh.stopAns ∨ !st.tls) then
      (({ k with veh.disOn := false } : Chan).vGo e .ended).vEvt e 0x0A st.cause.toNat
    else k
  | .ended =>
    if st.id = .none ∧ !(mbit k.shk.r.demand.latch 5) then
      (({ k with veh := { k.veh with
          phy := false
          r.status := { st with link := false, tls := false } } } : Chan).vGo e .unplugged).vEvt e 0x02 0
    else k
  | _ => k

/-- R340: CC_HOLD's condition followed. -/
def Chan.vCc (k : Chan) (e : Env) : Chan :=
  if k.vIn [.cableCheck] ∧ k.vNear (k.msOk 0) k.veh.vcc ∧ k.insulationOk then
    { k with veh.tCc := some (k.veh.tCc.getD e.now) }
  else { k with veh.tCc := none }

/-- What the session does at once after a step: its transitions, then the ends of power transfer. -/
def Chan.vSettle (k : Chan) (e : Env) : Chan :=
  let k := k.vMove e
  let k := k.vLoopEnd e
  let k := (k.vMove e).vLoopEnd e
  (k.vMove e).vCc e

/-! ### Certificates (R335, R336) -/

/-- The length of a DER value and the bytes its length field takes. -/
def derLen : List Nat → Option (Nat × Nat)
  | [] => none
  | b :: bs =>
    if b < 128 then some (b, 1)
    else
      let n := b - 128
      if n = 0 ∨ 4 < n ∨ bs.length < n then none else some (natOfBytes (bs.take n), 1 + n)

/-- The first DER item of a list: tag, contents, and what follows it. -/
def derItem : List Nat → Option (Nat × List Nat × List Nat)
  | [] => none
  | t :: bs =>
    match derLen bs with
    | none => none
    | some (n, h) => if bs.length < h + n then none else some (t, (bs.drop h).take n, bs.drop (h + n))

/-- Items skipped. -/
def derSkip : Nat → List Nat → Option (List Nat)
  | 0, bs => some bs
  | n + 1, bs => match derItem bs with | some (_, _, r) => derSkip n r | none => none

/-- Days from 1970-01-01 to a date of the Gregorian calendar. -/
def dayNumber (y m d : Nat) : Int :=
  let y' : Int := if m ≤ 2 then (y : Int) - 1 else y
  let era := y' / 400
  let yoe := y' - era * 400
  let mp : Int := if m ≤ 2 then (m : Int) + 9 else (m : Int) - 3
  let doy := (153 * mp + 2) / 5 + d - 1
  let doe := yoe * 365 + yoe / 4 - yoe / 100 + doy
  era * 146097 + doe - 719468

/-- A DER time (UTCTime or GeneralizedTime) in seconds since 1970. -/
def derTime (tag : Nat) (bs : List Nat) : Int :=
  let dg (i : Nat) : Nat := bs.getD i 48 - 48
  let two (i : Nat) : Nat := 10 * dg i + dg (i + 1)
  let o := if tag = 24 then 2 else 0
  let y := if tag = 24 then 100 * two 0 + two 2 else if two 0 < 50 then 2000 + two 0 else 1900 + two 0
  dayNumber y (two (o + 2)) (two (o + 4)) * 86400 + (two (o + 6) * 3600 + two (o + 8) * 60 + two (o + 10) : Nat)

/-- The end of validity of an X.509 certificate, seconds since 1970. -/
def certEnd (bs : List Nat) : Option Int := do
  let (_, cert, _) ← derItem bs
  let (_, tbs, _) ← derItem cert
  let skip := match tbs with | 0xA0 :: _ => 4 | _ => 3
  let rest ← derSkip skip tbs
  let (_, val, _) ← derItem rest
  let (_, _, after) ← derItem val
  let (t, x, _) ← derItem after
  some (derTime t x)

/-- R335, R356: DER bytes: one item that fills them. -/
def derOk (bs : List Nat) : Bool :=
  match derItem bs with
  | some (0x30, _, []) => true
  | _ => false

/-- R335: a stored certificate. -/
def Veh.cert (v : Veh) (kind idx : Nat) : Option (Nat × List Word) :=
  (v.certs.find? (fun c => c.1 = kind ∧ c.2.1 = idx)).map (fun c => c.2.2)

/-- R335: bytes the store holds without one item. -/
def Veh.certBytes (v : Veh) (kind idx : Nat) : Nat :=
  ((v.certs.filter (fun c => !(decide (c.1 = kind ∧ c.2.1 = idx)))).map (fun c => c.2.2.1)).sum

/-- R355: the ranges of KIND, INDEX and LENGTH. -/
def Desc.certRange (d : Desc) : Bool :=
  let k := d.fld 0 8 2
  let i := d.fld 0 0 4
  (match k with | 0 => decide (i ≤ 2) | 1 => decide (i ≤ 3) | 2 => decide (i ≤ 7) | _ => false) && decide (d.fld 2 0 16 ≤ 8192)

/-- R356: 0x0104 before its words: a code, or none to go on. -/
def Chan.certCheck (k : Chan) (d : Desc) : Option Nat :=
  if k.core.meterRole then some 0x74
  else if 65536 < k.veh.certBytes (d.fld 0 8 2) (d.fld 0 0 4) + d.fld 2 0 16 then some 0x73
  else none

/-- R335, R356: 0x0104 with its words: the item replaced, or with LENGTH 0 erased. -/
def Chan.certDone (k : Chan) (d : Desc) (ws : List Word) : Chan × Nat :=
  let kind := d.fld 0 8 2
  let i := d.fld 0 0 4
  let n := d.fld 2 0 16
  let rest := k.veh.certs.filter (fun c => !(decide (c.1 = kind ∧ c.2.1 = i)))
  if n = 0 then ({ k with veh.certs := rest }, 0)
  else if derOk ((bytesOfWords ws).take n) then ({ k with veh.certs := (kind, i, n, ws) :: rest }, 0)
  else (k, 0x73)

/-- CERT_CHECK (R336): skipped while site time is not valid; an event when a flag newly sets. -/
def Chan.certTick (k : Chan) (e : Env) : Chan :=
  if !e.siteValid then k
  else match (k.veh.cert 0 0).bind (fun c => certEnd ((bytesOfWords c.2).take c.1)) with
  | none => { k with veh := { k.veh with r.flags := { k.veh.r.flags with certExp := false, certWarn := false } } }
  | some t =>
    let now : Int := (e.site / 1000000000 : Nat)
    let left := t - now
    let exp := decide (left < 0)
    let warn := decide (left < 30 * 86400) && !exp
    let f := k.veh.r.flags
    let k : Chan := { k with veh := { k.veh with r.flags := { f with certExp := exp, certWarn := warn } } }
    let k := if warn ∧ !f.certWarn then k.vEvt e 0x0D (left / 86400).toNat else k
    if exp ∧ !f.certExp then k.vEvt e 0x0E 0 else k

/-! ### Descriptors (R354 to R356) -/

/-- 0x0101 and 0x0102: the code of a refusal. -/
def Chan.authRefuse (k : Chan) : Option Nat :=
  if k.core.meterRole then some 0x74
  else if k.veh.authDone then some 0x71
  else if !k.vIn [.auth] then some 0x70
  else none

/-- 0x0101 AUTH_ACCEPT. -/
def Chan.dAuthAccept (k : Chan) (e : Env) (d : Desc) : Chan × Option Nat :=
  match k.authRefuse with
  | some c => (k, some c)
  | none => (k.vAccept e ((List.range 8).map d.pay), some 0)

/-- 0x0102 AUTH_REJECT. -/
def Chan.dAuthReject (k : Chan) (e : Env) (_d : Desc) : Chan × Option Nat :=
  match k.authRefuse with
  | some c => (k, some c)
  | none => (k.vReject e, some 0)

/-- 0x0103 SESSION_STOP. -/
def Chan.dSessionStop (k : Chan) (e : Env) (_d : Desc) : Chan × Option Nat :=
  if k.core.meterRole then (k, some 0x74)
  else if !k.vIn [.discovery, .cableCheck, .precharge, .transfer, .paused] then (k, some 0x72)
  else (k.vHostStop e, some 0)

/-- 0x0105 AUTH_MODE. -/
def Chan.dAuthMode (k : Chan) (d : Desc) : Chan × Option Nat :=
  if k.core.meterRole then (k, some 0x74) else ({ k with veh.r.auth := d.bit 0 0 }, some 0)

/-! ### Register writes and reset (R329, R357, R360) -/

/-- R329, R357: a write of VEH_CE_THR. -/
def Chan.vCeThr (k : Chan) (w : Word) : Chan :=
  let t := k.veh.r.ceThr.write w
  if k.vIn [.off, .unplugged] ∧ t.thErr.toNat < t.thC.toNat ∧ t.thC.toNat < t.thA.toNat then { k with veh.r.ceThr := t }
  else { k with veh.r.flags.wrIgn := true }

/-- R329, R357: a write of VEH_ID_THR. -/
def Chan.vIdThr (k : Chan) (w : Word) : Chan :=
  let t := k.veh.r.idThr.write w
  if k.vIn [.off, .unplugged] ∧ t.idLo.toNat < t.idOpen.toNat then { k with veh.r.idThr := t }
  else { k with veh.r.flags.wrIgn := true }

/-- R357, R360: a write of VEH_EY_MAP. -/
def Chan.vEyMap (k : Chan) (w : Word) : Chan :=
  let t := k.veh.r.eyMap.write w
  let c := k.cool.r.eyMap
  let free (i : Nat) : Bool := decide (i ≠ c.pump.toNat ∧ i ≠ c.fan.toNat ∧ i ≠ c.valve.toNat)
  if k.vIn [.off, .unplugged] ∧ t.pos ≠ t.neg ∧ t.pos ≠ t.dis ∧ t.neg ≠ t.dis
      ∧ free t.pos.toNat ∧ free t.neg.toNat ∧ free t.dis.toNat then { k with veh.r.eyMap := t }
  else { k with veh.r.flags.wrIgn := true }

/-- R340, R361: the session after a Sole reset; certificates, MAC address and AUTO_AUTH are stored. -/
def Chan.vBoot (k : Chan) : Chan :=
  let v := k.veh
  { k with veh := { ({} : Veh) with
      certs := v.certs
      r := { ({} : VehRegs) with macLo := v.r.macLo, macHi := v.r.macHi, auth := v.r.auth } } }

end Sys2Proof.Machine
end

