-- ==== Sys2Proof/Machine/Boot.lean ====
section
/-! DEFINITION. Sys2Proof/Machine/Boot.lean: what a Sole keeps over a reset and how it boots (R702 to R706, R710, R711,
R715). -/

namespace Sys2Proof.Machine

/-- The phase modulator after a Sole reset: only PWM_RETIRE is kept (R105). -/
def Pwm.boot (p : Pwm) (meter : Bool) : Pwm :=
  { r := { ({} : PwmRegs) with
      retire := p.r.retire
      status := { ({} : PwmStatus) with state := if meter then .meter else .disabled } } }

/-- A bank loaded from parameter memory: its words are the stored ones (R160). -/
def Bank.load (b : Bank) : Bank := { b with words := b.stWords }

/-- The OK bits of three loaded banks (R160). -/
def banksOk (v : Vector Bank 3) : BitVec 3 :=
  (List.range 3).foldl (fun (m : BitVec 3) i => msetb m i (bankGood (vget v i {}))) 0

/-- R160: the loop engine after a Sole reset: the stored banks, the selection and the stored limits. -/
def Loop.boot (l : Loop) : Loop :=
  let bi := l.bankIn.map Bank.load
  let bo := l.bankOut.map Bank.load
  { bankIn := bi, bankOut := bo, selNv := l.selNv
    r := { ({} : LoopRegs) with
      ilimHost := l.r.ilimHost, vrefLim := l.r.vrefLim
      status := { ({} : LoopStatus) with actIn := l.selNv.1, actOut := l.selNv.2 }
      bankStatus := { ({} : LoopBankStatus) with inOk := banksOk bi, outOk := banksOk bo } } }

/-- The metrology engine after a Sole reset: the legal set, the legal registers and the stored efficiency map are kept
(R253, R268, R280); the modulator clocks stay low until LOCKED (R244). -/
def Met.boot (m : Met) : Met :=
  { r := { ({} : MetRegs) with
      lcalVgain := m.r.lcalVgain, lcalVofs := m.r.lcalVofs, lcalIgain := m.r.lcalIgain, lcalIofs := m.r.lcalIofs
      rmcs := m.r.rmcs }
    st := Vector.ofFn (fun (i : Fin 12) => { ({} : StreamSt) with cal := calReset i.val, stage := calReset i.val })
    accI := m.accI, accE := m.accE, eImp := m.eImp, eExp := m.eExp
    emap := m.emapNv, emapNv := m.emapNv, clkRun := false : Met }.view

/-- The key store after a reset: registers and keys are non-volatile; no working copy is unlocked. -/
def Key.boot (k : Key) : Key := { k with vol := false, tVol := none }

/-- The Sole enters reset: everything volatile is lost, its outputs take the state of R717, and the Eyelet die runs on.
`cause`: what is recorded of it (R711). -/
def Chan.toReset (k : Chan) (e : Env) (cause : ChRstCause → ChRstCause) : Chan :=
  let c := k.core
  let k : Chan := { k with
    core := { c with
      run := 0, pm := 0, pfail := false
      r := { c.r with
        linkStatus := {}
        boot := {}
        fwStatus := { c.r.fwStatus with trialLeft := 0 }
        rstCause := cause c.r.rstCause } }
    pwm := k.pwm.boot c.meterRole
    loop := k.loop.boot
    met := k.met.boot
    key := k.key.boot
    jq := [], cq := [], oq := [] }
  let k := ((((k.canBoot.clkBoot e).coolBoot {}).eyBoot { ({} : EyRegs) with }).shkBoot e).vBoot
  { k with shk.r.status.state := .init }

/-- R320 steps 1 to 4, run at the expiry of the Sole watchdog (R715): stored, but not marked complete. -/
def Chan.legalSave (k : Chan) (e : Env) : Chan :=
  let n := k.legalCommit e
  { n with ledg := { n.ledg with committed := false, r.pfail := k.ledg.r.pfail } }

/-- R320: the whole commit, with the efficiency map. -/
def Chan.commit (k : Chan) (e : Env) : Chan := { k.legalCommit e with met := k.met.emapStore }

/-- R702: steps 1 to 4 of a Sole's boot: the legal code image is checked (`okLegal`), and the legal code takes up what the
last commit left; the stored coefficient banks and the stored efficiency map are loaded (R160, R280). In a start-up hold the Sole stops before unlocking its keys, with Shank in INIT (R598). -/
def Chan.bootLegal (k : Chan) (e : Env) (okLegal : Bool) : Chan :=
  let k : Chan := { k with
    loop := k.loop.boot
    met := k.met.boot
    core := { k.core with
      meterRole := k.core.r.role.meterNext
      r := { k.core.r with
        role := { k.core.r.role with meter := k.core.r.role.meterNext }
        boot := { k.core.r.boot with lcodeBad := !okLegal } } } }
  if okLegal then k.legalBoot e else k

/-- R702 steps 5 and 6: the ordinary firmware runs; Shank has loaded its block. -/
def Chan.bootRun (k : Chan) (e : Env) : Chan :=
  let k : Chan := { k with
    core := { k.core with
      run := 2
      r := { k.core.r with linkStatus := { k.core.r.linkStatus with retrain := 0, hubPresent := true } } }
    pwm := k.pwm.boot k.core.meterRole }
  ((k.grantBoot.clkBoot e).shkBoot e).ledgView e

/-- R706: no slot passes: recovery. The gate inhibit stays asserted. -/
def Chan.bootFail (k : Chan) : Chan := { k with core := { k.core with run := 3 } }

end Sys2Proof.Machine
end

