-- ==== Sys2Proof/Machine/Settle.lean ====
section
/-! DEFINITION. Sys2Proof/Machine/Settle.lean: what follows at once in a channel from any change in it, and the records a
channel sends to the coordinator (R197 to R199, R558). -/

namespace Sys2Proof.Machine

/-- R377: the time the pump output turned on. -/
def Chan.pumpView (k : Chan) (e : Env) : Chan :=
  let i := k.cool.r.eyMap.pump.toNat
  let on := (vget k.ey.o i {}).live && decide (k.eyOwner i = .cooling)
  { k with cool.tPump := if on then some (k.cool.tPump.getD e.now) else none }

/-- R561: DRAINING becomes HELD once the loop is IDLE and no session is past PLUGGED. -/
def Chan.svcDrain (k : Chan) : Chan :=
  let s := k.core.r.svc
  if s.state = .draining ∧ k.loop.r.status.state = .idle ∧ k.vIn [.off, .unplugged, .plugged, .ended] then
    { k with core.r.svc := { s with state := .held } }
  else k

/-- R598: the volatile session keys exist while a TLS session does; after an alarm they go when the loop reaches IDLE. -/
def Chan.volView (k : Chan) (e : Env) : Chan :=
  let k : Chan := { k with key := { k.key with vol := k.key.vol || k.veh.r.status.tls } }
  if k.key.tVol.isSome ∧ k.loop.r.status.state = .idle then k.volZero e else k

/-- R233: the charging class returns to PC_DEF when the session ends. -/
def Chan.pcView (k old : Chan) : Chan :=
  if k.veh.r.status.state = .ended ∧ old.veh.r.status.state ≠ .ended then
    { k with grant := { k.grant with pcSet := false, r.cfg := { k.grant.r.cfg with pc := k.grant.pcDef } } }
  else k

/-- R532: attention for changes of LOW and FULL and for entries to HOLD and FLOOR. -/
def Chan.attnView (k old : Chan) : Chan :=
  let a := k.ledg.r.status
  let b := old.ledg.r.status
  let g := k.grant.r.state.state
  if a.low ≠ b.low ∨ a.full ≠ b.full ∨ (g ≠ old.grant.r.state.state ∧ (g = .hold ∨ g = .floor)) then
    k.send (.attention (some k.idx))
  else k

/-- RELOCK_ACTIVE (R61, R644). -/
def Chan.linkView (k : Chan) : Chan :=
  { k with core.r.linkStatus := { k.core.r.linkStatus with relockActive := decide (k.clk.r.status.state = .locking) || decide (k.clk.r.status.state = .relocking) } }

/-- R283: a plausibility test that trips can trigger a capture. -/
def Chan.capView (k old : Chan) (e : Env) : Chan :=
  if k.loop.r.pmStatus.tripped &&& ~~~old.loop.r.pmStatus.tripped ≠ 0 then { k with met := k.met.trigger e 2 } else k

/-- What follows at once from a change: Shank's levels and states, the session's moves, the flags of the open record, the
ledger's levels, the service hold, and the attention these raise. `old`: the channel before the change. -/
def Chan.settle (k old : Chan) (e : Env) : Chan :=
  let k := k.shkSettle e
  let k := (k.vSettle e).vLimits
  let k := (k.recTrack e).ledgView e
  let k := ((((k.pumpView e).svcDrain.volView e).pcView old).linkView).capView old e
  k.attnView old

/-! ### Records to the coordinator (R197 to R199) -/

/-- R198: a session is on. -/
def Chan.inSession (k : Chan) : Bool := !(k.vIn [.off, .unplugged, .plugged, .ended])

/-- R198: the least of the limits other than code 2, times V_out over η, in grant units. -/
def Chan.request (k : Chan) (f : Rat × Rat → Rat) (eta : Rat) : BitVec 24 :=
  let l := k.limits.filter (fun (x : Nat × Rat × Rat) => decide (x.1 ≠ 2))
  if !k.inSession ∨ !k.transferring ∨ eta ≤ 0 then 0
  else toU 24 (truncZ ((leastLim f l).2 * k.vOut / eta / 100))

/-- R197: the context record of a channel. -/
def Chan.ctxWords (k : Chan) (gcid : Nat) : List Word :=
  let g := k.grant
  let c := k.pwm.r.ctrl
  let b (x : Bool) (i : Nat) : Word := bit32 x <<< i
  [(BitVec.ofNat 32 gcid <<< 24) ||| g.apImp.setWidth 32, g.ackEpoch,
   (g.ackGen.setWidth 32 <<< 16) ||| (BitVec.ofNat 32 g.r.state.state.code <<< 13) ||| b k.core.meterRole 12
     ||| b (!c.syncSrc && !c.ofsSrc) 11 ||| (g.r.cfg.pc.setWidth 32 <<< 8) ||| b g.acked 7 ||| BitVec.ofNat 32 k.pwm.nEn,
   (k.request (·.1) k.etaS).setWidth 32, (k.request (·.2) 1).setWidth 32, (toS 24 k.pIn).setWidth 32,
   k.pwm.r.period.setWidth 32, g.apExp.setWidth 32]

end Sys2Proof.Machine
end

