-- ==== Sys2Proof/Machine/StHub.lean ====
section
/-! DEFINITION. Sys2Proof/Machine/StHub.lean: the state of the hub die (Welt), of the paths between the dies, of the DRAM, of
the power-management die and of Cobbler. -/

namespace Sys2Proof.Machine

/-- A self-test waiting or running: its die (Soles 0 to 3, hub 4), code, whether a descriptor asked for it, the link of
test 15 (true: west), and since when it waits, ns (R685, R686). -/
structure CobTask where
  die : Nat
  test : Nat
  byDesc : Bool
  west : Bool := false
  tQ : Nat := 0
  deriving DecidableEq, Repr

/-- A running test, its start, and what it set aside: the modulator clocks ran, the CE source was on, the PHY was powered;
test 7 has come to bus B (R683, R688). -/
structure CobRun where
  task : CobTask
  t : Nat
  clk : Bool := false
  ce : Bool := false
  phy : Bool := false
  busB : Bool := false
  deriving DecidableEq, Repr

/-- A 0x0901 that has not completed: its die, the tests still to end, and the masks of its completion (R694). -/
structure CobJob where
  die : Nat
  ref : DescRef
  left : List Nat
  pass : BitVec 16 := 0
  fail : BitVec 16 := 0
  abort : BitVec 16 := 0
  deriving DecidableEq, Repr

/-- The newest result of a die and code: 1 PASS, 2 FAIL, 3 ABORTED (R691, R696). -/
structure CobRes where
  die : Nat
  test : Nat
  result : Nat
  detail : BitVec 8
  dur : Nat
  t : Nat
  deriving DecidableEq, Repr

/-- Something that waits for the end of test 3 or 13: a register write, a register read, a descriptor (R683). `req`: the
node and the identifier of the REG_REQ that brought the access; none: this node's own gateway. -/
inductive CobWait where
  | write (die ofs : Nat) (w : Word) (req : Option (Nat × Nat))
  | read (die ofs : Nat) (req : Option (Nat × Nat))
  | desc (die : Nat) (d : Desc)
  deriving DecidableEq, Repr

/-- The Cobbler coordinator and agents. -/
structure Cob where
  /-- its registers (R696) -/
  r : CobRegs := {}
  run : List CobRun := []
  queue : List CobTask := []
  jobs : List CobJob := []
  res : List CobRes := []
  /-- boot of each die, and the last time a background test fell due: die, code, ns (R686) -/
  tBoot : Vector Nat 5 := Vector.replicate 5 0
  due : List (Nat × Nat × Nat) := []
  waits : List CobWait := []
  deriving DecidableEq, Repr

/-- The stitch link of a channel (R32 to R35, R43). -/
structure Stitch where
  /-- consecutive failures of the packet at the head, toward the Sole and toward the hub; the link retrains (R34) -/
  failS : Nat := 0
  failH : Nat := 0
  retrain : Bool := false
  /-- time of the newest valid packet from the Sole at the hub, and from the hub at the Sole, ns (R35) -/
  tHub : Nat := 0
  tSole : Nat := 0
  /-- the Sole has declared the hub lost; the hub has declared the Sole lost (R35) -/
  hubLost : Bool := false
  soleLost : Bool := false
  /-- entries kept while the hub is lost, oldest first, with both discard counts (R43) -/
  kept : List JEntry := []
  lost : Nat := 0
  lostSafe : Nat := 0
  /-- time of the newest Eyelet status frame, ns (R38) -/
  tEy : Nat := 0
  deriving DecidableEq, Repr

/-- The DRAM by its regions in the order of R39: an uncorrectable error has marked it invalid; corrected errors; refresh
rate, in multiples of the base rate (R40, R41). -/
structure Dram where
  bad : BitVec 8 := 0
  corr : Nat := 0
  rate : Nat := 1
  deriving DecidableEq, Repr

/-- The stores of a Sole that a commit writes, as they stood before it (R320). -/
structure CommitUndo where
  ch : Nat
  nv : LegalNv
  img : List (LRec × Bool)
  pfailCnt : BitVec 16
  emapNv : Vector (Vector EBin 32) 4
  deriving DecidableEq, Repr

/-- The power-management die and what it drives (R697 to R716). -/
structure PowerDie where
  /-- VAUX has been declared valid since the rails were last off (R697) -/
  vaux : Bool := true
  /-- the rails are on -/
  rails : Bool := true
  /-- rails of single dies switched off for a fault: Soles 0 to 3, hub 4 (R42) -/
  off : BitVec 5 := 0
  /-- time of PFAIL, ns; dies that must commit and that marked their commit complete: Soles 0 to 3, hub 4 (R707, R709) -/
  tPf : Option Nat := none
  must : BitVec 5 := 0
  done : BitVec 5 := 0
  /-- a power failure has ended in rails off, and every die had committed (R709) -/
  pfEnd : Option Bool := none
  /-- RESET_N holds the module in reset (R712) -/
  pin : Bool := false
  /-- the saved part of the journal, and the number of entries lost where a save is complete (R707) -/
  saved : List JEntry := []
  savedLost : Option Nat := none
  /-- what the stores of channels 0 to 3 held before the commit that is running (R320, R709) -/
  undo : List CommitUndo := []
  /-- time of the newest surge of VAUX, ns (R727) -/
  tSurge : Option Nat := none
  deriving DecidableEq, Repr

/-- The hub die. -/
structure Hub where
  /-- 0 in reset or unpowered, 1 booting, 2 running, 3 recovery (R701, R706) -/
  run : Nat := 0
  /-- its control and status registers (R56 to R59, R577, R653, R720) -/
  r : HubRegs := {}
  dieId : BitVec 64 := 0
  ring : Ring := {}
  gw : Gw := {}
  eng : Eng := {}
  pm : Pm := {}
  key : Key := {}
  cob : Cob := {}
  dram : Dram := {}
  /-- the stitch links -/
  st : Vector Stitch 4 := Vector.replicate 4 {}
  /-- firmware of the channels and, at 4, of the hub (R565, R703) -/
  fw : Vector FwSt 5 := Vector.replicate 5 {}
  /-- the journal region, and the on-die buffer (R39, R41), oldest first -/
  jnl : List JEntry := []
  jbuf : List JEntry := []
  /-- descriptors that wait for H-RUN, or for their channel to reach TRIM (R661) -/
  wait : List Desc := []
  /-- snapshots of higher words by the offset of the lower word in the node window (R50) -/
  snaps : List (Nat × Word) := []
  /-- the event registers whose changes raise the node's attention, as last seen (R532) -/
  evt : List Word := []
  fc : Nat := 0
  deriving DecidableEq, Repr

end Sys2Proof.Machine
end

