-- ==== Sys2Proof/Machine/State.lean ====
section
/-! DEFINITION. Sys2Proof/Machine/State.lean: the state of the module, the ways a step can stop, and the state right after
reset. -/

namespace Sys2Proof.Machine

/-- The state of one KD4750 module with the queue of commands that wait. -/
structure State where
  /-- time since power-up, ns -/
  now : Nat := 0
  /-- channels CH0 to CH3 with their Eyelet dies -/
  chans : Vector Chan 4
  hub : Hub := {}
  pwr : PowerDie := {}
  /-- word-port transfers at the dies of this node (R535, R536) -/
  xfers : List Xfer := []
  /-- what the module has sent, oldest first (log entry 5) -/
  out : List Out := []
  /-- commands that wait, first in, first out -/
  pending : List Instr := []
  deriving DecidableEq, Repr

/-- The ways a step faults. -/
inductive Fault where
  /-- raised by VAUX_SURGE for a stress beyond the absolute maximum ratings, of which R727 says only that it can damage the
  module; safe: the machine stops -/
  | beyondRatings
  deriving DecidableEq, Repr

/-- The ways a step is refused. -/
inductive Refusal where
  /-- raised by the dispatcher for a command without a meaning in the model; safe: the machine stops -/
  | notModelled (mnemonic : String)
  deriving DecidableEq, Repr

/-- What BLANK non-volatile memory and the factory give a key store (R603: TAMP_CFG in BLANK; log entry 2). -/
def Key.blank : Key := { r := { ({} : KeyRegs) with tampCfg := { tf1 := 10, tf0 := 10, en1 := false, en0 := false } } }

/-- Channel n right after the module reset: its Sole is held in reset until VHOLD_OK (R701). The registers without a stated
reset value are those of log entry 2. -/
def Chan.fresh (n : Nat) : Chan :=
  { idx := n
    core := { r := { ({} : ChRegs) with
      id := { ({} : ChId) with ch := BitVec.ofNat 2 n }, rstCause := { ({} : ChRstCause) with module := true } } }
    key := Key.blank
    met := { ({} : Met) with
      clkRun := false
      st := Vector.ofFn (fun (i : Fin 12) => { ({} : StreamSt) with cal := calReset i.val, stage := calReset i.val }) } }

/-- The machine right after the module reset of a power-up: nothing runs yet, every register has its reset value, the stores
are as in BLANK. -/
def State.reset : State :=
  { chans := Vector.ofFn (fun (i : Fin 4) => Chan.fresh i.val)
    hub := { run := 1, key := Key.blank, r := { ({} : HubRegs) with rstCause := { ({} : HubRstCause) with por := true } } } }

end Sys2Proof.Machine
end

