-- ==== Sys2Proof/Machine/Node.lean ====
section
/-! DEFINITION. Sys2Proof/Machine/Node.lean: the shared operations of the module: time, the journal (R54, R55), the paths
between the dies (R32 to R37, R43), and one change of a channel with all it sends. -/

namespace Sys2Proof.Machine

/-! ### Time, identity and contexts -/

/-- What a channel sees of the module: time, site time and its validity. -/
def State.env (s : State) : Env := { now := s.now, site := s.hub.ring.site s.now, siteValid := s.hub.ring.timeValid }

/-- The NID held. -/
def State.nid (s : State) : Option Nat := s.hub.ring.nid.map (fun n => n.toNat)

/-- The GCID of a channel (R2). -/
def State.gcid (s : State) (n : Nat) : Option Nat := s.nid.map (fun x => 4 * x + n)

/-- A channel. -/
def State.ch (s : State) (n : Nat) : Chan := vget s.chans n {}

/-- A channel replaced; nothing outside 0 to 3. -/
def State.setCh (s : State) (n : Nat) (k : Chan) : State := { s with chans := vset s.chans n k }

/-- The other nodes known, by NID. -/
def State.others (s : State) : List Nat := s.hub.ring.nodes.filterMap (fun (n : NodeSt) => n.nid.map (fun x => x.toNat))

/-- The other nodes that show a bit of the word at 0x08 of their PRESENCE (R484). -/
def State.showing (s : State) (bit : Nat) : List Nat :=
  (s.hub.ring.nodes.filter (fun (n : NodeSt) => n.w2.getLsbD bit)).filterMap (fun (n : NodeSt) => n.nid.map (fun x => x.toNat))

/-- What the ring sees of its node. -/
def State.rctx (s : State) : RCtx :=
  { now := s.now, gw := s.hub.gw.role, coordA := s.hub.eng.active, coordS := decide (s.hub.eng.role = .standby)
    hub := s.hub.pm.state 4, dieId := s.hub.dieId
    idle := s.chans.toList.all (fun (k : Chan) => !k.transferring) }

/-- The hub firmware runs. -/
def Hub.fwRuns (h : Hub) : Bool := decide (h.run = 2) && !(vget h.fw 4 {}).act

/-- The ring datapath runs: in recovery and during an activation too (R567, R706). -/
def Hub.ringRuns (h : Hub) : Bool := decide (2 ≤ h.run)

/-- The Sole runs and its register block is served (R44, R57): not off, booting, lost, in REST or OFF. -/
def State.served (s : State) (n : Nat) : Bool :=
  let c := (s.ch n).core
  decide (n < 4) && decide (c.run = 2) && !(vget s.hub.fw n {}).act && !(vget s.hub.st n {}).soleLost && decide (c.pm < 3)

/-! ### The journal (R54, R55) -/

/-- The order of concurrent events: source rank, then GCID, the hub after every channel (R55). -/
def JEntry.key (x : JEntry) : Nat := x.src.rank * 8 + x.ch.getD 4

/-- R55: S between two events of one module, 0.01 ns. -/
def jGap (a b : JEntry) : Nat := if a.ch = b.ch then 0 else 400

/-- R55: a and b are too close in time to be ordered by it. -/
def jConc (a b : JEntry) : Bool :=
  decide (100 * (max a.t b.t - min a.t b.t) ≤ a.src.unc + b.src.unc + jGap a b)

/-- R55: b stands after a. -/
def jAfter (a b : JEntry) : Bool := if jConc a b then decide (a.key < b.key) else decide (a.t < b.t)

/-- R55: an entry enters a journal, oldest first; it and the entry after it are marked where concurrent with the one
before. -/
def jInsert (x : JEntry) : List JEntry → List JEntry
  | [] => [{ x with conc := false }]
  | y :: ys =>
    if jAfter x y then
      match jInsert x ys with
      | z :: zs => (if zs.length < ys.length ∨ z = { x with conc := z.conc } then { y with conc := jConc y z } else y) :: z :: zs
      | [] => [y]
    else { x with conc := jConc x y } :: y :: ys

/-- The hub's journal takes an entry: the DRAM region, or the on-die buffer while the region is invalid or the hub is not in
H-RUN (R41, R660). -/
def Hub.journal (h : Hub) (x : JEntry) : Hub :=
  if h.dram.bad.getLsbD 2 ∨ h.pm.state 4 ≠ 0 then { h with jbuf := jInsert x h.jbuf } else { h with jnl := jInsert x h.jnl }

/-- The hub journals an event of its own. -/
def State.hubJr (s : State) (ev : JEv) (data : List Int := []) (safe : Bool := false) : State :=
  { s with hub := s.hub.journal { t := s.env.site, src := .hub, ch := none, ev := ev, data := data, safe := safe } }

/-- R43: a Sole without its hub keeps an entry: 1,024 of any kind and 256 for safety entries alone. -/
def Stitch.keep (t : Stitch) (x : JEntry) : Stitch :=
  let sf := (t.kept.filter (fun (y : JEntry) => y.safe)).length
  let used := t.kept.length - sf + (sf - 256)
  if used < 1024 ∨ (x.safe ∧ sf < 256) then { t with kept := t.kept ++ [x] }
  else match t.kept.find? (fun (y : JEntry) => !y.safe) with
    | some y => { t with kept := t.kept.erase y ++ [x], lost := t.lost + 1 }
    | none =>
      if x.safe then { t with kept := t.kept.drop 1 ++ [x], lostSafe := t.lostSafe + 1 } else { t with lost := t.lost + 1 }

/-- A Sole's entry reaches the hub's journal, or is kept (R43). -/
def State.jTake (s : State) (n : Nat) (x : JEntry) : State :=
  if (vget s.hub.st n {}).hubLost ∨ s.hub.run ≠ 2 then
    { s with hub := { s.hub with st := vMod s.hub.st n (fun (t : Stitch) => t.keep x) } }
  else { s with hub := s.hub.journal x }

/-! ### Completions, frames and attention -/

/-- A frame of this node to a node or to all (R466); none without an NID. -/
def State.originate (s : State) (t : FType) (dst : Option Nat) (ws : List Word) : State :=
  if s.nid.isSome ∧ s.hub.ringRuns then { s with hub.ring := s.hub.ring.originate s.now t dst ws } else s

/-- A completion goes to the gateway that forwarded the descriptor: this node's own, or another in a COMPL frame (R539). -/
def State.complete (s : State) (c : Compl) : State :=
  if s.nid = none ∨ s.nid = some c.ref.gw then
    { s with hub.gw := s.hub.gw.complete s.now c.ref.rid c.status c.ref.r0 c.ref.r1 }
  else s.originate .compl (some c.ref.gw)
    [BitVec.ofNat 32 (c.ref.rid % 4096) <<< 20, 0, c.ref.r0, c.ref.r1, BitVec.ofNat 32 c.status <<< 16, 0]

/-- R532: attention travels to every gateway: bits 3 to 0 the channels, bit 4 the node. -/
def State.attention (s : State) (w : Word) : State :=
  match s.nid with
  | none => s
  | some me =>
    let s : State := if s.hub.gw.role then { s with hub.gw := s.hub.gw.notice me w } else s
    (s.showing 23).foldl (fun (s : State) n => s.originate .compl (some n) [1, w]) s

/-- One thing a channel sends. -/
def State.emit (s : State) (o : Out) : State :=
  match o with
  | .frame t dst ws => s.originate t dst ws
  | .attention (some n) => s.attention (1#32 <<< n)
  | .attention none => s.attention 16
  | o => { s with out := s.out ++ [o] }

/-- What channel n has put out leaves it: journal entries, completions, messages. In REST and OFF, and without its hub, a
Sole sends the hub nothing but kept entries. -/
def State.flush (s : State) (n : Nat) : State :=
  let k := s.ch n
  let js := k.jq
  let cs := k.cq
  let os := k.oq
  if js.isEmpty ∧ cs.isEmpty ∧ os.isEmpty then s
  else
    let s := s.setCh n { k with jq := [], cq := [], oq := [] }
    let s := js.foldl (fun (s : State) x => s.jTake n x) s
    let s := cs.foldl (fun (s : State) c => s.complete c) s
    os.foldl (fun (s : State) o => s.emit o) s

/-- One change of channel n, what follows from it in the channel, and what it sends. -/
def State.onCh (s : State) (n : Nat) (f : Env → Chan → Chan) : State :=
  if n < 4 then
    let old := s.ch n
    let k := f s.env old
    (s.setCh n (if k.core.run = 2 then k.settle old s.env else k)).flush n
  else s

/-- A change of channel n that needs its Sole running in a power state no deeper than `pm`: 0 RUN, 1 TRIM, 2 VIGIL, 3
REST (R658). -/
def State.onSole (s : State) (n pm : Nat) (f : Env → Chan → Chan) : State :=
  let c := (s.ch n).core
  if c.run = 2 ∧ c.pm ≤ pm then s.onCh n f else s

/-- A change of every channel in turn. -/
def State.onAll (s : State) (f : Nat → Env → Chan → Chan) : State :=
  (List.range 4).foldl (fun (s : State) n => s.onCh n (f n)) s

/-! ### The hub's own views -/

/-- SOLE_STATE of a channel (R57). -/
def State.soleState (s : State) (n : Nat) : Nat :=
  let c := (s.ch n).core
  if (vget s.hub.st n {}).soleLost then 3
  else if c.run = 0 ∨ c.pm = 4 then 0
  else if c.run = 2 ∧ !(vget s.hub.fw n {}).act then 2
  else 1

/-- HUB_DIE_STATUS (R57). -/
def State.dieStatus (s : State) : HubDieStatus :=
  let ey := (List.range 4).foldl (fun (m : BitVec 4) n =>
    msetb m n ((s.ch n).core.r.linkStatus.eydLinkOk && decide ((s.ch n).core.run = 2))) 0
  let so := (List.range 4).foldl (fun (m : BitVec 8) n => m ||| (BitVec.ofNat 8 (s.soleState n) <<< (2 * n))) 0
  { s.hub.r.dieStatus with
    dramOk := decide (s.hub.run = 2) && decide (s.hub.dram.bad = 0)
    eydOk := ey, soleState := so }

/-- HUB_BOOT.SOLE_REC (R706). -/
def State.soleRec (s : State) : BitVec 4 :=
  (List.range 4).foldl (fun (m : BitVec 4) n => msetb m n (decide ((s.ch n).core.run = 3))) 0

/-- What the coordinator sees of its node. -/
def State.lctx (s : State) : LCtx :=
  let me := s.nid.toList
  let t := s.hub.ring.r.status.topo
  { now := s.now, site := s.hub.ring.site s.now, nid := s.nid, nodes := me ++ s.others
    gws := (if s.hub.gw.role then me else []) ++ s.showing 23
    sby := (if s.hub.eng.role = .standby then me else []) ++ s.showing 21
    large := s.hub.ring.r.status.large, whole := decide (t = .ring) || decide (t = .wrapped) }

/-- What the gateway sees of its node. -/
def State.gctx (s : State) : GCtx := { now := s.now, nid := s.nid, present := s.nid.toList ++ s.others, gws := s.showing 23 }

/-- The event registers whose changes raise the node's attention (R532). -/
def State.events (s : State) : List Word :=
  [s.hub.ring.r.evt.read, if s.hub.eng.active then s.hub.eng.last.r.flags.read else 0, s.hub.r.dieStatus.read]

/-- R532: a bit of RING_EVT or LAST_FLAGS has set, or HUB_DIE_STATUS has changed. -/
def eventsNew (a b : List Word) : Bool :=
  decide ((b.getD 0 0) &&& ~~~(a.getD 0 0) ≠ 0) || decide ((b.getD 1 0) &&& ~~~(a.getD 1 0) ≠ 0)
  || decide (a.getD 2 0 ≠ b.getD 2 0)

/-- GCID and GCID_VALID of every channel (R60). -/
def State.gcidView (s : State) : State :=
  { s with chans := s.chans.map (fun (k : Chan) =>
      { k with core.r.id := { k.core.r.id with
          gcidValid := s.nid.isSome, gcid := BitVec.ofNat 8 (4 * s.nid.getD 0 + k.idx) } }) }

/-- The hub's registers and roles as they follow from its state. -/
def State.hubView (s : State) : State :=
  let h := s.hub
  let s : State := { s with hub := { h with r := { h.r with
      dieStatus := s.dieStatus, boot := { h.r.boot with soleRec := s.soleRec } } } }
  if !s.hub.ringRuns then s
  else
    let s : State := { s with hub.ring := s.hub.ring.view s.rctx }
    let s : State := if (vget s.hub.fw 4 {}).act then s else { s with hub.gw := (s.hub.gw.evalRole s.gctx).view s.gctx }
    let s : State := if s.hub.fwRuns && !s.hub.key.held then { s with hub.eng := (s.hub.eng.sync s.lctx).view s.lctx } else s
    let s := s.gcidView
    let ev := s.events
    let old := s.hub.evt
    let s : State := { s with hub.evt := ev }
    if eventsNew old ev then s.attention 16 else s

end Sys2Proof.Machine
end

