-- ==== Sys2Proof/Machine/Cobbler.lean ====
section
/-! DEFINITION. Sys2Proof/Machine/Cobbler.lean: the self-tests: their table, order and conditions, how they start and end,
and their descriptors (R683 to R696). Dies: Soles 0 to 3, hub 4. -/

namespace Sys2Proof.Machine

/-! ### The table of tests (R683, R684) -/

/-- The background tests (class B). -/
def cobB (t : Nat) : Bool := [1, 2, 9, 10, 11, 12].contains t

/-- The channel tests (class C). -/
def cobC (t : Nat) : Bool := decide (3 ≤ t ∧ t ≤ 8)

/-- A test belongs to a die. -/
def cobOf (die t : Nat) : Bool := if die < 4 then decide (1 ≤ t ∧ t ≤ 9) else decide (10 ≤ t ∧ t ≤ 15)

/-- Extra power at most, mW. -/
def cobMw (t : Nat) : Nat := [0, 50, 80, 300, 200, 100, 100, 50, 100, 20, 50, 100, 400, 300, 200, 150].getD t 0

/-- The key store of a die. -/
def State.keyOf (s : State) (die : Nat) : Key := if die < 4 then (s.ch die).key else s.hub.key

/-- R684: the life-cycle state of the die accepts the test. -/
def State.cobLc (s : State) (die t : Nat) : Bool :=
  let lc := (s.keyOf die).r.lcStatus.state
  cobB t || (decide (lc ≠ .blank) && decide (lc ≠ .retired))

/-- A channel is HELD with PURPOSE TEST (R564). -/
def Chan.heldTest (k : Chan) : Bool := decide (k.core.r.svc.state = .held) && decide (k.core.r.svc.purpose = .test)

/-- R683: the condition of a test, to start and to continue. -/
def State.cobCond (s : State) (die t : Nat) (west : Bool) : Bool :=
  let k := s.ch die
  (!cobC t || k.heldTest) &&
  (match t with
   | 3 | 5 => decide (k.loop.r.status.state = .idle)
   | 4 => decide (k.pwm.r.status.state = .disabled)
   | 8 => k.vIn [.off, .unplugged]
   | 9 => k.core.r.linkStatus.eydLinkOk
   | 11 => !(vget s.hub.fw 4 {}).commit && !s.xfers.any (fun (x : Xfer) => decide (x.die = 4) && decide (x.d.opcode = 0x0801))
   | 12 => s.dieStatus.dramOk
   | 13 => decide (s.hub.eng.role = .none) && !s.hub.gw.role
   | 14 => decide (s.hub.eng.role = .none)
   | 15 => decide ((s.hub.ring.link west).st = .isolated)
   | _ => true)

/-- A unit has begun to lower its power state. -/
def Pm.lowering (p : Pm) (u : Nat) : Bool := (vget p.u u {}).dest.any (fun t => decide (p.state u < t))

/-- R689: what ends a running test before its time, as far as the state shows it. -/
def State.cobCut (s : State) (r : CobRun) : Bool :=
  let t := r.task
  !s.cobCond t.die t.test t.west || s.hub.pm.lowering t.die || s.pwr.tPf.isSome
  || (decide (4 ≤ t.test ∧ t.test ≤ 6) && decide ((s.ch t.die).clk.r.status.state = .relocking))
  || (decide (t.die = 4) && (vget s.hub.fw 4 {}).act)

/-! ### Views -/

/-- COB_STATUS.STATE and QUEUED (R696). -/
def Cob.view (c : Cob) : Cob :=
  { c with r := { c.r with status := { c.r.status with
      state := if c.run ≠ [] then .running else if c.queue ≠ [] then .waiting else .idle
      queued := BitVec.ofNat 8 (min 255 c.queue.length) } } }

/-- COB_RES_SELECT (R696): the result of a die and code is captured. -/
def Cob.select (c : Cob) (w : Word) : Cob :=
  let sel := c.r.resSel.write w
  let x := c.res.find? (fun (x : CobRes) => decide (x.die = sel.die.toNat) && decide (x.test = sel.test.toNat))
  { c with r := { c.r with
      resSel := sel
      resData0 := (match x with
        | some y => { result := BitVec.ofNat 2 y.result, detail := y.detail, dur := toU 16 y.dur }
        | none => {})
      resTLo := (match x with | some y => BitVec.ofNat 32 y.t | none => 0)
      resTHi := (match x with | some y => BitVec.ofNat 32 (y.t / 2 ^ 32) | none => 0) } }

/-! ### What a test does to its block (R683, R688) -/

/-- R683: a channel's block goes under test. -/
def Chan.cobEnter (k : Chan) (t : Nat) : Chan :=
  let en := k.met.r.ctrl
  if t = 6 then { k with met := k.met.clocks false en.mclk0En en.mclk1En }
  else if t = 8 then { k with veh := { k.veh with ceOn := false, phy := false } }
  else k

/-- R688: bus A (`b` false) or B comes back from a test. -/
def CanBus.cobBack (c : CanBus) : CanBus :=
  if c.r.status.state = .init then c
  else { c with r.status.state := .integrating, tec := 0, cur := none, canc := false, r.err := { c.r.err with recF := 0 } }.view

/-- R688: a channel's block comes back. -/
def Chan.cobLeave (k : Chan) (r : CobRun) : Chan :=
  let en := k.met.r.ctrl
  match r.task.test with
  | 6 =>
    if r.clk ∧ k.clk.r.status.state ≠ .relocking then { k with met := k.met.clocks true en.mclk0En en.mclk1En } else k
  | 7 => if r.busB then { k with canB := k.canB.cobBack } else { k with canA := k.canA.cobBack }
  | 8 => if k.veh.r.status.state = .off then k else { k with veh := { k.veh with ceOn := k.veh.ceOn || r.ce, phy := k.veh.phy || r.phy } }
  | _ => k

/-- R683: the block of a test is set aside. -/
def State.cobEnter (s : State) (t : CobTask) : State :=
  if t.test = 15 then
    let g := s.hub.ring
    { s with hub.ring := { g with r := { g.r with lb := (g.r.lb &&& ~~~(lbMask t.west)) ||| (lbMask t.west &&& 0x2222) } } }
  else if t.die < 4 then s.onCh t.die (fun _ k => k.cobEnter t.test) else s

/-- R683, R688: the block of a test is restored. -/
def State.cobLeave (s : State) (r : CobRun) : State :=
  if r.task.test = 15 then
    let g := s.hub.ring
    { s with hub.ring := { g with r := { g.r with lb := g.r.lb &&& ~~~(lbMask r.task.west) } } }
  else if r.task.die < 4 then s.onCh r.task.die (fun _ k => k.cobLeave r) else s

/-! ### Start, end and abort -/

/-- R685 to R687: a waiting test may start now. -/
def State.cobMay (s : State) (t : CobTask) : Bool :=
  let c := s.hub.cob
  decide (c.run.length < 2) && !c.run.any (fun (r : CobRun) => decide (r.task.die = t.die))
  && decide ((s.hub.pm.die t.die).band ≠ 4)
  && decide ((c.run.map (fun (r : CobRun) => cobMw r.task.test)).sum + cobMw t.test ≤ 800)
  && decide (s.hub.pm.state t.die = 0) && s.pwr.tPf.isNone
  && (t.byDesc || s.cobCond t.die t.test t.west)
  && (decide (t.die = 4) || decide ((s.ch t.die).core.run = 2))

/-- R685: a before b in the order of starting. -/
def CobTask.before (a b : CobTask) : Bool :=
  let key (t : CobTask) : Nat := (if t.byDesc then 0 else 1000) + 100 * t.die + t.test
  decide (key a < key b)

/-- The first of the waiting tests that may start. -/
def State.cobNext (s : State) : Option CobTask :=
  (s.hub.cob.queue.filter s.cobMay).foldl (fun (b : Option CobTask) t => match b with
    | some x => if t.before x then some t else some x
    | none => some t) none

/-- R694: a 0x0901 whose tests have all ended completes. -/
def State.cobDone (s : State) : State :=
  let done := s.hub.cob.jobs.filter (fun (j : CobJob) => decide (j.left = []))
  let s : State := { s with hub.cob.jobs := s.hub.cob.jobs.filter (fun (j : CobJob) => decide (j.left ≠ [])) }
  done.foldl (fun (s : State) (j : CobJob) =>
    s.complete { ref := { j.ref with r0 := j.pass.setWidth 32, r1 := j.fail.setWidth 32 ||| (j.abort.setWidth 32 <<< 16) }, status := 0 }) s

/-- A test of a die counts toward the descriptor that named it: 1 passed, 2 failed, 3 aborted (R692, R694). -/
def CobJob.note (j : CobJob) (die t res : Nat) : CobJob :=
  if j.die = die ∧ j.left.contains t then
    { j with
      left := j.left.filter (fun x => decide (x ≠ t))
      pass := msetb j.pass t (decide (res = 1) || j.pass.getLsbD t)
      fail := msetb j.fail t (decide (res = 2) || j.fail.getLsbD t)
      abort := msetb j.abort t (decide (res = 3) || j.abort.getLsbD t) }
  else j

/-- R691: a running test ends with a result: 1 PASS, 2 FAIL, 3 ABORTED. -/
def State.cobFinish (s : State) (r : CobRun) (res : Nat) (detail : BitVec 8) : State :=
  let t := r.task
  let s := s.cobLeave r
  let c := s.hub.cob
  let dur := (s.now - r.t + 999999) / 1000000
  let x : CobRes := { die := t.die, test := t.test, result := res, detail := detail, dur := dur, t := s.env.site }
  let c : Cob := { c with
    run := c.run.filter (fun (q : CobRun) => decide (q ≠ r))
    jobs := c.jobs.map (fun (j : CobJob) => j.note t.die t.test res)
    res := x :: c.res.filter (fun (y : CobRes) => !(decide (y.die = t.die) && decide (y.test = t.test)))
    r := { c.r with
      fail := if res = 2 then msetb c.r.fail t.die true else c.r.fail
      cnt := { pass := if res = 1 then satInc c.r.cnt.pass else c.r.cnt.pass
               fail := if res = 2 then satInc c.r.cnt.fail else c.r.cnt.fail } } }
  let s : State := { s with hub.cob := c.view }
  let data : List Int := [t.die, t.test, res, detail.toNat, dur]
  let j : JEntry := { t := s.env.site, src := if t.die = 4 then .hub else .loop, ch := if t.die = 4 then none else some t.die
                      ev := JEv.cobTest, data := data, safe := false }
  (if t.die = 4 then { s with hub := s.hub.journal j } else s.jTake t.die j).cobDone

/-- The running tests of a die are aborted, and those waiting for it dropped and reported ABORTED, where `drop` says so
(R689, R692, R693). -/
def State.cobAbort (s : State) (die : Nat) (drop : Bool) : State :=
  let s := (s.hub.cob.run.filter (fun (r : CobRun) => decide (r.task.die = die))).foldl
    (fun (s : State) r => s.cobFinish r 3 0) s
  if drop then
    let c := s.hub.cob
    let gone := c.queue.filter (fun (t : CobTask) => decide (t.die = die))
    let c : Cob := { c with
      queue := c.queue.filter (fun (t : CobTask) => decide (t.die ≠ die))
      jobs := gone.foldl (fun (js : List CobJob) (t : CobTask) => js.map (fun (j : CobJob) => j.note die t.test 3)) c.jobs }
    ({ s with hub.cob := c.view } : State).cobDone
  else s

/-- A reset of a die: its tests end without a journal entry and its results read NONE (R692). -/
def State.cobReset (s : State) (die : Nat) : State :=
  let s := (s.hub.cob.run.filter (fun (r : CobRun) => decide (r.task.die = die))).foldl
    (fun (s : State) r => s.cobLeave r) s
  let c := s.hub.cob
  { s with hub.cob := { c with
      run := c.run.filter (fun (r : CobRun) => decide (r.task.die ≠ die))
      queue := c.queue.filter (fun (t : CobTask) => decide (t.die ≠ die))
      jobs := c.jobs.filter (fun (j : CobJob) => decide (j.die ≠ die))
      res := c.res.filter (fun (x : CobRes) => decide (x.die ≠ die))
      due := c.due.filter (fun x => decide (x.1 ≠ die))
      waits := [] : Cob }.view }

/-- R689: the running tests whose conditions no longer hold are aborted; test 7 goes on to bus B after 15 ms. -/
def State.cobSettle (s : State) : State :=
  let s := s.hub.cob.run.foldl (fun (s : State) (r : CobRun) => if s.cobCut r then s.cobFinish r 3 0 else s) s
  s.hub.cob.run.foldl (fun (s : State) (r : CobRun) =>
    if r.task.test = 7 ∧ !r.busB ∧ r.t + msNs 15 ≤ s.now then
      let s := s.onCh r.task.die (fun _ k => { k with canA := k.canA.cobBack })
      { s with hub.cob.run := s.hub.cob.run.map (fun (q : CobRun) => if q = r then { q with busB := true } else q) }
    else s) s

/-- COB_TEST_START (R685): the first waiting test that may start does; a descriptor's test whose condition fails by then is
ABORTED at once. -/
def State.cobStart (s : State) : State :=
  if !s.hub.fwRuns then s
  else match s.cobNext with
  | none => s
  | some t =>
    let k := s.ch t.die
    let r : CobRun := { task := t, t := s.now, clk := k.met.clkRun, ce := k.veh.ceOn, phy := k.veh.phy }
    let c := s.hub.cob
    let c : Cob := { c with
      queue := c.queue.erase t, run := c.run ++ [r]
      r := { c.r with status := { c.r.status with die := BitVec.ofNat 3 t.die, test := BitVec.ofNat 4 t.test } } }
    let s : State := { s with hub.cob := c.view }
    if s.cobCond t.die t.test t.west then s.cobEnter t else s.cobFinish r 3 0

/-- COB_TEST_END (R688, R691): the running test of a die ends; DETAIL 0 for a pass. -/
def State.cobEnd (s : State) (die : Nat) (detail : BitVec 8) : State :=
  match s.hub.cob.run.find? (fun (r : CobRun) => decide (r.task.die = die)) with
  | some r => s.cobFinish r (if detail = 0 then 1 else 2) detail
  | none => s

/-- COB_TEST_DUE (R686): a background test of COB_SCHED falls due on a die. -/
def State.cobDue (s : State) (die t : Nat) : State :=
  let c := s.hub.cob
  let iv := c.r.sched.interval.toNat * 60 * 1000000000
  let last := (c.due.find? (fun x => decide (x.1 = die) && decide (x.2.1 = t))).map (fun x => x.2.2)
  let tDue := match last with
    | some x => x + iv
    | none => vget c.tBoot die 0 + iv * (die + 1) / 5
  let on := decide (1 ≤ t) && c.r.sched.mask.getLsbD (t - 1)
  if die ≤ 4 ∧ cobB t ∧ cobOf die t ∧ on ∧ tDue ≤ s.now ∧ s.hub.fwRuns then
    let c : Cob := { c with
      due := (die, t, tDue) :: c.due.filter (fun x => !(decide (x.1 = die) && decide (x.2.1 = t)))
      queue := if c.queue.any (fun (q : CobTask) => decide (q.die = die) && decide (q.test = t)) then c.queue
        else c.queue ++ [{ die := die, test := t, byDesc := false, tQ := s.now }] }
    { s with hub.cob := c.view }
  else s

/-- R663 code 11, R686: Cobbler asks the unit of a die up: a test runs on it, or one waits that a descriptor asked for,
that waits in TRIM or H-QUIET or above, or that has waited 24 h. -/
def State.cobFloor (s : State) (die : Nat) : Bool :=
  let c := s.hub.cob
  c.run.any (fun (r : CobRun) => decide (r.task.die = die))
  || c.queue.any (fun (t : CobTask) =>
      decide (t.die = die) && (t.byDesc || decide (s.hub.pm.state die ≤ 1) || decide (t.tQ + sNs 86400 ≤ s.now)))

/-! ### Descriptors (R693 to R695) -/

/-- 0x0901 at a die. -/
def State.dCobRun (s : State) (die : Nat) (d : Desc) (ref : DescRef) : State × Option Nat :=
  let ts := (List.range 16).filter (fun t => d.bit 0 t)
  let west := d.bit 1 0
  if !d.onlyBits [0xFFFE, 1] then (s, some 0x05)
  else if ts = [] ∨ ts.any (fun t => !cobOf die t) then (s, some 0xC3)
  else if ts.any (fun t => !s.cobLc die t) then (s, some 0xC2)
  else if die < 4 ∧ ts.any cobC ∧ !(s.ch die).heldTest then (s, some 0xC0)
  else if ts.any (fun t => !s.cobCond die t west) then (s, some 0xC1)
  else if s.hub.cob.jobs.any (fun (j : CobJob) => decide (j.die = die)) then (s, some 0xC4)
  else
    let c := s.hub.cob
    let running := (c.run.filter (fun (r : CobRun) => decide (r.task.die = die))).map (fun (r : CobRun) => r.task.test)
    let new := (ts.filter (fun t => !running.contains t)).map (fun t =>
      { die := die, test := t, byDesc := true, west := west, tQ := s.now : CobTask })
    let c : Cob := { c with queue := c.queue ++ new, jobs := c.jobs ++ [{ die := die, ref := ref, left := ts }] }
    ({ s with hub.cob := c.view }, none)

/-- 0x0902 at a die. -/
def State.dCobAbort (s : State) (die : Nat) (d : Desc) : State × Option Nat :=
  let c := s.hub.cob
  if !d.onlyBits [] then (s, some 0x05)
  else if !c.run.any (fun (r : CobRun) => decide (r.task.die = die)) && !c.queue.any (fun (t : CobTask) => decide (t.die = die)) then
    (s, some 0xC5)
  else (s.cobAbort die true, some 0)

/-- 0x0903 at the hub. -/
def State.dCobSched (s : State) (d : Desc) : State × Option Nat :=
  let iv := d.fld 0 16 16
  let ts := (List.range 16).filter (fun t => d.bit 0 t)
  if !d.onlyBits [0xFFFFFFFE] then (s, some 0x05)
  else if ts = [] ∨ ts.any (fun t => !cobB t) then (s, some 0xC3)
  else if iv < 10 ∨ 10080 < iv then (s, some 0xC6)
  else
    let c := s.hub.cob
    ({ s with hub.cob := { c with r := { c.r with
        sched := { interval := BitVec.ofNat 16 iv, mask := (d.pay 0).extractLsb' 1 15 } } } }, some 0)

end Sys2Proof.Machine
end

