-- ==== Sys2Proof/Machine/HubPm.lean ====
section
/-! DEFINITION. Sys2Proof/Machine/HubPm.lean: the power states of the units: the floors, the moves and what they do to a
channel and the hub, the wake events, and heat and ageing at the module (R657 to R682). -/

namespace Sys2Proof.Machine

/-! ### Floors (R663) -/

/-- A firmware load, commit, activation or trial runs for a unit (R663 code 13). -/
def State.fwBusy (s : State) (u : Nat) : Bool :=
  let f : FwSt := vget s.hub.fw u {}
  f.commit || f.act || f.tTrial.isSome
  || s.xfers.any (fun (x : Xfer) => decide (x.d.opcode = 0x0801) && decide (x.die = u))

/-- A descriptor of a die is in execution (R663 code 14). -/
def State.descBusy (s : State) (u : Nat) : Bool :=
  let k := s.ch u
  s.xfers.any (fun (x : Xfer) => decide (x.die = u)) || s.hub.cob.jobs.any (fun (j : CobJob) => decide (j.die = u))
  || (vget s.hub.fw u {}).ref.isSome
  || (if u < 4 then !k.ledg.wait.isEmpty || k.ledg.pend.any (fun (x : LRec) => x.ref.isSome) || k.loop.swap.isSome
      else !s.hub.eng.last.pend.isEmpty)

/-- A floor when its condition holds. -/
def floorIf (b : Bool) (code st : Nat) : List (Nat × Nat) := if b then [(code, st)] else []

/-- R663: the floors of a channel. -/
def State.chFloors (s : State) (n : Nat) : List (Nat × Nat) :=
  let k := s.ch n
  let cap := k.met.r.capStatus.state
  floorIf (decide (k.loop.r.status.state ≠ .idle) || decide (k.pwm.r.status.state = .ready) || decide (k.pwm.r.status.state = .run)
      || decide (k.pwm.r.status.state = .tripped)) 2 0
  ++ floorIf (k.vIn [.discovery, .cableCheck, .precharge, .transfer, .stopping]) 3 0
  ++ floorIf (k.vIn [.plugged, .setup, .auth, .paused, .shutdown, .ended] || k.ledg.opn.isSome) 3 1
  ++ floorIf k.core.meterRole 4 1
  ++ floorIf (decide (k.cool.r.status.state = .active) || decide (k.cool.r.status.state = .rundown)) 5 1
  ++ floorIf (k.shk.r.status.disReq || k.shk.tSf5.isSome) 6 1
  ++ floorIf (decide (cap = .armed) || decide (cap = .post)) 7 1
  ++ floorIf (s.cobFloor n || k.heldTest) 11 0
  ++ floorIf (s.fwBusy n) 13 1
  ++ floorIf (s.descBusy n) 14 1
  ++ floorIf k.key.r.tampStatus.hold 15 2

/-- The on-die journal buffer is 75 % full or more (R663 code 12, R41). -/
def Hub.jbufHigh (h : Hub) : Bool := decide (3 * 262144 ≤ 4 * (h.jbuf.length * Config.journalEntryBytes))

/-- R663: the floors of the hub. -/
def State.hubFloors (s : State) : List (Nat × Nat) :=
  let r := s.hub.eng.role
  let cap (k : Chan) : Bool := decide (k.met.r.capStatus.state = .armed) || decide (k.met.r.capStatus.state = .post)
  floorIf (s.chans.toList.any cap) 7 0
  ++ floorIf (decide (r = .active) || decide (r = .sync) || decide (r = .standby)) 8 0
  ++ floorIf s.hub.gw.role 9 1
  ++ floorIf ((List.range 4).any (fun n => decide (s.hub.pm.state n ≤ 1))) 10 1
  ++ floorIf (s.cobFloor 4) 11 0
  ++ floorIf s.hub.jbufHigh 12 0
  ++ floorIf ((List.range 5).any s.fwBusy) 13 0
  ++ floorIf (s.descBusy 4) 14 0

/-- What power management sees of a unit (R662, R663). -/
def State.pmUnit (s : State) (u : Nat) : PmUnit :=
  if u < 4 then
    let k := s.ch u
    { floors := s.chFloors u, vd := !k.core.meterRole && k.veh.r.ctrl.en, gr := !k.core.meterRole }
  else { floors := s.hubFloors, vd := false, gr := false }

/-- The billed import and export of the node's channels, mWh (R680). -/
def State.billed (s : State) : Nat := (s.chans.toList.map (fun (k : Chan) => k.met.eImp.toNat + k.met.eExp.toNat)).sum

/-- PM_EVALUATE (R664, R680): every unit's target, and the power reading: VAUX, mV, and the module's power, mW. -/
def State.pmEvaluate (s : State) (vaux mw : Nat) : State :=
  if s.hub.run ≠ 2 then s
  else
    let p := s.hub.pm.power s.env.site (vaux / 10) mw s.billed
    { s with hub.pm := p.evaluate s.now ((List.range 5).map s.pmUnit) }

/-- PM_WAKE (R666): a wake source of a unit. -/
def State.pmWake (s : State) (u code : Nat) : State :=
  if s.hub.run = 2 ∧ u ≤ 4 ∧ 1 ≤ code ∧ code ≤ 9 then { s with hub.pm := s.hub.pm.wake s.now u code (s.pmUnit u) } else s

/-- PM_LOWER (R665): DWELL has run out. A test of the unit is aborted (R689). -/
def State.pmLower (s : State) (u : Nat) : State :=
  if s.hub.run = 2 ∧ u ≤ 4 then ({ s with hub.pm := s.hub.pm.lower s.now u } : State).cobSettle else s

/-! ### What a move does (R658 to R660) -/

/-- R658: a controller's integration restarts at the exit from REST. -/
def CanBus.restExit (c : CanBus) : CanBus :=
  match c.r.status.state with
  | .active | .passive | .integrating => { c with r.status.state := .integrating, cur := none, canc := false }
  | _ => c

/-- R659: the path watchdogs restart at the exit from REST. -/
def PduPath.restart (p : PduPath) (now : Nat) : PduPath := { p with tLast := now, lost := false, okSince := none }

/-- R658, R659: entry to VIGIL or deeper: the PWM domain and the modulator clocks stop, the Tongue, the PHY and the CE
source are off. -/
def Chan.toVigil (k : Chan) : Chan :=
  let k := k.clkGate
  { k with veh := { k.veh with ceOn := false, phy := false, r.status.link := false } }

/-- R658, R678: entry to TRIM or RUN from below: the clocks restart, unless a relock waits. -/
def Chan.fromVigil (k : Chan) (e : Env) : Chan :=
  let k : Chan := { k with veh.ceOn := k.veh.ceOn || (!k.core.meterRole && k.vIn [.unplugged]) }
  if k.clk.pend then ({ k with clk.pend := false } : Chan).relockStart e
  else if k.clk.r.status.state = .locked then
    { k with pwm := k.pwm.unhold, met := k.met.clocks true k.met.r.ctrl.mclk0En k.met.r.ctrl.mclk1En }
  else k

/-- R659: the exit from REST or OFF: the cooling model starts again. -/
def Chan.coolAgain (k : Chan) (e : Env) : Chan := if k.cool.r.status.state = .standby then k.coolOn e else k

/-- R659: entry to REST: the legal registers are stored and Shank asserts the gate inhibit. -/
def Chan.toRest (k : Chan) (e : Env) : Chan := k.legalStore.shkInhibit e

/-- R658, R659: the exit from REST. Shank releases the inhibit where its state gives the permit. -/
def Chan.fromRest (k : Chan) (e : Env) : Chan :=
  let x := k.shk
  let src := x.src.map (fun (p : PduSrc) => { p with a := p.a.restart e.now, b := p.b.restart e.now })
  let k : Chan := { k with
    canA := k.canA.restExit, canB := k.canB.restExit
    shk := { x with src := src, r.status.inhibit := x.r.status.inhibit && !x.r.status.state.permits } }
  k.coolAgain e

/-- R658, R659: entry to OFF: the legal registers are stored and the Sole is unpowered. -/
def Chan.toOff (k : Chan) (e : Env) : Chan :=
  let k := k.legalStore.toReset e id
  { k with core.pm := 4 }

/-- A channel has moved between two power states. -/
def Chan.pmMove (k : Chan) (e : Env) (old new : Nat) : Chan :=
  let k : Chan := { k with core.pm := new }
  if new = 4 then k.toOff e
  else if old = 4 then { k with core.run := 1 }
  else
    let k := if old < 2 ∧ 2 ≤ new then k.toVigil else k
    let k := if old < 3 ∧ new = 3 then k.toRest e else k
    let k := if old = 3 ∧ new < 3 then k.fromRest e else k
    if 2 ≤ old ∧ new < 2 then k.fromVigil e else k

/-- The on-die journal buffer is flushed to the journal region (R41, R660). -/
def Hub.jflush (h : Hub) : Hub :=
  if h.dram.bad.getLsbD 2 ∨ h.pm.state 4 ≠ 0 then h else { h with jnl := h.jbuf.foldr jInsert h.jnl, jbuf := [] }

/-- PM_STATE_REACHED (R665): a unit has reached the state it moves to. -/
def State.pmReached (s : State) (u : Nat) : State :=
  if s.hub.run ≠ 2 ∨ 4 < u ∨ (vget s.hub.pm.u u {}).dest = none then s
  else
    let old := s.hub.pm.state u
    let s : State := { s with hub.pm := s.hub.pm.reached u }
    let new := s.hub.pm.state u
    if u < 4 then
      let s := if new = 4 ∧ old ≠ 4 then s.cobReset u else s
      let s := s.onCh u (fun e k => k.pmMove e old new)
      { s with hub.st := vMod s.hub.st u (fun (t : Stitch) => { t with tHub := s.now, tSole := s.now }) }
    else { s with hub := s.hub.jflush }

/-! ### Heat and ageing (R668 to R677) -/

/-- A Sole's loop is IDLE or FAULT, or the die is the hub: its core voltage may fall (R675). -/
def State.vFallOk (s : State) (die : Nat) : Bool :=
  let l := (s.ch die).loop.r.status.state
  decide (die = 4) || decide (l = .idle) || decide (l = .fault)

/-- TEMP_CONVERSION (R668 to R670): a die's sensors are converted; its core voltage follows its band. -/
def State.tempConv (s : State) (die : Nat) (rs : List Int) : State :=
  if s.hub.run ≠ 2 ∨ 10 < die then s
  else
    let p := s.hub.pm.temp s.now die rs
    { s with hub.pm := if die ≤ 4 then p.vApply die (s.vFallOk die) else p }

/-- THROTTLE_UPDATE (R672). -/
def State.throttle (s : State) (die : Nat) : State :=
  if s.hub.run = 2 ∧ die ≤ 4 then { s with hub.pm := s.hub.pm.throttle s.now die } else s

/-- JUNCTION_SHUTDOWN (R673): a Sole sets OT_SD and stops its loop; on the hub the flags set and the event is journalled. -/
def State.junction (s : State) (die : Nat) : State :=
  if s.hub.run = 2 ∧ die ≤ 4 ∧ s.hub.pm.hotDue s.now die then
    let s : State := { s with hub.pm := s.hub.pm.tjSet die }
    if die = 4 then s.hubJr JEv.junction
    else s.onSole die 2 (fun e k => ({ k with loop.r.status.otSd := true } : Chan).loopStop e true)
  else s

/-- DRAM_REFRESH (R40, R670): the rate follows the hub's band. -/
def State.dramRefresh (s : State) : State :=
  let b := (s.hub.pm.die 4).band
  { s with hub.dram.rate := if b = 4 then 4 else if b = 3 then 2 else 1 }

/-- AGEING_MEASURE (R674, R676). -/
def State.ageMeasure (s : State) (die : Nat) (ss : List Int) : State :=
  if s.hub.run = 2 ∧ die ≤ 4 then { s with hub.pm := s.hub.pm.ageMeasure die ss (s.vFallOk die) } else s

/-- AGEING_REPLAN (R676): LIMIT is journalled. -/
def State.ageReplan (s : State) (die : Nat) (boot : Bool) : State :=
  if s.hub.run = 2 ∧ die ≤ 4 then
    let r := s.hub.pm.ageReplan s.now die boot (s.vFallOk die)
    let s : State := { s with hub.pm := r.1 }
    if r.2 then s.hubJr JEv.ageLimit [(die : Int)] else s
  else s

/-- AGEING_RECORD (R677). -/
def State.ageRecord (s : State) (die : Nat) : State :=
  if s.hub.run = 2 ∧ die ≤ 4 ∧ s.hub.ring.timeValid then { s with hub.pm := s.hub.pm.ageRecord s.env.site die } else s

end Sys2Proof.Machine
end

