-- ==== Sys2Proof/Machine/Fw.lean ====
section
/-! DEFINITION. Sys2Proof/Machine/Fw.lean: firmware in service: staging, commit, activation and trial, and the service hold
of a channel (R561 to R568, R573 to R578, R703 to R706). Units: channels 0 to 3, the hub at 4. -/

namespace Sys2Proof.Machine

/-- The image of the slot that BOOT names (`other`: of the slot that it does not name). -/
def FwSt.slot (f : FwSt) (other : Bool) : Option (List Word) := if f.boot != other then f.s1 else f.s0

/-- The slot that BOOT does not name, written. -/
def FwSt.setOther (f : FwSt) (x : Option (List Word)) : FwSt := if f.boot then { f with s0 := x } else { f with s1 := x }

/-- R565: the inactive slot holds the staged image. -/
def FwSt.committed (f : FwSt) : Bool := f.staged.isSome && decide (f.slot true = f.staged)

/-- FW_STATE (R577). -/
def FwSt.code (f : FwSt) : FwState :=
  if f.act then .activating
  else if f.tTrial.isSome then .trial
  else if f.commit then .committing
  else if f.committed then .committed
  else if f.staged.isSome then .staged
  else .idle

/-- FW_NEXT (R577). -/
def FwSt.next (f : FwSt) : Word := match f.staged with | some im => imgVersion im | none => 0

/-- Seconds left in the trial (R577). -/
def FwSt.left (f : FwSt) (now : Nat) : BitVec 16 := match f.tTrial with
  | some t => toU 16 ((t - now + 999999999) / 1000000000 : Nat)
  | none => 0

/-- The registers of a unit's firmware (R577, R578). -/
def State.fwView (s : State) (u : Nat) : State :=
  let f : FwSt := vget s.hub.fw u {}
  if u < 4 then
    let k := s.ch u
    let r := k.core.r
    s.setCh u { k with core := { k.core with r := { r with
      fwStatus := { r.fwStatus with fwState := f.code, trialLeft := f.left s.now }
      fwNext := f.next } } }
  else if u = 4 then
    let r := s.hub.r
    { s with hub.r := { r with fwStatus := { r.fwStatus with fwState := f.code, trialLeft := f.left s.now }, fwNext := f.next } }
  else s

/-- A unit's firmware state changed. -/
def State.modFw (s : State) (u : Nat) (f : FwSt → FwSt) : State :=
  ({ s with hub.fw := vMod s.hub.fw u f } : State).fwView u

/-- The version and the slot that run, and TRIAL_FAIL (R577). A slot with the image the die was made with keeps the version
it had. -/
def State.fwRunningView (s : State) (u : Nat) (alt fail : Bool) : State :=
  let f : FwSt := vget s.hub.fw u {}
  let ver (old : Word) : Word := match f.slot alt with
    | some (w :: ws) => imgVersion (w :: ws)
    | _ => old
  if u < 4 then
    let k := s.ch u
    let r := k.core.r
    s.setCh u { k with core := { k.core with r := { r with
      fwStatus := { r.fwStatus with slot := f.boot != alt, trialFail := r.fwStatus.trialFail || fail }
      fwVer := ver r.fwVer } } }
  else
    let r := s.hub.r
    { s with hub.r := { r with
        fwStatus := { r.fwStatus with slot := f.boot != alt, trialFail := r.fwStatus.trialFail || fail }, fwVer := ver r.fwVer } }

/-- A descriptor whose work has ended completes. -/
def State.complRef (s : State) (ref : Option DescRef) (st : Nat) : State :=
  match ref with
  | some r => s.complete { ref := r, status := st }
  | none => s

/-! ### Load and commit (R565, R593, R704) -/

/-- The greatest length of an image, bytes (R565). -/
def fwMax (u : Nat) : Nat := if u < 4 then 4194304 else 29360128

/-- 0x0801 before its words. -/
def State.fwLoadCheck (s : State) (u : Nat) (d : Desc) : Option Nat :=
  let f : FwSt := vget s.hub.fw u {}
  let n := (d.pay 1).toNat
  if !d.onlyBits [7, 0xFFFFFFFF, 0xFFFFFFFF] then some 0x05
  else if f.commit || f.act then some 0xAB
  else if n < 4 ∨ n % 4 ≠ 0 ∨ fwMax u < n then some 0xA0
  else none

/-- 0x0801 with its words (R593): the hub checks the image. -/
def State.fwLoadDone (s : State) (u : Nat) (d : Desc) (ws : List Word) : State × Nat :=
  let hk := s.hub.key
  let arb := (if u < 4 then (s.ch u).key.r.lcArb.arbFw else hk.r.lcArb.arbFw).toNat
  let ok := hk.imageOk true (if u < 4 then 1 else 0) (if u < 4 then 2 else 1) arb (d.pay 1).toNat ws
  if !ok || decide (imgVersion ws ≠ d.pay 2) then (s, 0xA0)
  else (s.modFw u (fun (f : FwSt) => { f with staged := some ws }), 0)

/-- 0x0802 (R704 step 1): the header of the inactive slot is erased and the body is written. -/
def State.dFwCommit (s : State) (u : Nat) (d : Desc) (ref : DescRef) : State × Option Nat :=
  let f : FwSt := vget s.hub.fw u {}
  if !d.onlyBits [0, 0, 0xFFFFFFFF] then (s, some 0x05)
  else if f.commit || f.act then (s, some 0xAB)
  else match f.staged with
    | none => (s, some 0xA1)
    | some im =>
      if imgVersion im ≠ d.pay 2 then (s, some 0xA1)
      else (s.modFw u (fun (f : FwSt) => { f.setOther none with commit := true, tCommit := s.now, ref := some ref }), none)

/-- FW_COMMIT_DONE (R565, R704): the header is written once the body verifies; a commit that does not verify leaves the slot
without a header and posts no completion. -/
def State.fwCommitDone (s : State) (u : Nat) (ok : Bool) : State :=
  let f : FwSt := vget s.hub.fw u {}
  if !f.commit ∨ 4 < u then s
  else
    let s' := s.modFw u (fun (f : FwSt) =>
      let g : FwSt := { f with commit := false, ref := none }
      if ok then g.setOther f.staged else g)
    if ok then s'.complRef f.ref 0 else s'

/-! ### Activation and trial (R566 to R568, R705) -/

/-- R566, R567: firmware of a unit restarts. The hub's engine goes OFFLINE and the gateway role ends. -/
def State.fwRestart (s : State) (u : Nat) (back : Bool) : State :=
  let s := s.modFw u (fun (f : FwSt) => { f with act := true, tAct := s.now, back := back, tTrial := none })
  if u = 4 then
    let s := s.cobAbort 4 true
    let g := s.hub.gw
    let g : Gw := if g.role then { g.clear with r.status.gateway := false } else g
    { s with hub.gw := g, hub.eng := s.hub.eng.setRole .offline }
  else s

/-- R568: the previous slot is reactivated. -/
def State.fwBack (s : State) (u : Nat) (fail : Bool) : State :=
  let s := s.modFw u (fun (f : FwSt) => { f with boot := f.prev, trialF := false, ref := none })
  let s := s.fwRestart u true
  if fail then s.fwRunningView u false true else s

/-- 0x0803. -/
def State.dFwActivate (s : State) (u : Nat) (d : Desc) (ref : DescRef) : State × Option Nat :=
  let f : FwSt := vget s.hub.fw u {}
  let confirm := d.bit 0 0
  let revert := d.bit 0 1
  let t := d.fld 1 0 16
  let k := s.ch u
  let rec' := if u < 4 then decide (k.core.run = 3) else decide (s.hub.run = 3)
  if !d.onlyBits [3, 0xFFFF] || (confirm && revert) then (s, some 0x05)
  else if f.commit || f.act then (s, some 0xAB)
  else if confirm then
    if f.tTrial.isNone then (s, some 0xA5)
    else
      let arb := match f.slot false with | some im => imgArb im | none => 0
      let s := s.modFw u (fun (f : FwSt) => { f with tTrial := none, trialF := false, staged := none })
      let up (x : Key) : Key := { x with r.lcArb.arbFw := raiseArb x.r.lcArb.arbFw arb }
      (if u < 4 then s.setCh u { s.ch u with key := up (s.ch u).key } else { s with hub.key := up s.hub.key }, some 0)
  else if revert then (if f.tTrial.isNone then (s, some 0xA5) else (s.fwBack u false, some 0))
  else if u < 4 ∧ !rec' ∧ !(decide (k.core.r.svc.state = .held) && decide (k.core.r.svc.purpose = .update)) then (s, some 0xA3)
  else if u = 4 ∧ s.hub.eng.active then (s, some 0xA4)
  else if !f.committed then (s, some 0xA2)
  else
    let s := s.modFw u (fun (f : FwSt) => { f with
      boot := !f.boot, prev := f.boot, trialF := true, ref := some ref, trial := sNs (max 10 (min 3600 t)) })
    (s.fwRestart u false, none)

/-- FW_RUNNING (R566 to R568): the firmware runs again; an activation completes and its trial opens. -/
def State.fwRunning (s : State) (u : Nat) : State :=
  let f : FwSt := vget s.hub.fw u {}
  if !f.act ∨ 4 < u then s
  else
    let s := s.modFw u (fun (f : FwSt) =>
      { f with act := false, back := false, ref := none, tTrial := if f.back then none else some (s.now + f.trial) })
    let s := s.fwRunningView u false false
    let s : State := if u = 4 then { s with hub.eng := { s.hub.eng.setRole .none with pair := { (s.hub.eng.setRole .none).pair with tGone := s.now } } } else s
    let s : State :=
      if u < 4 ∧ (s.ch u).core.run = 3 then
        (s.onCh u (fun e k => k.bootRun e))
      else if u = 4 ∧ s.hub.run = 3 then { s with hub.run := 2, hub.r.boot.recovery := false }
      else s
    if f.back then s else s.complRef f.ref 0

/-- TRIAL_LAPSE (R568): TRIAL_T has run out, or the new firmware has not reached running in time. -/
def State.trialLapse (s : State) (u : Nat) : State :=
  let f : FwSt := vget s.hub.fw u {}
  let late := match f.tTrial with | some t => decide (t ≤ s.now) | none => false
  let missed := f.act && !f.back && decide (f.tAct + sNs (if u < 4 then 1 else 2) ≤ s.now)
  if 4 < u ∨ !(late || missed) then s
  else
    let s := s.fwBack u true
    s.hubJr JEv.trialFail [(u : Int)]

/-! ### The slot chosen at boot (R703 to R706) -/

/-- R703 to R705: what the ROM finds in the slot pointer and the slots; true: a slot runs. `okBoot`, `okOther`: the images in
BOOT and in the other slot pass the ROM's checks. -/
def State.fwBoot (s : State) (u : Nat) (okBoot okOther : Bool) : State × Bool :=
  let f : FwSt := vget s.hub.fw u {}
  let ended := f.trialF
  let cut := f.commit
  let s := s.modFw u (fun (f : FwSt) => { f with
    boot := if f.trialF then f.prev else f.boot, trialF := false, commit := false, act := false, back := false
    ref := none, tTrial := none })
  let f : FwSt := vget s.hub.fw u {}
  let a := okBoot && (f.slot false).isSome
  let b := okOther && (f.slot true).isSome
  let alt := !a && b
  let s := s.fwRunningView u alt ended
  let s : State :=
    if u < 4 then
      let k := s.ch u
      let r := k.core.r.boot
      s.setCh u { k with core.r.boot := { r with
        slotAlt := alt, trialEnd := r.trialEnd || ended, commitInt := r.commitInt || cut } }
    else
      let r := s.hub.r.boot
      { s with hub.r.boot := { r with
          recovery := !a && !b, slotAlt := alt, trialEnd := r.trialEnd || ended, commitInt := r.commitInt || cut } }
  let s := if ended then s.hubJr JEv.trialEnd [(u : Int)] else s
  let s := if cut then s.hubJr JEv.commitInt [(u : Int)] else s
  (s, a || b)

/-! ### The service hold (R561 to R564) -/

/-- R563: a channel of the module other than n is DRAINING or HELD with PURPOSE UPDATE or TEST. -/
def State.heldElse (s : State) (n : Nat) : Bool :=
  (List.range 4).any (fun i =>
    let v := (s.ch i).core.r.svc
    decide (i ≠ n) && decide (v.state ≠ .inService) && decide (v.purpose ≠ .service))

/-- 0x0806 at channel n. -/
def State.dChHold (s : State) (n : Nat) (d : Desc) : State × Option Nat :=
  let pf := d.fld 0 4 2
  if !d.onlyBits [0x131] ∨ pf = 3 then (s, some 0x05)
  else if d.bit 0 8 then
    -- a LEAVE during a channel test aborts the test first (R689)
    let cut := s.hub.cob.run.any (fun (r : CobRun) => decide (r.task.die = n) && cobC r.task.test)
    let s := if cut then s.cobAbort n false else s
    (s.onCh n (fun _ k => { k with core.r.svc := { k.core.r.svc with state := .inService, stop := false } }), some 0)
  else
    let p : SvcPurpose := if pf = 0 then .service else if pf = 1 then .update else .test
    if p ≠ .service ∧ s.heldElse n then (s, some 0xA8)
    else
      let st := d.bit 0 0
      (s.onCh n (fun e k =>
        let v := k.core.r.svc
        if v.state = .inService then
          let k : Chan := { k with core.r.svc := { state := .draining, purpose := p, stop := st } }
          if st then k.vHostStop e else k
        else k), some 0)

end Sys2Proof.Machine
end

