-- ==== Sys2Proof/Machine/Secure.lean ====
section
/-! DEFINITION. Sys2Proof/Machine/Secure.lean: keys, life cycle and tamper at the dies of the module: the descriptors of
group 0x07 and the alarms (R579 to R608). -/

namespace Sys2Proof.Machine

/-- The key store of a die changed. -/
def State.setKey (s : State) (die : Nat) (x : Key) : State :=
  if die < 4 then s.setCh die { s.ch die with key := x } else if die = 4 then { s with hub.key := x } else s

/-- What the keys of a die depend on outside the key store (R581, R582, R585 to R587). -/
def State.keyCtx (s : State) (die : Nat) : KeyCtx :=
  let f : FwSt := vget s.hub.fw die {}
  if die < 4 then
    let k := s.ch die
    { sealed := k.ledg.r.status.sealed, recOpen := k.ledg.opn.isSome, charging := !k.core.meterRole
      loopIdle := decide (k.loop.r.status.state = .idle), confOk := k.shk.r.status.confOk, busy := f.commit || f.act }
  else { busy := f.commit || f.act }

/-! ### Tamper alarms (R595 to R600) -/

/-- The 24-bit source of an alarm (R597). -/
def tampSource (die code : Nat) : BitVec 24 := BitVec.ofNat 24 (65536 * (die % 8) + code % 256)

/-- The transfer of a key write that an alarm interrupts completes with 0x09 (R598). -/
def State.keyOpsCut (s : State) (die : Nat) : State :=
  let hit := s.xfers.filter (fun (x : Xfer) => decide (x.die = die) && decide (x.d.opcode = 0x0701))
  let s : State := { s with xfers := s.xfers.filter (fun (x : Xfer) => !(decide (x.die = die) && decide (x.d.opcode = 0x0701))) }
  hit.foldl (fun (s : State) (x : Xfer) => s.complete { ref := x.ref, status := 0x09 }) s

/-- R598: what the first alarm does in a Sole that runs: the session ends with cause 0x09, the ledger notes it, and the
volatile session keys are due within 2 s, or go at once where there is no session. -/
def Chan.alarmed (k : Chan) (e : Env) (src : BitVec 24) : Chan :=
  let sess := !(k.vIn [.off, .unplugged, .plugged, .ended])
  let k := (k.vTamper e).legalTamper.eventRec e 4 src
  let k : Chan := if sess then { k with key.tVol := some (e.now + sNs 2) } else k.volZero e
  k.jr e .hub JEv.tamper [(src.toNat : Int)] true

/-- R598, R599: an alarm of one die with a code. -/
def State.alarm (s : State) (die code : Nat) : State :=
  let run := if die < 4 then (s.ch die).core.run else s.hub.run
  let boot := decide (run < 2)
  let r := (s.keyOf die).alarm code boot
  let s := s.setKey die r.1
  let s := s.cobAbort die false
  if !r.2 then s
  else
    let s := s.pmWake die 3
    let s := s.keyOpsCut die
    if die < 4 then s.onCh die (fun e k => k.alarmed e (tampSource die code))
    else
      let s := s.hubJr JEv.tamper [(tampSource die code).toNat] true
      { s with hub.key := s.hub.key.zeroVol }

/-- TAMPER_PROPAGATE (R600): an alarm of the hub passes to every Sole that its stitch link reaches. -/
def State.alarmAll (s : State) (die code : Nat) : State :=
  let s := s.alarm die code
  if die = 4 then
    (List.range 4).foldl (fun (s : State) n =>
      if 1 ≤ (s.ch n).core.run ∧ !(vget s.hub.st n {}).hubLost then s.alarm n 7 else s) s
  else s

/-- TAMPER_INPUT_ALARM (R595): an input of a die at a level for a time. -/
def State.tampInput (s : State) (die : Nat) (i isOpen : Bool) (ms : Nat) : State :=
  if 4 < die then s
  else
    let r := (s.keyOf die).input i isOpen ms
    let s := s.setKey die r.1
    if r.2 then s.alarmAll die (if i then 2 else 1) else s

/-- TAMPER_DETECTOR_ALARM (R596): the reading of a detector of a die; the mesh is the hub's. -/
def State.tampDet (s : State) (die code : Nat) (x : Int) : State :=
  if 4 < die ∨ code < 3 ∨ 6 < code ∨ (code = 6 ∧ die ≠ 4) then s
  else
    let a := detAlarm code x
    let k := s.keyOf die
    let s := s.setKey die { k with det := msetb k.det (code - 1) a }
    if a then s.alarmAll die code else s

/-- SESSION_KEY_ZEROISE (R598): 2 s after the alarm. -/
def Chan.volDue (k : Chan) (e : Env) : Chan :=
  match k.key.tVol with
  | some t => if t ≤ e.now then k.volZero e else k
  | none => k

/-! ### Descriptors (R603 to R605) -/

/-- 0x0702. -/
def State.dZeroise (s : State) (die : Nat) (d : Desc) : State × Option Nat :=
  let r := (s.keyOf die).zeroise (decide (die = 4)) (s.keyCtx die) d
  (s.setKey die r.1, some r.2)

/-- 0x0703. -/
def State.dAdvance (s : State) (die : Nat) (d : Desc) : State × Option Nat :=
  let r := (s.keyOf die).advance (decide (die = 4)) (s.keyCtx die) d
  (s.setKey die r.1, some r.2)

/-- 0x0704: a change of the flag closes a TLS session (R582). -/
def State.dDebug (s : State) (die : Nat) (d : Desc) : State × Option Nat :=
  let k := s.keyOf die
  let r := k.debugSet (decide (die = 4)) (s.keyCtx die) d
  let s := s.setKey die r.1
  let s := if die < 4 ∧ r.2 = 0 ∧ r.1.r.lcStatus.debug ≠ k.r.lcStatus.debug then
      s.onCh die (fun e k => if k.veh.r.status.tls then k.vTlsLost e else k)
    else s
  (s, some r.2)

/-- 0x0705 (R600): a hub's also clears the holds that are only propagated. -/
def State.dTamper (s : State) (die : Nat) (d : Desc) : State × Option Nat :=
  let k := s.keyOf die
  let prop := (List.range 4).filter (fun n => (s.ch n).key.r.tampStatus.hold && (s.ch n).key.propOnly)
  if !d.onlyBits [] then (s, some 0x05)
  else if !k.r.tampStatus.hold then (s, some 0xB4)
  else if k.sourceOpen ∨ (die = 4 ∧ prop.any (fun n => (s.ch n).key.sourceOpen)) then (s, some 0xB3)
  else
    let s := s.setKey die k.release
    let s := if die = 4 then prop.foldl (fun (s : State) n => s.setKey n (s.ch n).key.release) s else s
    (s, some 0)

/-- 0x0706. -/
def State.dTampCfg (s : State) (die : Nat) (d : Desc) : State × Option Nat :=
  let r := (s.keyOf die).tampCfg d
  (s.setKey die r.1, some r.2)

/-- 0x0707 (R714): ACK_PEND clears, at every Sole too; BLANK and RETIRED do not permit it (R580). -/
def State.dStuckAck (s : State) (d : Desc) : State × Option Nat :=
  if !d.onlyBits [] then (s, some 0x05)
  else if s.hub.key.r.lcStatus.state = .blank ∨ s.hub.key.r.lcStatus.state = .retired then (s, some 0xB0)
  else if !s.hub.r.rstStatus.ackPend then (s, some 0xB7)
  else
    ({ s with
       hub.r.rstStatus := { s.hub.r.rstStatus with ackPend := false }
       chans := s.chans.map (fun (k : Chan) => { k with core := { k.core with ackPend := false } }) }, some 0)

end Sys2Proof.Machine
end

