-- ==== Sys2Proof/Machine/NodeDesc.lean ====
section
/-! DEFINITION. Sys2Proof/Machine/NodeDesc.lean: how the dies of this node take and execute descriptors, and the word-port
transfers at them (R524, R526 to R531, R533 to R538, R661). -/

namespace Sys2Proof.Machine

/-! ### Word-port transfers (R533 to R538) -/

/-- A WORD frame of this node to the gateway of a transfer (R539): KIND, BSEQ, check value, words. -/
def State.portSend (s : State) (x : Xfer) (kind bseq : Nat) (crc : Word) (ws : List Word) : State :=
  if s.nid = none ∨ s.nid = some x.d.gw then
    { s with hub.gw := s.hub.gw.word s.now (s.nid.getD 0) kind x.port bseq crc ws }
  else
    let w0 := BitVec.ofNat 32 (kind * 2 ^ 28 + x.port % 8 * 2 ^ 24 + ws.length % 4096 * 2 ^ 12 + bseq % 4096)
    s.originate .word (some x.d.gw) (w0 :: crc :: ws)

/-- The words of the block of a transfer out that stands at its position (R534, R536). -/
def Xfer.block (x : Xfer) : List Word := (x.words.drop x.pos).take 1024

/-- R536: the target sends the block, with its check value. -/
def State.portBlock (s : State) (x : Xfer) : State := s.portSend x 1 x.bseq (crc32c x.block) x.block

/-- The reference a transfer completes with: the words moved and the blocks resent, unless the counter was stored (R527). -/
def Xfer.result (x : Xfer) (moved : Nat) : DescRef :=
  if x.ref.r0 = 0 ∧ x.ref.r1 = 0 then { x.ref with r0 := BitVec.ofNat 32 moved, r1 := BitVec.ofNat 32 x.resent } else x.ref

/-- The transfer of a port of this node. -/
def State.xferOf (s : State) (port : Nat) : Option Xfer := s.xfers.find? (fun (x : Xfer) => decide (x.port = port))

/-- A transfer ends. -/
def State.xferDrop (s : State) (port : Nat) : State :=
  { s with xfers := s.xfers.filter (fun (x : Xfer) => decide (x.port ≠ port)) }

/-- A transfer stands at a new position. -/
def State.xferPut (s : State) (x : Xfer) : State :=
  { s with xfers := s.xfers.map (fun (y : Xfer) => if y.port = x.port then x else y) }

/-- A channel operation that answers a code, run at channel n. -/
def State.chAct {α : Type} (s : State) (n : Nat) (f : Env → Chan → Chan × α) : State × α :=
  let r := f s.env (s.ch n)
  (s.onCh n (fun _ _ => r.1), r.2)

/-- The words of a transfer into the module have all come (R335, R305, R585, R565): the code it completes with. -/
def State.portDone (s : State) (die : Nat) (d : Desc) (ws : List Word) : State × Nat :=
  match d.opcode with
  | 0x0104 => s.chAct die (fun _ k => k.certDone d ws)
  | 0x0409 => s.chAct die (fun e k => k.loadDone e d ws)
  | 0x0701 =>
    let r := (s.keyOf die).writeSlot (decide (die = 4)) (d.fld 0 16 4) ((d.pay 1).extractLsb' 0 9) ws
    (s.setKey die r.1, r.2)
  | 0x0801 => s.fwLoadDone die d ws
  | _ => (s, 0)

/-- R533: a descriptor binds its port: 0x63 where a transfer holds it. `words`: what goes out; `need`: words to take in. -/
def State.portStart (s : State) (die : Nat) (d : Desc) (ref : DescRef) (words : List Word) (need : Nat) : State × Option Nat :=
  match d.portOf with
  | none => (s, some 0x05)
  | some (port, isOut) =>
    if (s.xferOf port).isSome then (s, some 0x63)
    else if !isOut && decide (need = 0) then
      let r := s.portDone die d []
      (r.1, some r.2)
    else
      let x : Xfer := { die := die, d := d, ref := ref, port := port, isOut := isOut, words := words, need := need }
      let s : State := { s with xfers := s.xfers ++ [x] }
      (if isOut then s.portBlock x else s, none)

/-- A block arrives for a transfer into the module (R535); a key write takes one block, of any length (R585). -/
def State.portIn (s : State) (x : Xfer) (bseq : Nat) (crc : Word) (ws : List Word) : State :=
  if crc32c ws ≠ crc ∨ bseq % 4096 ≠ x.bseq % 4096 then
    (s.xferPut { x with resent := x.resent + 1 }).portSend x 3 x.bseq 0 []
  else
    let got := x.words ++ ws
    let key := decide (x.d.opcode = 0x0701)
    if key ∨ x.need ≤ got.length then
      let s := s.xferDrop x.port
      let ws := if key then got else got.take x.need
      let r := s.portDone x.die x.d ws
      r.1.complete { ref := x.result ws.length, status := r.2 }
    else
      (s.xferPut { x with words := got, bseq := (x.bseq + 1) % 32768 }).portSend x 2 x.bseq 0 []

/-- ACK or NAK of a block out (R536): eight NAKs in a row end the transfer with 0x0D. -/
def State.portAck (s : State) (x : Xfer) (ack : Bool) : State :=
  if ack then
    let n := x.block.length
    let s := if x.d.opcode = 0x0407 then
        s.onCh x.die (fun _ k => { k with ledg := k.ledg.stream (x.d.pay 1).toNat x.pos (x.pos + n) })
      else s
    let x : Xfer := { x with pos := x.pos + n, bseq := (x.bseq + 1) % 32768, naks := 0 }
    if x.words.length ≤ x.pos then (s.xferDrop x.port).complete { ref := x.result x.words.length, status := 0 }
    else (s.xferPut x).portBlock x
  else if 7 ≤ x.naks then (s.xferDrop x.port).complete { ref := x.result x.pos, status := 0x0D }
  else
    let x : Xfer := { x with naks := x.naks + 1, resent := x.resent + 1 }
    (s.xferPut x).portBlock x

/-- WORD (R535, R536): a word-port message reaches the target die from the gateway that bound the port. -/
def State.xferWord (s : State) (src kind port bseq : Nat) (crc : Word) (ws : List Word) : State :=
  match s.xferOf port with
  | none => s
  | some x =>
    if x.d.gw ≠ src then s
    else if kind = 1 ∧ !x.isOut then s.portIn x bseq crc ws
    else if kind = 2 ∧ x.isOut then s.portAck x true
    else if kind = 3 ∧ x.isOut then s.portAck x false
    else s

/-! ### The planner's descriptors (R233) -/

/-- The opcodes that a hub passes on to the active engine (R233, R573). -/
def forEngine (op : Nat) : Bool := decide (op / 256 = 3) || decide (op = 0x0804) || decide (op = 0x0805)

/-- The engine of this hub executes a descriptor. -/
def State.engineDo (s : State) (d : Desc) (ref : DescRef) : State × Option Nat :=
  let r := s.hub.eng.config s.lctx d ref
  ({ s with hub.eng := r.1 }, r.2)

/-- R233: the receiving hub passes a descriptor on to the active engine, or executes it where it is that engine; where no
engine is active the receiving hub executes it (DEDUCED). -/
def State.toEngine (s : State) (d : Desc) (ref : DescRef) : State × Option Nat :=
  match (if s.hub.eng.active then none else s.hub.eng.pair.act.map (·.1)) with
  | none => s.engineDo d ref
  | some n =>
    if !(s.others.contains n) then s.engineDo d ref
    else
      let g := s.hub.gw
      let id := g.rid
      let l := s.hub.eng.last
      let s : State := { s with
        hub.gw := { g with rid := (id + 1) % 4096 }
        hub.eng := { s.hub.eng with last := { l with fwd := (id, ref) :: l.fwd.filter (fun x => decide (x.1 ≠ id)) } } }
      (s.originate .desc (some n) (BitVec.ofNat 32 id <<< 20 :: 0 :: d.w.toList), none)

/-! ### What each opcode does at its die (R751) -/

/-- Payload masks of the opcodes whose operation does not check its reserved bits itself (R522, code 0x05). -/
def payMask (op : Nat) : Option (List Word) :=
  match op with
  | 0x0101 => some (List.replicate 8 0xFFFFFFFF)
  | 0x0102 | 0x0103 | 0x0604 => some []
  | 0x0104 => some [0x30F, 7, 0xFFFF]
  | 0x0105 => some [1]
  | 0x0601 => some (0x000F000F :: List.replicate 6 0xFFFFFFFF)
  | 0x0602 => some [0xFFFFFFFF]
  | 0x0603 => some [0xF3F]
  | _ => none

/-- A descriptor of a channel executed at its Sole. -/
def State.chOp (s : State) (n : Nat) (d : Desc) (ref : DescRef) : State × Option Nat :=
  if (payMask d.opcode).any (fun m => !d.onlyBits m) || !d.ledgerBits then (s, some 0x05)
  else match d.opcode with
  | 0x0101 => s.chAct n (fun e k => k.dAuthAccept e d)
  | 0x0102 => s.chAct n (fun e k => k.dAuthReject e d)
  | 0x0103 => s.chAct n (fun e k => k.dSessionStop e d)
  | 0x0104 =>
    if !d.certRange then (s, some 0x73)
    else match (s.ch n).certCheck d with
      | some st => (s, some st)
      | none => s.portStart n d ref [] ((d.fld 2 0 16 + 3) / 4)
  | 0x0105 => s.chAct n (fun _ k => k.dAuthMode d)
  | 0x0201 => s.chAct n (fun _ k => k.dBankWrite d)
  | 0x0202 => s.chAct n (fun _ k => k.dBankSeal d)
  | 0x0203 => s.chAct n (fun _ k => k.dBankSwap d)
  | 0x0204 => s.chAct n (fun e k => k.dLoopStart e d)
  | 0x0205 => s.chAct n (fun e k => k.dLoopStop e d)
  | 0x0206 => s.chAct n (fun _ k => k.dSetpoint d)
  | 0x0207 => s.chAct n (fun _ k => k.dLimits d)
  | 0x0208 =>
    let hot := (s.hub.pm.die n).t.any (fun t => decide (1150 ≤ t)) && (s.hub.pm.die n).tjSd
    s.chAct n (fun e k => k.dLoopClear e hot d)
  | 0x0209 => s.chAct n (fun e k => k.dFbReturn e d)
  | 0x0304 | 0x0305 | 0x0306 => s.toEngine d ref
  | 0x0401 => s.chAct n (fun _ k => k.dCapArm d)
  | 0x0402 => s.chAct n (fun e k => k.dCapTrigger e d)
  | 0x0403 =>
    match (s.ch n).capWords ((s.gcid n).getD 0) d with
    | .inl st => (s, some st)
    | .inr ws => s.portStart n d ref ws ws.length
  | 0x0404 => s.chAct n (fun _ k => k.dEmapClear d)
  | 0x0405 => s.chAct n (fun e k => k.dSeal e d ref)
  | 0x0406 => s.chAct n (fun e k => k.dUnseal e d ref)
  | 0x0407 =>
    match (s.ch n).ledgerWords d with
    | .inl st => (s, some st)
    | .inr ws => s.portStart n d ref ws ws.length
  | 0x0408 => s.chAct n (fun e k => k.dLedgerAck e d)
  | 0x0409 =>
    if (s.ch n).ledg.sealing then
      (s.onCh n (fun _ k => { k with ledg := { k.ledg with wait := k.ledg.wait ++ [d] } }), none)
    else match (s.ch n).loadCheck d with
      | some st => (s, some st)
      | none => s.portStart n d ref [] ((d.pay 1).toNat / 4)
  | 0x0501 => s.chAct n (fun _ k => k.dEyOutput d)
  | 0x0502 => s.chAct n (fun e k => k.dEyClear e d)
  | 0x0503 => s.chAct n (fun _ k => k.dEyLimits d)
  | 0x0504 => s.chAct n (fun _ k => k.dEyResume d)
  | 0x0505 => s.chAct n (fun _ k => k.dEyFailsafe d)
  | 0x0601 => s.chAct n (fun e k => k.dShkParam e d)
  | 0x0602 => s.chAct n (fun _ k => k.dShkConfirm d)
  | 0x0603 => s.chAct n (fun e k => k.dShkReset e d)
  | 0x0604 => s.chAct n (fun e k => k.dShkTest e d)
  | 0x0806 => s.dChHold n d
  | _ => (s, some 0x01)

/-- A descriptor that a Sole and a hub both take, executed at its die. -/
def State.dieOp (s : State) (die : Nat) (d : Desc) (ref : DescRef) : State × Option Nat :=
  match d.opcode with
  | 0x0701 =>
    let hub := decide (die = 4)
    match (s.keyOf die).writeCheck hub (s.keyCtx die) d with
    | some st => (s, some st)
    | none => s.portStart die d ref [] (keyWords hub (d.fld 0 16 4))
  | 0x0702 => s.dZeroise die d
  | 0x0703 => s.dAdvance die d
  | 0x0704 => s.dDebug die d
  | 0x0705 => s.dTamper die d
  | 0x0706 => s.dTampCfg die d
  | 0x0801 =>
    match s.fwLoadCheck die d with
    | some st => (s, some st)
    | none => s.portStart die d ref [] ((d.pay 1).toNat / 4)
  | 0x0802 => s.dFwCommit die d ref
  | 0x0803 => s.dFwActivate die d ref
  | 0x0901 => s.dCobRun die d ref
  | 0x0902 => s.dCobAbort die d
  | _ => if die < 4 then s.chOp die d ref else (s, some 0x01)

/-- A descriptor executed at its die, a Sole or the hub. -/
def State.descOp (s : State) (die : Nat) (d : Desc) (ref : DescRef) : State × Option Nat :=
  if die = 4 then
    match d.opcode with
    | 0x0301 | 0x0302 | 0x0303 | 0x0307 | 0x0804 | 0x0805 => s.toEngine d ref
    | 0x0707 => s.dStuckAck d
    | 0x0903 => s.dCobSched d
    | _ => s.dieOp die d ref
  else s.dieOp die d ref

/-- A descriptor's operation has answered: it completes, or completes later. -/
def State.answer (r : State × Option Nat) (ref : DescRef) : State :=
  match r.2 with
  | some st => r.1.complete { ref := ref, status := st }
  | none => r.1

/-- R530: the target die checks a critical descriptor and executes; others execute at once. -/
def State.descRun (s : State) (die : Nat) (d : Desc) : State :=
  match opRow d.opcode with
  | none => s.complete { ref := d.ref false, status := 0x01 }
  | some row =>
    if !row.target.fits d.chan then s.complete { ref := d.ref false, status := 0x02 }
    else if row.critical then
      let c := (s.keyOf die).critical (decide (die = 4)) d
      let s := s.setKey die c.1
      let ref := d.ref c.2.2
      match c.2.1 with
      | some st => s.complete { ref := ref, status := st }
      | none => State.answer (s.descOp die d ref) ref
    else State.answer (s.descOp die d (d.ref false)) (d.ref false)

/-- The opcodes a die in recovery takes (R706). -/
def recoveryOp (op : Nat) : Bool := decide (op = 0x0801) || decide (op = 0x0802) || decide (op = 0x0803)

/-- What happens to a descriptor that reaches a die: it is executed, completes with 0x04, or waits in the hub (R567, R661) or
for the end of a memory test (R683). -/
inductive DescFate where
  | run | noChannel | hold | test
  deriving DecidableEq, Repr

/-- A die runs the memory test that makes accesses and descriptors wait (R683). -/
def State.memTest (s : State) (die : Nat) : Bool :=
  s.hub.cob.run.any (fun (r : CobRun) => decide (r.task.die = die) && (decide (r.task.test = 3) || decide (r.task.test = 13)))

/-- R524, R567, R598, R661, R683, R706. -/
def State.descFate (s : State) (die : Nat) (d : Desc) : DescFate :=
  if (vget s.hub.fw 4 {}).act then .hold
  else if die < 4 then
    let c := (s.ch die).core
    if (vget s.hub.st die {}).soleLost ∨ c.run = 0 ∨ c.pm = 4 then .noChannel
    else if c.run = 1 then
      (if (s.ch die).key.held ∧ (opRow d.opcode).any (fun r => r.critical) then .run else .noChannel)
    else if c.run = 3 then (if recoveryOp d.opcode then .run else .noChannel)
    else if (vget s.hub.fw die {}).act then .noChannel
    else if c.pm = 3 then .hold
    else if s.memTest die then .test
    else .run
  else if s.hub.run = 3 then (if recoveryOp d.opcode then .run else .noChannel)
  else if s.hub.pm.state 4 ≠ 0 then .hold
  else if s.memTest 4 then .test
  else .run

/-- A descriptor reaches a die of this node. -/
def State.descAt (s : State) (die : Nat) (d : Desc) : State :=
  if s.hub.run < 2 then s
  else match s.descFate die d with
    | .run => s.descRun die d
    | .noChannel => s.complete { ref := d.ref false, status := 0x04 }
    | .hold => ({ s with hub.wait := s.hub.wait ++ [d] } : State).pmWake die 4
    | .test => { s with hub.cob.waits := s.hub.cob.waits ++ [.desc die d] }

/-- R524: the die of this node a descriptor is addressed to. -/
def State.dieOf (s : State) (d : Desc) : Option Nat :=
  if some d.dst.1 = s.nid then some (d.dst.2.getD 4) else none

/-- A descriptor reaches this node. One of the planner's for another node has been checked there and passed on to the active
engine (R233, R530). -/
def State.deliver (s : State) (d : Desc) : State :=
  match s.dieOf d with
  | some die => s.descAt die d
  | none =>
    if s.hub.fwRuns && s.hub.eng.active && forEngine d.opcode then State.answer (s.engineDo d (d.ref false)) (d.ref false) else s

/-- The row of one opcode: its descriptor reaches this node. -/
def State.descRow (s : State) (op : Nat) (d : Desc) : State := if d.opcode = op then s.deliver d else s

/-- R661: the descriptors that waited and now need not. Each is delivered once; what must still wait is held again. -/
def State.unhold (s : State) : State :=
  let ws := s.hub.wait
  if ws.all (fun (d : Desc) => match s.dieOf d with
    | some die =>
      let up := decide (die = 4) || decide ((s.ch die).core.pm ≤ 1)
      !up || decide (s.descFate die d = .hold)
    | none => false) then s
  else
    ws.foldl (fun (s : State) (d : Desc) => match s.dieOf d with
      | some die =>
        if die < 4 ∧ 1 < (s.ch die).core.pm ∧ s.descFate die d ≠ .noChannel then { s with hub.wait := s.hub.wait ++ [d] }
        else s.descAt die d
      | none => s) { s with hub.wait := [] }

/-- R303: the seals, unseals and loads that waited for one being carried out. -/
def State.ledgNext (s : State) (n : Nat) : State :=
  let l := (s.ch n).ledg
  match l.wait with
  | d :: ds =>
    if l.sealing then s
    else
      let s := s.setCh n { s.ch n with ledg := { l with wait := ds } }
      State.answer (s.chOp n d (d.ref true)) (d.ref true)
  | [] => s

end Sys2Proof.Machine
end

