-- ==== Sys2Proof/Machine/Regs.lean ====
section
/-! DEFINITION. Sys2Proof/Machine/Regs.lean: reads and writes of the registers of a node window (R15 to R22, R44, R50 to R53,
R515, R749, R753), whichever gateway they come through. -/

namespace Sys2Proof.Machine

/-! ### Writes in a channel block -/

/-- R515: the registers of a channel block that hold fields only a descriptor changes; every write of one is counted. -/
def chCmdRegs : List Nat := [0x2C, 0x214, 0x218, 0x300, 0x304, 0x308, 0x658, 0x814, 0x818, 0x918, 0xC20]

/-- R19: the registers of a channel block that are read-only once the partition is sealed. -/
def chSealedRegs : List Nat := [0x420, 0x424, 0x428, 0x42C, 0x430]

/-- A write of PWM_CTRL: OFS_SRC, then SYNC_SRC (R81), then ARM (R69, R72). -/
def Pwm.ctrlWrite (p : Pwm) (siteValid : Bool) (w : Word) : Pwm :=
  let n := p.r.ctrl.write w
  let q : Pwm := { p with r.ctrl.ofsSrc := n.ofsSrc }
  let q := if n.syncSrc = p.r.ctrl.syncSrc then q else q.setSyncSrc n.syncSrc siteValid
  if n.arm then q.arm else q.disarm

/-- A write in the PWM_ registers (R70, R71, R77, R85, R105, R107, R125). -/
def Chan.pwmWrite (k : Chan) (e : Env) (o : Nat) (w : Word) : Chan :=
  let p := k.pwm
  let st := p.r.status.state
  let ign : Pwm := { p with r.status.wrIgn := true }
  let plain : Pwm := { p with r := p.r.write o w }
  let q : Pwm :=
    match o with
    | 0x100 => p.ctrlWrite e.siteValid w
    | 0x108 =>
      let n := (w.extractLsb' 0 19).toNat
      if 32000 ≤ n ∧ n ≤ 320000 then plain else ign
    | 0x10C | 0x110 | 0x114 | 0x11C | 0x130 | 0x134 => if st = .disabled then plain else ign
    | 0x120 => p.retireWrite (w.extractLsb' 0 24)
    | 0x128 => if (w.extractLsb' 16 16).toNat < 36000 then plain else ign
    | 0x138 => p.tripClear w k.shk.r.status.inhibit
    | 0x140 => plain.dwellReset
    | 0x14C => if st = .run ∨ st = .tripped then ign else plain
    | 0x18C => p.capture e.now w
    | 0x198 => p.shedView w k.auto
    | _ => plain
  { k with pwm := q.view }

/-- A write in the LOOP_ registers (R158, R179, R189). -/
def Chan.loopWrite (k : Chan) (o : Nat) (w : Word) : Chan :=
  let l := k.loop
  let idle := decide (l.r.status.state = .idle)
  let plain : Loop := { l with r := l.r.write o w }
  let ign : Loop := { l with r.status.wrIgn := true }
  let n : Loop :=
    match o with
    | 0x200 =>
      let c := l.r.ctrl.write w
      if idle || c.spSrc == l.r.ctrl.spSrc then plain
      else { l with r.ctrl := { c with spSrc := l.r.ctrl.spSrc }, r.status.wrIgn := true }
    | 0x208 | 0x20C | 0x24C | 0x250 | 0x264 | 0x268 | 0x26C | 0x270 => if idle then plain else ign
    | 0x238 => l.bankCtl w
    | 0x248 => l.cdataWrite w
    | _ => plain
  { k with loop := n }

/-- A write in the MET_ registers (R244, R246, R254, R272, R294, R296). A fault that is still present sets its bit again
(R53). -/
def Chan.metWrite (k : Chan) (o : Nat) (w : Word) : Chan :=
  let m := k.met
  let n : Met :=
    match o with
    | 0x400 =>
      let c := m.r.ctrl.write w
      m.clocks m.clkRun c.mclk0En c.mclk1En
    | 0x408 =>
      let f := m.r.streamFlt.write w
      let now := (vIdx m.st (fun _ (x : StreamSt) => x.flt)).foldl (fun (b : BitVec 12) i => msetb b i true) 0
      { m with r.streamFlt := { f with flt := f.flt ||| now } }
    | 0x40C => if (w.extractLsb' 0 4).toNat < 12 then { m with r := m.r.write o w } else m
    | 0x410 | 0x414 | 0x418 =>
      { m with st := vMod m.st m.r.calSel.toNat (fun (x : StreamSt) => { x with stage := x.stage.write o w }) }
    | 0x41C =>
      let m : Met := { m with r := m.r.write o w }
      if w.getLsbD 0 then m.apply k.ledg.r.status.sealed else m
    | 0x440 => m.qSel w
    | 0x474 => if w.getLsbD 8 then { m with ivlRst := true } else m
    | 0x488 => m.emapSel w
    | _ => { m with r := m.r.write o w }
  { k with met := n.view }

/-- A write in the VEH_ registers (R331, R357, R360). -/
def Chan.vehWrite (k : Chan) (e : Env) (o : Nat) (w : Word) : Chan :=
  match o with
  | 0x600 => k.vEnable e w
  | 0x610 => k.vCeThr w
  | 0x614 => k.vIdThr w
  | 0x620 => k.vEyMap w
  | _ => { k with veh := { k.veh with r := k.veh.r.write o w } }

/-- COOL_EY_MAP must name three different Eyelets, none of them in VEH_EY_MAP; it changes only in OFF or STANDBY (R369). -/
def Chan.coolEyMap (k : Chan) (w : Word) : Chan :=
  let t := k.cool.r.eyMap.write w
  let v := k.veh.r.eyMap
  let free (i : Nat) : Bool := decide (i ≠ v.pos.toNat ∧ i ≠ v.neg.toNat ∧ i ≠ v.dis.toNat)
  let st := k.cool.r.status.state
  if (st = .off ∨ st = .standby) ∧ t.pump ≠ t.fan ∧ t.pump ≠ t.valve ∧ t.fan ≠ t.valve
      ∧ free t.pump.toNat ∧ free t.fan.toNat ∧ free t.valve.toNat then { k with cool.r.eyMap := t }
  else { k with cool.r.status.wrIgn := true }

/-- A write in the COOL_ registers (R368, R369, R383). -/
def Chan.coolWrite (k : Chan) (e : Env) (o : Nat) (w : Word) : Chan :=
  let st := k.cool.r.status.state
  let plain : Chan := { k with cool := { k.cool with r := k.cool.r.write o w } }
  match o with
  | 0x700 =>
    let k := k.coolCtrl e w
    if w.getLsbD 2 then k.ageRst else k
  | 0x724 => k.coolEyMap w
  | 0x728 | 0x72C | 0x730 => if st = .off ∨ st = .standby then plain else { k with cool.r.status.wrIgn := true }
  | _ => plain

/-- A write in the EY_ registers (R393, R400). -/
def Chan.eyWrite (k : Chan) (e : Env) (o : Nat) (w : Word) : Chan :=
  match o with
  | 0x800 => { k with ey := k.ey.clearMask e.now (w.extractLsb' 0 8) }
  | 0x804 => k.eyCmdWrite (w.extractLsb' 0 16)
  | _ => { k with ey := { k.ey with r := k.ey.r.write o w } }

/-- A write in the registers of a CAN controller (R611, R612, R618, R623, R625, R627). A cancel by this write comes after
the cut-off of an attempt that is selected (DEDUCED; CAN_TX_CANCEL names both cases). -/
def Chan.canWrite (k : Chan) (e : Env) (b : Bool) (o : Nat) (w : Word) : Chan :=
  match o with
  | 0x00 => k.onBus e b (fun c => c.ctrlWrite w)
  | 0x20 => k.onBus e b (fun c => c.ack (w.extractLsb' 0 7).toNat)
  | 0x3C =>
    let i := (w.extractLsb' 0 6).toNat
    match (w.extractLsb' 30 2).toNat with
    | 1 => k.onBus e b (fun c => c.request i)
    | 2 => k.onBus e b (fun c => c.cancel i (decide (c.cur = some i)))
    | _ => k
  | 0x58 => k.onBus e b (fun c => c.addrWrite false w)
  | 0x5C => (k.canMem e b false (some w)).2
  | 0x08 | 0x0C | 0x10 | 0x18 | 0x24 | 0x28 | 0x2C | 0x30 => k.onBus e b (fun c => c.cfgWrite (fun r => r.write o w))
  | _ => k.onBus e b (fun c => { c with r := c.r.write o w })

/-- A write in the CLK_ registers (R641, R644). -/
def Chan.clkWrite (k : Chan) (e : Env) (o : Nat) (w : Word) : Chan :=
  if o = 0xB00 then k.clkCtrl e w
  else if o = 0xB0C ∨ 0xB40 ≤ o then k.clkCfg (fun r => r.write o w)
  else { k with clk := { k.clk with r := k.clk.r.write o w } }

/-- A write in the registers of a key store (R591). -/
def Key.write (k : Key) (hub : Bool) (o : Nat) (w : Word) : Key :=
  if o = 0xC then k.ctrSelect hub w else { k with r := k.r.write o w }

/-- A read of a channel block without its side effects; none where no register stands (R749). -/
def Chan.regPeek (k : Chan) (o : Nat) : Option Word :=
  if o < 0x100 then k.core.r.read o
  else if o < 0x200 then k.pwm.r.read o
  else if o < 0x300 then (if o = 0x248 then some k.loop.cdata else k.loop.r.read o)
  else if o < 0x400 then k.grant.r.read o
  else if o < 0x500 then
    (if 0x410 ≤ o ∧ o < 0x41C then (k.met.stream k.met.r.calSel.toNat).cal.read o else k.met.r.read o)
  else if o < 0x600 then k.ledg.r.read o
  else if o < 0x700 then k.veh.r.read o
  else if o < 0x800 then k.cool.r.read o
  else if o < 0x900 then k.ey.r.read o
  else if o < 0xA00 then (if o = 0x920 then some (vget k.shk.block k.shk.r.psel.toNat 0) else k.shk.r.read o)
  else if o < 0xA80 then k.canA.r.read (o - 0xA00)
  else if o < 0xB00 then k.canB.r.read (o - 0xA80)
  else if o < 0xC00 then k.clk.r.read o
  else if o < 0xD00 then k.key.r.read (o - 0xC00)
  else none

/-- A write in a channel block: the channel, and whether the gateway counts an access error (R19, R515, R749). -/
def Chan.regWrite (k : Chan) (e : Env) (o : Nat) (w : Word) : Chan × Bool :=
  if chCmdRegs.contains o || (chSealedRegs.contains o && k.ledg.r.status.sealed) || (k.regPeek o).isNone then (k, true)
  else if o < 0x100 then ({ k with core := { k.core with r := k.core.r.write o w } }, false)
  else if o < 0x200 then (k.pwmWrite e o w, false)
  else if o < 0x300 then (k.loopWrite o w, false)
  else if o < 0x400 then ({ k with grant := { k.grant with r := k.grant.r.write o w } }, false)
  else if o < 0x500 then (k.metWrite o w, false)
  else if o < 0x600 then ({ k with ledg := { k.ledg with r := k.ledg.r.write o w } }, false)
  else if o < 0x700 then (k.vehWrite e o w, false)
  else if o < 0x800 then (k.coolWrite e o w, false)
  else if o < 0x900 then (k.eyWrite e o w, false)
  else if o < 0xA00 then ({ k with shk := { k.shk with r := k.shk.r.write o w } }, false)
  else if o < 0xA80 then (k.canWrite e false (o - 0xA00) w, false)
  else if o < 0xB00 then (k.canWrite e true (o - 0xA80) w, false)
  else if o < 0xC00 then (k.clkWrite e o w, false)
  else ({ k with key := k.key.write false (o - 0xC00) w }, false)

/-- What a read of a channel block does beside answering (R189, R271, R351, R618). -/
def Chan.regTouch (k : Chan) (e : Env) (o : Nat) : Word × Chan :=
  let w := (k.regPeek o).getD 0
  match o with
  | 0x248 => (w, { k with loop := k.loop.cselNext })
  | 0x460 => let r := k.met.ivlRead; (r.1, { k with met := r.2 })
  | 0x464 | 0x468 | 0x46C =>
    ((match k.met.snap with | some x => x.wh.getD ((o - 0x460) / 4) 0 | none => w), k)
  | 0x470 =>
    ((match k.met.snap with
      | some x => MetIvlWrap.read
          { wDci := x.wraps.getD 0 0, wDce := x.wraps.getD 1 0, wAci := x.wraps.getD 2 0, wAce := x.wraps.getD 3 0 }
      | none => w), k)
  | 0x608 => k.vEvtRead
  | 0xA5C => let r := k.canMem e false false none; (r.1.getD 0, r.2)
  | 0xADC => let r := k.canMem e true false none; (r.1.getD 0, r.2)
  | _ => (w, k)

/-! ### The hub window -/

/-- R515: the registers of the hub window that hold fields only a descriptor changes. -/
def hubCmdReg (o : Nat) : Bool :=
  [0x2000, 0x2018, 0x201C, 0x2020, 0x2400, 0x4020, 0x6000].contains o || (decide (0x2040 ≤ o) && decide (o < 0x20A0) && decide (o % 4 = 0))

/-- A change of the gateway: transfers of this node's dies whose request has ended there are discarded (R538). -/
def State.onGw (s : State) (f : Gw → Gw) : State :=
  let old := s.hub.gw
  let g := f old
  let gone := (old.out.map (fun (x : Outst) => x.d.rid)).filter
    (fun r => !(g.out.any (fun (y : Outst) => decide (y.d.rid = r))))
  { s with
    hub.gw := g
    xfers := s.xfers.filter (fun (x : Xfer) => !(decide (x.d.gw = s.nid.getD 0) && gone.contains x.d.rid)) }

/-- A word read in the hub window; none where no register stands. -/
def State.hubPeek (s : State) (o : Nat) : Option Word :=
  let h := s.hub
  let g := h.gw
  let t := s.env.site
  if o < 0x1000 then h.r.read o
  else if o < 0x2000 then
    (match o with
     | 0x1020 => some (BitVec.ofNat 32 t)
     | 0x1024 => some (BitVec.ofNat 32 (t / 2 ^ 32))
     | _ => h.ring.r.read o)
  else if o < 0x2400 then h.eng.last.r.read o
  else if o < 0x3000 then h.eng.pair.r.read o
  else if o < 0x3104 then g.r.read o
  else if o < 0x3200 then (g.ring g.r.ringSel.toNat).r.read o
  else if o < 0x3280 then (g.portRegs (s.nid.getD 0) ((o - 0x3200) / 16)).read (0x3200 + o % 16)
  else if o < 0x4000 then none
  else if o < 0x5000 then h.key.r.read (o - 0x4000)
  else if o < 0x6000 then h.pm.r.read o
  else h.cob.r.read o

/-- A write of a register of the ring RING_SEL names (R516, R517); whether it is counted. Of ABORT and EN in one write,
ABORT is judged first (DESIGN CHOICE); SIZE is counted where the write would change it outside DISABLED (DEDUCED). -/
def Gw.ringWrite (g : Gw) (now o : Nat) (w : Word) : Gw × Bool :=
  let k := g.r.ringSel.toNat
  let x := g.ring k
  let dis := decide (x.st = .disabled)
  let plain : Gw := g.setRing k { x with r := x.r.write o w }
  match o with
  | 0x3104 => if dis then (plain, decide (w &&& 63 ≠ 0)) else (g, true)
  | 0x310C => if dis then (plain, decide (w &&& 15 ≠ 0)) else (g, true)
  | 0x3108 | 0x3110 => if dis then (plain, false) else (g, true)
  | 0x3114 =>
    let c := x.r.cfg.write w
    let bad := !dis && decide (c.size ≠ x.r.cfg.size)
    let g := g.setRing k { x with r.cfg := { c with
      en := x.r.cfg.en, abort := false, size := if dis then c.size else x.r.cfg.size } }
    (if w.getLsbD 30 then g.abort k else if w.getLsbD 31 then g.enable k else g.disable now k, bad)
  | _ => (plain, false)

/-- A write of GW_WPk_CHECK or GW_WPk_CMD of a port of a node (R535 to R538). -/
def Gw.portWrite (g : Gw) (now node k o : Nat) (w : Word) : Gw :=
  match o with
  | 4 => g.wpCheck now node k w
  | 8 =>
    match (w.extractLsb' 28 4).toNat with
    | 1 => g.wpCommit now node k (w.extractLsb' 0 11).toNat
    | 2 => g.wpAck now node k
    | 3 => g.wpNak now node k
    | 4 => g.wpAbort now node k
    | _ => g.count 0
  | _ => g

/-- A write in the registers of power management, temperature and ageing (R666, R668, R679). -/
def State.pmRegWrite (s : State) (o : Nat) (w : Word) : State :=
  let p := s.hub.pm
  let plain : State := { s with hub.pm := { p with r := p.r.write o w } }
  let all (code : Nat) : State := (List.range 5).foldl (fun (s : State) u => s.pmWake u code) plain
  match o with
  | 0x5004 | 0x5008 | 0x500C => all 6
  | 0x5010 => all 5
  | 0x5108 => { s with hub.pm := p.thSel w }
  | 0x5204 => { s with hub.pm := p.ageSel w s.env.siteValid }
  | _ => plain

/-- A write in the RING_ registers (R481, R485, R495, R498, R504, R505). -/
def State.ringRegWrite (s : State) (o : Nat) (w : Word) : State :=
  let g := s.hub.ring
  let n : Ring :=
    match o with
    | 0x1000 =>
      let c := g.r.ctrl.write w
      let o := g.r.ctrl
      let g : Ring := { g with r.ctrl := { c with isolateE := o.isolateE, isolateW := o.isolateW } }
      let g := if c.isolateE = o.isolateE then g else g.isolate false c.isolateE
      if c.isolateW = o.isolateW then g else g.isolate true c.isolateW
    | 0x1008 => g.nidCfgWrite w
    | 0x1030 => g.todWrite s.rctx w
    | 0x1034 => g.lbWrite w
    | 0x1040 => g.errSelect w
    | 0x1048 => g.errClear w
    | 0x1050 => g.nodeSelect s.rctx w
    | _ => { g with r := g.r.write o w }
  { s with hub.ring := n }

/-- HUB_STITCH_CLR (R36). -/
def HubRegs.stitchClear (r : HubRegs) (w : Word) : HubRegs :=
  let x := r.stitchErr
  { r with stitchErr :=
      { crcCh0 := if w.getLsbD 0 then 0 else x.crcCh0, crcCh1 := if w.getLsbD 1 then 0 else x.crcCh1
        crcCh2 := if w.getLsbD 2 then 0 else x.crcCh2, crcCh3 := if w.getLsbD 3 then 0 else x.crcCh3 } }

/-- A write in the hub window; whether it is counted. -/
def State.hubWrite (s : State) (o : Nat) (w : Word) : State × Bool :=
  let h := s.hub
  if hubCmdReg o || (s.hubPeek o).isNone then (s, true)
  else if o = 0x18 then ({ s with hub.r := h.r.stitchClear w }, false)
  else if o < 0x1000 then ({ s with hub.r := h.r.write o w }, false)
  else if o < 0x2000 then (s.ringRegWrite o w, false)
  else if o < 0x2400 then
    let l := h.eng.last
    ({ s with hub.eng := { h.eng with last := if o = 0x2100 then l.ctxSelect w else { l with r := l.r.write o w } } }, false)
  else if o < 0x3000 then
    ({ s with hub.eng := { h.eng with pair := { h.eng.pair with r := h.eng.pair.r.write o w } } }, false)
  else if o < 0x3104 then
    (if o = 0x3010 then { s with hub.gw := h.gw.cntSelect w } else { s with hub.gw := { h.gw with r := h.gw.r.write o w } }, false)
  else if o < 0x3200 then
    let r := h.gw.ringWrite s.now o w
    (s.onGw (fun _ => r.1), r.2)
  else if o < 0x4000 then (s.onGw (fun g => g.portWrite s.now (s.nid.getD 0) ((o - 0x3200) / 16) (o % 16) w), false)
  else if o < 0x5000 then ({ s with hub.key := h.key.write true (o - 0x4000) w }, false)
  else if o < 0x6000 then (s.pmRegWrite o w, false)
  else if o = 0x6008 then ({ s with hub.cob := h.cob.select w }, false)
  else ({ s with hub.cob := { h.cob with r := h.cob.r.write o w } }, false)

/-! ### Accesses to the node window -/

/-- The die an offset belongs to: Soles 0 to 3, the hub 4 (R21). -/
def dieOfOfs (ofs : Nat) : Nat := if ofs < 0x8000 then 4 else (ofs - 0x8000) / 0x4000

/-- The offset within the die's block. -/
def blockOfs (ofs : Nat) : Nat := if ofs < 0x8000 then ofs else ofs % 0x4000

/-- R706: what a hub in recovery serves: reads of three registers, and, since its descriptor engine runs, writes of the
gateway's registers (DEDUCED). -/
def recoveryServes (ofs : Nat) (write : Bool) : Bool :=
  if write then decide (0x3000 ≤ ofs) && decide (ofs < 0x4000) else [0x0, 0x10, 0x50].contains ofs

/-- An access finds no one to serve it: it has no effect and a read returns all ones (R44, R567, R706). -/
def State.regDead (s : State) (ofs : Nat) (write : Bool) : Bool :=
  let die := dieOfOfs ofs
  decide (s.hub.run < 2) || (vget s.hub.fw 4 {}).act || (decide (s.hub.run = 3) && !recoveryServes ofs write)
  || (decide (die < 4) && !s.served die)

/-- R50: the lower offsets of the quantities that span two registers: in the hub window, and in a channel block. The
counter of a key slot is not among them: a write of KEY_CTR_SEL captures both its words (R591, DEDUCED). -/
def pairLows (hub : Bool) : List Nat :=
  if hub then [0x1020, 0x102C, 0x200C, 0x3104, 0x310C, 0x6010]
  else [0x450, 0x458, 0x4AC, 0x630, 0x638, 0x650]

/-- The key of a snapshot: the lower offset, with the ring selected where it is one of the ring's registers. -/
def State.snapKey (s : State) (lo : Nat) : Nat :=
  if 0x3104 ≤ lo ∧ lo < 0x3200 then lo + 0x100000 * s.hub.gw.r.ringSel.toNat else lo

/-- The registers that follow time are brought up to it. -/
def State.regView (s : State) (die : Nat) : State :=
  let s := s.fwView die
  if die < 4 then s.onCh die (fun e k => { k with pwm := k.pwm.telView e.now }) else s.hubView

/-- A word at an offset as it is now. -/
def State.regNow (s : State) (ofs : Nat) : Option Word :=
  let die := dieOfOfs ofs
  if die < 4 then (s.ch die).regPeek (blockOfs ofs) else s.hubPeek ofs

/-- A served read: the word, with its side effects and the snapshots of R50. -/
def State.regRead (s : State) (ofs : Nat) : State × Word :=
  let die := dieOfOfs ofs
  let o := blockOfs ofs
  let s := s.regView die
  let lows := pairLows (decide (die = 4))
  if lows.contains o then
    let key := s.snapKey ofs
    let hi := (s.regNow (ofs + 4)).getD 0
    ({ s with hub.snaps := (key, hi) :: s.hub.snaps.filter (fun x => decide (x.1 ≠ key)) }, (s.regNow ofs).getD 0)
  else if 4 ≤ o ∧ lows.contains (o - 4) then
    (s, match s.hub.snaps.find? (fun x => decide (x.1 = s.snapKey (ofs - 4))) with
      | some x => x.2
      | none => (s.regNow ofs).getD 0)
  else if die < 4 then
    let r := (s.ch die).regTouch s.env o
    (s.onCh die (fun _ _ => r.2), r.1)
  else (s, (s.regNow ofs).getD 0)

/-- A served write; whether it is counted. -/
def State.regWrite (s : State) (ofs : Nat) (w : Word) : State × Bool :=
  let die := dieOfOfs ofs
  if die < 4 then
    let r := (s.ch die).regWrite s.env (blockOfs ofs) w
    (s.onCh die (fun _ _ => r.1), r.2)
  else s.hubWrite ofs w

/-- The answer to an access goes where it came from: a REG_RESP with RSTAT (R539), or this node's own gateway, which counts
an error and answers a read. -/
def State.regAnswer (s : State) (req : Option (Nat × Nat)) (write : Bool) (ofs rstat : Nat) (w : Word) : State :=
  match req with
  | some (node, tag) =>
    s.originate .regResp (some node) [(BitVec.ofNat 32 (tag % 4096) <<< 20) ||| (BitVec.ofNat 32 rstat <<< 16), w]
  | none =>
    let s : State := if rstat = 2 then { s with hub.gw := s.hub.gw.count 0 } else s
    if write then s else { s with out := s.out ++ [.readData (s.nid.getD 0) ofs w] }

/-- An access to a register of this node's window, at an offset below the word-port windows: it has no effect, waits for
the end of a memory test (R683), or is served and answered. -/
def State.regAccess (s : State) (req : Option (Nat × Nat)) (ofs : Nat) (write : Bool) (w : Word) : State :=
  let ofs := ofs / 4 * 4
  let die := dieOfOfs ofs
  if s.regDead ofs write then s.regAnswer req write ofs 1 0xFFFFFFFF
  else if s.memTest die then
    { s with hub.cob.waits := s.hub.cob.waits ++ [if write then .write die ofs w req else .read die ofs req] }
  else if write then
    let r := s.regWrite ofs w
    r.1.regAnswer req true ofs (if r.2 then 2 else 0) 0
  else
    let r := s.regRead ofs
    r.1.regAnswer req false ofs 0 r.2

/-- A host access to this node's window through this node's gateway (R512): the word-port windows are the gateway's. -/
def State.hostAccess (s : State) (ofs : Nat) (write : Bool) (w : Word) : State :=
  if 0x18000 ≤ ofs then
    if ofs < 0x20000 then
      s.onGw (fun g => g.wpData s.now (s.nid.getD 0) ((ofs - 0x18000) / 4096) (ofs % 4096) write w)
    else s
  else s.regAccess none ofs write w

/-- A host write of a register of a channel. -/
def State.chWrite (s : State) (ch o : Nat) (w : Word) : State :=
  if ch < 4 then s.hostAccess (0x8000 + 0x4000 * ch + o) true w else s

/-- A host read of a register of a channel. -/
def State.chRead (s : State) (ch o : Nat) : State :=
  if ch < 4 then s.hostAccess (0x8000 + 0x4000 * ch + o) false 0 else s

/-- The accesses and descriptors that waited for the end of a memory test (R683). -/
def State.testOver (s : State) : State :=
  let die : CobWait → Nat
    | .write d _ _ _ | .read d _ _ | .desc d _ => d
  let ws := s.hub.cob.waits
  let go := ws.filter (fun x => !s.memTest (die x))
  if go.isEmpty then s
  else
    let s : State := { s with hub.cob.waits := ws.filter (fun x => s.memTest (die x)) }
    go.foldl (fun (s : State) x => match x with
      | .write _ ofs w req => s.regAccess req ofs true w
      | .read _ ofs req => s.regAccess req ofs false 0
      | .desc d x => s.descAt d x) s

end Sys2Proof.Machine
end

