-- ==== Sys2Proof/Machine/Route.lean ====
section
/-! DEFINITION. Sys2Proof/Machine/Route.lean: how what the parts of the module send reaches its receivers: frames from the
ring, messages of the gateway, what the engine sends; and what every command ends with. -/

namespace Sys2Proof.Machine

/-! ### Frames that reach this node -/

/-- A configuration stored for a channel of this node (R233, R241, R242). 0x0304 sets the class unless one of 0x0305 is in
force. -/
def Chan.cfgStore (k : Chan) (ws : List Word) : Chan :=
  let op := ((ws.getD 0 0).extractLsb' 0 16).toNat
  let p := payOf ws
  let g := k.grant
  if op = 0x0304 ∧ !(p 0).getLsbD 16 then
    let d : BitVec 3 := (p 0).extractLsb' 4 3
    { k with
      grant := { g with
        pcDef := d
        r := { g.r with
          cfg := { tHold := (p 2).extractLsb' 0 16, effMin := (p 4).extractLsb' 8 8, effMargin := (p 4).extractLsb' 3 5
                   pc := if g.pcSet then g.r.cfg.pc else d }
          floor := p24Of ws 5, pmax := p24Of ws 3 } }
      core := { k.core with r := { k.core.r with role := { k.core.r.role with meterNext := (p 0).getLsbD 20 } } } }
  else if op = 0x0305 then
    { k with grant := { g with pcSet := true, r := { g.r with cfg := { g.r.cfg with pc := (p 0).extractLsb' 0 3 } } } }
  else k

/-- A configuration stored at this node reaches the channel it names. -/
def State.cfgStore (s : State) (ws : List Word) : State :=
  let g := ((ws.getD 1 0).extractLsb' 0 8).toNat
  if some (g / 4) = s.nid ∧ (ws.getD 1 0).getLsbD 8 then s.onCh (g % 4) (fun _ k => k.cfgStore ws) else s

/-- The engine of this hub runs (R598, R660, R706). -/
def State.engOn (s : State) : Bool := s.hub.fwRuns && !s.hub.key.held

/-- A change of the engine of this hub. -/
def State.onEng (s : State) (f : LCtx → Eng → Eng) : State :=
  if s.engOn then { s with hub.eng := f s.lctx s.hub.eng } else s

/-- The engine takes something at its next snapshot (R205). -/
def State.engIn (s : State) (i : EngIn) : State :=
  s.onEng (fun _ e => if e.active then { e with last := { e.last with inbox := e.last.inbox ++ [i] } } else e)

/-- A context record arrives at this node's engine (R197). -/
def State.ctxIn (s : State) (ws : List Word) : State :=
  let r := CtxRec.ofWords ws
  s.engIn (.ctx r.1 r.2)

/-- A curve record arrives at this node's engine (R199). -/
def State.curveIn (s : State) (ws : List Word) : State :=
  s.engIn (.curve ((ws.getD 0 0).extractLsb' 24 8).toNat ws s.now)

/-- A grant frame reaches the channels of this node: each takes the records of its own GCID (R196, R219). -/
def State.grantIn (s : State) (ws : List Word) : State :=
  let x (i : Nat) : Word := ws.getD i 0
  let n := ((x 2).extractLsb' 16 9).toNat
  (List.range n).foldl (fun (s : State) i =>
    let w (j : Nat) : Word := x (4 + 4 * i + j)
    let g := ((w 1).extractLsb' 24 8).toNat
    if some (g / 4) = s.nid then
      s.onSole (g % 4) 2 (fun e k => k.grantRecord e g (GrantMsg.ofWords (x 0) (x 1) (x 2) (w 0) (w 1) (w 2) (w 3)))
    else s) s

/-- A CONFIG frame (R233): its words are stored; the node that broadcast them learns of it by a CONFIG of the same words
sent to it (DESIGN CHOICE); one that matches nothing it waits for is ignored there. -/
def State.configIn (s : State) (src : Nat) (bc : Bool) (ws : List Word) : State :=
  let s := s.pmWake 4 8
  if s.hub.eng.last.pend.any (fun (c : CfgPend) => decide (c.words = ws)) then s.onEng (fun x e => e.configStore x src ws)
  else if bc ∧ s.engOn then (s.onEng (fun x e => e.cfgTake x ws)).originate .config (some src) ws
  else s

/-- A PAIR frame by its KIND (R550, R551). -/
def State.pairIn (s : State) (src : Nat) (ws : List Word) : State :=
  let s := s.pmWake 4 8
  let b := ws.getD 2 0
  match ((ws.getD 0 0).extractLsb' 28 4).toNat with
  | 1 => s.onEng (fun _ e => e.mirrorCaps ws)
  | 2 => s.onEng (fun _ e => e.mirrorCtx ws)
  | 3 => s.onEng (fun x e => e.ckptPart x.now ws)
  | 4 => s.onEng (fun x e => e.verdict x b)
  | 5 => s.onEng (fun x e => e.takeoverFrame x b)
  | 6 => s.onEng (fun _ e => e.swapReq src b)
  | 7 => s.onEng (fun _ e => e.swapAcked b)
  | _ => s

/-- A COMPL frame (R532, R539): a notice of attention, the completion of a descriptor this hub passed on to the engine, or
of one this gateway forwarded. -/
def State.complIn (s : State) (src : Nat) (ws : List Word) : State :=
  let x (i : Nat) : Word := ws.getD i 0
  if (x 0).getLsbD 0 then (if s.hub.gw.role then { s with hub.gw := s.hub.gw.notice src (x 1) } else s)
  else
    let tag := ((x 0).extractLsb' 20 12).toNat
    let st := ((x 4).extractLsb' 16 8).toNat
    let l := s.hub.eng.last
    match l.fwd.lookup tag with
    | some ref =>
      let s : State := { s with hub.eng := { s.hub.eng with last := { l with fwd := l.fwd.filter (fun y => decide (y.1 ≠ tag)) } } }
      s.complete { ref := { ref with r0 := if ref.r0 = 0 then x 2 else ref.r0, r1 := if ref.r1 = 0 then x 3 else ref.r1 }, status := st }
    | none => s.onGw (fun g => g.complete s.now tag st (x 2) (x 3))

/-- A REG_REQ frame (R512, R539): a register access of another node's gateway. -/
def State.regReqIn (s : State) (src : Nat) (w0 w1 : Word) : State :=
  let tag := (w0.extractLsb' 20 12).toNat
  let ofs := (w0.extractLsb' 0 17).toNat
  let wr := w0.getLsbD 19
  if ofs < 0x18000 then s.regAccess (some (src, tag)) ofs wr w1
  else s.regAnswer (some (src, tag)) wr ofs 1 0xFFFFFFFF

/-- A REG_RESP frame (R512). -/
def State.regRespIn (s : State) (w0 w1 : Word) : State :=
  { s with hub.gw := s.hub.gw.regResp (w0.extractLsb' 20 12).toNat (w0.extractLsb' 16 2).toNat w1 }

/-- A WORD frame (R535, R536, R539): it is for the transfer at a die here that its port, its sender and its KIND fit, else
for the gateway here (DESIGN CHOICE). -/
def State.wordIn (s : State) (src : Nat) (w0 w1 : Word) (data : List Word) : State :=
  let kind := (w0.extractLsb' 28 4).toNat
  let port := (w0.extractLsb' 24 3).toNat
  let ws := data.take (w0.extractLsb' 12 12).toNat
  let bseq := (w0.extractLsb' 0 12).toNat
  let here := match s.xferOf port with
    | some x => decide (x.d.gw = src) && (if kind = 1 then !x.isOut else x.isOut)
    | none => false
  if here then s.xferWord src kind port bseq w1 ws else s.onGw (fun g => g.word s.now src kind port bseq w1 ws)

/-- A descriptor from another node's gateway (R539). It is a wake source of the unit it names (R666). -/
def State.descIn (s : State) (d : Desc) : State := s.deliver d

/-- The trip pair is asserted (R84, R471, R434). -/
def State.ringTrip (s : State) : State :=
  (List.range 4).foldl (fun (s : State) n => s.onSole n 2 (fun e k => (k.gateTrip e .ring).shkTc0 e)) s

/-- A ring frame that this node is to have (R468, R469). The ring is the one it came on. Stamp fractions and turn-round
times, which the frame does not carry, are free values. -/
def State.frameIn (s : State) (h : Hdr) (t : FType) (onWest : Bool) (ws : List Word) : State :=
  let src := h.src.toNat
  let x (i : Nat) : Word := ws.getD i 0
  let f := s.hub.ring.free
  let fr (i : Nat) : BitVec 16 := f.1.extractLsb' (16 * i) 16
  match t with
  | .safe => (List.range 4).foldl (fun (s : State) n =>
      s.onSole n 2 (fun e k => k.shkPdu e (if onWest then 3 else 2) (x 0) (x 1) (x 2) (x 3))) s
  | .grant => (s.grantIn ws).onEng (fun l e => e.grantSeen l ws)
  | .context => s.ctxIn ws
  | .curve => s.curveIn ws
  | .sync => { s with hub.ring := f.2.syncTake s.rctx onWest (128 - h.hops.toNat) (x 0) (x 1) (x 2) (x 3) (x 4) (fr 0) }
  | .delayReq => { s with hub.ring := f.2.delayReq s.now (!onWest) (fr 0) (fr 1) (fr 2).toNat }
  | .delayResp => { s with hub.ring := f.2.delayResp s.now (!onWest) (x 0) (x 1) (x 2) (x 3) (x 4) (fr 0) }
  | .presence => { s with hub.ring := s.hub.ring.presence s.rctx (x 0) (x 1) (x 2) (x 3) (x 4) }
  | .regReq => s.regReqIn src (x 0) (x 1)
  | .regResp => s.regRespIn (x 0) (x 1)
  | .desc => s.descIn { w := Vector.ofFn (fun (i : Fin 16) => x (2 + i.val)), gw := src, rid := ((x 0).extractLsb' 20 12).toNat }
  | .compl => s.complIn src ws
  | .config => s.configIn src h.bc (ws.take 16)
  | .pair => s.pairIn src ws
  | .word => s.wordIn src (x 0) (x 1) (ws.drop 2)
  | .test => s

/-! ### What the parts of the module send -/

/-- Nothing waits in the hub for its receiver. -/
def State.quiet (s : State) : Bool :=
  let h := s.hub
  h.ring.jq.isEmpty && h.ring.oq.isEmpty && h.ring.moved.isEmpty && h.gw.msgs.isEmpty && h.gw.oq.isEmpty
  && h.eng.tx.isEmpty && h.eng.cq.isEmpty && h.eng.jq.isEmpty && h.eng.store.isEmpty

/-- R487: a node joined or departed: the hub wakes; the engine and the gateway lose the node, and a configuration that
waits for it waits no longer (R233). -/
def State.nodeMoved (s : State) (m : Bool × BitVec 6) : State :=
  let n := m.2.toNat
  if m.1 then s.pmWake 4 8
  else
    let s := s.engIn (.depart n)
    let s := s.onEng (fun _ e =>
      let ps := e.last.pend.map (fun (c : CfgPend) => { c with left := c.left.filter (fun x => decide (x ≠ n)) })
      { e with
        last := { e.last with pend := ps.filter (fun (c : CfgPend) => decide (c.left ≠ [])) }
        cq := e.cq ++ (ps.filter (fun (c : CfgPend) => decide (c.left = []))).map (fun (c : CfgPend) => { ref := c.ref, status := 0 }) })
    s.onGw (fun g => g.lost s.now n none)

/-- What the ring interface has put out. -/
def State.routeRing (s : State) : State :=
  let g := s.hub.ring
  let s : State := { s with hub.ring := { g with jq := [], oq := [], moved := [] }, out := s.out ++ g.oq }
  let s := g.jq.foldl (fun (s : State) x => { s with hub := s.hub.journal x }) s
  g.moved.foldl (fun (s : State) m => s.nodeMoved m) s

/-- A message of the gateway to a node (R539). -/
def State.gwMsg (s : State) (m : GwMsg) : State :=
  match m with
  | .desc node d =>
    if s.nid = none ∨ s.nid = some node then s.deliver d
    else s.originate .desc (some node) (BitVec.ofNat 32 (d.rid % 4096) <<< 20 :: 0 :: d.w.toList)
  | .word node kind port bseq crc ws =>
    if s.nid = none ∨ s.nid = some node then s.xferWord node kind port bseq crc ws
    else s.originate .word (some node)
      (BitVec.ofNat 32 (kind * 2 ^ 28 + port % 8 * 2 ^ 24 + ws.length % 4096 * 2 ^ 12 + bseq % 4096) :: crc :: ws)
  | .reg node rid ofs write w =>
    s.originate .regReq (some node)
      [BitVec.ofNat 32 (rid % 4096 * 2 ^ 20 + (if write then 2 ^ 19 else 0) + ofs % 2 ^ 17), if write then w else 0]

/-- What the gateway has put out. -/
def State.routeGw (s : State) : State :=
  let g := s.hub.gw
  let s : State := { s with hub.gw := { g with msgs := [], oq := [] }, out := s.out ++ g.oq }
  g.msgs.foldl (fun (s : State) m => s.gwMsg m) s

/-- What the engine has put out: frames, of which a grant frame reaches this node's channels too; configurations to store,
completions and journal entries. -/
def State.routeEng (s : State) : State :=
  let e := s.hub.eng
  let s : State := { s with hub.eng := { e with tx := [], cq := [], jq := [], store := [] } }
  let s := e.jq.foldl (fun (s : State) x => { s with hub := s.hub.journal x }) s
  let s := e.store.foldl (fun (s : State) ws => s.cfgStore ws) s
  let s := e.tx.foldl (fun (s : State) (f : FType × Option Nat × List Word) =>
    let s := s.originate f.1 f.2.1 f.2.2
    if f.1 = .grant then s.grantIn f.2.2 else s) s
  e.cq.foldl (fun (s : State) c => s.complete c) s

/-- Everything sent inside the module reaches its receiver, in rounds; `n` bounds them. -/
def State.route : Nat → State → State
  | 0, s => s
  | n + 1, s => if s.quiet then s else State.route n s.routeRing.routeGw.routeEng

/-- Nothing waits anywhere in the module. -/
def State.settled (s : State) : Bool :=
  s.quiet && s.hub.wait.isEmpty && s.hub.cob.waits.isEmpty && s.hub.cob.run.isEmpty
  && s.chans.toList.all (fun (k : Chan) => k.ledg.wait.isEmpty)

/-- What waited inside the module and can now go on: descriptors, accesses, tests (R303, R661, R683, R689). -/
def State.inner (s : State) : State :=
  let s := (State.route 64 s).cobSettle.testOver.unhold
  let s := (List.range 4).foldl (fun (s : State) n => s.ledgNext n) s
  State.route 64 s

/-- What every command ends with: what it set going inside the module runs, and the hub's registers and roles follow. -/
def State.finish (s : State) : State :=
  let s := if s.settled then s else s.inner
  State.route 64 s.hubView

end Sys2Proof.Machine
end

