-- ==== Sys2Proof/Machine/PowerSeq.lean ====
section
/-! DEFINITION. Sys2Proof/Machine/PowerSeq.lean: the rise and fall of the module: supply and hold-up, power failure, the reset
sources, and the boot of each die (R697 to R716, R42, R598). -/

namespace Sys2Proof.Machine

/-! ### Resets (R710, R711) -/

/-- The hub's PM registers and averages start again; what is stored of ageing stays (R676, R677), and the channels keep their
power states (DESIGN CHOICE). -/
def State.pmAgain (s : State) : Pm :=
  let p : Pm := { age := s.hub.pm.age.map (fun (a : DieAge) =>
    { vBase := a.vBase, vAge := a.vAge, vSet := a.vSet, recs := a.recs, tPlan := a.tPlan }) }
  (List.range 4).foldl (fun (p : Pm) n =>
    let st := (s.ch n).core.pm
    { p.setState n st with u := vMod p.u n (fun (u : UnitPm) => { u with target := st }) }) p

/-- The hub enters reset: all it holds outside non-volatile memory is lost, with the DRAM (DESIGN CHOICE: R711 does not say
whether a hub reset keeps it). `run`: 0 held in reset, 1 released. -/
def State.hubReset (s : State) (run : Nat) (cause : HubRstCause → HubRstCause) : State :=
  let s := s.cobReset 4
  let h := s.hub
  let c := h.cob
  let s : State := { s with
    xfers := []
    hub := { h with
      run := run
      r := { ({} : HubRegs) with
        id := h.r.id, fwStatus := { h.r.fwStatus with trialLeft := 0 }, fwVer := h.r.fwVer
        rstCause := cause h.r.rstCause, rstStatus := h.r.rstStatus, holdup := h.r.holdup, wdt := h.r.wdt
        dieStatus := { ({} : HubDieStatus) with pmOk := decide (s.pwr.off = 0) } }
      ring := h.ring.boot s.now
      gw := h.gw.reset
      eng := h.eng.boot s.now
      pm := s.pmAgain
      key := h.key.boot
      cob := { ({} : Cob) with
        r := { ({} : CobRegs) with sched := c.r.sched }
        run := c.run, queue := c.queue, jobs := c.jobs, res := c.res, tBoot := c.tBoot, due := c.due }
      dram := {}
      st := h.st.map (fun (t : Stitch) => { t with failS := 0, failH := 0, retrain := false, soleLost := false, tHub := s.now })
      fw := h.fw.map (fun (f : FwSt) => { f with staged := none })
      jnl := [], jbuf := [], wait := [], evt := []
      snaps := h.snaps.filter (fun x => decide (dieOfOfs (x.1 % 0x100000) < 4)) } }
  (List.range 5).foldl (fun (s : State) u => s.fwView u) s

/-- A Sole enters reset: its transfers, its tests and its kept entries are lost. -/
def State.soleReset (s : State) (n : Nat) (cause : ChRstCause → ChRstCause) : State :=
  let s := s.cobReset n
  let s := s.onCh n (fun e k => k.toReset e cause)
  { s with
    xfers := s.xfers.filter (fun (x : Xfer) => decide (x.die ≠ n))
    hub := { s.hub with
      st := vMod s.hub.st n (fun (t : Stitch) => { t with kept := [], lost := 0, lostSafe := 0, hubLost := false })
      snaps := s.hub.snaps.filter (fun x => decide (dieOfOfs (x.1 % 0x100000) ≠ n)) } }

/-- The Soles whose rails are on, whose power state is not OFF and that RESET_N does not hold leave reset, once VHOLD_OK is
set (R701). -/
def State.release (s : State) : State :=
  if !s.hub.r.rstStatus.vholdOk ∨ s.pwr.pin ∨ !s.pwr.rails ∨ s.pwr.tPf.isSome then s
  else (List.range 4).foldl (fun (s : State) n =>
    let c := (s.ch n).core
    if c.run = 0 ∧ c.pm ≠ 4 ∧ !s.pwr.off.getLsbD n then s.onCh n (fun _ k => { k with core := { k.core with run := 1 } })
    else s) s

/-- The module leaves reset: the hub boots, and the Soles with VHOLD_OK (R701). -/
def State.rise (s : State) : State :=
  let s : State := if s.pwr.off.getLsbD 4 then s else { s with hub := { s.hub with run := 1 } }
  s.release

/-! ### The commit (R320, R707) -/

/-- A Sole's answer to PFAIL: its gates go low, both outputs are masked, DIS_REQ sets and no safety function latches; the
legal code commits. -/
def Chan.pfail (k : Chan) (e : Env) : Chan :=
  let k : Chan := { k with core := { k.core with pfail := true }, shk := { k.shk with r.status.disReq := true } }
  (k.shkInhibit e).commit e

/-- What a Sole's commit replaces. -/
def Chan.undoOf (k : Chan) : CommitUndo :=
  { ch := k.idx, nv := k.ledg.nv, img := k.ledg.img, pfailCnt := k.ledg.r.pfail.pfailCnt, emapNv := k.met.emapNv }

/-- A commit that was not marked complete: LEDG_PFAIL counts no commit, the map keeps its older copy, and, unless steps 2
to 4 of R320 were done (`half`), so do the legal registers and the image. -/
def Chan.undo (k : Chan) (u : CommitUndo) (half : Bool) : Chan :=
  let l := k.ledg
  { k with
    met := { k.met with emapNv := u.emapNv }
    ledg := { l with
      committed := false
      nv := if half then l.nv else u.nv
      img := if half then l.img else u.img
      r := { l.r with pfail := { l.r.pfail with pfailCnt := u.pfailCnt } } } }

/-- R707: the entries of the journal buffer in the order in which they are saved: safety entries first, newest first. -/
def Hub.saveOrder (h : Hub) : List JEntry :=
  let l := h.jbuf.reverse
  l.filter (fun (x : JEntry) => x.safe) ++ l.filter (fun (x : JEntry) => !x.safe)

/-- R707: the commit of every die that runs: the Soles that run their legal code, and the hub, which saves its journal
buffer. A PFAIL that finds no Sole running starts none (R709). -/
def State.commitAll (s : State) : State :=
  let soles := (List.range 4).filter (fun n =>
    let c := (s.ch n).core
    decide (c.run = 2) || (decide (c.run = 3) && !c.r.boot.lcodeBad))
  if soles.isEmpty ∧ !(s.chans.toList.any (fun (k : Chan) => decide (k.core.pm = 4))) then s
  else
    let hubOn := decide (2 ≤ s.hub.run)
    let undo := soles.map (fun n => (s.ch n).undoOf)
    let s := soles.foldl (fun (s : State) n => s.onCh n (fun e k => k.pfail e)) s
    let l := s.hub.saveOrder
    let keep := l.take (61440 / Config.journalEntryBytes)
    let s : State := if hubOn then
        { s with
          pwr := { s.pwr with saved := keep, savedLost := some (l.length - keep.length) }
          hub := { s.hub with r := { s.hub.r with
            holdup := { s.hub.r.holdup with pfCnt := satInc s.hub.r.holdup.pfCnt } } } }
      else s
    let must := (soles ++ (if hubOn then [4] else [])).foldl (fun (m : BitVec 5) i => msetb m i true) 0
    { s with pwr := { s.pwr with must := must, undo := undo } }

/-! ### Supply and hold-up (R697 to R700) -/

/-- VAUX_VALID (R697, R701, R709): VAUX in mV at a level for `us`; the module rises. -/
def State.vauxValid (s : State) (mv us : Nat) : State :=
  if s.pwr.vaux ∨ s.pwr.tPf.isSome ∨ mv < 6000 ∨ us < 1000 then s
  else
    let pf := s.pwr.pfEnd
    let s : State := { s with
      pwr := { s.pwr with vaux := true, rails := true, off := 0, pfEnd := none, pin := false }
      hub := { s.hub with r := { s.hub.r with
        dieStatus := { s.hub.r.dieStatus with pmOk := true }
        rstCause := { ({} : HubRstCause) with
          por := true, rail := s.hub.r.rstCause.rail
          pfailOk := decide (pf = some true), commitLost := decide (pf = some false) } } } }
    s.rise

/-- VHOLD_OK (R698, R701): VHOLD in 0.1 V. -/
def State.vholdOk (s : State) (dv : Nat) : State :=
  if !s.pwr.rails then s
  else
    let st := s.hub.r.rstStatus
    let ok := if 400 ≤ dv then true else if dv < 380 then false else st.vholdOk
    let s : State := { s with hub := { s.hub with r := { s.hub.r with
      rstStatus := { st with vholdOk := ok, vhold := toU 16 (dv : Int) } } } }
    let s := if st.vholdOk && !ok then s.hubJr JEv.vholdLow [(dv : Int)] else s
    if ok then s.release else s

/-- HOLDUP_MEASURE (R700): the time of the rise of VHOLD from 20 V to 40 V, µs: C = 0.5 A × t / 20 V. -/
def State.holdupMeasure (s : State) (us : Nat) : State :=
  if !s.pwr.rails then s
  else
    let c := us / 40
    let weak := decide (c < 800)
    let r := s.hub.r
    let s : State := { s with hub := { s.hub with r := { r with
      holdup := { r.holdup with cap := toU 16 (c : Int) }
      rstStatus := { r.rstStatus with holdWeak := weak } } } }
    if weak then s.hubJr JEv.holdWeak [(c : Int)] else s

/-! ### Power failure (R707 to R709) -/

/-- PFAIL (R697, R707): VAUX in mV falls below 5.70 V. -/
def State.pfail (s : State) (mv : Nat) : State :=
  if !s.pwr.vaux ∨ !s.pwr.rails ∨ s.pwr.tPf.isSome ∨ 5700 ≤ mv then s
  else
    let s := s.pmWake 4 9
    let s := (List.range 5).foldl (fun (s : State) d => s.cobAbort d false) s
    let s := s.commitAll
    { s with pwr := { s.pwr with tPf := some s.now } }

/-- A free value of the hub (log entry 1). -/
def State.hubFree (s : State) : BitVec 64 × State :=
  (Config.freeValue (8 * s.hub.fc + 4), { s with hub := { s.hub with fc := s.hub.fc + 1 } })

/-- An Eyelet die without power: its outputs are off and it keeps its fail-safe states alone (R415). -/
def Chan.eyDark (k : Chan) : Chan :=
  let y := k.ey
  { k with ey := { ({} : Ey) with
      nvWrites := y.nvWrites, eysel := y.eysel, r := { ({} : EyRegs) with wdt := y.r.wdt, fsafe := y.r.fsafe } } }

/-- R709: the commit of a die is complete where it had its time: 10 ms in a Sole (R320), 12 ms in the hub; where the rails
went off earlier, whether it was is a free value. -/
def State.commitEnd (s : State) (t0 : Nat) : State :=
  let el := s.now - t0
  (List.range 5).foldl (fun (s : State) d =>
    if !s.pwr.must.getLsbD d then s
    else
      let f := s.hubFree
      let full := decide (msNs (if d = 4 then 12 else 10) ≤ el)
      let ok := full || f.1.getLsbD 0
      let s := if full then s else f.2
      if ok then { s with pwr := { s.pwr with done := msetb s.pwr.done d true } }
      else if d = 4 then
        { s with
          pwr := { s.pwr with saved := s.pwr.saved.take ((f.1 >>> 8).toNat % (s.pwr.saved.length + 1)), savedLost := none }
          hub := { s.hub with r := { s.hub.r with holdup := { s.hub.r.holdup with pfCnt := s.hub.r.holdup.pfCnt - 1 } } } }
      else match s.pwr.undo.find? (fun (u : CommitUndo) => decide (u.ch = d)) with
        | some u => s.onCh d (fun _ k => k.undo u (f.1.getLsbD 1))
        | none => s) s

/-- RAILS_OFF (R707, R709): 12 ms after PFAIL, or VHOLD, 0.1 V, down at 18.0 V. -/
def State.railsOff (s : State) (dv : Nat) : State :=
  match s.pwr.tPf with
  | none => s
  | some t0 =>
    if s.now < t0 + msNs 12 ∧ 180 < dv then s
    else
      let s := s.commitEnd t0
      let s := (List.range 4).foldl (fun (s : State) n =>
        (s.soleReset n (fun c => { ({} : ChRstCause) with module := true, rail := c.rail })).onCh n (fun _ k => k.eyDark)) s
      let s := s.hubReset 0 (fun c => { ({} : HubRstCause) with rail := c.rail, por := false })
      let p := s.pwr
      { s with
        pwr := { p with
          vaux := false, rails := false, pin := false, off := 0, tPf := none, must := 0, done := 0, undo := []
          pfEnd := if p.must = 0 then none else some (decide (p.done = p.must)) }
        hub := { s.hub with r := { s.hub.r with
          holdup := { s.hub.r.holdup with cap := 0 }
          rstStatus := { ({} : HubRstStatus) with ackPend := s.hub.r.rstStatus.ackPend } } } }

/-! ### RESET_N (R712 to R714) -/

/-- A module reset (R710): every die commits first where the source says so; the Eyelet dies and the power-management die run
on, and rails switched off for a fault are tried again (DESIGN CHOICE). -/
def State.moduleReset (s : State) (cause : HubRstCause → HubRstCause) : State :=
  let s := s.commitAll
  let s := (List.range 4).foldl (fun (s : State) n => s.soleReset n (fun c => { c with module := true })) s
  let s : State := { s with pwr := { s.pwr with off := 0, must := 0, done := 0, undo := [] } }
  s.hubReset 0 cause

/-- RESET_PIN (R712): RESET_N at a level for `us`. -/
def State.resetPin (s : State) (low : Bool) (us : Nat) : State :=
  if !s.pwr.rails ∨ s.pwr.tPf.isSome then s
  else if low then
    if s.pwr.pin ∨ s.hub.r.rstStatus.pinMasked ∨ us < 200 then s
    else
      let s := s.moduleReset (fun c => { c with pin := true })
      { s with pwr := { s.pwr with pin := true } }
  else if s.pwr.pin then ({ s with pwr := { s.pwr with pin := false } } : State).rise
  else s

/-- RESET_STUCK (R713, R714): RESET_N low for `us`. -/
def State.resetStuck (s : State) (us : Nat) : State :=
  if !s.pwr.pin ∨ us < 30000000 ∨ s.pwr.tPf.isSome then s
  else
    let r := s.hub.r
    let s : State := { s with
      pwr := { s.pwr with pin := false }
      hub := { s.hub with r := { r with
        rstCause := { r.rstCause with stuck := true }
        rstStatus := { r.rstStatus with pinMasked := true, ackPend := true } } }
      chans := s.chans.map (fun (k : Chan) => { k with core := { k.core with ackPend := true } }) }
    s.rise

/-- RESET_UNMASK (R713): RESET_N high for `us` without a break. -/
def State.resetUnmask (s : State) (us : Nat) : State :=
  if us < 100000 then s
  else { s with hub := { s.hub with r := { s.hub.r with rstStatus := { s.hub.r.rstStatus with pinMasked := false } } } }

/-! ### Watchdogs and rails (R715, R716, R42) -/

/-- HUB_WATCHDOG_EXPIRY: the hub resets alone and boots. -/
def State.hubWatchdog (s : State) : State :=
  if s.hub.run ≠ 2 then s
  else
    let w := s.hub.r.wdt
    let s : State := { s with hub := { s.hub with r := { s.hub.r with wdt := { w with exp := satInc w.exp } } } }
    s.hubReset 1 (fun c => { c with hubWdt := true })

/-- SOLE_WATCHDOG_EXPIRY: gates low; the legal code runs steps 1 to 4 of R320, and the Sole resets. -/
def State.soleWatchdog (s : State) (n : Nat) : State :=
  if 4 ≤ n ∨ (s.ch n).core.run ≠ 2 then s
  else
    let s := s.onCh n (fun e k =>
      let w := k.core.r.wdt
      let k : Chan := { k with core := { k.core with r := { k.core.r with wdt := { w with exp := satInc w.exp } } } }
      (k.shkInhibit e).legalSave e)
    (s.soleReset n (fun c => { c with wdt := true })).release

/-- RAIL_FAULT (R42): the rail of a die shorts and that rail alone is switched off, without a commit. -/
def State.railFault (s : State) (die : Nat) : State :=
  if 4 < die ∨ !s.pwr.rails ∨ s.pwr.off.getLsbD die then s
  else
    let s : State := { s with pwr := { s.pwr with off := msetb s.pwr.off die true } }
    if die < 4 then
      let s := s.soleReset die (fun c => { c with rail := true })
      { s with hub := { s.hub with r := { s.hub.r with dieStatus := { s.hub.r.dieStatus with pmOk := false } } } }
    else s.hubReset 0 (fun c => { c with rail := true })

/-! ### Boot (R598, R702 to R706) -/

/-- R595: an enabled input that reads open as a die starts is an alarm in start-up; a die in HOLD holds. -/
def State.bootAlarms (s : State) (die : Nat) : State :=
  let k := s.keyOf die
  let s := if k.r.tampCfg.en0 && k.r.tampStatus.in0Open then s.alarmAll die 1 else s
  let s := if k.r.tampCfg.en1 && k.r.tampStatus.in1Open then s.alarmAll die 2 else s
  let k := s.keyOf die
  if k.r.tampStatus.hold then s.setKey die { k with held := true } else s

/-- The saved part of the journal is read back, and the number lost is a safety entry (R707). -/
def State.jRestore (s : State) : State :=
  let l := s.pwr.saved
  let n := s.pwr.savedLost
  let s : State := { s with
    pwr := { s.pwr with saved := [], savedLost := none }
    hub := { s.hub with jnl := l.foldl (fun js x => jInsert x js) s.hub.jnl } }
  match n with
  | some c => s.hubJr JEv.journalLost [(c : Int)] true
  | none => s

/-- HUB_BOOT (R701, R703 to R706): the ROM chooses a slot, and the hub runs it, or enters recovery. In a start-up hold the
hub runs without its engine (R598). -/
def State.hubBoot (s : State) (okBoot okOther : Bool) : State :=
  if s.hub.run ≠ 1 then s
  else
    let s := s.bootAlarms 4
    let r := s.fwBoot 4 okBoot okOther
    let s := r.1
    let h := s.hub
    let s : State := { s with hub := { h with
      run := if r.2 then 2 else 3
      ring := h.ring.boot s.now
      gw := h.gw.reset
      eng := h.eng.boot s.now
      cob := { h.cob with tBoot := vset h.cob.tBoot 4 s.now }
      r := { h.r with dieStatus := { h.r.dieStatus with norOk := true, pmOk := decide (s.pwr.off = 0) } }
      st := h.st.map (fun (t : Stitch) => { t with tHub := s.now }) } }
    (if r.2 then s.jRestore else s).ageReplan 4 true

/-- SOLE_BOOT (R702 to R706): the legal code is checked and takes up what the last commit left, and the ordinary firmware
runs, or the Sole enters recovery. In a start-up hold the Sole stops before it unlocks a key; once 0x0705 has cleared the
hold its boot goes on with the next SOLE_BOOT (R598, R599). -/
def State.soleBoot (s : State) (n : Nat) (okLegal okBoot okOther : Bool) : State :=
  if 4 ≤ n ∨ (s.ch n).core.run ≠ 1 then s
  else
    let s := s.bootAlarms n
    if (s.ch n).key.r.tampStatus.hold then s
    else
      let s := s.onCh n (fun e k => k.bootLegal e okLegal)
      let r := s.fwBoot n okBoot okOther
      let s := r.1.onCh n (fun e k => if r.2 then k.bootRun e else k.bootFail)
      let c := s.hub.cob
      let s : State := { s with hub := { s.hub with
        cob := { c with tBoot := vset c.tBoot n s.now }
        st := vMod s.hub.st n (fun (t : Stitch) => { t with tHub := s.now, tSole := s.now }) } }
      s.ageReplan n true

/-! ### VAUX surges (R727, R729) -/

/-- VAUX beyond the limits of R727: above 58 V, or above 45 V for more than 400 ms or within 10 s of the surge before. -/
def State.surgeBad (s : State) (mv us : Nat) : Bool :=
  decide (58000 < mv) || (decide (45000 < mv) && (decide (400000 < us) || match s.pwr.tSurge with
    | some t => decide (s.now < t + sNs 10)
    | none => false))

/-- VAUX_SURGE (R729): an excursion above 45 V is journalled. -/
def State.surge (s : State) (mv us : Nat) : State :=
  if mv ≤ 45000 then s
  else
    let s : State := { s with pwr := { s.pwr with tSurge := some s.now } }
    if s.hub.run = 2 then s.hubJr JEv.vauxSurge [(mv : Int), (us : Int)] else s

end Sys2Proof.Machine
end

