-- ==== Sys2Proof/Machine/CmdArch.lean ====
section
/-! DEFINITION. Sys2Proof/Machine/CmdArch.lean: the commands of registers, stitch links, journal, DRAM, rails and Eyelet links
(R16, R32 to R53). Every command ends with what it set going inside the module (State.finish). -/

namespace Sys2Proof.Machine

/-- The outcome of a command: what it set going runs, and the machine goes on. -/
def State.done (s : State) : Host.Outcome State Fault Refusal := .next s.finish

/-- A change of a channel by its metering and its legal code, which also run in a Sole that is in recovery once the legal
code has passed its check (R706), and which stop at the power-fail warning (R320). -/
def State.onLegal (s : State) (n pm : Nat) (f : Env → Chan → Chan) : State :=
  let c := (s.ch n).core
  if !c.pfail ∧ ((c.run = 2 ∧ c.pm ≤ pm) ∨ (c.run = 3 ∧ !c.r.boot.lcodeBad)) then s.onCh n f else s

/-! ### Stitch links (R34, R35, R43) -/

/-- A change of the stitch link of a channel. -/
def State.onStitch (s : State) (n : Nat) (f : Stitch → Stitch) : State :=
  { s with hub := { s.hub with st := vMod s.hub.st n f } }

/-- HUB_PRESENT, and HUB_LOST where it sets (R35, R62); a capture in ARMED or POST ends in ERROR with it (R282). -/
def Chan.hubSeen (k : Chan) (present : Bool) : Chan :=
  let l := k.core.r.linkStatus
  let k : Chan := { k with core := { k.core with r := { k.core.r with
      linkStatus := { l with hubPresent := present, hubLost := l.hubLost || !present } } } }
  if present then k else { k with met := k.met.capErr }

/-- A valid packet from the hub at a Sole, or from a Sole at the hub (R35). -/
def State.stitchOk (s : State) (n : Nat) (toSole : Bool) : State :=
  if 4 ≤ n ∨ s.hub.run < 2 ∨ (s.ch n).core.run = 0 ∨ (vget s.hub.st n {}).retrain then s
  else if toSole then
    (s.onStitch n (fun t => { t with failS := 0, tSole := s.now, hubLost := false })).onCh n (fun _ k => k.hubSeen true)
  else s.onStitch n (fun t => { t with failH := 0, tHub := s.now, soleLost := false })

/-- R34: a packet of a link fails its CRC: the failure counts; when three retries have failed too, the link retrains. -/
def State.stitchBad (s : State) (n : Nat) (toSole : Bool) : State :=
  let t : Stitch := vget s.hub.st n {}
  if 4 ≤ n ∨ s.hub.run < 2 ∨ (s.ch n).core.run = 0 ∨ t.retrain then s
  else
    let x := s.hub.r.stitchErr
    let x : HubStitchErr := match n with
      | 0 => { x with crcCh0 := satInc x.crcCh0 }
      | 1 => { x with crcCh1 := satInc x.crcCh1 }
      | 2 => { x with crcCh2 := satInc x.crcCh2 }
      | _ => { x with crcCh3 := satInc x.crcCh3 }
    let s : State := { s with hub := { s.hub with r := { s.hub.r with stitchErr := x } } }
    let fails := (if toSole then t.failS else t.failH) + 1
    if fails < 4 then
      s.onStitch n (fun t => if toSole then { t with failS := fails } else { t with failH := fails })
    else
      (s.onStitch n (fun t => { t with retrain := true })).onCh n (fun _ k =>
        let l := k.core.r.linkStatus
        { k with core := { k.core with r := { k.core.r with linkStatus := { l with retrain := satInc l.retrain } } } })

/-- R34: after retraining, what was not acknowledged is resent in order. -/
def State.retrained (s : State) (n : Nat) : State :=
  if n < 4 then s.onStitch n (fun t => { t with retrain := false, failS := 0, failH := 0 }) else s

/-- R35: the heartbeats of 10 µs, on every link that is not retraining between dies that run. -/
def State.heartbeats (s : State) : State :=
  (List.range 4).foldl (fun (s : State) n => (s.stitchOk n true).stitchOk n false) s

/-- R35: a Sole has had no valid packet from the hub for 50 µs. -/
def State.loseHub (s : State) (n : Nat) : State :=
  let t : Stitch := vget s.hub.st n {}
  if 4 ≤ n ∨ (s.ch n).core.run = 0 ∨ t.hubLost ∨ s.now < t.tSole + usNs 50 then s
  else (s.onStitch n (fun t => { t with hubLost := true })).onCh n (fun _ k => k.hubSeen false)

/-- R35, R526: the hub has had no valid packet from a Sole for 50 µs: descriptors outstanding there complete with 0x0F. -/
def State.loseSole (s : State) (n : Nat) : State :=
  let t : Stitch := vget s.hub.st n {}
  if 4 ≤ n ∨ s.hub.run < 2 ∨ t.soleLost ∨ s.now < t.tHub + usNs 50 then s
  else
    let s := s.onStitch n (fun t => { t with soleLost := true })
    match s.nid with
    | some me => s.onGw (fun g => g.lost s.now me (some n))
    | none => s

/-- R43: a Sole whose hub has returned forwards its kept entries and both discard counts; a count of discarded safety
entries is a safety entry of the hub. -/
def State.jForward (s : State) (n : Nat) : State :=
  let t : Stitch := vget s.hub.st n {}
  if 4 ≤ n ∨ t.hubLost ∨ s.hub.run ≠ 2 ∨ (s.ch n).core.run = 0 ∨ (t.kept.isEmpty ∧ t.lost = 0 ∧ t.lostSafe = 0) then s
  else
    let s := s.onStitch n (fun t => { t with kept := [], lost := 0, lostSafe := 0 })
    let s := t.kept.foldl (fun (s : State) x => { s with hub := s.hub.journal x }) s
    let s := if t.lost = 0 then s else s.hubJr JEv.journalLost [(n : Int), (t.lost : Int)]
    if t.lostSafe = 0 then s else s.hubJr JEv.journalLost [(n : Int), (t.lostSafe : Int)] true

/-! ### DRAM (R41) -/

/-- R41: a single-bit error is corrected and counted; an uncorrectable one marks its region invalid and is journalled.
Region 0 to 7 in the order of R39. Captures in ARMED or POST end in ERROR with region 0 (R282); the staged images are lost
with region 3 (DEDUCED). -/
def State.dramError (s : State) (region : Nat) (correctable : Bool) : State :=
  if s.hub.run < 2 ∨ 7 < region then s
  else if correctable then { s with hub := { s.hub with dram := { s.hub.dram with corr := s.hub.dram.corr + 1 } } }
  else
    let s : State := { s with hub := { s.hub with dram := { s.hub.dram with bad := msetb s.hub.dram.bad region true } } }
    let s := s.hubJr JEv.dramBad [(region : Int)]
    if region = 0 then s.onAll (fun _ _ k => { k with met := k.met.capErr })
    else if region = 3 then
      let s : State := { s with hub := { s.hub with fw := s.hub.fw.map (fun (f : FwSt) => { f with staged := none }) } }
      (List.range 5).foldl (fun (s : State) u => s.fwView u) s
    else s

/-! ### The commands -/

/-- REGISTER_WRITE (R15, R16, R17, R19, R22, R44, R51, R52, R53, R70, R77, R117, R123, R125, R148, R179, R186, R189,
R192, R244, R253, R254, R285, R293, R297, R322, R326, R329, R357, R359, R360, R366, R368, R369, R389, R410, R425,
R455, R515, R516, R537, R612, R632, R641, R650, R653, R666, R678, R680, R749, R753). -/
def execRegisterWrite (ofs : Nat) (w : Word) (whole : Bool) (s : State) : Host.Outcome State Fault Refusal :=
  (if !whole ∨ ofs % 4 ≠ 0 then { s with hub := { s.hub with gw := s.hub.gw.count 0 } }
   else s.hostAccess ofs true w).done

/-- LOWER_WORD_READ (R50). -/
def execLowerWordRead (ofs : Nat) (s : State) : Host.Outcome State Fault Refusal := (s.hostAccess ofs false 0).done

/-- STITCH_CLR (R59). -/
def execStitchClr (w : Word) (s : State) : Host.Outcome State Fault Refusal := (s.hostAccess 0x18 true w).done

/-- STITCH_PACKET (R33, R34, R48, R58). -/
def execStitchPacket (ch : Nat) (toSole ok : Bool) (s : State) : Host.Outcome State Fault Refusal :=
  (if ok then s.stitchOk ch toSole else s.stitchBad ch toSole).done

/-- STITCH_RETRAIN_DONE (R34, R61). -/
def execStitchRetrainDone (ch : Nat) (s : State) : Host.Outcome State Fault Refusal := (s.retrained ch).done

/-- HEARTBEAT_SEND (R35). -/
def execHeartbeatSend (s : State) : Host.Outcome State Fault Refusal := s.heartbeats.done

/-- HUB_LOST (R29, R35, R42, R43, R61, R228, R282, R353, R385, R451). -/
def execHubLost (ch : Nat) (s : State) : Host.Outcome State Fault Refusal := (s.loseHub ch).done

/-- SOLE_LOST (R35, R42, R57, R526). -/
def execSoleLost (ch : Nat) (s : State) : Host.Outcome State Fault Refusal := (s.loseSole ch).done

/-- JOURNAL_FORWARD (R43). -/
def execJournalForward (ch : Nat) (s : State) : Host.Outcome State Fault Refusal := (s.jForward ch).done

/-- DRAM_ERROR (R41, R42, R282). -/
def execDramError (region : Nat) (correctable : Bool) (s : State) : Host.Outcome State Fault Refusal :=
  (s.dramError region correctable).done

/-- DRAM_REFRESH (R40, R670). -/
def execDramRefresh (s : State) : Host.Outcome State Fault Refusal := s.dramRefresh.done

/-- RAIL_FAULT (R42, R711). -/
def execRailFault (die : Nat) (s : State) : Host.Outcome State Fault Refusal := (s.railFault die).done

/-- EYELET_FAULT_REPORT (R38). -/
def execEyeletFaultReport (ch : Nat) (s : State) : Host.Outcome State Fault Refusal :=
  (s.onSole ch 3 (fun e k => k.eyReport e)).done

/-- EYELET_STATUS_FRAME (R38, R57, R61, R349, R422): a frame that arrives also answers a running test pulse (R439). -/
def execEyeletStatusFrame (ch : Nat) (ok : Bool) (mas : List Nat) (vsw : Nat) (s : State) : Host.Outcome State Fault Refusal :=
  (s.onSole ch 3 (fun e k => if ok then (k.eyStatus e ok mas vsw).tpStatus e else k.eyStatus e ok mas vsw)).done

end Sys2Proof.Machine
end

