-- ==== Sys2Proof/Machine/CmdCan.lean ====
section
/-! DEFINITION. Sys2Proof/Machine/CmdCan.lean: the commands of the two CAN FD controllers of a channel (R610 to R636), which run
in RUN, TRIM and VIGIL (R658). -/

namespace Sys2Proof.Machine

/-- The block of a bus's registers: bus A, or B (R634). -/
def canBase (b : Bool) : Nat := if b then 0xA80 else 0xA00

/-- Test 7 has a bus of a channel off the wire: bus A first, then bus B (R683). -/
def State.busTested (s : State) (n : Nat) (b : Bool) : Bool :=
  s.hub.cob.run.any (fun (r : CobRun) => decide (r.task.die = n) && decide (r.task.test = 7) && (r.busB == b))

/-- An event of a bus, unless test 7 has the bus. -/
def State.busEvent (s : State) (n : Nat) (b : Bool) (f : Env → Chan → Chan) : State :=
  let s := s.cobSettle
  if s.busTested n b then s else s.onSole n 2 f

/-- An event of a controller. -/
def State.onCan (s : State) (n : Nat) (b : Bool) (f : Env → CanBus → CanBus) : State :=
  s.busEvent n b (fun e k => k.onBus e b (f e))

/-- An access of the channel core's port, which no test stops (R618). -/
def State.corePort (s : State) (n : Nat) (f : Env → Chan → Chan) : State := s.onSole n 2 f

/-- CAN_INIT_LEAVE: a write of CAN_CTRL with INIT 0 (R611, R613). -/
def execCanInitLeave (ch : Nat) (b : Bool) (w : Word) (s : State) : Host.Outcome State Fault Refusal :=
  (s.chWrite ch (canBase b) (w &&& 0x7FFFFFFF)).done

/-- CAN_INIT_ENTER: a write of CAN_CTRL with INIT 1 (R609, R611, R630). -/
def execCanInitEnter (ch : Nat) (b : Bool) (w : Word) (s : State) : Host.Outcome State Fault Refusal :=
  (s.chWrite ch (canBase b) (w ||| 0x80000000)).done

/-- CAN_INTEGRATED (R611). -/
def execCanIntegrated (ch : Nat) (b : Bool) (s : State) : Host.Outcome State Fault Refusal :=
  (s.onCan ch b (fun e c => c.integrated e.now)).done

/-- CAN_FRAME_RX (R611, R614, R617, R619, R620, R621, R622, R623, R624, R630). -/
def execCanFrameRx (ch : Nat) (b : Bool) (fr : CanFrame) (age : Nat) (s : State) : Host.Outcome State Fault Refusal :=
  (s.busEvent ch b (fun e k => k.canRx e b fr age)).done

/-- CAN_ARBITRATION_SELECT (R626, R630). -/
def execCanArbitrationSelect (ch : Nat) (b : Bool) (s : State) : Host.Outcome State Fault Refusal :=
  (s.onCan ch b (fun _ c => c.select)).done

/-- CAN_TX_SUCCESS (R611, R615, R617, R625, R627). -/
def execCanTxSuccess (ch : Nat) (b : Bool) (age : Nat) (dly : Option Nat) (s : State) : Host.Outcome State Fault Refusal :=
  (s.busEvent ch b (fun e k => k.canTx e b age dly)).done

/-- CAN_TX_ERROR (R611, R615, R625, R627, R628, R629, R630). -/
def execCanTxError (ch : Nat) (b lost : Bool) (kind : Nat) (dataPhase field exempt : Bool) (s : State) :
    Host.Outcome State Fault Refusal := (s.onCan ch b (fun e c => c.txError e.now lost kind dataPhase field exempt)).done

/-- CAN_TX_REQUEST: REQUEST written to CAN_TX_CMD (R625). -/
def execCanTxRequest (ch : Nat) (b : Bool) (k : Nat) (s : State) : Host.Outcome State Fault Refusal :=
  (if k < 64 then s.chWrite ch (canBase b + 0x3C) (BitVec.ofNat 32 (2 ^ 30 + k)) else s).done

/-- CAN_TX_CANCEL: CANCEL of a buffer; `cut`: the cut-off of its attempt has passed (R627, R630). -/
def execCanTxCancel (ch : Nat) (b : Bool) (k : Nat) (cut : Bool) (s : State) : Host.Outcome State Fault Refusal :=
  (if s.regDead (0x8000 + 0x4000 * ch) true then s else s.onSole ch 2 (fun e x => x.onBus e b (fun c => c.cancel k cut))).done

/-- CAN_RX_ERROR (R611, R629). -/
def execCanRxError (ch : Nat) (b : Bool) (kind : Nat) (dataPhase : Bool) (step : Nat) (s : State) :
    Host.Outcome State Fault Refusal := (s.onCan ch b (fun e c => c.rxError e.now kind dataPhase step)).done

/-- CAN_RECOVERY_DELAY (R611). -/
def execCanRecoveryDelay (ch : Nat) (b : Bool) (s : State) : Host.Outcome State Fault Refusal :=
  (s.onCan ch b (fun e c => c.recovery e.now)).done

/-- CAN_RECOVERED (R611). -/
def execCanRecovered (ch : Nat) (b : Bool) (s : State) : Host.Outcome State Fault Refusal :=
  (s.onCan ch b (fun _ c => c.recovered)).done

/-- CAN_PROTOCOL_EXCEPTION (R611). -/
def execCanProtocolException (ch : Nat) (b : Bool) (s : State) : Host.Outcome State Fault Refusal :=
  (s.onCan ch b (fun _ c => c.exception)).done

/-- CAN_MEM_ACCESS: an access to CAN_MEM_DATA by the host, or by the channel core's own port (R618, R619). -/
def execCanMemAccess (ch : Nat) (b core : Bool) (w : Option Word) (s : State) : Host.Outcome State Fault Refusal :=
  (if core then s.corePort ch (fun e k => (k.canMem e b true w).2)
   else match w with
    | some w => s.chWrite ch (canBase b + 0x5C) w
    | none => s.chRead ch (canBase b + 0x5C)).done

/-- CAN_MEM_ADDR_WRITE (R619). -/
def execCanMemAddrWrite (ch : Nat) (b core : Bool) (w : Word) (s : State) : Host.Outcome State Fault Refusal :=
  (if core then s.corePort ch (fun e k => k.onBus e b (fun c => c.addrWrite true w))
   else s.chWrite ch (canBase b + 0x58) w).done

/-- CAN_HOLD_WRITE (R619). -/
def execCanHoldWrite (ch : Nat) (b : Bool) (s : State) : Host.Outcome State Fault Refusal :=
  (s.onSole ch 2 (fun e k => k.onBus e b (fun c => c.holdWrite))).done

/-- CAN_RXF_ACK (R623). -/
def execCanRxfAck (ch : Nat) (b : Bool) (w : Word) (s : State) : Host.Outcome State Fault Refusal :=
  (s.chWrite ch (canBase b + 0x20) w).done

end Sys2Proof.Machine
end

