-- ==== Sys2Proof/Machine/CmdClock.lean ====
section
/-! DEFINITION. Sys2Proof/Machine/CmdClock.lean: the commands of clock synthesis (R637 to R656). The PWM domain and its oscillator
run in RUN and TRIM; the reference and the integer PLL also in VIGIL (R658). -/

namespace Sys2Proof.Machine

/-- CLK_CTRL with one of its write-only bits set. -/
def State.clkBit (s : State) (n bit : Nat) : Word := (s.ch n).clk.r.ctrl.read ||| (1#32 <<< bit)

/-- RELOCK: a write of RELOCK, or the automatic relock (R47, R61, R72, R106, R244, R285, R322, R353, R385, R630, R637,
R644, R645, R653, R678). -/
def execRelock (ch : Nat) (auto : Bool) (s : State) : Host.Outcome State Fault Refusal :=
  (if auto then s.onSole ch 1 (fun e k => k.relock e true) else s.chWrite ch 0xB00 (s.clkBit ch 31)).done

/-- LOCK_VERIFIED (R47, R72, R244, R248, R250, R644, R645, R646). -/
def execLockVerified (ch : Nat) (s : State) : Host.Outcome State Fault Refusal :=
  (s.onSole ch 1 (fun e k => k.lockVerified e)).done

/-- LOCK_ATTEMPT_TIMEOUT (R644). -/
def execLockAttemptTimeout (ch : Nat) (s : State) : Host.Outcome State Fault Refusal :=
  (s.onSole ch 1 (fun e k => k.lockTimeout e)).done

/-- LOSS_OF_LOCK (R644, R647, R648, R653). -/
def execLossOfLock (ch : Nat) (s : State) : Host.Outcome State Fault Refusal :=
  (s.onSole ch 1 (fun e k => k.lossOfLock e)).done

/-- LOCK_REGAINED (R647). -/
def execLockRegained (ch : Nat) (s : State) : Host.Outcome State Fault Refusal := (s.onSole ch 1 (fun _ k => k.lockRegained)).done

/-- LOSS_OF_REFERENCE (R42, R647, R648, R653). -/
def execLossOfReference (ch : Nat) (s : State) : Host.Outcome State Fault Refusal :=
  (s.onSole ch 2 (fun e k => k.lossOfRef e)).done

/-- REFERENCE_REGAINED (R647). -/
def execReferenceRegained (ch : Nat) (s : State) : Host.Outcome State Fault Refusal :=
  (s.onSole ch 2 (fun _ k => k.refRegained)).done

/-- RAMP_GO: a write of the bit (R641, R653). -/
def execRampGo (ch : Nat) (s : State) : Host.Outcome State Fault Refusal := (s.chWrite ch 0xB00 (s.clkBit ch 29)).done

/-- RAMP_STOP: a write of the bit (R641). -/
def execRampStop (ch : Nat) (s : State) : Host.Outcome State Fault Refusal := (s.chWrite ch 0xB00 (s.clkBit ch 28)).done

/-- RAMP_STEP (R635, R636, R640, R642, R653). -/
def execRampStep (ch : Nat) (s : State) : Host.Outcome State Fault Refusal :=
  (s.onSole ch 1 (fun _ k => { k with clk := k.clk.rampStep k.transferring })).done

/-- PLL_LOL (R649). -/
def execPllLol (ch : Nat) (s : State) : Host.Outcome State Fault Refusal := (s.onSole ch 2 (fun e k => k.pllLol e)).done

/-- R652: a hub synthesiser or the reference loses lock, or has it again. A loss sets the sticky flag and is journalled. -/
def State.hubLol (s : State) (which : Nat) (lost : Bool) : State :=
  if s.hub.run = 0 ∨ 5 ≤ which then s
  else
    let c := s.hub.r.clkStatus
    let x : HubClkStatus :=
      match which with
      | 0 => { c with coreLol := c.coreLol || lost }
      | 1 => { c with laneLol := c.laneLol || lost }
      | 2 => { c with dramLol := c.dramLol || lost }
      | 3 => { c with pcieLol := c.pcieLol || lost }
      | _ => { c with refLost := c.refLost || lost, refNow := lost }
    let s : State := { s with hub.r.clkStatus := x }
    if lost then s.hubJr JEv.hubLol [(which : Int)] else s

/-- HUB_LOSS_OF_LOCK (R652). -/
def execHubLossOfLock (which : Nat) (lost : Bool) (s : State) : Host.Outcome State Fault Refusal := (s.hubLol which lost).done

end Sys2Proof.Machine
end

