-- ==== Sys2Proof/Machine/CmdCobbler.lean ====
section
/-! DEFINITION. Sys2Proof/Machine/CmdCobbler.lean: the commands of the self-test (R683 to R696). -/

namespace Sys2Proof.Machine

/-- COB_RUN (R564, R678, R684, R692, R693, R694, R695). -/
def execCobRun (d : Desc) (s : State) : Host.Outcome State Fault Refusal := (s.descRow 0x0901 d).done

/-- COB_ABORT (R689, R693, R695). -/
def execCobAbort (d : Desc) (s : State) : Host.Outcome State Fault Refusal := (s.descRow 0x0902 d).done

/-- COB_SCHED (R686, R693, R694, R695). -/
def execCobSched (d : Desc) (s : State) : Host.Outcome State Fault Refusal := (s.descRow 0x0903 d).done

/-- COB_TEST_DUE (R686, R692). -/
def execCobTestDue (die test : Nat) (s : State) : Host.Outcome State Fault Refusal := (s.cobDue die test).done

/-- COB_TEST_START (R683, R685, R687). -/
def execCobTestStart (s : State) : Host.Outcome State Fault Refusal := s.cobStart.done

/-- COB_TEST_END (R683, R688, R691). -/
def execCobTestEnd (die : Nat) (detail : BitVec 8) (s : State) : Host.Outcome State Fault Refusal := (s.cobEnd die detail).done

/-- COB_TEST_ABORT (R683, R688, R689, R691): the tests whose conditions no longer hold end ABORTED. -/
def execCobTestAbort (_die : Nat) (s : State) : Host.Outcome State Fault Refusal := s.cobSettle.done

/-- COB_WAIT_RAISE (R686): a background test that has waited 24 h raises its unit, as a floor raised does (R663,
R666). -/
def execCobWaitRaise (die : Nat) (s : State) : Host.Outcome State Fault Refusal :=
  (if s.cobFloor die then s.pmWake die 5 else s).done

/-- COB_RES_SELECT: a write of COB_RES_SEL (R696). -/
def execCobResSelect (w : Word) (s : State) : Host.Outcome State Fault Refusal := (s.hostAccess 0x6008 true w).done

end Sys2Proof.Machine
end

