-- ==== Sys2Proof/Machine/CmdCool.lean ====
section
/-! DEFINITION. Sys2Proof/Machine/CmdCool.lean: the commands of the cable and cooling controller (R358 to R390), which runs in
RUN, TRIM and VIGIL (R658). -/

namespace Sys2Proof.Machine

/-- COOL_SENSOR_CONVERSION (R363, R364, R365, R377, R428, R437), and SF3 (R428). -/
def execCoolSensorConversion (ch : Nat) (pts ntcs : List Nat) (mv : Nat) (s : State) : Host.Outcome State Fault Refusal :=
  (s.onSole ch 2 (fun e k => (k.coolConvert e pts ntcs mv).shkSf3 e)).done

/-- FLOW_UPDATE (R363). -/
def execFlowUpdate (ch pulses : Nat) (s : State) : Host.Outcome State Fault Refusal :=
  (s.onSole ch 2 (fun e k => k.flowUpdate e pulses)).done

/-- COOL_ENABLE: a write of COOL_CTRL (R367, R368, R374, R385). -/
def execCoolEnable (ch : Nat) (w : Word) (s : State) : Host.Outcome State Fault Refusal := (s.chWrite ch 0x700 w).done

/-- AGE_RST: a write of 1 to COOL_CTRL.AGE_RST that leaves the other fields (R383, R385). -/
def execAgeRst (ch : Nat) (s : State) : Host.Outcome State Fault Refusal :=
  (s.chWrite ch 0x700 ((s.ch ch).cool.r.ctrl.read ||| 4)).done

/-- COOL_MARK (R366, R367, R370, R371, R372, R373, R375, R376, R377, R378, R385). -/
def execCoolMark (ch : Nat) (s : State) : Host.Outcome State Fault Refusal := (s.onSole ch 2 (fun e k => k.coolMark e)).done

/-- RUNDOWN_TIMEOUT (R367). -/
def execRundownTimeout (ch : Nat) (s : State) : Host.Outcome State Fault Refusal :=
  (s.onSole ch 2 (fun e k => k.rundownEnd e)).done

/-- FLOW_LOW_SET (R377, R385). -/
def execFlowLowSet (ch : Nat) (s : State) : Host.Outcome State Fault Refusal :=
  (s.onSole ch 2 (fun e k => k.flowLowSet e)).done

/-- FLOW_LOW_CLEAR (R377). -/
def execFlowLowClear (ch : Nat) (s : State) : Host.Outcome State Fault Refusal :=
  (s.onSole ch 2 (fun e k => k.flowLowClear e)).done

/-- PRES_FLT_SET (R377). -/
def execPresFltSet (ch : Nat) (s : State) : Host.Outcome State Fault Refusal := (s.onSole ch 2 (fun e k => k.presSet e)).done

/-- PRES_FLT_CLEAR (R377). -/
def execPresFltClear (ch : Nat) (s : State) : Host.Outcome State Fault Refusal :=
  (s.onSole ch 2 (fun e k => k.presClear e)).done

/-- PIN_DISC_SET (R364). -/
def execPinDiscSet (ch : Nat) (s : State) : Host.Outcome State Fault Refusal := (s.onSole ch 2 (fun e k => k.discSet e)).done

/-- PIN_DISC_CLEAR (R364). -/
def execPinDiscClear (ch : Nat) (s : State) : Host.Outcome State Fault Refusal :=
  (s.onSole ch 2 (fun e k => k.discClear e)).done

end Sys2Proof.Machine
end

