-- ==== Sys2Proof/Machine/CmdEyelet.lean ====
section
/-! DEFINITION. Sys2Proof/Machine/CmdEyelet.lean: the commands of the Eyelet dies (R391 to R426). An Eyelet die protects its
outputs by itself, whatever its Sole does (R412, R710). -/

namespace Sys2Proof.Machine

/-- A change of the Eyelet die of a channel. -/
def State.onEy (s : State) (n : Nat) (f : Nat → Ey → Ey) : State :=
  s.onCh n (fun e k => { k with ey := f e.now k.ey })

/-- A change of an output of an Eyelet die; nothing for a number above 7. -/
def State.onOut (s : State) (n i : Nat) (f : Nat → Ey → Ey) : State := if i < 8 then s.onEy n f else s

/-- The feeder that feeds the watchdog of an Eyelet die: the channel core in every state but OFF, unless the Sole is in
reset, in recovery or committing (R412, R658, R706, R707). -/
def State.feeds (s : State) (n : Nat) : Bool := decide ((s.ch n).core.run = 2) && !(s.ch n).core.pfail

/-- EYELET_COMMAND_FRAME (R349, R394, R398, R418, R422, R441, R451). -/
def execEyeletCommandFrame (ch : Nat) (s : State) : Host.Outcome State Fault Refusal :=
  (s.onSole ch 2 (fun e k => k.eyFrame e)).done

/-- EY_OVERCURRENT_TRIP (R349, R385, R395, R396, R398, R399, R406, R418). -/
def execEyOvercurrentTrip (ch i us : Nat) (s : State) : Host.Outcome State Fault Refusal :=
  (s.onOut ch i (fun now y => y.overcurrent now i us)).done

/-- EY_SHORT_CIRCUIT (R396, R398, R418). -/
def execEyShortCircuit (ch i ma : Nat) (s : State) : Host.Outcome State Fault Refusal :=
  (s.onOut ch i (fun now y => y.shortCircuit now i ma)).done

/-- EY_THERMAL_TRIP (R349, R395, R397, R398, R418). -/
def execEyThermalTrip (ch i dt : Nat) (tj : Int) (s : State) : Host.Outcome State Fault Refusal :=
  (s.onOut ch i (fun _ y => y.thermal i dt tj)).done

/-- EY_THERMAL_REARM (R397, R398, R400). -/
def execEyThermalRearm (ch i dt : Nat) (tj : Int) (s : State) : Host.Outcome State Fault Refusal :=
  (s.onOut ch i (fun _ y => y.rearm i dt tj)).done

/-- INRUSH_WINDOW_END (R398, R409). -/
def execInrushWindowEnd (ch i : Nat) (s : State) : Host.Outcome State Fault Refusal :=
  (s.onOut ch i (fun now y => y.inrushEnd now i)).done

/-- RETRY_PAUSE_END (R398, R399, R418). -/
def execRetryPauseEnd (ch i : Nat) (s : State) : Host.Outcome State Fault Refusal :=
  (s.onOut ch i (fun now y => y.pauseEnd now i)).done

/-- FCNT_CLEAR (R395). -/
def execFcntClear (ch i : Nat) (s : State) : Host.Outcome State Fault Refusal :=
  (s.onOut ch i (fun now y => y.fcntClear now i)).done

/-- EY_CLEAR (R395, R398, R400, R418, R419, R420, R421, R423). -/
def execEyClear (d : Desc) (s : State) : Host.Outcome State Fault Refusal := (s.descRow 0x0502 d).done

/-- OPEN_LOAD_JUDGE (R401, R402, R404). -/
def execOpenLoadJudge (ch i mv ma ms : Nat) (s : State) : Host.Outcome State Fault Refusal :=
  (s.onOut ch i (fun now y => y.openLoad now i mv ma ms)).done

/-- OUTPUT_UNDERVOLTAGE (R403, R404). -/
def execOutputUndervoltage (ch i mv us : Nat) (limiting : Bool) (s : State) : Host.Outcome State Fault Refusal :=
  (s.onOut ch i (fun _ y => y.outputUv i mv us limiting)).done

/-- SUPPLY_DIP (R405, R406). -/
def execSupplyDip (ch v0 v1 us : Nat) (s : State) : Host.Outcome State Fault Refusal :=
  (s.onEy ch (fun _ y => y.supplyDip v0 v1 us)).done

/-- SUPPLY_DIP_END (R405). -/
def execSupplyDipEnd (ch mv us : Nat) (s : State) : Host.Outcome State Fault Refusal :=
  (s.onEy ch (fun _ y => y.supplyDipEnd mv us)).done

/-- VSW_UNDERVOLTAGE (R349, R411, R418, R747). -/
def execVswUndervoltage (ch mv : Nat) (s : State) : Host.Outcome State Fault Refusal :=
  (s.onEy ch (fun now y => y.vswUnder now mv)).done

/-- VSW_RESTORE (R398, R411). -/
def execVswRestore (ch mv : Nat) (s : State) : Host.Outcome State Fault Refusal :=
  (s.onEy ch (fun now y => y.vswRestore now mv)).done

/-- MIRROR_SELECT_INPUT: the levels on the select lands (R410, R418). -/
def execMirrorSelectInput (ch : Nat) (sel : BitVec 3) (s : State) : Host.Outcome State Fault Refusal :=
  (s.onEy ch (fun _ y => { y with eysel := sel })).done

/-- WATCHDOG_FEED (R412, R417). -/
def execWatchdogFeed (ch : Nat) (seq : BitVec 4) (s : State) : Host.Outcome State Fault Refusal :=
  (if s.feeds ch then s.onEy ch (fun now y => y.feed now seq) else s).done

/-- EYELET_WATCHDOG_EXPIRY (R412, R413, R418, R747). -/
def execEyeletWatchdogExpiry (ch : Nat) (s : State) : Host.Outcome State Fault Refusal :=
  (s.onEy ch (fun now y => y.wdExpire now)).done

/-- FAILSAFE_DELAY_END (R398, R413). -/
def execFailsafeDelayEnd (ch : Nat) (s : State) : Host.Outcome State Fault Refusal :=
  (s.onEy ch (fun now y => y.fsDelay now)).done

/-- EY_OUTPUT (R393, R407, R408, R419, R420, R421). -/
def execEyOutput (d : Desc) (s : State) : Host.Outcome State Fault Refusal := (s.descRow 0x0501 d).done

/-- EY_LIMITS (R419, R420, R421, R425). -/
def execEyLimits (d : Desc) (s : State) : Host.Outcome State Fault Refusal := (s.descRow 0x0503 d).done

/-- EY_RESUME (R414, R419, R421). -/
def execEyResume (d : Desc) (s : State) : Host.Outcome State Fault Refusal := (s.descRow 0x0504 d).done

/-- EY_FAILSAFE (R415, R416, R419, R420, R421). -/
def execEyFailsafe (d : Desc) (s : State) : Host.Outcome State Fault Refusal := (s.descRow 0x0505 d).done

/-- EY_CMD_WRITE (R393). -/
def execEyCmdWrite (ch : Nat) (w : Word) (s : State) : Host.Outcome State Fault Refusal := (s.chWrite ch 0x804 w).done

end Sys2Proof.Machine
end

