-- ==== Sys2Proof/Machine/CmdGateway.lean ====
section
/-! DEFINITION. Sys2Proof/Machine/CmdGateway.lean: the commands of the host gateway (R506 to R548). The gateway runs in the
hub's recovery too, so that a new image can be loaded (R706), and not during an activation of the hub (R567). -/

namespace Sys2Proof.Machine

/-- The descriptor engine runs. -/
def State.gwOn (s : State) : Bool := decide (2 ≤ s.hub.run) && !(vget s.hub.fw 4 {}).act

/-- A change of the gateway, where it runs. -/
def State.atGw (s : State) (f : GCtx → Gw → Gw) : State := if s.gwOn then s.onGw (f s.gctx) else s

/-- A change of one descriptor ring of the gateway; nothing for a number above 63. -/
def State.atGwRing (s : State) (k : Nat) (f : GCtx → Gw → Gw) : State := if k < 64 then s.atGw f else s

/-- R512: a BAR0 access: the word ports are the gateway's for every node; its own window is served here; the rest travels. -/
def State.barAccess (s : State) (node ofs : Nat) (write : Bool) (w : Word) : State :=
  let ofs := ofs / 4 * 4
  if !s.gwOn ∨ 64 ≤ node ∨ 0x20000 ≤ ofs then s
  else if s.nid = some node then s.hostAccess ofs write w
  else if 0x18000 ≤ ofs then
    s.atGw (fun c g => g.wpData c.now node ((ofs - 0x18000) / 4096) (ofs % 4096) write w)
  else if 0x3200 ≤ ofs ∧ ofs < 0x3280 then
    let k := (ofs - 0x3200) / 16
    if write then s.atGw (fun c g => g.portWrite c.now node k (ofs % 16) w)
    else { s with out := s.out ++ [.readData node ofs (((s.hub.gw.portRegs node k).read (0x3200 + ofs % 16)).getD 0)] }
  else s.atGw (fun c g => g.regAccess c node ofs write w)

/-- REMOTE_REGISTER_ACCESS (R22, R512, R514, R542). -/
def execRemoteRegisterAccess (node ofs : Nat) (write : Bool) (w : Word) (s : State) : Host.Outcome State Fault Refusal :=
  (s.barAccess node ofs write w).done

/-- REG_REQ (R514, R539). -/
def execRegReq (src : Nat) (w0 w1 : Word) (s : State) : Host.Outcome State Fault Refusal :=
  (if s.hub.ringRuns then s.regReqIn src w0 w1 else s).done

/-- REG_RESP (R512, R539). -/
def execRegResp (w0 w1 : Word) (s : State) : Host.Outcome State Fault Refusal :=
  (if s.gwOn then s.regRespIn w0 w1 else s).done

/-- REMOTE_READ_TIMEOUT (R512). -/
def execRemoteReadTimeout (rid : Nat) (s : State) : Host.Outcome State Fault Refusal :=
  (s.atGw (fun c g => g.readTimeout c.now rid)).done

/-- SQ_DOORBELL (R507, R517, R518, R519, R542, R661). -/
def execSqDoorbell (k : Nat) (w : Word) (s : State) : Host.Outcome State Fault Refusal :=
  ((s.atGwRing k (fun c g => g.sqDoorbell c.now k w)).pmWake 4 4).done

/-- CQ_DOORBELL (R518, R519, R542). -/
def execCqDoorbell (k : Nat) (w : Word) (s : State) : Host.Outcome State Fault Refusal :=
  ((s.atGwRing k (fun _ g => g.cqDoorbell k w)).pmWake 4 4).done

/-- RING_ENABLE (R517, R520). -/
def execRingEnable (k : Nat) (s : State) : Host.Outcome State Fault Refusal := (s.atGwRing k (fun _ g => g.enable k)).done

/-- RING_DISABLE (R517). -/
def execRingDisable (k : Nat) (s : State) : Host.Outcome State Fault Refusal :=
  (s.atGwRing k (fun c g => g.disable c.now k)).done

/-- RING_ABORT (R517). -/
def execRingAbort (k : Nat) (s : State) : Host.Outcome State Fault Refusal := (s.atGwRing k (fun _ g => g.abort k)).done

/-- RING_DRAIN_DONE (R517). -/
def execRingDrainDone (k : Nat) (s : State) : Host.Outcome State Fault Refusal :=
  (s.atGwRing k (fun _ g => g.drainDone k)).done

/-- DESCRIPTOR_FETCH (R507, R517, R519, R523, R524, R525, R751). -/
def execDescriptorFetch (k : Nat) (ok : Bool) (ds : List (Vector Word 16)) (s : State) : Host.Outcome State Fault Refusal :=
  (s.atGwRing k (fun c g => g.fetch c k ok ds)).done

/-- DESC: a descriptor reaches its target die (R514, R524, R525, R529, R530, R531, R533, R539, R542, R580, R588, R589,
R590, R601, R602, R661). -/
def execDesc (d : Desc) (s : State) : Host.Outcome State Fault Refusal := (s.descIn d).done

/-- COMPL (R517, R520, R521, R525, R526, R527, R532, R539, R542). -/
def execCompl (src : Nat) (w : Vector Word 5) (s : State) : Host.Outcome State Fault Refusal :=
  (if s.hub.ringRuns then s.complIn src w.toList else s).done

/-- IRQ_TIME_EXPIRY (R521). -/
def execIrqTimeExpiry (k : Nat) (s : State) : Host.Outcome State Fault Refusal :=
  (s.atGwRing k (fun c g => g.irqTime c.now k)).done

/-- DESCRIPTOR_TIMEOUT (R526, R542). -/
def execDescriptorTimeout (rid : Nat) (s : State) : Host.Outcome State Fault Refusal :=
  (s.atGw (fun c g => g.timeout c.now rid)).done

/-- R351, R532: attention again while the session queue is not empty, 10 ms after the last. -/
def Chan.attnRepeat (k : Chan) (e : Env) : Chan :=
  if k.veh.evq ≠ [] ∧ k.veh.tAttn + msNs 10 ≤ e.now then
    ({ k with veh.tAttn := e.now } : Chan).send (.attention (some k.idx))
  else k

/-- SESSION_ATTN_REPEAT (R532). -/
def execSessionAttnRepeat (ch : Nat) (s : State) : Host.Outcome State Fault Refusal :=
  (s.onSole ch 2 (fun e k => k.attnRepeat e)).done

/-- WP_DATA_ACCESS (R512, R515, R533, R537). -/
def execWpDataAccess (node k ofs : Nat) (write : Bool) (w : Word) (s : State) : Host.Outcome State Fault Refusal :=
  (s.atGw (fun c g => g.wpData c.now node k ofs write w)).done

/-- WP_COMMIT (R535). -/
def execWpCommit (node k wlen : Nat) (s : State) : Host.Outcome State Fault Refusal :=
  (s.atGw (fun c g => g.wpCommit c.now node k wlen)).done

/-- WP_ACK (R317, R536). -/
def execWpAck (node k : Nat) (s : State) : Host.Outcome State Fault Refusal := (s.atGw (fun c g => g.wpAck c.now node k)).done

/-- WP_NAK (R536). -/
def execWpNak (node k : Nat) (s : State) : Host.Outcome State Fault Refusal := (s.atGw (fun c g => g.wpNak c.now node k)).done

/-- WP_ABORT (R538). -/
def execWpAbort (node k : Nat) (s : State) : Host.Outcome State Fault Refusal :=
  (s.atGw (fun c g => g.wpAbort c.now node k)).done

/-- WP_TIMEOUT (R538). -/
def execWpTimeout (node k : Nat) (s : State) : Host.Outcome State Fault Refusal :=
  (s.atGw (fun c g => g.wpTimeout c.now node k)).done

/-- WORD (R535, R536, R539, R585). -/
def execWord (src : Nat) (w0 w1 : Word) (data : List Word) (s : State) : Host.Outcome State Fault Refusal :=
  (if s.hub.ringRuns then s.wordIn src w0 w1 data else s).done

/-- ENDPOINT_RESET (R508, R509, R517, R538, R542, R711). -/
def execEndpointReset (s : State) : Host.Outcome State Fault Refusal := ((s.atGw (fun _ g => g.reset)).pmWake 4 7).done

/-- GATEWAY_ROLE_CHANGE (R510, R517, R541). -/
def execGatewayRoleChange (up : Bool) (speed : BitVec 4) (width : BitVec 2) (s : State) : Host.Outcome State Fault Refusal :=
  (s.atGw (fun c g => g.linkTo c up speed width)).done

/-- CNT_SELECT: a write of GW_CNT_SEL (R544). -/
def execCntSelect (w : Word) (s : State) : Host.Outcome State Fault Refusal := (s.hostAccess 0x3010 true w).done

/-- BUS_MASTER_ENABLE (R507). -/
def execBusMasterEnable (on : Bool) (s : State) : Host.Outcome State Fault Refusal :=
  (s.atGw (fun c g => g.setBme c.now on)).done

end Sys2Proof.Machine
end

