-- ==== Sys2Proof/Machine/CmdGrant.lean ====
section
/-! DEFINITION. Sys2Proof/Machine/CmdGrant.lean: the commands of site power sharing: context and curve records, epochs, grants
and the planner's configuration (R196 to R242). -/

namespace Sys2Proof.Machine

/-- The engine a channel sends its records to: the issuer of its newest grant, else of the newest grant frame this hub has
seen; none: unknown (R197, R199). -/
def State.coordOf (s : State) (ch : Nat) : Option Nat :=
  match (s.ch ch).grant.hi with
  | some h => some h.nid
  | none => if s.hub.eng.active then s.nid else s.hub.eng.pair.act.map (fun a => a.1)

/-- A record of a channel goes to the engine: by this hub where that is its own, else in a frame. A Sole without its hub
sends none. -/
def State.toCoord (s : State) (ch : Nat) (t : FType) (ws : List Word) : State :=
  if (vget s.hub.st ch {}).hubLost then s
  else match s.coordOf ch with
    | none => s
    | some n =>
      if some n = s.nid then (if t = .context then s.ctxIn ws else s.curveIn ws) else s.originate t (some n) ws

/-- R197: the context record of a channel. -/
def State.sendCtx (s : State) (ch : Nat) : State :=
  let k := s.ch ch
  match s.gcid ch with
  | some g => if ch < 4 ∧ k.core.run = 2 ∧ k.core.pm ≤ 2 then s.toCoord ch .context (k.ctxWords g) else s
  | none => s

/-- R199: the curve record of a charging channel. -/
def State.sendCurve (s : State) (ch : Nat) : State :=
  let k := s.ch ch
  match s.gcid ch with
  | some g =>
    if ch < 4 ∧ k.core.run = 2 ∧ k.core.pm ≤ 2 ∧ !k.core.meterRole then s.toCoord ch .curve (k.curveRecord g) else s
  | none => s

/-- R205, R552, R553, R560: an epoch boundary. After PFAIL the hub issues no grants (R707). -/
def State.epoch (s : State) : State :=
  s.onEng (fun x e =>
    let e := e.boundary x
    if s.pwr.tPf.isSome then { e with tx := e.tx.filter (fun f => decide (f.1 ≠ .grant)) } else e)

/-- CONTEXT_RECORD_SEND (R197, R198, R205, R558). -/
def execContextRecordSend (ch : Nat) (s : State) : Host.Outcome State Fault Refusal := (s.sendCtx ch).done

/-- CONTEXT_RECORD (R212, R222, R232, R240, R555, R572). -/
def execContextRecord (ws : Vector Word 8) (s : State) : Host.Outcome State Fault Refusal := (s.ctxIn ws.toList).done

/-- CURVE_RECORD_SEND (R199, R558). -/
def execCurveRecordSend (ch : Nat) (s : State) : Host.Outcome State Fault Refusal := (s.sendCurve ch).done

/-- CURVE_RECORD (R206). -/
def execCurveRecord (ws : List Word) (s : State) : Host.Outcome State Fault Refusal :=
  (if ws.length = 34 then s.curveIn ws else s).done

/-- EPOCH_BOUNDARY (R196, R201, R202, R204, R205, R206, R207, R208, R209, R210, R211, R212, R213, R214, R215, R216,
R217, R218, R219, R220, R222, R232, R240, R548, R549, R550, R551, R552, R553, R554, R555, R556, R557, R559, R560,
R572, R692). -/
def execEpochBoundary (s : State) : Host.Outcome State Fault Refusal := s.epoch.done

/-- GRANT_RECORD (R13, R77, R96, R196, R205, R225, R227, R228, R231, R232, R241, R353). -/
def execGrantRecord (ch : Nat) (h : Vector Word 3) (r : Vector Word 4) (s : State) : Host.Outcome State Fault Refusal :=
  (match s.gcid ch with
   | some g => s.onSole ch 2 (fun e k => k.grantRecord e g
       (GrantMsg.ofWords (vget h 0 0) (vget h 1 0) (vget h 2 0) (vget r 0 0) (vget r 1 0) (vget r 2 0) (vget r 3 0)))
   | none => s).done

/-- GRANT_HOLD_TIMEOUT (R228, R229). -/
def execGrantHoldTimeout (ch : Nat) (s : State) : Host.Outcome State Fault Refusal :=
  (s.onSole ch 2 (fun e k => k.grantHold e)).done

/-- GRANT_FLOOR_TIMEOUT (R228, R229). -/
def execGrantFloorTimeout (ch : Nat) (s : State) : Host.Outcome State Fault Refusal :=
  (s.onSole ch 2 (fun e k => k.grantFloor e)).done

/-- MERGE_TIMEOUT (R231). -/
def execMergeTimeout (ch : Nat) (s : State) : Host.Outcome State Fault Refusal :=
  (s.onSole ch 2 (fun e k => k.mergeTimeout e)).done

/-- PIN_CHECK (R226). -/
def execPinCheck (ch : Nat) (s : State) : Host.Outcome State Fault Refusal := (s.onSole ch 1 (fun e k => k.pinCheck e)).done

/-- GHOST_TIMEOUT (R222, R223). -/
def execGhostTimeout (g : Nat) (s : State) : Host.Outcome State Fault Refusal :=
  (s.onEng (fun x e => if e.active then { e with last := e.last.ghostTimeout x.now g } else e)).done

/-- SITE_CAPS (R203, R233, R234, R235). -/
def execSiteCaps (d : Desc) (s : State) : Host.Outcome State Fault Refusal := (s.descRow 0x0301 d).done

/-- FEEDER_CFG (R203, R233, R234, R235). -/
def execFeederCfg (d : Desc) (s : State) : Host.Outcome State Fault Refusal := (s.descRow 0x0302 d).done

/-- CURTAIL (R220, R221, R232, R233, R234, R235, R572). -/
def execCurtail (d : Desc) (s : State) : Host.Outcome State Fault Refusal := (s.descRow 0x0303 d).done

/-- CURTAIL_EXPIRY (R220). -/
def execCurtailExpiry (k : Nat) (s : State) : Host.Outcome State Fault Refusal :=
  (s.onEng (fun x e => e.curtExpiry x.now k)).done

/-- CHANNEL_CFG (R203, R222, R232, R233, R234, R235, R241, R242). -/
def execChannelCfg (d : Desc) (s : State) : Host.Outcome State Fault Refusal := (s.descRow 0x0304 d).done

/-- PRIORITY (R233, R234, R235, R241). -/
def execPriority (d : Desc) (s : State) : Host.Outcome State Fault Refusal := (s.descRow 0x0305 d).done

/-- ESCROW_RELEASE (R222, R233, R235). -/
def execEscrowRelease (d : Desc) (s : State) : Host.Outcome State Fault Refusal := (s.descRow 0x0306 d).done

/-- PLANNER_CFG (R204, R232, R233, R234, R235). -/
def execPlannerCfg (d : Desc) (s : State) : Host.Outcome State Fault Refusal := (s.descRow 0x0307 d).done

/-- CONFIG_STORE (R233, R548). -/
def execConfigStore (src : Nat) (ws : List Word) (s : State) : Host.Outcome State Fault Refusal :=
  (s.configIn src true (ws.take 16)).done

/-- CTX_SELECT (R239). -/
def execCtxSelect (w : Word) (s : State) : Host.Outcome State Fault Refusal := (s.hostAccess 0x2100 true w).done

end Sys2Proof.Machine
end

