-- ==== Sys2Proof/Machine/CmdKeys.lean ====
section
/-! DEFINITION. Sys2Proof/Machine/CmdKeys.lean: the commands of keys, life cycle and tamper response (R581 to R609). -/

namespace Sys2Proof.Machine

/-- KEY_WRITE (R583, R584, R585, R587, R603, R604, R605, R718). -/
def execKeyWrite (d : Desc) (s : State) : Host.Outcome State Fault Refusal := (s.descRow 0x0701 d).done

/-- KEY_ZEROISE (R584, R586, R587, R602, R603, R604, R605). -/
def execKeyZeroise (d : Desc) (s : State) : Host.Outcome State Fault Refusal := (s.descRow 0x0702 d).done

/-- LC_ADVANCE (R302, R579, R581, R602, R603, R604, R605, R718). -/
def execLcAdvance (d : Desc) (s : State) : Host.Outcome State Fault Refusal := (s.descRow 0x0703 d).done

/-- DEBUG_SET (R579, R582, R602, R603, R604, R605). -/
def execDebugSet (d : Desc) (s : State) : Host.Outcome State Fault Refusal := (s.descRow 0x0704 d).done

/-- TAMPER_CLEAR (R599, R600, R602, R603, R605). -/
def execTamperClear (d : Desc) (s : State) : Host.Outcome State Fault Refusal := (s.descRow 0x0705 d).done

/-- TAMPER_CFG (R602, R603, R604, R605). -/
def execTamperCfg (d : Desc) (s : State) : Host.Outcome State Fault Refusal := (s.descRow 0x0706 d).done

/-- TAMPER_INPUT_ALARM (R303, R322, R340, R353, R595, R598, R599, R600, R602, R678). -/
def execTamperInputAlarm (die : Nat) (i isOpen : Bool) (ms : Nat) (s : State) : Host.Outcome State Fault Refusal :=
  (s.tampInput die i isOpen ms).done

/-- TAMPER_DETECTOR_ALARM (R303, R322, R340, R596, R598, R599, R600, R602, R746). -/
def execTamperDetectorAlarm (die code : Nat) (x : Int) (s : State) : Host.Outcome State Fault Refusal :=
  (s.tampDet die code x).done

/-- SESSION_KEY_ZEROISE (R598). -/
def execSessionKeyZeroise (ch : Nat) (s : State) : Host.Outcome State Fault Refusal :=
  (s.onSole ch 3 (fun e k => k.volDue e)).done

/-- KEY_CTR_SELECT: a write of KEY_CTR_SEL of a Sole or of the hub (R591). -/
def execKeyCtrSelect (die : Nat) (w : Word) (s : State) : Host.Outcome State Fault Refusal :=
  (if die = 4 then s.hostAccess 0x400C true w else s.chWrite die 0xC0C w).done

end Sys2Proof.Machine
end

