-- ==== Sys2Proof/Machine/CmdLedger.lean ====
section
/-! DEFINITION. Sys2Proof/Machine/CmdLedger.lean: the commands of the sealed partition and the ledger (R297 to R326). -/

namespace Sys2Proof.Machine

/-- R319: a record that was kept is tried again. -/
def Chan.recordRetry (k : Chan) (e : Env) (nid : Option Nat) (bad : Nat) : Chan :=
  if k.ledg.r.status.recErr then k.recordWrite e nid bad else k

/-- LEGAL_SEAL (R285, R302, R303, R305, R313, R315, R323, R324, R325, R594). -/
def execLegalSeal (d : Desc) (s : State) : Host.Outcome State Fault Refusal := (s.descRow 0x0405 d).done

/-- LEGAL_UNSEAL (R302, R303, R315, R322, R323, R324, R325). -/
def execLegalUnseal (d : Desc) (s : State) : Host.Outcome State Fault Refusal := (s.descRow 0x0406 d).done

/-- LEDGER_READ (R316, R323, R324, R325). -/
def execLedgerRead (d : Desc) (s : State) : Host.Outcome State Fault Refusal := (s.descRow 0x0407 d).done

/-- LEDGER_ACK (R314, R317, R318, R322, R323, R324, R325). -/
def execLedgerAck (d : Desc) (s : State) : Host.Outcome State Fault Refusal := (s.descRow 0x0408 d).done

/-- LEGAL_CODE_LOAD (R305, R322, R323, R324, R325, R593). -/
def execLegalCodeLoad (d : Desc) (s : State) : Host.Outcome State Fault Refusal := (s.descRow 0x0409 d).done

/-- RECORD_WRITE_DONE (R300, R307, R308, R309, R310, R311, R314, R315, R318, R319, R353, R755). -/
def execRecordWriteDone (ch bad : Nat) (s : State) : Host.Outcome State Fault Refusal :=
  (s.onLegal ch 2 (fun e k => k.recordWrite e s.nid bad)).done

/-- RECORD_WRITE_RETRY (R319). -/
def execRecordWriteRetry (ch bad : Nat) (s : State) : Host.Outcome State Fault Refusal :=
  (s.onLegal ch 2 (fun e k => k.recordRetry e s.nid bad)).done

/-- DRIFT_COMPARE (R312, R313, R322). -/
def execDriftCompare (ch : Nat) (s : State) : Host.Outcome State Fault Refusal :=
  (s.onLegal ch 2 (fun e k => k.driftCompare e)).done

/-- LEGAL_STORE (R320). -/
def execLegalStore (ch : Nat) (s : State) : Host.Outcome State Fault Refusal := (s.onLegal ch 2 (fun _ k => k.legalStore)).done

end Sys2Proof.Machine
end

