-- ==== Sys2Proof/Machine/CmdLoop.lean ====
section
/-! DEFINITION. Sys2Proof/Machine/CmdLoop.lean: the commands of the loop engine (R134 to R189). -/

namespace Sys2Proof.Machine

/-- R155, R436: ON_DLY has elapsed. Where the loop would enter CV or CC, Shank tests its gate path first; a failed test
refuses the start. -/
def Chan.onDelayTested (k : Chan) (e : Env) : Chan :=
  let n := k.onDelay e
  if n.loop.r.status.state.running ∧ !k.loop.r.status.state.running then
    let t := k.shkGateTest e
    if t.2 then n
    else
      let k := t.1.loopIdle e
      { k with loop := { k.loop with r := { k.loop.r with status := { k.loop.r.status with startRef := true } } } }
  else n

/-- An upset of a stored coefficient: loop, bank, word and the bits flipped (R163). -/
def Loop.upset (l : Loop) (u : Bool × Nat × Nat × Word) : Loop :=
  if u.2.1 < 3 ∧ u.2.2.1 < 41 then
    l.modBank u.1 u.2.1 (fun (b : Bank) => { b with words := vMod b.words u.2.2.1 (fun w => w ^^^ u.2.2.2) })
  else l

/-- INNER_TICK (R68, R136, R137, R138, R140, R141, R143, R153, R154, R155, R161, R162, R164, R165, R166, R167, R168,
R385, R638). -/
def execInnerTick (ch : Nat) (s : State) : Host.Outcome State Fault Refusal := (s.onSole ch 0 (fun e k => k.innerTick e)).done

/-- OUTER_SAMPLE (R91, R93, R97, R98, R101, R102, R136, R137, R138, R144, R146, R147, R149, R150, R151, R152, R154,
R155, R161, R162, R165, R166, R167, R168, R171, R174, R376, R385). -/
def execOuterSample (ch : Nat) (s : State) : Host.Outcome State Fault Refusal := (s.onSole ch 0 (fun e k => k.outerSample e)).done

/-- LIMIT_APPLY_IDLE (R151). -/
def execLimitApplyIdle (ch : Nat) (s : State) : Host.Outcome State Fault Refusal := (s.onSole ch 2 (fun _ k => k.limitIdle)).done

/-- LOOP_START (R145, R155, R156, R175, R176, R177, R653, R692, R714). -/
def execLoopStart (d : Desc) (s : State) : Host.Outcome State Fault Refusal := (s.descRow 0x0204 d).done

/-- ON_DELAY_EXPIRY (R72, R73, R74, R154, R155, R436, R642). -/
def execOnDelayExpiry (ch : Nat) (s : State) : Host.Outcome State Fault Refusal :=
  (s.onSole ch 1 (fun e k => k.onDelayTested e)).done

/-- OFF_DELAY_EXPIRY (R72, R155, R340, R345, R352, R380, R381, R382, R384, R435, R561, R653, R675). -/
def execOffDelayExpiry (ch : Nat) (s : State) : Host.Outcome State Fault Refusal :=
  (s.onSole ch 1 (fun e k => k.offDelay e)).done

/-- STOP_TIMEOUT (R155). -/
def execStopTimeout (ch : Nat) (s : State) : Host.Outcome State Fault Refusal :=
  (s.onSole ch 1 (fun e k => k.stopTimeout e)).done

/-- LOOP_STOP (R155, R174, R175, R340, R354). -/
def execLoopStop (d : Desc) (s : State) : Host.Outcome State Fault Refusal := (s.descRow 0x0205 d).done

/-- LOOP_CLEAR (R155, R171, R175, R176, R177, R673). -/
def execLoopClear (d : Desc) (s : State) : Host.Outcome State Fault Refusal := (s.descRow 0x0208 d).done

/-- BANK_WRITE (R158, R175, R176, R177). -/
def execBankWrite (d : Desc) (s : State) : Host.Outcome State Fault Refusal := (s.descRow 0x0201 d).done

/-- BANK_SEAL (R159, R175, R176, R177). -/
def execBankSeal (d : Desc) (s : State) : Host.Outcome State Fault Refusal := (s.descRow 0x0202 d).done

/-- BANK_SEAL_REG (R159, R188). -/
def execBankSealReg (ch : Nat) (w : Word) (s : State) : Host.Outcome State Fault Refusal := (s.chWrite ch 0x238 w).done

/-- BANK_SWAP (R161, R174, R175, R176, R177). -/
def execBankSwap (d : Desc) (s : State) : Host.Outcome State Fault Refusal := (s.descRow 0x0203 d).done

/-- SETPOINT (R175, R176, R177). -/
def execSetpoint (d : Desc) (s : State) : Host.Outcome State Fault Refusal := (s.descRow 0x0206 d).done

/-- LIMITS (R175, R176, R177). -/
def execLimits (d : Desc) (s : State) : Host.Outcome State Fault Refusal := (s.descRow 0x0207 d).done

/-- FB_RETURN (R168, R175, R177). -/
def execFbReturn (d : Desc) (s : State) : Host.Outcome State Fault Refusal := (s.descRow 0x0209 d).done

/-- CDATA_ACCESS (R158, R189). -/
def execCdataAccess (ch : Nat) (w : Option Word) (s : State) : Host.Outcome State Fault Refusal :=
  (match w with
   | some w => s.chWrite ch 0x248 w
   | none => s.chRead ch 0x248).done

/-- BANK_CHECK (R155, R159, R163, R168, R174). -/
def execBankCheck (ch : Nat) (upset : List (Bool × Nat × Nat × Word)) (s : State) : Host.Outcome State Fault Refusal :=
  (s.onSole ch 2 (fun e k => ({ k with loop := upset.foldl Loop.upset k.loop } : Chan).bankCheck e)).done

/-- FALLBACK_TIMEOUT (R168). -/
def execFallbackTimeout (ch : Nat) (s : State) : Host.Outcome State Fault Refusal :=
  (s.onSole ch 1 (fun e k => k.fbTimeout e)).done

/-- NTC_CONVERSION (R155, R169, R170, R171). -/
def execNtcConversion (ch : Nat) (rs : List Nat) (s : State) : Host.Outcome State Fault Refusal :=
  (s.onSole ch 2 (fun e k => k.ntcConv e rs)).done

/-- AUX_LOOP_MARK (R172, R173, R638). -/
def execAuxLoopMark (ch : Nat) (s : State) : Host.Outcome State Fault Refusal := (s.onSole ch 2 (fun _ k => k.auxMark)).done

end Sys2Proof.Machine
end

