-- ==== Sys2Proof/Machine/CmdMetro.lean ====
section
/-! DEFINITION. Sys2Proof/Machine/CmdMetro.lean: the commands of the metrology engine (R243 to R296). -/

namespace Sys2Proof.Machine

/-- A change of a channel's metrology engine, while it runs (R658). -/
def State.onMet (s : State) (ch : Nat) (f : Env → Met → Met) : State :=
  s.onLegal ch 1 (fun e k => { k with met := f e k.met })

/-- R258, R307, R276, R95: the results of a millisecond, which the open record follows; a change of the voltage band derives the thresholds of MAP again. -/
def Chan.msEnd (k : Chan) (e : Env) : Chan :=
  let r := k.msResults
  let k := r.1.recPower
  if r.2 ∧ k.pwm.mode k.auto = .map then
    { k with pwm := k.pwm.replan e.now k.met.bins k.met.halfBin ((k.msVal 0 : Rat) / 1000) }
  else k

/-- STREAM_FAULT (R246, R266). -/
def execStreamFault (ch i : Nat) (s : State) : Host.Outcome State Fault Refusal :=
  (if i < 12 then s.onMet ch (fun _ m => m.fault i) else s).done

/-- STREAM_FAULT_END (R246, R250). -/
def execStreamFaultEnd (ch i : Nat) (s : State) : Host.Outcome State Fault Refusal :=
  (if i < 12 then s.onMet ch (fun _ m => m.faultEnd i) else s).done

/-- FAST_OUTPUT (R247, R248, R249, R250, R251). -/
def execFastOutput (ch : Nat) (raws : List Int) (s : State) : Host.Outcome State Fault Refusal :=
  (s.onLegal ch 1 (fun e k => k.fastOutput e raws)).done

/-- METROLOGY_SAMPLE (R247, R248, R250, R251, R252, R256, R262, R263, R264, R265, R266, R267, R268, R269, R270, R285,
R340, R343, R353). -/
def execMetrologySample (ch : Nat) (raws : List Int) (s : State) : Host.Outcome State Fault Refusal :=
  (s.onLegal ch 1 (fun e k => k.metSample e raws)).done

/-- AC_WINDOW_END (R256, R257, R259, R260, R261). -/
def execAcWindowEnd (ch : Nat) (s : State) : Host.Outcome State Fault Refusal :=
  (s.onLegal ch 1 (fun e k => k.acWindow e)).done

/-- MS_RESULTS (R258, R276, R340, R350). -/
def execMsResults (ch : Nat) (s : State) : Host.Outcome State Fault Refusal := (s.onLegal ch 1 (fun e k => k.msEnd e)).done

/-- CAL_APPLY (R254, R255, R285). -/
def execCalApply (ch : Nat) (w : Word) (s : State) : Host.Outcome State Fault Refusal := (s.chWrite ch 0x41C w).done

/-- IVL_SNAPSHOT_READ (R271, R285). -/
def execIvlSnapshotRead (ch : Nat) (s : State) : Host.Outcome State Fault Refusal := (s.chRead ch 0x460).done

/-- IVL_RESET (R272, R285). -/
def execIvlReset (ch : Nat) (w : Word) (s : State) : Host.Outcome State Fault Refusal := (s.chWrite ch 0x474 w).done

/-- Q_SELECT (R294). -/
def execQSelect (ch : Nat) (w : Word) (s : State) : Host.Outcome State Fault Refusal := (s.chWrite ch 0x440 w).done

/-- EFF_WINDOW_END (R277, R278, R279, R285). -/
def execEffWindowEnd (ch : Nat) (s : State) : Host.Outcome State Fault Refusal := (s.onLegal ch 1 (fun _ k => k.effEnd)).done

/-- EMAP_STORE (R280). -/
def execEmapStore (ch : Nat) (s : State) : Host.Outcome State Fault Refusal := (s.onMet ch (fun _ m => m.emapStore)).done

/-- EMAP_SELECT (R296). -/
def execEmapSelect (ch : Nat) (w : Word) (s : State) : Host.Outcome State Fault Refusal := (s.chWrite ch 0x488 w).done

/-- CAP_ARM (R281, R282, R286, R288, R297, R678). -/
def execCapArm (d : Desc) (s : State) : Host.Outcome State Fault Refusal := (s.descRow 0x0401 d).done

/-- CAP_TRIGGER (R282, R283, R286, R288). -/
def execCapTrigger (d : Desc) (s : State) : Host.Outcome State Fault Refusal := (s.descRow 0x0402 d).done

/-- CAP_TRIGGER_EVENT (R282, R283, R285): a source that no command of its own brings. -/
def execCapTriggerEvent (ch bit : Nat) (s : State) : Host.Outcome State Fault Refusal :=
  (if bit < 5 then s.onMet ch (fun e m => m.trigger e bit) else s).done

/-- CAP_POST_END (R282). -/
def execCapPostEnd (ch : Nat) (s : State) : Host.Outcome State Fault Refusal := (s.onMet ch (fun e m => m.postEnd e)).done

/-- CAP_READ (R286, R287, R288). -/
def execCapRead (d : Desc) (s : State) : Host.Outcome State Fault Refusal := (s.descRow 0x0403 d).done

/-- EMAP_CLEAR (R280, R286, R287, R288). -/
def execEmapClear (d : Desc) (s : State) : Host.Outcome State Fault Refusal := (s.descRow 0x0404 d).done

end Sys2Proof.Machine
end

