-- ==== Sys2Proof/Machine/CmdPair.lean ====
section
/-! DEFINITION. Sys2Proof/Machine/CmdPair.lean: the commands of the coordinator pair, of firmware and of the service hold (R547 to
R580). -/

namespace Sys2Proof.Machine

/-- A PAIR frame wakes the hub (R666) and reaches the engine. -/
def State.pairRow (s : State) (f : LCtx → Eng → Eng) : State := (s.pmWake 4 8).onEng f

/-- COORD_ELECT (R547, R548, R549). -/
def execCoordElect (s : State) : Host.Outcome State Fault Refusal := (s.onEng (fun x e => e.elect x)).done

/-- MIRROR_CAPS (R550). -/
def execMirrorCaps (ws : List Word) (s : State) : Host.Outcome State Fault Refusal := (s.pairRow (fun _ e => e.mirrorCaps ws)).done

/-- MIRROR_CTX (R550). -/
def execMirrorCtx (ws : List Word) (s : State) : Host.Outcome State Fault Refusal := (s.pairRow (fun _ e => e.mirrorCtx ws)).done

/-- CHECKPOINT_TIMER (R550). -/
def execCheckpointTimer (s : State) : Host.Outcome State Fault Refusal := (s.onEng (fun x e => e.sendCkpt x)).done

/-- CKPT (R548, R550). -/
def execCkpt (ws : List Word) (s : State) : Host.Outcome State Fault Refusal :=
  (s.pairRow (fun x e => e.ckptPart x.now ws)).done

/-- VERDICT (R551). -/
def execVerdict (w : Vector Word 2) (s : State) : Host.Outcome State Fault Refusal :=
  (s.pairRow (fun x e => e.verdict x w[0])).done

/-- TAKEOVER_FRAME (R548, R556). -/
def execTakeoverFrame (w : Vector Word 2) (s : State) : Host.Outcome State Fault Refusal :=
  (s.pairRow (fun x e => e.takeoverFrame x w[0])).done

/-- HIGHER_GEN_GRANT: a grant frame of another engine reaches this engine and this node's channels (R548, R556). -/
def execHigherGenGrant (ws : List Word) (s : State) : Host.Outcome State Fault Refusal :=
  ((if s.hub.ringRuns then s.grantIn ws else s).onEng (fun x e => e.grantSeen x ws)).done

/-- PLANNER_WAKE_DONE (R557). -/
def execPlannerWakeDone (s : State) : Host.Outcome State Fault Refusal := (s.onEng (fun x e => e.wakeDone x.now)).done

/-- SWAP_REQ (R560). -/
def execSwapReq (src : Nat) (w : Vector Word 2) (s : State) : Host.Outcome State Fault Refusal :=
  (s.pairRow (fun _ e => e.swapReq src w[0])).done

/-- SWAP_ACK (R560). -/
def execSwapAck (w : Vector Word 2) (s : State) : Host.Outcome State Fault Refusal :=
  (s.pairRow (fun _ e => e.swapAcked w[0])).done

/-- FW_LOAD (R565, R573, R574, R575, R593). -/
def execFwLoad (d : Desc) (s : State) : Host.Outcome State Fault Refusal := (s.descRow 0x0801 d).done

/-- FW_COMMIT (R565, R573, R574, R575, R718). -/
def execFwCommit (d : Desc) (s : State) : Host.Outcome State Fault Refusal := (s.descRow 0x0802 d).done

/-- FW_COMMIT_DONE (R565, R704). -/
def execFwCommitDone (die : Nat) (ok : Bool) (s : State) : Host.Outcome State Fault Refusal := (s.fwCommitDone die ok).done

/-- FW_ACTIVATE (R306, R350, R451, R548, R565, R566, R567, R568, R572, R573, R574, R575, R594, R678, R692, R705,
R706). -/
def execFwActivate (d : Desc) (s : State) : Host.Outcome State Fault Refusal := (s.descRow 0x0803 d).done

/-- FW_RUNNING (R548, R566, R567). -/
def execFwRunning (die : Nat) (s : State) : Host.Outcome State Fault Refusal := (s.fwRunning die).done

/-- TRIAL_LAPSE (R568, R572). -/
def execTrialLapse (die : Nat) (s : State) : Host.Outcome State Fault Refusal := (s.trialLapse die).done

/-- PAIR_ASSIGN (R548, R572, R573, R574, R575). -/
def execPairAssign (d : Desc) (s : State) : Host.Outcome State Fault Refusal := (s.descRow 0x0804 d).done

/-- PAIR_SWAP (R560, R572, R573, R575). -/
def execPairSwap (d : Desc) (s : State) : Host.Outcome State Fault Refusal := (s.descRow 0x0805 d).done

/-- CH_HOLD (R561, R563, R573, R574, R575). -/
def execChHold (d : Desc) (s : State) : Host.Outcome State Fault Refusal := (s.descRow 0x0806 d).done

/-- CONFIG_STORE_TIMEOUT (R233, R235). -/
def execConfigStoreTimeout (s : State) : Host.Outcome State Fault Refusal := (s.onEng (fun x e => e.configTimeout x.now)).done

end Sys2Proof.Machine
end

