-- ==== Sys2Proof/Machine/CmdPower.lean ====
section
/-! DEFINITION. Sys2Proof/Machine/CmdPower.lean: the commands of power management, temperature and ageing (R657 to R682). -/

namespace Sys2Proof.Machine

/-- PM_EVALUATE (R663, R664, R665). -/
def execPmEvaluate (vaux mw : Nat) (s : State) : Host.Outcome State Fault Refusal := (s.pmEvaluate vaux mw).done

/-- PM_LOWER (R665). -/
def execPmLower (u : Nat) (s : State) : Host.Outcome State Fault Refusal := (s.pmLower u).done

/-- PM_STATE_REACHED (R374, R659, R661, R665, R678, R686). -/
def execPmStateReached (u : Nat) (s : State) : Host.Outcome State Fault Refusal := (s.pmReached u).done

/-- PM_WAKE (R331, R665, R666, R678). -/
def execPmWake (u code : Nat) (s : State) : Host.Outcome State Fault Refusal := (s.pmWake u code).done

/-- TEMP_CONVERSION (R668, R669, R670, R675, R678, R692). -/
def execTempConversion (die : Nat) (rs : List Int) (s : State) : Host.Outcome State Fault Refusal := (s.tempConv die rs).done

/-- THROTTLE_UPDATE (R672). -/
def execThrottleUpdate (die : Nat) (s : State) : Host.Outcome State Fault Refusal := (s.throttle die).done

/-- JUNCTION_SHUTDOWN (R673). -/
def execJunctionShutdown (ch : Nat) (s : State) : Host.Outcome State Fault Refusal := (s.junction ch).done

/-- TH_DIE_SELECT: a write of TH_DIE_SEL (R681). -/
def execThDieSelect (w : Word) (s : State) : Host.Outcome State Fault Refusal := (s.hostAccess 0x5108 true w).done

/-- AGEING_MEASURE (R674, R675, R676, R678). -/
def execAgeingMeasure (die : Nat) (slacks : List Int) (s : State) : Host.Outcome State Fault Refusal :=
  (s.ageMeasure die slacks).done

/-- AGEING_REPLAN (R675, R676). -/
def execAgeingReplan (die : Nat) (s : State) : Host.Outcome State Fault Refusal := (s.ageReplan die false).done

/-- AGEING_RECORD (R677). -/
def execAgeingRecord (die : Nat) (s : State) : Host.Outcome State Fault Refusal := (s.ageRecord die).done

/-- AGE_SELECT: a write of AGE_SEL (R682). -/
def execAgeSelect (w : Word) (s : State) : Host.Outcome State Fault Refusal := (s.hostAccess 0x5204 true w).done

end Sys2Proof.Machine
end

