-- ==== Sys2Proof/Machine/CmdPwm.lean ====
section
/-! DEFINITION. Sys2Proof/Machine/CmdPwm.lean: the commands of the phase modulator (R63 to R107). -/

namespace Sys2Proof.Machine

/-- A change of a channel's phase modulator, while its domain runs (R658). -/
def State.onPwm (s : State) (ch : Nat) (f : Env → Chan → Pwm → Pwm) : State :=
  s.onSole ch 1 (fun e k => { k with pwm := f e k k.pwm })

/-- PWM_CTRL with ARM written, the other fields as they are. -/
def State.armWord (s : State) (ch : Nat) (b : Bool) : Word :=
  ({ (s.ch ch).pwm.r.ctrl with arm := b } : PwmCtrl).read

/-- R82, R84: gate-fault input g, active low, at a level for `ns`; asserted beyond the filter it trips the channel, where a
phase of its group is enabled. -/
def Chan.gateFault (k : Chan) (e : Env) (g : Nat) (asserted : Bool) (ns : Nat) : Chan :=
  let p := k.pwm
  if 6 ≤ g then k
  else if !asserted then { k with pwm := { p with gflt := msetb p.gflt g false } }
  else if ns ≤ 10 * p.r.prot.gfltFilt.toNat then k
  else
    let k : Chan := { k with pwm := { p with gflt := msetb p.gflt g true } }
    if p.groupEn g then k.gateTrip e (.gflt g) else k

/-- R83, R84: CHn_OCIN in mV for `ns`. -/
def Chan.overcurrent (k : Chan) (e : Env) (mv ns : Nat) : Chan :=
  let p := k.pwm
  if mv ≤ 3 * p.r.prot.ocpThr.toNat then { k with pwm := { p with oc := false } }
  else if ns ≤ 10 * p.r.prot.ocpFilt.toNat then k
  else ({ k with pwm := { p with oc := true } } : Chan).gateTrip e .ocp

/-- A time from which a condition has held without a break is a dwell ago (R97). -/
def dwelt (now : Nat) (t : Option Nat) (ms : Nat) : Bool :=
  match t with
  | some t => decide (t + msNs ms ≤ now)
  | none => false

/-- R92, R96, R97: one phase is added once the add condition has held for DWELL_UP. -/
def Pwm.dwellUp (p : Pwm) (e : Env) (auto : Bool) : Pwm :=
  let p := p.dwell e.now auto
  if dwelt e.now p.upSince p.r.shedTime.dwellUp.toNat then (p.addOne e).view else p

/-- R92, R96, R97: one phase is shed once the shed condition has held for DWELL_DN. -/
def Pwm.dwellDn (p : Pwm) (e : Env) (auto : Bool) : Pwm :=
  let p := p.dwell e.now auto
  if dwelt e.now p.dnSince (max 1 p.r.shedTime.dwellDn.toNat) then (p.shedOne e).view else p

/-- R754: in MODE OFF a missing phase is added once nothing fades, ramps or slews. -/
def Pwm.offAdd (p : Pwm) (e : Env) : Pwm :=
  let ramps := p.ph.toList.any (fun (x : PhaseSt) => x.adding)
  if p.r.status.state = .run ∧ p.r.shedCfg.mode = 0 ∧ p.nAct < p.nEn ∧ !p.fading ∧ !ramps ∧ !p.slewing then (p.addOne e).view
  else p

/-- R95: the thresholds derived again, where MAP is in force. -/
def Chan.shedReplan (k : Chan) (e : Env) : Chan :=
  if k.pwm.mode k.auto = .map then
    { k with pwm := k.pwm.replan e.now k.met.bins k.met.halfBin ((k.msVal 0 : Rat) / 1000) }
  else k

/-- ARM (R69, R72, R106). -/
def execArm (ch : Nat) (s : State) : Host.Outcome State Fault Refusal := (s.chWrite ch 0x100 (s.armWord ch true)).done

/-- DISARM (R72, R106). -/
def execDisarm (ch : Nat) (s : State) : Host.Outcome State Fault Refusal := (s.chWrite ch 0x100 (s.armWord ch false)).done

/-- PERIOD_WRITE (R71). -/
def execPeriodWrite (ch : Nat) (w : Word) (s : State) : Host.Outcome State Fault Refusal := (s.chWrite ch 0x108 w).done

/-- CARRIER_START (R64, R66, R67, R68, R71, R75, R76, R78, R79, R80, R81, R99, R100, R102, R104, R174, R443, R638). -/
def execCarrierStart (ch k : Nat) (s : State) : Host.Outcome State Fault Refusal :=
  (if k < 24 then s.onPwm ch (fun e c p => p.carrierStart e k c.auto) else s).done

/-- GATE_FAULT_INPUT (R72, R82, R84, R102, R155, R174, R177, R340, R343, R345). -/
def execGateFaultInput (ch g : Nat) (asserted : Bool) (ns : Nat) (s : State) : Host.Outcome State Fault Refusal :=
  (s.onSole ch 1 (fun e k => k.gateFault e g asserted ns)).done

/-- OVERCURRENT_INPUT (R72, R83, R84, R155). -/
def execOvercurrentInput (ch mv ns : Nat) (s : State) : Host.Outcome State Fault Refusal :=
  (s.onSole ch 1 (fun e k => k.overcurrent e mv ns)).done

/-- SHANK_GATE_INHIBIT (R72, R74, R84, R155, R340, R345). -/
def execShankGateInhibit (ch : Nat) (s : State) : Host.Outcome State Fault Refusal :=
  (s.onSole ch 3 (fun e k => if k.shk.r.status.inhibit then k.gateTrip e .shank else k)).done

/-- TRIP_CLEAR (R72, R85). -/
def execTripClear (ch : Nat) (w : Word) (s : State) : Host.Outcome State Fault Refusal := (s.chWrite ch 0x138 w).done

/-- GATE_TELEMETRY_FRAME (R86, R87). -/
def execGateTelemetryFrame (ch g : Nat) (f : BitVec 40) (s : State) : Host.Outcome State Fault Refusal :=
  (if g < 6 then s.onPwm ch (fun e _ p => p.telFrame e.now g f) else s).done

/-- TELEMETRY_TIMEOUT (R87). -/
def execTelemetryTimeout (ch : Nat) (s : State) : Host.Outcome State Fault Refusal :=
  (s.onPwm ch (fun e _ p => p.telView e.now)).done

/-- IMBALANCE_WINDOW (R88, R89, R103). -/
def execImbalanceWindow (ch : Nat) (s : State) : Host.Outcome State Fault Refusal :=
  (s.onPwm ch (fun e _ p => p.imbWindow e.now)).done

/-- DWELL_UP_EXPIRY (R92, R96, R97, R98). -/
def execDwellUpExpiry (ch : Nat) (s : State) : Host.Outcome State Fault Refusal :=
  (s.onPwm ch (fun e k p => p.dwellUp e k.auto)).done

/-- DWELL_DN_EXPIRY (R92, R96, R97, R98). -/
def execDwellDnExpiry (ch : Nat) (s : State) : Host.Outcome State Fault Refusal :=
  (s.onPwm ch (fun e k p => p.dwellDn e k.auto)).done

/-- OFF_MODE_ADD (R98, R754). -/
def execOffModeAdd (ch : Nat) (s : State) : Host.Outcome State Fault Refusal :=
  (s.onPwm ch (fun e _ p => p.offAdd e)).done

/-- SHED_REPLAN (R95). -/
def execShedReplan (ch : Nat) (s : State) : Host.Outcome State Fault Refusal := (s.onSole ch 1 (fun e k => k.shedReplan e)).done

/-- SHED_CFG_WRITE (R97). -/
def execShedCfgWrite (ch : Nat) (w : Word) (s : State) : Host.Outcome State Fault Refusal := (s.chWrite ch 0x140 w).done

/-- RETIRE_REQUEST (R102, R103, R104, R571, R572): PWM_RETIRE is written with bit k set. -/
def execRetireRequest (ch k : Nat) (s : State) : Host.Outcome State Fault Refusal :=
  (if k < 24 then s.chWrite ch 0x120 ((msetb (s.ch ch).pwm.r.retire k true).setWidth 32) else s).done

/-- RETIRE_CLEAR (R105, R571): PWM_RETIRE is written with bit k clear. -/
def execRetireClear (ch k : Nat) (s : State) : Host.Outcome State Fault Refusal :=
  (if k < 24 then s.chWrite ch 0x120 ((msetb (s.ch ch).pwm.r.retire k false).setWidth 32) else s).done

/-- SYNC_SRC_WRITE (R81): PWM_CTRL is written with SYNC_SRC. -/
def execSyncSrcWrite (ch : Nat) (ext : Bool) (s : State) : Host.Outcome State Fault Refusal :=
  (s.chWrite ch 0x100 ({ (s.ch ch).pwm.r.ctrl with syncSrc := ext } : PwmCtrl).read).done

/-- PSYNC_EDGE (R76, R81). -/
def execPsyncEdge (ch : Nat) (rising : Bool) (s : State) : Host.Outcome State Fault Refusal :=
  (s.onPwm ch (fun e _ p => p.psyncEdge e rising)).done

/-- PSYNC_TIMEOUT (R81). -/
def execPsyncTimeout (ch : Nat) (s : State) : Host.Outcome State Fault Refusal :=
  (s.onPwm ch (fun e _ p => p.psyncTimeout e)).done

/-- PH_SEL_CAPTURE (R130). -/
def execPhSelCapture (ch : Nat) (w : Word) (s : State) : Host.Outcome State Fault Refusal := (s.chWrite ch 0x18C w).done

/-- SHED_VIEW_SELECT (R131). -/
def execShedViewSelect (ch : Nat) (w : Word) (s : State) : Host.Outcome State Fault Refusal := (s.chWrite ch 0x198 w).done

end Sys2Proof.Machine
end

