-- ==== Sys2Proof/Machine/CmdRing.lean ====
section
/-! DEFINITION. Sys2Proof/Machine/CmdRing.lean: the commands of the ring interface (R463 to R505). It runs in every state of the
hub but reset, in recovery and during an activation too (R567, R660, R706). -/

namespace Sys2Proof.Machine

/-- A change of the ring interface. -/
def State.onRing (s : State) (f : RCtx → Ring → Ring) : State :=
  if s.hub.ringRuns then { s with hub.ring := f s.rctx s.hub.ring } else s

/-- BLOCK_LOCK (R459, R464). -/
def execBlockLock (west : Bool) (s : State) : Host.Outcome State Fault Refusal := (s.onRing (fun _ g => g.blockLock west)).done

/-- AWL_BLOCK (R461, R462, R463, R464, R496, R497, R499). -/
def execAwlBlock (west lane1 : Bool) (blk : BitVec 64) (bip : Byte) (skew bad ctl : Nat) (s : State) :
    Host.Outcome State Fault Refusal := (s.onRing (fun c g => g.awl c.now west lane1 blk bip skew bad ctl)).done

/-- LINK_UP (R464). -/
def execLinkUp (west : Bool) (s : State) : Host.Outcome State Fault Refusal := (s.onRing (fun c g => g.linkUp c.now west)).done

/-- LINK_DOWN (R463, R464, R480, R482, R499). -/
def execLinkDown (west : Bool) (cause : LinkCause) (s : State) : Host.Outcome State Fault Refusal :=
  (s.onRing (fun c g => (g.faultSeen c.now west cause).linkDown west cause)).done

/-- RING_CTRL with one ISOLATE bit set or cleared (R481). -/
def State.isolateWord (s : State) (west on : Bool) : Word :=
  let c := s.hub.ring.r.ctrl
  (if west then { c with isolateW := on } else { c with isolateE := on }).read

/-- RING_ISOLATE: a write of RING_CTRL (R464, R480, R499). -/
def execRingIsolate (west on : Bool) (s : State) : Host.Outcome State Fault Refusal :=
  (s.hostAccess 0x1000 true (s.isolateWord west on)).done

/-- WRAP_RELEASE (R481, R499). -/
def execWrapRelease (west : Bool) (s : State) : Host.Outcome State Fault Refusal :=
  (s.onRing (fun c g => g.wrapRelease c.now west)).done

/-- A frame on a link: it is forwarded, and what this node is to have of it reaches its receiver (R469, R478 to R480). -/
def State.ringFrame (s : State) (onWest : Bool) (hdr : BitVec 56) (payload : List Word) (crc : Word) (abort : Bool) (resid : Nat) :
    State :=
  if !s.hub.ringRuns then s
  else
    let r := s.hub.ring.frame s.now onWest hdr payload crc abort resid
    let s : State := { s with hub.ring := r.1 }
    match r.2 with
    | some x => s.frameIn x.1 x.2 onWest payload
    | none => s

/-- RING_FRAME (R13, R459, R460, R466, R467, R469, R472, R473, R474, R477, R478, R479, R490). -/
def execRingFrame (onWest : Bool) (hdr : BitVec 56) (payload : List Word) (crc : Word) (abort : Bool) (resid : Nat) (s : State) :
    Host.Outcome State Fault Refusal := (s.ringFrame onWest hdr payload crc abort resid).done

/-- A TRIP block on a link: its first copy asserts the trip pair (R471). -/
def State.tripBlock (s : State) (onWest : Bool) (field : BitVec 56) : State :=
  if !s.hub.ringRuns then s
  else
    let r := s.hub.ring.tripBlock s.now onWest field
    let s : State := { s with hub.ring := r.1 }
    if r.2 then s.ringTrip else s

/-- TRIP_BLOCK (R38, R72, R84, R155, R428, R434, R437, R451, R471, R472, R473, R475, R476, R478, R499). -/
def execTripBlock (onWest : Bool) (field : BitVec 56) (s : State) : Host.Outcome State Fault Refusal :=
  (s.tripBlock onWest field).done

/-- A trip request of a channel reaches the hub: a TRIP block leaves on both links where the node has an NID to send it
under, and the node's own gates go low (R434, R475). -/
def State.tripRequest (s : State) (n : Nat) : State :=
  if n < 4 ∧ (s.ch n).shk.tripReq ∧ s.hub.ringRuns ∧ !(vget s.hub.st n {}).hubLost ∧ !(vget s.hub.st n {}).soleLost then
    let s := s.onSole n 2 (fun _ k => { k with shk.tripReq := false })
    let s : State := if s.nid.isSome then { s with hub.ring := s.hub.ring.tripRequest s.now n } else s
    s.ringTrip
  else s

/-- TRIP_REQUEST (R474, R475, R476). -/
def execTripRequest (ch : Nat) (s : State) : Host.Outcome State Fault Refusal := (s.tripRequest ch).done

/-- PRESENCE_SEND (R484). -/
def execPresenceSend (s : State) : Host.Outcome State Fault Refusal := (s.onRing (fun c g => g.presenceSend c)).done

/-- PRESENCE (R3, R483, R486, R487, R488, R499, R510, R542, R547, R548, R559, R572). -/
def execPresence (w : Vector Word 5) (s : State) : Host.Outcome State Fault Refusal :=
  (s.onRing (fun c g => g.presence c w[0] w[1] w[2] w[3] w[4])).done

/-- NID_CLAIM (R3, R60, R485, R499). -/
def execNidClaim (s : State) : Host.Outcome State Fault Refusal := (s.onRing (fun c g => g.nidClaim c.now)).done

/-- NODE_DEPART (R222, R223, R232, R240, R483, R487, R488, R499, R526, R542, R559, R572). -/
def execNodeDepart (die : BitVec 64) (s : State) : Host.Outcome State Fault Refusal :=
  (s.onRing (fun c g => g.depart c.now die)).done

/-- DELAY_EXCHANGE (R489). -/
def execDelayExchange (fE fW : BitVec 16) (s : State) : Host.Outcome State Fault Refusal :=
  (s.onRing (fun c g => g.delayExchange c.now fE fW)).done

/-- DELAY_REQ (R489). -/
def execDelayReq (west : Bool) (f2 f3 : BitVec 16) (turn : Nat) (s : State) : Host.Outcome State Fault Refusal :=
  (s.onRing (fun c g => g.delayReq c.now west f2 f3 turn)).done

/-- DELAY_RESP (R489). -/
def execDelayResp (west : Bool) (w : Vector Word 5) (f4 : BitVec 16) (s : State) : Host.Outcome State Fault Refusal :=
  (s.onRing (fun c g => g.delayResp c.now west w[0] w[1] w[2] w[3] w[4] f4)).done

/-- SYNC_SEND (R490). -/
def execSyncSend (f : BitVec 16) (s : State) : Host.Outcome State Fault Refusal := (s.onRing (fun c g => g.syncSend c f)).done

/-- SYNC (R48, R81, R490, R491, R495). -/
def execSync (onWest : Bool) (links : Nat) (w : Vector Word 5) (f : BitVec 16) (s : State) : Host.Outcome State Fault Refusal :=
  (s.onRing (fun c g => g.syncTake c onWest links w[0] w[1] w[2] w[3] w[4] f)).done

/-- SYNC_LOSS (R81, R491). -/
def execSyncLoss (s : State) : Host.Outcome State Fault Refusal := (s.onRing (fun c g => g.syncLoss c.now)).done

/-- HOLDOVER_TIMEOUT (R81, R491). -/
def execHoldoverTimeout (s : State) : Host.Outcome State Fault Refusal := (s.onRing (fun c g => g.holdoverEnd c.now)).done

/-- MASTER_CHANGE (R488, R499): mastership is judged on the classes as they are now. -/
def execMasterChange (s : State) : Host.Outcome State Fault Refusal := (s.onRing (fun c g => g.view c)).done

/-- TOD_WRITE: a write of RING_TOD_HI (R495, R499). -/
def execTodWrite (w : Word) (s : State) : Host.Outcome State Fault Refusal := (s.hostAccess 0x1030 true w).done

/-- PPS_EDGE (R495). -/
def execPpsEdge (s : State) : Host.Outcome State Fault Refusal := (s.onRing (fun c g => g.pps c)).done

/-- LANE_SLEEP (R496). -/
def execLaneSleep (west : Bool) (s : State) : Host.Outcome State Fault Refusal :=
  (s.onRing (fun c g => g.laneSleep c west)).done

/-- LANE_WAKE (R497). -/
def execLaneWake (west : Bool) (s : State) : Host.Outcome State Fault Refusal := (s.onRing (fun c g => g.laneWake c west)).done

/-- LOOPBACK_WRITE: a write of RING_LB (R498, R499). -/
def execLoopbackWrite (w : Word) (s : State) : Host.Outcome State Fault Refusal := (s.hostAccess 0x1034 true w).done

/-- ERR_SELECT: a write of RING_ERR_SEL (R504). -/
def execErrSelect (w : Word) (s : State) : Host.Outcome State Fault Refusal := (s.hostAccess 0x1040 true w).done

/-- ERR_CLEAR: a write of RING_ERR_CLR (R504). -/
def execErrClear (w : Word) (s : State) : Host.Outcome State Fault Refusal := (s.hostAccess 0x1048 true w).done

/-- NODE_SELECT: a write of RING_NODE_SEL (R505). -/
def execNodeSelect (w : Word) (s : State) : Host.Outcome State Fault Refusal := (s.hostAccess 0x1050 true w).done

/-- NID_CFG_WRITE: a write of RING_NID_CFG (R501). -/
def execNidCfgWrite (w : Word) (s : State) : Host.Outcome State Fault Refusal := (s.hostAccess 0x1008 true w).done

end Sys2Proof.Machine
end

