-- ==== Sys2Proof/Machine/CmdSession.lean ====
section
/-! DEFINITION. Sys2Proof/Machine/CmdSession.lean: the commands of the vehicle session (R327 to R357). Tongue works in RUN and
TRIM; the identification input is also sampled in VIGIL and REST (R331, R658). -/

namespace Sys2Proof.Machine

/-- R331: a sample of CE and ID; a connector found present wakes the channel (R666). -/
def State.ceIdSample (s : State) (n ceMv idMv : Nat) : State :=
  let old := (s.ch n).veh.r.status.id
  let s := s.onSole n 3 (fun e k => k.ceId e ceMv idMv (decide (k.core.pm ≤ 1)))
  if old ≠ .present ∧ (s.ch n).veh.r.status.id = .present then s.pmWake n 1 else s

/-- CE_ID_SAMPLE (R328, R329, R331, R340, R343, R350, R351, R353, R380, R381, R382, R384, R437, R561, R562, R692). -/
def execCeIdSample (ch ceMv idMv : Nat) (s : State) : Host.Outcome State Fault Refusal := (s.ceIdSample ch ceMv idMv).done

/-- VEH_ENABLE: a write of VEH_CTRL (R340). -/
def execVehEnable (ch : Nat) (w : Word) (s : State) : Host.Outcome State Fault Refusal := (s.chWrite ch 0x600 w).done

/-- T1S_LINK_UP (R340). -/
def execT1sLinkUp (ch : Nat) (s : State) : Host.Outcome State Fault Refusal := (s.onSole ch 1 (fun _ k => k.vLink)).done

/-- SDP_REQ (R333, R334, R562, R601, R714). -/
def execSdpReq (ch : Nat) (s : State) : Host.Outcome State Fault Refusal := (s.onSole ch 1 (fun _ k => k.vSdp)).done

/-- SESSION_SETUP_REQ (R338, R340). -/
def execSessionSetupReq (ch : Nat) (evccid : BitVec 48) (s : State) : Host.Outcome State Fault Refusal :=
  (s.onSole ch 1 (fun e k => k.vSetup e evccid)).done

/-- AUTHORIZATION_REQ (R337, R340). -/
def execAuthorizationReq (ch : Nat) (pnc ok : Bool) (emaid : Vector Word 4) (s : State) : Host.Outcome State Fault Refusal :=
  (s.onSole ch 1 (fun e k => k.vAuthReq e pnc ok emaid)).done

/-- CHARGE_PARAMETER_DISCOVERY (R346, R347). -/
def execChargeParameterDiscovery (ch : Nat) (bpt : Bool) (vMax vMin iMax iDis : BitVec 16) (s : State) :
    Host.Outcome State Fault Refusal := (s.onSole ch 1 (fun e k => k.vParams e bpt vMax vMin iMax iDis)).done

/-- SCHEDULE_EXCHANGE (R340). -/
def execScheduleExchange (ch : Nat) (s : State) : Host.Outcome State Fault Refusal :=
  (s.onSole ch 1 (fun e k => k.vSchedule e)).done

/-- CABLE_CHECK_REQ (R156, R340, R341, R346). -/
def execCableCheckReq (ch : Nat) (s : State) : Host.Outcome State Fault Refusal := (s.onSole ch 1 (fun e k => k.vCableReq e)).done

/-- CABLE_CHECK_HOLD (R340). -/
def execCableCheckHold (ch : Nat) (s : State) : Host.Outcome State Fault Refusal :=
  (s.onSole ch 1 (fun e k => k.vCableHold e)).done

/-- CABLE_CHECK_TIMEOUT (R340, R343). -/
def execCableCheckTimeout (ch : Nat) (s : State) : Host.Outcome State Fault Refusal :=
  (s.onSole ch 1 (fun e k => k.vCableTimeout e)).done

/-- PRECHARGE_REQ (R156, R340, R346). -/
def execPrechargeReq (ch : Nat) (v : BitVec 16) (s : State) : Host.Outcome State Fault Refusal :=
  (s.onSole ch 1 (fun e k => k.vPrecharge e v)).done

/-- PRECHARGE_TIMEOUT (R340, R343). -/
def execPrechargeTimeout (ch : Nat) (s : State) : Host.Outcome State Fault Refusal :=
  (s.onSole ch 1 (fun e k => k.vPreTimeout e)).done

/-- POWER_DELIVERY_REQ (R155, R304, R315, R318, R340, R343, R344, R353, R601). -/
def execPowerDeliveryReq (ch kind : Nat) (s : State) : Host.Outcome State Fault Refusal :=
  (s.onSole ch 1 (fun e k => k.vPower e kind)).done

/-- DC_CHARGE_LOOP_REQ (R340, R346, R347, R348, R379). -/
def execDcChargeLoopReq (ch : Nat) (iTgt vTgt vMax iMax iDis : BitVec 16) (vEv : Option Int) (evErr : Bool) (s : State) :
    Host.Outcome State Fault Refusal := (s.onSole ch 1 (fun e k => k.vLoopReq e iTgt vTgt vMax iMax iDis vEv evErr)).done

/-- WELDING_DETECTION_REQ (R342). -/
def execWeldingDetectionReq (ch : Nat) (s : State) : Host.Outcome State Fault Refusal :=
  (s.onSole ch 1 (fun _ k => k.vWelding)).done

/-- SESSION_STOP_REQ (R340). -/
def execSessionStopReq (ch : Nat) (s : State) : Host.Outcome State Fault Refusal :=
  (s.onSole ch 1 (fun e k => k.vSessionStop e)).done

/-- TLS_LOST (R340, R343, R380, R381). -/
def execTlsLost (ch : Nat) (s : State) : Host.Outcome State Fault Refusal := (s.onSole ch 1 (fun e k => k.vTlsLost e)).done

/-- SEQUENCE_TIMEOUT (R340). -/
def execSequenceTimeout (ch : Nat) (s : State) : Host.Outcome State Fault Refusal :=
  (s.onSole ch 1 (fun e k => k.vSeqTimeout e)).done

/-- CHARGE_LOOP_TIMEOUT (R340, R343, R437). -/
def execChargeLoopTimeout (ch : Nat) (s : State) : Host.Outcome State Fault Refusal :=
  (s.onSole ch 1 (fun e k => k.vLoopTimeout e)).done

/-- AUTH_TIMEOUT (R339, R340, R343, R380). -/
def execAuthTimeout (ch : Nat) (s : State) : Host.Outcome State Fault Refusal :=
  (s.onSole ch 1 (fun e k => k.vAuthTimeout e)).done

/-- PAUSE_TIMEOUT (R340, R343). -/
def execPauseTimeout (ch : Nat) (s : State) : Host.Outcome State Fault Refusal :=
  (s.onSole ch 1 (fun e k => k.vPauseTimeout e)).done

/-- AUTH_ACCEPT (R337, R340, R353, R354, R355, R356). -/
def execAuthAccept (d : Desc) (s : State) : Host.Outcome State Fault Refusal := (s.descRow 0x0101 d).done

/-- AUTH_REJECT (R337, R340, R353, R354, R356). -/
def execAuthReject (d : Desc) (s : State) : Host.Outcome State Fault Refusal := (s.descRow 0x0102 d).done

/-- SESSION_STOP (R340, R343, R353, R354, R356). -/
def execSessionStop (d : Desc) (s : State) : Host.Outcome State Fault Refusal := (s.descRow 0x0103 d).done

/-- CERT_LOAD (R335, R353, R354, R355, R356). -/
def execCertLoad (d : Desc) (s : State) : Host.Outcome State Fault Refusal := (s.descRow 0x0104 d).done

/-- AUTH_MODE (R338, R340, R354, R355, R356). -/
def execAuthMode (d : Desc) (s : State) : Host.Outcome State Fault Refusal := (s.descRow 0x0105 d).done

/-- VEH_EVT_READ (R351). -/
def execVehEvtRead (ch : Nat) (s : State) : Host.Outcome State Fault Refusal := (s.chRead ch 0x608).done

/-- CERT_CHECK (R336). -/
def execCertCheck (ch : Nat) (s : State) : Host.Outcome State Fault Refusal := (s.onSole ch 1 (fun e k => k.certTick e)).done

/-- UNSUPPORTED_REQUEST (R332). -/
def execUnsupportedRequest (ch : Nat) (s : State) : Host.Outcome State Fault Refusal :=
  (s.onSole ch 1 (fun _ k => k.vUnsupported)).done

end Sys2Proof.Machine
end

