-- ==== Sys2Proof/Machine/CmdShank.lean ====
section
/-! DEFINITION. Sys2Proof/Machine/CmdShank.lean: the commands of the safety block (R427 to R462), which runs in RUN, TRIM and
VIGIL; in REST its hardwired pairs are still watched (R658). -/

namespace Sys2Proof.Machine

/-- SHANK_INPUT_SAMPLE at a channel: a land of a pair that changes wakes it (R430, R666). -/
def State.landSample (s : State) (n : Nat) (lands : BitVec 6) : State :=
  let first := !(s.ch n).shk.sampled
  let old := (s.ch n).shk.r.input.lands
  let s := s.onSole n 3 (fun e k => k.shkSample e lands)
  if first ∨ (old ^^^ (s.ch n).shk.r.input.lands) &&& 15 = 0 then s else s.pmWake n 2

/-- SHANK_INPUT_SAMPLE (R428, R430, R434, R437, R678). -/
def execShankInputSample (ch : Nat) (lands : BitVec 6) (s : State) : Host.Outcome State Fault Refusal :=
  (s.landSample ch lands).done

/-- PAIR_DISCREPANCY (R430). -/
def execPairDiscrepancy (ch : Nat) (imd : Bool) (s : State) : Host.Outcome State Fault Refusal :=
  (s.onSole ch 3 (fun e k => k.shkPair e imd)).done

/-- SF4_COMPARATOR (R428, R430, R437). -/
def execSf4Comparator (ch ceMv idMv : Nat) (s : State) : Host.Outcome State Fault Refusal :=
  (s.onSole ch 2 (fun e k => k.shkSf4 e ceMv idMv)).done

/-- SAFE_PDU (R428, R431, R432, R433, R434, R437, R451). -/
def execSafePdu (ch path : Nat) (p : Vector Word 4) (s : State) : Host.Outcome State Fault Refusal :=
  (s.onSole ch 2 (fun e k => k.shkPdu e path p[0] p[1] p[2] p[3])).done

/-- SAFE_PATH_LOST (R428, R433, R437, R692). -/
def execSafePathLost (ch i : Nat) (b : Bool) (s : State) : Host.Outcome State Fault Refusal :=
  (s.onSole ch 2 (fun e k => k.shkPathLost e i b)).done

/-- SAFE_PATH_RESTORED (R433). -/
def execSafePathRestored (ch i : Nat) (b : Bool) (s : State) : Host.Outcome State Fault Refusal :=
  (s.onSole ch 2 (fun e k => k.shkPathBack e i b)).done

/-- A PDU of a master channel reaches the other channels of its module as it reaches the ring, as two copies (R434, R478;
the delivery inside the module is DEDUCED). -/
def State.siteSend (s : State) (n : Nat) : State :=
  let was := (s.ch n).shk
  let s := s.onSole n 2 (fun _ k => k.shkSite (s.gcid n))
  match s.gcid n with
  | some g =>
    if (s.ch n).shk.siteSeq = was.siteSeq then s
    else
      let ws := was.sitePdu g
      let x (i : Nat) : Word := ws.getD i 0
      (List.range 4).foldl (fun (s : State) m =>
        s.onSole m 2 (fun e k => (k.shkPdu e 2 (x 0) (x 1) (x 2) (x 3)).shkPdu e 3 (x 0) (x 1) (x 2) (x 3))) s
  | none => s

/-- SITE_PDU_SEND (R431, R434). -/
def execSitePduSend (ch : Nat) (s : State) : Host.Outcome State Fault Refusal := (s.siteSend ch).done

/-- SHANK_DEMAND (R340, R343, R380, R428, R429, R435, R441, R451). -/
def execShankDemand (ch : Nat) (s : State) : Host.Outcome State Fault Refusal := (s.onSole ch 2 (fun e k => k.shkDemand e)).done

/-- SHANK_ARM (R435). -/
def execShankArm (ch : Nat) (s : State) : Host.Outcome State Fault Refusal := (s.onSole ch 2 (fun e k => k.shkArm e)).done

/-- SHANK_FAULT (R435, R438, R451). -/
def execShankFault (ch : Nat) (s : State) : Host.Outcome State Fault Refusal := (s.onSole ch 2 (fun e k => k.shkFault e)).done

/-- BLOCKED_CLEAR (R435). -/
def execBlockedClear (ch : Nat) (s : State) : Host.Outcome State Fault Refusal :=
  (s.onSole ch 2 (fun e k => k.shkBlockedClear e)).done

/-- DEGRADED_TIMEOUT (R435). -/
def execDegradedTimeout (ch : Nat) (s : State) : Host.Outcome State Fault Refusal :=
  (s.onSole ch 2 (fun e k => k.shkDegTimeout e)).done

/-- DEGRADED_CURRENT_CHECK (R435, R438). -/
def execDegradedCurrentCheck (ch : Nat) (s : State) : Host.Outcome State Fault Refusal :=
  (s.onSole ch 2 (fun e k => k.shkCurrent e)).done

/-- STOP1_TIMEOUT (R429, R435). -/
def execStop1Timeout (ch : Nat) (s : State) : Host.Outcome State Fault Refusal :=
  (s.onSole ch 2 (fun e k => k.shkStop1Timeout e)).done

/-- CONTACTOR_DELAY_END (R429, R446). -/
def execContactorDelayEnd (ch : Nat) (s : State) : Host.Outcome State Fault Refusal :=
  (s.onSole ch 2 (fun e k => k.shkDelayEnd e)).done

/-- SAFE_STOP_EXIT (R435). -/
def execSafeStopExit (ch : Nat) (s : State) : Host.Outcome State Fault Refusal := (s.onSole ch 2 (fun e k => k.shkExit e)).done

/-- TEST_PULSE (R439). -/
def execTestPulse (ch : Nat) (s : State) : Host.Outcome State Fault Refusal := (s.onSole ch 2 (fun e k => k.tpStart e)).done

/-- TEST_PULSE_END (R439, R440, R441, R451). -/
def execTestPulseEnd (ch : Nat) (s : State) : Host.Outcome State Fault Refusal := (s.onSole ch 2 (fun e k => k.tpEnd e)).done

/-- CLOCK_MONITOR_TRIP (R435, R437, R442, R451). -/
def execClockMonitorTrip (ch : Nat) (d1 d2 : Int) (s : State) : Host.Outcome State Fault Refusal :=
  (s.onSole ch 2 (fun e k => k.shkClock e d1 d2)).done

/-- PWM_PERIOD_WATCHDOG_TRIP (R435, R437, R443). -/
def execPwmPeriodWatchdogTrip (ch iv : Nat) (marker : Bool) (s : State) : Host.Outcome State Fault Refusal :=
  (s.onSole ch 2 (fun e k => k.shkPw e iv marker)).done

/-- WELD_CHECK (R340, R342, R428, R445, R451). -/
def execWeldCheck (ch : Nat) (neg : Bool) (s : State) : Host.Outcome State Fault Refusal :=
  (s.onSole ch 2 (fun e k => k.shkWeld e neg)).done

/-- DISCHARGE_CHECK (R428, R446). -/
def execDischargeCheck (ch : Nat) (s : State) : Host.Outcome State Fault Refusal :=
  (s.onSole ch 2 (fun e k => k.shkDischarge e)).done

/-- PARAM_BLOCK_CHECK (R435, R447). -/
def execParamBlockCheck (ch word : Nat) (flip : Word) (s : State) : Host.Outcome State Fault Refusal :=
  (s.onSole ch 2 (fun e k => k.shkBlockCheck e word flip)).done

/-- SHK_PARAM_WRITE (R435, R447, R451, R452, R453, R454). -/
def execShkParamWrite (d : Desc) (s : State) : Host.Outcome State Fault Refusal := (s.descRow 0x0601 d).done

/-- SHK_CONFIRM (R435, R448, R452, R453, R454). -/
def execShkConfirm (d : Desc) (s : State) : Host.Outcome State Fault Refusal := (s.descRow 0x0602 d).done

/-- SHK_RESET (R429, R435, R446, R451, R452, R453, R454). -/
def execShkReset (d : Desc) (s : State) : Host.Outcome State Fault Refusal := (s.descRow 0x0603 d).done

/-- SHK_TEST (R439, R452, R454). -/
def execShkTest (d : Desc) (s : State) : Host.Outcome State Fault Refusal := (s.descRow 0x0604 d).done

end Sys2Proof.Machine
end

