-- ==== Sys2Proof/Machine/CmdStart.lean ====
section
/-! DEFINITION. Sys2Proof/Machine/CmdStart.lean: the commands of start-up, power failure, reset and the watchdogs (R697 to R729). -/

namespace Sys2Proof.Machine

/-- VAUX_VALID (R398, R417, R697, R698, R701, R709, R711, R717, R718). -/
def execVauxValid (mv us : Nat) (s : State) : Host.Outcome State Fault Refusal := (s.vauxValid mv us).done

/-- VHOLD_OK (R698, R701, R718). -/
def execVholdOk (dv : Nat) (s : State) : Host.Outcome State Fault Refusal := (s.vholdOk dv).done

/-- HOLDUP_MEASURE (R700). -/
def execHoldupMeasure (us : Nat) (s : State) : Host.Outcome State Fault Refusal := (s.holdupMeasure us).done

/-- PFAIL (R42, R280, R285, R320, R322, R353, R385, R602, R678, R697, R707, R711, R718, R747). -/
def execPfail (mv : Nat) (s : State) : Host.Outcome State Fault Refusal := (s.pfail mv).done

/-- RAILS_OFF (R707). -/
def execRailsOff (dv : Nat) (s : State) : Host.Outcome State Fault Refusal := (s.railsOff dv).done

/-- HUB_BOOT (R464, R491, R548, R593, R595, R598, R599, R651, R692, R701, R703, R704, R705, R706, R709, R746). -/
def execHubBoot (okBoot okOther : Bool) (s : State) : Host.Outcome State Fault Refusal := (s.hubBoot okBoot okOther).done

/-- SOLE_BOOT (R29, R30, R57, R72, R155, R159, R160, R228, R242, R268, R272, R282, R321, R340, R367, R382, R427, R435,
R447, R593, R595, R598, R599, R609, R611, R630, R644, R692, R701, R702, R703, R704, R705, R706, R717). -/
def execSoleBoot (ch : Nat) (okLegal okBoot okOther : Bool) (s : State) : Host.Outcome State Fault Refusal :=
  (s.soleBoot ch okLegal okBoot okOther).done

/-- RESET_PIN (R701, R710, R711, R712, R718). -/
def execResetPin (low : Bool) (us : Nat) (s : State) : Host.Outcome State Fault Refusal := (s.resetPin low us).done

/-- RESET_STUCK (R713). -/
def execResetStuck (us : Nat) (s : State) : Host.Outcome State Fault Refusal := (s.resetStuck us).done

/-- RESET_UNMASK (R713). -/
def execResetUnmask (us : Nat) (s : State) : Host.Outcome State Fault Refusal := (s.resetUnmask us).done

/-- STUCK_ACK (R714, R718, R719). -/
def execStuckAck (d : Desc) (s : State) : Host.Outcome State Fault Refusal := (s.descRow 0x0707 d).done

/-- HUB_WATCHDOG_EXPIRY (R711, R715, R718). -/
def execHubWatchdogExpiry (s : State) : Host.Outcome State Fault Refusal := s.hubWatchdog.done

/-- SOLE_WATCHDOG_EXPIRY (R42, R711, R715, R718). -/
def execSoleWatchdogExpiry (ch : Nat) (s : State) : Host.Outcome State Fault Refusal := (s.soleWatchdog ch).done

/-- TONGUE_WATCHDOG_EXPIRY (R716): the Tongue starts again; its session takes the communication-lost path. -/
def execTongueWatchdogExpiry (ch : Nat) (s : State) : Host.Outcome State Fault Refusal :=
  (s.onSole ch 1 (fun e k => k.vTlsLost e)).done

/-- VAUX_SURGE (R729, R747): beyond the absolute ratings the spec gives no behaviour. -/
def execVauxSurge (mv us : Nat) (s : State) : Host.Outcome State Fault Refusal :=
  if s.surgeBad mv us then .fault .beyondRatings else (s.surge mv us).done

end Sys2Proof.Machine
end

