-- ==== Sys2Proof/Machine/Dispatch.lean ====
section
/-! DEFINITION. Sys2Proof/Machine/Dispatch.lean: every command's meaning, one arm for each. -/

namespace Sys2Proof.Machine

def exec (i : Instr) (s : State) : Host.Outcome State Fault Refusal :=
  match i with
  | .registerWrite ofs w whole => Sys2Proof.Machine.execRegisterWrite ofs w whole s
  | .lowerWordRead ofs => Sys2Proof.Machine.execLowerWordRead ofs s
  | .stitchClr w => Sys2Proof.Machine.execStitchClr w s
  | .stitchPacket ch toSole ok => Sys2Proof.Machine.execStitchPacket ch toSole ok s
  | .stitchRetrainDone ch => Sys2Proof.Machine.execStitchRetrainDone ch s
  | .heartbeatSend => Sys2Proof.Machine.execHeartbeatSend s
  | .hubLost ch => Sys2Proof.Machine.execHubLost ch s
  | .soleLost ch => Sys2Proof.Machine.execSoleLost ch s
  | .journalForward ch => Sys2Proof.Machine.execJournalForward ch s
  | .dramError region correctable => Sys2Proof.Machine.execDramError region correctable s
  | .dramRefresh => Sys2Proof.Machine.execDramRefresh s
  | .railFault die => Sys2Proof.Machine.execRailFault die s
  | .eyeletFaultReport ch => Sys2Proof.Machine.execEyeletFaultReport ch s
  | .eyeletStatusFrame ch ok mas vsw => Sys2Proof.Machine.execEyeletStatusFrame ch ok mas vsw s
  | .arm ch => Sys2Proof.Machine.execArm ch s
  | .disarm ch => Sys2Proof.Machine.execDisarm ch s
  | .periodWrite ch w => Sys2Proof.Machine.execPeriodWrite ch w s
  | .carrierStart ch k => Sys2Proof.Machine.execCarrierStart ch k s
  | .gateFaultInput ch g asserted ns => Sys2Proof.Machine.execGateFaultInput ch g asserted ns s
  | .overcurrentInput ch mv ns => Sys2Proof.Machine.execOvercurrentInput ch mv ns s
  | .shankGateInhibit ch => Sys2Proof.Machine.execShankGateInhibit ch s
  | .tripClear ch w => Sys2Proof.Machine.execTripClear ch w s
  | .gateTelemetryFrame ch g f => Sys2Proof.Machine.execGateTelemetryFrame ch g f s
  | .telemetryTimeout ch => Sys2Proof.Machine.execTelemetryTimeout ch s
  | .imbalanceWindow ch => Sys2Proof.Machine.execImbalanceWindow ch s
  | .dwellUpExpiry ch => Sys2Proof.Machine.execDwellUpExpiry ch s
  | .dwellDnExpiry ch => Sys2Proof.Machine.execDwellDnExpiry ch s
  | .offModeAdd ch => Sys2Proof.Machine.execOffModeAdd ch s
  | .shedReplan ch => Sys2Proof.Machine.execShedReplan ch s
  | .shedCfgWrite ch w => Sys2Proof.Machine.execShedCfgWrite ch w s
  | .retireRequest ch k => Sys2Proof.Machine.execRetireRequest ch k s
  | .retireClear ch k => Sys2Proof.Machine.execRetireClear ch k s
  | .syncSrcWrite ch ext => Sys2Proof.Machine.execSyncSrcWrite ch ext s
  | .psyncEdge ch rising => Sys2Proof.Machine.execPsyncEdge ch rising s
  | .psyncTimeout ch => Sys2Proof.Machine.execPsyncTimeout ch s
  | .phSelCapture ch w => Sys2Proof.Machine.execPhSelCapture ch w s
  | .shedViewSelect ch w => Sys2Proof.Machine.execShedViewSelect ch w s
  | .innerTick ch => Sys2Proof.Machine.execInnerTick ch s
  | .outerSample ch => Sys2Proof.Machine.execOuterSample ch s
  | .limitApplyIdle ch => Sys2Proof.Machine.execLimitApplyIdle ch s
  | .loopStart d => Sys2Proof.Machine.execLoopStart d s
  | .onDelayExpiry ch => Sys2Proof.Machine.execOnDelayExpiry ch s
  | .offDelayExpiry ch => Sys2Proof.Machine.execOffDelayExpiry ch s
  | .stopTimeout ch => Sys2Proof.Machine.execStopTimeout ch s
  | .loopStop d => Sys2Proof.Machine.execLoopStop d s
  | .loopClear d => Sys2Proof.Machine.execLoopClear d s
  | .bankWrite d => Sys2Proof.Machine.execBankWrite d s
  | .bankSeal d => Sys2Proof.Machine.execBankSeal d s
  | .bankSealReg ch w => Sys2Proof.Machine.execBankSealReg ch w s
  | .bankSwap d => Sys2Proof.Machine.execBankSwap d s
  | .setpoint d => Sys2Proof.Machine.execSetpoint d s
  | .limits d => Sys2Proof.Machine.execLimits d s
  | .fbReturn d => Sys2Proof.Machine.execFbReturn d s
  | .cdataAccess ch w => Sys2Proof.Machine.execCdataAccess ch w s
  | .bankCheck ch upset => Sys2Proof.Machine.execBankCheck ch upset s
  | .fallbackTimeout ch => Sys2Proof.Machine.execFallbackTimeout ch s
  | .ntcConversion ch rs => Sys2Proof.Machine.execNtcConversion ch rs s
  | .auxLoopMark ch => Sys2Proof.Machine.execAuxLoopMark ch s
  | .contextRecordSend ch => Sys2Proof.Machine.execContextRecordSend ch s
  | .contextRecord ws => Sys2Proof.Machine.execContextRecord ws s
  | .curveRecordSend ch => Sys2Proof.Machine.execCurveRecordSend ch s
  | .curveRecord ws => Sys2Proof.Machine.execCurveRecord ws s
  | .epochBoundary => Sys2Proof.Machine.execEpochBoundary s
  | .grantRecord ch h r => Sys2Proof.Machine.execGrantRecord ch h r s
  | .grantHoldTimeout ch => Sys2Proof.Machine.execGrantHoldTimeout ch s
  | .grantFloorTimeout ch => Sys2Proof.Machine.execGrantFloorTimeout ch s
  | .mergeTimeout ch => Sys2Proof.Machine.execMergeTimeout ch s
  | .pinCheck ch => Sys2Proof.Machine.execPinCheck ch s
  | .ghostTimeout g => Sys2Proof.Machine.execGhostTimeout g s
  | .siteCaps d => Sys2Proof.Machine.execSiteCaps d s
  | .feederCfg d => Sys2Proof.Machine.execFeederCfg d s
  | .curtail d => Sys2Proof.Machine.execCurtail d s
  | .curtailExpiry k => Sys2Proof.Machine.execCurtailExpiry k s
  | .channelCfg d => Sys2Proof.Machine.execChannelCfg d s
  | .priority d => Sys2Proof.Machine.execPriority d s
  | .escrowRelease d => Sys2Proof.Machine.execEscrowRelease d s
  | .plannerCfg d => Sys2Proof.Machine.execPlannerCfg d s
  | .configStore src ws => Sys2Proof.Machine.execConfigStore src ws s
  | .ctxSelect w => Sys2Proof.Machine.execCtxSelect w s
  | .streamFault ch ix => Sys2Proof.Machine.execStreamFault ch ix s
  | .streamFaultEnd ch ix => Sys2Proof.Machine.execStreamFaultEnd ch ix s
  | .fastOutput ch raws => Sys2Proof.Machine.execFastOutput ch raws s
  | .metrologySample ch raws => Sys2Proof.Machine.execMetrologySample ch raws s
  | .acWindowEnd ch => Sys2Proof.Machine.execAcWindowEnd ch s
  | .msResults ch => Sys2Proof.Machine.execMsResults ch s
  | .calApply ch w => Sys2Proof.Machine.execCalApply ch w s
  | .ivlSnapshotRead ch => Sys2Proof.Machine.execIvlSnapshotRead ch s
  | .ivlReset ch w => Sys2Proof.Machine.execIvlReset ch w s
  | .qSelect ch w => Sys2Proof.Machine.execQSelect ch w s
  | .effWindowEnd ch => Sys2Proof.Machine.execEffWindowEnd ch s
  | .emapStore ch => Sys2Proof.Machine.execEmapStore ch s
  | .emapSelect ch w => Sys2Proof.Machine.execEmapSelect ch w s
  | .capArm d => Sys2Proof.Machine.execCapArm d s
  | .capTrigger d => Sys2Proof.Machine.execCapTrigger d s
  | .capTriggerEvent ch bit => Sys2Proof.Machine.execCapTriggerEvent ch bit s
  | .capPostEnd ch => Sys2Proof.Machine.execCapPostEnd ch s
  | .capRead d => Sys2Proof.Machine.execCapRead d s
  | .emapClear d => Sys2Proof.Machine.execEmapClear d s
  | .legalSeal d => Sys2Proof.Machine.execLegalSeal d s
  | .legalUnseal d => Sys2Proof.Machine.execLegalUnseal d s
  | .ledgerRead d => Sys2Proof.Machine.execLedgerRead d s
  | .ledgerAck d => Sys2Proof.Machine.execLedgerAck d s
  | .legalCodeLoad d => Sys2Proof.Machine.execLegalCodeLoad d s
  | .recordWriteDone ch bad => Sys2Proof.Machine.execRecordWriteDone ch bad s
  | .recordWriteRetry ch bad => Sys2Proof.Machine.execRecordWriteRetry ch bad s
  | .driftCompare ch => Sys2Proof.Machine.execDriftCompare ch s
  | .legalStore ch => Sys2Proof.Machine.execLegalStore ch s
  | .ceIdSample ch ceMv idMv => Sys2Proof.Machine.execCeIdSample ch ceMv idMv s
  | .vehEnable ch w => Sys2Proof.Machine.execVehEnable ch w s
  | .t1sLinkUp ch => Sys2Proof.Machine.execT1sLinkUp ch s
  | .sdpReq ch => Sys2Proof.Machine.execSdpReq ch s
  | .sessionSetupReq ch evccid => Sys2Proof.Machine.execSessionSetupReq ch evccid s
  | .authorizationReq ch pnc ok emaid => Sys2Proof.Machine.execAuthorizationReq ch pnc ok emaid s
  | .chargeParameterDiscovery ch bpt vMax vMin iMax iDis => Sys2Proof.Machine.execChargeParameterDiscovery ch bpt vMax vMin iMax iDis s
  | .scheduleExchange ch => Sys2Proof.Machine.execScheduleExchange ch s
  | .cableCheckReq ch => Sys2Proof.Machine.execCableCheckReq ch s
  | .cableCheckHold ch => Sys2Proof.Machine.execCableCheckHold ch s
  | .cableCheckTimeout ch => Sys2Proof.Machine.execCableCheckTimeout ch s
  | .prechargeReq ch v => Sys2Proof.Machine.execPrechargeReq ch v s
  | .prechargeTimeout ch => Sys2Proof.Machine.execPrechargeTimeout ch s
  | .powerDeliveryReq ch kind => Sys2Proof.Machine.execPowerDeliveryReq ch kind s
  | .dcChargeLoopReq ch iTgt vTgt vMax iMax iDis vEv evErr => Sys2Proof.Machine.execDcChargeLoopReq ch iTgt vTgt vMax iMax iDis vEv evErr s
  | .weldingDetectionReq ch => Sys2Proof.Machine.execWeldingDetectionReq ch s
  | .sessionStopReq ch => Sys2Proof.Machine.execSessionStopReq ch s
  | .tlsLost ch => Sys2Proof.Machine.execTlsLost ch s
  | .sequenceTimeout ch => Sys2Proof.Machine.execSequenceTimeout ch s
  | .chargeLoopTimeout ch => Sys2Proof.Machine.execChargeLoopTimeout ch s
  | .authTimeout ch => Sys2Proof.Machine.execAuthTimeout ch s
  | .pauseTimeout ch => Sys2Proof.Machine.execPauseTimeout ch s
  | .authAccept d => Sys2Proof.Machine.execAuthAccept d s
  | .authReject d => Sys2Proof.Machine.execAuthReject d s
  | .sessionStop d => Sys2Proof.Machine.execSessionStop d s
  | .certLoad d => Sys2Proof.Machine.execCertLoad d s
  | .authMode d => Sys2Proof.Machine.execAuthMode d s
  | .vehEvtRead ch => Sys2Proof.Machine.execVehEvtRead ch s
  | .certCheck ch => Sys2Proof.Machine.execCertCheck ch s
  | .coolSensorConversion ch pts ntcs mv => Sys2Proof.Machine.execCoolSensorConversion ch pts ntcs mv s
  | .flowUpdate ch pulses => Sys2Proof.Machine.execFlowUpdate ch pulses s
  | .coolEnable ch w => Sys2Proof.Machine.execCoolEnable ch w s
  | .ageRst ch => Sys2Proof.Machine.execAgeRst ch s
  | .coolMark ch => Sys2Proof.Machine.execCoolMark ch s
  | .rundownTimeout ch => Sys2Proof.Machine.execRundownTimeout ch s
  | .flowLowSet ch => Sys2Proof.Machine.execFlowLowSet ch s
  | .flowLowClear ch => Sys2Proof.Machine.execFlowLowClear ch s
  | .presFltSet ch => Sys2Proof.Machine.execPresFltSet ch s
  | .presFltClear ch => Sys2Proof.Machine.execPresFltClear ch s
  | .pinDiscSet ch => Sys2Proof.Machine.execPinDiscSet ch s
  | .pinDiscClear ch => Sys2Proof.Machine.execPinDiscClear ch s
  | .eyeletCommandFrame ch => Sys2Proof.Machine.execEyeletCommandFrame ch s
  | .eyOvercurrentTrip ch ix us => Sys2Proof.Machine.execEyOvercurrentTrip ch ix us s
  | .eyShortCircuit ch ix ma => Sys2Proof.Machine.execEyShortCircuit ch ix ma s
  | .eyThermalTrip ch ix dt tj => Sys2Proof.Machine.execEyThermalTrip ch ix dt tj s
  | .eyThermalRearm ch ix dt tj => Sys2Proof.Machine.execEyThermalRearm ch ix dt tj s
  | .inrushWindowEnd ch ix => Sys2Proof.Machine.execInrushWindowEnd ch ix s
  | .retryPauseEnd ch ix => Sys2Proof.Machine.execRetryPauseEnd ch ix s
  | .fcntClear ch ix => Sys2Proof.Machine.execFcntClear ch ix s
  | .eyClear d => Sys2Proof.Machine.execEyClear d s
  | .openLoadJudge ch ix mv ma ms => Sys2Proof.Machine.execOpenLoadJudge ch ix mv ma ms s
  | .outputUndervoltage ch ix mv us limiting => Sys2Proof.Machine.execOutputUndervoltage ch ix mv us limiting s
  | .supplyDip ch v0 v1 us => Sys2Proof.Machine.execSupplyDip ch v0 v1 us s
  | .supplyDipEnd ch mv us => Sys2Proof.Machine.execSupplyDipEnd ch mv us s
  | .vswUndervoltage ch mv => Sys2Proof.Machine.execVswUndervoltage ch mv s
  | .vswRestore ch mv => Sys2Proof.Machine.execVswRestore ch mv s
  | .mirrorSelectInput ch sel => Sys2Proof.Machine.execMirrorSelectInput ch sel s
  | .watchdogFeed ch seq => Sys2Proof.Machine.execWatchdogFeed ch seq s
  | .eyeletWatchdogExpiry ch => Sys2Proof.Machine.execEyeletWatchdogExpiry ch s
  | .failsafeDelayEnd ch => Sys2Proof.Machine.execFailsafeDelayEnd ch s
  | .eyOutput d => Sys2Proof.Machine.execEyOutput d s
  | .eyLimits d => Sys2Proof.Machine.execEyLimits d s
  | .eyResume d => Sys2Proof.Machine.execEyResume d s
  | .eyFailsafe d => Sys2Proof.Machine.execEyFailsafe d s
  | .eyCmdWrite ch w => Sys2Proof.Machine.execEyCmdWrite ch w s
  | .shankInputSample ch lands => Sys2Proof.Machine.execShankInputSample ch lands s
  | .pairDiscrepancy ch imd => Sys2Proof.Machine.execPairDiscrepancy ch imd s
  | .sf4Comparator ch ceMv idMv => Sys2Proof.Machine.execSf4Comparator ch ceMv idMv s
  | .safePdu ch path p => Sys2Proof.Machine.execSafePdu ch path p s
  | .safePathLost ch ix b => Sys2Proof.Machine.execSafePathLost ch ix b s
  | .safePathRestored ch ix b => Sys2Proof.Machine.execSafePathRestored ch ix b s
  | .sitePduSend ch => Sys2Proof.Machine.execSitePduSend ch s
  | .shankDemand ch => Sys2Proof.Machine.execShankDemand ch s
  | .shankArm ch => Sys2Proof.Machine.execShankArm ch s
  | .shankFault ch => Sys2Proof.Machine.execShankFault ch s
  | .blockedClear ch => Sys2Proof.Machine.execBlockedClear ch s
  | .degradedTimeout ch => Sys2Proof.Machine.execDegradedTimeout ch s
  | .degradedCurrentCheck ch => Sys2Proof.Machine.execDegradedCurrentCheck ch s
  | .stop1Timeout ch => Sys2Proof.Machine.execStop1Timeout ch s
  | .contactorDelayEnd ch => Sys2Proof.Machine.execContactorDelayEnd ch s
  | .safeStopExit ch => Sys2Proof.Machine.execSafeStopExit ch s
  | .testPulse ch => Sys2Proof.Machine.execTestPulse ch s
  | .testPulseEnd ch => Sys2Proof.Machine.execTestPulseEnd ch s
  | .clockMonitorTrip ch d1 d2 => Sys2Proof.Machine.execClockMonitorTrip ch d1 d2 s
  | .pwmPeriodWatchdogTrip ch iv marker => Sys2Proof.Machine.execPwmPeriodWatchdogTrip ch iv marker s
  | .weldCheck ch neg => Sys2Proof.Machine.execWeldCheck ch neg s
  | .dischargeCheck ch => Sys2Proof.Machine.execDischargeCheck ch s
  | .paramBlockCheck ch word flip => Sys2Proof.Machine.execParamBlockCheck ch word flip s
  | .shkParamWrite d => Sys2Proof.Machine.execShkParamWrite d s
  | .shkConfirm d => Sys2Proof.Machine.execShkConfirm d s
  | .shkReset d => Sys2Proof.Machine.execShkReset d s
  | .shkTest d => Sys2Proof.Machine.execShkTest d s
  | .blockLock west => Sys2Proof.Machine.execBlockLock west s
  | .awlBlock west lane1 blk bip skew bad ctl => Sys2Proof.Machine.execAwlBlock west lane1 blk bip skew bad ctl s
  | .linkUp west => Sys2Proof.Machine.execLinkUp west s
  | .linkDown west cause => Sys2Proof.Machine.execLinkDown west cause s
  | .ringIsolate west on => Sys2Proof.Machine.execRingIsolate west on s
  | .wrapRelease west => Sys2Proof.Machine.execWrapRelease west s
  | .ringFrame onWest hdr payload crc abort resid => Sys2Proof.Machine.execRingFrame onWest hdr payload crc abort resid s
  | .tripBlock onWest field => Sys2Proof.Machine.execTripBlock onWest field s
  | .tripRequest ch => Sys2Proof.Machine.execTripRequest ch s
  | .presenceSend => Sys2Proof.Machine.execPresenceSend s
  | .presence w => Sys2Proof.Machine.execPresence w s
  | .nidClaim => Sys2Proof.Machine.execNidClaim s
  | .nodeDepart die => Sys2Proof.Machine.execNodeDepart die s
  | .delayExchange fE fW => Sys2Proof.Machine.execDelayExchange fE fW s
  | .delayReq west f2 f3 turn => Sys2Proof.Machine.execDelayReq west f2 f3 turn s
  | .delayResp west w f4 => Sys2Proof.Machine.execDelayResp west w f4 s
  | .syncSend f => Sys2Proof.Machine.execSyncSend f s
  | .sync onWest links w f => Sys2Proof.Machine.execSync onWest links w f s
  | .syncLoss => Sys2Proof.Machine.execSyncLoss s
  | .holdoverTimeout => Sys2Proof.Machine.execHoldoverTimeout s
  | .masterChange => Sys2Proof.Machine.execMasterChange s
  | .todWrite w => Sys2Proof.Machine.execTodWrite w s
  | .ppsEdge => Sys2Proof.Machine.execPpsEdge s
  | .laneSleep west => Sys2Proof.Machine.execLaneSleep west s
  | .laneWake west => Sys2Proof.Machine.execLaneWake west s
  | .loopbackWrite w => Sys2Proof.Machine.execLoopbackWrite w s
  | .errSelect w => Sys2Proof.Machine.execErrSelect w s
  | .errClear w => Sys2Proof.Machine.execErrClear w s
  | .nodeSelect w => Sys2Proof.Machine.execNodeSelect w s
  | .nidCfgWrite w => Sys2Proof.Machine.execNidCfgWrite w s
  | .remoteRegisterAccess node ofs write w => Sys2Proof.Machine.execRemoteRegisterAccess node ofs write w s
  | .regReq src w0 w1 => Sys2Proof.Machine.execRegReq src w0 w1 s
  | .regResp w0 w1 => Sys2Proof.Machine.execRegResp w0 w1 s
  | .remoteReadTimeout rid => Sys2Proof.Machine.execRemoteReadTimeout rid s
  | .sqDoorbell k w => Sys2Proof.Machine.execSqDoorbell k w s
  | .cqDoorbell k w => Sys2Proof.Machine.execCqDoorbell k w s
  | .ringEnable k => Sys2Proof.Machine.execRingEnable k s
  | .ringDisable k => Sys2Proof.Machine.execRingDisable k s
  | .ringAbort k => Sys2Proof.Machine.execRingAbort k s
  | .ringDrainDone k => Sys2Proof.Machine.execRingDrainDone k s
  | .descriptorFetch k ok ds => Sys2Proof.Machine.execDescriptorFetch k ok ds s
  | .desc d => Sys2Proof.Machine.execDesc d s
  | .compl src w => Sys2Proof.Machine.execCompl src w s
  | .irqTimeExpiry k => Sys2Proof.Machine.execIrqTimeExpiry k s
  | .descriptorTimeout rid => Sys2Proof.Machine.execDescriptorTimeout rid s
  | .sessionAttnRepeat ch => Sys2Proof.Machine.execSessionAttnRepeat ch s
  | .wpDataAccess node k ofs write w => Sys2Proof.Machine.execWpDataAccess node k ofs write w s
  | .wpCommit node k wlen => Sys2Proof.Machine.execWpCommit node k wlen s
  | .wpAck node k => Sys2Proof.Machine.execWpAck node k s
  | .wpNak node k => Sys2Proof.Machine.execWpNak node k s
  | .wpAbort node k => Sys2Proof.Machine.execWpAbort node k s
  | .wpTimeout node k => Sys2Proof.Machine.execWpTimeout node k s
  | .word src w0 w1 data => Sys2Proof.Machine.execWord src w0 w1 data s
  | .endpointReset => Sys2Proof.Machine.execEndpointReset s
  | .gatewayRoleChange up speed width => Sys2Proof.Machine.execGatewayRoleChange up speed width s
  | .cntSelect w => Sys2Proof.Machine.execCntSelect w s
  | .coordElect => Sys2Proof.Machine.execCoordElect s
  | .mirrorCaps ws => Sys2Proof.Machine.execMirrorCaps ws s
  | .mirrorCtx ws => Sys2Proof.Machine.execMirrorCtx ws s
  | .checkpointTimer => Sys2Proof.Machine.execCheckpointTimer s
  | .ckpt ws => Sys2Proof.Machine.execCkpt ws s
  | .verdict w => Sys2Proof.Machine.execVerdict w s
  | .takeoverFrame w => Sys2Proof.Machine.execTakeoverFrame w s
  | .higherGenGrant ws => Sys2Proof.Machine.execHigherGenGrant ws s
  | .plannerWakeDone => Sys2Proof.Machine.execPlannerWakeDone s
  | .swapReq src w => Sys2Proof.Machine.execSwapReq src w s
  | .swapAck w => Sys2Proof.Machine.execSwapAck w s
  | .fwLoad d => Sys2Proof.Machine.execFwLoad d s
  | .fwCommit d => Sys2Proof.Machine.execFwCommit d s
  | .fwCommitDone die ok => Sys2Proof.Machine.execFwCommitDone die ok s
  | .fwActivate d => Sys2Proof.Machine.execFwActivate d s
  | .fwRunning die => Sys2Proof.Machine.execFwRunning die s
  | .trialLapse die => Sys2Proof.Machine.execTrialLapse die s
  | .pairAssign d => Sys2Proof.Machine.execPairAssign d s
  | .pairSwap d => Sys2Proof.Machine.execPairSwap d s
  | .chHold d => Sys2Proof.Machine.execChHold d s
  | .keyWrite d => Sys2Proof.Machine.execKeyWrite d s
  | .keyZeroise d => Sys2Proof.Machine.execKeyZeroise d s
  | .lcAdvance d => Sys2Proof.Machine.execLcAdvance d s
  | .debugSet d => Sys2Proof.Machine.execDebugSet d s
  | .tamperClear d => Sys2Proof.Machine.execTamperClear d s
  | .tamperCfg d => Sys2Proof.Machine.execTamperCfg d s
  | .tamperInputAlarm die ix isOpen ms => Sys2Proof.Machine.execTamperInputAlarm die ix isOpen ms s
  | .tamperDetectorAlarm die code x => Sys2Proof.Machine.execTamperDetectorAlarm die code x s
  | .sessionKeyZeroise ch => Sys2Proof.Machine.execSessionKeyZeroise ch s
  | .keyCtrSelect die w => Sys2Proof.Machine.execKeyCtrSelect die w s
  | .canInitLeave ch b w => Sys2Proof.Machine.execCanInitLeave ch b w s
  | .canInitEnter ch b w => Sys2Proof.Machine.execCanInitEnter ch b w s
  | .canIntegrated ch b => Sys2Proof.Machine.execCanIntegrated ch b s
  | .canFrameRx ch b fr age => Sys2Proof.Machine.execCanFrameRx ch b fr age s
  | .canArbitrationSelect ch b => Sys2Proof.Machine.execCanArbitrationSelect ch b s
  | .canTxSuccess ch b age dly => Sys2Proof.Machine.execCanTxSuccess ch b age dly s
  | .canTxError ch b lost kind dataPhase field exempt => Sys2Proof.Machine.execCanTxError ch b lost kind dataPhase field exempt s
  | .canTxRequest ch b k => Sys2Proof.Machine.execCanTxRequest ch b k s
  | .canTxCancel ch b k cut => Sys2Proof.Machine.execCanTxCancel ch b k cut s
  | .canRxError ch b kind dataPhase step => Sys2Proof.Machine.execCanRxError ch b kind dataPhase step s
  | .canRecoveryDelay ch b => Sys2Proof.Machine.execCanRecoveryDelay ch b s
  | .canRecovered ch b => Sys2Proof.Machine.execCanRecovered ch b s
  | .canProtocolException ch b => Sys2Proof.Machine.execCanProtocolException ch b s
  | .canMemAccess ch b core w => Sys2Proof.Machine.execCanMemAccess ch b core w s
  | .canMemAddrWrite ch b core w => Sys2Proof.Machine.execCanMemAddrWrite ch b core w s
  | .canHoldWrite ch b => Sys2Proof.Machine.execCanHoldWrite ch b s
  | .canRxfAck ch b w => Sys2Proof.Machine.execCanRxfAck ch b w s
  | .relock ch auto => Sys2Proof.Machine.execRelock ch auto s
  | .lockVerified ch => Sys2Proof.Machine.execLockVerified ch s
  | .lockAttemptTimeout ch => Sys2Proof.Machine.execLockAttemptTimeout ch s
  | .lossOfLock ch => Sys2Proof.Machine.execLossOfLock ch s
  | .lockRegained ch => Sys2Proof.Machine.execLockRegained ch s
  | .lossOfReference ch => Sys2Proof.Machine.execLossOfReference ch s
  | .referenceRegained ch => Sys2Proof.Machine.execReferenceRegained ch s
  | .rampGo ch => Sys2Proof.Machine.execRampGo ch s
  | .rampStop ch => Sys2Proof.Machine.execRampStop ch s
  | .rampStep ch => Sys2Proof.Machine.execRampStep ch s
  | .pllLol ch => Sys2Proof.Machine.execPllLol ch s
  | .hubLossOfLock which lost => Sys2Proof.Machine.execHubLossOfLock which lost s
  | .pmEvaluate vaux mw => Sys2Proof.Machine.execPmEvaluate vaux mw s
  | .pmLower u => Sys2Proof.Machine.execPmLower u s
  | .pmStateReached u => Sys2Proof.Machine.execPmStateReached u s
  | .pmWake u code => Sys2Proof.Machine.execPmWake u code s
  | .tempConversion die rs => Sys2Proof.Machine.execTempConversion die rs s
  | .throttleUpdate die => Sys2Proof.Machine.execThrottleUpdate die s
  | .junctionShutdown ch => Sys2Proof.Machine.execJunctionShutdown ch s
  | .thDieSelect w => Sys2Proof.Machine.execThDieSelect w s
  | .ageingMeasure die slacks => Sys2Proof.Machine.execAgeingMeasure die slacks s
  | .ageingReplan die => Sys2Proof.Machine.execAgeingReplan die s
  | .ageingRecord die => Sys2Proof.Machine.execAgeingRecord die s
  | .ageSelect w => Sys2Proof.Machine.execAgeSelect w s
  | .cobRun d => Sys2Proof.Machine.execCobRun d s
  | .cobAbort d => Sys2Proof.Machine.execCobAbort d s
  | .cobSched d => Sys2Proof.Machine.execCobSched d s
  | .cobTestDue die test => Sys2Proof.Machine.execCobTestDue die test s
  | .cobTestStart => Sys2Proof.Machine.execCobTestStart s
  | .cobTestEnd die detail => Sys2Proof.Machine.execCobTestEnd die detail s
  | .cobTestAbort die => Sys2Proof.Machine.execCobTestAbort die s
  | .cobWaitRaise die => Sys2Proof.Machine.execCobWaitRaise die s
  | .cobResSelect w => Sys2Proof.Machine.execCobResSelect w s
  | .vauxValid mv us => Sys2Proof.Machine.execVauxValid mv us s
  | .vholdOk dv => Sys2Proof.Machine.execVholdOk dv s
  | .holdupMeasure us => Sys2Proof.Machine.execHoldupMeasure us s
  | .pfail mv => Sys2Proof.Machine.execPfail mv s
  | .railsOff dv => Sys2Proof.Machine.execRailsOff dv s
  | .hubBoot okBoot okOther => Sys2Proof.Machine.execHubBoot okBoot okOther s
  | .soleBoot ch okLegal okBoot okOther => Sys2Proof.Machine.execSoleBoot ch okLegal okBoot okOther s
  | .resetPin low us => Sys2Proof.Machine.execResetPin low us s
  | .resetStuck us => Sys2Proof.Machine.execResetStuck us s
  | .resetUnmask us => Sys2Proof.Machine.execResetUnmask us s
  | .stuckAck d => Sys2Proof.Machine.execStuckAck d s
  | .hubWatchdogExpiry => Sys2Proof.Machine.execHubWatchdogExpiry s
  | .soleWatchdogExpiry ch => Sys2Proof.Machine.execSoleWatchdogExpiry ch s
  | .tongueWatchdogExpiry ch => Sys2Proof.Machine.execTongueWatchdogExpiry ch s
  | .vauxSurge mv us => Sys2Proof.Machine.execVauxSurge mv us s
  | .unsupportedRequest ch => Sys2Proof.Machine.execUnsupportedRequest ch s
  | .configStoreTimeout => Sys2Proof.Machine.execConfigStoreTimeout s
  | .busMasterEnable on => Sys2Proof.Machine.execBusMasterEnable on s

end Sys2Proof.Machine
end

