-- ==== Sys2Proof/Machine/Step.lean ====
section
/-! DEFINITION. Sys2Proof/Machine/Step.lean: one step of the module: the command at the front of the queue has its effect. -/

namespace Sys2Proof.Machine

/-- A command put at the front of the queue. -/
def State.withFront (s : State) (c : Instr) : State := { s with pending := c :: s.pending }

/-- The state with the command that a word of the table spells at the front of its queue. -/
def State.withFetchWord (s : State) (nbits w : Nat) : State :=
  match decodeTableWord nbits w with
  | some c => s.withFront c
  | none => s

/-- What a step does on an empty queue: 1 ns passes (log entry 7). -/
def State.idle (s : State) : State := { s with now := s.now + 1 }

/-- The state without the command at the front of its queue. -/
def State.popped (s : State) : State := { s with pending := s.pending.tail }

/-- One step: the front command of the queue is executed on the state with the rest of the queue; on an empty queue time
passes. -/
def step (s : State) : Host.Outcome State Fault Refusal :=
  match s.pending with
  | [] => .next s.idle
  | c :: _ => exec c s.popped

end Sys2Proof.Machine
end

