-- ==== Sys2Proof/Safety.lean ====
section
/-! DEFINITION. Sys2Proof/Safety.lean: what the claims say of a state and of a run. -/

namespace Sys2Proof.Machine

/-- Each word port of the node carries at most one transfer (R533). -/
def State.portsApart (s : State) : Bool := decide (s.xfers.map (fun (x : Xfer) => x.port)).Nodup

/-- At most two self-tests run, and no die runs two (R685). -/
def State.testsApart (s : State) : Bool :=
  decide (s.hub.cob.run.length ≤ 2) && decide (s.hub.cob.run.map (fun (r : CobRun) => r.task.die)).Nodup

/-- The Sole of channel n runs, in a power state no deeper than pm (R658). -/
def State.soleUp (s : State) (n pm : Nat) : Bool :=
  decide (n < 4) && decide ((s.ch n).core.run = 2) && decide ((s.ch n).core.pm ≤ pm)

/-- The metering and the legal code of channel n run: no power-fail warning stands (R320, R658). -/
def State.legalUp (s : State) (n pm : Nat) : Bool := s.soleUp n pm && !(s.ch n).core.pfail

/-- An access to the registers of a die of this node is served at once (R44, R567, R683, R706): Soles 0 to 3, the hub 4. -/
def State.hostOpen (s : State) (die : Nat) : Bool :=
  decide (s.hub.run = 2) && !(vget s.hub.fw 4 {}).act && !s.memTest die && (decide (die = 4) || s.served die)

/-- The descriptor engine of this node's gateway runs (R567, R706), and the ring datapath with it. -/
def State.hubUp (s : State) : Bool := decide (s.hub.run = 2) && !(vget s.hub.fw 4 {}).act

/-- The engine of this hub runs (R598, R660, R706). -/
def State.engUp (s : State) : Bool := s.hubUp && !s.hub.key.held

/-- A die of this node takes descriptor d now, and a critical one passes its key check (R524, R530, R661). -/
def State.takes (s : State) (die : Nat) (d : Desc) : Bool :=
  decide (s.dieOf d = some die) && decide (2 ≤ s.hub.run) && decide (s.descFate die d = .run)
  && match opRow d.opcode with
    | some row => row.target.fits d.chan
        && (!row.critical || ((s.keyOf die).critical (decide (die = 4)) d).2.1.isNone)
    | none => false

/-- The state in which the die executes a descriptor it takes: the counter of a critical one has been stored (R530). -/
def State.taken (s : State) (die : Nat) (d : Desc) : State :=
  if (opRow d.opcode).any (fun row => row.critical) then s.setKey die ((s.keyOf die).critical (decide (die = 4)) d).1 else s

/-- The reference its completion carries: with the counter where it was stored (R527). -/
def State.refOf (s : State) (die : Nat) (d : Desc) : DescRef :=
  if (opRow d.opcode).any (fun row => row.critical) then d.ref ((s.keyOf die).critical (decide (die = 4)) d).2.2 else d.ref false

/-- Channel n of s replaced by k, with what follows from that at once: what the channel itself derives, and what it sends on
its way. -/
def State.withCh (s : State) (n : Nat) (k : Chan) : State :=
  (s.setCh n (if k.core.run = 2 then k.settle (s.ch n) s.env else k)).flush n

/-- The command answers a next state: u, and what u set going inside the module run. -/
def Leaves (o : Host.Outcome State Fault Refusal) (u : State) : Prop := o = .next u.finish

/-- The command answers a next state: channel n of s replaced by a k of which P holds, and nothing else changed but by what
follows from k. -/
def Becomes (o : Host.Outcome State Fault Refusal) (s : State) (n : Nat) (P : Chan → Prop) : Prop :=
  ∃ k, P k ∧ Leaves o (s.withCh n k)

/-- The descriptor command answers a next state: die n has executed d, channel n replaced by a k of which P holds, and the
descriptor completes with a code. -/
def Executes (o : Host.Outcome State Fault Refusal) (s : State) (n : Nat) (d : Desc) (code : Nat) (P : Chan → Prop) : Prop :=
  ∃ k, P k ∧ Leaves o (((s.taken n d).withCh n k).complete { ref := s.refOf n d, status := code })

/-- The descriptor command answers a next state in which the descriptor completes with a code and has no other effect than the
counter it used. -/
def Rejects (o : Host.Outcome State Fault Refusal) (s : State) (n : Nat) (d : Desc) (code : Nat) : Prop :=
  Leaves o ((s.taken n d).complete { ref := s.refOf n d, status := code })

/-- Channel k differs from c in bus b alone, of which P holds, and in the journal entries that a change of its error states
sends (R611). -/
def BusOf (c : Chan) (b : Bool) (P : CanBus → Prop) (k : Chan) : Prop :=
  let st (x : CanBus) : Bool × Bool × Bool := (decide (x.r.status.state = .passive), decide (x.r.status.state = .busOff), x.r.status.ew)
  P (k.bus b) ∧ k.bus (!b) = c.bus (!b) ∧ k = { c with canA := k.canA, canB := k.canB, jq := k.jq }
  ∧ (if st (k.bus b) = st (c.bus b) then k.jq = c.jq else ∃ x, k.jq = c.jq ++ [x])

/-- The command answers a next state: the ring interface of s replaced by a g of which P holds, and nothing else changed but
by what follows from g. -/
def RingBecomes (o : Host.Outcome State Fault Refusal) (s : State) (P : Ring → Prop) : Prop :=
  ∃ g, P g ∧ Leaves o { s with hub := { s.hub with ring := g } }

/-- The command answers a next state: the gateway of s replaced by a g of which P holds, with the transfers whose request has
ended there discarded (R538), and nothing else changed but by what follows from that. -/
def GwBecomes (o : Host.Outcome State Fault Refusal) (s : State) (P : Gw → Prop) : Prop :=
  ∃ g, P g ∧ Leaves o (s.onGw (fun _ => g))

/-- The command answers a next state: the engine of this hub replaced in t by an e of which P holds, and nothing else changed
but by what follows from e. -/
def EngBecomes (o : Host.Outcome State Fault Refusal) (t : State) (P : Eng → Prop) : Prop :=
  ∃ e, P e ∧ Leaves o { t with hub := { t.hub with eng := e } }

/-- The descriptor command answers a next state: the engine of this hub has executed d, which reached the die, and is replaced
by an e of which P holds, and the descriptor completes with a code. -/
def EngExecutes (o : Host.Outcome State Fault Refusal) (s : State) (die : Nat) (d : Desc) (code : Nat) (P : Eng → Prop) : Prop :=
  ∃ e, P e ∧ Leaves o (({ s.taken die d with hub := { (s.taken die d).hub with eng := e } } : State).complete
    { ref := s.refOf die d, status := code })

end Sys2Proof.Machine
end

