-- ==== Sys2Proof/Certificates/Slice0/Obligations.lean ====
section
/-! DEFINITION. Sys2Proof/Certificates/Slice0/Obligations.lean: the statements about the model. -/

open Sys2Proof Sys2Proof.Machine

/-! ### The phase modulator -/

/-- ARM, DISARM, PERIOD_WRITE, SHED_CFG_WRITE, SYNC_SRC_WRITE, PH_SEL_CAPTURE, SHED_VIEW_SELECT (R69, R71, R72, R81, R97,
R130, R131): what a host write of each register does to the phase modulator of the channel, and to nothing else in it. -/
def Obligations.PwmRegisterCommands : Prop :=
  ∀ (s : State) (n : Nat), n < 4 → s.hostOpen n = true →
    let p := (s.ch n).pwm
    (p.r.status.state = .disabled → p.check = true →
      Becomes (exec (.arm n) s) s n (fun k =>
        k.pwm.r.status.state = .ready ∧ k.pwm.r.status.cfgErr = false ∧ k.pwm.r.ctrl.arm = true
        ∧ k = { s.ch n with pwm := k.pwm }))
    ∧ (p.r.status.state = .disabled → p.check = false →
      Becomes (exec (.arm n) s) s n (fun k =>
        k.pwm.r.status.state = .disabled ∧ k.pwm.r.status.cfgErr = true ∧ k.pwm.r.ctrl.arm = true
        ∧ k = { s.ch n with pwm := k.pwm }))
    ∧ (p.r.status.state = .tripped →
      Becomes (exec (.disarm n) s) s n (fun k =>
        k.pwm.r.status.state = .disabled ∧ k.pwm.r.ctrl.arm = false ∧ k = { s.ch n with pwm := k.pwm }))
    ∧ (p.r.status.state = .ready → (p.ph.toList.all fun x => decide (x.act = .off)) = true →
      Becomes (exec (.disarm n) s) s n (fun k =>
        k.pwm.r.status.state = .disabled ∧ k.pwm.r.ctrl.arm = false ∧ k = { s.ch n with pwm := k.pwm }))
    ∧ (∀ w : Word,
        let v := (w.extractLsb' 0 19).toNat
        (32000 ≤ v ∧ v ≤ 320000 → Becomes (exec (.periodWrite n w) s) s n (fun k =>
          k.pwm.r.period = w.extractLsb' 0 19 ∧ k.pwm.r.status.wrIgn = p.r.status.wrIgn ∧ k = { s.ch n with pwm := k.pwm }))
        ∧ (¬ (32000 ≤ v ∧ v ≤ 320000) → Becomes (exec (.periodWrite n w) s) s n (fun k =>
          k.pwm.r.period = p.r.period ∧ k.pwm.r.status.wrIgn = true ∧ k = { s.ch n with pwm := k.pwm }))
        ∧ Becomes (exec (.shedCfgWrite n w) s) s n (fun k =>
          k.pwm.r.shedCfg = p.r.shedCfg.write w ∧ k.pwm.upSince = none ∧ k.pwm.dnSince = none
          ∧ k = { s.ch n with pwm := k.pwm })
        ∧ Becomes (exec (.phSelCapture n w) s) s n (fun k =>
          let j := min (w.extractLsb' 0 5).toNat 23
          k.pwm.r.phSel.toNat = j ∧ k.pwm.r.phData0.imb = toS 16 (p.phase j).imb
          ∧ k.pwm.r.phData0.iAvg = toS 16 (p.phase j).iAvg ∧ k.pwm.r.phData1.temp = toS 16 (p.phase j).temp
          ∧ k.pwm.r.phData1.pstate = BitVec.ofNat 3 (p.pstate j).code ∧ k = { s.ch n with pwm := k.pwm })
        ∧ Becomes (exec (.shedViewSelect n w) s) s n (fun k =>
          let m := max 1 (min (w.extractLsb' 24 5).toNat 24)
          k.pwm.r.shedView.n.toNat = m ∧ k.pwm.r.shedView.thr = toU 12 (p.thr (p.mode (s.ch n).auto) m)
          ∧ k = { s.ch n with pwm := k.pwm }))
    ∧ (∀ ext : Bool, ext ≠ p.r.ctrl.syncSrc →
        Becomes (exec (.syncSrcWrite n ext) s) s n (fun k =>
          k.pwm.r.ctrl.syncSrc = ext ∧ k.pwm.psLast = none ∧ k.pwm.psRun = 0
          ∧ (k.pwm.r.status.syncState = .own ∨ k.pwm.r.status.syncState = .pulling)
          ∧ k = { s.ch n with pwm := k.pwm }))

/-- GATE_FAULT_INPUT, OVERCURRENT_INPUT, SHANK_GATE_INHIBIT, TRIP_CLEAR (R82 to R85): in RUN each source latches its own bit,
the modulator goes to TRIPPED and counts, with every phase low, and a loop that is not IDLE goes to FAULT; an assertion within the filter does
nothing; TRIPPED ends once no bit is left. -/
def Obligations.PwmTrips : Prop :=
  ∀ (s : State) (n : Nat), s.soleUp n 1 = true →
    let p := (s.ch n).pwm
    let low (k : Chan) : Prop :=
      k.pwm.r.status.state = .tripped ∧ k.pwm.r.tripCnt = satInc p.r.tripCnt
      ∧ (k.pwm.ph.toList.all fun x => decide (x.act = .off)) = true
      ∧ ((s.ch n).loop.r.status.state ≠ .idle → k.loop.r.status.state = .fault)
    (∀ g ns : Nat, g < 6 → ns ≤ 10 * p.r.prot.gfltFilt.toNat →
        Becomes (exec (.gateFaultInput n g true ns) s) s n (fun k => k = s.ch n))
    ∧ (∀ g ns : Nat, g < 6 → 10 * p.r.prot.gfltFilt.toNat < ns → p.groupEn g = true → p.r.status.state = .run →
        Becomes (exec (.gateFaultInput n g true ns) s) s n (fun k =>
          low k ∧ k.pwm.r.trip = { p.r.trip with gflt := msetb p.r.trip.gflt g true }))
    ∧ (∀ mv ns : Nat, 3 * p.r.prot.ocpThr.toNat < mv → 10 * p.r.prot.ocpFilt.toNat < ns → p.r.status.state = .run →
        Becomes (exec (.overcurrentInput n mv ns) s) s n (fun k => low k ∧ k.pwm.r.trip = { p.r.trip with ocp := true }))
    ∧ ((s.ch n).shk.r.status.inhibit = true → p.r.status.state = .run →
        Becomes (exec (.shankGateInhibit n) s) s n (fun k => low k ∧ k.pwm.r.trip = { p.r.trip with shank := true }))
    ∧ (s.hostOpen n = true → p.r.status.state = .tripped → p.gflt = 0 → p.oc = false →
        (s.ch n).shk.r.status.inhibit = false →
        Becomes (exec (.tripClear n 0xFFFFFFFF) s) s n (fun k =>
          k.pwm.noTrip = true ∧ k.pwm.r.status.state = .ready ∧ k = { s.ch n with pwm := k.pwm }))

/-- CARRIER_START, DWELL_UP_EXPIRY, DWELL_DN_EXPIRY, OFF_MODE_ADD, SHED_REPLAN (R68, R71, R78, R92, R95, R97, R99, R100, R754).
Choices of the model it rests on: log entry 8. -/
def Obligations.PwmCarrierAndShedding : Prop :=
  ∀ (s : State) (n : Nat), s.soleUp n 1 = true →
    let p := (s.ch n).pwm
    let x (j : Nat) : PhaseSt := p.phase j
    -- an active phase latches the clamped duty at its own start, and its period moves by at most 0.1 %
    (∀ j : Nat, j < 24 → p.r.status.state = .run → (x j).act = .on →
        Becomes (exec (.carrierStart n j) s) s n (fun k =>
          (k.pwm.phase j).start = (x j).next ∧ (k.pwm.phase j).duty = p.common (x j).next ∧ (k.pwm.phase j).act = .on
          ∧ (k.pwm.phase j).per = p.perNext (x j)
          ∧ (∀ i, i ≠ j → (k.pwm.phase i) = x i) ∧ k = { s.ch n with pwm := k.pwm }))
    -- the add condition has held for DWELL_UP: one shed phase begins its add ramp
    ∧ (∀ t : Nat, p.r.status.state = .run → p.fading = false → p.slewing = false →
        p.addCond (p.mode (s.ch n).auto) = true → p.shedSet ≠ [] → p.upSince = some t →
        t + msNs p.r.shedTime.dwellUp.toNat ≤ s.now →
        Becomes (exec (.dwellUpExpiry n) s) s n (fun k =>
          (∃ j, j ∈ p.shedSet ∧ (k.pwm.phase j).act = .add1 ∧ ∀ i, i ≠ j → (k.pwm.phase i).act = (x i).act)
          ∧ k.pwm.upSince = none ∧ k.pwm.dnSince = none ∧ k = { s.ch n with pwm := k.pwm }))
    -- the shed condition has held for DWELL_DN: one phase begins its fade-out
    ∧ (∀ t : Nat, p.r.status.state = .run → p.fading = false → p.slewing = false →
        p.shedCond (p.mode (s.ch n).auto) = true → p.floorN < p.nKeep → p.dnSince = some t →
        t + msNs (max 1 p.r.shedTime.dwellDn.toNat) ≤ s.now →
        Becomes (exec (.dwellDnExpiry n) s) s n (fun k =>
          (∃ j, (x j).act = .on ∧ (k.pwm.phase j).act = .fade1 ∧ ∀ i, i ≠ j → (k.pwm.phase i).act = (x i).act)
          ∧ k.pwm.upSince = none ∧ k.pwm.dnSince = none ∧ k = { s.ch n with pwm := k.pwm }))
    -- in MODE OFF a missing phase is added with no dwell
    ∧ (p.r.status.state = .run → p.r.shedCfg.mode = 0 → p.nAct < p.nEn → p.fading = false → p.slewing = false →
        p.shedSet ≠ [] →
        Becomes (exec (.offModeAdd n) s) s n (fun k =>
          (∃ j, j ∈ p.shedSet ∧ (k.pwm.phase j).act = .add1 ∧ ∀ i, i ≠ j → (k.pwm.phase i).act = (x i).act)
          ∧ k = { s.ch n with pwm := k.pwm }))
    -- the thresholds are derived again where MAP is in force, and only there
    ∧ (p.mode (s.ch n).auto = .map → Becomes (exec (.shedReplan n) s) s n (fun k =>
          k.pwm.tReplan = s.now ∧ k.pwm.r = p.r ∧ k.pwm.ph = p.ph ∧ k = { s.ch n with pwm := k.pwm }))
    ∧ (p.mode (s.ch n).auto ≠ .map → Becomes (exec (.shedReplan n) s) s n (fun k => k = s.ch n))

/-- GATE_TELEMETRY_FRAME, TELEMETRY_TIMEOUT, IMBALANCE_WINDOW, RETIRE_REQUEST, RETIRE_CLEAR, PSYNC_EDGE, PSYNC_TIMEOUT (R81,
R87, R88, R103, R105).
Choices of the model it rests on: log entry 8. -/
def Obligations.PwmTelemetryRetirementSync : Prop :=
  ∀ (s : State) (n : Nat), s.soleUp n 1 = true →
    let p := (s.ch n).pwm
    let only (k : Chan) : Prop := k = { s.ch n with pwm := k.pwm }
    let crc (f : BitVec 40) : Byte := crc8 [f.extractLsb' 24 8, f.extractLsb' 16 8, f.extractLsb' 8 8, f.extractLsb' 0 8]
    -- a frame with a bad CRC is counted and otherwise ignored; a repeated SEQ is ignored
    (∀ (g : Nat) (f : BitVec 40), g < 6 → crc f ≠ f.extractLsb' 32 8 →
        Becomes (exec (.gateTelemetryFrame n g f) s) s n (fun k =>
          k = { s.ch n with pwm := { p with r.telStatus.crcErr := satInc p.r.telStatus.crcErr } }))
    ∧ (∀ (g : Nat) (f : BitVec 40), g < 6 → crc f = f.extractLsb' 32 8 → vget p.gtSeq g none = some (f.extractLsb' 20 8) →
        Becomes (exec (.gateTelemetryFrame n g f) s) s n (fun k => k = s.ch n))
    -- a current frame carries the current of its phase and its time
    ∧ (∀ (g : Nat) (f : BitVec 40), g < 6 → crc f = f.extractLsb' 32 8 → vget p.gtSeq g none ≠ some (f.extractLsb' 20 8) →
        f.extractLsb' 2 2 = 0 →
        Becomes (exec (.gateTelemetryFrame n g f) s) s n (fun k =>
          let j := 4 * g + (f.extractLsb' 0 2).toNat
          (k.pwm.phase j).cur = (f.extractLsb' 4 16).toInt ∧ (k.pwm.phase j).tI = some s.now
          ∧ (k.pwm.phase j).cnt = (p.phase j).cnt + 1 ∧ vget k.pwm.gtSeq g none = some (f.extractLsb' 20 8)
          ∧ (∀ i, i ≠ j → k.pwm.phase i = p.phase i) ∧ only k))
    -- telemetry that has grown old shows in TEL_OK, and in READY and RUN sets TEL_LOST
    ∧ Becomes (exec (.telemetryTimeout n) s) s n (fun k =>
          (∀ g, g < 6 → mbit k.pwm.r.telStatus.telOk g = p.telGroupOk s.now g)
          ∧ (p.r.status.state = .run ∨ p.r.status.state = .ready → ∀ g, g < 6 →
              mbit k.pwm.r.telStatus.telLost g = (mbit p.r.telStatus.telLost g
                || (mbit p.r.telStatus.telOk g && !p.telGroupOk s.now g)))
          ∧ only k)
    -- an imbalance window ends: its sums start again
    ∧ Becomes (exec (.imbalanceWindow n) s) s n (fun k =>
          (∀ j, j < 24 → (k.pwm.phase j).sum = 0 ∧ (k.pwm.phase j).cnt = 0
            ∧ ((p.phase j).cnt ≠ 0 → (k.pwm.phase j).iAvg = divHE (p.phase j).sum (p.phase j).cnt))
          ∧ k.pwm.tImb = s.now ∧ only k)
    -- an active phase fades out to be retired; the last enabled phase is refused
    ∧ (∀ j : Nat, j < 24 → s.hostOpen n = true → mbit p.r.retire j = false → mbit p.cfg j = true → 1 < p.nEn →
        (p.phase j).act = .on →
        Becomes (exec (.retireRequest n j) s) s n (fun k =>
          mbit k.pwm.r.retire j = true ∧ (k.pwm.phase j).act = .fade1 ∧ (k.pwm.phase j).ret = true
          ∧ (∀ i, i ≠ j → mbit k.pwm.r.retire i = mbit p.r.retire i) ∧ only k))
    ∧ (∀ j : Nat, j < 24 → s.hostOpen n = true → mbit p.r.retire j = false → mbit p.cfg j = true → p.nEn = 1 →
        Becomes (exec (.retireRequest n j) s) s n (fun k =>
          k.pwm.r.retire = p.r.retire ∧ k.pwm.r.status.retRef = true ∧ only k))
    -- a phase returns to service in DISABLED and READY, and nowhere else
    ∧ (∀ j : Nat, j < 24 → s.hostOpen n = true → mbit p.r.retire j = true →
        (p.r.status.state = .disabled ∨ p.r.status.state = .ready →
          Becomes (exec (.retireClear n j) s) s n (fun k =>
            mbit k.pwm.r.retire j = false ∧ (∀ i, i ≠ j → mbit k.pwm.r.retire i = mbit p.r.retire i) ∧ only k))
        ∧ (p.r.status.state ≠ .disabled → p.r.status.state ≠ .ready →
          Becomes (exec (.retireClear n j) s) s n (fun k =>
            k.pwm.r.retire = p.r.retire ∧ k.pwm.r.status.wrIgn = true ∧ only k)))
    -- an edge within 2 % of PERIOD of the last is accepted; 1.5 periods without one lose the anchor
    ∧ (∀ (rising : Bool) (a : Int), p.r.ctrl.syncSrc = true → rising ≠ p.r.sync.extPol → p.psLast = some a →
        (s.env.taps - a - p.r.period.toNat).natAbs * 100 ≤ 2 * p.r.period.toNat →
        Becomes (exec (.psyncEdge n rising) s) s n (fun k =>
          k.pwm.psLast = some s.env.taps ∧ k.pwm.psRun = p.psRun + 1 ∧ k.pwm.extPer = (s.env.taps - a).toNat ∧ only k))
    ∧ (∀ a : Int, p.psLast = some a → 3 * (p.r.period.toNat : Int) ≤ 2 * (s.env.taps - a) →
        Becomes (exec (.psyncTimeout n) s) s n (fun k =>
          k.pwm.psLast = none ∧ k.pwm.psRun = 0
          ∧ (p.r.ctrl.syncSrc = true → p.r.status.syncState = .locked → k.pwm.r.status.syncState = .holdover) ∧ only k))
/-! ### The loop engine -/

/-- INNER_TICK, OUTER_SAMPLE, LIMIT_APPLY_IDLE, ON_DELAY_EXPIRY, OFF_DELAY_EXPIRY, STOP_TIMEOUT (R141, R144, R149, R150, R151,
R155, R161).
Choices of the model it rests on: log entries 8, 15. -/
def Obligations.LoopTicksAndDelays : Prop :=
  ∀ (s : State) (n : Nat), s.soleUp n 0 = true →
    let c := s.ch n
    let l := c.loop
    let st := l.r.status.state
    -- an inner tick of a loop that runs computes a duty within its limits, and a pending swap of the inner bank takes effect
    (st.running = true →
      Becomes (exec (.innerTick n) s) s n (fun k =>
        k.loop.tick = l.tick + 1 ∧ k.loop.r.status.state.running = true ∧ k.pwm.dutyPrev = c.pwm.r.duty
        ∧ (l.r.status.fb = false → l.r.ctrl.fbEn = false → c.pwm.r.dutyLim.dMin.toNat ≤ c.pwm.r.dutyLim.dMax.toNat →
            c.pwm.r.dutyLim.dMin.toNat ≤ k.pwm.r.duty.toNat ∧ k.pwm.r.duty.toNat ≤ c.pwm.r.dutyLim.dMax.toNat)
        ∧ (∀ sw, l.swap = some sw → sw.inner = true → sw.outer = false →
            k.loop.swap = none ∧ k.loop.r.status.actIn = (!l.r.status.actIn) ∧ k.loop.r.status.actOut = l.r.status.actOut
            ∧ k.cq = c.cq ++ [{ ref := sw.ref, status := 0 }])
        ∧ (l.swap = none → k.loop.r.status.actIn = l.r.status.actIn ∧ k.loop.r.status.actOut = l.r.status.actOut ∧ k.cq = c.cq)
        ∧ k = { c with
            loop := k.loop, met.st := k.met.st, cq := k.cq
            pwm := { c.pwm with dutyPrev := k.pwm.dutyPrev, r.duty := k.pwm.r.duty, dutyAt := k.pwm.dutyAt } }))
    ∧ (st.running = false → l.swap = none → Becomes (exec (.innerTick n) s) s n (fun k => k = c))
    -- an outer sample takes the grant record in force and keeps the reference within the limits
    ∧ (l.sampleDue = true →
      Becomes (exec (.outerSample n) s) s n (fun k =>
        k.loop.outDone = l.tick
        ∧ (c.grant.ackPend = true → k.grant.ackPend = false ∧ k.grant.apImp = c.grant.r.imp ∧ k.grant.apExp = c.grant.r.exp
            ∧ k.grant.ackEpoch = c.grant.r.epoch)
        ∧ (l.ccMode = true → 0 ≤ k.loop.lp → 0 ≤ k.loop.lm → -k.loop.lm ≤ k.loop.iRef ∧ k.loop.iRef ≤ k.loop.lp)
        ∧ k = { c with loop := k.loop, pwm := k.pwm, grant := k.grant }))
    ∧ (l.sampleDue = false → Becomes (exec (.outerSample n) s) s n (fun k => k = c))
    -- a loop that does not compute applies a new record at once
    ∧ (st.running = false → c.grant.r.state.state ≠ .hold →
      Becomes (exec (.limitApplyIdle n) s) s n (fun k =>
        k.loop.lp = (leastLim (·.1) c.limits).2 ∧ k.loop.lm = (leastLim (·.2) c.limits).2
        ∧ (c.grant.ackPend = true → k.grant.ackPend = false ∧ k.grant.apImp = c.grant.r.imp ∧ k.grant.apExp = c.grant.r.exp)
        ∧ k = { c with loop := { l with lp := k.loop.lp, lm := k.loop.lm, r.ilimView := k.loop.r.ilimView }, grant := k.grant }))
    ∧ (st.running = true → Becomes (exec (.limitApplyIdle n) s) s n (fun k => k = c))
    -- ON_DLY ends in CV or CC with the modulator in RUN, or refuses the start
    ∧ (st = .ondly → l.tState + msNs l.r.delay.onDly.toNat ≤ s.now → c.pwm.r.status.state = .ready →
        c.shk.r.status.permit = true → c.pwm.noTrip = true → c.clk.inWindow = true → c.eyLink = true →
        Becomes (exec (.onDelayExpiry n) s) s n (fun k =>
          k.loop.r.status.state = (if l.tgtCC then .cc else .cv) ∧ k.pwm.r.status.state = .run
          ∧ (l.tgtCC = true → k.loop.iRef = c.iOut) ∧ (l.tgtCC = false → k.loop.vRef = c.vOut)
          ∧ k = { c with loop := k.loop, pwm := k.pwm }))
    ∧ (st = .ondly → l.tState + msNs l.r.delay.onDly.toNat ≤ s.now → c.shk.r.status.permit = false →
        Becomes (exec (.onDelayExpiry n) s) s n (fun k =>
          k.loop.r.status.state = .idle ∧ k.loop.r.status.startRef = true ∧ k = { c with loop := k.loop, pwm := c.pwm.stop }))
    ∧ (st ≠ .ondly → Becomes (exec (.onDelayExpiry n) s) s n (fun k => k = c))
    -- OFF_DLY ends in IDLE, STOP_TMO in OFFDLY
    ∧ (st = .offdly → l.tState + msNs l.r.delay.offDly.toNat ≤ s.now →
        Becomes (exec (.offDelayExpiry n) s) s n (fun k =>
          k.loop.r.status.state = .idle ∧ k.loop.secIn = Vector.replicate 8 {} ∧ k.loop.secOut = Vector.replicate 8 {}
          ∧ k = { c with loop := k.loop, pwm := c.pwm.stop }))
    ∧ (st ≠ .offdly → Becomes (exec (.offDelayExpiry n) s) s n (fun k => k = c))
    ∧ (st = .stopr → l.tState + msNs l.r.stopcfg.stopTmo.toNat ≤ s.now →
        Becomes (exec (.stopTimeout n) s) s n (fun k =>
          k.loop.r.status.state = .offdly ∧ k.loop.r.status.stopTmo = true ∧ k.loop.tState = s.now
          ∧ k = { c with loop := k.loop }))
    ∧ (st ≠ .stopr → Becomes (exec (.stopTimeout n) s) s n (fun k => k = c))

/-- BANK_WRITE, BANK_SEAL, BANK_SEAL_REG, BANK_SWAP, CDATA_ACCESS (R158, R159, R161, R175 to R177, R188, R189). -/
def Obligations.LoopBanks : Prop :=
  ∀ (s : State) (n : Nat) (d : Desc), n < 4 → s.takes n d = true →
    let c := (s.taken n d).ch n
    let l := c.loop
    let outer := d.bit 0 12
    let b := d.fld 0 8 2
    let only (k : Chan) : Prop := k = { c with loop := k.loop }
    -- words are written from POS on and the bank loses its OK bit; the bank in use is refused
    (d.opcode = 0x0201 →
      d.onlyBits [0xF133F, 0xFFFFFFFF, 0xFFFFFFFF, 0xFFFFFFFF, 0xFFFFFFFF, 0xFFFFFFFF, 0xFFFFFFFF] = true →
      let m := d.fld 0 16 4
      let pos := d.fld 0 0 6
      1 ≤ m → m ≤ 6 → pos + m ≤ 41 → b < 3 →
        (l.isActive outer b = false → (b = 2 → l.r.status.state = .idle) →
          Executes (exec (.bankWrite d) s) s n d 0 (fun k =>
            (∀ j, j < 41 → vget (k.loop.bank outer b).words j 0
              = if pos ≤ j ∧ j < pos + m then d.pay (1 + (j - pos)) else vget (l.bank outer b).words j 0)
            ∧ k.loop.bankOk outer b = false ∧ only k))
        ∧ (l.isActive outer b = true → Executes (exec (.bankWrite d) s) s n d 0x40 (fun k => k = c)))
    -- a seal sets the OK bit where the bank passes its check, and only there
    ∧ (d.opcode = 0x0202 → d.onlyBits [0x1300, 0xFFFFFFFF] = true → b < 3 → l.isActive outer b = false →
        (b = 2 → l.r.status.state = .idle) →
        (word0Ok (l.bank outer b).words = true → bankCrc (l.bank outer b).words = d.pay 1 →
          Executes (exec (.bankSeal d) s) s n d 0 (fun k =>
            k.loop.bankOk outer b = true ∧ (k.loop.bank outer b).stCrc = d.pay 1
            ∧ (k.loop.bank outer b).words = (l.bank outer b).words ∧ only k))
        ∧ (word0Ok (l.bank outer b).words = true → bankCrc (l.bank outer b).words ≠ d.pay 1 →
          Executes (exec (.bankSeal d) s) s n d 0x43 (fun k => k = { c with loop.r.bankStatus.sealFail := true })))
    ∧ (∀ w : Word, s.hostOpen n = true →
        let l := (s.ch n).loop
        let o := w.getLsbD 4
        let i := (w.extractLsb' 0 2).toNat
        (w.getLsbD 8 = true → i < 3 → l.isActive o i = false → (i = 2 → l.r.status.state = .idle) →
          word0Ok (l.bank o i).words = true → bankCrc (l.bank o i).words = l.r.bankCrc →
          Becomes (exec (.bankSealReg n w) s) s n (fun k =>
            k.loop.bankOk o i = true ∧ (k.loop.bank o i).words = (l.bank o i).words ∧ k = { s.ch n with loop := k.loop }))
        -- LOOP_CDATA: the word is written unless the bank is refused; every access moves on to the next word
        ∧ (let x := l.r.csel
           x.bank.toNat < 3 → x.word.toNat < 41 → l.isActive x.loop x.bank.toNat = false →
            (x.bank.toNat = 2 → l.r.status.state = .idle) →
            Becomes (exec (.cdataAccess n (some w)) s) s n (fun k =>
              vget (k.loop.bank x.loop x.bank.toNat).words x.word.toNat 0 = w
              ∧ k.loop.bankOk x.loop x.bank.toNat = false
              ∧ k.loop.r.csel = { x with word := if 40 ≤ x.word.toNat then 0 else x.word + 1 }
              ∧ k = { s.ch n with loop := k.loop })))
    ∧ (s.hostOpen n = true →
        let v := s.regView n
        let x := (v.ch n).loop.r.csel
        let u := v.withCh n { v.ch n with
          loop := { (v.ch n).loop with r.csel.word := if 40 ≤ x.word.toNat then 0 else x.word + 1 } }
        Leaves (exec (.cdataAccess n none) s)
          { u with out := u.out ++ [.readData (u.nid.getD 0) (0x8248 + 0x4000 * n) (v.ch n).loop.cdata] })
    -- a swap of banks that are sealed is accepted and waits for its boundary; of banks that are not, it is refused
    ∧ (d.opcode = 0x0203 → d.onlyBits [0x13] = true → l.swap = none →
        let next (o : Bool) : Nat := 1 - b2n (if o then l.r.status.actOut else l.r.status.actIn)
        let good (o : Bool) : Prop := l.bankOk o (next o) = true ∧ bankGood (l.bank o (next o)) = true
        ((d.bit 0 0 = true ∨ d.bit 0 1 = true) → (d.bit 0 0 = true → good false) → (d.bit 0 1 = true → good true) →
          Leaves (exec (.bankSwap d) s) ((s.taken n d).withCh n { c with
            loop := { l with
              swap := some { inner := d.bit 0 0, outer := d.bit 0 1, reset := d.bit 0 4, ref := d.ref true }
              r.status.swapPend := true } }))
        ∧ (d.bit 0 0 = true → l.bankOk false (next false) = false →
            Executes (exec (.bankSwap d) s) s n d 0x44 (fun k => k = c)))

/-- LOOP_START, LOOP_STOP, LOOP_CLEAR, SETPOINT, LIMITS, FB_RETURN (R155, R156, R168, R171, R175 to R177). -/
def Obligations.LoopDescriptors : Prop :=
  ∀ (s : State) (n : Nat) (d : Desc), n < 4 → s.takes n d = true →
    let c := (s.taken n d).ch n
    let l := c.loop
    let st := l.r.status.state
    let only (k : Chan) : Prop := k = { c with loop := k.loop }
    (d.opcode = 0x0204 → d.onlyBits [0x1, 0xFFFFFFFF] = true →
      (l.r.ctrl.spSrc = true → c.startOk (d.bit 0 0) = true →
        Executes (exec (.loopStart d) s) s n d 0 (fun k =>
          k.loop.r.status.state = .ondly ∧ k.loop.tState = s.now ∧ k.loop.tgtCC = d.bit 0 0
          ∧ k.loop.iTgt = (((d.pay 1).extractLsb' 16 16).toInt : Rat) / 10
          ∧ k.loop.vTgt = (((d.pay 1).extractLsb' 0 16).toNat : Rat) / 10 ∧ only k))
      ∧ (l.r.ctrl.spSrc = true → c.startOk (d.bit 0 0) = false →
        Executes (exec (.loopStart d) s) s n d 0x48 (fun k => k = { c with loop.r.status.startRef := true }))
      ∧ (l.r.ctrl.spSrc = false → Executes (exec (.loopStart d) s) s n d 0x47 (fun k => k = c)))
    ∧ (d.opcode = 0x0205 → d.onlyBits [] = true →
      (st = .ondly → Executes (exec (.loopStop d) s) s n d 0 (fun k =>
        k.loop.r.status.state = .idle ∧ k = { c with loop := k.loop, pwm := c.pwm.stop }))
      ∧ (st = .cv ∨ st = .cc → Executes (exec (.loopStop d) s) s n d 0 (fun k => k = { c with loop.stopReq := true }))
      ∧ (st = .idle ∨ st = .stopr ∨ st = .offdly ∨ st = .fault →
        Executes (exec (.loopStop d) s) s n d 0 (fun k => k = c)))
    ∧ (d.opcode = 0x0208 →
      -- FAULT is left once no trip is left; the shutdown once the temperature is low; neither while its condition persists
      (d.onlyBits [1] = true → d.bit 0 0 = true → st = .fault →
        (c.pwm.noTrip = true → Executes (exec (.loopClear d) s) s n d 0 (fun k =>
          k.loop.r.status.state = .idle ∧ k = { c with loop := k.loop, pwm := c.pwm.stop }))
        ∧ (c.pwm.noTrip = false → Executes (exec (.loopClear d) s) s n d 0x4A (fun k => k = c)))
      ∧ (d.onlyBits [2] = true → d.bit 0 1 = true → l.r.status.otSd = true → (s.hub.pm.die n).tjSd = false →
        ∀ t : Int, l.tMax = some t →
          (t < l.r.otCfg1.tSd.toInt - l.r.otCfg3.sdHyst.toNat → Executes (exec (.loopClear d) s) s n d 0 (fun k =>
            k = { c with loop.r.status.otSd := false }))
          ∧ (l.r.otCfg1.tSd.toInt - l.r.otCfg3.sdHyst.toNat ≤ t → Executes (exec (.loopClear d) s) s n d 0x4A (fun k => k = c)))
      ∧ (d.onlyBits [4] = true → d.bit 0 2 = true → l.r.status.fb = false →
        Executes (exec (.loopClear d) s) s n d 0 (fun k => k = { c with loop.r.status.fbLatch := false })))
    ∧ (d.opcode = 0x0206 → d.onlyBits [0x3, 0xFFFFFFFF] = true → l.r.ctrl.spSrc = true →
      (st.running = true → Executes (exec (.setpoint d) s) s n d 0 (fun k =>
        k.loop.iTgt = (if d.bit 0 1 then d.iTgt else l.iTgt) ∧ k.loop.vTgt = (if d.bit 0 0 then d.vTgt else l.vTgt)
        ∧ k.loop.iRef = l.iRef ∧ k.loop.vRef = l.vRef ∧ k.loop.r.status = l.r.status ∧ only k))
      ∧ (st.running = false → Executes (exec (.setpoint d) s) s n d 0x49 (fun k => k = c)))
    ∧ (d.opcode = 0x0207 →
      let ie := d.fld 0 16 16
      let ii := d.fld 0 0 16
      let vx := d.fld 1 16 16
      let vn := d.fld 1 0 16
      d.onlyBits [0xFFFFFFFF, 0xFFFFFFFF] = true →
      (ie ≤ 30000 → ii ≤ 30000 → vx ≤ 12800 → vn < vx → Executes (exec (.limits d) s) s n d 0 (fun k =>
        k.loop.r.ilimHost.ilimExp.toNat = ie ∧ k.loop.r.ilimHost.ilimImp.toNat = ii ∧ k.loop.r.vrefLim.vrefMax.toNat = vx
        ∧ k.loop.r.vrefLim.vrefMin.toNat = vn
        ∧ k = { c with loop := { l with r := { l.r with ilimHost := k.loop.r.ilimHost, vrefLim := k.loop.r.vrefLim } } }))
      ∧ (30000 < ie ∨ 30000 < ii ∨ 12800 < vx ∨ vx ≤ vn → Executes (exec (.limits d) s) s n d 0x42 (fun k => k = c)))
    ∧ (d.opcode = 0x0209 → d.onlyBits [] = true →
      (l.r.status.fb = true → (∃ t, l.passSince = some t ∧ t + sNs 1 ≤ s.now) →
        Executes (exec (.fbReturn d) s) s n d 0 (fun k => k = { c with loop.fbRet := true }))
      ∧ (l.r.status.fb = true → l.passSince = none → Executes (exec (.fbReturn d) s) s n d 0x4C (fun k => k = c))
      ∧ (l.r.status.fb = false → Executes (exec (.fbReturn d) s) s n d 0x4B (fun k => k = c)))

/-- BANK_CHECK, FALLBACK_TIMEOUT, NTC_CONVERSION, AUX_LOOP_MARK (R163, R168 to R173).
Choices of the model it rests on: log entries 1, 8. -/
def Obligations.LoopSupervision : Prop :=
  ∀ (s : State) (n : Nat), s.soleUp n 1 = true →
    let c := s.ch n
    let l := c.loop
    let watched (o : Bool) (i : Nat) : Prop := l.bankOk o i = true ∧ (i = 2 ∨ l.isActive o i = true)
    -- a bank in use that differs from its stored check value loses its OK bit, and the event is kept
    (∀ (o : Bool) (i : Nat), i < 3 → watched o i → bankGood (l.bank o i) = false →
      Becomes (exec (.bankCheck n []) s) s n (fun k => k.loop.bankOk o i = false ∧ k.loop.r.status.bankErr = true))
    ∧ ((∀ (o : Bool) (i : Nat), i < 3 → watched o i → bankGood (l.bank o i) = true) →
      Becomes (exec (.bankCheck n []) s) s n (fun k => k = c))
    -- fallback that lasts FB_TMAX is latched and, in CC, brought to a stop
    ∧ (l.r.status.fb = true → l.tFb + sNs l.r.fbCfg.fbTmax.toNat ≤ s.now → l.r.status.fbLatch = false →
      Becomes (exec (.fallbackTimeout n) s) s n (fun k =>
        k.loop.r.status.fbLatch = true ∧ k.loop.r.status.state = (if l.r.status.state = .cc then .stopr else l.r.status.state)
        ∧ k.loop.r.status.fb = true ∧ k = { c with loop := k.loop }))
    ∧ (l.r.status.fb = false → Becomes (exec (.fallbackTimeout n) s) s n (fun k => k = c))
    -- each resistance gives its temperature, or names its sensor faulty; at T_SD the shutdown is latched
    ∧ (∀ rs : List Nat, Becomes (exec (.ntcConversion n rs) s) s n (fun k =>
        (∀ i, i < 8 →
          (∀ t, ntcTemp l.r.ntcCfg.ntcB.toNat l.r.ntcCfg.ntcRnom.toNat (rs.getD i 0) = some (some t) →
            vget k.loop.ntc i none = some t ∧ mbit k.loop.r.otStatus.ntcFlt i = false)
          ∧ (ntcTemp l.r.ntcCfg.ntcB.toNat l.r.ntcCfg.ntcRnom.toNat (rs.getD i 0) = none →
            vget k.loop.ntc i none = none ∧ mbit k.loop.r.otStatus.ntcFlt i = true))
        ∧ (∀ t, k.loop.tMax = some t → l.r.otCfg1.tSd.toInt ≤ t → k.loop.r.status.otSd = true)
        ∧ (l.r.status.otSd = true → k.loop.r.status.otSd = true)
        ∧ k = { c with loop := k.loop, pwm := k.pwm, fc := k.fc }))
    -- the auxiliary loops compute while the cooling works, and count what they computed
    ∧ (c.cool.working = true → Becomes (exec (.auxLoopMark n) s) s n (fun k =>
        k.loop.r.auxStatus.runs = l.r.auxStatus.runs + (if c.cool.tIn = none then 1 else 2)
        ∧ (c.cool.tIn = none → k.cool.r.drive.fan = 100)
        ∧ k = { c with loop := { l with aux := k.loop.aux, r.auxStatus.runs := k.loop.r.auxStatus.runs },
                       cool.r.drive := k.cool.r.drive }))
    ∧ (c.cool.working = false → Becomes (exec (.auxLoopMark n) s) s n (fun k => k = c))
/-! ### Metrology -/

/-- STREAM_FAULT, STREAM_FAULT_END, FAST_OUTPUT, METROLOGY_SAMPLE, AC_WINDOW_END, MS_RESULTS, EFF_WINDOW_END, EMAP_STORE (R246,
R249, R250, R252, R256 to R258, R262 to R266, R277 to R280).
Choices of the model it rests on: log entry 20. -/
def Obligations.MetrologyStreams : Prop :=
  ∀ (s : State) (n : Nat), s.legalUp n 1 = true →
    let c := s.ch n
    let m := c.met
    let only (k : Chan) : Prop := k = { c with met := k.met }
    (∀ i : Nat, i < 12 → m.running i = true →
      Becomes (exec (.streamFault n i) s) s n (fun k =>
        (k.met.stream i).flt = true ∧ mbit k.met.r.streamFlt.flt i = true ∧ mbit k.met.r.status.streamOk i = false
        ∧ k.met.valid i = false ∧ (∀ j, j ≠ i → k.met.stream j = m.stream j) ∧ only k))
    ∧ (∀ i : Nat, i < 12 → m.running i = true → (m.stream i).flt = true →
      Becomes (exec (.streamFaultEnd n i) s) s n (fun k =>
        (k.met.stream i).flt = false ∧ (k.met.stream i).setF = 3 ∧ (k.met.stream i).setM = 40 ∧ k.met.valid i = false
        ∧ mbit k.met.r.streamFlt.flt i = mbit m.r.streamFlt.flt i ∧ only k))
    -- the fast path delivers a calibrated value of a stream that runs, and none of one that settles
    ∧ (∀ raws : List Int,
      Becomes (exec (.fastOutput n raws) s) s n (fun k =>
        (∀ i, i < 12 → m.running i = true → (m.stream i).flt = false → (m.stream i).setF = 0 →
          (k.met.stream i).fast = calVal (m.stream i).cal (raws.getD i 0) (2 ^ 15) ∧ (k.met.stream i).fresh = true)
        ∧ (∀ i, i < 12 → m.running i = true → (m.stream i).flt = false → 0 < (m.stream i).setF →
          (k.met.stream i).fast = (m.stream i).fast ∧ (k.met.stream i).setF + 1 = (m.stream i).setF)
        ∧ k = { c with met := k.met, pwm.iFilt := k.pwm.iFilt }))
    -- a metrology sample: billed power over the time since the last one goes to the accumulator of its direction; whole mWh
    -- go to the legal register; where a legal stream is not valid nothing is billed
    ∧ (∀ raws : List Int,
      let dt := s.env.site - m.tn.getD s.env.site
      let lv := legalVal m.r.lcalVgain m.r.lcalVofs (raws.getD 11 0)
      let li := legalVal m.r.lcalIgain m.r.lcalIofs (raws.getD 8 0)
      let p := billed lv li m.r.rmcs.rMcs.toNat
      let ok := m.valid 8 && m.valid 11
      Becomes (exec (.metrologySample n raws) s) s n (fun k =>
        k.met.tn = some s.env.site ∧ k.met.lv = lv ∧ k.met.li = li ∧ k.met.pBill = p
        ∧ (c.core.meterRole = false → ok = true → m.r.rmcs.iSt.toNat * 10 ≤ li.natAbs →
            (0 < p → k.met.eImp = m.eImp + BitVec.ofNat 64 ((m.accI + p.toNat * dt) / mWh)
              ∧ k.met.accI = (m.accI + p.toNat * dt) % mWh ∧ k.met.eExp = m.eExp ∧ k.met.accE = m.accE)
            ∧ (p < 0 → k.met.eExp = m.eExp + BitVec.ofNat 64 ((m.accE + p.natAbs * dt) / mWh)
              ∧ k.met.accE = (m.accE + p.natAbs * dt) % mWh ∧ k.met.eImp = m.eImp ∧ k.met.accI = m.accI))
        ∧ (c.core.meterRole = true ∨ ok = false ∨ li.natAbs < m.r.rmcs.iSt.toNat * 10 ∨ p = 0 →
            k.met.eImp = m.eImp ∧ k.met.eExp = m.eExp ∧ k.met.accI = m.accI ∧ k.met.accE = m.accE)
        ∧ k.met.r.status.legalGap = (!c.core.meterRole && !ok)
        ∧ k.met.r.eImpW = #v[DWord.lo k.met.eImp, DWord.hi k.met.eImp] ∧ only k))
    -- the results of an AC window and of a millisecond carry whether all their samples were valid
    ∧ Becomes (exec (.acWindowEnd n) s) s n (fun k =>
        k.met.acSeq = m.acSeq + 1 ∧ k.met.ac = [] ∧ k.met.acBad = false
        ∧ (∀ i, i < 30 → (m.acBad = true ∨ m.ac = []) → (vget k.met.acRes i {}).ok = false)
        ∧ k = { c with met := k.met, jq := k.jq })
    ∧ Becomes (exec (.msResults n) s) s n (fun k =>
        k.met.msSeq = m.msSeq + 1 ∧ k.met.msN = 0
        ∧ (∀ j, j < 9 → (vget k.met.msRes j {}).ok = (decide (0 < m.msN) && decide ((vget m.ms j {}).n = m.msN)))
        ∧ k.met.r.gap = (if m.gapMs then satInc m.r.gap else m.r.gap) ∧ k.met.gapMs = false
        ∧ k = { c with met := k.met, ledg := k.ledg, pwm := k.pwm })
    -- an efficiency window that is not fit for the map leaves it as it was
    ∧ Becomes (exec (.effWindowEnd n) s) s n (fun k =>
        (m.effBad = true ∨ m.r.emapCfg.en = false ∨ c.core.meterRole = true → k.met.emap = m.emap)
        ∧ k.met.effN = 0 ∧ k.met.effCab = 0 ∧ k.met.effPin = 0 ∧ k.met.effBad = false ∧ only k)
    ∧ Becomes (exec (.emapStore n) s) s n (fun k => k = { c with met.emapNv := m.emap })

/-- CAL_APPLY, IVL_SNAPSHOT_READ, IVL_RESET, Q_SELECT, EMAP_SELECT (R254, R255, R271, R272, R294, R296). -/
def Obligations.MetrologyRegisters : Prop :=
  ∀ (s : State) (n : Nat), n < 4 → s.hostOpen n = true →
    let c := s.ch n
    let m := c.met
    let i := m.r.calSel.toNat
    let only (k : Chan) : Prop := k = { c with met := k.met }
    (∀ w : Word,
      -- a staged calibration comes into force, but for the skew and phase of a legal stream of a sealed partition
      (i < 12 → w.getLsbD 0 = true →
        Becomes (exec (.calApply n w) s) s n (fun k =>
          (k.met.stream i).cal.gain = (m.stream i).stage.gain ∧ (k.met.stream i).cal.ofs = (m.stream i).stage.ofs
          ∧ (k.met.stream i).cal.fs.fs = (m.stream i).stage.fs.fs
          ∧ (k.met.stream i).cal.fs.skew
            = (if c.ledg.r.status.sealed && (decide (i = 8) || decide (i = 11)) then (m.stream i).cal.fs.skew else (m.stream i).stage.fs.skew)
          ∧ (∀ j, j ≠ i → k.met.stream j = m.stream j) ∧ only k))
      ∧ (w.getLsbD 8 = true →
        Becomes (exec (.ivlReset n w) s) s n (fun k => k.met.ivlRst = true ∧ k.met.ivl = m.ivl ∧ k.met.snap = m.snap ∧ only k))
      ∧ Becomes (exec (.qSelect n w) s) s n (fun k =>
          let q := (w.extractLsb' 0 6).toNat
          (q < 0x1E → k.met.r.qData0 = (vget m.acRes q {}).val ∧ k.met.r.qData1.valid = (vget m.acRes q {}).ok
            ∧ k.met.r.qData1.seq = m.acSeq)
          ∧ (0x20 ≤ q → q ≤ 0x28 → k.met.r.qData0 = (vget m.msRes (q - 0x20) {}).val ∧ k.met.r.qData1.seq = m.msSeq) ∧ only k)
      ∧ Becomes (exec (.emapSelect n w) s) s n (fun k =>
          let b : EBin := vget (vget m.emap (w.extractLsb' 8 2).toNat (Vector.replicate 32 {})) (w.extractLsb' 0 5).toNat {}
          k.met.r.emapData.eta = b.eta ∧ k.met.r.emapData.count = b.cnt ∧ k.met.r.emapData.valid = decide (8 ≤ b.cnt.toNat)
          ∧ k.met.emap = m.emap ∧ only k))
    -- a read of MET_IVL_DCI takes a snapshot of the four counters and answers the first of them
    ∧ (let v := s.regView n
       let r := (v.ch n).met.ivlRead
       let u := v.withCh n { v.ch n with met := r.2 }
       r.1 = (vget (v.ch n).met.ivl 0 {}).wh
       ∧ (∀ x, r.2.snap = some x → x.wh = (v.ch n).met.ivl.toList.map (fun (y : IvlCnt) => y.wh)) ∧ r.2.snap.isSome = true
       ∧ Leaves (exec (.ivlSnapshotRead n) s) { u with out := u.out ++ [.readData (u.nid.getD 0) (0x8460 + 0x4000 * n) r.1] })

/-- CAP_ARM, CAP_TRIGGER, CAP_TRIGGER_EVENT, CAP_POST_END, CAP_READ, EMAP_CLEAR (R280 to R283, R286 to R288, R533).
Choices of the model it rests on: log entry 16. -/
def Obligations.MetrologyCapture : Prop :=
  ∀ (s : State) (n : Nat) (d : Desc), n < 4 → s.takes n d = true →
    let c := (s.taken n d).ch n
    let m := c.met
    let st := m.r.capStatus.state
    let only (k : Chan) : Prop := k = { c with met := k.met }
    (d.opcode = 0x0401 → d.onlyBits [] = true →
      (st ≠ .armed → st ≠ .post → Executes (exec (.capArm d) s) s n d 0 (fun k =>
        k.met.r.capStatus = { state := .armed, cause := 0, miss := 0 } ∧ k.met.capCfg = m.r.capCfg ∧ k.met.capThr = m.r.capThr
        ∧ k.met.capBuf = [] ∧ only k))
      ∧ (st = .armed ∨ st = .post → Executes (exec (.capArm d) s) s n d 0x60 (fun k => k = c)))
    ∧ (d.opcode = 0x0402 → d.onlyBits [] = true →
      (st = .armed → mbit m.capCfg.trig 4 = true → Executes (exec (.capTrigger d) s) s n d 0 (fun k =>
        k.met.r.capStatus.state = .post ∧ k.met.r.capStatus.cause = 4 ∧ k.met.capPre = m.capBuf.length
        ∧ k.met.capT = s.env.site ∧ only k))
      ∧ (st = .armed → mbit m.capCfg.trig 4 = false → Executes (exec (.capTrigger d) s) s n d 0x62 (fun k => k = c))
      ∧ (st ≠ .armed → Executes (exec (.capTrigger d) s) s n d 0x60 (fun k => k = c)))
    -- a record is read only when it is whole; its words go out through the port bound
    ∧ (d.opcode = 0x0403 → d.onlyBits [0x7, 0xFFFFFFFF, 0xFFFFFFFF] = true →
      let x := m.capRecord ((s.gcid n).getD 0)
      let off := (d.pay 1).toNat
      let len := (d.pay 2).toNat
      (st ≠ .done → Rejects (exec (.capRead d) s) s n d 0x60)
      ∧ (st = .done → (len < 1 ∨ 2 ^ 20 < len ∨ x.length < off + len) → Rejects (exec (.capRead d) s) s n d 0x61)
      ∧ (st = .done → 1 ≤ len → len ≤ 2 ^ 20 → off + len ≤ x.length → s.xferOf (d.fld 0 0 3) = none →
          let t : Xfer := { die := n, d := d, ref := s.refOf n d, port := d.fld 0 0 3, isOut := true
                            words := (x.drop off).take len, need := len }
          Leaves (exec (.capRead d) s) (({ s with xfers := s.xfers ++ [t] } : State).portBlock t)))
    ∧ (d.opcode = 0x0404 → d.onlyBits [0xF] = true →
      (c.core.meterRole = false → Executes (exec (.emapClear d) s) s n d 0 (fun k =>
        (∀ b, b < 4 → vget k.met.emap b (Vector.replicate 32 {})
          = if d.bit 0 b then Vector.replicate 32 {} else vget m.emap b (Vector.replicate 32 {})) ∧ only k))
      ∧ (c.core.meterRole = true → Executes (exec (.emapClear d) s) s n d 0x64 (fun k => k = c)))
    ∧ (s.legalUp n 1 = true →
      let m := (s.ch n).met
      (∀ b : Nat, b < 5 → mbit m.capCfg.trig b = true → m.r.capStatus.state = .armed →
        Becomes (exec (.capTriggerEvent n b) s) s n (fun k =>
          k.met.r.capStatus.state = .post ∧ k.met.r.capStatus.cause.toNat = b ∧ k.met.capT = s.env.site
          ∧ k = { s.ch n with met := k.met }))
      ∧ (∀ b : Nat, b < 5 → mbit m.capCfg.trig b = false →
        Becomes (exec (.capTriggerEvent n b) s) s n (fun k => k = s.ch n))
      ∧ (m.r.capStatus.state = .post → m.capT + capPostNs m.capCfg ≤ s.env.site →
        Becomes (exec (.capPostEnd n) s) s n (fun k => k = { s.ch n with met.r.capStatus.state := .done })))
/-! ### Site power sharing -/

/-- GRANT_RECORD, GRANT_HOLD_TIMEOUT, GRANT_FLOOR_TIMEOUT, MERGE_TIMEOUT, PIN_CHECK, CONTEXT_RECORD_SEND, CURVE_RECORD_SEND
(R197, R199, R225 to R231).
Choices of the model it rests on: log entries 8, 19. -/
def Obligations.GrantsAtAChannel : Prop :=
  ∀ (s : State) (n me : Nat), s.soleUp n 1 = true → s.nid = some me →
    let c := s.ch n
    let g := c.grant
    -- a valid record is in force at once and awaits its acknowledgement; another has no effect
    (∀ (h : Vector Word 3) (r : Vector Word 4),
      let m := GrantMsg.ofWords (vget h 0 0) (vget h 1 0) (vget h 2 0) (vget r 0 0) (vget r 1 0) (vget r 2 0) (vget r 3 0)
      (c.core.meterRole = false → g.valid (4 * me + n) m = true →
        Becomes (exec (.grantRecord n h r) s) s n (fun k =>
          k.grant.r.state.state = .granted ∧ k.grant.r.epoch = m.epoch ∧ k.grant.r.state.gen = m.gen
          ∧ k.grant.r.state.coordNid = m.nid ∧ k.grant.tValid = s.now ∧ k.grant.ackPend = true
          ∧ ((g.hi = none ∨ ∃ x, g.hi = some x ∧ x.nid = m.nid.toNat ∧ laterBv x.gen m.gen = false ∧ g.lo = none) →
              k.grant.r.imp = m.imp ∧ k.grant.r.exp = m.exp ∧ k.grant.r.flr = m.floor ∧ k.grant.r.state.merge = false
              ∧ k.grant.plimE = ((m.exp.toNat * 100 : Nat) : Rat))
          ∧ k = { c with grant := k.grant, pwm := k.pwm }))
      ∧ (c.core.meterRole = true ∨ g.valid (4 * me + n) m = false →
        Becomes (exec (.grantRecord n h r) s) s n (fun k => k = c)))
    ∧ (g.r.state.state = .granted → 2 * g.tValid + 3 * g.eLen ≤ 2 * s.now →
      Becomes (exec (.grantHoldTimeout n) s) s n (fun k =>
        k = { c with grant.r.state := { g.r.state with state := .hold, holdSeen := true } }))
    ∧ (g.r.state.state ≠ .granted → Becomes (exec (.grantHoldTimeout n) s) s n (fun k => k = c))
    ∧ (g.r.state.state = .hold → g.tValid + g.holdNs ≤ s.now →
      Becomes (exec (.grantFloorTimeout n) s) s n (fun k =>
        k.grant.r.state.state = .floor ∧ k.grant.r.imp = g.r.flr ∧ k.grant.r.exp = 0 ∧ k.grant.plimE = 0
        ∧ k.grant.ackPend = true ∧ k = { c with grant := k.grant }))
    ∧ (g.r.state.state ≠ .hold → Becomes (exec (.grantFloorTimeout n) s) s n (fun k => k = c))
    ∧ (∀ x y : GrantRec, g.lo = some x → g.hi = some y → x.at_ + 2 * g.eLen ≤ s.now →
      Becomes (exec (.mergeTimeout n) s) s n (fun k =>
        k.grant.lo = none ∧ k.grant.r.imp = y.imp ∧ k.grant.r.exp = y.exp ∧ k.grant.r.state.merge = false
        ∧ k = { c with grant := k.grant, pwm := k.pwm }))
    ∧ (g.lo = none → Becomes (exec (.mergeTimeout n) s) s n (fun k => k = c))
    -- input power above the grant lowers the limit; it never raises it
    ∧ (c.core.meterRole = false → (g.r.imp.toNat : Int) < c.pIn →
      Becomes (exec (.pinCheck n) s) s n (fun k =>
        k.grant.etaRed.isSome = true ∧ k.grant.r.plim.toNat ≤ g.r.plim.toNat ∧ k.grant.okSince = none
        ∧ k = { c with grant := k.grant }))
    ∧ (c.pIn ≤ (g.r.imp.toNat : Int) → g.etaRed = none → Becomes (exec (.pinCheck n) s) s n (fun k => k = c))
    -- the records go to the engine that issued the newest grant
    ∧ (∀ x : GrantRec, g.hi = some x → (vget s.hub.st n {}).hubLost = false →
      (x.nid ≠ me → Leaves (exec (.contextRecordSend n) s) (s.originate .context (some x.nid) (c.ctxWords (4 * me + n))))
      ∧ (x.nid = me → Leaves (exec (.contextRecordSend n) s) (s.ctxIn (c.ctxWords (4 * me + n))))
      ∧ (c.core.meterRole = false → x.nid ≠ me →
          Leaves (exec (.curveRecordSend n) s) (s.originate .curve (some x.nid) (c.curveRecord (4 * me + n)))))
    ∧ ((vget s.hub.st n {}).hubLost = true → Leaves (exec (.contextRecordSend n) s) s ∧ Leaves (exec (.curveRecordSend n) s) s)

/-- CONTEXT_RECORD, CURVE_RECORD, EPOCH_BOUNDARY, GHOST_TIMEOUT, CURTAIL_EXPIRY, CONFIG_STORE, CONFIG_STORE_TIMEOUT, CTX_SELECT
(R197, R204, R205, R206, R219, R220, R222, R233, R235, R239).
Choices of the model it rests on: log entries 8, 19, 35. -/
def Obligations.LastEngineCommands : Prop :=
  ∀ (s : State), s.engUp = true →
    let e0 := s.hub.eng
    let l := e0.last
    -- records wait for the next snapshot of an active engine
    (e0.active = true →
      (∀ ws : Vector Word 8, EngBecomes (exec (.contextRecord ws) s) s (fun e =>
        e = { e0 with last.inbox := l.inbox ++ [.ctx (CtxRec.ofWords ws.toList).1 (CtxRec.ofWords ws.toList).2] }))
      ∧ (∀ ws : List Word, ws.length = 34 → EngBecomes (exec (.curveRecord ws) s) s (fun e =>
        e = { e0 with last.inbox := l.inbox ++ [.curve ((ws.getD 0 0).extractLsb' 24 8).toNat ws s.now] }))
      ∧ (∀ (g t : Nat), (l.ctx g).st = .ghost → (l.ctx g).tGhost = some t → t ≤ s.now →
        EngBecomes (exec (.ghostTimeout g) s) s (fun e =>
          e = { e0 with last := l.setCtx { l.ctx g with
                  st := .escrow, resv := (l.ctx g).floorLast, resvX := 0, tGhost := none } })))
    ∧ (e0.active = false → (∀ ws : Vector Word 8, EngBecomes (exec (.contextRecord ws) s) s (fun e => e = e0)))
    -- an epoch: the active engine issues one grant frame of its generation
    ∧ (e0.active = true → s.pwr.tPf = none → e0.pair.swap = none → l.eNew = none → e0.pair.r.status.planOn = true →
      EngBecomes (exec .epochBoundary s) s (fun e =>
        e.last.r.epoch = l.r.epoch + 1 ∧ e.last.r.gen = l.r.gen
        ∧ e.last.tNext = some (l.tNext.getD s.lctx.site + l.eLen) ∧ e.active = true ∧ e.last.inbox = []
        ∧ (∃ ws rest, e.tx = e0.tx ++ (FType.grant, none, ws) :: rest ∧ ws.getD 0 0 = l.r.epoch + 1)))
    ∧ (e0.role = .none ∨ e0.role = .demoted ∨ e0.role = .offline → s.pwr.tPf = none →
      EngBecomes (exec .epochBoundary s) s (fun e => e = e0))
    -- a curtailment ends at its time, and not before
    ∧ (∀ (k : Nat) (x : Curt), k < 9 → vget l.curt k none = some x →
      EngBecomes (exec (.curtailExpiry k) s) s (fun e =>
        vget e.last.curt k none = some (if x.tEnd.any (fun t => decide (t ≤ s.now)) then { x with tEnd := some s.now } else x)
        ∧ (∀ j, j ≠ k → vget e.last.curt j none = vget l.curt j none)
        ∧ e = { e0 with last := { l with curt := e.last.curt } }))
    -- a configuration of another engine is stored, and the engine learns of it
    ∧ (∀ (src : Nat) (ws : List Word), ws.length = 16 → (l.pend.any (fun (c : CfgPend) => decide (c.words = ws))) = false →
      Leaves (exec (.configStore src ws) s)
        (({ s.pmWake 4 8 with hub.eng := e0.cfgTake s.lctx ws } : State).originate .config (some src) ws))
    ∧ EngBecomes (exec .configStoreTimeout s) s (fun e =>
        (∀ x, x ∈ e.last.pend ↔ x ∈ l.pend ∧ s.now < x.t + msNs 100)
        ∧ (∀ x, x ∈ l.pend → x.t + msNs 100 ≤ s.now → ({ ref := x.ref, status := 0x56 } : Compl) ∈ e.cq)
        ∧ e = { e0 with last := { l with pend := e.last.pend }, cq := e.cq })
    ∧ (s.hostOpen 4 = true → ∀ w : Word,
      let g := (w.extractLsb' 0 8).toNat
      EngBecomes (exec (.ctxSelect w) s) s (fun e =>
        e.last.r.ctxSel = w.extractLsb' 0 8 ∧ e.last.r.ctxData0.state = BitVec.ofNat 3 (l.ctx g).st.code
        ∧ e.last.r.ctxData1 = BitVec.ofNat 24 (l.ctx g).gIss ∧ e.last.r.ctxData2 = BitVec.ofNat 24 (l.ctx g).gAck
        ∧ e = { e0 with last := { l with r := e.last.r } }))

/-- SITE_CAPS, FEEDER_CFG, CURTAIL, PLANNER_CFG, CHANNEL_CFG, PRIORITY, ESCROW_RELEASE (R233 to R235) at an active engine alone on
its ring: what an accepted configuration stores, and what is refused.
Choices of the model it rests on: log entry 19. -/
def Obligations.PlannerConfiguration : Prop :=
  ∀ (s : State) (die : Nat) (d : Desc), s.takes die d = true → s.hub.eng.active = true → s.hub.eng.overlap s.now = false →
    (∀ x, x ∈ s.lctx.nodes → some x = s.nid) →
    let e0 := s.hub.eng
    let l := e0.last
    let ws := d.w.toList
    let p24 (i : Nat) : BitVec 24 := (d.pay i).extractLsb' 0 24
    let ok := l.cfgCheck s.now d = none
    let stored (e : Eng) : Prop := e.store = e0.store ++ [ws] ∧ e.pair = e0.pair ∧ e.tx = e0.tx ∧ e.cq = e0.cq
    (die = 4 → d.opcode = 0x0301 →
      (ok → EngExecutes (exec (.siteCaps d) s) s die d 0 (fun e =>
        e.last.r.siteCap = p24 0 ∧ e.last.r.siteCapx = p24 1 ∧ e.last.ctxs = l.ctxs ∧ stored e))
      ∧ (d.onlyBits [0xFFFFFF, 0xFFFFFF, 0x1FF] = true → (l.cfgApply s.now false ws).sumsOk = false →
          Rejects (exec (.siteCaps d) s) s die d 0x51))
    ∧ (die = 4 → d.opcode = 0x0302 → ok → EngExecutes (exec (.feederCfg d) s) s die d 0 (fun e =>
        let k := d.fld 0 0 3
        vget e.last.r.fdrCap k {} = { en := d.bit 0 8, mtrEn := d.bit 4 8, imp := p24 1 } ∧ vget e.last.r.fdrCapx k 0 = p24 2
        ∧ (∀ j, j ≠ k → vget e.last.r.fdrCap j {} = vget l.r.fdrCap j {}) ∧ stored e))
    ∧ (die = 4 → d.opcode = 0x0303 → d.onlyBits [0x10F, 0xFFFFFF, 0xFFFFFFFF] = true →
      let k := d.fld 0 0 4
      (k ≤ 8 → EngExecutes (exec (.curtail d) s) s die d 0 (fun e =>
        vget e.last.curt k none = (if d.bit 0 8 then none else
          some { cap := (p24 1).toNat, tEnd := if (d.pay 2).toNat = 0 then none else some (s.now + msNs (d.pay 2).toNat) })
        ∧ (∀ j, j ≠ k → vget e.last.curt j none = vget l.curt j none) ∧ stored e))
      ∧ (8 < k → Rejects (exec (.curtail d) s) s die d 0x50))
    ∧ (die = 4 → d.opcode = 0x0307 → d.onlyBits [0xBF7FFFFF] = true →
      let it := d.fld 0 24 6
      let ep := d.fld 0 16 7
      let ef := d.fld 0 0 16
      (1 ≤ it → it ≤ 32 → 5 ≤ ep → ep ≤ 100 → 32768 ≤ ef → EngExecutes (exec (.plannerCfg d) s) s die d 0 (fun e =>
        e.last.r.cfg.en = d.bit 0 31 ∧ e.last.r.cfg.iterMax.toNat = it ∧ e.last.r.cfg.epoch.toNat = ep
        ∧ e.last.r.cfg.effDef.toNat = ef ∧ (e.last.r.cfg.epoch ≠ l.r.cfg.epoch → e.last.eNew = some (ep * 10000, s.now)) ∧ stored e))
      ∧ (it < 1 ∨ 32 < it ∨ ep < 5 ∨ 100 < ep ∨ ef < 32768 → Rejects (exec (.plannerCfg d) s) s die d 0x50))
    ∧ (die < 4 → d.opcode = 0x0304 → ok →
      EngExecutes (exec (.channelCfg d) s) s die d 0 (fun e =>
        (d.bit 0 16 = true → (e.last.ctx d.target).cfg = {} ∧ e.last.inbox = l.inbox ++ [.unconf d.target])
        ∧ (d.bit 0 16 = false → d.bit 0 20 = false →
            (e.last.ctx d.target).cfg.conf = true ∧ (e.last.ctx d.target).cfg.floor = (p24 1).toNat
            ∧ (e.last.ctx d.target).cfg.pmax = (p24 3).toNat ∧ (e.last.ctx d.target).cfg.fdr.toNat = d.fld 0 0 3
            ∧ e.last.inbox = l.inbox ++ [.conf d.target])
        ∧ (∀ g, g ≠ d.target → e.last.ctx g = l.ctx g) ∧ stored e))
    ∧ (die < 4 → d.opcode = 0x0305 → d.onlyBits [7] = true →
      ((l.ctx d.target).st = .live → EngExecutes (exec (.priority d) s) s die d 0 (fun e => e.last = l ∧ stored e))
      ∧ ((l.ctx d.target).st ≠ .live → Rejects (exec (.priority d) s) s die d 0x53))
    ∧ (die < 4 → d.opcode = 0x0306 → ok → EngExecutes (exec (.escrowRelease d) s) s die d 0 (fun e =>
        e.last = { l with inbox := l.inbox ++ [.release (d.target / 4)] } ∧ stored e))

/-- R213 (derived): admission never lets the commitments under a cap rise above what the cap leaves beside the power reserved:
where they fit, they still fit; where they do not, they do not grow.
Choices of the model it rests on: log entry 33. -/
def Obligations.AdmissionKeepsEveryCap : Prop :=
  ∀ (eff resv : Vector Int 9) (cs : List ACh) (k : Nat), k < 9 →
    let sum (xs : List ACh) : Int :=
      ((xs.filter (fun (c : ACh) => decide (k = 8) || decide (c.fdr = k))).map (fun (c : ACh) => (c.comm : Int))).sum
    sum (admission eff resv cs) ≤ max (sum cs) (vget eff k 0 - vget resv k 0)
/-! ### The sealed partition and the ledger -/

/-- LEGAL_SEAL, LEGAL_UNSEAL, LEDGER_READ, LEDGER_ACK, LEGAL_CODE_LOAD (R302, R303, R305, R316, R317, R323 to R325, R533). -/
def Obligations.LedgerDescriptors : Prop :=
  ∀ (s : State) (n : Nat) (d : Desc), n < 4 → s.takes n d = true → d.ledgerBits = true →
    let t := s.taken n d
    let c := t.ch n
    let l := c.ledg
    let lc := c.key.r.lcStatus.state
    let known : Prop := d.pay 1 = l.r.lcodeVer ∨ ∃ im, l.staged = some im ∧ imgVersion im = d.pay 1
    -- a seal waits for its record; the conditions of its refusals in their order
    (d.opcode = 0x0405 → l.sealing = false →
      (l.r.status.sealed = true → Executes (exec (.legalSeal d) s) s n d 0x68 (fun k => k = c))
      ∧ (l.r.status.sealed = false → lc ≠ .verify → lc ≠ .service → Executes (exec (.legalSeal d) s) s n d 0x6A (fun k => k = c))
      ∧ (l.r.status.sealed = false → (lc = .verify ∨ lc = .service) → c.key.usable false 1 = false →
          Executes (exec (.legalSeal d) s) s n d 0x6E (fun k => k = c))
      ∧ (l.r.status.sealed = false → (lc = .verify ∨ lc = .service) → c.key.usable false 1 = true → known →
          c.paramCrc (d.pay 1) ≠ d.pay 0 → Executes (exec (.legalSeal d) s) s n d 0x69 (fun k => k = c))
      ∧ (l.r.status.sealed = false → (lc = .verify ∨ lc = .service) → c.key.usable false 1 = true → known →
          c.paramCrc (d.pay 1) = d.pay 0 → l.free ≠ 0 →
          Leaves (exec (.legalSeal d) s) (t.withCh n { c with ledg.pend := l.pend ++
            [{ c.recNow s.env 2 with sealTo := some true, ref := some (s.refOf n d), ver := d.pay 1 }] })))
    ∧ (d.opcode = 0x0406 → l.sealing = false →
      (l.r.status.sealed = false → Executes (exec (.legalUnseal d) s) s n d 0x68 (fun k => k = c))
      ∧ (l.r.status.sealed = true → lc ≠ .service → Executes (exec (.legalUnseal d) s) s n d 0x6A (fun k => k = c))
      ∧ (l.r.status.sealed = true → lc = .service → (l.opn.isSome = true ∨ c.loop.r.status.state ≠ .idle) →
          Executes (exec (.legalUnseal d) s) s n d 0x6B (fun k => k = c))
      ∧ (l.r.status.sealed = true → lc = .service → l.opn = none → c.loop.r.status.state = .idle → l.free ≠ 0 →
          Leaves (exec (.legalUnseal d) s) (t.withCh n { c with ledg.pend := l.pend ++
            [{ c.recNow s.env 3 with sealTo := some false, ref := some (s.refOf n d), evtCode := 2
                                     evtData := (d.pay 0).extractLsb' 0 24 }] })))
    -- records that are held go out through the port bound; those streamed whole can be acknowledged
    ∧ (d.opcode = 0x0407 →
      let first := (d.pay 1).toNat
      let m := d.fld 2 0 15
      (1 ≤ m → m ≤ 16384 → l.r.seqAck.toNat < first → first + m ≤ l.r.seqNext.toNat → s.xferOf (d.fld 0 0 3) = none →
        ∃ x : Xfer, x.die = n ∧ x.d = d ∧ x.port = d.fld 0 0 3 ∧ x.isOut = true
          ∧ x.words = (List.range m).flatMap (fun i => l.recordOf (first + i))
          ∧ Leaves (exec (.ledgerRead d) s) (({ s with xfers := s.xfers ++ [x] } : State).portBlock x))
      ∧ (m = 0 ∨ 16384 < m ∨ first ≤ l.r.seqAck.toNat ∨ l.r.seqNext.toNat < first + m →
        Rejects (exec (.ledgerRead d) s) s n d 0x6C))
    ∧ (d.opcode = 0x0408 →
      let a := l.r.seqAck.toNat
      let last := (d.pay 1).toNat
      (a < last → last < l.r.seqNext.toNat → (∀ i, a < i → i ≤ last → l.wasStreamed i = true) →
        Executes (exec (.ledgerAck d) s) s n d 0 (fun k =>
          k.ledg.r.seqAck = d.pay 1 ∧ k.ledg.r.seqNext = l.r.seqNext ∧ k.ledg.slots = l.slots ∧ k.ledg.r.free.free.toNat = k.ledg.free % 2 ^ 15
          ∧ k = { c with ledg := k.ledg, jq := k.jq }))
      ∧ (last ≤ a ∨ l.r.seqNext.toNat ≤ last ∨ (∃ i, a < i ∧ i ≤ last ∧ l.wasStreamed i = false) →
        Executes (exec (.ledgerAck d) s) s n d 0x6C (fun k => k = c)))
    ∧ (d.opcode = 0x0409 → l.sealing = false →
      let len := (d.pay 1).toNat
      (l.r.status.sealed = true → Rejects (exec (.legalCodeLoad d) s) s n d 0x68)
      ∧ (l.r.status.sealed = false → lc ≠ .blank → lc ≠ .retired → l.opn = none → c.loop.r.status.state = .idle →
          4 ≤ len → len ≤ 983040 → len % 4 = 0 → s.xferOf (d.fld 0 0 3) = none →
          Leaves (exec (.legalCodeLoad d) s) { t with xfers := s.xfers ++
            [{ die := n, d := d, ref := s.refOf n d, port := d.fld 0 0 3, isOut := false, words := [], need := len / 4 }] })
      ∧ (l.r.status.sealed = false → lc ≠ .blank → lc ≠ .retired → l.opn = none → c.loop.r.status.state = .idle →
          (len < 4 ∨ 983040 < len ∨ len % 4 ≠ 0) → Rejects (exec (.legalCodeLoad d) s) s n d 0x6D))

/-- RECORD_WRITE_DONE, RECORD_WRITE_RETRY, DRIFT_COMPARE, LEGAL_STORE (R303, R307, R312 to R315, R319, R320).
Choices of the model it rests on: log entry 36. -/
def Obligations.LedgerRecords : Prop :=
  ∀ (s : State) (n : Nat), s.legalUp n 2 = true →
    let c := s.ch n
    let l := c.ledg
    -- the oldest record takes the next slot of 64 words and the next sequence number, and carries its seal state
    let written (x : LRec) (rest : List LRec) (k : Chan) : Prop :=
      k.ledg.r.seqNext = l.r.seqNext + 1 ∧ k.ledg.pend = rest ∧ k.ledg.r.seqAck = l.r.seqAck
      ∧ (∃ ws, k.ledg.slots.lookup ((l.r.seqNext - 1).toNat % 16384) = some ws ∧ ws.length = 64 ∧ ws.getD 1 0 = l.r.seqNext)
      ∧ (∀ i, i ≠ (l.r.seqNext - 1).toNat % 16384 → k.ledg.slots.lookup i = l.slots.lookup i)
      ∧ k.ledg.r.status.sealed = x.sealTo.getD l.r.status.sealed
      ∧ (x.sealTo = some true → k.ledg.r.status.sealGen = l.r.status.sealGen + 1 ∧ k.ledg.r.status.legalWarn = false)
      ∧ k.cq = c.cq ++ (match x.ref with | some r => [{ ref := r, status := 0 }] | none => [])
      ∧ k = { c with ledg := k.ledg, key.r.lcArb := k.key.r.lcArb, cq := k.cq, jq := k.jq }
    (∀ (x : LRec) (rest : List LRec), l.pend = x :: rest → (x.typ ≠ 3 ∨ x.sealTo.isSome = true ∨ l.free ≠ 0) →
      Becomes (exec (.recordWriteDone n 0) s) s n (written x rest)
      ∧ (l.r.status.recErr = true → Becomes (exec (.recordWriteRetry n 0) s) s n (written x rest))
      ∧ (∀ bad, 3 < bad → Becomes (exec (.recordWriteDone n bad) s) s n (fun k => k = { c with ledg.r.status.recErr := true })))
    ∧ (∀ (x : LRec) (rest : List LRec) (bad : Nat), l.pend = x :: rest → x.typ = 3 → x.sealTo = none → l.free = 0 →
      Becomes (exec (.recordWriteDone n bad) s) s n (fun k =>
        k = { c with ledg := { l with pend := rest, r.free.lostEvt := satInc l.r.free.lostEvt } }))
    ∧ (l.r.status.recErr = false → ∀ bad, Becomes (exec (.recordWriteRetry n bad) s) s n (fun k => k = c))
    -- sixty comparisons in a row over 5 % set the warning and owe an event record
    ∧ (l.r.status.sealed = false → Becomes (exec (.driftCompare n) s) s n (fun k =>
        k.ledg.overRun = 0 ∧ k.ledg.r.status = l.r.status ∧ k.ledg.pend = l.pend))
    ∧ (∀ r : Int, l.r.status.sealed = true → c.cool.estimate = some r → l.r.status.legalWarn = false →
        let m : Int := c.met.r.rmcs.rMcs.toNat
        m < 20 * ((r - m).natAbs : Int) →
        Becomes (exec (.driftCompare n) s) s n (fun k =>
          (l.overRun = 59 → k.ledg.r.status.legalWarn = true ∧ ∃ x, k.ledg.pend = l.pend ++ [x] ∧ x.typ = 3 ∧ x.evtCode = 1)
          ∧ (l.overRun < 59 → k.ledg.overRun = l.overRun + 1 ∧ k.ledg.r.status.legalWarn = false ∧ k.ledg.pend = l.pend)
          ∧ k = { c with ledg := k.ledg }))
    ∧ Becomes (exec (.legalStore n) s) s n (fun k => k = { c with
        ledg.nv := { eImp := c.met.eImp, eExp := c.met.eExp, accI := c.met.accI, accE := c.met.accE } })
/-! ### The vehicle session -/

/-- CE_ID_SAMPLE, VEH_ENABLE, T1S_LINK_UP, SDP_REQ, SESSION_SETUP_REQ, AUTHORIZATION_REQ, AUTH_TIMEOUT, VEH_EVT_READ, CERT_CHECK,
UNSUPPORTED_REQUEST (R329, R332 to R340, R351).
Choices of the model it rests on: log entries 1, 8, 17. -/
def Obligations.SessionBegins : Prop :=
  ∀ (s : State) (n : Nat), s.soleUp n 1 = true →
    let c := s.ch n
    let v := c.veh
    let st := v.r.status.state
    let same (o : Host.Outcome State Fault Refusal) : Prop := Becomes o s n (fun k => k = c)
    -- a class is taken once it has been seen for the debounce time; a connector found present wakes the channel
    (∀ ce id : Nat, st ≠ .shutdown →
      let deb := msNs (max 1 (min 100 v.r.ceThr.deb.toNat))
      let tC := if v.ceClass ce = v.ceCand then v.tCe else s.now
      let tI := if v.idClass id = v.idCand then v.tId else s.now
      let k : Chan := { c with veh := { v with
        ceCand := v.ceClass ce, tCe := tC, idCand := v.idClass id, tId := tI
        r.status := { v.r.status with
          ce := if tC + deb ≤ s.now then v.ceClass ce else v.r.status.ce
          id := if tI + deb ≤ s.now then v.idClass id else v.r.status.id } } }
      let u := s.withCh n k
      Leaves (exec (.ceIdSample n ce id) s)
        (if v.r.status.id ≠ .present ∧ (u.ch n).veh.r.status.id = .present then u.pmWake n 1 else u))
    ∧ (∀ w : Word, s.hostOpen n = true →
      let r := v.r.ctrl.write w
      (r.en = true → st = .off → c.core.meterRole = false → Becomes (exec (.vehEnable n w) s) s n (fun k =>
        k = { c with veh := { v with r.ctrl := r, ceOn := true, tState := s.now, r.status.state := .unplugged } }))
      ∧ (r.en = false → (st = .unplugged ∨ st = .plugged ∨ st = .setup ∨ st = .auth ∨ st = .discovery ∨ st = .ended) →
          Becomes (exec (.vehEnable n w) s) s n (fun k =>
            k.veh.r.status.state = .off ∧ k.veh.ceOn = false ∧ k.veh.phy = false ∧ k.veh.r.status.tls = false
            ∧ k = { c with veh := k.veh }))
      ∧ (r.en = false → st.running = true → Becomes (exec (.vehEnable n w) s) s n (fun k => k = { c with veh.r.ctrl := r })))
    ∧ Becomes (exec (.t1sLinkUp n) s) s n (fun k => k = if v.phy then { c with veh.r.status.link := true } else c)
    ∧ (v.r.status.link = true → (st = .plugged ∨ st = .setup) → c.vKept = false →
      Becomes (exec (.sdpReq n) s) s n (fun k => k = { c with oq := c.oq ++ [.vehicle c.idx .sdp []] }))
    ∧ (v.r.status.link = false ∨ c.vKept = true → same (exec (.sdpReq n) s))
    ∧ (∀ ev : BitVec 48,
      (st = .setup → Becomes (exec (.sessionSetupReq n ev) s) s n (fun k =>
        k.veh.r.status.state = (if v.r.auth then .discovery else .auth) ∧ k.veh.r.status.tls = true
        ∧ k.veh.r.evccidLo = ev.extractLsb' 0 32 ∧ k.veh.r.evccidHi = ev.extractLsb' 32 16 ∧ k.veh.tReq = s.now
        ∧ k = { c with veh := k.veh, key.vol := true, jq := k.jq, oq := k.oq, fc := c.fc + 1 }))
      ∧ (st ≠ .setup → same (exec (.sessionSetupReq n ev) s)))
    -- authorisation is asked of the host once; a contract that does not verify ends the session
    ∧ (∀ (pnc ok : Bool) (em : Vector Word 4),
      (st = .auth → (pnc = true → ok = true ∧ s.env.siteValid = true) → Becomes (exec (.authorizationReq n pnc ok em) s) s n (fun k =>
        k.veh.r.status.state = .auth ∧ k.veh.authAsked = true ∧ k.veh.r.status.pnc = pnc
        ∧ (pnc = true → v.authAsked = false → k.veh.r.emaid = em) ∧ (v.authAsked = true → k.veh.evq = v.evq)
        ∧ (∃ xs, k.oq = c.oq ++ xs ++ [.vehicle c.idx .authOngoing []])
        ∧ k = { c with veh := k.veh, jq := k.jq, oq := k.oq }))
      ∧ (st = .auth → pnc = true → (ok = false ∨ s.env.siteValid = false) → v.causeSet = false →
          Becomes (exec (.authorizationReq n pnc ok em) s) s n (fun k =>
            k.veh.r.status.state = .shutdown ∧ k.veh.r.status.cause = 0x0D ∧ k.veh.authDone = true ∧ k.veh.ctOn = false))
      ∧ (st ≠ .auth → same (exec (.authorizationReq n pnc ok em) s)))
    ∧ (st = .auth → v.causeSet = false → v.tAuth + sNs (max 1 (min 55 v.r.tmo2.authTmo.toNat)) ≤ s.now →
      Becomes (exec (.authTimeout n) s) s n (fun k =>
        k.veh.r.status.state = .shutdown ∧ k.veh.r.status.cause = 0x0D ∧ k.veh.authDone = true))
    ∧ (st ≠ .auth → same (exec (.authTimeout n) s))
    -- the certificate flags follow the end of the leaf's validity; without site time they stay
    ∧ (s.env.siteValid = false → same (exec (.certCheck n) s))
    ∧ (∀ t : Int, s.env.siteValid = true → (v.cert 0 0).bind (fun x => certEnd ((bytesOfWords x.2).take x.1)) = some t →
      let left : Int := t - ((s.env.site / 1000000000 : Nat) : Int)
      Becomes (exec (.certCheck n) s) s n (fun k =>
        k.veh.r.flags.certExp = decide (left < 0) ∧ k.veh.r.flags.certWarn = (decide (left < 30 * 86400) && !decide (left < 0))
        ∧ k.veh.certs = v.certs ∧ k = { c with veh := k.veh, jq := k.jq, oq := k.oq }))
    ∧ Becomes (exec (.unsupportedRequest n) s) s n (fun k =>
        k = if v.r.status.tls then { c with oq := c.oq ++ [.vehicle c.idx .unsupported []] } else c)
    -- a read of VEH_EVT takes the oldest event, or answers 0
    ∧ (s.hostOpen n = true →
      let x := s.regView n
      let k := x.ch n
      let u := x.withCh n { k with veh := { k.veh with
        evq := k.veh.evq.drop 1
        r.status.evtCnt := if k.veh.evq = [] then k.veh.r.status.evtCnt else BitVec.ofNat 6 (k.veh.evq.drop 1).length } }
      Leaves (exec (.vehEvtRead n) s) { u with out := u.out ++ [.readData (u.nid.getD 0) (0x8608 + 0x4000 * n) (k.veh.evq.headD 0)] })

/-- CHARGE_PARAMETER_DISCOVERY, SCHEDULE_EXCHANGE, CABLE_CHECK_REQ, CABLE_CHECK_HOLD, CABLE_CHECK_TIMEOUT, PRECHARGE_REQ,
PRECHARGE_TIMEOUT, POWER_DELIVERY_REQ, DC_CHARGE_LOOP_REQ (R332, R340, R344, R346, R347).
Choices of the model it rests on: log entries 8, 17. -/
def Obligations.SessionTransfersPower : Prop :=
  ∀ (s : State) (n : Nat), s.soleUp n 1 = true →
    let c := s.ch n
    let v := c.veh
    let st := v.r.status.state
    let same (o : Host.Outcome State Fault Refusal) : Prop := Becomes o s n (fun k => k = c)
    let goes (o : Host.Outcome State Fault Refusal) (x : VehState) (P : Chan → Prop) : Prop :=
      Becomes o s n (fun k => k.veh.r.status.state = x ∧ P k)
    (∀ (bpt : Bool) (a b i x : BitVec 16),
      (st = .discovery → (bpt = false ∨ v.r.ctrl.bptEn = true) →
        goes (exec (.chargeParameterDiscovery n bpt a b i x) s) .discovery (fun k =>
          k.veh.r.status.bpt = bpt ∧ k.veh.r.evLim1 = { iMax := i, vMax := a } ∧ k.veh.r.evLim2 = { iDis := x, vMin := b }
          ∧ k.veh.vMax = (a.toNat : Rat) / 10 ∧ k.veh.iChg = (i.toNat : Rat) / 10
          ∧ k.veh.iDis = (if bpt then (x.toNat : Rat) / 10 else 0) ∧ k.veh.tReq = s.now
          ∧ k = { c with veh := k.veh, oq := c.oq ++ [.vehicle c.idx .chargeParameter []] }))
      ∧ (st = .discovery → bpt = true → v.r.ctrl.bptEn = false →
          goes (exec (.chargeParameterDiscovery n bpt a b i x) s) .discovery (fun k =>
            k = { c with veh.tReq := s.now, oq := c.oq ++ [.vehicle c.idx .unsupported []] }))
      ∧ (st ≠ .discovery → same (exec (.chargeParameterDiscovery n bpt a b i x) s)))
    ∧ (st = .discovery → goes (exec (.scheduleExchange n) s) .discovery (fun k =>
        k = { c with veh := { v with sched := true, tReq := s.now }, oq := c.oq ++ [.vehicle c.idx .schedule []] }))
    ∧ (st ≠ .discovery → same (exec (.scheduleExchange n) s))
    -- the cable check begins at the lesser of the two voltage limits, with the contactor outputs on
    ∧ (let vcc := min v.vMax (tenths c.loop.r.vrefLim.vrefMax)
       st = .discovery → v.sched = true → v.r.status.ce = .c →
        (150 ≤ vcc → goes (exec (.cableCheckReq n) s) .cableCheck (fun k =>
          k.veh.ctOn = true ∧ k.veh.vcc = vcc ∧ k.veh.tCc = none ∧ k.loop.vTgt = vcc ∧ k.loop.iTgt = 0
          ∧ k.veh.tState = s.now ∧ k = { c with veh := k.veh, loop := k.loop, oq := k.oq }))
        ∧ (vcc < 150 → v.causeSet = false → goes (exec (.cableCheckReq n) s) .stopping (fun k =>
          k.veh.r.status.cause = 6 ∧ k.loop.iTgt = 0)))
    ∧ (st = .cableCheck → held s.now v.tCc (msNs (100 * max 1 (min 100 v.r.tmo1.ccHold.toNat))) = true →
        goes (exec (.cableCheckHold n) s) .precharge (fun k =>
          k.veh.tState = s.now ∧ k = { c with veh := k.veh, oq := c.oq ++ [.vehicle c.idx .cableCheckFinished []] }))
    ∧ (st ≠ .cableCheck → same (exec (.cableCheckHold n) s) ∧ same (exec (.cableCheckTimeout n) s))
    ∧ (st = .cableCheck → v.causeSet = false → v.tState + sNs (max 5 (min 60 v.r.tmo1.ccTmo.toNat)) ≤ s.now →
        goes (exec (.cableCheckTimeout n) s) .stopping (fun k => k.veh.r.status.cause = 6 ∧ k.loop.iTgt = 0))
    ∧ (∀ w : BitVec 16,
      (st = .precharge → goes (exec (.prechargeReq n w) s) .precharge (fun k =>
        k.loop.vTgt = (w.toNat : Rat) / 10 ∧ k.veh.r.evTgt.vTgt = w ∧ k.veh.tReq = s.now
        ∧ k = { c with veh := k.veh, loop := k.loop, oq := c.oq ++ [.vehicle c.idx .precharge [c.msVal 4]] }))
      ∧ (st = .paused → goes (exec (.prechargeReq n w) s) .precharge (fun k =>
        k.veh.ctOn = true ∧ k.loop.vTgt = (w.toNat : Rat) / 10 ∧ k.loop.iTgt = 0))
      ∧ (st ≠ .precharge → st ≠ .paused → same (exec (.prechargeReq n w) s)))
    ∧ (st = .precharge → v.causeSet = false → v.tState + sNs (max 1 (min 30 v.r.tmo1.preTmo.toNat)) ≤ s.now →
        goes (exec (.prechargeTimeout n) s) .stopping (fun k => k.veh.r.status.cause = 7 ∧ k.loop.iTgt = 0))
    ∧ (st ≠ .precharge → same (exec (.prechargeTimeout n) s))
    -- power starts only through the legal gate; the record of the session is then open
    ∧ (st = .precharge → c.legalGate = 0 → c.vNear (c.msOk 4) c.loop.vTgt = true →
        goes (exec (.powerDeliveryReq n 0) s) .transfer (fun k =>
          k.loop.tgtCC = true ∧ k.ledg.opn.isSome = true ∧ k.veh.owe09 = true
          ∧ k = { c with veh := k.veh, loop := k.loop, ledg := k.ledg, jq := k.jq, oq := k.oq }))
    ∧ (st = .precharge → c.legalGate ≠ 0 → goes (exec (.powerDeliveryReq n 0) s) .stopping (fun k =>
        k.ledg = c.ledg ∧ k.loop.iTgt = 0 ∧ (v.causeSet = false → k.veh.r.status.cause
          = (if c.ledg.opn.isNone then 0x0C else if c.key.r.tampStatus.hold then 0x09 else 0x08))))
    ∧ (st = .transfer →
        goes (exec (.powerDeliveryReq n 1) s) .stopping (fun k =>
          k.veh.pause = false ∧ k.loop.iTgt = 0 ∧ (v.causeSet = false → k.veh.r.status.cause = 1))
        ∧ goes (exec (.powerDeliveryReq n 2) s) .stopping (fun k =>
          k.veh.pause = true ∧ k.loop.iTgt = 0 ∧ k.veh.r.status.cause = v.r.status.cause))
    ∧ (st ≠ .precharge → st ≠ .transfer → ∀ kind, same (exec (.powerDeliveryReq n kind) s))
    ∧ (∀ (it vt vm im id : BitVec 16) (ev : Option Int) (err : Bool),
      (st = .transfer → Becomes (exec (.dcChargeLoopReq n it vt vm im id ev err) s) s n (fun k =>
        k.veh.r.status.state = (if err then .stopping else .transfer) ∧ k.loop.vTgt = (vt.toNat : Rat) / 10
        ∧ (err = false → k.loop.iTgt = (it.toInt : Rat) / 10) ∧ (err = true → k.loop.iTgt = 0)
        ∧ k.veh.r.evTgt = { iTgt := it, vTgt := vt } ∧ k.veh.vMax = (vm.toNat : Rat) / 10 ∧ k.veh.iChg = (im.toNat : Rat) / 10
        ∧ k.veh.tReq = s.now))
      ∧ (st ≠ .transfer → st ≠ .stopping → same (exec (.dcChargeLoopReq n it vt vm im id ev err) s)))

/-- WELDING_DETECTION_REQ, SESSION_STOP_REQ, TLS_LOST, SEQUENCE_TIMEOUT, CHARGE_LOOP_TIMEOUT, PAUSE_TIMEOUT (R340, R342, R343).
Choices of the model it rests on: log entries 8, 17. -/
def Obligations.SessionEnds : Prop :=
  ∀ (s : State) (n : Nat), s.soleUp n 1 = true →
    let c := s.ch n
    let v := c.veh
    let st := v.r.status.state
    let same (o : Host.Outcome State Fault Refusal) : Prop := Becomes o s n (fun k => k = c)
    let goes (o : Host.Outcome State Fault Refusal) (x : VehState) (P : Chan → Prop) : Prop :=
      Becomes o s n (fun k => k.veh.r.status.state = x ∧ P k)
    -- communication lost: before power the session shuts down, with power it stops, each with cause 4
    let lost (o : Host.Outcome State Fault Refusal) : Prop :=
      v.causeSet = false →
      ((st = .setup ∨ st = .auth ∨ st = .discovery) → goes o .shutdown (fun k => k.veh.r.status.cause = 4 ∧ k.veh.ctOn = false))
      ∧ ((st = .cableCheck ∨ st = .precharge) → goes o .stopping (fun k => k.veh.r.status.cause = 4 ∧ k.loop.iTgt = 0))
    (st = .shutdown → v.fromRun = true → goes (exec (.weldingDetectionReq n) s) .shutdown (fun k =>
        k = { c with oq := c.oq ++ [.vehicle c.idx .welding [c.msVal 4]] }))
    ∧ (st ≠ .shutdown → same (exec (.weldingDetectionReq n) s))
    ∧ (st = .paused → goes (exec (.sessionStopReq n) s) .shutdown (fun k =>
        k.veh.stopAns = true ∧ k.veh.ctOn = false ∧ k.veh.disOn = true ∧ (v.causeSet = false → k.veh.r.status.cause = 1)))
    ∧ (st = .shutdown → goes (exec (.sessionStopReq n) s) .shutdown (fun k =>
        k = { c with veh := { v with stopAns := true, tReq := s.now }, oq := c.oq ++ [.vehicle c.idx .sessionStop []] }))
    ∧ (st ≠ .paused → st ≠ .shutdown → same (exec (.sessionStopReq n) s))
    ∧ lost (exec (.tlsLost n) s)
    ∧ (st = .shutdown → v.stopAns = true → goes (exec (.tlsLost n) s) .shutdown (fun k => k = { c with veh.r.status.tls := false }))
    ∧ (st = .transfer → v.causeSet = false → goes (exec (.tlsLost n) s) .stopping (fun k =>
        k.veh.r.status.cause = 4 ∧ k.veh.r.status.tls = false ∧ k.loop.iTgt = 0 ∧ k.shk.sf4Com = true))
    ∧ lost (exec (.sequenceTimeout n) s)
    ∧ (st = .transfer → same (exec (.sequenceTimeout n) s))
    ∧ (st = .transfer → v.causeSet = false → v.tReq + msNs (100 * max 5 (min 50 v.r.tmo2.clTmo.toNat)) ≤ s.now →
        goes (exec (.chargeLoopTimeout n) s) .stopping (fun k => k.veh.r.status.cause = 4 ∧ k.shk.sf4Com = true))
    ∧ (st ≠ .transfer → st ≠ .paused → same (exec (.chargeLoopTimeout n) s))
    ∧ (st = .paused → v.causeSet = false → v.tState + sNs (max 1 (min 3600 v.r.tmo2.pauseMax.toNat)) ≤ s.now →
        goes (exec (.pauseTimeout n) s) .shutdown (fun k => k.veh.r.status.cause = 0x0F ∧ k.veh.disOn = true))
    ∧ (st ≠ .paused → same (exec (.pauseTimeout n) s))

/-- AUTH_ACCEPT, AUTH_REJECT, SESSION_STOP, CERT_LOAD, AUTH_MODE (R335, R338, R354 to R356, R533).
Choices of the model it rests on: log entry 17. -/
def Obligations.SessionDescriptors : Prop :=
  ∀ (s : State) (n : Nat) (d : Desc), n < 4 → s.takes n d = true →
    let t := s.taken n d
    let c := t.ch n
    let v := c.veh
    let st := v.r.status.state
    (d.opcode = 0x0101 →
      (c.core.meterRole = false → v.authDone = false → st = .auth → Executes (exec (.authAccept d) s) s n d 0 (fun k =>
        k.veh.r.status.state = .discovery ∧ k.veh.authDone = true ∧ k.veh.authRef = (List.range 8).map d.pay
        ∧ k = { c with veh := k.veh, oq := c.oq ++ [.vehicle c.idx .authFinished []] }))
      ∧ (c.core.meterRole = true → Executes (exec (.authAccept d) s) s n d 0x74 (fun k => k = c))
      ∧ (c.core.meterRole = false → v.authDone = true → Executes (exec (.authAccept d) s) s n d 0x71 (fun k => k = c))
      ∧ (c.core.meterRole = false → v.authDone = false → st ≠ .auth → Executes (exec (.authAccept d) s) s n d 0x70 (fun k => k = c)))
    ∧ (d.opcode = 0x0102 → d.onlyBits [] = true → c.core.meterRole = false → v.authDone = false →
      (st = .auth → Executes (exec (.authReject d) s) s n d 0 (fun k =>
        k.veh.r.status.state = .shutdown ∧ k.veh.authDone = true ∧ (v.causeSet = false → k.veh.r.status.cause = 0x0D)))
      ∧ (st ≠ .auth → Executes (exec (.authReject d) s) s n d 0x70 (fun k => k = c)))
    ∧ (d.opcode = 0x0103 → d.onlyBits [] = true → c.core.meterRole = false →
      ((st = .cableCheck ∨ st = .precharge ∨ st = .transfer) → Executes (exec (.sessionStop d) s) s n d 0 (fun k =>
        k.veh.r.status.state = .stopping ∧ k.loop.iTgt = 0 ∧ (v.causeSet = false → k.veh.r.status.cause = 3)))
      ∧ ((st = .discovery ∨ st = .paused) → Executes (exec (.sessionStop d) s) s n d 0 (fun k =>
        k.veh.r.status.state = .shutdown ∧ (v.causeSet = false → k.veh.r.status.cause = 3)))
      ∧ ((st = .off ∨ st = .unplugged ∨ st = .plugged ∨ st = .setup ∨ st = .auth ∨ st = .stopping ∨ st = .shutdown ∨ st = .ended) →
          Executes (exec (.sessionStop d) s) s n d 0x72 (fun k => k = c)))
    -- an item of the certificate store: its bytes come through the port bound; LENGTH 0 erases it
    ∧ (d.opcode = 0x0104 → d.onlyBits [0x30F, 7, 0xFFFF] = true →
      let kind := d.fld 0 8 2
      let i := d.fld 0 0 4
      let len := d.fld 2 0 16
      (d.certRange = false → Rejects (exec (.certLoad d) s) s n d 0x73)
      ∧ (d.certRange = true → c.core.meterRole = false → 65536 < v.certBytes kind i + len → Rejects (exec (.certLoad d) s) s n d 0x73)
      ∧ (d.certRange = true → c.core.meterRole = false → v.certBytes kind i + len ≤ 65536 → s.xferOf (d.fld 1 0 3) = none →
        (0 < len → Leaves (exec (.certLoad d) s) { t with xfers := s.xfers ++
          [{ die := n, d := d, ref := s.refOf n d, port := d.fld 1 0 3, isOut := false, words := [], need := (len + 3) / 4 }] })
        ∧ (len = 0 → Executes (exec (.certLoad d) s) s n d 0 (fun k =>
            k = { c with veh.certs := v.certs.filter (fun x => !(decide (x.1 = kind ∧ x.2.1 = i))) }))))
    ∧ (d.opcode = 0x0105 → d.onlyBits [1] = true →
      (c.core.meterRole = false → Executes (exec (.authMode d) s) s n d 0 (fun k => k = { c with veh.r.auth := d.bit 0 0 }))
      ∧ (c.core.meterRole = true → Executes (exec (.authMode d) s) s n d 0x74 (fun k => k = c)))
 
/-! ### The cable and its cooling -/

/-- COOL_SENSOR_CONVERSION, FLOW_UPDATE, FLOW_LOW_SET, FLOW_LOW_CLEAR, PRES_FLT_SET, PRES_FLT_CLEAR, PIN_DISC_SET, PIN_DISC_CLEAR
(R363, R364, R377).
Choices of the model it rests on: log entry 8. -/
def Obligations.CoolingSensorsAndFlags : Prop :=
  ∀ (s : State) (n : Nat), s.soleUp n 2 = true →
    let c := s.ch n
    let x := c.cool
    -- a flag that has held long enough is set, one that has not leaves the channel as it was
    let flag (o : Host.Outcome State Fault Refusal) (cond : Bool) (get : Chan → Bool) (v : Bool) (k' : Chan) : Prop :=
      (cond = true → Becomes o s n (fun k => get k = v ∧ k = { k' with jq := k.jq } ∧ (get c = v → k.jq = c.jq)))
      ∧ (cond = false → Becomes o s n (fun k => k = c))
    (∀ (pts ntcs : List Nat) (mv : Nat),
      let badP := decide (mv < 250) || decide (4750 < mv)
      Becomes (exec (.coolSensorConversion n pts ntcs mv) s) s n (fun k =>
        -- a PT1000 or a coolant NTC outside its range is faulty, and takes no part
        (∀ i, i < 4 → vget k.cool.pt i none = ptTemp (pts.getD i 0)
          ∧ mbit k.cool.r.status.pinFlt i = (ptTemp (pts.getD i 0)).isNone)
        ∧ (∀ i, i < 2 →
            (ntcTemp c.loop.r.ntcCfg.ntcB.toNat c.loop.r.ntcCfg.ntcRnom.toNat (ntcs.getD i 0) = none →
              vget k.cool.cn i none = none ∧ mbit k.cool.r.status.cntcFlt i = true)
            ∧ (∀ t, ntcTemp c.loop.r.ntcCfg.ntcB.toNat c.loop.r.ntcCfg.ntcRnom.toNat (ntcs.getD i 0) = some (some t) →
              vget k.cool.cn i none = some t ∧ mbit k.cool.r.status.cntcFlt i = false))
        -- the pressure input, and its fault at once in every state
        ∧ (badP = true → k.cool.pres = none ∧ k.cool.r.status.presFlt = true)
        ∧ (badP = false → k.cool.pres = some (((mv : Int) - 500) * 25) ∧ k.cool.r.status.presFlt = x.r.status.presFlt)
        ∧ k.cool.r.ctrl = x.r.ctrl ∧ k.cool.r.status.state = x.r.status.state ∧ k.cool.tc = x.tc ∧ k.cool.flow = x.flow
        ∧ (c.shk.sf3En = false → k.shk = { c.shk with sf3Run := 0, sf3 := false } ∧ k.met = c.met)
        ∧ k = { c with cool := k.cool, shk := k.shk, met := k.met, jq := k.jq, fc := k.fc }))
    ∧ (∀ pulses : Nat, Becomes (exec (.flowUpdate n pulses) s) s n (fun k =>
        k.cool.flow = ((pulses * 60 : Nat) : Rat) / ((max 1 x.r.sens.kFlow.toNat : Nat) : Rat)
        ∧ k.cool.r.flow.flow = toU 16 (roundHE (k.cool.flow * 100)) ∧ k = { c with cool := k.cool }))
    ∧ flag (exec (.flowLowSet n) s) (x.working && held s.now x.flowLowSince 2000000000)
        (fun k => k.cool.r.status.flowLow) true ({ c with cool.r.status.flowLow := true })
    ∧ flag (exec (.flowLowClear n) s) (held s.now x.flowOkSince 5000000000)
        (fun k => k.cool.r.status.flowLow) false ({ c with cool.r.status.flowLow := false })
    ∧ flag (exec (.presFltSet n) s) (x.presBadIn || held s.now x.presBadSince 2000000000)
        (fun k => k.cool.r.status.presFlt) true
        ({ c with cool := { x with r.status.presFlt := true, presIn := x.presBadIn } })
    ∧ flag (exec (.presFltClear n) s) (held s.now x.presOkSince 5000000000)
        (fun k => k.cool.r.status.presFlt) false ({ c with cool := { x with r.status.presFlt := false, presIn := false } })
    ∧ flag (exec (.pinDiscSet n) s) (held s.now x.discSince 1000000000)
        (fun k => k.cool.r.status.pinDisc) true ({ c with cool.r.status.pinDisc := true })
    ∧ flag (exec (.pinDiscClear n) s) (held s.now x.discOkSince 10000000000)
        (fun k => k.cool.r.status.pinDisc) false ({ c with cool.r.status.pinDisc := false })

/-- COOL_ENABLE, AGE_RST, COOL_MARK, RUNDOWN_TIMEOUT (R367, R368, R374 to R376, R383).
Choices of the model it rests on: log entries 8, 15, 29. -/
def Obligations.CoolingController : Prop :=
  ∀ (s : State) (n : Nat), s.soleUp n 2 = true →
    let c := s.ch n
    let x := c.cool
    let st := x.r.status.state
    let only (k : Chan) : Prop := k = { c with cool := k.cool, jq := k.jq, loop.r.auxStatus.en := k.loop.r.auxStatus.en }
    (∀ w : Word, s.hostOpen n = true → w.getLsbD 2 = false → c.core.meterRole = false →
      -- the controller starts from the highest valid reading, or from T_C_LIM
      (w.getLsbD 0 = true → st = .off → Becomes (exec (.coolEnable n w) s) s n (fun k =>
        k.cool.r.status.state = .standby ∧ k.cool.r.ctrl = { x.r.ctrl.write w with ageRst := false }
        ∧ k.cool.tc = (match optMax (optMax x.tPin x.tIn) x.tOut with
            | some t => (t : Rat) / 10
            | none => (x.r.lim1.tCLim.toInt : Rat) / 10)
        ∧ k.cool.tk = k.cool.tc ∧ k.cool.r.status.flowLow = false ∧ k.loop.r.auxStatus.en = 0 ∧ only k))
      ∧ (w.getLsbD 0 = false → st = .standby → Becomes (exec (.coolEnable n w) s) s n (fun k =>
        k.cool.r.status.state = .off ∧ k.cool.r.ctrl = { x.r.ctrl.write w with ageRst := false }
        ∧ k.loop.r.auxStatus.en = 0 ∧ only k))
      -- it is not turned off while it cools
      ∧ (w.getLsbD 0 = false → (st = .active ∨ st = .rundown) → Becomes (exec (.coolEnable n w) s) s n (fun k =>
        k.cool.r.status = { x.r.status with wrIgn := true } ∧ k.cool.r.ctrl = { x.r.ctrl.write w with en := x.r.ctrl.en, ageRst := false }
        ∧ k.loop = c.loop ∧ only k)))
    -- the trend is forgotten, but in a sealed partition
    ∧ (s.hostOpen n = true → x.r.ctrl.en = decide (st ≠ .off) →
      (c.ledg.r.status.sealed = false → Becomes (exec (.ageRst n) s) s n (fun k =>
        k.cool.trend = none ∧ k.cool.con0 = none ∧ k.cool.r.age.count = 0 ∧ k.cool.r.status.ageValid = false
        ∧ k.cool.r.rmeas = {} ∧ k.cool.r.status.state = st ∧ k.cool.r.ctrl.en = x.r.ctrl.en ∧ only k))
      ∧ (c.ledg.r.status.sealed = true → Becomes (exec (.ageRst n) s) s n (fun k =>
        k.cool.trend = x.trend ∧ k.cool.con0 = x.con0 ∧ k.cool.r.age = x.r.age ∧ k.cool.r.status = { x.r.status with wrIgn := true }
        ∧ only k)))
    -- the 1 ms mark: the states, the model, and the cap
    ∧ Becomes (exec (.coolMark n) s) s n (fun k =>
        k.cool.r.status.state = (match st with
          | .off => .off
          | .standby => if c.loopOn ∨ x.hot then .active else .standby
          | .active => if !c.loopOn ∧ !x.hot then .rundown else .active
          | .rundown => if c.loopOn then .active
              else if x.tRun + sNs x.r.ctrl.rundown.toNat ≤ s.now ∧ x.cold then .standby else .rundown)
        ∧ (st = .active → k.cool.r.status.state = .rundown → k.cool.tRun = s.now)
        ∧ (k.cool.r.status.state = .active ∨ k.cool.r.status.state = .rundown → k.cool.r.status.state ≠ st → k.loop.r.auxStatus.en = 3)
        ∧ (k.cool.r.status.state = .off ∨ k.cool.r.status.state = .standby → k.cool.r.status.state ≠ st →
            k.loop.r.auxStatus.en = 0 ∧ k.cool.r.drive = {} ∧ k.cool.r.status.flowLow = false)
        ∧ (st = .off → k.cool.tc = x.tc ∧ k.cool.tk = x.tk)
        -- a fall of the cap at once, a rise of at most 1 % of I_RATED in 100 ms
        ∧ (let t := leastTerm k.cool.terms
           let old := x.r.cap.cap.toNat
           k.cool.r.status.src = BitVec.ofNat 4 t.1 ∧ k.cool.r.cap.iTh = BitVec.ofNat 16 k.cool.thermal
           ∧ (t.2 ≤ old → k.cool.r.cap.cap = BitVec.ofNat 16 t.2)
           ∧ (old < t.2 → x.tRise + 100000000 ≤ s.now →
                k.cool.r.cap.cap = BitVec.ofNat 16 (min t.2 (old + x.r.cable.iRated.toNat / 100)) ∧ k.cool.tRise = s.now)
           ∧ (old < t.2 → s.now < x.tRise + 100000000 → k.cool.r.cap.cap = x.r.cap.cap))
        ∧ only k)
    ∧ (st = .rundown → x.tRun + sNs x.r.ctrl.rundown.toNat ≤ s.now → x.cold = true →
        Becomes (exec (.rundownTimeout n) s) s n (fun k => k.cool.r.status.state = .standby ∧ k.cool.r.drive = {} ∧ only k))
    ∧ ((st ≠ .rundown ∨ s.now < x.tRun + sNs x.r.ctrl.rundown.toNat ∨ x.cold = false) →
        Becomes (exec (.rundownTimeout n) s) s n (fun k => k = c))

/-! ### Eyelet: the protected outputs -/

/-- EY_OVERCURRENT_TRIP, EY_SHORT_CIRCUIT, EY_THERMAL_TRIP, EY_THERMAL_REARM, INRUSH_WINDOW_END, RETRY_PAUSE_END, FCNT_CLEAR,
OPEN_LOAD_JUDGE, OUTPUT_UNDERVOLTAGE (R395 to R399, R401 to R403): in every state of the Sole.
Choices of the model it rests on: log entry 8. -/
def Obligations.EyeletOutputs : Prop :=
  ∀ (s : State) (n i : Nat), n < 4 → i < 8 →
    let c := s.ch n
    let y := c.ey
    let o := vget y.o i {}
    let at_ (k : Chan) : EyOut := vget k.ey.o i {}
    -- the other outputs and the registers stay
    let rest (k : Chan) : Prop := (∀ j, j ≠ i → vget k.ey.o j {} = vget y.o j {}) ∧ k.ey.r = y.r ∧ k = { c with ey := k.ey }
    let same (x : Host.Outcome State Fault Refusal) : Prop := Becomes x s n (fun k => k = c)
    let trips (x : Host.Outcome State Fault Refusal) : Prop := Becomes x s n (fun k =>
      (at_ k).fcnt = min 15 (o.fcnt + 1)
      ∧ (at_ k).st = (if o.fcnt + 1 ≤ max 1 o.retry.n.toNat then .pause else .latched)
      ∧ (at_ k).tPause = s.now
      ∧ (at_ k).pause = min (max 1 o.retry.pause0.toNat * 10 * 1000000 * 2 ^ (min 15 (o.fcnt + 1) - 1)) 5000000000
      ∧ mbit k.ey.fault.oc i = true ∧ k.ey.report = true ∧ rest k)
    -- over-current for the filter time, or a short circuit at once
    (∀ us : Nat,
      (o.live = true → max 1 o.retry.ocFilt.toNat * 10 ≤ us → trips (exec (.eyOvercurrentTrip n i us) s))
      ∧ ((o.live = false ∨ us < max 1 o.retry.ocFilt.toNat * 10) → same (exec (.eyOvercurrentTrip n i us) s)))
    ∧ (∀ ma : Nat,
      (o.live = true → 15000 < ma → trips (exec (.eyShortCircuit n i ma) s))
      ∧ ((o.live = false ∨ ma ≤ 15000) → same (exec (.eyShortCircuit n i ma) s)))
    ∧ (∀ (dt : Nat) (tj : Int),
      Becomes (exec (.eyThermalTrip n i dt tj) s) s n (fun k =>
        (at_ k).dt = dt ∧ rest k
        ∧ ((60 ≤ dt ∨ 170 ≤ tj) → (o.live = true ∨ o.st = .pause) →
            (at_ k).st = .thermHot ∧ (at_ k).fcnt = min 15 (o.fcnt + 1) ∧ mbit k.ey.fault.th i = true ∧ k.ey.report = true)
        ∧ ((dt < 60 ∧ tj < 170) ∨ (o.live = false ∧ o.st ≠ .pause) → (at_ k).st = o.st ∧ k.ey.fault = y.fault))
      ∧ Becomes (exec (.eyThermalRearm n i dt tj) s) s n (fun k =>
        at_ k = { o with dt := dt, st := if o.st = .thermHot ∧ dt ≤ 30 ∧ tj ≤ 150 then .thermWait else o.st } ∧ rest k))
    -- the inrush window starts with the first pulse
    ∧ (∀ t, o.st = .inrush → o.tIn = some t → t + msNs o.lim.inrushT.toNat ≤ s.now →
        Becomes (exec (.inrushWindowEnd n i) s) s n (fun k => at_ k = { o with st := .on, tOn := s.now } ∧ rest k))
    ∧ ((o.st ≠ .inrush ∨ o.tIn = none ∨ ∃ t, o.tIn = some t ∧ s.now < t + msNs o.lim.inrushT.toNat) →
        same (exec (.inrushWindowEnd n i) s))
    ∧ (o.st = .pause → o.tPause + o.pause ≤ s.now → y.on i = true →
        Becomes (exec (.retryPauseEnd n i) s) s n (fun k =>
          at_ k = { o with st := .inrush, tIn := if y.pulses i then some s.now else none, tCond := s.now } ∧ rest k))
    ∧ ((o.st ≠ .pause ∨ s.now < o.tPause + o.pause ∨ y.on i = false) → same (exec (.retryPauseEnd n i) s))
    ∧ (o.st = .on → o.tOn + 1000000000 ≤ s.now →
        Becomes (exec (.fcntClear n i) s) s n (fun k => at_ k = { o with fcnt := 0 } ∧ rest k))
    ∧ ((o.st ≠ .on ∨ s.now < o.tOn + 1000000000) → same (exec (.fcntClear n i) s))
    -- open load is judged in OFF by the voltage, in ON by the current, after OL_T
    ∧ (∀ mv ma ms : Nat,
      (max 1 o.ol.olT.toNat ≤ ms → o.st = .off → Becomes (exec (.openLoadJudge n i mv ma ms) s) s n (fun k =>
        mbit k.ey.flags.shortVsw i = decide (y.vsw ≤ mv + 1000)
        ∧ mbit k.ey.flags.olOff i = (o.ol.offEn && decide (o.ol.offVth.toNat * 100 ≤ mv) && !decide (y.vsw ≤ mv + 1000))
        ∧ k.ey.flags.olOn = y.flags.olOn ∧ k = { c with ey.flags := k.ey.flags }))
      ∧ (max 1 o.ol.olT.toNat ≤ ms → o.st = .on → o.ol.onEn = true → o.tCond + 1000000 ≤ s.now → y.longPulse i = true →
          Becomes (exec (.openLoadJudge n i mv ma ms) s) s n (fun k =>
            mbit k.ey.flags.olOn i = decide (ma < o.ol.olIon.toNat * (if o.ol.fine then 1 else 10))
            ∧ k = { c with ey.flags := { y.flags with olOn := k.ey.flags.olOn } }))
      ∧ ((ms < max 1 o.ol.olT.toNat ∨ (o.st ≠ .off ∧ o.st ≠ .on) ∨ (o.st = .on ∧ (o.ol.onEn = false ∨ y.longPulse i = false ∨ s.now < o.tCond + 1000000))) →
          same (exec (.openLoadJudge n i mv ma ms) s)))
    ∧ (∀ (mv us : Nat) (limiting : Bool),
      (o.live = true → limiting = false → y.dip = false → mv < y.r.supply.ouvV.toNat * 100 → 500 ≤ us →
        Becomes (exec (.outputUndervoltage n i mv us limiting) s) s n (fun k =>
          k = { c with ey := { y with fault.ouv := msetb y.fault.ouv i true, report := true } }))
      ∧ ((o.live = false ∨ limiting = true ∨ y.dip = true ∨ y.r.supply.ouvV.toNat * 100 ≤ mv ∨ us < 500) →
          same (exec (.outputUndervoltage n i mv us limiting) s)))

/-- EYELET_COMMAND_FRAME, SUPPLY_DIP, SUPPLY_DIP_END, VSW_UNDERVOLTAGE, VSW_RESTORE, MIRROR_SELECT_INPUT, WATCHDOG_FEED,
EYELET_WATCHDOG_EXPIRY, FAILSAFE_DELAY_END (R394, R398, R405, R410 to R413, R417).
Choices of the model it rests on: log entry 8. -/
def Obligations.EyeletDie : Prop :=
  ∀ (s : State) (n : Nat), n < 4 →
    let c := s.ch n
    let y := c.ey
    let same (x : Host.Outcome State Fault Refusal) : Prop := Becomes x s n (fun k => k = c)
    -- an output follows its command: OFF to INRUSH when it turns on; INRUSH, ON and PAUSE to OFF when it turns off
    let follows (k : Chan) (mode : Nat → Nat) (mask : BitVec 8) (uv failsafe : Bool) : Prop := ∀ i, i < 8 →
      let o := vget y.o i {}
      let q := vget k.ey.o i {}
      let on := decide (mode i ≠ 0) && !uv && (failsafe || !(mbit mask i))
      q.mode = mode i
      ∧ q.st = (match o.st with
          | .off => if on then .inrush else .off
          | .inrush => if on then .inrush else .off
          | .on => if on then .on else .off
          | .pause => if on then .pause else .off
          | x => x)
      ∧ q.fcnt = o.fcnt
    (s.soleUp n 2 = true →
      (y.failsafe = false → Becomes (exec (.eyeletCommandFrame n) s) s n (fun k =>
        follows k c.eyMode c.shk.r.status.offMask y.uv false ∧ k.ey.mask = c.shk.r.status.offMask
        ∧ k = { c with ey := { y with mask := k.ey.mask, o := k.ey.o, r.cmd := k.ey.r.cmd } }))
      ∧ (y.failsafe = true → Becomes (exec (.eyeletCommandFrame n) s) s n (fun k => k = { c with ey.r.cmd := k.ey.r.cmd })))
    ∧ (∀ v0 v1 us : Nat,
        let falls := !y.dip && ((decide (v1 + 2000 ≤ v0) && decide (us ≤ 50)) || decide (v1 < y.r.supply.ouvV.toNat * 100))
        Becomes (exec (.supplyDip n v0 v1 us) s) s n (fun k =>
          k = (if falls then { c with ey := { y with vsw := v1, dip := true, dipRef := v0, r.supply.dipCnt := satInc y.r.supply.dipCnt } }
            else { c with ey.vsw := v1 })))
    ∧ (∀ mv us : Nat, Becomes (exec (.supplyDipEnd n mv us) s) s n (fun k =>
        k = { c with ey := { y with
          vsw := mv
          dip := y.dip && !(decide (max (y.dipRef - 1000) (y.r.supply.ouvV.toNat * 100) < mv) && decide (2000 ≤ us)) } }))
    ∧ (∀ mv : Nat,
      (mv < 5000 → Becomes (exec (.vswUndervoltage n mv) s) s n (fun k =>
        follows k (fun i => (vget y.o i {}).mode) y.mask true y.failsafe ∧ k = { c with ey := { y with vsw := mv, uv := true, o := k.ey.o } }))
      ∧ (5000 ≤ mv → Becomes (exec (.vswUndervoltage n mv) s) s n (fun k => k = { c with ey.vsw := mv }))
      ∧ (5500 < mv → Becomes (exec (.vswRestore n mv) s) s n (fun k =>
        follows k (fun i => (vget y.o i {}).mode) y.mask false y.failsafe ∧ k = { c with ey := { y with vsw := mv, uv := false, o := k.ey.o } }))
      ∧ (mv ≤ 5500 → Becomes (exec (.vswRestore n mv) s) s n (fun k => k = { c with ey.vsw := mv })))
    ∧ (∀ sel : BitVec 3, Becomes (exec (.mirrorSelectInput n sel) s) s n (fun k => k = { c with ey.eysel := sel }))
    -- a feed counts when its sequence is new; without one for WDT_T the die goes to its stored states
    ∧ (∀ q : BitVec 4,
      (s.feeds n = true → y.seq ≠ some q → Becomes (exec (.watchdogFeed n q) s) s n (fun k =>
        k = { c with ey := { y with seq := some q, tFeed := s.now, armed := true, fed := true } }))
      ∧ (s.feeds n = true → y.seq = some q → same (exec (.watchdogFeed n q) s))
      ∧ (s.feeds n = false → Leaves (exec (.watchdogFeed n q) s) s))
    ∧ (let due := y.armed && !y.failsafe && decide (y.tFeed + msNs (max 1 y.r.wdt.wdtT.toNat) ≤ s.now)
      (due = true → Becomes (exec (.eyeletWatchdogExpiry n) s) s n (fun k =>
        k.ey.failsafe = true ∧ k.ey.tFs = s.now ∧ k.ey.fsDone = false ∧ k.ey.fed = false ∧ k.ey.wdExp = true ∧ k.ey.report = true
        ∧ follows k (fun i => if y.stored i = 0 then 0 else (vget y.o i {}).mode) y.mask y.uv true
        ∧ k.ey.r = y.r ∧ k.ey.mask = y.mask ∧ k = { c with ey := k.ey }))
      ∧ (due = false → same (exec (.eyeletWatchdogExpiry n) s)))
    ∧ (let due := y.failsafe && !y.fsDone && decide (y.tFs + msNs (10 * min 50 y.r.wdt.fsDly.toNat) ≤ s.now)
      (due = true → Becomes (exec (.failsafeDelayEnd n) s) s n (fun k =>
        follows k (fun i => if y.stored i = 1 then 1 else (vget y.o i {}).mode) y.mask y.uv true
        ∧ k = { c with ey := { y with fsDone := true, o := k.ey.o } }))
      ∧ (due = false → same (exec (.failsafeDelayEnd n) s)))

/-- EY_OUTPUT, EY_CLEAR, EY_LIMITS, EY_RESUME, EY_FAILSAFE, EY_CMD_WRITE (R393, R398, R407, R414 to R416, R419 to R421, R425).
Choices of the model it rests on: log entry 40. -/
def Obligations.EyeletDescriptors : Prop :=
  ∀ (s : State) (n : Nat), n < 4 →
    (∀ d : Desc, s.takes n d = true →
      let c := (s.taken n d).ch n
      let y := c.ey
      let same (o : Host.Outcome State Fault Refusal) (code : Nat) : Prop := Executes o s n d code (fun k => k = c)
      let pw : Word := 0x030000FF
      -- every descriptor of an Eyelet die needs its link
      (c.eyLink = false →
        (d.opcode = 0x0501 → d.onlyBits [0xFF, 0xFFFF, pw, pw, pw, pw, pw, pw] = true → same (exec (.eyOutput d) s) 0x87)
        ∧ (d.opcode = 0x0502 → d.onlyBits [0xFF] = true → same (exec (.eyClear d) s) 0x87)
        ∧ (d.opcode = 0x0503 → d.onlyBits [7, 0x01FF7F7F, 0xF1FF03FF, 0xE0FFFFFF] = true → same (exec (.eyLimits d) s) 0x87)
        ∧ (d.opcode = 0x0504 → d.onlyBits [] = true → same (exec (.eyResume d) s) 0x87)
        ∧ (d.opcode = 0x0505 → d.onlyBits [0xFFFF, 0x7F7F] = true → same (exec (.eyFailsafe d) s) 0x87))
      ∧ (c.eyLink = true →
        (d.opcode = 0x0501 → d.onlyBits [0xFF, 0xFFFF, pw, pw, pw, pw, pw, pw] = true →
          ((∀ i, i < 8 → d.bit 0 i = true → c.eyOwner i = .host) → Executes (exec (.eyOutput d) s) s n d 0 (fun k =>
            (∀ i, i < 8 → d.bit 0 i = true →
              k.ey.host.extractLsb' (2 * i) 2 = (d.pay 1).extractLsb' (2 * i) 2
              ∧ vget k.ey.r.pwm i {} = { freq := (d.pay (2 + i)).extractLsb' 24 2, duty := (d.pay (2 + i)).extractLsb' 0 8 })
            ∧ (∀ i, i < 8 → d.bit 0 i = false →
              k.ey.host.extractLsb' (2 * i) 2 = y.host.extractLsb' (2 * i) 2 ∧ vget k.ey.r.pwm i {} = vget y.r.pwm i {})
            ∧ k = { c with ey := { y with host := k.ey.host, r.pwm := k.ey.r.pwm } }))
          ∧ ((∃ i, i < 8 ∧ d.bit 0 i = true ∧ c.eyOwner i ≠ .host) → same (exec (.eyOutput d) s) 0x80))
        -- a clear of an output still commanded on re-arms it at once
        ∧ (d.opcode = 0x0502 → d.onlyBits [0xFF] = true →
          ((∀ i, i < 8 → d.bit 0 i = true → (vget y.o i {}).st ≠ .thermHot) → Executes (exec (.eyClear d) s) s n d 0 (fun k =>
            (∀ i, i < 8 →
              let o := vget y.o i {}
              let q := vget k.ey.o i {}
              let next : EyState := if y.on i then .inrush else .off
              (d.bit 0 i = true → o.st = .latched → q.fcnt = 0 ∧ q.st = next)
              ∧ (d.bit 0 i = true → o.st = .thermWait → q.fcnt = o.fcnt ∧ q.st = (if o.fcnt ≤ max 1 o.retry.n.toNat then next else .latched))
              ∧ ((d.bit 0 i = false ∨ (o.st ≠ .latched ∧ o.st ≠ .thermWait)) → q = o))
            ∧ k = { c with ey.o := k.ey.o }))
          ∧ ((∃ i, i < 8 ∧ d.bit 0 i = true ∧ (vget y.o i {}).st = .thermHot) → same (exec (.eyClear d) s) 0x81))
        ∧ (d.opcode = 0x0503 → d.onlyBits [7, 0x01FF7F7F, 0xF1FF03FF, 0xE0FFFFFF] = true →
          (limitsOk (d.pay 1) (d.pay 2) (d.pay 3) = true → Executes (exec (.eyLimits d) s) s n d 0 (fun k =>
            (∀ i, i < 8 → vget k.ey.r.lim i {} = (if i = d.fld 0 0 3 then (vget y.r.lim i {}).write (d.pay 1) else vget y.r.lim i {}))
            -- they come into force when the output next enters OFF
            ∧ k.ey.o = y.o
            ∧ k = { c with ey.r := { y.r with lim := k.ey.r.lim, retry := k.ey.r.retry, olcfg := k.ey.r.olcfg } }))
          ∧ (limitsOk (d.pay 1) (d.pay 2) (d.pay 3) = false → same (exec (.eyLimits d) s) 0x82))
        ∧ (d.opcode = 0x0504 → d.onlyBits [] = true →
          (y.failsafe = true → y.fed = true → Executes (exec (.eyResume d) s) s n d 0 (fun k =>
            k = { c with ey := { y with failsafe := false, fsDone := false } }))
          ∧ (y.failsafe = false → same (exec (.eyResume d) s) 0x83)
          ∧ (y.failsafe = true → y.fed = false → same (exec (.eyResume d) s) 0x84))
        ∧ (d.opcode = 0x0505 → d.onlyBits [0xFFFF, 0x7F7F] = true →
          let dly := d.fld 1 8 7
          let t := d.fld 1 0 7
          let stored (i : BitVec 3) : Nat := ((d.pay 0).extractLsb' (2 * i.toNat) 2).toNat
          let off (i : BitVec 3) : Prop := stored i = 0 ∨ stored i = 3
          let v := c.veh.r.eyMap
          let good := dly ≤ 50 ∧ 1 ≤ t ∧ t ≤ 100
          (¬good → same (exec (.eyFailsafe d) s) 0x82)
          ∧ (good → ¬(off v.pos ∧ off v.neg) → same (exec (.eyFailsafe d) s) 0x85)
          ∧ (good → off v.pos → off v.neg → 10000 ≤ y.nvWrites → same (exec (.eyFailsafe d) s) 0x86)
          ∧ (good → off v.pos → off v.neg → y.nvWrites < 10000 → Executes (exec (.eyFailsafe d) s) s n d 0 (fun k =>
              k = { c with ey := { y with
                nvWrites := y.nvWrites + 1
                r := { y.r with
                  fsafe := (d.pay 0).extractLsb' 0 16
                  wdt := { fsDly := BitVec.ofNat 7 dly, wdtT := BitVec.ofNat 7 t } } } })))))
    -- a register write of the modes: outputs with another owner keep their command
    ∧ (∀ w : Word, s.hostOpen n = true → Becomes (exec (.eyCmdWrite n w) s) s n (fun k =>
        let c := s.ch n
        (∀ i, i < 8 → k.ey.host.extractLsb' (2 * i) 2
          = if c.eyOwner i = .host then w.extractLsb' (2 * i) 2 else c.ey.host.extractLsb' (2 * i) 2)
        ∧ (k.ey.r.status.wrIgn = true ↔ c.ey.r.status.wrIgn = true
            ∨ ∃ i, i < 8 ∧ c.eyOwner i ≠ .host ∧ (w.extractLsb' (2 * i) 2).toNat ≠ c.eyMode i)
        ∧ k = { c with ey := { c.ey with host := k.ey.host, r.status.wrIgn := k.ey.r.status.wrIgn } }))

/-! ### Shank: the safety monitor -/

/-- SHANK_INPUT_SAMPLE, PAIR_DISCREPANCY, SF4_COMPARATOR, SAFE_PDU, SAFE_PATH_LOST, SAFE_PATH_RESTORED, SITE_PDU_SEND (R428,
R430 to R434, R451).
Choices of the model it rests on: log entries 8, 21. -/
def Obligations.ShankInputs : Prop :=
  ∀ (s : State) (n : Nat), s.soleUp n 3 = true →
    let c := s.ch n
    let x := c.shk
    let same (o : Host.Outcome State Fault Refusal) : Prop := Becomes o s n (fun k => k = c)
    -- the levels of SF1 and SF2 are judged anew: a source that newly demands latches its function
    let judged (k : Chan) : Prop :=
      let n1 := k.shk.lv1 &&& ~~~x.lv1
      let n2 := k.shk.lv2 &&& ~~~x.lv2
      k.shk.lv1 = k.shk.levels 1 ∧ k.shk.lv2 = k.shk.levels 2
      ∧ (n1 ≠ 0 → mbit k.shk.r.demand.latch 0 = true ∧ k.shk.pend0 = true ∧ k.shk.r.demand.lastSrc = lastSrcOf n1)
      ∧ (n2 ≠ 0 → mbit k.shk.r.demand.latch 1 = true ∧ k.shk.pend0 = true)
      ∧ (n1 = 0 → n2 = 0 → k.shk.r.demand = x.r.demand ∧ k.shk.pend0 = x.pend0)
      ∧ k.shk.pend1 = x.pend1 ∧ k.shk.r.status = x.r.status ∧ k.shk.block = x.block
      ∧ k = { c with shk := k.shk, met := k.met, jq := k.jq }
    (∀ lands : BitVec 6, ∃ k,
      (∀ i, i < 6 → k.shk.r.input.lands.getLsbD i
        = if x.sampled = true ∧ s.now < (vget x.tDiff i none).getD s.now + x.filt i then x.r.input.lands.getLsbD i
          else lands.getLsbD i)
      ∧ k.shk.sampled = true ∧ k.shk.src = x.src ∧ judged k
      -- a land of a pair that changes wakes the channel
      ∧ (let u := s.withCh n k
         Leaves (exec (.shankInputSample n lands) s)
          (if x.sampled = false ∨ (x.r.input.lands ^^^ (u.ch n).shk.r.input.lands) &&& 15 = 0 then u else u.pmWake n 2)))
    ∧ (∀ imd : Bool,
      let t := if imd then x.tPair.2 else x.tPair.1
      let due := held s.now t (msNs (10 * x.fld 2 8 8))
      (due = true → Becomes (exec (.pairDiscrepancy n imd) s) s n (fun k =>
        k = { c with shk.disc := if imd then (x.disc.1, true) else (true, x.disc.2), jq := k.jq }))
      ∧ (due = false → same (exec (.pairDiscrepancy n imd) s)))
    ∧ (s.soleUp n 2 = true →
      -- CE and ID are compared while POS or NEG is on; three samples out of range in a row raise SF4
      (∀ ce id : Nat,
        let ok := decide (100 * x.fld 10 24 8 ≤ ce) && decide (id < 100 * x.fld 10 16 8)
        (x.coil = (false, false) → Becomes (exec (.sf4Comparator n ce id) s) s n (fun k => k = { c with shk.sf4Run := 0 }))
        ∧ (x.coil ≠ (false, false) → ok = true → Becomes (exec (.sf4Comparator n ce id) s) s n (fun k =>
            k = { c with shk := { x with sf4Run := 0, r.input := { x.r.input with ceOk := true, idOk := true } } }))
        ∧ (x.coil ≠ (false, false) → ok = false → Becomes (exec (.sf4Comparator n ce id) s) s n (fun k =>
            k.shk.sf4Run = min 3 (x.sf4Run + 1)
            ∧ (x.sf4Run = 2 → k.shk.sf4Sig = true ∧ mbit k.shk.r.demand.latch 3 = true ∧ k.shk.pend0 = true)
            ∧ (x.sf4Run ≠ 2 → k.shk.sf4Sig = x.sf4Sig ∧ k.shk.r.demand = x.r.demand ∧ k.shk.pend0 = x.pend0)
            ∧ k = { c with shk := k.shk, met := k.met, jq := k.jq })))
      -- a copy that is good and new counts on its path; a bad one is counted and says nothing
      ∧ (∀ (path : Nat) (p : Vector Word 4),
        ((x.srcOf path p[0] = none ∨ x.pduOk p[0] p[1] p[2] p[3] = false) →
          Becomes (exec (.safePdu n path p) s) s n (fun k => k = { c with shk.r.cnt := { x.r.cnt with crcErr := satInc x.r.cnt.crcErr } }))
        ∧ (∀ i, x.srcOf path p[0] = some i → x.pduOk p[0] p[1] p[2] p[3] = true →
          let b := decide (path % 2 = 1)
          let q := p[0].extractLsb' 0 8
          let old := vget x.src i {}
          ((old.path b).seq = some q → same (exec (.safePdu n path p) s))
          ∧ ((old.path b).seq ≠ some q → Becomes (exec (.safePdu n path p) s) s n (fun k =>
              let new := vget k.shk.src i {}
              (new.path b).seq = some q ∧ (new.path b).tLast = s.now ∧ (new.path b).demands = decide (p[1] &&& 3 ≠ 0)
              ∧ (new.path b).lost = (old.path b).lost ∧ new.path (!b) = old.path (!b)
              ∧ (∀ j, j ≠ i → vget k.shk.src j {} = vget x.src j {}) ∧ judged k))))
      ∧ (∀ (i : Nat) (b : Bool), i < 6 →
        let p := (vget x.src i {}).path b
        let others (k : Chan) : Prop :=
          (vget k.shk.src i {}).path (!b) = (vget x.src i {}).path (!b) ∧ ∀ j, j ≠ i → vget k.shk.src j {} = vget x.src j {}
        (x.srcUsed i = true → p.lost = false → p.tLast + x.srcWd i ≤ s.now →
          Becomes (exec (.safePathLost n i b) s) s n (fun k =>
            (vget k.shk.src i {}).path b = { p with lost := true, okSince := none } ∧ others k ∧ judged k))
        ∧ ((x.srcUsed i = false ∨ p.lost = true ∨ s.now < p.tLast + x.srcWd i) → same (exec (.safePathLost n i b) s))
        ∧ (p.lost = true → held s.now p.okSince 1000000000 = true → s.now - p.tLast ≤ x.srcWd i →
          Becomes (exec (.safePathRestored n i b) s) s n (fun k =>
            (vget k.shk.src i {}).path b = { p with lost := false, okSince := none } ∧ others k ∧ judged k))
        ∧ ((p.lost = false ∨ held s.now p.okSince 1000000000 = false ∨ x.srcWd i < s.now - p.tLast) →
            same (exec (.safePathRestored n i b) s)))
      -- a master sends its PDU on both ring paths; the channels of its module see the same copies
      ∧ ((s.gcid n = none ∨ x.siteMaster = false) → same (exec (.sitePduSend n) s))
      ∧ (∀ g, s.gcid n = some g → x.siteMaster = true →
        let w0 := (1#32 <<< 24) ||| (3#32 <<< 16) ||| (BitVec.ofNat 32 (g % 256) <<< 8) ||| x.siteSeq.setWidth 32
        let w1 : Word := if x.lv1.getLsbD 0 then 1 else 0
        let w3 := crc32c [BitVec.ofNat 32 (x.fld 0 0 16), w0, w1, ~~~w1]
        let k : Chan := { c with shk.siteSeq := x.siteSeq + 1, oq := c.oq ++ [.frame .safe none [w0, w1, ~~~w1, w3]] }
        Leaves (exec (.sitePduSend n) s) ((List.range 4).foldl (fun (t : State) m =>
          t.onSole m 2 (fun e k => (k.shkPdu e 2 w0 w1 (~~~w1) w3).shkPdu e 3 w0 w1 (~~~w1) w3)) (s.withCh n k))))

/-- SHANK_DEMAND, SHANK_ARM, SHANK_FAULT, BLOCKED_CLEAR, DEGRADED_TIMEOUT, DEGRADED_CURRENT_CHECK, STOP1_TIMEOUT,
CONTACTOR_DELAY_END, SAFE_STOP_EXIT (R429, R435, R438): the transition table of R435, with what each action does.
Choices of the model it rests on: log entries 8, 21. -/
def Obligations.ShankStates : Prop :=
  ∀ (s : State) (n : Nat), s.soleUp n 2 = true →
    let c := s.ch n
    let x := c.shk
    let st := x.r.status.state
    let loopSt := c.loop.r.status.state
    let f := c.shkRelevant
    let same (o : Host.Outcome State Fault Refusal) : Prop := Becomes o s n (fun k => k = c)
    -- category 0: the gates are inhibited at once, and a running modulator trips
    let safe (k : Chan) : Prop :=
      k.shk.r.status.state = .safeStop ∧ k.shk.r.status.inhibit = true ∧ k.shk.tInh = s.now
      ∧ k.shk.r.status.disReq = (x.r.status.disReq || (!x.coil.1 && !x.coil.2))
      ∧ (c.pwm.r.status.state = .run → k.pwm.r.status.state = .tripped ∧ k.pwm.r.trip.shank = true)
      ∧ (c.pwm.r.status.state ≠ .run → k.pwm = c.pwm ∧ k.loop = c.loop)
      ∧ k = { c with shk := k.shk, pwm := k.pwm, met := k.met, loop := k.loop, jq := k.jq, cq := k.cq, oq := k.oq }
    -- category 1: a loop stop is requested
    let stop1 (k : Chan) : Prop :=
      k.shk.r.status.state = .stop1 ∧ k.shk.tStop1 = s.now
      ∧ (loopSt = .cv ∨ loopSt = .cc → k = { c with shk := k.shk, loop.stopReq := true, jq := k.jq, oq := k.oq })
      ∧ k = { c with shk := k.shk, pwm := k.pwm, loop := k.loop, jq := k.jq, oq := k.oq }
    let only (k : Chan) : Prop := k = { c with shk := k.shk, jq := k.jq, oq := k.oq }
    -- waiting demands act by their category
    ((st = .ready ∨ st = .degraded) → x.pend0 = true → Becomes (exec (.shankDemand n) s) s n (fun k => safe k ∧ k.shk.pend0 = false))
    ∧ ((st = .ready ∨ st = .degraded) → x.pend0 = false → x.pend1 = true →
        Becomes (exec (.shankDemand n) s) s n (fun k => stop1 k ∧ k.shk.pend1 = false))
    ∧ (st = .blocked → (x.pend0 = true ∨ x.pend1 = true) → Becomes (exec (.shankDemand n) s) s n safe)
    ∧ (st = .stop1 → x.pend0 = true → Becomes (exec (.shankDemand n) s) s n safe)
    ∧ ((st = .init ∨ st = .unarmed ∨ st = .safeStop ∨ (x.pend0 = false ∧ (x.pend1 = false ∨ st = .stop1))) →
        Becomes (exec (.shankDemand n) s) s n (fun k => k = { c with shk := { x with pend0 := false, pend1 := false } }))
    -- arming
    ∧ (let ok := decide (st = .unarmed) && decide (x.r.confCrc = x.r.crc) && c.mapMatches && !x.r.status.paramBad && x.quiet
      (ok = true → Becomes (exec (.shankArm n) s) s n (fun k =>
        k.shk.r.status.state = (if f = 0 then .ready else .blocked) ∧ k.shk.r.status.inhibit = c.core.meterRole
        ∧ k.shk.masked = false ∧ only k))
      ∧ (ok = false → same (exec (.shankArm n) s)))
    -- faults
    ∧ (st = .ready → f ≠ 0 → loopSt = .idle → Becomes (exec (.shankFault n) s) s n (fun k => k.shk.r.status.state = .blocked ∧ only k))
    ∧ (st = .ready → f ≠ 0 → loopSt ≠ .idle → Becomes (exec (.shankFault n) s) s n (fun k =>
        k.shk.r.status.state = .degraded ∧ k.shk.tDeg = s.now ∧ k.shk.degBits = f ∧ only k))
    ∧ (st = .degraded → f &&& ~~~x.degBits ≠ 0 → Becomes (exec (.shankFault n) s) s n safe)
    ∧ ((st = .ready ∧ f = 0) ∨ (st = .degraded ∧ f &&& ~~~x.degBits = 0) ∨ (st ≠ .ready ∧ st ≠ .degraded) → same (exec (.shankFault n) s))
    ∧ (st = .blocked → f = 0 → held s.now x.tClear 1000000000 = true →
        Becomes (exec (.blockedClear n) s) s n (fun k => k.shk.r.status.state = .ready ∧ only k))
    ∧ ((st ≠ .blocked ∨ f ≠ 0 ∨ held s.now x.tClear 1000000000 = false) → same (exec (.blockedClear n) s))
    ∧ (st = .degraded → x.tDeg + sNs (x.fld 11 0 16) ≤ s.now → Becomes (exec (.degradedTimeout n) s) s n stop1)
    ∧ ((st ≠ .degraded ∨ s.now < x.tDeg + sNs (x.fld 11 0 16)) → same (exec (.degradedTimeout n) s))
    -- the current in DEGRADED, 500 ms after its entry: above 1.1 times the cap for 100 ms
    ∧ (let mag (i : Nat) : Rat := if c.met.valid i then rabs (c.fast i) else 0
      let hi := decide (11 / 10 * x.iCap < max (mag 8) (mag 9))
      let t := x.tOver.getD s.now
      st = .degraded → x.tDeg + 500000000 ≤ s.now →
        (hi = true → t + 100000000 ≤ s.now → Becomes (exec (.degradedCurrentCheck n) s) s n safe)
        ∧ (hi = true → s.now < t + 100000000 → Becomes (exec (.degradedCurrentCheck n) s) s n (fun k => k = { c with shk.tOver := some t }))
        ∧ (hi = false → Becomes (exec (.degradedCurrentCheck n) s) s n (fun k => k = { c with shk.tOver := none })))
    ∧ ((st ≠ .degraded ∨ s.now < x.tDeg + 500000000) → same (exec (.degradedCurrentCheck n) s))
    -- the end of STOP1, the contactors after CT_DLY, and the way out of the safe state
    ∧ (st = .stop1 → (loopSt = .idle ∨ x.tStop1 + msNs (x.fld 10 0 16) ≤ s.now) → Becomes (exec (.stop1Timeout n) s) s n safe)
    ∧ ((st ≠ .stop1 ∨ (loopSt ≠ .idle ∧ s.now < x.tStop1 + msNs (x.fld 10 0 16))) → same (exec (.stop1Timeout n) s))
    ∧ (st = .safeStop → x.masked = false → x.tInh + msNs (x.fld 2 0 8) ≤ s.now →
        Becomes (exec (.contactorDelayEnd n) s) s n (fun k => k = { c with shk := { x with
          masked := true, tpKeep := (false, false), r.status.disReq := x.r.status.disReq || (!x.coil.1 && !x.coil.2) } }))
    ∧ ((st ≠ .safeStop ∨ x.masked = true ∨ s.now < x.tInh + msNs (x.fld 2 0 8)) → same (exec (.contactorDelayEnd n) s))
    ∧ (let ok := decide (st = .safeStop) && x.masked && x.quiet && x.weldDone && x.tSf5.isNone && decide (x.tOffC = (none, none))
        && decide (x.coil = (false, false))
      (ok = true → Becomes (exec (.safeStopExit n) s) s n (fun k =>
        k.shk.r.status.state = (if f = 0 then .ready else .blocked) ∧ k.shk.r.status.inhibit = c.core.meterRole
        ∧ k.shk.r.status.disReq = false ∧ k.shk.masked = false ∧ only k))
      ∧ (ok = false → same (exec (.safeStopExit n) s)))

/-- TEST_PULSE, TEST_PULSE_END, CLOCK_MONITOR_TRIP, PWM_PERIOD_WATCHDOG_TRIP, WELD_CHECK, DISCHARGE_CHECK, PARAM_BLOCK_CHECK
(R435, R439 to R443, R445 to R447).
Choices of the model it rests on: log entries 8, 21. -/
def Obligations.ShankTestsAndWatches : Prop :=
  ∀ (s : State) (n : Nat), s.soleUp n 2 = true →
    let c := s.ch n
    let x := c.shk
    let st := x.r.status.state
    let loopSt := c.loop.r.status.state
    let same (o : Host.Outcome State Fault Refusal) : Prop := Becomes o s n (fun k => k = c)
    -- a trip enters SAFE_STOP, unless Shank is in INIT or there already
    let safe (k : Chan) : Prop :=
      (st ≠ .init → k.shk.r.status.state = .safeStop) ∧ (st = .init → k.shk.r.status.state = .init)
      ∧ (st ≠ .init → st ≠ .safeStop → k.shk.r.status.inhibit = true ∧ k.shk.tInh = s.now)
    let side {α : Type} (p : α × α) (neg : Bool) : α := if neg then p.2 else p.1
    let only (k : Chan) : Prop := k = { c with shk := k.shk, met := k.met, jq := k.jq }
    -- the pulse due masks the output whose turn it is
    (c.tpMay = true → x.tpDue ≤ s.now → Becomes (exec (.testPulse n) s) s n (fun k => k = { c with shk := { x with
        tpDue := s.now + sNs (x.fld 14 16 16), tpT := s.now, tpNeg := x.r.tp.next
        tpOn := c.coilOn (x.out x.r.tp.next), tpSeen := false
        r.tp := { x.r.tp with active := true, next := !x.r.tp.next } } }))
    ∧ ((c.tpMay = false ∨ s.now < x.tpDue) → same (exec (.testPulse n) s))
    ∧ (x.r.tp.active = true → x.tpT + 340000 ≤ s.now →
      let cut := decide (st = .safeStop) || (x.tpOn && decide (c.eyMode (x.out x.tpNeg) = 0))
      (cut = true → Becomes (exec (.testPulseEnd n) s) s n (fun k =>
        k.shk.r.tp = { x.r.tp with active := false, last := .preempted, preempt := satInc x.r.tp.preempt }
        ∧ (x.tpOn = true → side k.shk.coil x.tpNeg = false)
        ∧ (x.tpOn = true → x.sf6En = true → side k.shk.tOffC x.tpNeg = some x.tpT) ∧ only k))
      ∧ (cut = false → x.tpSeen = true → Becomes (exec (.testPulseEnd n) s) s n (fun k => k = { c with shk := { x with
          tpBack := x.tpOn, r.tp := { x.r.tp with active := false, last := .passed, pass := satInc x.r.tp.pass } } }))
      ∧ (cut = false → x.tpSeen = false → Becomes (exec (.testPulseEnd n) s) s n (fun k =>
          k.shk.tpFail = true ∧ k.shk.r.tp = { x.r.tp with active := false, last := .failed }
          ∧ (if loopSt ≠ .idle ∧ loopSt ≠ .fault then k.shk.r.status.state = .stop1 else safe k))))
    ∧ ((x.r.tp.active = false ∨ s.now < x.tpT + 340000) → same (exec (.testPulseEnd n) s))
    -- the reference more than 12 % off in both windows
    ∧ (∀ d1 d2 : Int,
      let bad (d : Int) : Bool := decide (120 < d.natAbs)
      (bad d1 = true → bad d2 = true → Becomes (exec (.clockMonitorTrip n d1 d2) s) s n (fun k =>
        k.shk.onRc = true ∧ k.shk.clkTrip = true ∧ k.shk.refOk = none ∧ safe k))
      ∧ (bad d1 ≠ bad d2 → Becomes (exec (.clockMonitorTrip n d1 d2) s) s n (fun k => k = { c with shk.refOk := none }))
      ∧ (bad d1 = false → bad d2 = false → Becomes (exec (.clockMonitorTrip n d1 d2) s) s n (fun k =>
          k = { c with shk.refOk := some (x.refOk.getD s.now) })))
    -- the carrier: only in RUN; the first interval of a watched phase is discarded; two intervals out of range trip
    ∧ (∀ (iv : Nat) (marker : Bool),
      let o := exec (.pwmPeriodWatchdogTrip n iv marker) s
      let run := c.pwm.r.status.state = .run
      let first := x.pwPh ≠ c.pwWatched ∨ c.pwWatched = none
      let iv4 := iv / 4 * 4
      let good := x.fld 13 0 16 ≤ iv4 ∧ iv4 ≤ x.fld 13 16 16
      (¬run → Becomes o s n (fun k => k = { c with shk := { x with pwPh := none, pwBad := 0 } }))
      ∧ (run → marker = true → first → Becomes o s n (fun k => k = { c with shk := { x with pwPh := c.pwWatched, pwBad := 0 } }))
      ∧ (run → marker = true → ¬first → good → Becomes o s n (fun k =>
          k = { c with shk := { x with pwBad := 0, r.pw := BitVec.ofNat 16 (min 0xFFFF iv4) } }))
      ∧ (run → marker = true → ¬first → ¬good → x.pwBad = 0 → Becomes o s n (fun k =>
          k = { c with shk := { x with pwBad := 1, r.pw := BitVec.ofNat 16 (min 0xFFFF iv4) } }))
      ∧ (run → marker = true → ¬first → ¬good → x.pwBad ≠ 0 → Becomes o s n (fun k => k.shk.pwWd = true ∧ safe k))
      ∧ (run → marker = false → Becomes o s n (fun k => k.shk.pwWd = true ∧ k.shk.r.pw = x.r.pw ∧ safe k)))
    -- the mirror contacts, WELD_T after a coil went off or on
    ∧ (∀ neg : Bool,
      let opn := x.r.input.lands.getLsbD (if neg then 5 else 4)
      let wt := msNs (x.fld 12 0 16)
      let off := held s.now (side x.tOffC neg) wt
      let on := held s.now (side x.tOnC neg) wt
      (x.sf6En = true → off = true → opn = false → Becomes (exec (.weldCheck n neg) s) s n (fun k =>
        mbit k.shk.r.demand.latch 5 = true ∧ k.shk.pend0 = true ∧ side k.shk.tOffC neg = none ∧ only k))
      ∧ (x.sf6En = true → off = true → opn = true → Becomes (exec (.weldCheck n neg) s) s n (fun k =>
        side k.shk.tOffC neg = none ∧ k = { c with shk.tOffC := k.shk.tOffC }))
      ∧ (x.sf6En = true → off = false → on = true → Becomes (exec (.weldCheck n neg) s) s n (fun k =>
        side k.shk.mirror neg = (opn || side x.mirror neg) ∧ side k.shk.tOnC neg = none
        ∧ k = { c with shk := { x with mirror := k.shk.mirror, tOnC := k.shk.tOnC }, jq := k.jq }))
      ∧ ((x.sf6En = false ∨ (off = false ∧ on = false)) → same (exec (.weldCheck n neg) s)))
    -- V11 below 60 V one second after the contactors turned off, and readable all that time; else SF5
    ∧ (held s.now x.tSf5 1000000000 = true → (x.sf5Flt = true ∨ 60 ≤ c.vCon) →
        Becomes (exec (.dischargeCheck n) s) s n (fun k =>
          mbit k.shk.r.demand.latch 4 = true ∧ k.shk.pend0 = true ∧ k.shk.r.status.disReq = x.r.status.disReq ∧ k.shk.tSf5 = none ∧ only k))
    ∧ (held s.now x.tSf5 1000000000 = true → x.sf5Flt = false → c.vCon < 60 →
        Becomes (exec (.dischargeCheck n) s) s n (fun k => k = { c with shk := { x with
          tSf5 := none, r.status.disReq := decide (st = .safeStop) && x.r.status.disReq } }))
    ∧ (held s.now x.tSf5 1000000000 = false → same (exec (.dischargeCheck n) s))
    -- the block in use against its stored CRC
    ∧ (∀ (word : Nat) (flip : Word),
      let b := vMod x.block word (fun (w : Word) => w ^^^ flip)
      (blockCrc b = x.storedCrc → x.storedOk = true → Becomes (exec (.paramBlockCheck n word flip) s) s n (fun k =>
        k = { c with shk := { x with block := b, r.crc := blockCrc b } }))
      ∧ ((blockCrc b ≠ x.storedCrc ∨ x.storedOk = false) → Becomes (exec (.paramBlockCheck n word flip) s) s n (fun k =>
        k.shk.r.status.paramBad = true ∧ k.shk.block = b ∧ k.shk.r.crc = blockCrc b
        ∧ k.shk.r.status.state = (if st = .init then .init else .unarmed)
        ∧ (st ≠ .init → k.shk.r.status.inhibit = true ∧ k.shk.masked = true))))

/-- SHK_PARAM_WRITE, SHK_CONFIRM, SHK_RESET, SHK_TEST (R435, R439, R446 to R448, R453, R454).
Choices of the model it rests on: log entry 21. -/
def Obligations.ShankDescriptors : Prop :=
  ∀ (s : State) (n : Nat) (d : Desc), n < 4 → s.takes n d = true →
    let c := (s.taken n d).ch n
    let x := c.shk
    let st := x.r.status.state
    let same (o : Host.Outcome State Fault Refusal) (code : Nat) : Prop := Executes o s n d code (fun k => k = c)
    (d.opcode = 0x0601 → d.onlyBits (0x000F000F :: List.replicate 6 0xFFFFFFFF) = true →
      let word := d.fld 0 0 4
      let m := d.fld 0 16 4
      let lc := c.key.r.lcStatus.state
      (lc ≠ .verify → lc ≠ .service → same (exec (.shkParamWrite d) s) 0x90)
      ∧ ((lc = .verify ∨ lc = .service) → c.loop.r.status.state ≠ .idle → same (exec (.shkParamWrite d) s) 0x91)
      ∧ ((lc = .verify ∨ lc = .service) → c.loop.r.status.state = .idle → (m = 0 ∨ 6 < m ∨ 16 < word + m) →
          same (exec (.shkParamWrite d) s) 0x92)
      -- an accepted write is stored, clears the confirmation, and disarms
      ∧ ((lc = .verify ∨ lc = .service) → c.loop.r.status.state = .idle → 1 ≤ m → m ≤ 6 → word + m ≤ 16 →
          Executes (exec (.shkParamWrite d) s) s n d 0 (fun k =>
            (∀ j, j < 16 → vget k.shk.block j 0
              = if word ≤ j ∧ j < word + m then d.pay (1 + (j - word)) else vget x.block j 0)
            ∧ k.shk.stored = k.shk.block ∧ k.shk.storedCrc = blockCrc k.shk.block ∧ k.shk.storedOk = true
            ∧ k.shk.r.crc = blockCrc k.shk.block ∧ k.shk.r.confCrc = 0 ∧ k.shk.r.status.paramBad = false
            ∧ k.shk.r.status.state = (if st = .init then .init else .unarmed)
            ∧ (st ≠ .init → k.shk.r.status.inhibit = true ∧ k.shk.masked = true))))
    ∧ (d.opcode = 0x0602 → d.onlyBits [0xFFFFFFFF] = true →
      (d.pay 0 = x.r.crc → x.inRange = true → Executes (exec (.shkConfirm d) s) s n d 0 (fun k => k = { c with shk.r.confCrc := d.pay 0 }))
      ∧ (d.pay 0 = x.r.crc → x.inRange = false → same (exec (.shkConfirm d) s) 0x92)
      ∧ (d.pay 0 ≠ x.r.crc → same (exec (.shkConfirm d) s) 0x93))
    -- a manual reset: refused whole while the condition of one function named does not hold
    ∧ (d.opcode = 0x0603 → d.onlyBits [0xF3F] = true →
      ((∃ b, b < 12 ∧ d.bit 0 b = true ∧ c.shkResetOk s.env b = false) → same (exec (.shkReset d) s) 0x94)
      ∧ ((∀ b, b < 12 → d.bit 0 b = true → c.shkResetOk s.env b = true) → Executes (exec (.shkReset d) s) s n d 0 (fun k =>
          (∀ b, b < 6 → mbit k.shk.r.demand.latch b = (mbit x.r.demand.latch b && !(d.bit 0 b)))
          ∧ k.shk.tpFail = (x.tpFail && !(d.bit 0 8)) ∧ k.shk.inhibTest = (x.inhibTest && !(d.bit 0 8))
          ∧ k.shk.pwWd = (x.pwWd && !(d.bit 0 9)) ∧ k.shk.clkTrip = (x.clkTrip && !(d.bit 0 10))
          ∧ k.shk.disc = (if d.bit 0 11 then (false, false) else x.disc)
          ∧ k.shk.r.status = x.r.status ∧ k = { c with shk := k.shk }))
      -- SF5 is reset only while V11 reads below 60 V
      ∧ (d.bit 0 4 = true → mbit x.r.demand.latch 4 = true → 60 ≤ c.vCon → same (exec (.shkReset d) s) 0x94))
    ∧ (d.opcode = 0x0604 → d.onlyBits [] = true →
      ((x.r.tp.active = true ∨ (st ≠ .ready ∧ st ≠ .degraded)) → same (exec (.shkTest d) s) 0x95)
      ∧ (x.r.tp.active = false → (st = .ready ∨ st = .degraded) → x.tpBack = false →
          (vget c.ey.r.ostat (x.out x.r.tp.next) {}).state ≠ .inrush → Executes (exec (.shkTest d) s) s n d 0 (fun k =>
            k.shk.r.tp = { x.r.tp with active := true, next := !x.r.tp.next } ∧ k.shk.tpNeg = x.r.tp.next ∧ k.shk.tpT = s.now
            ∧ k.shk.r.status = x.r.status ∧ k = { c with shk := k.shk })))

/-! ### The coordinator pair, firmware and the service hold -/

/-- COORD_ELECT, MIRROR_CAPS, MIRROR_CTX, CHECKPOINT_TIMER, CKPT, VERDICT, TAKEOVER_FRAME, HIGHER_GEN_GRANT, PLANNER_WAKE_DONE,
SWAP_REQ, SWAP_ACK (R548 to R551, R556, R557, R560).
Choices of the model it rests on: log entries 8, 19. -/
def Obligations.CoordinatorPair : Prop :=
  ∀ (s : State), s.engUp = true →
    let e0 := s.hub.eng
    let p := e0.pair
    let t := s.pmWake 4 8
    -- a cold start, with a generation above every one seen
    (∀ r : Nat, e0.rank s.lctx = some r → e0.role = .none → e0.actPresent s.now = false →
      e0.goneSince + msNs 10 + msNs (2 * r) ≤ s.now →
      EngBecomes (exec .coordElect s) s (fun e =>
        e.role = .active ∧ e.last.r.gen = genMax e0.last.r.gen p.genSeen + 1
        ∧ (∀ c, c ∈ e.last.ctxs → c.st = .absent ∧ c.resv = c.cfg.floor)))
    ∧ (e0.role ≠ .none → EngBecomes (exec .coordElect s) s (fun e => e = e0))
    -- the standby's mirror; another engine ignores it
    ∧ (∀ ws : List Word,
      (e0.role = .sync ∨ e0.role = .standby →
        EngBecomes (exec (.mirrorCaps ws) s) t (fun e =>
          e.pair.mirEpoch = some (ws.getD 1 0)
          ∧ e.pair.mirRun = (if p.mirEpoch.any (fun m => decide (ws.getD 1 0 = m + 1)) then p.mirRun + 1 else 1)
          ∧ e.last = e0.last ∧ e.role = e0.role)
        ∧ (p.mirEpoch ≠ some (ws.getD 1 0) → EngBecomes (exec (.mirrorCtx ws) s) t (fun e => e = e0))
        ∧ (p.mirEpoch = some (ws.getD 1 0) → EngBecomes (exec (.mirrorCtx ws) s) t (fun e =>
            (∀ x, x ∈ (chunks 8 255 (ws.drop 2)).map MirCtx.ofWords → x ∈ e.pair.mirCtx)
            ∧ (e0.role = .sync → p.ckpt.isSome = true → 16 ≤ p.mirRun → e.role = .standby)
            ∧ (p.ckpt = none ∨ p.mirRun < 16 → e.role = e0.role) ∧ e.last = e0.last)))
      ∧ (e0.role ≠ .sync → e0.role ≠ .standby →
        EngBecomes (exec (.mirrorCaps ws) s) t (fun e => e = e0) ∧ EngBecomes (exec (.mirrorCtx ws) s) t (fun e => e = e0)
        ∧ EngBecomes (exec (.ckpt ws) s) t (fun e => e = e0)))
    -- a checkpoint leaves the active engine, and is whole at the standby with its last part
    ∧ (∀ n : Nat, e0.active = true → e0.peer s.lctx = some n →
      EngBecomes (exec .checkpointTimer s) s (fun e =>
        (∃ xs, xs ≠ [] ∧ e.tx = e0.tx ++ xs ∧ ∀ x, x ∈ xs → x.1 = .pair ∧ x.2.1 = some n) ∧ e = { e0 with tx := e.tx }))
    ∧ (∀ ws : List Word, e0.role = .standby → p.part = none → p.swap = none → ws.getD 2 0 = 0x00010000 →
      EngBecomes (exec (.ckpt ws) s) t (fun e =>
        (∃ c, e.pair.ckpt = some c ∧ c.gen = (ws.getD 0 0).extractLsb' 0 16 ∧ c.epoch = ws.getD 1 0 ∧ c.t = s.now)
        ∧ e.pair.part = none ∧ e.role = .standby ∧ e.last = e0.last))
    ∧ (∀ w : Vector Word 2,
      (e0.active = true → w[0].extractLsb' 28 4 ≠ 0 →
        EngBecomes (exec (.verdict w) s) t (fun e => (∃ x, e.jq = e0.jq ++ [x] ∧ x.ev = JEv.verdict) ∧ e = { e0 with jq := e.jq }))
      ∧ (e0.active = false ∨ w[0].extractLsb' 28 4 = 0 → EngBecomes (exec (.verdict w) s) t (fun e => e = e0))
      -- an active engine that a takeover names gives up its role, and no other does
      ∧ (e0.active = true → s.nid = some (w[0].extractLsb' 0 6).toNat →
        EngBecomes (exec (.takeoverFrame w) s) t (fun e =>
          e.role = .demoted ∧ e.pair.demote = true ∧ e.pair.r.evt.demoted = true ∧ e.last = e0.last ∧ e.tx = e0.tx))
      ∧ (e0.active = false ∨ s.nid ≠ some (w[0].extractLsb' 0 6).toNat →
        EngBecomes (exec (.takeoverFrame w) s) t (fun e => e = e0))
      ∧ (∀ x : SwapSt, e0.active = true → p.swap = some x → x.epochS = w[0] →
        EngBecomes (exec (.swapAck w) s) t (fun e => e = { e0 with pair.swap := some { x with acked := true } }))
      ∧ (∀ src : Nat, e0.role = .standby → EngBecomes (exec (.swapReq src w) s) t (fun e =>
          e = { e0 with pair := { p with swap := some { epochS := w[0], acked := false, ref := none, peer := src }, ckpt := none } }))
      ∧ (∀ src : Nat, e0.role ≠ .standby → EngBecomes (exec (.swapReq src w) s) t (fun e => e = e0)))
    -- a grant frame of a higher generation ends the role of an active engine
    ∧ (∀ ws : List Word, (ws.getD 2 0).extractLsb' 16 9 = 0 →
      let f := GFrame.ofWords s.now ws
      e0.active = true → s.nid ≠ some f.nid → laterBv p.genSeen f.gen = false → laterBv f.gen e0.last.r.gen = true →
      EngBecomes (exec (.higherGenGrant ws) s) s (fun e =>
        e.active = false ∧ e.pair.act = some (f.nid, f.gen, s.now) ∧ e.pair.genSeen = f.gen ∧ e.pair.r.evt.overlap = true
        ∧ e.last = e0.last))
    ∧ (∀ x : Nat, p.tWake = some x → x ≤ s.now →
      EngBecomes (exec .plannerWakeDone s) s (fun e =>
        e.pair.r.status.planOn = true ∧ e.pair.tWake = none ∧ e.last = e0.last ∧ e.role = e0.role))

/-- PAIR_ASSIGN, PAIR_SWAP, CH_HOLD (R560, R561, R563, R573 to R575).
Choices of the model it rests on: log entry 19. -/
def Obligations.PairAndHoldDescriptors : Prop :=
  ∀ (s : State) (die : Nat) (d : Desc), s.takes die d = true →
    let e0 := s.hub.eng
    let t := s.taken die d
    let pf := d.fld 0 4 2
    (die = 4 → d.opcode = 0x0804 → e0.active = true → e0.overlap s.now = false → (∀ x, x ∈ s.lctx.nodes → some x = s.nid) →
      d.onlyBits [0xBFBF0003] = true →
      let c : PairCfg := { aValid := d.bit 0 31, nidA := (d.pay 0).extractLsb' 24 6, bValid := d.bit 0 23
                           nidB := (d.pay 0).extractLsb' 16 6, sbyRest := d.bit 0 1, auto := d.bit 0 0 }
      ((c.aValid = false ∨ c.bValid = false ∨ c.nidA ≠ c.nidB) →
        EngExecutes (exec (.pairAssign d) s) s die d 0 (fun e => e.pair.r.cfg = c ∧ e.role = .active ∧ e.last = e0.last))
      ∧ (c.aValid = true → c.bValid = true → c.nidA = c.nidB → Rejects (exec (.pairAssign d) s) s die d 0xAA))
    -- a swap is announced to the standby and completes at its boundary
    ∧ (die = 4 → d.opcode = 0x0805 → d.onlyBits [] = true → e0.active = true → e0.overlap s.now = false →
      (e0.quorum s.lctx = false → Rejects (exec (.pairSwap d) s) s die d 0xA9)
      ∧ (e0.quorum s.lctx = true → s.lctx.sby.filter (fun n => decide (n ≠ s.lctx.nid.getD 64)) = [] →
          Rejects (exec (.pairSwap d) s) s die d 0xA6)
      ∧ (∀ (n : Nat) (ns : List Nat), e0.quorum s.lctx = true →
          s.lctx.sby.filter (fun n => decide (n ≠ s.lctx.nid.getD 64)) = n :: ns → e0.pair.swap = none →
          EngBecomes (exec (.pairSwap d) s) t (fun e =>
            (∃ x, e.pair.swap = some x ∧ x.peer = n ∧ x.acked = false ∧ x.ref = some (s.refOf die d)) ∧ e.role = .active)))
    -- the hold of a channel
    ∧ (die < 4 → d.opcode = 0x0806 → d.onlyBits [0x131] = true → pf ≠ 3 →
      let c := t.ch die
      let p : SvcPurpose := if pf = 0 then .service else if pf = 1 then .update else .test
      (d.bit 0 8 = false → p ≠ .service → t.heldElse die = true → Rejects (exec (.chHold d) s) s die d 0xA8)
      ∧ (d.bit 0 8 = false → d.bit 0 0 = false → (p = .service ∨ t.heldElse die = false) → c.core.r.svc.state = .inService →
          Executes (exec (.chHold d) s) s die d 0 (fun k =>
            k = { c with core.r.svc := { state := .draining, purpose := p, stop := false } }))
      ∧ (d.bit 0 8 = true → (s.hub.cob.run.any (fun (r : CobRun) => decide (r.task.die = die) && cobC r.task.test)) = false →
          Executes (exec (.chHold d) s) s die d 0 (fun k =>
            k = { c with core.r.svc := { c.core.r.svc with state := .inService, stop := false } })))

/-- FW_LOAD, FW_COMMIT, FW_COMMIT_DONE, FW_ACTIVATE, FW_RUNNING, TRIAL_LAPSE (R565 to R568, R574, R575, R704, R705): the units are
channels 0 to 3 and the hub at 4.
Choices of the model it rests on: log entries 8, 28. -/
def Obligations.FirmwareInService : Prop :=
  ∀ (s : State) (u : Nat), u < 5 →
    let f : FwSt := vget s.hub.fw u {}
    -- another state of the firmware of unit u, shown in its registers, with nothing else changed
    let turned (t t' : State) (g : FwSt) : Prop :=
      vget t'.hub.fw u {} = g ∧ (∀ v, v ≠ u → vget t'.hub.fw v {} = vget t.hub.fw v {})
      ∧ (∀ n, n < 4 → ∃ r, t'.ch n = { t.ch n with core.r := r })
      ∧ t' = { t with chans := t'.chans, hub := { t.hub with fw := t'.hub.fw, r := t'.hub.r } }
    (∀ d : Desc, s.takes u d = true →
      let t := s.taken u d
      let ref := s.refOf u d
      (d.opcode = 0x0801 → d.onlyBits [7, 0xFFFFFFFF, 0xFFFFFFFF] = true →
        let n := (d.pay 1).toNat
        (f.commit = false → f.act = false → 4 ≤ n → n % 4 = 0 → n ≤ fwMax u → s.xferOf (d.fld 0 0 3) = none →
          Leaves (exec (.fwLoad d) s) { t with xfers := s.xfers ++
            [{ die := u, d := d, ref := ref, port := d.fld 0 0 3, isOut := false, words := [], need := n / 4 }] })
        ∧ (f.commit = false → f.act = false → n < 4 ∨ n % 4 ≠ 0 ∨ fwMax u < n → Rejects (exec (.fwLoad d) s) s u d 0xA0)
        ∧ (f.commit = true ∨ f.act = true → Rejects (exec (.fwLoad d) s) s u d 0xAB))
      ∧ (d.opcode = 0x0802 → d.onlyBits [0, 0, 0xFFFFFFFF] = true → f.commit = false → f.act = false →
        (∀ im, f.staged = some im → imgVersion im = d.pay 2 →
          ∃ t', Leaves (exec (.fwCommit d) s) t'
            ∧ turned t t' { f.setOther none with commit := true, tCommit := s.now, ref := some ref })
        ∧ (f.staged = none → Rejects (exec (.fwCommit d) s) s u d 0xA1))
      ∧ (d.opcode = 0x0803 → d.onlyBits [3, 0xFFFF] = true → d.bit 0 0 = false → d.bit 0 1 = false →
        f.commit = false → f.act = false → u < 4 → (s.ch u).core.run = 2 →
        let svc := (s.ch u).core.r.svc
        (svc.state = .held → svc.purpose = .update → f.committed = true →
          ∃ t', Leaves (exec (.fwActivate d) s) t'
            ∧ turned t t' { f with boot := !f.boot, prev := f.boot, trialF := true, ref := some ref, act := true, tAct := s.now
                                   back := false, tTrial := none, trial := sNs (max 10 (min 3600 (d.fld 1 0 16))) })
        ∧ (svc.state ≠ .held ∨ svc.purpose ≠ .update → Rejects (exec (.fwActivate d) s) s u d 0xA3)
        ∧ (svc.state = .held → svc.purpose = .update → f.committed = false → Rejects (exec (.fwActivate d) s) s u d 0xA2)))
    -- the end of a commit
    ∧ (f.commit = true →
      (∃ t', Leaves (exec (.fwCommitDone u true) s) (t'.complRef f.ref 0)
        ∧ turned s t' (({ f with commit := false, ref := none } : FwSt).setOther f.staged))
      ∧ (∃ t', Leaves (exec (.fwCommitDone u false) s) t' ∧ turned s t' { f with commit := false, ref := none }))
    ∧ (f.commit = false → ∀ ok, Leaves (exec (.fwCommitDone u ok) s) s)
    -- the new firmware of a channel runs, and its trial opens; a trial that lapses reactivates the slot before
    ∧ (u < 4 → f.act = true → f.back = false → (s.ch u).core.run = 2 →
      ∃ t', Leaves (exec (.fwRunning u) s) (t'.complRef f.ref 0)
        ∧ turned s t' { f with act := false, ref := none, tTrial := some (s.now + f.trial) })
    ∧ (∀ x : Nat, u < 4 → f.tTrial = some x → x ≤ s.now →
      ∃ t', Leaves (exec (.trialLapse u) s) (t'.hubJr JEv.trialFail [(u : Int)])
        ∧ turned s t' { f with boot := f.prev, trialF := false, ref := none, act := true, tAct := s.now, back := true, tTrial := none })
/-! ### The ring -/

/-- BLOCK_LOCK, AWL_BLOCK, LINK_UP, LINK_DOWN, RING_ISOLATE, WRAP_RELEASE, LANE_SLEEP, LANE_WAKE, LOOPBACK_WRITE, ERR_SELECT,
ERR_CLEAR (R462 to R464, R480, R481, R496 to R498, R504).
Choices of the model it rests on: log entry 8. -/
def Obligations.RingLinks : Prop :=
  ∀ (s : State) (w : Bool), s.hub.ringRuns = true →
    let g := s.hub.ring
    let l := g.link w
    let at_ (h : Ring) : LinkSt := h.link w
    let lane (x : LinkSt) (i : Nat) : LaneSt := vget x.lane i {}
    let same (o : Host.Outcome State Fault Refusal) : Prop := RingBecomes o s (fun h => h = g)
    -- nothing but this link and the events
    let only (h : Ring) : Prop := h = { g.setLink w (at_ h) with r.evt := h.r.evt }
    let down (h : Ring) : Prop :=
      (at_ h).st = .down ∧ (at_ h).wrap = true ∧ (at_ h).nbr = none ∧ (lane (at_ h) 0).seen = 0 ∧ (lane (at_ h) 1).seen = 0
      ∧ (l.st = .up → (if w then h.r.evt.linkWDown else h.r.evt.linkEDown) = true) ∧ only h
    (l.st = .down → RingBecomes (exec (.blockLock w) s) s (fun h =>
        (at_ h).st = .lock ∧ (lane (at_ h) 0).seen = 0 ∧ (lane (at_ h) 1).seen = 0 ∧ (at_ h).wrap = l.wrap ∧ only h))
    ∧ (l.st ≠ .down → same (exec (.blockLock w) s))
    -- Awl blocks: a lane locks on two in a row and unlocks on the fourth position without one
    ∧ (∀ (lane1 : Bool) (blk : BitVec 64) (bip : Byte) (skew bad ctl : Nat), l.canFall = true → (lane1 && l.rxSleep) = false →
      let o := exec (.awlBlock w lane1 blk bip skew bad ctl) s
      let i := b2n lane1
      let x := lane l i
      let y := lane l (1 - i)
      let counts (h : Ring) (bips : Nat) : Prop :=
        vget (lane (at_ h) i).err 0 0 = satAdd (vget x.err 0 0) bad ∧ vget (lane (at_ h) i).err 5 0 = satAdd (vget x.err 5 0) ctl
        ∧ vget (lane (at_ h) i).err 4 0 = satAdd (vget x.err 4 0) bips
      (awlOk blk = false → x.seen = 2 → 3 ≤ x.miss → RingBecomes o s (fun h => down h ∧ counts h 0))
      ∧ (awlOk blk = false → x.seen = 2 → x.miss < 3 → RingBecomes o s (fun h =>
          (lane (at_ h) i).miss = x.miss + 1 ∧ (lane (at_ h) i).seen = 2 ∧ (at_ h).st = l.st ∧ counts h 0 ∧ only h))
      ∧ (awlOk blk = false → x.seen ≠ 2 → RingBecomes o s (fun h =>
          (lane (at_ h) i).seen = 0 ∧ (at_ h).st = l.st ∧ counts h 0 ∧ only h))
      ∧ (awlOk blk = true →
          let b4 : Byte := blk.extractLsb' 32 8
          let seen := min 2 (x.seen + 1)
          let asleep := if lane1 then l.rxSleep else b4.getLsbD 1
          let locked := seen = 2 ∧ (y.seen = 2 ∨ (lane1 = false ∧ asleep = true))
          let bips := if 0 < x.seen then mcount ((blk.extractLsb' 40 8 : Byte) ^^^ bip) else 0
          let skewed := asleep = false ∧ 32 < skew
          (locked → skewed → RingBecomes o s (fun h => down h ∧ h.r.evt.skewErr = true ∧ counts h bips))
          ∧ (locked → ¬skewed → l.st = .lock → RingBecomes o s (fun h =>
              (at_ h).st = .align ∧ (at_ h).tClean = s.now ∧ (lane (at_ h) i).seen = seen ∧ counts h bips ∧ only h))
          ∧ (¬(locked ∧ skewed) → (¬locked ∨ l.st ≠ .lock) → RingBecomes o s (fun h =>
              (at_ h).st = l.st ∧ (lane (at_ h) i).seen = seen ∧ (lane (at_ h) i).miss = 0 ∧ (at_ h).l1Ready = b4.getLsbD 0
              ∧ (at_ h).rxSleep = asleep
              ∧ (at_ h).nbr = (if blk.getLsbD 23 then some (blk.extractLsb' 16 6) else none) ∧ counts h bips ∧ only h))))
    ∧ (l.st = .align → l.tClean + 1000000 ≤ s.now → (l.l1Ready || l.txSleep) = true →
        RingBecomes (exec (.linkUp w) s) s (fun h =>
          (at_ h).st = .up ∧ (at_ h).tUp = s.now ∧ (at_ h).wrap = l.wrap ∧ h.r = g.r ∧ h.link (!w) = g.link (!w)))
    ∧ ((l.st ≠ .align ∨ s.now < l.tClean + 1000000 ∨ (l.l1Ready || l.txSleep) = false) → same (exec (.linkUp w) s))
    -- what takes a link down; a sleeping lane takes none down
    ∧ (l.canFall = true →
      (∀ lane1 : Bool, (lane1 && l.rxSleep) = false →
        RingBecomes (exec (.linkDown w (.blockLock lane1)) s) s (fun h =>
          down h ∧ vget (lane (at_ h) (b2n lane1)).err 1 0 = satAdd (vget (lane l (b2n lane1)).err 1 0) 1)
        ∧ RingBecomes (exec (.linkDown w (.hiBer lane1)) s) s (fun h =>
          down h ∧ vget (lane (at_ h) (b2n lane1)).err 2 0 = satAdd (vget (lane l (b2n lane1)).err 2 0) 1)
        ∧ RingBecomes (exec (.linkDown w (.awlLock lane1)) s) s down)
      ∧ RingBecomes (exec (.linkDown w .skew) s) s (fun h => down h ∧ h.r.evt.skewErr = true)
      ∧ (∀ n, 2 ≤ n → RingBecomes (exec (.linkDown w (.fault n)) s) s down)
      ∧ RingBecomes (exec (.linkDown w (.fault 1)) s) s (fun h =>
          (at_ h).st = l.st ∧ (l.st = .align → (at_ h).tClean = s.now) ∧ h.r = g.r))
    ∧ (l.rxSleep = true → same (exec (.linkDown w (.blockLock true)) s) ∧ same (exec (.linkDown w (.hiBer true)) s)
        ∧ same (exec (.linkDown w (.awlLock true)) s))
    -- isolation, and its end, which ends the loopbacks of the link
    ∧ (s.hostOpen 4 = true → (if w then g.r.ctrl.isolateW else g.r.ctrl.isolateE) = false →
        RingBecomes (exec (.ringIsolate w true) s) s (fun h =>
          (at_ h).st = .isolated ∧ (l.st ≠ .isolated → (at_ h).wrap = true)
          ∧ (if w then h.r.ctrl.isolateW else h.r.ctrl.isolateE) = true ∧ h.r.lb = g.r.lb ∧ h.link (!w) = g.link (!w)))
    ∧ (s.hostOpen 4 = true → (if w then g.r.ctrl.isolateW else g.r.ctrl.isolateE) = true → l.st = .isolated →
        RingBecomes (exec (.ringIsolate w false) s) s (fun h =>
          (at_ h).st = .down ∧ (if w then h.r.ctrl.isolateW else h.r.ctrl.isolateE) = false
          ∧ h.r.lb = g.r.lb &&& (if w then 0x00FF else 0xFF00) ∧ h.link (!w) = g.link (!w)))
    ∧ (l.st = .up → l.tUp + 100000000 ≤ s.now → RingBecomes (exec (.wrapRelease w) s) s (fun h => h = g.setLink w { l with wrap := false }))
    ∧ ((l.st ≠ .up ∨ s.now < l.tUp + 100000000) → same (exec (.wrapRelease w) s))
    -- lane 1 sleeps while the hub is not in H-RUN, and wakes in it
    ∧ (g.r.ctrl.sleepEn = true → s.hub.pm.state 4 ≠ 0 →
        RingBecomes (exec (.laneSleep w) s) s (fun h => h = g.setLink w { l with txSleep := true, waking := false }))
    ∧ ((g.r.ctrl.sleepEn = false ∨ s.hub.pm.state 4 = 0) → same (exec (.laneSleep w) s))
    ∧ (s.hub.pm.state 4 = 0 → RingBecomes (exec (.laneWake w) s) s (fun h => h = g.setLink w { l with waking := l.txSleep }))
    ∧ (s.hub.pm.state 4 ≠ 0 → same (exec (.laneWake w) s))
    ∧ (s.hostOpen 4 = true → ∀ v : Word,
      RingBecomes (exec (.loopbackWrite v) s) s (fun h =>
        (∀ i, i < 4 → h.r.lb.extractLsb' (4 * i) 4
          = if (g.link (decide (2 ≤ i))).st = .isolated ∧ (v.extractLsb' (4 * i) 4).toNat ≤ 3 then v.extractLsb' (4 * i) 4 else 0)
        ∧ h = { g with r.lb := h.r.lb })
      ∧ RingBecomes (exec (.errSelect v) s) s (fun h =>
        h.r.errData = g.errCount h.r.errSel.lane.toNat h.r.errSel.code.toNat ∧ h = { g with r.errSel := g.r.errSel.write v, r.errData := h.r.errData })
      ∧ RingBecomes (exec (.errClear v) s) s (fun h =>
        (∀ i j, i < 4 → j < 6 → vget (lane (h.link (decide (2 ≤ i))) (i % 2)).err j 0
          = if v.getLsbD i then 0 else vget (lane (g.link (decide (2 ≤ i))) (i % 2)).err j 0)
        ∧ (∀ (x : Bool) (j : Nat), j < 4 → vget (h.link x).err j 0 = if v.getLsbD (if x then 2 else 0) then 0 else vget (g.link x).err j 0)
        ∧ (∀ x : Bool, (h.link x).st = (g.link x).st) ∧ h.r = g.r ∧ h.nodes = g.nodes))

/-- RING_FRAME, TRIP_BLOCK, TRIP_REQUEST (R466, R467, R469 to R471, R475, R477 to R480).
Choices of the model it rests on: log entries 14, 21, 27. -/
def Obligations.RingFramesAndTrips : Prop :=
  ∀ (s : State), s.hub.ringRuns = true →
    let g := s.hub.ring
    (∀ (onWest : Bool) (hdr : BitVec 56) (pay : List Word) (crc : Word) (abort : Bool) (resid : Nat),
      let o := exec (.ringFrame onWest hdr pay crc abort resid) s
      let w := !onWest
      let h := Hdr.of hdr
      let bad := abort || decide (crc ≠ frameCrc h pay)
      let mine := h.bc = false ∧ g.nid = some h.dst
      let last := h.hops.toNat ≤ 1
      let counted (code : Nat) : Prop := RingBecomes o s (fun k => k = g.cnt w code)
      ((g.link w).st ≠ .up → (g.link w).st ≠ .isolated → Leaves o s)
      ∧ ((g.link w).st = .up → hcrcOk hdr = false → counted 5)
      ∧ ((g.link w).st = .up → hcrcOk hdr = true → FType.ofCode h.typ.toNat = none → counted 7)
      ∧ (∀ t, (g.link w).st = .up → hcrcOk hdr = true → FType.ofCode h.typ.toNat = some t →
        let form := t ≠ .test ∧ h.tc.toNat = t.tc ∧ t.lenOk h.len.toNat = true ∧ pay.length = 2 * h.len.toNat ∧ (h.bc = true → h.dst = 0)
        (¬form → counted 7)
        -- a frame for this node is delivered whole and good, and is not forwarded
        ∧ (form → mine → bad = false → Leaves o (s.frameIn h t onWest pay))
        ∧ (form → mine → bad = true → counted 6)
        -- one for another node goes on with HOPS less by one, and ends where its hops end
        ∧ (form → h.bc = false → ¬mine → bad = false → ¬last → t ≠ .sync →
            RingBecomes o s (fun k => k = g.emit onWest { h with hops := h.hops - 1 } pay false))
        ∧ (form → h.bc = false → ¬mine → bad = false → last → counted 7)
        -- a broadcast goes on and is delivered once
        ∧ (form → h.bc = true → bad = false → ¬last → t ≠ .sync → t ≠ .presence → g.nid ≠ some h.src →
            let k := g.emit onWest { h with hops := h.hops - 1 } pay false
            (g.fresh s.now h = true → Leaves o (({ s with hub := { s.hub with ring := k.noteSeq s.now h } } : State).frameIn h t onWest pay))
            ∧ (g.fresh s.now h = false → RingBecomes o s (fun x => x = k)))
        -- its own broadcast is taken from the ring where it began
        ∧ (form → h.bc = true → bad = false → ¬last → t ≠ .sync → t ≠ .presence → g.nid = some h.src → h.wrap = 0 → h.west = onWest →
            Leaves o s)))
    -- what leaves goes out on its ring, or, while its link wraps, on the other with WRAP raised
    ∧ (∀ (west : Bool) (h : Hdr) (pay : List Word) (ab : Bool),
      ((g.link west).st = .up → (g.link west).wrap = false → (g.emit west h pay ab).oq = g.oq ++ [.ring west h.word pay ab])
      ∧ ((g.link west).wrap = true → (g.link !west).st = .up →
          (g.emit west h pay ab).oq = g.oq ++ [.ring (!west) { h with wrap := if h.wrap = 3 then 3 else h.wrap + 1 }.word pay ab])
      ∧ ((g.link west).st ≠ .up → (g.link !west).st ≠ .up → g.emit west h pay ab = g))
    -- the first copy of a TRIP block of a node that is present asserts the trip pair; every copy is forwarded until its end
    ∧ (∀ (onWest : Bool) (f : BitVec 56),
      let o := exec (.tripBlock onWest f) s
      let w := !onWest
      let src : BitVec 6 := f.extractLsb' 48 6
      let seq : BitVec 6 := f.extractLsb' 40 6
      let hops : BitVec 7 := f.extractLsb' 8 7
      let wrap : BitVec 2 := f.extractLsb' 46 2
      let recent := g.trips.filter (fun x => decide (s.now < x.2.2 + 10000000))
      let first := (∀ x ∈ recent, x.1 = src → x.2.1 ≠ seq) ∧ g.nid ≠ some src
      let ends := hops.toNat ≤ 1 ∨ (g.nid = some src ∧ ((wrap = 0 ∧ f.getLsbD 55 = onWest) ∨ wrap = 2))
      let after (k : Ring) : Prop :=
        k.trips = (if first then (src, seq, s.now) :: recent else recent)
        ∧ (ends → k = { g with trips := k.trips })
        ∧ (¬ends → k = ({ g with trips := k.trips } : Ring).emitTrip onWest (reTrip f wrap (hops - 1)))
      ((g.link w).st ≠ .up → Leaves o s)
      ∧ ((g.link w).st = .up → hcrcOk f = false → RingBecomes o s (fun k => k = g.cnt w 5))
      ∧ ((g.link w).st = .up → hcrcOk f = true → (f.extractLsb' 32 8 ≠ 1#8 ∨ g.present src = false) → RingBecomes o s (fun k => k = g.cnt w 7))
      ∧ ((g.link w).st = .up → hcrcOk f = true → f.extractLsb' 32 8 = 1#8 → g.present src = true →
          (first → ∃ k, after k ∧ Leaves o (({ s with hub := { s.hub with ring := k } } : State).ringTrip))
          ∧ (¬first → RingBecomes o s after)))
    -- the trip pair reaches every channel that runs: its gates go low
    ∧ s.ringTrip = (List.range 4).foldl (fun (t : State) n => t.onSole n 2 (fun e k => (k.gateTrip e .ring).shkTc0 e)) s
    -- a request of a channel leaves on both links and trips this node
    ∧ (∀ n : Nat,
      let asks := n < 4 ∧ (s.ch n).shk.tripReq = true ∧ (vget s.hub.st n {}).hubLost = false ∧ (vget s.hub.st n {}).soleLost = false
      (asks → s.soleUp n 2 = true → s.nid.isSome = true →
        let t := s.withCh n { s.ch n with shk.tripReq := false }
        Leaves (exec (.tripRequest n) s) (({ t with hub := { t.hub with ring := t.hub.ring.tripRequest t.now n } } : State).ringTrip))
      ∧ (¬asks → Leaves (exec (.tripRequest n) s) s))

/-- PRESENCE_SEND, PRESENCE, NID_CLAIM, NODE_DEPART, NODE_SELECT, NID_CFG_WRITE, MASTER_CHANGE (R484 to R488, R501, R505).
Choices of the model it rests on: log entries 8, 27. -/
def Obligations.RingDiscovery : Prop :=
  ∀ (s : State), s.hub.ringRuns = true →
    let g := s.hub.ring
    let same (o : Host.Outcome State Fault Refusal) : Prop := RingBecomes o s (fun h => h = g)
    (RingBecomes (exec .presenceSend s) s (fun h => ∃ w2 w3 up : Word,
        h = g.originate s.now .presence none [DWord.lo s.hub.dieId, DWord.hi s.hub.dieId, w2, w3, up, 0]
        ∧ w2.getLsbD 31 = g.nid.isSome ∧ (∀ n, g.nid = some n → w2.extractLsb' 24 6 = n) ∧ w2.getLsbD 23 = s.hub.gw.role
        ∧ w2.getLsbD 22 = s.hub.eng.active ∧ w2.getLsbD 21 = decide (s.hub.eng.role = .standby) ∧ w2.getLsbD 20 = g.siteSet
        ∧ w3.getLsbD 31 = decide (g.east.st = .up) ∧ w3.getLsbD 23 = decide (g.west.st = .up)))
    ∧ (∀ w : Vector Word 5,
      let die := DWord.of w[1] w[0]
      let shows := w[2].getLsbD 31
      let nid : BitVec 6 := w[2].extractLsb' 24 6
      let old := g.nodes.find? (fun (n : NodeSt) => decide (n.dieId = die))
      let clash := shows = true ∧ g.nid = some nid
      let keeps := w[4].toNat < g.uptime s.now ∨ (g.uptime s.now = w[4].toNat ∧ s.hub.dieId.toNat < die.toNat)
      (die = s.hub.dieId → same (exec (.presence w) s))
      ∧ (die ≠ s.hub.dieId → RingBecomes (exec (.presence w) s) s (fun h =>
          -- a conflict: the greater uptime keeps the NID, at a tie the lower identity
          (clash → ¬keeps → h.nid = none ∧ h.claim = g.bootCfg.auto ∧ h.tListen = s.now ∧ h.r.evt.nidConflict = true)
          ∧ ((¬clash ∨ keeps) → h.nid = g.nid ∧ h.claim = g.claim ∧ h.r.evt.nidConflict = g.r.evt.nidConflict)
          ∧ (shows = true → h.named.getLsbD nid.toNat = true)
          -- the node is known from now on by what it shows
          ∧ (∃ x, h.nodes = x :: g.nodes.filter (fun (n : NodeSt) => decide (n.dieId ≠ die))
              ∧ x.dieId = die ∧ x.w2 = w[2] ∧ x.w3 = w[3] ∧ x.w4 = w[4] ∧ x.tLast = s.now
              ∧ (∀ y, old = some y → y.tclass = x.tclass → x.tClass = y.tClass))
          -- a join is reported once
          ∧ (old = none → shows = true → h.moved = g.moved ++ [(true, nid)] ∧ h.r.evt.nodeJoin = true)
          ∧ (∀ y, old = some y → y.nid = (if shows then some nid else none) → h.moved = g.moved)
          ∧ h.oq = g.oq ∧ h.east = g.east ∧ h.west = g.west ∧ h.servo = g.servo ∧ h.clock = g.clock)))
    ∧ (let free := (List.range 64).find? (fun i => !g.named.getLsbD i)
      let may := g.nid = none ∧ g.claim = true ∧ g.tListen + 10000000 ≤ s.now ∧ (g.bootCfg.valid = true ∨ g.bootCfg.auto = true)
      (may → free = none → RingBecomes (exec .nidClaim s) s (fun h => h = { g with claim := false, r.evt.nidFull := true }))
      ∧ (∀ f, may → free = some f → RingBecomes (exec .nidClaim s) s (fun h => h = { g with
          nid := some (if g.bootCfg.valid = true ∧ g.r.evt.nidConflict = false then g.bootCfg.nid else BitVec.ofNat 6 f)
          tNid := s.now, claim := false }))
      ∧ (¬may → same (exec .nidClaim s)))
    ∧ (∀ die : BitVec 64,
      let old := g.nodes.find? (fun (n : NodeSt) => decide (n.dieId = die))
      (∀ x, old = some x → x.tLast + 3000000 ≤ s.now → RingBecomes (exec (.nodeDepart die) s) s (fun h =>
        h.nodes = g.nodes.filter (fun (n : NodeSt) => decide (n.dieId ≠ die))
        ∧ (∀ n, x.nid = some n → h.moved = g.moved ++ [(false, n)] ∧ h.r.evt.nodeLeave = true)
        ∧ h = { g with nodes := h.nodes, moved := h.moved, jq := h.jq, r.evt := h.r.evt }))
      ∧ ((old = none ∨ ∃ x, old = some x ∧ s.now < x.tLast + 3000000) → same (exec (.nodeDepart die) s)))
    ∧ (s.hostOpen 4 = true → ∀ w : Word,
      let n : BitVec 6 := w.extractLsb' 0 6
      RingBecomes (exec (.nodeSelect w) s) s (fun h =>
        h.r.nodeSel = n ∧ h.r.nodeData0.present = g.present n
        ∧ (∀ x, g.nid ≠ some n → g.node n = some x →
            h.r.nodeData0.gateway = x.w2.getLsbD 23 ∧ h.r.nodeData0.tclass = x.w2.extractLsb' 16 2
            ∧ h.r.nodeData0.eUp = x.w3.getLsbD 31 ∧ h.r.nodeData0.eNbr = x.w3.extractLsb' 24 6
            ∧ h.r.nodeData1 = DWord.lo x.dieId ∧ h.r.nodeData2 = DWord.hi x.dieId)
        ∧ (g.nid = some n → h.r.nodeData1 = DWord.lo s.hub.dieId ∧ h.r.nodeData2 = DWord.hi s.hub.dieId)
        ∧ h = { g with r.nodeSel := h.r.nodeSel, r.nodeData0 := h.r.nodeData0, r.nodeData1 := h.r.nodeData1, r.nodeData2 := h.r.nodeData2 })
      -- stored now, in force at the next boot
      ∧ RingBecomes (exec (.nidCfgWrite w) s) s (fun h => h = { g with r.nidCfg := g.r.nidCfg.write w }))
    -- the master follows the classes as they are now
    ∧ RingBecomes (exec .masterChange s) s (fun h =>
        h.tcls = g.ownClass s.rctx ∧ (h.tcls = g.tcls → h.tCls = g.tCls) ∧ (h.tcls ≠ g.tcls → h.tCls = s.now)
        ∧ h.master = ({ g with tcls := h.tcls, tCls := h.tCls } : Ring).chooseMaster s.now
        ∧ h.r.status.master = h.isMaster ∧ h.r.status.timeValid = h.timeValid ∧ h.r.status.topo = h.topo
        ∧ (h.r.status.masterNid ≠ g.r.status.masterNid → h.r.evt.masterChg = true)
        ∧ h.nodes = g.nodes ∧ h.clock = g.clock ∧ h.servo = g.servo ∧ h.nid = g.nid ∧ h.east = g.east ∧ h.west = g.west)

/-- DELAY_EXCHANGE, DELAY_REQ, DELAY_RESP, SYNC_SEND, SYNC, SYNC_LOSS, HOLDOVER_TIMEOUT, TOD_WRITE, PPS_EDGE (R489 to R491, R495).
How fast the clock is slewed within its limit is the model's free value (log entry 30).
Choices of the model it rests on: log entries 8, 14, 27, 30. -/
def Obligations.RingTime : Prop :=
  ∀ (s : State), s.hub.ringRuns = true →
    let g := s.hub.ring
    let same (o : Host.Outcome State Fault Refusal) : Prop := RingBecomes o s (fun h => h = g)
    let t := BitVec.ofNat 64 (g.site s.now)
    -- the frequency is set within lim against an offset, and time runs on from where it stands
    let slewed (h : Ring) (lim : Nat) (off : Int) : Prop :=
      h.clock.base = g.clock.val s.now ∧ h.clock.t0 = s.now ∧ h.clock.freq.natAbs ≤ lim
      ∧ (0 < off → h.clock.freq ≤ 0) ∧ (off ≤ 0 → 0 ≤ h.clock.freq)
    (∀ fE fW : BitVec 16, RingBecomes (exec (.delayExchange fE fW) s) s (fun h =>
        ∀ w : Bool, ((g.link w).st = .up → (h.link w).t1 = some ((t.toNat : Int) * 65536 + ((if w then fW else fE).toNat : Int)))
          ∧ ((g.link w).st ≠ .up → h.link w = g.link w) ∧ (h.link w).ds = (g.link w).ds ∧ (h.link w).st = (g.link w).st))
    ∧ (∀ (w : Bool) (f2 f3 : BitVec 16) (turn : Nat),
        let t3 := BitVec.ofNat 64 (g.site s.now + turn)
        RingBecomes (exec (.delayReq w f2 f3 turn) s) s (fun h => h = g.toNeighbour w .delayResp
          [DWord.lo t, DWord.hi t, (f3.setWidth 32 <<< 16) ||| f2.setWidth 32, DWord.lo t3, DWord.hi t3, 0]))
    ∧ (∀ (w : Bool) (p : Vector Word 5) (f4 : BitVec 16),
      (∀ t1, (g.link w).t1 = some t1 → (g.link w).st = .up →
        let t2 : Int := ((DWord.of p[1] p[0]).toNat : Int) * 65536 + ((p[2].extractLsb' 0 16 : BitVec 16).toNat : Int)
        let t3 : Int := ((DWord.of p[4] p[3]).toNat : Int) * 65536 + ((p[2].extractLsb' 16 16 : BitVec 16).toNat : Int)
        let t4 : Int := (g.site s.now : Int) * 65536 + (f4.toNat : Int)
        let d := divHE ((t4 - t1) - (t3 - t2)) 2
        RingBecomes (exec (.delayResp w p f4) s) s (fun h =>
          h = g.setLink w { g.link w with t1 := none, ds := (d :: (g.link w).ds).take 16 }))
      ∧ (((g.link w).t1 = none ∨ (g.link w).st ≠ .up) → same (exec (.delayResp w p f4) s)))
    -- the master sends its time; the others take the copy that crossed the fewest links
    ∧ (∀ f : BitVec 16,
      (g.isMaster = true → RingBecomes (exec (.syncSend f) s) s (fun h => ∃ w2 : Word,
        h = g.originate s.now .sync none [DWord.lo t, DWord.hi t, w2, 0, 0, 0]
        ∧ w2.extractLsb' 16 16 = f ∧ w2.getLsbD 11 = g.siteSet ∧ w2.extractLsb' 8 2 = g.ownClass s.rctx
        ∧ (∀ n, g.nid = some n → w2.extractLsb' 0 6 = n)))
      ∧ (g.isMaster = false → same (exec (.syncSend f) s)))
    ∧ (∀ (onWest : Bool) (links : Nat) (p : Vector Word 5) (f : BitVec 16),
      let o := exec (.sync onWest links p f) s
      let m : BitVec 6 := p[2].extractLsb' 0 6
      let tm := DWord.of p[1] p[0]
      let off := g.clock.val s.now + (f.toNat : Int) - ((tm.toNat : Int) * 65536 + ((p[2].extractLsb' 16 16 : BitVec 16).toNat : Int))
        - i64 p[4] p[3] - g.recvDelay (!onWest)
      let fresh := ∀ x, g.sync = some x → x.nid = m → x.tm ≠ tm
      ((g.isMaster = true ∨ g.master ≠ some m) → same o)
      ∧ (g.isMaster = false → g.master = some m → (∃ x, g.sync = some x ∧ x.nid = m ∧ x.tm = tm ∧ x.links < links) → same o)
      ∧ (g.isMaster = false → g.master = some m → fresh → RingBecomes o s (fun h =>
          h.servo = g.servo.take s.now off ∧ h.siteSet = p[2].getLsbD 11 ∧ h.r.timeOfs.ofs = toS 16 (divHE (off * 100) 65536)
          ∧ h.sync = some { nid := m, tm := tm, links := links, east := !onWest }
          -- a step, only while acquiring, beyond 1 µs and with every loop at rest; otherwise at most 40 ppm
          ∧ (g.servo.st = .acquire → 65536000 < off.natAbs → s.rctx.idle = true →
              h.clock = { g.clock with base := g.clock.val s.now - off, t0 := s.now })
          ∧ (g.servo.st = .acquire → 65536000 < off.natAbs → s.rctx.idle = false → slewed h 4000 off)
          ∧ ((g.servo.st ≠ .acquire ∨ off.natAbs ≤ 65536000) → h.servo.st ≠ .holdover → slewed h 4000 off)
          ∧ h.nodes = g.nodes ∧ h.east = g.east ∧ h.west = g.west ∧ h.master = g.master)))
    -- the states of the servo
    ∧ (∀ (v : Servo) (off : Int),
      (v.st = .free → (v.take s.now off).st = .acquire)
      ∧ (v.st = .acquire → (v.take s.now off).st = if off.natAbs ≤ 131072 ∧ 15 ≤ v.near then .locked else .acquire)
      ∧ (v.st = .locked → (v.take s.now off).st = if 655360 < off.natAbs ∧ 3 ≤ v.far then .acquire else .locked)
      ∧ (v.st = .holdover → (v.take s.now off).st = if off.natAbs ≤ 655360 then .locked else .acquire))
    ∧ (g.isMaster = false → g.servo.st = .locked → g.servo.tSync + 500000 ≤ s.now →
        RingBecomes (exec .syncLoss s) s (fun h => h = { g with servo := { g.servo with st := .holdover, tHold := s.now } }))
    ∧ ((g.isMaster = true ∨ g.servo.st ≠ .locked ∨ s.now < g.servo.tSync + 500000) → same (exec .syncLoss s))
    ∧ (g.isMaster = false → g.servo.st = .holdover → g.servo.tHold + 10000000 ≤ s.now →
        RingBecomes (exec .holdoverTimeout s) s (fun h =>
          h = { g with servo := { g.servo with st := if g.master.isSome then .acquire else .free, near := 0 } }))
    ∧ ((g.isMaster = true ∨ g.servo.st ≠ .holdover ∨ s.now < g.servo.tHold + 10000000) → same (exec .holdoverTimeout s))
    -- calendar time: the first one steps site time, later ones steer it by at most 5 ppm
    ∧ (s.hostOpen 4 = true → ∀ w : Word,
      let hi := w.extractLsb' 0 16
      let tod : Int := (g.r.todLo.toNat + 2 ^ 32 * hi.toNat : Nat) * 1000000000 * 65536
      (s.hub.gw.role = false → same (exec (.todWrite w) s))
      ∧ (s.hub.gw.role = true → g.r.ctrl.ppsEn = true →
          RingBecomes (exec (.todWrite w) s) s (fun h => h = { g with r.todHi := hi, todArmed := true }))
      ∧ (s.hub.gw.role = true → g.r.ctrl.ppsEn = false → g.isMaster = true → g.siteSet = false →
          RingBecomes (exec (.todWrite w) s) s (fun h =>
            h = { g with r.todHi := hi, siteSet := true, clock := { g.clock with base := tod, t0 := s.now } }))
      ∧ (s.hub.gw.role = true → g.r.ctrl.ppsEn = false → g.isMaster = true → g.siteSet = true →
          RingBecomes (exec (.todWrite w) s) s (fun h => slewed h 500 (g.clock.val s.now - tod) ∧ h.siteSet = true))
      ∧ (s.hub.gw.role = true → g.r.ctrl.ppsEn = false → g.isMaster = false →
          RingBecomes (exec (.todWrite w) s) s (fun h => h = { g with r.todHi := hi })))
    ∧ ((s.hub.gw.role = false ∨ g.r.ctrl.ppsEn = false) → same (exec .ppsEdge s))
    ∧ (s.hub.gw.role = true → g.r.ctrl.ppsEn = true →
      (g.todArmed = true → g.isMaster = true → g.siteSet = false → RingBecomes (exec .ppsEdge s) s (fun h =>
        h.clock = { g.clock with base := g.tod, t0 := s.now } ∧ h.siteSet = true ∧ h.todArmed = false))
      ∧ (g.todArmed = false → g.isMaster = true → g.siteSet = true → RingBecomes (exec .ppsEdge s) s (fun h =>
        h.clock.base = g.clock.val s.now ∧ h.clock.t0 = s.now ∧ h.clock.freq.natAbs ≤ 500 ∧ h.siteSet = true))
      ∧ (g.todArmed = false → (g.isMaster = false ∨ g.siteSet = false) → RingBecomes (exec .ppsEdge s) s (fun h =>
        let r := g.site s.now % 1000000000
        h = { g with tPps := if r ≤ 1000 ∨ 999999000 ≤ r then some (g.tPps.getD s.now) else none })))

/-! ### The host gateway -/

/-- SQ_DOORBELL, CQ_DOORBELL, RING_ENABLE, RING_DISABLE, RING_ABORT, RING_DRAIN_DONE, DESCRIPTOR_FETCH, IRQ_TIME_EXPIRY (R517 to
R521, R523 to R528).
Choices of the model it rests on: log entries 8, 26. -/
def Obligations.GatewayRings : Prop :=
  ∀ (s : State) (k : Nat), s.gwOn = true → k < 64 →
    let g := s.hub.gw
    let x := g.ring k
    let st := x.st
    let same (o : Host.Outcome State Fault Refusal) : Prop := GwBecomes o s (fun h => h = g)
    -- a doorbell wakes the hub
    let rings (o : Host.Outcome State Fault Refusal) (P : Gw → Prop) : Prop :=
      ∃ h, P h ∧ Leaves o ((s.onGw (fun _ => h)).pmWake 4 4)
    let others (h : Gw) : Prop := ∀ j, j ≠ k → h.ring j = g.ring j
    -- the ring is left with nothing of its own in flight
    let off (h : Gw) : Prop :=
      (h.ring k).st = .disabled ∧ (h.ring k).r.cfg.en = false
      ∧ h.out = g.out.filter (fun (o : Outst) => decide (o.ring ≠ k)) ∧ h.held = g.held.filter (fun (q : Held) => decide (q.ring ≠ k)) ∧ others h
    (∀ w : Word,
      (g.role = false → rings (exec (.sqDoorbell k w) s) (fun h => h = g) ∧ rings (exec (.cqDoorbell k w) s) (fun h => h = g))
      ∧ (g.role = true → st ≠ .active →
          rings (exec (.sqDoorbell k w) s) (fun h => h = g.count 4) ∧ rings (exec (.cqDoorbell k w) s) (fun h => h = g.count 4))
      ∧ (g.role = true → st = .active →
        (w.toNat < x.n → rings (exec (.sqDoorbell k w) s) (fun h => h = g.setRing k { x with sqTail := w }))
        -- a tail outside the ring puts it into ERROR; what was fetched and not forwarded completes with 0x0B
        ∧ (x.n ≤ w.toNat → rings (exec (.sqDoorbell k w) s) (fun h =>
            (h.ring k).st = .error ∧ (h.ring k).r.status.err = 1 ∧ h.held = g.held.filter (fun (q : Held) => decide (q.ring ≠ k))
            ∧ h.out = g.out ∧ others h
            ∧ (g.r.irqCfg.errEn = true → g.bme = true → ∃ xs, h.oq = xs ++ [.msi g.r.irqCfg.errVec.toNat])))
        ∧ rings (exec (.cqDoorbell k w) s) (fun h => h = g.setRing k { x with
            cqHead := w, posted := x.posted - (w.toNat + x.n - x.cqHead.toNat % x.n) % x.n })))
    ∧ (g.role = true → st = .disabled → GwBecomes (exec (.ringEnable k) s) s (fun h =>
        (h.ring k).st = .active ∧ (h.ring k).r.cfg.en = true ∧ (h.ring k).r.status.err = 0 ∧ (h.ring k).r.ptr.sqHead = 0
        ∧ (h.ring k).r.ptr.cqTail = 0 ∧ (h.ring k).sqTail = 0 ∧ (h.ring k).cqHead = 0 ∧ (h.ring k).phase = true
        ∧ (h.ring k).posted = 0 ∧ h = g.setRing k (h.ring k)))
    ∧ ((g.role = false ∨ st ≠ .disabled) → same (exec (.ringEnable k) s))
    ∧ (st = .active → GwBecomes (exec (.ringDisable k) s) s (fun h =>
        (h.ring k).st = .draining ∧ (h.ring k).r.cfg.en = false ∧ h.held = g.held.filter (fun (q : Held) => decide (q.ring ≠ k))
        ∧ h.out = g.out ∧ others h))
    ∧ (st = .error → GwBecomes (exec (.ringDisable k) s) s off)
    ∧ ((st = .disabled ∨ st = .draining) → same (exec (.ringDisable k) s))
    ∧ ((st = .active ∨ st = .draining) → GwBecomes (exec (.ringAbort k) s) s off)
    ∧ ((st = .disabled ∨ st = .error) → same (exec (.ringAbort k) s))
    ∧ (st = .draining → g.inflight k = 0 → GwBecomes (exec (.ringDrainDone k) s) s (fun h =>
        h = g.setRing k { x with r := { x.r with cfg := { x.r.cfg with en := false }, status := { x.r.status with state := .disabled } } }))
    ∧ ((st ≠ .draining ∨ g.inflight k ≠ 0) → same (exec (.ringDrainDone k) s))
    -- fetching
    ∧ (∀ ds : List (Vector Word 16),
      ((g.role = false ∨ g.bme = false) → ∀ ok : Bool, same (exec (.descriptorFetch k ok ds) s))
      ∧ (g.role = true → g.bme = true → (st = .active ∨ st = .draining) → GwBecomes (exec (.descriptorFetch k false ds) s) s (fun h =>
          (h.ring k).st = .error ∧ (h.ring k).r.status.err = 2 ∧ h.out = g.out ∧ others h))
      ∧ (g.role = true → g.bme = true → (st = .disabled ∨ st = .error) → ∀ ok : Bool, same (exec (.descriptorFetch k ok ds) s)))
    ∧ (∀ ws : Vector Word 16,
      let o := exec (.descriptorFetch k true [ws]) s
      let head := x.r.ptr.sqHead.toNat
      let next := BitVec.ofNat 12 ((head + 1) % x.n)
      let d : Desc := { w := ws, gw := s.nid.getD 0, rid := g.rid }
      g.role = true → g.bme = true → st = .active → head ≠ x.sqTail.toNat → g.inflight k + x.posted < x.n →
        -- one that the gateway refuses completes at once and goes nowhere
        (∀ code, gwCheck s.gctx d = some code → GwBecomes o s (fun h =>
          h.out = g.out ∧ h.held = g.held ∧ h.msgs = g.msgs ∧ (h.ring k).r.ptr.sqHead = next ∧ others h
          ∧ (h.ring k).posted = x.posted + 1
          ∧ ∃ xs, h.oq = g.oq ++ .completion k x.r.ptr.cqTail.toNat
              [BitVec.ofNat 32 (d.cid % 65536 * 65536 + next.toNat), 0, 0,
                (if x.phase then 1#32 <<< 31 else 0) ||| BitVec.ofNat 32 (k % 64 * 2 ^ 24 + code % 256 * 2 ^ 16 + d.opcode % 65536)] :: xs))
        -- one that passes, with nothing held before it and room at its target, goes there
        ∧ (gwCheck s.gctx d = none → g.held = [] → d.fence = false → g.load d.dst.1 d.dst.2 < 16 → d.portOf = none →
            GwBecomes o s (fun h =>
              h.held = [] ∧ h.msgs = g.msgs ++ [.desc d.dst.1 d] ∧ h.oq = g.oq ∧ h.rid = (g.rid + 1) % 4096
              ∧ (h.ring k).r.ptr.sqHead = next ∧ others h
              ∧ h.out = g.out ++ [{ d := d, ring := k, node := d.dst.1, ch := d.dst.2, t := s.now
                                    tmo := if d.tmo = 0 then max 1 x.r.cfg.tmoDef.toNat else d.tmo }]))
        -- one that must wait holds back the later ones of its ring
        ∧ (gwCheck s.gctx d = none → g.held = [] → 16 ≤ g.load d.dst.1 d.dst.2 → GwBecomes o s (fun h =>
            h.held = [{ d := d, ring := k }] ∧ h.out = g.out ∧ h.msgs = g.msgs ∧ (h.ring k).r.ptr.sqHead = next ∧ others h)))
    ∧ (∀ t, x.tSig = some t → t + usNs x.r.irq.time.toNat ≤ s.now → GwBecomes (exec (.irqTimeExpiry k) s) s (fun h =>
        h = (g.setRing k { x with unsig := 0, tSig := none }).msi x.r.irq.vec.toNat))
    ∧ ((x.tSig = none ∨ ∃ t, x.tSig = some t ∧ s.now < t + usNs x.r.irq.time.toNat) → same (exec (.irqTimeExpiry k) s))

/-- DESC, COMPL, DESCRIPTOR_TIMEOUT, SESSION_ATTN_REPEAT, BUS_MASTER_ENABLE, ENDPOINT_RESET, GATEWAY_ROLE_CHANGE, CNT_SELECT (R507 to
R510, R524, R526, R530, R532, R544).
Choices of the model it rests on: log entries 8, 12, 26. -/
def Obligations.GatewayRequests : Prop :=
  ∀ (s : State), s.gwOn = true →
    let g := s.hub.gw
    -- a descriptor at its die: executed, refused, or kept until the die can take it
    (∀ (d : Desc) (die : Nat), s.dieOf d = some die →
      let o := exec (.desc d) s
      let refused (code : Nat) : Prop := Leaves o (s.complete { ref := d.ref false, status := code })
      (s.descFate die d = .noChannel → refused 0x04)
      ∧ (s.descFate die d = .hold → Leaves o (({ s with hub := { s.hub with wait := s.hub.wait ++ [d] } } : State).pmWake die 4))
      ∧ (s.descFate die d = .run → opRow d.opcode = none → refused 0x01)
      ∧ (∀ row, s.descFate die d = .run → opRow d.opcode = some row → row.target.fits d.chan = false → refused 0x02)
      ∧ (∀ row code, s.descFate die d = .run → opRow d.opcode = some row → row.target.fits d.chan = true → row.critical = true →
          ((s.keyOf die).critical (decide (die = 4)) d).2.1 = some code →
          Leaves o ((s.setKey die ((s.keyOf die).critical (decide (die = 4)) d).1).complete
            { ref := d.ref ((s.keyOf die).critical (decide (die = 4)) d).2.2, status := code }))
      ∧ (s.takes die d = true → Leaves o (State.answer ((s.taken die d).descOp die d (s.refOf die d)) (s.refOf die d))))
    ∧ (∀ d : Desc, s.dieOf d = none → (s.hub.eng.active = false ∨ forEngine d.opcode = false) → Leaves (exec (.desc d) s) s)
    -- a completion ends the request it names; one that names none is counted
    ∧ (∀ (src : Nat) (w : Vector Word 5),
      let tag := (w[0].extractLsb' 20 12).toNat
      let code := (w[4].extractLsb' 16 8).toNat
      (w[0].getLsbD 0 = true → g.role = true → Leaves (exec (.compl src w) s) { s with hub := { s.hub with gw := g.notice src w[1] } })
      ∧ (w[0].getLsbD 0 = false → s.hub.eng.last.fwd.lookup tag = none →
        (g.out.find? (fun (o : Outst) => decide (o.d.rid = tag)) = none → GwBecomes (exec (.compl src w) s) s (fun h => h = g.count 2))
        ∧ (∀ o, g.out.find? (fun (o : Outst) => decide (o.d.rid = tag)) = some o → g.held = [] → (g.ring o.ring).st ≠ .disabled →
            g.bme = true → o.ring < 64 → code ≠ 6 → code ≠ 7 → code ≠ 15 → GwBecomes (exec (.compl src w) s) s (fun h =>
              h.out = g.out.filter (fun (y : Outst) => decide (y.d.rid ≠ tag))
              ∧ h.ports = g.ports.filter (fun (p : PortSt) => decide (p.rid ≠ tag))
              ∧ (h.ring o.ring).posted = (g.ring o.ring).posted + 1
              ∧ ∃ w0 w3 xs, h.oq = g.oq ++ .completion o.ring (g.ring o.ring).r.ptr.cqTail.toNat [w0, w[2], w[3], w3] :: xs
                  ∧ w3.extractLsb' 16 8 = BitVec.ofNat 8 code ∧ w3.extractLsb' 0 16 = BitVec.ofNat 16 o.d.opcode
                  ∧ w0.extractLsb' 16 16 = BitVec.ofNat 16 o.d.cid))))
    -- a notice sets the attention bit of each channel it names, and of the node
    ∧ (∀ (node : Nat) (w : Word), node < 64 →
        (∀ c, c < 4 → w.getLsbD c = true → (vget (g.notice node w).r.attn ((4 * node + c) / 32) 0).getLsbD ((4 * node + c) % 32) = true)
        ∧ (w.getLsbD 4 = true → (vget (g.notice node w).r.nattn (node / 32) 0).getLsbD (node % 32) = true)
        ∧ (w &&& 31 = 0 → g.notice node w = g))
    ∧ (∀ rid : Nat,
      let hit := g.out.find? (fun (o : Outst) => decide (o.d.rid = rid))
      (∀ o, hit = some o → o.paused = none → o.t + msNs o.tmo ≤ s.now →
        GwBecomes (exec (.descriptorTimeout rid) s) s (fun h => h = g.complete s.now rid 0x0A 0 0))
      ∧ ((hit = none ∨ ∃ o, hit = some o ∧ (o.paused.isSome = true ∨ s.now < o.t + msNs o.tmo)) →
          GwBecomes (exec (.descriptorTimeout rid) s) s (fun h => h = g)))
    ∧ (∀ n : Nat, s.soleUp n 2 = true →
      let c := s.ch n
      (c.veh.evq ≠ [] → c.veh.tAttn + 10000000 ≤ s.now → Becomes (exec (.sessionAttnRepeat n) s) s n (fun k =>
        k = { c with veh.tAttn := s.now, oq := c.oq ++ [.attention (some c.idx)] }))
      ∧ ((c.veh.evq = [] ∨ s.now < c.veh.tAttn + 10000000) → Becomes (exec (.sessionAttnRepeat n) s) s n (fun k => k = c)))
    ∧ GwBecomes (exec (.busMasterEnable false) s) s (fun h => h = { g with r.status.bme := false })
    ∧ GwBecomes (exec (.busMasterEnable true) s) s (fun h =>
        h.r.status.bme = true ∧ h.waitC = [] ∧ h.waitI = [] ∧ h.out = g.out ∧ h.held = g.held
        ∧ (g.waitC = [] → h.oq = g.oq ++ g.waitI.map (fun v => Out.msi v)))
    ∧ (∃ h : Gw, Leaves (exec .endpointReset s) ((s.onGw (fun _ => h)).pmWake 4 7)
        ∧ (∀ k, k < 64 → (h.ring k).st = .disabled ∧ (h.ring k).r.irq.vec = BitVec.ofNat 6 k)
        ∧ h.held = [] ∧ h.out = [] ∧ h.ports = [] ∧ h.reads = [] ∧ h.waitC = [] ∧ h.waitI = []
        ∧ h.cnt = Vector.replicate 9 0 ∧ h.r.attn = Vector.replicate 8 0 ∧ h.r.nattn = Vector.replicate 2 0
        ∧ h.r.status.bme = false ∧ h.r.status.linkUp = false ∧ h.r.status.gateway = false ∧ h.refsel = g.r.ctrl.refsel)
    -- the role: with a link and an NID, and fewer than two other gateways
    ∧ (∀ (up : Bool) (speed : BitVec 4) (width : BitVec 2),
      let o := exec (.gatewayRoleChange up speed width) s
      (up = true → s.nid.isSome = true → s.gctx.gws.length < 2 → GwBecomes o s (fun h =>
        h.r.status.gateway = true ∧ h.r.status.refused = false ∧ h.r.status.linkUp = true ∧ h.r.status.speed = speed
        ∧ h.r.status.width = width ∧ h.out = g.out ∧ h.rings = g.rings))
      ∧ (up = true → s.nid.isSome = true → 2 ≤ s.gctx.gws.length → g.role = false → GwBecomes o s (fun h =>
          h.r.status.gateway = false ∧ h.r.status.refused = true ∧ h.out = g.out))
      ∧ ((up = false ∨ s.nid = none) → GwBecomes o s (fun h =>
          h.r.status.gateway = false ∧ h.r.status.refused = false ∧ h.r.status.linkUp = up
          ∧ (g.role = true → h.out = [] ∧ h.held = [] ∧ h.ports = [] ∧ ∀ k, k < 64 → (h.ring k).st = .disabled))))
    ∧ (s.hostOpen 4 = true → ∀ w : Word, Leaves (exec (.cntSelect w) s) { s with hub := { s.hub with gw := { g with
        r := { g.r with cntSel := w.extractLsb' 0 4, cntData := vget g.cnt (w.extractLsb' 0 4).toNat 0 } } } })

/-- WP_DATA_ACCESS, WP_COMMIT, WP_ACK, WP_NAK, WP_ABORT, WP_TIMEOUT, WORD (R533 to R538).
Choices of the model it rests on: log entries 8, 26, 42. -/
def Obligations.WordPorts : Prop :=
  ∀ (s : State) (node k : Nat), s.gwOn = true → s.hub.gw.role = true →
    let g := s.hub.gw
    let b := g.port node k
    let at_ (h : Gw) : Option PortSt := h.port node k
    let counts (o : Host.Outcome State Fault Refusal) : Prop := GwBecomes o s (fun h => h = g.count 0)
    let data (ofs : Nat) (w : Word) : Out := .readData node (0x18000 + 4096 * k + ofs) w
    (b = none → ∀ (ofs n : Nat) (w : Word),
      counts (exec (.wpDataAccess node k ofs true w) s) ∧ counts (exec (.wpCommit node k n) s) ∧ counts (exec (.wpAck node k) s)
      ∧ counts (exec (.wpNak node k) s) ∧ counts (exec (.wpAbort node k) s)
      ∧ GwBecomes (exec (.wpDataAccess node k ofs false w) s) s (fun h => h = { g.count 0 with oq := g.oq ++ [data ofs 0] })
      ∧ GwBecomes (exec (.wpTimeout node k) s) s (fun h => h = g))
    ∧ (∀ p, b = some p →
      let st := p.r.status.state
      let bseq := p.r.status.bseq.toNat
      let sent (h : Gw) (kind : Nat) (crc : Word) (ws : List Word) : Prop := h.msgs = g.msgs ++ [.word node kind k bseq crc ws]
      let enters (h : Gw) (x : PortState) : Prop := ∃ q, at_ h = some q ∧ q.r.status.state = x ∧ q.rid = p.rid ∧ q.tHost = s.now
      -- the window takes words while the block is filled, and gives them while one waits to be read
      (∀ (ofs : Nat) (w : Word),
        (st = .inReady → ofs < 4096 → GwBecomes (exec (.wpDataAccess node k ofs true w) s) s (fun h =>
          ∃ q, at_ h = some q ∧ q.buf.getD (ofs / 4) 0 = w ∧ (∀ i, i ≠ ofs / 4 → q.buf.getD i 0 = p.buf.getD i 0) ∧ q.r = p.r
            ∧ q.tHost = s.now ∧ h.msgs = g.msgs ∧ h.out = g.out))
        ∧ (¬(st = .inReady ∧ ofs < 4096) → counts (exec (.wpDataAccess node k ofs true w) s))
        ∧ (st = .outFull → ofs < 4 * p.r.status.wlen.toNat → GwBecomes (exec (.wpDataAccess node k ofs false w) s) s (fun h =>
            h.oq = g.oq ++ [data ofs (p.buf.getD (ofs / 4) 0)] ∧ h.out = g.out ∧ ∃ q, at_ h = some q ∧ q.buf = p.buf ∧ q.r = p.r ∧ q.tHost = s.now))
        ∧ (¬(st = .outFull ∧ ofs < 4 * p.r.status.wlen.toNat) → GwBecomes (exec (.wpDataAccess node k ofs false w) s) s (fun h =>
            h = { g.count 0 with oq := g.oq ++ [data ofs 0] })))
      ∧ (∀ n : Nat,
        (st = .inReady → 1 ≤ n → n ≤ 1024 → GwBecomes (exec (.wpCommit node k n) s) s (fun h =>
          enters h .inBusy ∧ sent h 1 p.r.check ((List.range n).map (fun i => p.buf.getD i 0))))
        ∧ (¬(st = .inReady ∧ 1 ≤ n ∧ n ≤ 1024) → counts (exec (.wpCommit node k n) s)))
      ∧ (st = .outFull →
          GwBecomes (exec (.wpAck node k) s) s (fun h => enters h .outEmpty ∧ sent h 2 0 [])
          ∧ GwBecomes (exec (.wpNak node k) s) s (fun h => enters h .outEmpty ∧ sent h 3 0 [] ∧ vget h.cnt 5 0 = satInc (vget g.cnt 5 0)))
      ∧ (st ≠ .outFull → counts (exec (.wpAck node k) s) ∧ counts (exec (.wpNak node k) s))
      -- an abort or ten seconds without the host ends the descriptor that bound the port
      ∧ GwBecomes (exec (.wpAbort node k) s) s (fun h => h = g.complete s.now p.rid 0x0D 0 0)
      ∧ ((st = .inReady ∨ st = .outFull) → p.tHost + 10000000000 ≤ s.now → GwBecomes (exec (.wpTimeout node k) s) s (fun h =>
          h = (g.complete s.now p.rid 0x0C 0 0).count 8))
      ∧ ((st ≠ .inReady ∧ st ≠ .outFull) ∨ s.now < p.tHost + 10000000000 → GwBecomes (exec (.wpTimeout node k) s) s (fun h => h = g)))
    -- a WORD frame for a port bound here and for no transfer of this node's dies
    ∧ (k < 8 → s.xferOf k = none → ∀ (kind : Nat) (bseq : BitVec 12) (crc : Word) (data : List Word), kind < 16 → data.length < 1025 →
      let w0 := BitVec.ofNat 32 (kind * 2 ^ 28 + k * 2 ^ 24 + data.length * 2 ^ 12 + bseq.toNat)
      let o := exec (.word node w0 crc data) s
      (b = none → GwBecomes o s (fun h => h = g))
      ∧ (∀ p, b = some p →
        (kind = 1 → p.r.status.state = .outEmpty → GwBecomes o s (fun h => ∃ q, at_ h = some q ∧ q.r.status.state = .outFull
          ∧ q.buf = data ∧ q.r.check = crc ∧ q.r.status.wlen = BitVec.ofNat 12 data.length ∧ q.r.status.bseq = bseq.setWidth 15))
        ∧ (kind = 2 → p.r.status.state = .inBusy → GwBecomes o s (fun h => ∃ q, at_ h = some q ∧ q.r.status.state = .inReady
          ∧ q.buf = [] ∧ q.r.status.bseq = p.r.status.bseq + 1 ∧ q.r.status.naked = false))
        ∧ (kind = 3 → p.r.status.state = .inBusy → GwBecomes o s (fun h => (∃ q, at_ h = some q ∧ q.r.status.state = .inReady
          ∧ q.buf = p.buf ∧ q.r.status.bseq = p.r.status.bseq ∧ q.r.status.naked = true) ∧ vget h.cnt 5 0 = satInc (vget g.cnt 5 0)))))

/-- REMOTE_REGISTER_ACCESS, REG_REQ, REG_RESP, REMOTE_READ_TIMEOUT (R512, R514, R539).
Choices of the model it rests on: log entries 8, 12, 41. -/
def Obligations.RegisterPaths : Prop :=
  ∀ (s : State), s.gwOn = true →
    let g := s.hub.gw
    (∀ (node q : Nat) (write : Bool) (w : Word), node < 64 → s.nid ≠ some node → 4 * q < 0x18000 → ¬(0x3200 ≤ 4 * q ∧ 4 * q < 0x3280) →
      let o := exec (.remoteRegisterAccess node (4 * q) write w) s
      -- the access travels to a node that is present; at any other it finds nothing
      (g.role = true → s.gctx.present.contains node = true → GwBecomes o s (fun h =>
        h.msgs = g.msgs ++ [.reg node g.rid (4 * q) write w] ∧ h.rid = (g.rid + 1) % 4096
        ∧ h.reads = g.reads ++ [{ rid := g.rid, node := node, ofs := 4 * q, write := write, t := s.now }]
        ∧ h.out = g.out ∧ h.oq = g.oq))
      ∧ ((g.role = false ∨ s.gctx.present.contains node = false) → GwBecomes o s (fun h =>
          h = if write then g else { g with oq := g.oq ++ [.readData node (4 * q) 0xFFFFFFFF] })))
    -- at the node it names, the access is served and answered to where it came from
    ∧ (∀ (src : Nat) (tag : BitVec 12) (ofs : BitVec 17) (write : Bool) (w : Word),
      let w0 : Word := (tag.setWidth 32 <<< 20) ||| (if write then 1#32 <<< 19 else 0) ||| ofs.setWidth 32
      let o := exec (.regReq src w0 w) s
      let answer (t : State) (rstat : Nat) (v : Word) : State :=
        t.originate .regResp (some src) [(tag.setWidth 32 <<< 20) ||| (BitVec.ofNat 32 rstat <<< 16), v]
      (0x18000 ≤ ofs.toNat → Leaves o (answer s 1 0xFFFFFFFF))
      ∧ (ofs.toNat < 0x18000 → s.regDead (ofs.toNat / 4 * 4) write = true → Leaves o (answer s 1 0xFFFFFFFF))
      ∧ (ofs.toNat < 0x18000 → s.regDead (ofs.toNat / 4 * 4) write = false → s.memTest (dieOfOfs (ofs.toNat / 4 * 4)) = false →
          (write = true → let r := s.regWrite (ofs.toNat / 4 * 4) w
            Leaves o (answer r.1 (if r.2 then 2 else 0) 0))
          ∧ (write = false → let r := s.regRead (ofs.toNat / 4 * 4)
            Leaves o (answer r.1 0 r.2))))
    ∧ (∀ (tag : BitVec 12) (rstat : BitVec 2) (v : Word),
      let w0 : Word := (tag.setWidth 32 <<< 20) ||| (rstat.setWidth 32 <<< 16)
      let o := exec (.regResp w0 v) s
      let hit := g.reads.find? (fun (x : RegAcc) => decide (x.rid = tag.toNat))
      (hit = none → Leaves o s)
      ∧ (∀ x, hit = some x →
          let h : Gw := { g with reads := g.reads.filter (fun (y : RegAcc) => decide (y.rid ≠ tag.toNat)) }
          let h : Gw := if rstat = 2 then h.count 0 else h
          Leaves o { s with hub := { s.hub with gw :=
            if x.write then h else { h with oq := h.oq ++ [.readData x.node x.ofs v] } } }))
    ∧ (∀ rid : Nat,
      let hit := g.reads.find? (fun (x : RegAcc) => decide (x.rid = rid))
      let tmo := usNs (10 * max 100 (min 1000 g.r.ctrl.rdTmo.toNat))
      (∀ x, hit = some x → x.t + tmo ≤ s.now → GwBecomes (exec (.remoteReadTimeout rid) s) s (fun h =>
        h.reads = g.reads.filter (fun (y : RegAcc) => decide (y.rid ≠ rid)) ∧ h.out = g.out
        ∧ (x.write = false → h.oq = g.oq ++ [.readData x.node x.ofs 0xFFFFFFFF] ∧ vget h.cnt 1 0 = satInc (vget g.cnt 1 0))
        ∧ (x.write = true → h.oq = g.oq ∧ h.cnt = g.cnt)))
      ∧ ((hit = none ∨ ∃ x, hit = some x ∧ s.now < x.t + tmo) → GwBecomes (exec (.remoteReadTimeout rid) s) s (fun h => h = g)))

/-! ### Keys, life cycle and tamper -/

/-- KEY_WRITE, KEY_ZEROISE, LC_ADVANCE, DEBUG_SET, TAMPER_CLEAR, TAMPER_CFG (R581 to R587, R599, R600, R603 to R605).
Choices of the model it rests on: log entry 18. -/
def Obligations.KeyDescriptors : Prop :=
  ∀ (s : State) (die : Nat) (d : Desc), die ≤ 4 → s.takes die d = true →
    let t := s.taken die d
    let k := t.keyOf die
    let x := s.keyCtx die
    let hub := decide (die = 4)
    let lc := k.r.lcStatus.state
    let becomes (o : Host.Outcome State Fault Refusal) (P : Key → Prop) : Prop :=
      ∃ y, P y ∧ Leaves o ((t.setKey die y).complete { ref := s.refOf die d, status := 0 })
    -- a key is written in its class's states, with a group set for a command key and none for another, and its words come
    -- through a word port
    (d.opcode = 0x0701 → d.onlyBits [0x000F0007, 0x1FF] = true →
      let i := d.fld 0 16 4
      let c := keyClass hub i
      let g := d.fld 1 0 9
      let o := exec (.keyWrite d) s
      let may : Prop :=
        (c = .command ∧ (lc = .provision ∨ lc = .verify ∨ lc = .field ∨ lc = .service))
        ∨ (c = .priv ∧ (lc = .provision ∨ lc = .verify ∨ lc = .service))
        ∨ (c = .verification ∧ (lc = .provision ∨ lc = .service))
      let fits : Prop := (c = .command ∧ g ≠ 0) ∨ (c ≠ .command ∧ g = 0)
      let free : Prop := hub = true ∨ ((i = 1 → x.recOpen = false) ∧ (i = 1 ∨ i = 3 → x.sealed = false));
      ((lc = .blank ∨ lc = .retired) → Rejects o s die d 0xB0)
      ∧ (lc ≠ .blank → lc ≠ .retired → c = .reserved → Rejects o s die d 0xB1)
      ∧ (c ≠ .reserved → ¬ may → Rejects o s die d 0xB0)
      ∧ (may → ¬ fits → Rejects o s die d 0xB1)
      ∧ (may → fits → hub = false → i = 1 → x.recOpen = true → Rejects o s die d 0xB5)
      ∧ (may → fits → hub = false → (i = 1 ∧ x.recOpen = false ∨ i = 3) → x.sealed = true → Rejects o s die d 0xB6)
      ∧ (may → fits → free → (s.xferOf (d.fld 0 0 3)).isSome = true → Rejects o s die d 0x63)
      ∧ (may → fits → free → s.xferOf (d.fld 0 0 3) = none →
          Leaves o { t with xfers := s.xfers ++
            [{ die := die, d := d, ref := s.refOf die d, port := d.fld 0 0 3, isOut := false, words := [], need := keyWords hub i }] }))
    -- the slots named lose their values and keep their counters
    ∧ (d.opcode = 0x0702 → d.onlyBits [0xFFFF] = true →
      let o := exec (.keyZeroise d) s
      let may (i : Nat) : Prop :=
        ((keyClass hub i = .command ∨ keyClass hub i = .priv) ∧ lc ≠ .blank)
        ∨ (keyClass hub i = .verification ∧ (lc = .provision ∨ lc = .service))
      ((∃ i, i < 16 ∧ d.bit 0 i = true ∧ ¬ may i) → Rejects o s die d 0xB0)
      ∧ ((∀ i, i < 16 → d.bit 0 i = true → may i) → hub = false → d.bit 0 1 = true → x.recOpen = true → Rejects o s die d 0xB5)
      ∧ ((∀ i, i < 16 → d.bit 0 i = true → may i) → (hub = true ∨ d.bit 0 1 = false ∨ x.recOpen = false) → becomes o (fun y =>
          (∀ i, i < 16 → d.bit 0 i = true →
            y.slotSt i = 2 ∧ (vget y.slots i {}).val = [] ∧ (vget y.slots i {}).ctr = (vget k.slots i {}).ctr)
          ∧ (∀ i, i < 16 → d.bit 0 i = false → y.slotSt i = k.slotSt i ∧ vget y.slots i {} = vget k.slots i {})
          ∧ y = { k with slots := y.slots, r := { k.r with keySlotStatus := y.r.keySlotStatus } })))
    -- the moves of the life cycle
    ∧ (d.opcode = 0x0703 → d.onlyBits [7] = true →
      let o := exec (.lcAdvance d) s
      let goal := lcOf (d.fld 0 0 3)
      let put (l : LcState) : Key := { k with r := { k.r with lcStatus := { k.r.lcStatus with state := l } } };
      (lc = .blank → goal = some .provision → becomes o (fun y => y = put .provision))
      ∧ (lc = .provision → goal = some .verify →
          let ready : Prop := k.loaded 0 = true ∧ k.loaded 1 = true ∧ (hub = true ∨ k.loaded 3 = true)
            ∧ ∃ j, 4 ≤ j ∧ j < 12 ∧ k.loaded j = true ∧ (vget k.slots j {}).groups.getLsbD 6 = true;
          (ready → becomes o (fun y => y = put .verify)) ∧ (¬ ready → Rejects o s die d 0xB2))
      ∧ ((lc = .verify ∨ lc = .service) → goal = some .field →
          let ready : Prop := k.r.lcStatus.debug = false ∧ (hub = true ∨ (x.confOk = true ∧ (x.charging = false ∨ x.sealed = true)));
          (ready → becomes o (fun y => y = put .field)) ∧ (¬ ready → Rejects o s die d 0xB2))
      ∧ (lc = .field → goal = some .service → becomes o (fun y => y = put .service))
      ∧ (lc ≠ .blank → lc ≠ .retired → goal = some .retired →
          let idle : Prop := x.busy = false ∧ (hub = true ∨ (x.loopIdle = true ∧ x.recOpen = false));
          (¬ idle → Rejects o s die d 0xB5)
          ∧ (idle → becomes o (fun y =>
              y.r.lcStatus.state = .retired ∧ y.r.lcStatus.debug = k.r.lcStatus.debug
              ∧ (hub = true → y = put .retired)
              ∧ (hub = false → ∀ i, i < 16 →
                  ((i = 1 ∨ i = 2) → y.slotSt i = 2 ∧ (vget y.slots i {}).val = [])
                  ∧ (i ≠ 1 → i ≠ 2 → y.slotSt i = k.slotSt i ∧ vget y.slots i {} = vget k.slots i {})))))
      ∧ ((∀ l, goal = some l → (lc, l) ∉ [(.blank, .provision), (.provision, .verify), (.verify, .field), (.service, .field),
            (.field, .service), (.provision, .retired), (.verify, .retired), (.field, .retired), (.service, LcState.retired)]) →
          Rejects o s die d 0xB0))
    -- the debug flag; a change of it ends a Sole's TLS session
    ∧ (d.opcode = 0x0704 → d.onlyBits [1] = true →
      let o := exec (.debugSet d) s
      let v := d.bit 0 0
      let change : Prop := v ≠ k.r.lcStatus.debug
      let set (y : Key) : Prop :=
        y.r = { k.r with lcStatus := { k.r.lcStatus with debug := v } }
        ∧ (∀ i, i < 16 → vget y.slots i {} = { vget k.slots i {} with tctr := if v then 0 else (vget k.slots i {}).tctr })
        ∧ (change → y.vol = false ∧ y.tVol = none) ∧ (¬ change → y.vol = k.vol ∧ y.tVol = k.tVol)
        ∧ y.det = k.det ∧ y.propOnly = k.propOnly ∧ y.held = k.held
      let may : Prop := lc ≠ .retired ∧ (v = true → lc ≠ .field)
      let free : Prop := v = true → hub = true ∨ (x.loopIdle = true ∧ x.recOpen = false);
      (¬ may → Rejects o s die d 0xB0)
      ∧ (may → ¬ free → Rejects o s die d 0xB5)
      ∧ (may → free → (hub = true ∨ ¬ change) → becomes o set)
      ∧ (may → free → hub = false → change → ∃ (y : Key) (c : Chan), set y ∧ c.veh.r.status.tls = false ∧ c.key = y
          ∧ ((s.ch die).veh.r.status.tls = false → c = { s.ch die with key := y })
          ∧ Leaves o (((t.setKey die y).withCh die c).complete { ref := s.refOf die d, status := 0 })))
    -- a hold ends once no source persists; a hub's clears those it passed on
    ∧ (d.opcode = 0x0705 → d.onlyBits [] = true →
      let o := exec (.tamperClear d) s
      let passed (n : Nat) : Prop := die = 4 ∧ (s.ch n).key.r.tampStatus.hold = true ∧ (s.ch n).key.propOnly = true
      let persists : Prop := k.sourceOpen = true ∨ ∃ n, n < 4 ∧ passed n ∧ (s.ch n).key.sourceOpen = true;
      (k.r.tampStatus.hold = false → Rejects o s die d 0xB4)
      ∧ (k.r.tampStatus.hold = true → persists → Rejects o s die d 0xB3)
      ∧ (k.r.tampStatus.hold = true → ¬ persists → ∃ u : State,
          Leaves o (u.complete { ref := s.refOf die d, status := 0 })
          ∧ u.keyOf die = k.release ∧ k.release.r.tampStatus.hold = false ∧ k.release.r.tampStatus.seen = k.r.tampStatus.seen
          ∧ (∀ n, n < 4 → n ≠ die → (passed n → u.ch n = { s.ch n with key := (s.ch n).key.release }) ∧ (¬ passed n → u.ch n = s.ch n))
          ∧ (∀ n, n < 4 → u.ch n = { t.ch n with key := (u.ch n).key })
          ∧ u = { t with chans := u.chans, hub := { t.hub with key := u.hub.key } }))
    ∧ (d.opcode = 0x0706 →
      let o := exec (.tamperCfg d) s
      let tf (b : Nat) : BitVec 8 := if (d.pay 0).extractLsb' b 8 = 0 then 1 else (d.pay 0).extractLsb' b 8
      d.onlyBits [0xFFFFFFFF] = true →
        (lc = .retired → Rejects o s die d 0xB0)
        ∧ (lc ≠ .retired → becomes o (fun y => y = { k with r := { k.r with tampCfg :=
            { tf1 := tf 24, tf0 := tf 16, en1 := d.bit 0 1, en0 := d.bit 0 0 } } })))
    ∧ ((d.opcode = 0x0701 → d.onlyBits [0x000F0007, 0x1FF] = false → Rejects (exec (.keyWrite d) s) s die d 0x05)
      ∧ (d.opcode = 0x0702 → d.onlyBits [0xFFFF] = false → Rejects (exec (.keyZeroise d) s) s die d 0x05)
      ∧ (d.opcode = 0x0703 → d.onlyBits [7] = false → Rejects (exec (.lcAdvance d) s) s die d 0x05)
      ∧ (d.opcode = 0x0704 → d.onlyBits [1] = false → Rejects (exec (.debugSet d) s) s die d 0x05)
      ∧ (d.opcode = 0x0705 → d.onlyBits [] = false → Rejects (exec (.tamperClear d) s) s die d 0x05)
      ∧ (d.opcode = 0x0706 → d.onlyBits [0xFFFFFFFF] = false → Rejects (exec (.tamperCfg d) s) s die d 0x05))

/-- TAMPER_INPUT_ALARM, TAMPER_DETECTOR_ALARM, SESSION_KEY_ZEROISE, KEY_CTR_SELECT (R591, R595, R596, R598 to R600).
Choices of the model it rests on: log entry 8. -/
def Obligations.TamperAndCounters : Prop :=
  ∀ (s : State) (die : Nat), die ≤ 4 →
    let k := s.keyOf die
    let t0 := k.r.tampStatus
    -- an alarm of the die, with a code: the hold, its first source, the sources seen, and the count; a hub's goes to its Soles
    let alarms (o : Host.Outcome State Fault Refusal) (code : Nat) : Prop := ∃ t, Leaves o t
      ∧ (t.keyOf die).r.tampStatus.hold = true
      ∧ (t.keyOf die).r.tampStatus.first = (if t0.hold then t0.first else BitVec.ofNat 8 code)
      ∧ (∀ j, j < 7 → (t.keyOf die).r.tampStatus.seen.getLsbD j = (t0.seen.getLsbD j || decide (j = code - 1)))
      ∧ (t.keyOf die).r.tampCnt = satInc k.r.tampCnt
      ∧ (∀ n, n < 4 → die = 4 → 1 ≤ (s.ch n).core.run → (vget s.hub.st n {}).hubLost = false →
          (t.keyOf n).r.tampStatus.hold = true ∧ (t.keyOf n).r.tampStatus.seen.getLsbD 6 = true)
      ∧ (∀ n, n < 4 → die < 4 → n ≠ die → t.keyOf n = s.keyOf n)
      ∧ t.now = s.now ∧ t.pending = s.pending
    (∀ (isOpen : Bool) (ms : Nat),
      (let trips : Prop := k.r.tampCfg.en0 = true ∧ isOpen = true ∧ 1 ≤ ms ∧ k.r.tampCfg.tf0.toNat ≤ ms;
        (¬ trips → Leaves (exec (.tamperInputAlarm die false isOpen ms) s)
          (s.setKey die { k with r := { k.r with tampStatus := { t0 with in0Open := isOpen } } }))
        ∧ (trips → alarms (exec (.tamperInputAlarm die false isOpen ms) s) 1))
      ∧ (let trips : Prop := k.r.tampCfg.en1 = true ∧ isOpen = true ∧ 1 ≤ ms ∧ k.r.tampCfg.tf1.toNat ≤ ms;
        (¬ trips → Leaves (exec (.tamperInputAlarm die true isOpen ms) s)
          (s.setKey die { k with r := { k.r with tampStatus := { t0 with in1Open := isOpen } } }))
        ∧ (trips → alarms (exec (.tamperInputAlarm die true isOpen ms) s) 2)))
    ∧ (∀ (code : Nat) (x : Int), 3 ≤ code → code ≤ 6 → (code = 6 → die = 4) →
        (detAlarm code x = true → alarms (exec (.tamperDetectorAlarm die code x) s) code)
        ∧ (detAlarm code x = false → ∃ m, m.getLsbD (code - 1) = false
            ∧ (∀ j, j < 7 → j ≠ code - 1 → m.getLsbD j = k.det.getLsbD j)
            ∧ Leaves (exec (.tamperDetectorAlarm die code x) s) (s.setKey die { k with det := m })))
    ∧ (∀ x : Int, detAlarm 3 x = decide (50 < x) ∧ detAlarm 4 x = decide (x < 30) ∧ detAlarm 5 x = decide (x < -550 ∨ 1500 < x)
        ∧ detAlarm 6 x = decide (x ≠ 0))
    -- the volatile session keys are gone 2 s after the alarm
    ∧ (s.soleUp die 3 = true → ∀ v, k.tVol = some v →
        (v ≤ s.now → Becomes (exec (.sessionKeyZeroise die) s) s die (fun c =>
          c.key = { k with vol := false, tVol := none } ∧ c.veh.r.status.tls = false
          ∧ ((s.ch die).veh.r.status.tls = false → c = { s.ch die with key := c.key })))
        ∧ (s.now < v → Becomes (exec (.sessionKeyZeroise die) s) s die (fun c => c = s.ch die)))
    ∧ (s.soleUp die 3 = true → k.tVol = none → Becomes (exec (.sessionKeyZeroise die) s) s die (fun c => c = s.ch die))
    -- the counter and the groups of the slot selected
    ∧ (s.hostOpen die = true → ∀ w : Word,
        let i := (w.extractLsb' 0 4).toNat
        let x := vget k.slots i {}
        let cmd := decide (keyClass (decide (die = 4)) i = .command)
        let y : Key := { k with r := { k.r with
          keyCtrSel := w.extractLsb' 0 4, keyCtrLo := if cmd then BitVec.ofNat 32 x.ctr else 0
          keyCtrHi := if cmd then { groups := x.groups, ctr := BitVec.ofNat 16 (x.ctr / 2 ^ 32) } else {} } }
        (die = 4 → Leaves (exec (.keyCtrSelect die w) s) { s with hub := { s.hub with key := y } })
        ∧ (die < 4 → Becomes (exec (.keyCtrSelect die w) s) s die (fun c => c = { s.ch die with key := y })))
/-! ### CAN -/

/-- CAN_INIT_LEAVE, CAN_INIT_ENTER, CAN_INTEGRATED, CAN_RX_ERROR, CAN_RECOVERY_DELAY, CAN_RECOVERED, CAN_PROTOCOL_EXCEPTION,
CAN_MEM_ACCESS, CAN_MEM_ADDR_WRITE (R611 to R613, R618, R619, R629).
Choices of the model it rests on: log entries 1, 8, 22, 38. -/
def Obligations.CanStatesAndPorts : Prop :=
  ∀ (s : State) (n : Nat) (b : Bool), n < 4 →
    let c := (s.ch n).bus b
    let st := c.r.status.state
    let becomes (o : Host.Outcome State Fault Refusal) (P : CanBus → Prop) : Prop := Becomes o s n (BusOf (s.ch n) b P)
    let same (o : Host.Outcome State Fault Refusal) : Prop := Becomes o s n (fun k => k = s.ch n)
    (s.hostOpen n = true →
      (∀ w : Word,
        -- INIT is left after the check of the configuration
        (let o := exec (.canInitLeave n b w) s
         let x := c.r.ctrl.write (w &&& 0x7FFFFFFF)
         let y : CanCtrl := { x with recDly := if 1000 < x.recDly.toNat then 1000 else x.recDly }
         let c1 : CanBus := { c with r := { c.r with ctrl := y } }
         (st = .init → c1.check = true → becomes o (fun z => z = { c with r := { c.r with
            ctrl := y, status := { c.r.status with state := .integrating, cfgErr := false }
            ssp := { c.r.ssp with loopdly := BitVec.ofNat 9 (4 * c.r.ssp.dlyMin.toNat) } } }))
         ∧ (st = .init → c1.check = false → becomes o (fun z => z = { c with r := { c.r with
            ctrl := { y with init := true }, status := { c.r.status with cfgErr := true } } }))
         ∧ (st ≠ .init → becomes o (fun z =>
            z.initReq = false ∧ z.r.status = c.r.status ∧ z.r.ctrl.mode = c.r.ctrl.mode ∧ z.r.ctrl.triple = c.r.ctrl.triple
            ∧ z.r.ctrl.dar = c.r.ctrl.dar ∧ z.r.ctrl.collLim = x.collLim ∧ z.r.ctrl.selfRx = x.selfRx ∧ z.r.ctrl.autoRec = x.autoRec
            ∧ (z.r.evt.wrIgn = true ↔
                c.r.evt.wrIgn = true ∨ x.mode ≠ c.r.ctrl.mode ∨ x.triple ≠ c.r.ctrl.triple ∨ x.dar ≠ c.r.ctrl.dar)
            ∧ z = { c with initReq := false, r := { c.r with ctrl := z.r.ctrl, evt := z.r.evt } })))
        -- INIT is entered at once, or with the end of the frame in progress
        ∧ (let o := exec (.canInitEnter n b w) s
           (st = .init → becomes o (fun z => z.r.status = c.r.status ∧ z.r.ctrl.init = true ∧ z = { c with r := { c.r with ctrl := z.r.ctrl } }))
           ∧ (st ≠ .init → c.cur = none → becomes o (fun z =>
              z.r.status.state = .init ∧ z.r.ctrl.init = true ∧ z.r.txpend = Vector.replicate 2 0 ∧ z.cur = none ∧ z.r.txcxl = c.r.txcxl
              ∧ z.mem = c.mem ∧ z.tec = c.tec ∧ z.r.err = c.r.err))
           ∧ (st ≠ .init → c.cur ≠ none → becomes o (fun z =>
              z.initReq = true ∧ z.r.status = c.r.status ∧ z.cur = c.cur ∧ z.r.txpend = c.r.txpend ∧ z.mem = c.mem)))
        -- the host's port
        ∧ becomes (exec (.canMemAddrWrite n b false w) s) (fun z =>
            z = { c with lockH := none, r := { c.r with
              memAddr := w.extractLsb' 2 12, evt := { c.r.evt with lockAbnd := c.r.evt.lockAbnd || c.lockH.isSome } } })
        ∧ (let a := c.addr false
           let shut : Prop := ∃ base rx pend, c.element a = some (base, rx, pend) ∧ (rx = true ∨ pend = true)
           (shut → becomes (exec (.canMemAccess n b false (some w)) s) (fun z =>
              z = { c with r := { c.r with memAddr := c.r.memAddr + 1, evt := { c.r.evt with wrIgn := true } } }))
           ∧ (¬ shut → becomes (exec (.canMemAccess n b false (some w)) s) (fun z =>
              (Memory.wf canDflt c.mem = true → z.word a = some w) ∧ (∀ x, x % 4 = 0 → x ≠ a → z.word x = c.word x)
              ∧ z = { c with mem := z.mem, r := { c.r with memAddr := c.r.memAddr + 1 } }))))
      ∧ (let v := s.regView n
         let q := (v.ch n).bus b
         let a := q.addr false
         ∃ (k : Chan) (w : Word), (∀ x, q.word a = some x → w = x)
           ∧ (k.bus b).r.memAddr = q.r.memAddr + 1 ∧ (k.bus b).mem = q.mem ∧ k.bus (!b) = (v.ch n).bus (!b)
           ∧ (∀ base pend, q.element a = some (base, true, pend) → a = base → (k.bus b).lockH = some base)
           ∧ (q.element a = none → (k.bus b).lockH = q.lockH)
           ∧ (let u := v.withCh n k
              Leaves (exec (.canMemAccess n b false none) s)
                { u with out := u.out ++ [.readData (u.nid.getD 0) (0x8000 + 0x4000 * n + canBase b + 0x5C) w] })))
    ∧ (s.soleUp n 2 = true →
      -- the channel core's port
      (∀ w : Word,
        becomes (exec (.canMemAddrWrite n b true w) s) (fun z =>
          z = { c with addrC := w.extractLsb' 2 12, lockC := none
                       r := { c.r with evt := { c.r.evt with lockAbnd := c.r.evt.lockAbnd || c.lockC.isSome } } })
        ∧ (let a := c.addr true
           let shut : Prop := ∃ base rx pend, c.element a = some (base, rx, pend) ∧ (rx = true ∨ pend = true)
           (shut → becomes (exec (.canMemAccess n b true (some w)) s) (fun z =>
              z = { c with addrC := c.addrC + 1, r := { c.r with evt := { c.r.evt with wrIgn := true } } }))
           ∧ (¬ shut → becomes (exec (.canMemAccess n b true (some w)) s) (fun z =>
              (Memory.wf canDflt c.mem = true → z.word a = some w) ∧ (∀ x, x % 4 = 0 → x ≠ a → z.word x = c.word x)
              ∧ z = { c with mem := z.mem, addrC := c.addrC + 1 }))))
      ∧ Becomes (exec (.canMemAccess n b true none) s) s n (fun k =>
          (k.bus b).addrC = c.addrC + 1 ∧ (k.bus b).mem = c.mem ∧ k.bus (!b) = (s.ch n).bus (!b)
          ∧ (∀ base pend, c.element (c.addr true) = some (base, true, pend) → c.addr true = base → (k.bus b).lockC = some base)
          ∧ k = { s.ch n with canA := k.canA, canB := k.canB, fc := k.fc }))
    ∧ (s.soleUp n 2 = true → s.hub.cob.run = [] →
      (st = .integrating → becomes (exec (.canIntegrated n b) s) (fun z =>
          (c.tec < 128 → c.r.err.recF.toNat < 128 → z.r.status.state = .active)
          ∧ (c.tec ≤ 255 → 128 ≤ c.tec ∨ 128 ≤ c.r.err.recF.toNat → z.r.status.state = .passive ∧ z.r.evt.ep = true)
          ∧ (255 < c.tec → z.r.status.state = .busOff ∧ z.r.evt.bo = true)
          ∧ z.mem = c.mem ∧ z.r.txpend = c.r.txpend ∧ z.tec = c.tec ∧ z.r.err.recF = c.r.err.recF))
      ∧ (st ≠ .integrating → same (exec (.canIntegrated n b) s))
      ∧ (∀ (kind : Nat) (dataPhase : Bool) (step : Nat),
        let o := exec (.canRxError n b kind dataPhase step) s
        (c.onBus = false → same o)
        ∧ (c.onBus = true → becomes o (fun z =>
            z.r.err.errframes = satInc c.r.err.errframes
            ∧ (dataPhase = true → z.r.errkind = { c.r.errkind with dKind := msetb c.r.errkind.dKind kind true })
            ∧ (dataPhase = false → z.r.errkind = { c.r.errkind with nKind := msetb c.r.errkind.nKind kind true })
            ∧ (c.r.ctrl.mode ≠ 1 → c.r.ctrl.mode ≠ 2 → z.r.err.recF.toNat = min 255 (c.r.err.recF.toNat + min step 8))
            ∧ (c.r.ctrl.mode = 1 ∨ c.r.ctrl.mode = 2 → z.r.err.recF = c.r.err.recF)
            ∧ (c.tec ≤ 255 → z.r.status.state =
                (if 128 ≤ c.tec ∨ 128 ≤ z.r.err.recF.toNat then .passive else .active))
            ∧ z.mem = c.mem ∧ z.tec = c.tec ∧ z.r.txpend = c.r.txpend)))
      -- recovery from BUS_OFF
      ∧ (let due : Prop := st = .busOff ∧ c.r.ctrl.autoRec = true ∧ c.tBo + msNs (min 1000 c.r.ctrl.recDly.toNat) ≤ s.now
         (due → becomes (exec (.canRecoveryDelay n b) s) (fun z =>
            z = { c with r := { c.r with status := { c.r.status with state := .recovering } } }))
         ∧ (¬ due → same (exec (.canRecoveryDelay n b) s)))
      ∧ (st = .recovering → becomes (exec (.canRecovered n b) s) (fun z =>
          z.tec = 0 ∧ z.r.err.recF = 0 ∧ z.r.err.tec = 0 ∧ z.r.status.state = .active ∧ z.r.status.ew = false ∧ z.mem = c.mem))
      ∧ (st ≠ .recovering → same (exec (.canRecovered n b) s))
      ∧ (c.onBus = true → becomes (exec (.canProtocolException n b) s) (fun z =>
          z.cur = none ∧ z.r.evt.pxe = true ∧ z.mem = c.mem
          ∧ (c.initReq = false → z.r.status.state = .integrating ∧ z.r.txpend = c.r.txpend)
          ∧ (c.initReq = true → z.r.status.state = .init ∧ z.r.txpend = Vector.replicate 2 0)))
      ∧ (c.onBus = false → same (exec (.canProtocolException n b) s)))

/-- CAN_FRAME_RX, CAN_ARBITRATION_SELECT, CAN_TX_SUCCESS, CAN_TX_ERROR, CAN_TX_REQUEST, CAN_TX_CANCEL, CAN_HOLD_WRITE, CAN_RXF_ACK
(R619 to R623, R625 to R629).
Choices of the model it rests on: log entries 1, 22, 38. -/
def Obligations.CanTraffic : Prop :=
  ∀ (s : State) (n : Nat) (b : Bool), n < 4 →
    let c := (s.ch n).bus b
    let becomes (o : Host.Outcome State Fault Refusal) (P : CanBus → Prop) : Prop := Becomes o s n (BusOf (s.ch n) b P)
    let same (o : Host.Outcome State Fault Refusal) : Prop := Becomes o s n (fun k => k = s.ch n)
    -- words stand in message memory from an address on
    let holds (z : CanBus) (a : Nat) (ws : List Word) : Prop := ∀ i, i < ws.length → z.word (a + 4 * i) = ws[i]?
    (s.soleUp n 2 = true → s.hub.cob.run = [] →
      (∀ (fr : CanFrame) (age : Nat),
        let o := exec (.canFrameRx n b fr age) s
        let ts := s.env.site - age
        let remote : Prop := fr.w0.getLsbD 30 = true ∧ fr.w1.getLsbD 31 = false
        let hit := (List.range c.r.rxcfg.nflt.toNat).find? (fun f => c.matches f fr.w0)
        let takes (P : CanBus → Prop) : Prop := Becomes o s n (fun k =>
          P (k.bus b) ∧ k.bus (!b) = (s.ch n).bus (!b)
          ∧ ((s.ch n).canToShank fr = false → k = { s.ch n with canA := k.canA, canB := k.canB, jq := k.jq, fc := k.fc })
          ∧ (c.r.ctrl.mode ≠ 1 → c.r.ctrl.mode ≠ 2 → c.r.err.recF.toNat ≤ 127 → (k.bus b).r.err.recF = c.r.err.recF - (if c.r.err.recF = 0 then 0 else 1))
          ∧ (c.r.ctrl.mode = 1 ∨ c.r.ctrl.mode = 2 → (k.bus b).r.err.recF = c.r.err.recF))
        (c.onBus = false ∨ c.r.ctrl.mode = 3 → same o)
        ∧ (c.onBus = true → c.r.ctrl.mode ≠ 3 →
          -- remote frames are refused where RRF says so
          (remote → c.r.rxcfg.rrf = true → takes (fun z => z.mem = c.mem ∧ z.r.newB = c.r.newB ∧ z.r.rxfStatus.fill = c.r.rxfStatus.fill))
          -- a frame that no entry matches goes to the FIFO or nowhere
          ∧ ((remote → c.r.rxcfg.rrf = false) → hit = none →
            let nm := if fr.w0.getLsbD 31 then c.r.rxcfg.nmXtd else c.r.rxcfg.nmStd
            let put := c.r.rxfStatus.put
            (nm = 0 → c.r.rxfStatus.fill.toNat < 128 → c.locked (fifoAddr put.toNat) = false → takes (fun z =>
              holds z (fifoAddr put.toNat) (elemWords fr 0 true ts) ∧ z.r.rxfStatus.put = put + 1
              ∧ z.r.rxfStatus.fill = c.r.rxfStatus.fill + 1 ∧ z.r.newB = c.r.newB))
            ∧ (nm = 0 → c.r.rxfStatus.fill = 128 → c.r.rxcfg.fifoOvw = false → takes (fun z =>
              z.mem = c.mem ∧ z.r.evt.rxfLost = true ∧ z.r.rxfStatus.fill = 128))
            ∧ (nm = 0 → c.r.rxfStatus.fill = 128 → c.r.rxcfg.fifoOvw = true → c.locked (fifoAddr put.toNat) = false → takes (fun z =>
              holds z (fifoAddr put.toNat) (elemWords fr 0 true ts) ∧ z.r.evt.rxfLost = true ∧ z.r.rxfStatus.fill = 128
              ∧ z.r.rxfStatus.put = put + 1 ∧ z.r.rxfStatus.get = c.r.rxfStatus.get + 1))
            ∧ (nm ≠ 0 → takes (fun z => z.mem = c.mem ∧ z.r.newB = c.r.newB ∧ z.r.rxfStatus.fill = c.r.rxfStatus.fill)))
          -- a frame bound for its own receive buffer
          ∧ (∀ f, (remote → c.r.rxcfg.rrf = false) → hit = some f → f < 64 → c.filtDest f = 2 → c.btype f = 1 →
            (c.locked (bufAddr f) = false → takes (fun z =>
              holds z (bufAddr f) (elemWords fr f false ts) ∧ pairBit z.r.newB f = true
              ∧ (pairBit c.r.newB f = true → z.r.evt.rxOvr = true) ∧ z.r.rxfStatus.fill = c.r.rxfStatus.fill))
            ∧ (c.locked (bufAddr f) = true → c.hold = none → takes (fun z =>
              z.hold = some (some f, elemWords fr f false ts) ∧ z.mem = c.mem ∧ z.r.newB = c.r.newB))
            ∧ (c.locked (bufAddr f) = true → c.hold ≠ none → takes (fun z =>
              z.hold = c.hold ∧ z.r.evt.holdLost = true ∧ z.mem = c.mem ∧ z.r.newB = c.r.newB)))))
      -- the pending buffer that comes first in order is selected
      ∧ (let o := exec (.canArbitrationSelect n b) s
         let ready : Prop := c.onBus = true ∧ c.cur = none ∧ c.r.ctrl.mode ≠ 1 ∧ c.r.ctrl.mode ≠ 2
         (¬ ready → same o)
         ∧ (∀ i, ready → i < 64 → pairBit c.r.txpend i = true →
            (∀ j, j < 64 → j ≠ i → pairBit c.r.txpend j = true → keyLt (c.txKey i) (c.txKey j) = true) →
            becomes o (fun z => z = { c with cur := some i, canc := false }))
         ∧ (ready → (∀ j, j < 64 → pairBit c.r.txpend j = false) → becomes o (fun z => z = { c with canc := false })))
      ∧ (∀ (age : Nat) (dly : Option Nat),
        (c.cur = none → same (exec (.canTxSuccess n b age dly) s))
        ∧ (∀ i, c.cur = some i → i < 64 → Becomes (exec (.canTxSuccess n b age dly) s) s n (fun k =>
            let z := k.bus b
            let t := BitVec.ofNat 64 (s.env.site - age)
            pairBit z.r.txpend i = false ∧ pairBit z.r.txdone i = true ∧ z.cur = none ∧ z.tec = c.tec - 1
            ∧ (∀ j, j < 64 → j ≠ i → pairBit z.r.txdone j = pairBit c.r.txdone j)
            ∧ (c.r.ctrl.selfRx = false →
                z.word (bufAddr i + 8) = some (t.extractLsb' 0 32) ∧ z.word (bufAddr i + 12) = some (t.extractLsb' 32 32)
                ∧ z.r.rxfStatus.fill = c.r.rxfStatus.fill)
            ∧ (∃ ws, k.oq = (s.ch n).oq ++ [.can (s.ch n).idx (b2n b) ws]
                ∧ (∀ w, c.word (bufAddr i) = some w → ws[0]? = some w) ∧ (∀ w, c.word (bufAddr i + 4) = some w → ws[1]? = some w))
            ∧ k.bus (!b) = (s.ch n).bus (!b)
            ∧ k = { s.ch n with canA := k.canA, canB := k.canB, jq := k.jq, oq := k.oq, fc := k.fc })))
      -- an attempt ends without success: another follows, unless its collisions, a cancellation or DAR end the request
      ∧ (∀ (lost : Bool) (kind : Nat) (dataPhase field exempt : Bool),
        let o := exec (.canTxError n b lost kind dataPhase field exempt) s
        (c.cur = none → same o)
        ∧ (∀ i, c.cur = some i → i < 64 → c.initReq = false →
          let hit : Prop := lost = false ∧ field = true ∧ (kind = 3 ∨ kind = 4)
          let m := vget c.coll i 0
          let lim := c.r.ctrl.collLim.toNat
          let many : Prop := hit ∧ 0 < lim ∧ lim ≤ m + 1
          let ends : Prop := many ∨ c.canc = true ∨ c.r.ctrl.dar = true
          becomes o (fun z =>
            z.cur = none ∧ z.canc = false ∧ z.mem = c.mem
            ∧ z.tec = c.tec + (if lost ∨ exempt then 0 else 8)
            ∧ z.r.err.errframes = (if lost then c.r.err.errframes else satInc c.r.err.errframes)
            ∧ (hit → vget z.coll i 0 = m + 1) ∧ (lost = true → vget z.coll i 0 = m) ∧ (lost = false → ¬ hit → vget z.coll i 0 = 0)
            ∧ (many → z.r.evt.txcoll = true) ∧ (¬ many → z.r.evt.txcoll = c.r.evt.txcoll)
            ∧ (ends → pairBit z.r.txpend i = false ∧ pairBit z.r.txcxl i = true)
            ∧ (¬ ends → z.r.txpend = c.r.txpend ∧ z.r.txcxl = c.r.txcxl)
            ∧ (c.onBus = true → 255 < z.tec → z.r.status.state = .busOff ∧ z.r.evt.bo = true)))))
    ∧ (s.hostOpen n = true →
      (∀ i, i < 64 →
        (let o := exec (.canTxRequest n b i) s
         (c.btype i = 2 → pairBit c.r.txpend i = false → becomes o (fun z =>
            pairBit z.r.txpend i = true ∧ (∀ j, j < 64 → j ≠ i → pairBit z.r.txpend j = pairBit c.r.txpend j) ∧ vget z.coll i 0 = 0
            ∧ z = { c with coll := z.coll, r := { c.r with txpend := z.r.txpend } }))
         ∧ (c.btype i ≠ 2 ∨ pairBit c.r.txpend i = true → becomes o (fun z =>
            z = { c with r := { c.r with evt := { c.r.evt with wrIgn := true } } })))
        ∧ (∀ cut : Bool,
          let o := exec (.canTxCancel n b i cut) s
          (pairBit c.r.txpend i = false → same o)
          ∧ (pairBit c.r.txpend i = true → c.cur = some i → cut = true → becomes o (fun z => z = { c with canc := true }))
          ∧ (pairBit c.r.txpend i = true → (c.cur ≠ some i ∨ cut = false) → becomes o (fun z =>
              pairBit z.r.txpend i = false ∧ pairBit z.r.txcxl i = true ∧ z.cur = (if c.cur = some i then none else c.cur)
              ∧ (∀ j, j < 64 → j ≠ i → pairBit z.r.txpend j = pairBit c.r.txpend j ∧ pairBit z.r.txcxl j = pairBit c.r.txcxl j)
              ∧ z = { c with cur := z.cur, r := { c.r with txpend := z.r.txpend, txcxl := z.r.txcxl } }))))
      -- the elements of the FIFO up to the one named are released
      ∧ (∀ w : Word,
        let o := exec (.canRxfAck n b w) s
        let i := w.extractLsb' 0 7
        let m := (i - c.r.rxfStatus.get).toNat + 1
        (m ≤ c.r.rxfStatus.fill.toNat → becomes o (fun z =>
          z.r.rxfStatus.get = i + 1 ∧ z.r.rxfStatus.fill.toNat = c.r.rxfStatus.fill.toNat - m ∧ z.r.rxfStatus.put = c.r.rxfStatus.put
          ∧ z.mem = c.mem ∧ z.r.newB = c.r.newB))
        ∧ (c.r.rxfStatus.fill.toNat < m → becomes o (fun z =>
          z = { c with r := { c.r with evt := { c.r.evt with wrIgn := true } } }))))
    -- the frame held is written once its element is free
    ∧ (s.soleUp n 2 = true →
      let o := exec (.canHoldWrite n b) s
      (c.hold = none → same o)
      ∧ (∀ dst ws, c.hold = some (dst, ws) → c.locked (c.target dst) = true → same o)
      ∧ (∀ dst ws, c.hold = some (dst, ws) → c.locked (c.target dst) = false → ws.length ≤ 20 → becomes o (fun z =>
          z.hold = none
          ∧ (∀ i, dst = some i → i < 64 → holds z (bufAddr i) ws ∧ pairBit z.r.newB i = true ∧ z.r.rxfStatus = c.r.rxfStatus)
          ∧ (dst = none → holds z (fifoAddr c.r.rxfStatus.put.toNat) ws ∧ z.r.rxfStatus.put = c.r.rxfStatus.put + 1 ∧ z.r.newB = c.r.newB))))
/-! ### Clock synthesis -/

/-- RELOCK, LOCK_VERIFIED, LOCK_ATTEMPT_TIMEOUT, LOSS_OF_LOCK, LOCK_REGAINED, LOSS_OF_REFERENCE, REFERENCE_REGAINED, PLL_LOL,
HUB_LOSS_OF_LOCK (R47, R644 to R649, R652, R678).
Choices of the model it rests on: log entry 8. -/
def Obligations.ClockLock : Prop :=
  ∀ (s : State) (n : Nat),
    let c := s.ch n
    let x := c.clk
    let r := x.r.status
    let same (o : Host.Outcome State Fault Refusal) : Prop := Becomes o s n (fun k => k = c)
    -- one journal entry of the channel synthesiser
    let noted (k : Chan) (ev : JEv) : Prop := ∃ j, k.jq = c.jq ++ [j] ∧ j.ev = ev ∧ j.src = .pwm ∧ j.ch = some c.idx ∧ j.t = s.env.site
    -- RELOCKING is entered: no offset, no walk, the centre of the register, the modulator held and its clocks stopped
    let restarted (auto : Bool) (k : Chan) : Prop :=
      k.clk.r.status = { r with state := .relocking } ∧ k.clk.r.rampNow.ofs = 0 ∧ k.clk.r.rampNow.running = false
      ∧ k.clk.r.rampNow.seg = x.r.rampNow.seg ∧ k.clk.centre = x.r.centre.toNat ∧ k.clk.tAtt = s.now ∧ k.clk.fails = 0
      ∧ k.clk.r.ctrl.auto = auto ∧ k.clk.r.seg = x.r.seg ∧ k.clk.r.rampCfg = x.r.rampCfg ∧ k.clk.r.centre = x.r.centre
      ∧ k.pwm = c.pwm.hold ∧ k.met = c.met.clocks false c.met.r.ctrl.mclk0En c.met.r.ctrl.mclk1En
      ∧ k = { c with clk := k.clk, pwm := k.pwm, met := k.met }
    (s.hostOpen n = true → n < 4 →
      let o := exec (.relock n false) s
      let ctrl : ClkCtrl := { auto := x.r.ctrl.auto }
      let idle : Clk := { x with r := { x.r with ctrl := ctrl } };
      ((r.state = .locking ∨ r.state = .relocking) → Becomes o s n (fun k => k = { c with clk := idle }))
      ∧ (c.core.pm = 2 → (r.state = .locked ∨ r.state = .failed) →
          Becomes o s n (fun k => k = { c with clk := { idle with pend := true } }))
      ∧ (c.core.pm ≤ 1 → r.state = .locked → c.transferring = true →
          Becomes o s n (fun k => k = { c with clk := { idle with r := { idle.r with status := { r with relockRef := true } } } }))
      ∧ (c.core.pm ≤ 1 → (r.state = .failed ∨ (r.state = .locked ∧ c.transferring = false)) →
          Becomes o s n (restarted x.r.ctrl.auto)))
    ∧ (s.soleUp n 1 = true →
      (let due : Prop := r.state = .locked ∧ r.lolNow = true ∧ x.r.ctrl.auto = true ∧ c.transferring = false
       (due → Becomes (exec (.relock n true) s) s n (restarted true))
       ∧ (¬ due → same (exec (.relock n true) s)))
      -- a lock ungates the output, and is counted
      ∧ (let due : Prop := (r.state = .locking ∨ r.state = .relocking) ∧ r.lorNow = false
         (due → Becomes (exec (.lockVerified n) s) s n (fun k =>
            k.clk = { x with fails := 0, r := { x.r with status := { r with state := .locked, lolNow := false, relocks := satInc r.relocks } } }
            ∧ k.pwm = c.pwm.unhold ∧ k.met = c.met.clocks true c.met.r.ctrl.mclk0En c.met.r.ctrl.mclk1En
            ∧ k = { c with clk := k.clk, pwm := k.pwm, met := k.met }))
         ∧ (¬ due → same (exec (.lockVerified n) s)))
      -- the third attempt that fails ends in FAILED
      ∧ (let due : Prop := (r.state = .locking ∨ r.state = .relocking) ∧ (x.tAtt + msNs 5 ≤ s.now ∨ r.lorNow = true)
         (due → Becomes (exec (.lockAttemptTimeout n) s) s n (fun k =>
            k.clk = { x with fails := x.fails + 1, tAtt := s.now
                             r := { x.r with status := { r with lol := true, state := if 2 ≤ x.fails then .failed else r.state } } }
            ∧ (if r.lol then k.jq = c.jq else noted k JEv.clkLol) ∧ k = { c with clk := k.clk, jq := k.jq }))
         ∧ (¬ due → same (exec (.lockAttemptTimeout n) s)))
      ∧ (r.state = .locked → r.lolNow = false → Becomes (exec (.lossOfLock n) s) s n (fun k =>
          k.clk = { x with r := { x.r with status := { r with lolNow := true, lol := true } } } ∧ noted k JEv.clkLol
          ∧ k = { c with clk := k.clk, jq := k.jq }))
      ∧ (r.state ≠ .locked ∨ r.lolNow = true → same (exec (.lossOfLock n) s))
      ∧ Becomes (exec (.lockRegained n) s) s n (fun k =>
          k = { c with clk := { x with r := { x.r with status := { r with lolNow := false } } } }))
    ∧ (s.soleUp n 2 = true →
      (r.lorNow = false → Becomes (exec (.lossOfReference n) s) s n (fun k =>
        k.clk = { x with r := { x.r with status := { r with lorNow := true, lor := true } } } ∧ noted k JEv.clkLor
        ∧ k = { c with clk := k.clk, jq := k.jq }))
      ∧ (r.lorNow = true → same (exec (.lossOfReference n) s))
      ∧ Becomes (exec (.referenceRegained n) s) s n (fun k =>
          k = { c with clk := { x with r := { x.r with status := { r with lorNow := false } } } })
      ∧ Becomes (exec (.pllLol n) s) s n (fun k =>
          k.clk = { x with r := { x.r with status := { r with pllLol := true } } } ∧ noted k JEv.pllLol
          ∧ k = { c with clk := k.clk, jq := k.jq }))
    -- the hub's synthesisers and its reference
    ∧ (s.hub.run ≠ 0 → ∀ (which : Nat) (lost : Bool), which < 5 →
        let h := s.hub.r.clkStatus
        let y : HubClkStatus := { h with
          coreLol := h.coreLol || (lost && decide (which = 0)), laneLol := h.laneLol || (lost && decide (which = 1))
          dramLol := h.dramLol || (lost && decide (which = 2)), pcieLol := h.pcieLol || (lost && decide (which = 3))
          refLost := h.refLost || (lost && decide (which = 4)), refNow := if which = 4 then lost else h.refNow }
        let u : State := { s with hub := { s.hub with r := { s.hub.r with clkStatus := y } } }
        Leaves (exec (.hubLossOfLock which lost) s) (if lost then u.hubJr JEv.hubLol [(which : Int)] else u))

/-- RAMP_GO, RAMP_STOP, RAMP_STEP (R635, R636, R640 to R642).
Choices of the model it rests on: log entry 32. -/
def Obligations.ClockRamp : Prop :=
  ∀ (s : State) (n : Nat),
    let c := s.ch n
    let x := c.clk
    let r := x.r.status
    let now := x.r.rampNow
    let on (P : Clk → Prop) (k : Chan) : Prop := P k.clk ∧ k = { c with clk := k.clk }
    -- a segment with steps is entered
    let enters (z : Clk) (i : Nat) : Prop :=
      z.left = (x.seg i).steps.toNat ∧ z.r.rampNow.running = true ∧ z.r.rampNow.seg = BitVec.ofNat 4 i
    -- the profile ends, or goes on from LOOP
    let ends (z : Clk) : Prop :=
      (x.r.rampCfg.mode = 2 → (x.seg x.r.rampCfg.loop.toNat).steps ≠ 0 → enters z x.r.rampCfg.loop.toNat)
      ∧ (x.r.rampCfg.mode ≠ 2 ∨ (x.seg x.r.rampCfg.loop.toNat).steps = 0 →
          z.left = 0 ∧ z.r.rampNow.running = false ∧ z.r.rampNow.seg = now.seg)
    let quiet (z : Clk) : Prop := z.r.status = r ∧ z.r.rampNow.ofs = now.ofs ∧ z.centre = x.centre ∧ z.r.seg = x.r.seg
    (s.hostOpen n = true → n < 4 →
      let ctrl : ClkCtrl := { auto := x.r.ctrl.auto }
      let o := exec (.rampGo n) s;
      (r.state ≠ .locked → Becomes o s n (on (fun z =>
        z = { x with r := { x.r with ctrl := ctrl, status := { r with wrIgn := true } } })))
      ∧ (r.state = .locked → (x.r.rampCfg.mode = 0 ∨ x.r.rampCfg.mode = 3) →
          Becomes o s n (on (fun z => z = { x with r := { x.r with ctrl := ctrl } })))
      ∧ (r.state = .locked → (x.r.rampCfg.mode = 1 ∨ x.r.rampCfg.mode = 2) → (x.seg 0).steps ≠ 0 →
          Becomes o s n (on (fun z => enters z 0 ∧ quiet z)))
      ∧ (r.state = .locked → (x.r.rampCfg.mode = 1 ∨ x.r.rampCfg.mode = 2) → (x.seg 0).steps = 0 →
          Becomes o s n (on (fun z => ends z ∧ quiet z)))
      -- the walk stops where it stands
      ∧ Becomes (exec (.rampStop n) s) s n (on (fun z =>
          z = { x with left := 0, r := { x.r with ctrl := ctrl, rampNow := { now with running := false } } })))
    ∧ (s.soleUp n 1 = true →
      let o := exec (.rampStep n) s
      let want : Int := x.ofs + (x.seg now.seg.toNat).delta.toInt
      let six : Int := (x.centre * 6 / 100 : Nat)
      let got : Int := min (max (-six) (min six want)) (34952533 - x.centre)
      let edge (m : Int) : Int := max 32883343 (min 34225520 m)
      -- where the walk stands after the step
      let walk (z : Clk) : Prop :=
        z.centre = x.centre ∧ z.r.seg = x.r.seg ∧ z.r.rampCfg = x.r.rampCfg ∧ z.r.status.state = .locked
        ∧ (1 < x.left → z.left = x.left - 1 ∧ z.r.rampNow.running = true ∧ z.r.rampNow.seg = now.seg)
        ∧ (x.left ≤ 1 → (now.seg = x.r.rampCfg.last ∨ now.seg = 15) → ends z)
        ∧ (x.left ≤ 1 → now.seg ≠ x.r.rampCfg.last → now.seg ≠ 15 →
            ((x.seg (now.seg.toNat + 1)).steps ≠ 0 → enters z (now.seg.toNat + 1))
            ∧ ((x.seg (now.seg.toNat + 1)).steps = 0 → ends z));
      (r.state ≠ .locked → Becomes o s n (on (fun z => z = x)))
      ∧ (r.state = .locked → now.running = false → (c.transferring = false ∨ x.inWindow = true) → Becomes o s n (on (fun z => z = x)))
      -- a step moves the offset within 6 % of the centre and below the greatest multiplier
      ∧ (r.state = .locked → now.running = true → c.transferring = false → Becomes o s n (on (fun z =>
          z.r.rampNow.ofs = BitVec.ofInt 22 got ∧ z.r.status = { r with lim := r.lim || decide (got ≠ want) } ∧ walk z)))
      -- while power is transferred the frequency stays in the running window
      ∧ (r.state = .locked → now.running = true → c.transferring = true → x.inWindow = true → Becomes o s n (on (fun z =>
          walk z
          ∧ (edge (x.centre + got) = x.centre + got →
              z.r.rampNow.ofs = BitVec.ofInt 22 got ∧ z.r.status = { r with lim := r.lim || decide (got ≠ want) })
          ∧ (edge (x.centre + got) ≠ x.centre + got →
              z.r.rampNow.ofs = BitVec.ofInt 22 (edge (x.centre + got) - x.centre) ∧ z.r.status = { r with clamp := true }))))
      -- from outside it the frequency moves toward the nearer edge
      ∧ (r.state = .locked → c.transferring = true → x.inWindow = false → Becomes o s n (on (fun z =>
          z.r.rampNow.ofs = BitVec.ofInt 22 (x.ofs + max (-32767) (min 32767 (edge x.mult - x.mult))) ∧ z.r.status = r
          ∧ (now.running = true → walk z) ∧ (now.running = false → z.left = x.left ∧ z.r.rampNow.running = false)))))
/-! ### Power states, temperature and ageing -/

/-- PM_EVALUATE, PM_LOWER, PM_STATE_REACHED, PM_WAKE (R657 to R660, R664 to R666, R680).
Choices of the model it rests on: log entries 8, 11, 13, 23. -/
def Obligations.PowerStates : Prop :=
  ∀ (s : State), s.hub.run = 2 →
    let p := s.hub.pm
    let pm (q : Pm) : State := { s with hub := { s.hub with pm := q } }
    let becomes (o : Host.Outcome State Fault Refusal) (P : Pm → Prop) : Prop := ∃ q, P q ∧ Leaves o (pm q)
    -- the target is the least of the constraints, and with AUTO 0 the shallowest state
    (∀ (u : Nat) (x : PmUnit), u < 5 →
      (p.r.pmCtrl.auto = false → p.choose u x = (0, 0))
      ∧ (p.r.pmCtrl.auto = true →
          (p.choose u x).1 ≤ p.limit u ∧ (p.choose u x).1 ≤ deepest (decide (u = 4))
          ∧ (∀ f, f ∈ x.floors → (p.choose u x).1 ≤ f.2)
          ∧ (∀ t : BitVec 24, (t = p.r.pmLtrDr ∨ (x.vd = true ∧ t = p.r.pmLtrVd) ∨ (x.gr = true ∧ t = p.r.pmLtrGr)) → t ≠ 0xFFFFFF →
              (p.choose u x).1 = 0 ∨ exitUs (decide (u = 4)) (p.choose u x).1 ≤ t.toNat)))
    -- an evaluation: a shallower target raises at once, a deeper one starts the dwell
    ∧ (∀ vaux mw : Nat, becomes (exec (.pmEvaluate vaux mw) s) (fun q =>
        q.r.pmPower.vaux.toNat = min 65535 (vaux / 10)
        ∧ ∀ u, u < 5 →
          let old := vget p.u u {}
          let z := vget q.u u {}
          let t := (p.choose u (s.pmUnit u)).1
          q.state u = p.state u ∧ z.target = t
          ∧ (t < p.state u → z.dest = some t ∧ z.tLow = none)
          ∧ (old.dest = none → t = p.state u → z.dest = none ∧ z.tLow = none)
          ∧ (old.dest = none → p.state u < t → z.dest = none ∧ z.tLow = some (old.tLow.getD s.now))
          ∧ (∀ m, old.dest = some m → p.state u < m → p.state u < t → t < m → z.dest = none ∧ z.tLow = some s.now)
          ∧ (∀ m, old.dest = some m → p.state u ≤ t → m ≤ p.state u → z.dest = some m)))
    -- a dwell that has run out begins the lowering
    ∧ (∀ u : Nat, u < 5 → s.hub.cob.run = [] →
        let x := vget p.u u {}
        let due : Prop := ∃ t, x.tLow = some t ∧ p.state u < x.target ∧ t + msNs (max 10 (min 60000 p.r.pmCtrl.dwell.toNat)) ≤ s.now
        (due → becomes (exec (.pmLower u) s) (fun q =>
          vget q.u u {} = { x with dest := some x.target, tLow := none } ∧ (∀ v, v ≠ u → vget q.u v {} = vget p.u v {})
          ∧ q = { p with u := q.u }))
        ∧ (¬ due → Leaves (exec (.pmLower u) s) s))
    -- a wake source is shown, abandons a lowering and raises the unit to where it can be served
    ∧ (∀ u code : Nat, u < 5 → 1 ≤ code → code ≤ 9 → becomes (exec (.pmWake u code) s) (fun q =>
        let t := (p.choose u (s.pmUnit u)).1
        let goal := match wakeState (decide (u = 4)) code with | some w => min w t | none => t
        let z := vget q.u u {}
        ((q.r.pmWake.extractLsb' (4 * u) 4).toNat = code) ∧ z.target = goal ∧ (∀ v, v < 5 → q.state v = p.state v)
        ∧ (goal < p.state u → z.dest = some goal ∧ z.tLow = none)
        ∧ (p.state u < goal → (vget p.u u {}).dest.all (fun m => decide (p.state u < m)) = true → z.dest = none ∧ z.tLow = some s.now)
        ∧ (∀ v, v ≠ u → vget q.u v {} = vget p.u v {})))
    ∧ (∀ u code : Nat, (4 < u ∨ code = 0 ∨ 9 < code) → Leaves (exec (.pmWake u code) s) s)
    -- the move ends
    ∧ (∀ u : Nat, (4 < u ∨ (vget p.u u {}).dest = none) → Leaves (exec (.pmStateReached u) s) s)
    ∧ (∀ t : Nat, t ≤ 2 → (vget p.u 4 {}).dest = some t → ∃ h : Hub, Leaves (exec (.pmStateReached 4) s) { s with hub := h }
        ∧ h.pm.state 4 = t ∧ (vget h.pm.u 4 {}).dest = none ∧ (vget h.pm.u 4 {}).tLow = none ∧ (∀ u, u < 4 → h.pm.state u = p.state u)
        ∧ (t = 0 → s.hub.dram.bad.getLsbD 2 = false → h.jbuf = [] ∧ ∀ x, x ∈ s.hub.jbuf → x ∈ h.jnl)
        ∧ h = { s.hub with pm := h.pm, jnl := h.jnl, jbuf := h.jbuf })
    ∧ (∀ u t : Nat, u < 4 → t ≤ 4 → (vget p.u u {}).dest = some t →
        let o := exec (.pmStateReached u) s
        let c := s.ch u
        let old := p.state u
        let s1 := pm (p.reached u)
        let moves (P : Chan → Prop) : Prop := ∃ k, P k ∧ Leaves o
          { s1.withCh u k with hub := { (s1.withCh u k).hub with
              st := vMod (s1.withCh u k).hub.st u (fun x => { x with tHub := s.now, tSole := s.now }) } }
        (s1.hub.pm.state u = t ∧ (∀ v, v < 5 → v ≠ u → s1.hub.pm.state v = p.state v))
        -- between RUN and TRIM nothing stops
        ∧ (old < 2 → t < 2 → moves (fun k => k = { c with core := { c.core with pm := t } }))
        -- VIGIL stops the PWM domain, the modulator clocks, the Tongue, the PHY and the CE source
        ∧ (old < 2 → t = 2 → moves (fun k =>
            k.core = { c.core with pm := 2 } ∧ k.pwm = c.pwm.hold ∧ k.met = c.met.clocks false c.met.r.ctrl.mclk0En c.met.r.ctrl.mclk1En
            ∧ k.veh = { c.veh with ceOn := false, phy := false, r := { c.veh.r with status := { c.veh.r.status with link := false } } }
            ∧ k = { c with core := k.core, pwm := k.pwm, met := k.met, veh := k.veh }))
        -- REST stores the legal registers and asserts the gate inhibit
        ∧ (old < 3 → t = 3 → moves (fun k =>
            k.core.pm = 3 ∧ k.shk.r.status.inhibit = true ∧ k.ledg.nv.eImp = c.met.eImp ∧ k.ledg.nv.eExp = c.met.eExp))
        -- the controllers integrate again at the exit from REST, and the path watchdogs restart
        ∧ (old = 3 → t = 2 → moves (fun k =>
            k.core.pm = 2 ∧ k.canA = c.canA.restExit ∧ k.canB = c.canB.restExit
            ∧ k.shk.r.status.inhibit = (c.shk.r.status.inhibit && !c.shk.r.status.state.permits) ∧ k.pwm = c.pwm))
        -- a clock that has kept lock ungates the output at the entry to TRIM or RUN
        ∧ (old = 2 → t < 2 → c.clk.pend = false → c.clk.r.status.state = .locked → moves (fun k =>
            k.core.pm = t ∧ k.pwm = c.pwm.unhold ∧ k.met = c.met.clocks true c.met.r.ctrl.mclk0En c.met.r.ctrl.mclk1En ∧ k.clk = c.clk))
        ∧ (old = 2 → t < 2 → c.clk.pend = true → moves (fun k =>
            k.core.pm = t ∧ k.clk.r.status.state = .relocking ∧ k.clk.pend = false ∧ k.pwm = c.pwm.hold))
        -- a Sole leaves OFF through its boot, and is in reset in OFF
        ∧ (old = 4 → t < 4 → moves (fun k => k = { c with core := { c.core with pm := t, run := 1 } }))
        ∧ (old < 4 → t = 4 → ∃ z, Leaves o z ∧ (z.ch u).core.pm = 4 ∧ (z.ch u).core.run = 0 ∧ (z.ch u).ledg.nv.eImp = c.met.eImp
            ∧ (z.ch u).ledg.nv.eExp = c.met.eExp))

/-- TEMP_CONVERSION, THROTTLE_UPDATE, JUNCTION_SHUTDOWN, TH_DIE_SELECT, AGEING_MEASURE, AGEING_REPLAN, AGEING_RECORD, AGE_SELECT
(R668 to R677, R681, R682).
Choices of the model it rests on: log entries 8, 15. -/
def Obligations.HeatAndAgeing : Prop :=
  ∀ (s : State), s.hub.run = 2 →
    let p := s.hub.pm
    let pm (q : Pm) : State := { s with hub := { s.hub with pm := q } }
    let becomes (o : Host.Outcome State Fault Refusal) (P : Pm → Prop) : Prop := ∃ q, P q ∧ Leaves o (pm q)
    -- V_SET follows its base, its ageing offset and its band up to 850 mV; a Sole's falls only while its loop rests
    let volts (q : Pm) (die : Nat) : Prop :=
      let w := min ((p.ag die).vBase + (q.ag die).vAge + (if (q.die die).band = 0 then 15 else 0)) 850
      (q.ag die).vSet = (if (p.ag die).vSet ≤ w ∨ s.vFallOk die = true then w else (p.ag die).vSet) ∧ (q.ag die).vBase = (p.ag die).vBase;
    (∀ (die : Nat) (rs : List Int), die ≤ 10 →
      let d := p.die die
      let xs := rs.take (sensorsOf die)
      let good : Prop := xs ≠ [] ∧ ∀ x, x ∈ xs → -600 ≤ x ∧ x ≤ 1600 ∧ (2 * x - median2 xs).natAbs ≤ 400
      becomes (exec (.tempConversion die rs) s) (fun q =>
        let z := q.die die
        (good → ∃ m, m ∈ xs ∧ (∀ x, x ∈ xs → x ≤ m) ∧ z.t = some m ∧ z.flt = false
          ∧ z.peak = some (match d.peak with | some a => max a m | none => m)
          ∧ z.band = (if die ≤ 4 then bandNext d.band m else d.band)
          ∧ z.tHot = (if 1250 ≤ m then some (d.tHot.getD s.now) else none)
          ∧ z.tjSd = (d.tjSd && decide (1150 ≤ m)))
        -- a reading outside −60.0 to 160.0 °C is excluded
        ∧ ((∀ x, x ∈ xs → x < -600 ∨ 1600 < x) → z.t = none ∧ z.band = d.band ∧ z.flt = decide (xs ≠ []))
        ∧ (z.flt = true → q.r.thEvt.sensFlt = true)
        ∧ (die ≤ 4 → volts q die ∧ (q.ag die).vAge = (p.ag die).vAge) ∧ (∀ e, e ≠ die → q.die e = p.die e)
        ∧ z.level = d.level ∧ z.thrMs = d.thrMs ∧ q.u = p.u ∧ q.r.pmStatus = p.r.pmStatus))
    -- one step of the throttle
    ∧ (∀ die : Nat, die ≤ 4 →
      let d := p.die die
      let mx := p.r.thCfg.maxLevel.toNat
      becomes (exec (.throttleUpdate die) s) (fun q =>
        let z := q.die die
        (d.band = 4 → z.level = mx)
        ∧ (∀ x, d.band ≠ 4 → d.t = some x → p.thrT ≤ x → z.level = min mx (d.level + 1))
        ∧ (∀ x, d.band ≠ 4 → d.t = some x → x < p.thrT - 30 → d.tFall + sNs 1 ≤ s.now → z.level = d.level - 1)
        ∧ (∀ x, d.band ≠ 4 → d.t = some x → x < p.thrT → p.thrT - 30 ≤ x → z.level = min d.level mx)
        ∧ z.thrMs = d.thrMs + (if 0 < d.level then 100 else 0)
        ∧ (d.level = 0 → 0 < z.level → q.r.thEvt.throttle = true)
        ∧ z = { d with level := z.level, thrMs := z.thrMs, tFall := if z.level < d.level then s.now else d.tFall }
        ∧ (∀ e, e ≠ die → q.die e = p.die e)
        ∧ q = { p with th := q.th, r := { p.r with thEvt := { p.r.thEvt with throttle := q.r.thEvt.throttle } } }))
    -- the junction shutdown stops a Sole's loop
    ∧ (∀ die : Nat, die ≤ 4 →
      let due : Prop := ∃ x, (p.die die).tHot = some x ∧ x + msNs 100 ≤ s.now
      let s1 := pm (p.tjSet die);
      (¬ due → Leaves (exec (.junctionShutdown die) s) s)
      ∧ ((p.tjSet die).die die = { p.die die with tjSd := true } ∧ (p.tjSet die).r.thEvt.tjSd = true)
      ∧ (due → die = 4 → Leaves (exec (.junctionShutdown die) s) (s1.hubJr JEv.junction))
      ∧ (due → die < 4 → s.soleUp die 2 = false → Leaves (exec (.junctionShutdown die) s) s1)
      ∧ (due → s.soleUp die 2 = true → Becomes (exec (.junctionShutdown die) s) s1 die (fun k =>
          let l := (s.ch die).loop
          k.loop.r.status.otSd = true
          ∧ ((l.r.status.state = .cv ∨ l.r.status.state = .cc) → k.loop.stopReq = true)
          ∧ (l.r.status.state = .ondly → k.loop.r.status.state = .idle ∧ k.loop.r.status.startRef = true))))
    -- the selectors; values past the last die are ignored
    ∧ (s.hostOpen 4 = true → ∀ w : Word,
      let i := (w.extractLsb' 0 4).toNat
      let j := (w.extractLsb' 0 3).toNat
      let d := p.die i
      let a := p.ag j
      (10 < i → Leaves (exec (.thDieSelect w) s) s)
      ∧ (i ≤ 10 → becomes (exec (.thDieSelect w) s) (fun q =>
          q.r.thDieSel = w.extractLsb' 0 4 ∧ q.r.thDieData0 = { t := tShow d.t, tPeak := tShow d.peak }
          ∧ q.r.thDieData1.sensFlt = d.flt ∧ (i < 5 → q.r.thDieData1.tjSd = d.tjSd ∧ q.r.thDieData1.band = BitVec.ofNat 3 d.band
              ∧ q.r.thDieData1.level = BitVec.ofNat 4 d.level)
          ∧ q.r.thDieData1.thrS.toNat = min 65535 (d.thrMs / 1000)
          ∧ q = { p with r := { p.r with thDieSel := q.r.thDieSel, thDieData0 := q.r.thDieData0, thDieData1 := q.r.thDieData1 } }))
      ∧ (4 < j → Leaves (exec (.ageSelect w) s) s)
      ∧ (j ≤ 4 → becomes (exec (.ageSelect w) s) (fun q =>
          q.r.ageSel = w.extractLsb' 0 3 ∧ q.r.ageData0 = { vSet := BitVec.ofNat 16 a.vSet, vBase := BitVec.ofNat 16 a.vBase }
          ∧ q.r.ageData1.vAge = BitVec.ofNat 8 a.vAge ∧ q.r.ageData1.vBand = (if (p.die j).band = 0 then 15 else 0)
          ∧ q.r.ageData2.headroom = BitVec.ofNat 8 (850 - a.vSet) ∧ q.r.ageData2.records = BitVec.ofNat 8 a.recs.length
          ∧ q = { p with r := { p.r with ageSel := q.r.ageSel, ageData0 := q.r.ageData0, ageData1 := q.r.ageData1, ageData2 := q.r.ageData2 } })))
    -- a slack below 15 ps raises the ageing offset by 5 mV at once
    ∧ (∀ (die : Nat) (ss : List Int), die ≤ 4 →
      let fast : Prop := ∃ x, x ∈ ss.take 8 ∧ x < 15
      becomes (exec (.ageingMeasure die ss) s) (fun q =>
        (∀ i x, i < 8 → ss[i]? = some x → vget (q.ag die).slack i [] = (x / 5 * 5 :: vget (p.ag die).slack i []).take 60)
        ∧ (∀ i, i < 8 → ss.length ≤ i → vget (q.ag die).slack i [] = vget (p.ag die).slack i [])
        ∧ (fast → (q.ag die).vAge = min 255 ((p.ag die).vAge + 5) ∧ q.r.ageEvt.fast.getLsbD die = true)
        ∧ (¬ fast → (q.ag die).vAge = (p.ag die).vAge ∧ q.r.ageEvt.fast = p.r.ageEvt.fast)
        ∧ volts q die ∧ (∀ e, e ≠ die → q.ag e = p.ag e)
        ∧ q = { p with age := q.age, r := { p.r with ageEvt := { p.r.ageEvt with fast := q.r.ageEvt.fast } } }))
    -- a re-plan raises it where the margin is below its target
    ∧ (∀ die : Nat, die ≤ 4 →
      let a := p.ag die
      let due : Prop := a.tPlan + 3600 * sNs (max 1 (min 168 p.r.ageCfg.replan.toNat)) ≤ s.now
      let low : Prop := ∃ m, a.margin = some m ∧ m < 5 * (max 4 (min 40 p.r.ageCfg.mTgt.toNat) : Int);
      (¬ due → Leaves (exec (.ageingReplan die) s) s)
      ∧ (due → ¬ low → becomes (exec (.ageingReplan die) s) (fun q =>
          (q.ag die).vAge = a.vAge ∧ (q.ag die).tPlan = s.now ∧ volts q die ∧ q = { p with age := q.age }))
      ∧ (due → low → ∃ q : Pm, (q.ag die).vAge = min 255 (a.vAge + 5) ∧ (q.ag die).tPlan = s.now ∧ q.r.ageEvt.step.getLsbD die = true
          ∧ volts q die
          ∧ (a.vSet ≠ 850 → Leaves (exec (.ageingReplan die) s) (pm q))
          ∧ (a.vSet = 850 → q.r.ageEvt.limit.getLsbD die = true
              ∧ Leaves (exec (.ageingReplan die) s) ((pm q).hubJr JEv.ageLimit [(die : Int)]))))
    -- a record each 7 days of site time
    ∧ (∀ die : Nat, die ≤ 4 →
      let a := p.ag die
      let due : Prop := s.hub.ring.timeValid = true ∧ ∀ x, a.recs.head? = some x → x.1 + 7 * 86400 * sNs 1 ≤ s.env.site;
      (due → becomes (exec (.ageingRecord die) s) (fun q =>
          q.ag die = { a with recs := ((s.env.site, a.vAge) :: a.recs).take 64 } ∧ (∀ e, e ≠ die → q.ag e = p.ag e) ∧ q = { p with age := q.age }))
      ∧ (¬ due → Leaves (exec (.ageingRecord die) s) s))
/-! ### The self-test -/

/-- COB_RUN, COB_ABORT, COB_SCHED, COB_TEST_DUE, COB_TEST_START, COB_TEST_END, COB_TEST_ABORT, COB_WAIT_RAISE, COB_RES_SELECT (R683
to R696).
Choices of the model it rests on: log entries 8, 25. -/
def Obligations.SelfTests : Prop :=
  ∀ (s : State),
    let c := s.hub.cob
    let cob (z : Cob) : State := { s with hub := { s.hub with cob := z } }
    let up : Prop := s.hub.run = 2 ∧ (vget s.hub.fw 4 {}).act = false
    -- a result of a test is kept
    let ended (z : State) (die test res : Nat) : Prop := ∃ x, x ∈ z.hub.cob.res ∧ x.die = die ∧ x.test = test ∧ x.result = res
    (∀ (die : Nat) (d : Desc), die ≤ 4 → s.takes die d = true →
      let t := s.taken die d
      let ts := (List.range 16).filter (fun i => d.bit 0 i)
      let west := d.bit 1 0
      let mine (i : Nat) : Prop := if die < 4 then 1 ≤ i ∧ i ≤ 9 else 10 ≤ i ∧ i ≤ 15
      -- the checks of a test run, in their order
      (d.opcode = 0x0901 → d.onlyBits [0xFFFE, 1] = true →
        let o := exec (.cobRun d) s
        let known : Prop := ts ≠ [] ∧ ∀ i, i ∈ ts → mine i
        let lives : Prop := ∀ i, i ∈ ts → s.cobLc die i = true
        let held : Prop := ∀ i, i ∈ ts → die < 4 → 3 ≤ i → i ≤ 8 → (s.ch die).heldTest = true
        let ready : Prop := ∀ i, i ∈ ts → s.cobCond die i west = true
        let none : Prop := ∀ j, j ∈ c.jobs → j.die ≠ die;
        (¬ known → Rejects o s die d 0xC3)
        ∧ (known → ¬ lives → Rejects o s die d 0xC2)
        ∧ (known → lives → ¬ held → Rejects o s die d 0xC0)
        ∧ (known → lives → held → ¬ ready → Rejects o s die d 0xC1)
        ∧ (known → lives → held → ready → ¬ none → Rejects o s die d 0xC4)
        ∧ (known → lives → held → ready → none → ∃ z : Cob,
            z.run = c.run ∧ z.res = c.res ∧ z.jobs = c.jobs ++ [{ die := die, ref := s.refOf die d, left := ts }]
            ∧ (∀ i, i ∈ ts → (∀ r, r ∈ c.run → r.task.die = die → r.task.test ≠ i) →
                ({ die := die, test := i, byDesc := true, west := west, tQ := s.now } : CobTask) ∈ z.queue)
            ∧ (∀ q, q ∈ c.queue → q ∈ z.queue) ∧ z.r.status.queued.toNat = min 255 z.queue.length
            ∧ Leaves o { t with hub := { t.hub with cob := z } }))
      ∧ (d.opcode = 0x0902 → d.onlyBits [] = true →
        let o := exec (.cobAbort d) s
        let none : Prop := (∀ r, r ∈ c.run → r.task.die ≠ die) ∧ ∀ q, q ∈ c.queue → q.die ≠ die;
        (none → Rejects o s die d 0xC5)
        ∧ (¬ none → ∃ z : State, Leaves o (z.complete { ref := s.refOf die d, status := 0 })
            ∧ z.hub.cob.run = c.run.filter (fun r => decide (r.task.die ≠ die))
            ∧ z.hub.cob.queue = c.queue.filter (fun q => decide (q.die ≠ die))
            ∧ (∀ r, r ∈ c.run → r.task.die = die → ended z die r.task.test 3)))
      ∧ (d.opcode = 0x0903 → die = 4 → d.onlyBits [0xFFFFFFFE] = true →
        let o := exec (.cobSched d) s
        let iv := d.fld 0 16 16
        let known : Prop := ts ≠ [] ∧ ∀ i, i ∈ ts → i ∈ [1, 2, 9, 10, 11, 12];
        (¬ known → Rejects o s die d 0xC3)
        ∧ (known → (iv < 10 ∨ 10080 < iv) → Rejects o s die d 0xC6)
        ∧ (known → 10 ≤ iv → iv ≤ 10080 → Leaves o (({ t with hub := { t.hub with cob := { c with r := { c.r with
            sched := { interval := (d.pay 0).extractLsb' 16 16, mask := (d.pay 0).extractLsb' 1 15 } } } } } : State).complete
              { ref := s.refOf die d, status := 0 }))))
    -- a background test falls due at its interval, the first time a fifth of it later for each die
    ∧ (∀ (die i : Nat), die ≤ 4 →
      let iv := c.r.sched.interval.toNat * 60000000000
      let t := match c.due.find? (fun x => decide (x.1 = die) && decide (x.2.1 = i)) with
        | some x => x.2.2 + iv
        | none => vget c.tBoot die 0 + iv * (die + 1) / 5
      let named : Prop := (i ∈ [1, 2, 9] ∧ die < 4 ∨ i ∈ [10, 11, 12] ∧ die = 4) ∧ c.r.sched.mask.getLsbD (i - 1) = true
      let q : CobTask := { die := die, test := i, byDesc := false, tQ := s.now };
      (up → named → t ≤ s.now → ∃ z : Cob,
        z.run = c.run ∧ z.jobs = c.jobs ∧ z.due.find? (fun x => decide (x.1 = die) && decide (x.2.1 = i)) = some (die, i, t)
        ∧ z.queue = (if c.queue.any (fun y => decide (y.die = die) && decide (y.test = i)) then c.queue else c.queue ++ [q])
        ∧ Leaves (exec (.cobTestDue die i) s) (cob z))
      ∧ (¬ (up ∧ named ∧ t ≤ s.now) → Leaves (exec (.cobTestDue die i) s) s))
    -- the first test that may start does: one to a die, two in all, within 800 mW, in the top state of its unit and below band 4
    ∧ (∀ t : CobTask, s.cobNext = some t →
        t ∈ c.queue ∧ (∀ q, q ∈ c.queue → s.cobMay q = true → q.before t = false)
        ∧ c.run.length < 2 ∧ (∀ r, r ∈ c.run → r.task.die ≠ t.die) ∧ (c.run.map (fun r => cobMw r.task.test)).sum + cobMw t.test ≤ 800
        ∧ s.hub.pm.state t.die = 0 ∧ (s.hub.pm.die t.die).band ≠ 4
        ∧ (t.byDesc = false → s.cobCond t.die t.test t.west = true))
    ∧ (let o := exec .cobTestStart s
       (¬ up ∨ s.cobNext = none → Leaves o s)
       ∧ (∀ t : CobTask, up → s.cobNext = some t →
          let k := s.ch t.die
          let r : CobRun := { task := t, t := s.now, clk := k.met.clkRun, ce := k.veh.ceOn, phy := k.veh.phy }
          (s.cobCond t.die t.test t.west = true → ∃ z : Cob,
            z.run = c.run ++ [r] ∧ z.queue = c.queue.erase t ∧ z.r.status.state = .running ∧ z.r.status.die = BitVec.ofNat 3 t.die
            ∧ z.r.status.test = BitVec.ofNat 4 t.test
            ∧ (t.die = 4 → t.test ≠ 15 → Leaves o (cob z))
            ∧ (t.die < 4 → t.test ≠ 15 → Becomes o (cob z) t.die (fun x =>
                (t.test = 6 → x = { k with met := k.met.clocks false k.met.r.ctrl.mclk0En k.met.r.ctrl.mclk1En })
                ∧ (t.test = 8 → x = { k with veh := { k.veh with ceOn := false, phy := false } })
                ∧ (t.test ≠ 6 → t.test ≠ 8 → x = k)))
            ∧ (t.test = 15 → Leaves o { cob z with hub := { (cob z).hub with ring := { s.hub.ring with r := { s.hub.ring.r with
                lb := (s.hub.ring.r.lb &&& ~~~(lbMask t.west)) ||| (lbMask t.west &&& 0x2222) } } } }))
          -- a descriptor's test whose condition has failed by then is aborted
          ∧ (s.cobCond t.die t.test t.west = false → ∃ z : State, Leaves o z ∧ z.hub.cob.run = c.run ∧ ended z t.die t.test 3)))
    -- a test ends with its result
    ∧ (∀ (die : Nat) (detail : BitVec 8),
      let o := exec (.cobTestEnd die detail) s
      ((∀ r, r ∈ c.run → r.task.die ≠ die) → Leaves o s)
      ∧ (∀ r, c.run.find? (fun (r : CobRun) => decide (r.task.die = die)) = some r → ∃ z : State, Leaves o z ∧ r ∉ z.hub.cob.run
          ∧ ({ die := die, test := r.task.test, result := if detail = 0 then 1 else 2, detail := detail
               dur := (s.now - r.t + 999999) / 1000000, t := s.env.site } : CobRes) ∈ z.hub.cob.res
          ∧ (detail = 0 → z.hub.cob.r.cnt.pass = satInc c.r.cnt.pass ∧ z.hub.cob.r.cnt.fail = c.r.cnt.fail ∧ z.hub.cob.r.fail = c.r.fail)
          ∧ (detail ≠ 0 → z.hub.cob.r.cnt.fail = satInc c.r.cnt.fail ∧ z.hub.cob.r.cnt.pass = c.r.cnt.pass
              ∧ (die ≤ 4 → z.hub.cob.r.fail.getLsbD die = true))))
    -- a running test whose condition no longer holds is aborted; test 7 goes on to bus B after 15 ms
    ∧ (∀ die : Nat,
      let o := exec (.cobTestAbort die) s
      (c.run = [] → Leaves o s)
      ∧ (∀ r, c.run = [r] → s.cobCut r = true → ∃ z : State, Leaves o z ∧ z.hub.cob.run = [] ∧ ended z r.task.die r.task.test 3)
      ∧ (∀ r, c.run = [r] → s.cobCut r = false → (r.task.test ≠ 7 ∨ r.busB = true ∨ s.now < r.t + msNs 15) → Leaves o s)
      ∧ (∀ r, c.run = [r] → s.cobCut r = false → r.task.test = 7 → r.task.die < 4 → r.busB = false → r.t + msNs 15 ≤ s.now →
          ∃ z : State, Leaves o z ∧ z.hub.cob.run = [{ r with busB := true }] ∧ (z.ch r.task.die).canA = (s.ch r.task.die).canA.cobBack))
    -- a test that has waited 24 h raises its unit
    ∧ (∀ die : Nat,
      (∀ q, q ∈ c.queue → q.die = die → q.tQ + sNs 86400 ≤ s.now → Leaves (exec (.cobWaitRaise die) s) (s.pmWake die 5))
      ∧ ((∀ q, q ∈ c.queue → q.die ≠ die) → (∀ r, r ∈ c.run → r.task.die ≠ die) → Leaves (exec (.cobWaitRaise die) s) s))
    ∧ (s.hostOpen 4 = true → ∀ w : Word,
      let hit := c.res.find? (fun x => decide (x.die = (w.extractLsb' 8 3).toNat) && decide (x.test = (w.extractLsb' 0 4).toNat))
      ∃ z : Cob, Leaves (exec (.cobResSelect w) s) (cob z)
        ∧ z.r.resSel.die = w.extractLsb' 8 3 ∧ z.r.resSel.test = w.extractLsb' 0 4
        ∧ (hit = none → z.r.resData0.result = 0 ∧ z.r.resTLo = 0 ∧ z.r.resTHi = 0)
        ∧ (∀ x, hit = some x → z.r.resData0 = { result := BitVec.ofNat 2 x.result, detail := x.detail, dur := toU 16 x.dur }
            ∧ z.r.resTLo = BitVec.ofNat 32 x.t ∧ z.r.resTHi = BitVec.ofNat 32 (x.t / 2 ^ 32))
        ∧ z = { c with r := { c.r with resSel := z.r.resSel, resData0 := z.r.resData0, resTLo := z.r.resTLo, resTHi := z.r.resTHi } })
/-! ### Start-up, power failure and resets -/

/-- VAUX_VALID, VHOLD_OK, HOLDUP_MEASURE, PFAIL, RAILS_OFF, RESET_PIN, RESET_STUCK, RESET_UNMASK, VAUX_SURGE (R320, R697, R698, R700,
R701, R707, R709 to R714, R727, R729).
Choices of the model it rests on: log entries 8, 23, 24, 39. -/
def Obligations.SupplyAndResetPin : Prop :=
  ∀ (s : State),
    let p := s.pwr
    let r := s.hub.r
    let rs := r.rstStatus
    -- the Soles that nothing holds leave reset
    let released (z : State) (off : BitVec 5) : Prop := ∀ n, n < 4 →
      (z.ch n).core.pm = (s.ch n).core.pm
      ∧ (z.ch n).core.run = (if (s.ch n).core.run = 0 ∧ (s.ch n).core.pm ≠ 4 ∧ off.getLsbD n = false then 1 else (s.ch n).core.run)
    -- what no power failure and no reset takes away
    let kept (z : State) : Prop := z.hub.key.slots = s.hub.key.slots ∧ z.hub.key.r.tampCfg = s.hub.key.r.tampCfg
      ∧ ∀ n, n < 4 → (z.ch n).key.slots = (s.ch n).key.slots ∧ (z.ch n).ledg.slots = (s.ch n).ledg.slots
        ∧ (z.ch n).ledg.r.seqNext = (s.ch n).ledg.r.seqNext
    -- every die is in reset
    let down (z : State) : Prop := z.hub.run = 0 ∧ z.hub.jnl = [] ∧ z.xfers = [] ∧ ∀ n, n < 4 → (z.ch n).core.run = 0
    (∀ mv us : Nat,
      let o := exec (.vauxValid mv us) s
      let due : Prop := p.vaux = false ∧ p.tPf = none ∧ 6000 ≤ mv ∧ 1000 ≤ us;
      (¬ due → Leaves o s)
      ∧ (due → ∃ z, Leaves o z ∧ z.hub.run = 1
          ∧ z.pwr = { p with vaux := true, rails := true, off := 0, pfEnd := none, pin := false }
          ∧ z.hub.r.rstCause = { por := true, pin := false, stuck := false, hubWdt := false, rail := r.rstCause.rail
                                 pfailOk := decide (p.pfEnd = some true), commitLost := decide (p.pfEnd = some false) }
          ∧ (rs.vholdOk = true → released z 0) ∧ (rs.vholdOk = false → z.chans = s.chans)))
    ∧ (∀ dv : Nat,
      let o := exec (.vholdOk dv) s
      let ok : Bool := decide (400 ≤ dv) || (decide (380 ≤ dv) && rs.vholdOk)
      let u : State := { s with hub := { s.hub with r := { r with rstStatus := { rs with vholdOk := ok, vhold := BitVec.ofNat 16 (min 65535 dv) } } } };
      (p.rails = false → Leaves o s)
      ∧ (p.rails = true → ok = false → Leaves o (if rs.vholdOk then u.hubJr JEv.vholdLow [(dv : Int)] else u))
      ∧ (p.rails = true → ok = true → p.pin = false → p.tPf = none → ∃ z, Leaves o z ∧ released z p.off ∧ z.hub.r = u.hub.r ∧ z.pwr = p)
      ∧ (p.rails = true → ok = true → (p.pin = true ∨ p.tPf ≠ none) → Leaves o u))
    -- the hold-up capacitance: 0.5 A over the time of a rise by 20 V
    ∧ (∀ us : Nat,
      let o := exec (.holdupMeasure us) s
      let u : State := { s with hub := { s.hub with r := { r with
        holdup := { r.holdup with cap := BitVec.ofNat 16 (min 65535 (us / 40)) }
        rstStatus := { rs with holdWeak := decide (us / 40 < 800) } } } };
      (p.rails = false → Leaves o s)
      ∧ (p.rails = true → Leaves o (if us / 40 < 800 then u.hubJr JEv.holdWeak [((us / 40 : Nat) : Int)] else u)))
    -- the power-fail warning: every Sole that runs commits, and so does the hub
    ∧ (∀ mv : Nat,
      let o := exec (.pfail mv) s
      let due : Prop := p.vaux = true ∧ p.rails = true ∧ p.tPf = none ∧ mv < 5700;
      (¬ due → Leaves o s)
      ∧ (due → ∃ z, Leaves o z ∧ z.pwr.tPf = some s.now
          ∧ (∀ n, n < 4 → (s.ch n).core.run = 2 →
              (z.ch n).core.pfail = true ∧ (z.ch n).shk.r.status.inhibit = true ∧ (z.ch n).pwm.r.status.state ≠ .run
              ∧ (z.ch n).ledg.committed = true ∧ (z.ch n).ledg.r.pfail.pfailCnt = satInc (s.ch n).ledg.r.pfail.pfailCnt
              ∧ (z.ch n).ledg.nv.eImp = (s.ch n).met.eImp ∧ (z.ch n).ledg.nv.eExp = (s.ch n).met.eExp ∧ z.pwr.must.getLsbD n = true)
          ∧ ((∃ n, n < 4 ∧ (s.ch n).core.run = 2) → 2 ≤ s.hub.run →
              z.pwr.must.getLsbD 4 = true ∧ z.hub.r.holdup.pfCnt = satInc r.holdup.pfCnt)))
    -- the rails go off 12 ms later, or at 18.0 V
    ∧ (∀ dv : Nat,
      let o := exec (.railsOff dv) s;
      ((p.tPf = none ∨ ∃ t, p.tPf = some t ∧ s.now < t + msNs 12 ∧ 180 < dv) → Leaves o s)
      ∧ (∀ t, p.tPf = some t → (t + msNs 12 ≤ s.now ∨ dv ≤ 180) → ∃ z, Leaves o z ∧ down z ∧ kept z
          ∧ z.pwr.vaux = false ∧ z.pwr.rails = false ∧ z.pwr.tPf = none
          ∧ (∀ n i, n < 4 → i < 8 → (vget (z.ch n).ey.o i {}).live = false)
          ∧ (t + msNs 12 ≤ s.now → p.done = 0 → z.pwr.pfEnd = (if p.must = 0 then none else some true))))
    -- RESET_N
    ∧ (∀ us : Nat,
      let o := exec (.resetPin true us) s
      let due : Prop := p.rails = true ∧ p.tPf = none ∧ p.pin = false ∧ rs.pinMasked = false ∧ 200 ≤ us;
      (¬ due → Leaves o s)
      ∧ (due → ∃ z, Leaves o z ∧ down z ∧ kept z ∧ z.pwr.pin = true ∧ z.hub.r.rstCause = { r.rstCause with pin := true }))
    ∧ (∀ us : Nat,
      let o := exec (.resetPin false us) s;
      (p.rails = false ∨ p.tPf ≠ none ∨ p.pin = false → Leaves o s)
      ∧ (p.rails = true → p.tPf = none → p.pin = true → p.off.getLsbD 4 = false → ∃ z, Leaves o z ∧ z.pwr.pin = false ∧ z.hub.run = 1
          ∧ (rs.vholdOk = true → released z p.off) ∧ (rs.vholdOk = false → z.chans = s.chans)))
    -- a stuck input is masked after 30 s, and unmasked once it has been high for 100 ms
    ∧ (∀ us : Nat,
      let o := exec (.resetStuck us) s
      let due : Prop := p.pin = true ∧ 30000000 ≤ us ∧ p.tPf = none;
      (¬ due → Leaves o s)
      ∧ (due → ∃ z, Leaves o z ∧ z.pwr.pin = false ∧ z.hub.r.rstStatus = { rs with pinMasked := true, ackPend := true }
          ∧ z.hub.r.rstCause = { r.rstCause with stuck := true } ∧ (∀ n, n < 4 → (z.ch n).core.ackPend = true)
          ∧ (p.off.getLsbD 4 = false → z.hub.run = 1)))
    ∧ (∀ us : Nat,
      (us < 100000 → Leaves (exec (.resetUnmask us) s) s)
      ∧ (100000 ≤ us → Leaves (exec (.resetUnmask us) s)
          { s with hub := { s.hub with r := { r with rstStatus := { rs with pinMasked := false } } } }))
    -- a surge within the ratings is survived and journalled; beyond them the model stops
    ∧ (∀ mv us : Nat,
      let o := exec (.vauxSurge mv us) s
      let near : Prop := ∃ t, p.tSurge = some t ∧ s.now < t + sNs 10
      let bad : Prop := 58000 < mv ∨ (45000 < mv ∧ (400000 < us ∨ near))
      let u : State := { s with pwr := { p with tSurge := some s.now } };
      (bad → o = .fault .beyondRatings)
      ∧ (mv ≤ 45000 → Leaves o s)
      ∧ (¬ bad → 45000 < mv → Leaves o (if s.hub.run = 2 then u.hubJr JEv.vauxSurge [(mv : Int), (us : Int)] else u)))

/-- HUB_BOOT, SOLE_BOOT, STUCK_ACK, HUB_WATCHDOG_EXPIRY, SOLE_WATCHDOG_EXPIRY, TONGUE_WATCHDOG_EXPIRY (R321, R598, R701 to R706, R711,
R714 to R716).
Choices of the model it rests on: log entries 8, 24, 26, 28. -/
def Obligations.BootsAndWatchdogs : Prop :=
  ∀ (s : State),
    -- what a boot finds in the slots of a die: a trial that was running has ended
    let slots (u : Nat) : FwSt := let f := vget s.hub.fw u {}; { f with boot := if f.trialF then f.prev else f.boot }
    let runs (u : Nat) (okBoot okOther : Bool) : Bool := (okBoot && ((slots u).slot false).isSome) || (okOther && ((slots u).slot true).isSome)
    -- an enabled tamper input that reads open
    let open_ (k : Key) : Prop := k.inputOpen = true
    (∀ okBoot okOther : Bool,
      let o := exec (.hubBoot okBoot okOther) s;
      (s.hub.run ≠ 1 → Leaves o s)
      ∧ (s.hub.run = 1 → ∃ z, Leaves o z
          ∧ z.hub.run = (if runs 4 okBoot okOther then 2 else 3)
          ∧ z.hub.r.boot.recovery = !(runs 4 okBoot okOther)
          ∧ z.hub.r.boot.slotAlt = (!(okBoot && ((slots 4).slot false).isSome) && okOther && ((slots 4).slot true).isSome)
          ∧ z.hub.r.dieStatus.norOk = true ∧ z.hub.gw.role = false ∧ z.hub.eng.role = .none ∧ z.hub.ring.r.nidCfg = s.hub.ring.r.nidCfg
          ∧ (vget z.hub.fw 4 {}).trialF = false ∧ (vget z.hub.fw 4 {}).commit = false
          -- in a hold, or with a source open at its start, the hub stops before its keys
          ∧ (s.hub.key.r.tampStatus.hold = true ∨ open_ s.hub.key → z.hub.key.r.tampStatus.hold = true ∧ z.hub.key.held = true)))
    ∧ (∀ (n : Nat) (okLegal okBoot okOther : Bool),
      let o := exec (.soleBoot n okLegal okBoot okOther) s
      let c := s.ch n;
      ((4 ≤ n ∨ c.core.run ≠ 1) → Leaves o s)
      ∧ (n < 4 → c.core.run = 1 → (c.key.r.tampStatus.hold = true ∨ open_ c.key) → ∃ z, Leaves o z ∧ (z.ch n).core.run = 1
          ∧ (z.ch n).key.r.tampStatus.hold = true ∧ (z.ch n).key.held = true)
      ∧ (n < 4 → c.core.run = 1 → c.key.r.tampStatus.hold = false → ¬ open_ c.key → ∃ z, Leaves o z
          ∧ (z.ch n).core.run = (if runs n okBoot okOther then 2 else 3)
          ∧ (z.ch n).core.r.boot.lcodeBad = (!okLegal) ∧ (z.ch n).core.meterRole = c.core.r.role.meterNext
          -- the legal code takes up what the last commit left
          ∧ (okLegal = true → (z.ch n).met.eImp = c.ledg.nv.eImp ∧ (z.ch n).met.eExp = c.ledg.nv.eExp
              ∧ (z.ch n).ledg.r.pfail.lastOk = c.ledg.committed ∧ (z.ch n).ledg.committed = false ∧ (z.ch n).ledg.img = [])
          ∧ (runs n okBoot okOther = true → (z.ch n).clk.r.status.state = .locking ∧ (z.ch n).shk.r.status.inhibit = true)))
    -- the reset input's masking is acknowledged
    ∧ (∀ d : Desc, s.takes 4 d = true → d.opcode = 0x0707 → d.onlyBits [] = true →
      let t := s.taken 4 d
      let o := exec (.stuckAck d) s
      let lc := s.hub.key.r.lcStatus.state;
      ((lc = .blank ∨ lc = .retired) → Rejects o s 4 d 0xB0)
      ∧ (lc ≠ .blank → lc ≠ .retired → s.hub.r.rstStatus.ackPend = false → Rejects o s 4 d 0xB7)
      ∧ (lc ≠ .blank → lc ≠ .retired → s.hub.r.rstStatus.ackPend = true →
          Leaves o (({ t with
            hub := { t.hub with r := { t.hub.r with rstStatus := { t.hub.r.rstStatus with ackPend := false } } }
            chans := t.chans.map (fun (k : Chan) => { k with core := { k.core with ackPend := false } }) } : State).complete
              { ref := s.refOf 4 d, status := 0 })))
    -- the hub resets alone, and boots
    ∧ (let o := exec .hubWatchdogExpiry s
       (s.hub.run ≠ 2 → Leaves o s)
       ∧ (s.hub.run = 2 → ∃ z, Leaves o z ∧ z.hub.run = 1 ∧ z.hub.r.rstCause = { s.hub.r.rstCause with hubWdt := true }
          ∧ z.hub.r.wdt.exp = satInc s.hub.r.wdt.exp ∧ z.hub.key.slots = s.hub.key.slots ∧ z.hub.ring.r.nidCfg = s.hub.ring.r.nidCfg
          ∧ z.hub.jnl = [] ∧ z.hub.jbuf = [] ∧ z.xfers = [] ∧ z.pwr = s.pwr
          ∧ ∀ n, n < 4 → (z.ch n).core.run = (s.ch n).core.run ∧ (z.ch n).core.pm = (s.ch n).core.pm
            ∧ z.ch n = { s.ch n with core := (z.ch n).core }))
    -- a Sole stores its legal registers and resets alone
    ∧ (∀ n : Nat,
      let o := exec (.soleWatchdogExpiry n) s
      let c := s.ch n;
      ((4 ≤ n ∨ c.core.run ≠ 2) → Leaves o s)
      ∧ (n < 4 → c.core.run = 2 → ∃ z, Leaves o z
          ∧ (z.ch n).core.r.wdt.exp = satInc c.core.r.wdt.exp ∧ (z.ch n).core.r.rstCause = { c.core.r.rstCause with wdt := true }
          ∧ (z.ch n).ledg.nv.eImp = c.met.eImp ∧ (z.ch n).ledg.nv.eExp = c.met.eExp ∧ (z.ch n).ledg.committed = false
          ∧ (z.ch n).key.slots = c.key.slots ∧ (z.ch n).ledg.slots = c.ledg.slots
          ∧ (z.ch n).core.run = (if s.hub.r.rstStatus.vholdOk = true ∧ s.pwr.pin = false ∧ s.pwr.rails = true ∧ s.pwr.tPf = none
              ∧ s.pwr.off.getLsbD n = false then 1 else 0)
          ∧ (∀ m, m < 4 → m ≠ n → (s.ch m).core.run ≠ 0 → z.ch m = s.ch m)))
    -- the Tongue starts again: its session is lost
    ∧ (∀ n : Nat, s.soleUp n 1 = true →
      let c := s.ch n
      let st := c.veh.r.status.state
      let o := exec (.tongueWatchdogExpiry n) s;
      (st = .shutdown → c.veh.stopAns = true → Becomes o s n (fun k => k = { c with veh.r.status.tls := false }))
      ∧ ((st = .setup ∨ st = .auth ∨ st = .discovery) → c.veh.causeSet = false → Becomes o s n (fun k =>
          k.veh.r.status.state = .shutdown ∧ k.veh.r.status.cause = 4 ∧ k.veh.r.status.tls = false))
      ∧ ((st = .cableCheck ∨ st = .precharge ∨ st = .transfer) → c.veh.causeSet = false → Becomes o s n (fun k =>
          k.veh.r.status.state = .stopping ∧ k.veh.r.status.cause = 4 ∧ k.veh.r.status.tls = false))
      ∧ ((st = .off ∨ st = .unplugged ∨ st = .plugged ∨ st = .ended ∨ st = .stopping) →
          Becomes o s n (fun k => k = { c with veh.r.status.tls := false })))
/-! ### Registers, stitch links, the journal, DRAM, rails and Eyelet links -/

/-- REGISTER_WRITE, LOWER_WORD_READ, STITCH_CLR (R15 to R17, R19, R44, R50, R51, R59, R515).
Choices of the model it rests on: log entry 41. -/
def Obligations.RegisterAccess : Prop :=
  ∀ (s : State),
    let counted (x : State) : State := { x with hub := { x.hub with gw := x.hub.gw.count 0 } }
    -- a write of less than a word, or off a word, is counted and changes no register
    (∀ (ofs : Nat) (w : Word) (whole : Bool), (whole = false ∨ ofs % 4 ≠ 0) → Leaves (exec (.registerWrite ofs w whole) s) (counted s))
    -- an access that no die serves has no effect, and a read of it is all ones
    ∧ (∀ (ofs : Nat) (w : Word), ofs % 4 = 0 → ofs < 0x18000 →
        (s.regDead ofs true = true → Leaves (exec (.registerWrite ofs w true) s) s)
        ∧ (s.regDead ofs false = true → Leaves (exec (.lowerWordRead ofs) s)
            { s with out := s.out ++ [.readData (s.nid.getD 0) ofs 0xFFFFFFFF] }))
    -- a write where no register stands, or of a register that only a descriptor writes, is counted
    ∧ (s.hostOpen 4 = true → ∀ (ofs : Nat) (w : Word), ofs % 4 = 0 → ofs < 0x8000 →
        (s.hubPeek ofs = none ∨ hubCmdReg ofs = true) → Leaves (exec (.registerWrite ofs w true) s) (counted s))
    ∧ (∀ (n o : Nat) (w : Word), n < 4 → s.hostOpen n = true → o % 4 = 0 → o < 0x4000 →
        let c := s.ch n
        let x := exec (.registerWrite (0x8000 + 0x4000 * n + o) w true) s
        ((c.regPeek o = none ∨ o ∈ chCmdRegs ∨ (o ∈ chSealedRegs ∧ c.ledg.r.status.sealed = true)) → Leaves x (counted (s.withCh n c)))
        ∧ (c.regPeek o ≠ none → o ∉ chCmdRegs → (o ∈ chSealedRegs → c.ledg.r.status.sealed = false) →
            Becomes x s n (fun k => k = (c.regWrite s.env o w).1))
        -- one of them: the lock centre of the synthesiser
        ∧ (o = 0xB08 → Becomes x s n (fun k => k = { c with clk := { c.clk with r := { c.clk.r with centre := w.extractLsb' 0 26 } } }))
        -- the sealed partition's calibration
        ∧ (o = 0x420 → c.ledg.r.status.sealed = true → Leaves x (counted (s.withCh n c))))
    -- reading the lower word of a pair captures the higher one
    ∧ (∀ (die ofs : Nat), die ≤ 4 → s.hostOpen die = true → ofs % 4 = 0 → ofs < 0x18000 → dieOfOfs ofs = die →
        let lows := pairLows (decide (die = 4))
        let v := s.regView die
        let lo := (v.regNow ofs).getD 0
        let hi := (v.regNow (ofs + 4)).getD 0
        (blockOfs ofs ∈ lows →
          let u : State := { v with hub := { v.hub with
            snaps := (v.snapKey ofs, hi) :: v.hub.snaps.filter (fun x => decide (x.1 ≠ v.snapKey ofs)) } }
          Leaves (exec (.lowerWordRead ofs) s) { u with out := u.out ++ [.readData (u.nid.getD 0) ofs lo] })
        -- and the higher word then reads as captured
        ∧ (∀ x, 4 ≤ blockOfs ofs → blockOfs ofs - 4 ∈ lows → blockOfs ofs ∉ lows →
            v.hub.snaps.find? (fun x => decide (x.1 = v.snapKey (ofs - 4))) = some x →
            Leaves (exec (.lowerWordRead ofs) s) { v with out := v.out ++ [.readData (v.nid.getD 0) ofs x.2] }))
    ∧ (s.hostOpen 4 = true → ∀ w : Word,
        let x := s.hub.r.stitchErr
        let y : HubStitchErr := {
          crcCh0 := if w.getLsbD 0 then 0 else x.crcCh0, crcCh1 := if w.getLsbD 1 then 0 else x.crcCh1
          crcCh2 := if w.getLsbD 2 then 0 else x.crcCh2, crcCh3 := if w.getLsbD 3 then 0 else x.crcCh3 }
        Leaves (exec (.stitchClr w) s) { s with hub := { s.hub with r := { s.hub.r with stitchErr := y } } })

/-- STITCH_PACKET, STITCH_RETRAIN_DONE, HEARTBEAT_SEND, HUB_LOST, SOLE_LOST, JOURNAL_FORWARD, DRAM_ERROR, DRAM_REFRESH, RAIL_FAULT,
EYELET_FAULT_REPORT, EYELET_STATUS_FRAME (R34, R35, R38, R40 to R43, R282, R526, R711).
Choices of the model it rests on: log entries 8, 24. -/
def Obligations.LinksAndRails : Prop :=
  ∀ (s : State),
    let run (n : Nat) : Nat := (s.ch n).core.run
    let link (n : Nat) : Stitch := vget s.hub.st n {}
    -- a stitch link that carries packets
    let carries (n : Nat) : Prop := n < 4 ∧ 2 ≤ s.hub.run ∧ run n ≠ 0 ∧ (link n).retrain = false
    (∀ n : Nat,
      let c := s.ch n
      let l := c.core.r.linkStatus
      let t := link n
      let x := s.hub.r.stitchErr
      let inc (i : Nat) (b : BitVec 8) : BitVec 8 := if n = i then satInc b else b
      let s1 : State := { s with hub := { s.hub with r := { s.hub.r with
        stitchErr := { crcCh0 := inc 0 x.crcCh0, crcCh1 := inc 1 x.crcCh1, crcCh2 := inc 2 x.crcCh2, crcCh3 := inc 3 x.crcCh3 } } } };
      (¬ carries n → ∀ a b : Bool, Leaves (exec (.stitchPacket n a b) s) s)
      ∧ (carries n →
        -- a valid packet shows the other end present
        Becomes (exec (.stitchPacket n true true) s) (s.onStitch n (fun t => { t with failS := 0, tSole := s.now, hubLost := false })) n
          (fun k => k = { c with core := { c.core with r := { c.core.r with linkStatus := { l with hubPresent := true } } } })
        ∧ Leaves (exec (.stitchPacket n false true) s) (s.onStitch n (fun t => { t with failH := 0, tHub := s.now, soleLost := false }))
        -- a failed one is counted and sent again; after three retries the link retrains
        ∧ (t.failS < 3 → Leaves (exec (.stitchPacket n true false) s) (s1.onStitch n (fun t => { t with failS := t.failS + 1 })))
        ∧ (t.failH < 3 → Leaves (exec (.stitchPacket n false false) s) (s1.onStitch n (fun t => { t with failH := t.failH + 1 })))
        ∧ (∀ a : Bool, 3 ≤ (if a then t.failS else t.failH) →
            Becomes (exec (.stitchPacket n a false) s) (s1.onStitch n (fun t => { t with retrain := true })) n (fun k =>
              k = { c with core := { c.core with r := { c.core.r with linkStatus := { l with retrain := satInc l.retrain } } } })))
      ∧ (n < 4 → Leaves (exec (.stitchRetrainDone n) s) (s.onStitch n (fun t => { t with retrain := false, failS := 0, failH := 0 })))
      -- 50 µs without a valid packet
      ∧ (let due : Prop := n < 4 ∧ run n ≠ 0 ∧ t.hubLost = false ∧ t.tSole + usNs 50 ≤ s.now
         (¬ due → Leaves (exec (.hubLost n) s) s)
         ∧ (due → Becomes (exec (.hubLost n) s) (s.onStitch n (fun t => { t with hubLost := true })) n (fun k =>
            k.core.r.linkStatus = { l with hubPresent := false, hubLost := true }
            ∧ ((c.met.r.capStatus.state = .armed ∨ c.met.r.capStatus.state = .post) → k.met.r.capStatus.state = .error)
            ∧ k = { c with core := { c.core with r := { c.core.r with linkStatus := k.core.r.linkStatus } }, met := k.met })))
      ∧ (let due : Prop := n < 4 ∧ 2 ≤ s.hub.run ∧ t.soleLost = false ∧ t.tHub + usNs 50 ≤ s.now
         let lost : State := s.onStitch n (fun t => { t with soleLost := true })
         (¬ due → Leaves (exec (.soleLost n) s) s)
         ∧ (due → s.nid = none → Leaves (exec (.soleLost n) s) lost)
         ∧ (∀ me, due → s.nid = some me → s.hub.gw.held = [] → GwBecomes (exec (.soleLost n) s) lost (fun g =>
            ∀ o, o ∈ s.hub.gw.out → o.node = me → o.ch = some n → o ∉ g.out)))
      -- what a Sole kept without its hub reaches the journal
      ∧ (let due : Prop := n < 4 ∧ t.hubLost = false ∧ s.hub.run = 2 ∧ run n ≠ 0 ∧ (t.kept ≠ [] ∨ t.lost ≠ 0 ∨ t.lostSafe ≠ 0)
         (¬ due → Leaves (exec (.journalForward n) s) s)
         ∧ (due → ∃ z, Leaves (exec (.journalForward n) s) z
            ∧ vget z.hub.st n {} = { t with kept := [], lost := 0, lostSafe := 0 }
            ∧ (∀ x, x ∈ t.kept → ∃ y, (y ∈ z.hub.jnl ∨ y ∈ z.hub.jbuf) ∧ y = { x with conc := y.conc }) ∧ z.chans = s.chans)))
    ∧ (let o := exec .heartbeatSend s
       ∃ z, Leaves o z ∧ ∀ n, n < 4 →
        (carries n → (vget z.hub.st n {}).tHub = s.now ∧ (vget z.hub.st n {}).tSole = s.now ∧ (vget z.hub.st n {}).hubLost = false
          ∧ (vget z.hub.st n {}).soleLost = false ∧ (z.ch n).core.r.linkStatus.hubPresent = true)
        ∧ (¬ carries n → vget z.hub.st n {} = link n))
    -- DRAM
    ∧ (∀ (region : Nat) (ok : Bool),
      let o := exec (.dramError region ok) s
      let bad : State := { s with hub := { s.hub with dram := { s.hub.dram with bad := msetb s.hub.dram.bad region true } } };
      ((s.hub.run < 2 ∨ 7 < region) → Leaves o s)
      ∧ (2 ≤ s.hub.run → region ≤ 7 → ok = true →
          Leaves o { s with hub := { s.hub with dram := { s.hub.dram with corr := s.hub.dram.corr + 1 } } })
      ∧ (2 ≤ s.hub.run → region ≤ 7 → ok = false → region ≠ 0 → region ≠ 3 → Leaves o (bad.hubJr JEv.dramBad [(region : Int)]))
      ∧ (2 ≤ s.hub.run → region = 0 → ok = false → ∃ z, Leaves o z ∧ z.hub.dram.bad.getLsbD 0 = true ∧ ∀ n, n < 4 →
          ((s.ch n).met.r.capStatus.state = .armed ∨ (s.ch n).met.r.capStatus.state = .post) → (z.ch n).met.r.capStatus.state = .error)
      ∧ (2 ≤ s.hub.run → region = 3 → ok = false → ∃ z, Leaves o z ∧ z.hub.dram.bad.getLsbD 3 = true
          ∧ ∀ u, u < 5 → (vget z.hub.fw u {}).staged = none))
    ∧ (let b := (s.hub.pm.die 4).band
       Leaves (exec .dramRefresh s) { s with hub := { s.hub with dram := { s.hub.dram with rate := if b = 4 then 4 else if b = 3 then 2 else 1 } } })
    -- a rail that shorts is switched off alone
    ∧ (∀ die : Nat,
      let o := exec (.railFault die) s
      let due : Prop := die ≤ 4 ∧ s.pwr.rails = true ∧ s.pwr.off.getLsbD die = false;
      (¬ due → Leaves o s)
      ∧ (due → ∃ z, Leaves o z ∧ z.pwr = { s.pwr with off := msetb s.pwr.off die true }
          ∧ (die < 4 → (z.ch die).core.run = 0 ∧ (z.ch die).core.r.rstCause = { (s.ch die).core.r.rstCause with rail := true }
              ∧ (∀ m, m < 4 → m ≠ die → z.ch m = s.ch m) ∧ z.hub.r.dieStatus.pmOk = false ∧ z.hub.run = s.hub.run)
          ∧ (die = 4 → z.hub.run = 0 ∧ z.hub.r.rstCause = { s.hub.r.rstCause with rail := true }
              ∧ ∀ n, n < 4 → (z.ch n).core.run = run n)))
    -- the Eyelet link
    ∧ (∀ n : Nat, s.soleUp n 3 = true →
      let c := s.ch n
      let l := c.core.r.linkStatus;
      (c.ey.report = false → Becomes (exec (.eyeletFaultReport n) s) s n (fun k => k = c))
      ∧ (c.ey.report = true → Becomes (exec (.eyeletFaultReport n) s) s n (fun k =>
          k.ey.report = false ∧ k.ey.fault = {} ∧ k.ey.r.ol = c.ey.flags ∧ k.ey.r.fault.oc = c.ey.r.fault.oc ||| c.ey.fault.oc
          ∧ k.ey.r.fault.th = c.ey.r.fault.th ||| c.ey.fault.th ∧ k.ey.r.fault.ouv = c.ey.r.fault.ouv ||| c.ey.fault.ouv ∧ k.ey.o = c.ey.o
          ∧ (c.ey.flags ≠ c.ey.r.ol ∨ c.ey.fault ≠ {} → k.jq ≠ c.jq) ∧ k = { c with ey := k.ey, jq := k.jq }))
      ∧ (∀ (mas : List Nat) (vsw : Nat),
        Becomes (exec (.eyeletStatusFrame n false mas vsw) s) s n (fun k =>
          k = { c with core := { c.core with r := { c.core.r with linkStatus := { l with eydLinkOk := false, eydLinkErr := true } } } })
        ∧ Becomes (exec (.eyeletStatusFrame n true mas vsw) s) s n (fun k =>
          k.core = { c.core with r := { c.core.r with linkStatus := { l with eydLinkOk := true } } }
          ∧ k.ey.vsw = vsw ∧ k.ey.r.supply.vsw.toNat = min 65535 vsw
          ∧ (∀ i, i < 8 → vget k.ey.o i {} = { vget c.ey.o i {} with ma := if (vget c.ey.o i {}).live then mas.getD i 0 else 0 })
          ∧ k = { c with core := k.core, ey := k.ey, jq := k.jq, shk := { c.shk with tpSeen := k.shk.tpSeen } })))
/-! ### The machine as a whole -/

/-- A step runs the command at the front of the queue on the state with the rest of the queue; on an empty queue 1 ns passes and
nothing else (log entry 7).
Choices of the model it rests on: log entry 7. -/
def Obligations.StepRunsTheFrontCommand : Prop :=
  ∀ (s : State),
    (∀ (c : Instr) (cs : List Instr), s.pending = c :: cs → step s = exec c { s with pending := cs })
    ∧ (s.pending = [] → step s = .next { s with now := s.now + 1 })

/-- The machine right after the reset of a power-up: the hub boots, the Soles wait for VHOLD_OK, every block is in the state its
registers state for reset, and the invariants hold.
Choices of the model it rests on: log entry 2. -/
def Obligations.ResetState : Prop :=
  let s := State.reset
  s.pending = [] ∧ s.now = 0 ∧ s.out = [] ∧ s.xfers = [] ∧ s.hub.run = 1 ∧ s.hub.r.rstCause.por = true ∧ s.hub.r.rstCause.pin = false
  ∧ s.hub.r.rstStatus.vholdOk = false ∧ s.hub.r.rstStatus.pinMasked = false ∧ s.hub.jnl = [] ∧ s.hub.gw.role = false
  ∧ s.hub.gw.bme = false ∧ (∀ k, k < 64 → (s.hub.gw.ring k).st = .disabled) ∧ s.hub.eng.role = .none ∧ s.hub.cob.run = []
  ∧ s.hub.pm.r.pmStatus.hub = 0 ∧ s.hub.pm.r.pmStatus.ch = 0 ∧ s.hub.dram.bad = 0 ∧ s.hub.key.r.tampStatus.hold = false
  ∧ (∀ n, n < 4 →
      let c := s.ch n
      c.idx = n ∧ c.core.run = 0 ∧ c.core.r.id.ch = BitVec.ofNat 2 n ∧ c.core.r.rstCause.module = true
      ∧ c.pwm.r.status.state = .disabled ∧ c.pwm.r.ctrl.arm = false ∧ c.loop.r.status.state = .idle ∧ c.clk.r.status.state = .locking
      ∧ c.clk.r.centre = 0x2000000 ∧ c.clk.r.rampNow.ofs = 0 ∧ c.veh.r.status.state = .off ∧ c.cool.r.status.state = .off
      ∧ c.met.clkRun = false ∧ c.met.r.capStatus.state = .idle ∧ c.ledg.r.status.sealed = false ∧ c.ledg.slots = [] ∧ c.shk.r.status.state = .init
      ∧ (∀ i, i < 8 → (vget c.ey.o i {}).live = false) ∧ c.key.slots = Vector.replicate 16 {}
      ∧ c.canA.r.status.state = .init ∧ c.canB.r.status.state = .init ∧ c.canA.r.ctrl.init = true ∧ c.canA.mem = [] ∧ c.canB.mem = []
      ∧ Memory.wf canDflt c.canA.mem = true ∧ Memory.wf canDflt c.canB.mem = true)
  ∧ s.portsApart = true ∧ s.testsApart = true

/-- No two word-port transfers of the node ever share a port, no more than two self-tests ever run, and no die runs two
(R533, R685): every step keeps it. -/
def Obligations.PortsAndTestsStayApart : Prop :=
  ∀ (s t : State), s.portsApart = true → s.testsApart = true → step s = .next t → t.portsApart = true ∧ t.testsApart = true

/-- The message memory of every CAN controller keeps its canonical form over every step: addresses strictly rising, and no cell
equal to what an unlisted address reads as.
Choices of the model it rests on: log entry 38. -/
def Obligations.CanMemoryStaysCanonical : Prop :=
  ∀ (s t : State),
    (∀ n, n < 4 → ∀ b : Bool, Memory.wf canDflt ((s.ch n).bus b).mem = true) → step s = .next t →
    ∀ n, n < 4 → ∀ b : Bool, Memory.wf canDflt ((t.ch n).bus b).mem = true

/-- What no command changes: the time, the queue behind it, the identities of the dies and of the channels; and what the module
has sent is never taken back.
Choices of the model it rests on: log entry 5. -/
def Obligations.WhatEveryCommandKeeps : Prop :=
  ∀ (c : Instr) (s t : State), exec c s = .next t →
    t.now = s.now ∧ t.pending = s.pending ∧ t.hub.dieId = s.hub.dieId ∧ s.out <+: t.out
    ∧ ∀ n, n < 4 → (t.ch n).idx = (s.ch n).idx ∧ (t.ch n).core.dieId = (s.ch n).core.dieId

/-- What follows from a command inside a channel, and inside the hub where nothing waits: the clock, the controllers, the keys, the
energies and the grant of a channel stay as the command left them, and of the hub only the views of its registers and roles follow.
Choices of the model it rests on: log entry 37. -/
def Obligations.WhatFollowsACommand : Prop :=
  (∀ (k old : Chan) (e : Env),
    let z := k.settle old e
    z.idx = k.idx ∧ z.clk = k.clk ∧ z.canA = k.canA ∧ z.canB = k.canB ∧ z.key.slots = k.key.slots ∧ z.key.r = k.key.r
    ∧ z.met.eImp = k.met.eImp ∧ z.met.eExp = k.met.eExp ∧ z.met.accI = k.met.accI ∧ z.met.accE = k.met.accE
    ∧ z.grant.r.imp = k.grant.r.imp ∧ z.grant.r.exp = k.grant.r.exp ∧ z.core.run = k.core.run ∧ z.core.pm = k.core.pm
    ∧ z.core.meterRole = k.core.meterRole ∧ z.core.pfail = k.core.pfail)
  ∧ (∀ s : State,
    (s.settled = true → s.hub.ringRuns = false → s.finish = { s with hub := { s.hub with r := { s.hub.r with
      dieStatus := s.dieStatus, boot := { s.hub.r.boot with soleRec := s.soleRec } } } })
    ∧ (s.settled = true → s.hubView.quiet = true → s.finish = s.hubView)
    ∧ (∃ h : Hub, s.hubView.hub = { s.hub with r := h.r, ring := h.ring, gw := h.gw, eng := h.eng, evt := h.evt })
    ∧ s.hubView.pwr = s.pwr ∧ s.hubView.xfers = s.xfers ∧ s.hubView.out = s.out ∧ s.hubView.pending = s.pending ∧ s.hubView.now = s.now
    ∧ (∀ n, n < 4 → ∃ v g, s.hubView.ch n = { s.ch n with core := { (s.ch n).core with r := { (s.ch n).core.r with
        id := { (s.ch n).core.r.id with gcidValid := v, gcid := g } } } }))
end

