-- ==== Sys2Proof/Laws/Crypto.lean ====
section
/-! SUPPORT. Sys2Proof/Laws/Crypto.lean: a CMAC is sixteen bytes, and a descriptor that carries the tag of its own words passes
the check of its tag. -/

namespace Sys2Proof.Machine

/-- A list of n bytes. -/
def IsBytes (n : Nat) (l : List Nat) : Prop := l.length = n ∧ ∀ x ∈ l, x < 256

/-- An S-box value is a byte. -/
theorem sbox_lt (x : Nat) : sbox x < 256 := Nat.mod_lt _ (by decide)

/-- Exclusive or of byte lists. -/
theorem IsBytes.xorL {n : Nat} {a b : List Nat} (ha : IsBytes n a) (hb : IsBytes n b) : IsBytes n (xorL a b) := by
  refine ⟨by simp [Machine.xorL, ha.1, hb.1], ?_⟩
  intro x hx
  simp only [Machine.xorL, List.mem_map, Prod.exists] at hx
  obtain ⟨u, v, hm, rfl⟩ := hx
  exact Nat.xor_lt_two_pow (n := 8) (ha.2 u (List.of_mem_zip hm).1) (hb.2 v (List.of_mem_zip hm).2)

theorem IsBytes.take {n m : Nat} {a : List Nat} (ha : IsBytes n a) (h : m ≤ n) : IsBytes m (a.take m) :=
  ⟨by simp [ha.1, h], fun x hx => ha.2 x (List.mem_of_mem_take hx)⟩

theorem IsBytes.drop {n : Nat} {a : List Nat} (ha : IsBytes n a) (m : Nat) : IsBytes (n - m) (a.drop m) :=
  ⟨by simp [ha.1], fun x hx => ha.2 x (List.mem_of_mem_drop hx)⟩

theorem IsBytes.append {n m : Nat} {a b : List Nat} (ha : IsBytes n a) (hb : IsBytes m b) : IsBytes (n + m) (a ++ b) :=
  ⟨by simp [ha.1, hb.1], fun x hx => (List.mem_append.1 hx).elim (ha.2 x) (hb.2 x)⟩

/-- The next round key of sixteen bytes with a round constant that is a byte. -/
theorem IsBytes.nextKey {k : List Nat} (hk : IsBytes 16 k) (r : Nat) (hr : r < 256) : IsBytes 16 (nextKey k r) := by
  have ht : IsBytes 4 [Nat.xor (sbox (k.getD 13 0)) r, sbox (k.getD 14 0), sbox (k.getD 15 0), sbox (k.getD 12 0)] := by
    refine ⟨rfl, ?_⟩
    intro x hx
    simp only [List.mem_cons, List.not_mem_nil, or_false] at hx
    rcases hx with rfl | rfl | rfl | rfl
    · exact Nat.xor_lt_two_pow (n := 8) (sbox_lt _) hr
    · exact sbox_lt _
    · exact sbox_lt _
    · exact sbox_lt _
  have a := (hk.take (m := 4) (by decide)).xorL ht
  have b := ((hk.drop 4).take (m := 4) (by decide)).xorL a
  have c := ((hk.drop 8).take (m := 4) (by decide)).xorL b
  exact ((a.append b).append c).append ((hk.drop 12).xorL c)

/-- SubBytes and ShiftRows give sixteen bytes. -/
theorem isBytes_subShift (s : List Nat) : IsBytes 16 (subShift s) := by
  refine ⟨by simp [subShift], ?_⟩
  intro x hx
  simp only [subShift, List.mem_map] at hx
  obtain ⟨i, -, rfl⟩ := hx
  exact sbox_lt _

/-- One AES block is sixteen bytes. -/
theorem isBytes_aesRounds (rs : List Nat) (hr : ∀ r ∈ rs, r < 256) (hn : rs ≠ []) (k s : List Nat) (hk : IsBytes 16 k) :
    IsBytes 16 (aesRounds rs k s) := by
  induction rs generalizing k s with
  | nil => exact absurd rfl hn
  | cons r t ih =>
    cases t with
    | nil => exact (isBytes_subShift s).xorL (hk.nextKey r (hr r (by simp)))
    | cons q u =>
      exact ih (fun x hx => hr x (List.mem_cons_of_mem _ hx)) (by simp) _ _ (hk.nextKey r (hr r (by simp)))

theorem isBytes_aes (k s : List Nat) (hk : IsBytes 16 k) : IsBytes 16 (aes k s) :=
  isBytes_aesRounds _ (by decide) (by decide) k _ hk

/-- A CMAC is sixteen bytes. -/
theorem isBytes_cmac (k m : List Nat) (hk : IsBytes 16 k) : IsBytes 16 (cmac k m) := by
  have go : ∀ (n : Nat) (c m : List Nat), IsBytes 16 c → IsBytes 16 (cmacChain n k c m) := by
    intro n
    induction n with
    | zero => intro c m hc; exact hc
    | succ n ih =>
      intro c m hc
      unfold cmacChain
      split
      · exact isBytes_aes k _ hk
      · exact ih _ _ (isBytes_aes k _ hk)
  exact go _ _ _ ⟨by simp, by simp⟩

/-- Four bytes as a word give the bytes back. -/
theorem bytes_word (a b c d : Nat) (ha : a < 256) (hb : b < 256) (hc : c < 256) (hd : d < 256) :
    bytesOfWords [BitVec.ofNat 32 (a + 256 * b + 65536 * c + 16777216 * d)] = [a, b, c, d] := by
  simp only [bytesOfWords, List.flatMap_cons, List.flatMap_nil, List.append_nil, List.range, List.range.loop, List.map_cons,
    List.map_nil, BitVec.extractLsb'_toNat, BitVec.toNat_ofNat, Nat.shiftRight_eq_div_pow]
  have h : (a + 256 * b + 65536 * c + 16777216 * d) % 2 ^ 32 = a + 256 * b + 65536 * c + 16777216 * d := by omega
  rw [h]
  simp only [List.cons.injEq, and_true]
  refine ⟨?_, ?_, ?_, ?_⟩ <;> omega

/-- The words of the tag of a message under a key. -/
def tagWord (k m : List Nat) (i : Nat) : Word :=
  let t := cmac k m
  BitVec.ofNat 32 (t.getD (4 * i) 0 + 256 * t.getD (4 * i + 1) 0 + 65536 * t.getD (4 * i + 2) 0 + 16777216 * t.getD (4 * i + 3) 0)

/-- The first eight bytes of a CMAC are the bytes of its two tag words. -/
theorem cmac_take (k m : List Nat) (hk : IsBytes 16 k) : (cmac k m).take 8 = bytesOfWords [tagWord k m 0, tagWord k m 1] := by
  have h := isBytes_cmac k m hk
  have e : bytesOfWords [tagWord k m 0, tagWord k m 1] = bytesOfWords [tagWord k m 0] ++ bytesOfWords [tagWord k m 1] := by
    simp [bytesOfWords]
  rw [e]
  simp only [tagWord]
  obtain ⟨hl, hb⟩ := h
  revert hl hb
  generalize cmac k m = t
  intro hl hb
  match t, hl with
  | [t0, t1, t2, t3, t4, t5, t6, t7, t8, t9, t10, t11, t12, t13, t14, t15], _ =>
    simp only [List.mem_cons, List.not_mem_nil, or_false, forall_eq_or_imp, forall_eq] at hb
    simp only [List.getD_cons_zero, List.getD_cons_succ, Nat.mul_zero, Nat.zero_add, Nat.mul_one, Nat.reduceAdd, List.take]
    rw [bytes_word _ _ _ _ (by omega) (by omega) (by omega) (by omega),
      bytes_word _ _ _ _ (by omega) (by omega) (by omega) (by omega)]
    rfl

/-- A descriptor with the tag of its words under a key. -/
def Desc.signed (d : Desc) (key : List Word) : Desc :=
  { d with w := (d.w.set 14 (tagWord (bytesOfWords key) d.tagMsg 0)).set 15 (tagWord (bytesOfWords key) d.tagMsg 1) }

/-- The words a tag covers are not those that hold it. -/
theorem Desc.word_signed (d : Desc) (key : List Word) (i : Nat) (h : i < 14) : (d.signed key).word i = d.word i := by
  have h1 : i ≠ 14 := by omega
  have h2 : i ≠ 15 := by omega
  simp [Desc.signed, Desc.word, Ne.symm h1, Ne.symm h2]

theorem Desc.tagMsg_signed (d : Desc) (key : List Word) : (d.signed key).tagMsg = d.tagMsg := by
  simp only [Desc.tagMsg, d.word_signed key 0 (by decide), d.word_signed key 1 (by decide), d.word_signed key 2 (by decide)]
  congr 2
  simp only [List.range, List.range.loop, List.map_cons, List.map_nil]
  simp [d.word_signed]

/-- A signed descriptor passes the check of its tag. -/
theorem Desc.tagOk_signed (d : Desc) (key : List Word) (hk : IsBytes 16 (bytesOfWords key)) : (d.signed key).tagOk key = true := by
  simp only [Desc.tagOk, d.tagMsg_signed key, decide_eq_true_eq]
  rw [cmac_take _ _ hk]
  simp [Desc.signed, Desc.word]

/-- What `State.takes` asks beside the tag of a critical descriptor. -/
def State.takesBut (s : State) (die : Nat) (d : Desc) : Bool :=
  let k := s.keyOf die
  decide (s.dieOf d = some die) && decide (2 ≤ s.hub.run) && decide (s.descFate die d = .run)
  && match opRow d.opcode with
    | some row => row.target.fits d.chan
        && (!row.critical || (k.kslotOk (decide (die = 4)) d && !(k.r.tampStatus.hold && decide (d.opcode ≠ 0x0705)) && decide (k.lastCtr d.kslot < d.ctr)))
    | none => false

/-- A descriptor whose tag is right is taken where everything else allows it. -/
theorem State.takes_of (s : State) (die : Nat) (d : Desc)
    (ht : d.tagOk ((s.keyOf die).keyOf (decide (die = 4)) d.kslot) = true) (h : s.takesBut die d = true) : s.takes die d = true := by
  simp only [State.takesBut, Bool.and_eq_true] at h
  obtain ⟨h1, h2⟩ := h
  simp only [State.takes, h1.1.1, h1.1.2, h1.2, Bool.true_and]
  cases hr : opRow d.opcode with
  | none => simp [hr] at h2
  | some row =>
    simp only [hr, Bool.and_eq_true, Bool.or_eq_true, Bool.not_eq_true', decide_eq_true_eq] at h2
    simp only [h2.1, Bool.true_and, Bool.or_eq_true, Bool.not_eq_true']
    rcases h2.2 with hc | ⟨⟨hk, hh⟩, hl⟩
    · exact Or.inl hc
    · refine Or.inr ?_
      simp only [Key.critical, hh]
      split
      · simp
      · simp [hk, ht, Nat.not_le.2 hl]

end Sys2Proof.Machine
end

