-- ==== Sys2Proof/Laws/Mem.lean ====
section
/-! SUPPORT. Sys2Proof/Laws/Mem.lean: what the memory operations do: a read after a write, a read elsewhere, and that every
operation keeps the canonical form. -/

namespace Sys2Proof.Machine

/-- The canonical form with a lower bound is kept when the bound falls. -/
theorem memAbove_mono (d : Nat → Option Byte) (m : List Host.Cell) (lo hi : Nat) (h : lo ≤ hi) (w : memAbove d hi m = true) :
    memAbove d lo m = true := by
  cases m with
  | nil => rfl
  | cons c r =>
    obtain ⟨x, b⟩ := c
    simp only [memAbove, Bool.and_eq_true, decide_eq_true_eq] at w ⊢
    exact ⟨⟨by omega, w.1.2⟩, w.2⟩

/-- An address below the bound is not listed. -/
theorem memFind_below (d : Nat → Option Byte) (m : List Host.Cell) (lo a : Nat) (h : a < lo) (w : memAbove d lo m = true) :
    memFind m a = none := by
  induction m generalizing lo with
  | nil => rfl
  | cons c r ih =>
    obtain ⟨x, b⟩ := c
    simp only [memAbove, Bool.and_eq_true, decide_eq_true_eq] at w
    rw [memFind, if_neg (by omega)]
    exact ih (x + 1) (by omega) w.2

/-- Putting a cell whose byte is not the default keeps the canonical form. -/
theorem memAbove_put (d : Nat → Option Byte) (m : List Host.Cell) (lo a : Nat) (b : Byte) (h : lo ≤ a) (hb : d a ≠ some b)
    (w : memAbove d lo m = true) : memAbove d lo (memPut m a b) = true := by
  induction m generalizing lo with
  | nil => simp [memPut, memAbove, h, hb]
  | cons c r ih =>
    obtain ⟨x, y⟩ := c
    simp only [memAbove, Bool.and_eq_true, decide_eq_true_eq] at w
    simp only [memPut]
    split
    · simp only [memAbove, Bool.and_eq_true, decide_eq_true_eq]
      exact ⟨⟨h, hb⟩, ⟨by omega, w.1.2⟩, w.2⟩
    · split
      · subst_vars
        simp only [memAbove, Bool.and_eq_true, decide_eq_true_eq]
        exact ⟨⟨h, hb⟩, w.2⟩
      · simp only [memAbove, Bool.and_eq_true, decide_eq_true_eq]
        exact ⟨w.1, ih (x + 1) (by omega) w.2⟩

/-- Taking a cell out keeps the canonical form. -/
theorem memAbove_del (d : Nat → Option Byte) (m : List Host.Cell) (lo a : Nat) (w : memAbove d lo m = true) :
    memAbove d lo (memDel m a) = true := by
  induction m generalizing lo with
  | nil => rfl
  | cons c r ih =>
    obtain ⟨x, y⟩ := c
    simp only [memAbove, Bool.and_eq_true, decide_eq_true_eq] at w
    simp only [memDel]
    split
    · exact memAbove_mono d r lo (x + 1) (by omega) w.2
    · simp only [memAbove, Bool.and_eq_true, decide_eq_true_eq]
      exact ⟨w.1, ih (x + 1) w.2⟩

/-- A byte write keeps the canonical form. -/
theorem Memory.wf_memSet (d : Nat → Option Byte) (m : List Host.Cell) (a : Nat) (b : Byte) (w : Memory.wf d m = true) :
    Memory.wf d (memSet d m a b) = true := by
  unfold memSet
  split
  · exact memAbove_del d m 0 a w
  · exact memAbove_put d m 0 a b (Nat.zero_le a) ‹_› w

/-- A word write keeps the canonical form. -/
theorem Memory.wf_memSetW (d : Nat → Option Byte) (m : List Host.Cell) (a : Nat) (x : Word) (w : Memory.wf d m = true) :
    Memory.wf d (memSetW d m a x) = true :=
  Memory.wf_memSet d _ _ _ (Memory.wf_memSet d _ _ _ (Memory.wf_memSet d _ _ _ (Memory.wf_memSet d _ _ _ w)))

/-- Writing words at rising addresses keeps the canonical form. -/
theorem Memory.wf_memSetWs (d : Nat → Option Byte) (m : List Host.Cell) (a : Nat) (xs : List Word) (w : Memory.wf d m = true) :
    Memory.wf d (memSetWs d m a xs) = true := by
  induction xs generalizing m a with
  | nil => exact w
  | cons x r ih => exact ih _ _ (Memory.wf_memSetW d m a x w)

/-- What a put cell reads as, and that every other address is listed as before. -/
theorem memFind_put (m : List Host.Cell) (a x : Nat) (b : Byte) :
    memFind (memPut m a b) x = if x = a then some b else memFind m x := by
  by_cases hx : x = a
  · subst hx
    induction m with
    | nil => simp [memPut, memFind]
    | cons c r ih =>
      obtain ⟨y, z⟩ := c
      simp only [memPut]
      split
      · simp [memFind]
      · split
        · simp [memFind]
        · rename_i h
          rw [memFind, if_neg h, ih]
          simp
  · rw [if_neg hx]
    induction m with
    | nil => simp [memPut, memFind, Ne.symm hx]
    | cons c r ih =>
      obtain ⟨y, z⟩ := c
      simp only [memPut]
      split
      · rw [memFind, if_neg (Ne.symm hx)]
      · split
        · rename_i h
          rw [memFind, if_neg (Ne.symm hx), memFind, if_neg (h ▸ Ne.symm hx)]
        · simp only [memFind, ih]

/-- What is listed once a cell is taken out. -/
theorem memFind_del (m : List Host.Cell) (a x : Nat) (d : Nat → Option Byte) (lo : Nat) (w : memAbove d lo m = true) :
    memFind (memDel m a) x = if x = a then none else memFind m x := by
  induction m generalizing lo with
  | nil => simp [memDel, memFind]
  | cons c r ih =>
    obtain ⟨y, z⟩ := c
    simp only [memAbove, Bool.and_eq_true, decide_eq_true_eq] at w
    simp only [memDel]
    by_cases hy : y = a
    · subst hy
      rw [if_pos rfl]
      by_cases hx : x = y
      · subst hx
        rw [if_pos rfl]
        exact memFind_below d r (x + 1) x (by omega) w.2
      · rw [if_neg hx, memFind, if_neg (Ne.symm hx)]
    · rw [if_neg hy]
      simp only [memFind, ih _ w.2]
      split
      · rw [if_neg (by omega)]
      · rfl

/-- A read after a write: the byte written at its address, and every other address as before. -/
theorem memGet_memSet (d : Nat → Option Byte) (m : List Host.Cell) (a x : Nat) (b : Byte) (w : Memory.wf d m = true) :
    memGet d (memSet d m a b) x = if x = a then some b else memGet d m x := by
  simp only [memGet, memSet]
  by_cases hd : d a = some b
  · rw [if_pos hd, memFind_del m a x d 0 w]
    by_cases hx : x = a
    · subst hx; simp [hd]
    · simp [hx]
  · rw [if_neg hd, memFind_put m a x b]
    by_cases hx : x = a
    · subst hx; simp
    · simp [hx]

end Sys2Proof.Machine
end

