-- ==== Sys2Proof/Laws/Node.lean ====
section
/-! SUPPORT. Sys2Proof/Laws/Node.lean: what the shared operations of the module do, said once: a change of a channel, a host
access to a channel's registers, a descriptor at its die. -/

namespace Sys2Proof.Machine

/-- What `soleUp` says. -/
theorem State.soleUp_iff (s : State) (n pm : Nat) :
    s.soleUp n pm = true ↔ n < 4 ∧ (s.ch n).core.run = 2 ∧ (s.ch n).core.pm ≤ pm := by
  simp [State.soleUp, and_assoc]

/-- A change of a channel of the module. -/
theorem State.onCh_eq (s : State) (n : Nat) (f : Env → Chan → Chan) (h : n < 4) :
    s.onCh n f = s.withCh n (f s.env (s.ch n)) := by
  simp [State.onCh, State.withCh, h]

/-- A change of a channel whose Sole runs. -/
theorem State.onSole_up (s : State) (n pm : Nat) (f : Env → Chan → Chan) (h : s.soleUp n pm = true) :
    s.onSole n pm f = s.withCh n (f s.env (s.ch n)) := by
  rw [State.soleUp_iff] at h
  simp only [State.onSole]
  rw [if_pos h.2, State.onCh_eq s n f h.1]

/-- A change of a channel by its metering or its legal code. -/
theorem State.onLegal_up (s : State) (n pm : Nat) (f : Env → Chan → Chan) (h : s.legalUp n pm = true) :
    s.onLegal n pm f = s.withCh n (f s.env (s.ch n)) := by
  simp only [State.legalUp, Bool.and_eq_true, Bool.not_eq_true'] at h
  have hu := (State.soleUp_iff s n pm).1 h.1
  simp only [State.onLegal]
  rw [if_pos, State.onCh_eq s n f hu.1]
  exact ⟨by simp [h.2], Or.inl hu.2⟩

/-- What `hostOpen` says of a channel. -/
theorem State.hostOpen_ch (s : State) (n : Nat) (hn : n < 4) (h : s.hostOpen n = true) :
    s.hub.run = 2 ∧ (vget s.hub.fw 4 {}).act = false ∧ s.memTest n = false ∧ s.served n = true := by
  simp only [State.hostOpen, Bool.and_eq_true, decide_eq_true_eq, Bool.not_eq_true', Bool.or_eq_true] at h
  obtain ⟨⟨⟨h1, h2⟩, h3⟩, h4⟩ := h
  refine ⟨h1, h2, h3, ?_⟩
  rcases h4 with h4 | h4
  · omega
  · exact h4

/-- The offset of a register of a channel block names its channel. -/
theorem dieOfOfs_ch (n o : Nat) (ho : o < 0x4000) : dieOfOfs (0x8000 + 0x4000 * n + o) = n := by
  simp only [dieOfOfs]
  rw [if_neg (by omega)]
  omega

/-- The offset of a register of a channel block within it. -/
theorem blockOfs_ch (n o : Nat) (ho : o < 0x4000) : blockOfs (0x8000 + 0x4000 * n + o) = o := by
  simp only [blockOfs]
  rw [if_neg (by omega)]
  omega

/-- An access to a channel that is open finds its die. -/
theorem State.regDead_open (s : State) (n o : Nat) (wr : Bool) (hn : n < 4) (ho : o < 0x4000) (h : s.hostOpen n = true) :
    s.regDead (0x8000 + 0x4000 * n + o) wr = false := by
  obtain ⟨h1, h2, -, h4⟩ := s.hostOpen_ch n hn h
  simp [State.regDead, dieOfOfs_ch n o ho, h1, h2, h4]

/-- A host write of a register of a channel that is open, where the gateway counts no error. -/
theorem State.chWrite_open (s : State) (n o : Nat) (w : Word) (hn : n < 4) (ho : o < 0x4000) (ho4 : o % 4 = 0)
    (h : s.hostOpen n = true) (hc : ((s.ch n).regWrite s.env o w).2 = false) :
    s.chWrite n o w = s.withCh n ((s.ch n).regWrite s.env o w).1 := by
  obtain ⟨-, -, h3, -⟩ := s.hostOpen_ch n hn h
  have e : (0x8000 + 0x4000 * n + o) / 4 * 4 = 0x8000 + 0x4000 * n + o := by omega
  simp only [State.chWrite, if_pos hn, State.hostAccess]
  rw [if_neg (by omega)]
  simp only [State.regAccess, e, s.regDead_open n o true hn ho h, dieOfOfs_ch n o ho, h3, State.regWrite,
    blockOfs_ch n o ho, if_pos hn, hc, State.onCh_eq s n _ hn, State.regAnswer]
  simp

/-- A host write of a register of the phase modulator that no rule has the gateway count. -/
theorem State.chWrite_pwm (s : State) (n o : Nat) (w : Word) (hn : n < 4) (h : s.hostOpen n = true)
    (h1 : 0x100 ≤ o) (h2 : o < 0x200) (h4 : o % 4 = 0) (hr : ((s.ch n).pwm.r.read o).isSome = true) :
    s.chWrite n o w = s.withCh n ((s.ch n).pwmWrite s.env o w) := by
  have e : (s.ch n).regWrite s.env o w = ((s.ch n).pwmWrite s.env o w, false) := by
    have c1 : chCmdRegs.contains o = false := by
      simp [chCmdRegs]; omega
    have c2 : chSealedRegs.contains o = false := by
      simp [chSealedRegs]; omega
    have a1 : ¬ o < 0x100 := by omega
    have a3 : (s.ch n).regPeek o = (s.ch n).pwm.r.read o := by
      simp only [Chan.regPeek]
      rw [if_neg a1, if_pos h2]
    simp only [Chan.regWrite, c1, c2, a3, Option.isNone_iff_eq_none, Bool.false_and, Bool.false_or]
    rw [if_neg, if_neg a1, if_pos h2]
    simp [Option.isSome_iff_ne_none.1 hr]
  rw [s.chWrite_open n o w hn (by omega) h4 h (by rw [e]), e]

/-- A descriptor that its die takes is executed there, and the operation's answer completes it. -/
theorem State.descRow_takes (s : State) (die op : Nat) (d : Desc) (hop : d.opcode = op) (h : s.takes die d = true) :
    s.descRow op d = State.answer ((s.taken die d).descOp die d (s.refOf die d)) (s.refOf die d) := by
  simp only [State.takes, Bool.and_eq_true, decide_eq_true_eq] at h
  obtain ⟨⟨⟨h1, h2⟩, h3⟩, h4⟩ := h
  cases hr : opRow d.opcode with
  | none => simp [hr] at h4
  | some row =>
    simp only [hr, Bool.and_eq_true, Bool.or_eq_true, Bool.not_eq_true', Option.isNone_iff_eq_none] at h4
    have hb : ¬ s.hub.run < 2 := by omega
    simp only [State.descRow, if_pos hop, State.deliver, h1, State.descAt, if_neg hb, h3, State.descRun, hr, h4.1,
      Bool.not_true, Bool.false_eq_true, if_false, State.taken, State.refOf, Option.any_some]
    rcases h4.2 with hc | hc
    · simp [hc]
    · by_cases hcr : row.critical = true
      · simp [hcr, hc]
      · simp [hcr]

/-- The channels of a state in which a counter was stored are those of before, but for the key store of the die. -/
theorem State.taken_plain (s : State) (die : Nat) (d : Desc) (h : (opRow d.opcode).any (fun row => row.critical) = false) :
    s.taken die d = s := by
  simp [State.taken, h]

end Sys2Proof.Machine
end

