-- ==== Sys2Proof/Laws/State.lean ====
section
/-! SUPPORT. Sys2Proof/Laws/State.lean: the fields of the state after each shared update, and what the operations that send
something leave unchanged. -/

namespace Sys2Proof.Machine

@[simp] theorem State.popped_now (s : State) : (s.popped).now = s.now := rfl
@[simp] theorem State.popped_chans (s : State) : (s.popped).chans = s.chans := rfl
@[simp] theorem State.popped_hub (s : State) : (s.popped).hub = s.hub := rfl
@[simp] theorem State.popped_pwr (s : State) : (s.popped).pwr = s.pwr := rfl
@[simp] theorem State.popped_xfers (s : State) : (s.popped).xfers = s.xfers := rfl
@[simp] theorem State.popped_out (s : State) : (s.popped).out = s.out := rfl
@[simp] theorem State.popped_pending (s : State) : (s.popped).pending = s.pending.tail := rfl

@[simp] theorem State.withFront_now (s : State) (c : Instr) : (s.withFront c).now = s.now := rfl
@[simp] theorem State.withFront_chans (s : State) (c : Instr) : (s.withFront c).chans = s.chans := rfl
@[simp] theorem State.withFront_hub (s : State) (c : Instr) : (s.withFront c).hub = s.hub := rfl
@[simp] theorem State.withFront_pwr (s : State) (c : Instr) : (s.withFront c).pwr = s.pwr := rfl
@[simp] theorem State.withFront_xfers (s : State) (c : Instr) : (s.withFront c).xfers = s.xfers := rfl
@[simp] theorem State.withFront_out (s : State) (c : Instr) : (s.withFront c).out = s.out := rfl
@[simp] theorem State.withFront_pending (s : State) (c : Instr) : (s.withFront c).pending = c :: s.pending := rfl

@[simp] theorem State.idle_now (s : State) : (s.idle).now = s.now + 1 := rfl
@[simp] theorem State.idle_chans (s : State) : (s.idle).chans = s.chans := rfl
@[simp] theorem State.idle_hub (s : State) : (s.idle).hub = s.hub := rfl
@[simp] theorem State.idle_pwr (s : State) : (s.idle).pwr = s.pwr := rfl
@[simp] theorem State.idle_xfers (s : State) : (s.idle).xfers = s.xfers := rfl
@[simp] theorem State.idle_out (s : State) : (s.idle).out = s.out := rfl
@[simp] theorem State.idle_pending (s : State) : (s.idle).pending = s.pending := rfl

@[simp] theorem State.setCh_now (s : State) (n : Nat) (k : Chan) : (s.setCh n k).now = s.now := rfl
@[simp] theorem State.setCh_chans (s : State) (n : Nat) (k : Chan) : (s.setCh n k).chans = vset s.chans n k := rfl
@[simp] theorem State.setCh_hub (s : State) (n : Nat) (k : Chan) : (s.setCh n k).hub = s.hub := rfl
@[simp] theorem State.setCh_pwr (s : State) (n : Nat) (k : Chan) : (s.setCh n k).pwr = s.pwr := rfl
@[simp] theorem State.setCh_xfers (s : State) (n : Nat) (k : Chan) : (s.setCh n k).xfers = s.xfers := rfl
@[simp] theorem State.setCh_out (s : State) (n : Nat) (k : Chan) : (s.setCh n k).out = s.out := rfl
@[simp] theorem State.setCh_pending (s : State) (n : Nat) (k : Chan) : (s.setCh n k).pending = s.pending := rfl

@[simp] theorem State.hubJr_now (s : State) (ev : JEv) (data : List Int) (safe : Bool) : (s.hubJr ev data safe).now = s.now := rfl
@[simp] theorem State.hubJr_chans (s : State) (ev : JEv) (data : List Int) (safe : Bool) : (s.hubJr ev data safe).chans = s.chans := rfl
@[simp] theorem State.hubJr_pwr (s : State) (ev : JEv) (data : List Int) (safe : Bool) : (s.hubJr ev data safe).pwr = s.pwr := rfl
@[simp] theorem State.hubJr_xfers (s : State) (ev : JEv) (data : List Int) (safe : Bool) : (s.hubJr ev data safe).xfers = s.xfers := rfl
@[simp] theorem State.hubJr_out (s : State) (ev : JEv) (data : List Int) (safe : Bool) : (s.hubJr ev data safe).out = s.out := rfl
@[simp] theorem State.hubJr_pending (s : State) (ev : JEv) (data : List Int) (safe : Bool) : (s.hubJr ev data safe).pending = s.pending := rfl

/-- A channel read after it was replaced. -/
@[simp] theorem State.ch_setCh_same (s : State) (n : Nat) (k : Chan) (h : n < 4) : (s.setCh n k).ch n = k := by
  simp [State.ch, State.setCh, vget, vset, h]

/-- Another channel is as before. -/
@[simp] theorem State.ch_setCh_other (s : State) (n m : Nat) (k : Chan) (h : m ≠ n) : (s.setCh n k).ch m = s.ch m := by
  simp [State.ch, State.setCh, vget, vset, Ne.symm h]

/-- Taking the command back from the front of the queue gives the state before. -/
@[simp] theorem State.popped_withFront (s : State) (c : Instr) : (s.withFront c).popped = s := rfl

/-- A step with a command in front runs it on the state with the rest of the queue. -/
theorem step_withFront (s : State) (c : Instr) : step (s.withFront c) = exec c s := rfl

/-- A frame originated changes the hub alone. -/
theorem State.originate_frame (s : State) (t : FType) (dst : Option Nat) (ws : List Word) :
    (s.originate t dst ws).now = s.now ∧ (s.originate t dst ws).chans = s.chans ∧ (s.originate t dst ws).pwr = s.pwr ∧ (s.originate t dst ws).xfers = s.xfers ∧ (s.originate t dst ws).pending = s.pending ∧ (s.originate t dst ws).out = s.out := by
  unfold State.originate; split <;> simp

/-- A completion changes the hub alone. -/
theorem State.complete_frame (s : State) (c : Compl) :
    (s.complete c).now = s.now ∧ (s.complete c).chans = s.chans ∧ (s.complete c).pwr = s.pwr ∧ (s.complete c).xfers = s.xfers ∧ (s.complete c).pending = s.pending ∧ (s.complete c).out = s.out := by
  unfold State.complete; split
  · simp
  · exact s.originate_frame _ _ _

/-- A journal entry changes the hub alone. -/
theorem State.jTake_frame (s : State) (n : Nat) (x : JEntry) :
    (s.jTake n x).now = s.now ∧ (s.jTake n x).chans = s.chans ∧ (s.jTake n x).pwr = s.pwr ∧ (s.jTake n x).xfers = s.xfers ∧ (s.jTake n x).pending = s.pending ∧ (s.jTake n x).out = s.out := by
  unfold State.jTake; split <;> simp

/-- Attention changes the hub alone. -/
theorem State.attention_frame (s : State) (w : Word) :
    (s.attention w).now = s.now ∧ (s.attention w).chans = s.chans ∧ (s.attention w).pwr = s.pwr
    ∧ (s.attention w).xfers = s.xfers ∧ (s.attention w).pending = s.pending ∧ (s.attention w).out = s.out := by
  have go : ∀ (l : List Nat) (u : State),
      let r := l.foldl (fun (s : State) n => s.originate .compl (some n) [1, w]) u
      r.now = u.now ∧ r.chans = u.chans ∧ r.pwr = u.pwr ∧ r.xfers = u.xfers ∧ r.pending = u.pending ∧ r.out = u.out := by
    intro l
    induction l with
    | nil => intro u; simp
    | cons a r ih =>
      intro u
      have h1 := ih (u.originate .compl (some a) [1, w])
      have h2 := u.originate_frame .compl (some a) [1, w]
      simp only [List.foldl_cons]
      exact ⟨h1.1.trans h2.1, h1.2.1.trans h2.2.1, h1.2.2.1.trans h2.2.2.1, h1.2.2.2.1.trans h2.2.2.2.1,
        h1.2.2.2.2.1.trans h2.2.2.2.2.1, h1.2.2.2.2.2.trans h2.2.2.2.2.2⟩
  unfold State.attention
  split
  · simp
  · by_cases hg : s.hub.gw.role = true
    · simp only [hg, if_true]
      exact go _ _
    · simp only [hg]
      exact go _ _

/-- What a channel emits changes the hub, and adds at most one thing to what the module has sent. -/
theorem State.emit_frame (s : State) (o : Out) :
    (s.emit o).now = s.now ∧ (s.emit o).chans = s.chans ∧ (s.emit o).pwr = s.pwr ∧ (s.emit o).xfers = s.xfers
    ∧ (s.emit o).pending = s.pending ∧ s.out <+: (s.emit o).out := by
  have a (w : Word) := s.attention_frame w
  have f (t : FType) (dst : Option Nat) (ws : List Word) := s.originate_frame t dst ws
  unfold State.emit
  split <;> simp [a, f]

end Sys2Proof.Machine
end

