-- ==== Sys2Proof/Tests/Slice0.lean ====
section
/-! SUPPORT. Sys2Proof/Tests/Slice0.lean: the model's own tests: ill-formed commands that the check refuses, single commands with
results worked out by hand from the spec, and for the statements with hypotheses concrete states and operands that meet them. -/

namespace Sys2Proof.Tests

set_option Elab.async false

open Sys2Proof Sys2Proof.Machine

/-! ### Small states -/

/-- A key store in FIELD with a command key of zeros in KS4 that every group may use. -/
def keyed (k : Key) : Key :=
  { k with
    r := { k.r with lcStatus := { k.r.lcStatus with state := .field }, keySlotStatus := 0x100 }
    slots := vset k.slots 4 { val := [0, 0, 0, 0], groups := 0x1FF } }

/-- The module running as node 9: hub and Soles boot over, keys loaded, links to the Eyelets valid. -/
def up : State :=
  { State.reset with
    now := 1000000000000
    chans := Vector.ofFn (fun (i : Fin 4) =>
      let k := Chan.fresh i.val
      { k with
        key := keyed k.key
        core := { k.core with run := 2, r := { k.core.r with linkStatus := { ({} : ChLinkStatus) with eydLinkOk := true } } } })
    hub := { State.reset.hub with run := 2, key := keyed State.reset.hub.key, ring := { State.reset.hub.ring with nid := some 9 } } }

/-- A descriptor for channel 0 of node 9, or for its hub, with its payload words; counter 1 and KS4 where it is critical. -/
def desc (op : Nat) (hub crit : Bool) (ps : List Word) : Desc :=
  let w : List Word := [BitVec.ofNat 32 op ||| 0x10000, if hub then 9 else 0x124, 0, 0]
    ++ (List.range 8).map (fun i => ps.getD i 0) ++ (if crit then [1, 0x40000] else [0, 0])
  let d : Desc := { w := Vector.ofFn (fun (i : Fin 16) => w.getD i.val 0), gw := 9, rid := 0 }
  if crit then d.signed [0, 0, 0, 0] else d

/-- The key of zeros is sixteen bytes. -/
theorem zeros_bytes : IsBytes 16 (bytesOfWords [0, 0, 0, 0]) := ⟨by decide +kernel, by decide +kernel⟩

/-- A critical descriptor of the tests is taken where all but its tag allows it. -/
theorem takesC (s : State) (die : Nat) (op : Nat) (hub : Bool) (ps : List Word)
    (hk : (s.keyOf die).keyOf (decide (die = 4)) (desc op hub true ps).kslot = [0, 0, 0, 0])
    (h : s.takesBut die (desc op hub true ps) = true) : s.takes die (desc op hub true ps) = true := by
  refine s.takes_of die _ ?_ h
  rw [hk]
  exact Desc.tagOk_signed _ _ zeros_bytes

/-- The running module with channel 0 changed. -/
def at0 (f : Chan → Chan) : State := up.setCh 0 (f (up.ch 0))

/-- The running module with the phase modulator of channel 0 changed. -/
def atPwm (f : Pwm → Pwm) : State := at0 (fun k => { k with pwm := f k.pwm })

/-- The running module with its hub changed. -/
def atHub (f : Hub → Hub) : State := { up with hub := f up.hub }

/-! ### The phase modulator -/

/-- Four phases configured, P0 and P1 running. -/
def pRun (p : Pwm) : Pwm :=
  { p with
    r := { p.r with phaseCfg := 0xF, status := { p.r.status with state := .run }, tripCnt := 7 }
    ph := p.ph.mapFinIdx (fun i x _ => if i < 2 then { x with act := .on, per := 160000 } else x) }

/-- A modulator with four phases configured, in a state. -/
def pIn (st : PwmState) (p : Pwm) : Pwm := { p with r := { p.r with phaseCfg := 0xF, status := { p.r.status with state := st } } }

theorem witness_PwmRegisterCommands :
    up.hostOpen 0 = true ∧ up.hostOpen 3 = true
    ∧ (((atPwm (pIn .disabled)).ch 0).pwm.r.status.state = .disabled ∧ ((atPwm (pIn .disabled)).ch 0).pwm.check = true
      ∧ (atPwm (pIn .disabled)).hostOpen 0 = true)
    ∧ ((up.ch 0).pwm.r.status.state = .disabled ∧ (up.ch 0).pwm.check = false)
    ∧ (((atPwm (pIn .tripped)).ch 0).pwm.r.status.state = .tripped ∧ (atPwm (pIn .tripped)).hostOpen 0 = true)
    ∧ (((atPwm (pIn .ready)).ch 0).pwm.r.status.state = .ready
      ∧ (((atPwm (pIn .ready)).ch 0).pwm.ph.toList.all fun x => decide (x.act = .off)) = true)
    ∧ ((32000#32).extractLsb' 0 19).toNat = 32000 ∧ ((320000#32).extractLsb' 0 19).toNat = 320000
    ∧ ¬ (32000 ≤ ((31999#32).extractLsb' 0 19).toNat) ∧ (true ≠ (up.ch 0).pwm.r.ctrl.syncSrc) := by
  decide +kernel

theorem witness_PwmTrips :
    (atPwm pRun).soleUp 0 1 = true ∧ (atPwm pRun).hostOpen 0 = true
    ∧ 10 * ((atPwm pRun).ch 0).pwm.r.prot.gfltFilt.toNat < 10000 ∧ ((atPwm pRun).ch 0).pwm.groupEn 0 = true
    ∧ ((atPwm pRun).ch 0).pwm.r.status.state = .run
    ∧ 3 * ((atPwm pRun).ch 0).pwm.r.prot.ocpThr.toNat < 100000 ∧ 10 * ((atPwm pRun).ch 0).pwm.r.prot.ocpFilt.toNat < 100000
    ∧ ((at0 (fun k => { k with pwm := pRun k.pwm, shk.r.status.inhibit := true })).ch 0).shk.r.status.inhibit = true
    ∧ (at0 (fun k => { k with pwm := pRun k.pwm, shk.r.status.inhibit := true })).soleUp 0 1 = true
    ∧ ((at0 (fun k => { k with pwm := { pRun k.pwm with r.status.state := .tripped, gflt := 0, oc := false }, shk.r.status.inhibit := false })).ch 0).shk.r.status.inhibit = false
    ∧ ((at0 (fun k => { k with pwm := { pRun k.pwm with r.status.state := .tripped }, shk.r.status.inhibit := false })).ch 0).pwm.gflt = 0 := by
  decide +kernel

/-- The running modulator with MODE, demand current and dwell stamps. -/
def pShed (m : BitVec 2) (iDem : Rat) (up dn : Option Nat) : State :=
  atPwm (fun p => let p := pRun p; { p with r.shedCfg.mode := m, iDem := iDem, upSince := up, dnSince := dn, thrMap := Vector.replicate 25 (some 500) })

theorem witness_PwmCarrierAndShedding :
    (atPwm pRun).soleUp 0 1 = true ∧ ((atPwm pRun).ch 0).pwm.r.status.state = .run ∧ (((atPwm pRun).ch 0).pwm.phase 0).act = .on
    ∧ ((pShed 1 10000 (some 0) none).ch 0).pwm.fading = false ∧ ((pShed 1 10000 (some 0) none).ch 0).pwm.slewing = false
    ∧ ((pShed 1 10000 (some 0) none).ch 0).pwm.addCond (((pShed 1 10000 (some 0) none).ch 0).pwm.mode ((pShed 1 10000 (some 0) none).ch 0).auto) = true
    ∧ ((pShed 1 10000 (some 0) none).ch 0).pwm.shedSet ≠ []
    ∧ 0 + msNs ((pShed 1 10000 (some 0) none).ch 0).pwm.r.shedTime.dwellUp.toNat ≤ (pShed 1 10000 (some 0) none).now
    ∧ ((pShed 2 0 none (some 0)).ch 0).pwm.shedCond (((pShed 2 0 none (some 0)).ch 0).pwm.mode ((pShed 2 0 none (some 0)).ch 0).auto) = true
    ∧ ((pShed 2 0 none (some 0)).ch 0).pwm.floorN < ((pShed 2 0 none (some 0)).ch 0).pwm.nKeep
    ∧ 0 + msNs (max 1 ((pShed 2 0 none (some 0)).ch 0).pwm.r.shedTime.dwellDn.toNat) ≤ (pShed 2 0 none (some 0)).now
    ∧ ((pShed 0 0 none none).ch 0).pwm.nAct < ((pShed 0 0 none none).ch 0).pwm.nEn
    ∧ ((pShed 2 0 none none).ch 0).pwm.mode ((pShed 2 0 none none).ch 0).auto = .map
    ∧ ((pShed 0 0 none none).ch 0).pwm.mode ((pShed 0 0 none none).ch 0).auto ≠ .map := by
  decide +kernel

/-- The modulator following edges, the last one `d` taps ago. -/
def pSync (d : Int) : State :=
  atPwm (fun p => let p := pRun p; { p with r.ctrl.syncSrc := true, psLast := some (up.env.taps - d) })

theorem witness_PwmTelemetryRetirementSync :
    crc8 [0, 0, 0, 0] ≠ (0x0100000000#40).extractLsb' 32 8 ∧ crc8 [0, 0, 0, 0] = (0#40).extractLsb' 32 8
    ∧ vget ((up.ch 0).pwm.gtSeq) 0 none ≠ some ((0#40).extractLsb' 20 8) ∧ (0#40).extractLsb' 2 2 = 0
    ∧ vget (((atPwm (fun p => { p with gtSeq := Vector.replicate 6 (some 0) })).ch 0).pwm.gtSeq) 5 none = some ((0#40).extractLsb' 20 8)
    ∧ (atPwm pRun).hostOpen 0 = true ∧ mbit ((atPwm pRun).ch 0).pwm.r.retire 0 = false ∧ mbit ((atPwm pRun).ch 0).pwm.cfg 0 = true
    ∧ 1 < ((atPwm pRun).ch 0).pwm.nEn ∧ (((atPwm pRun).ch 0).pwm.phase 0).act = .on
    ∧ ((atPwm (fun p => { pRun p with r.phaseCfg := 1 })).ch 0).pwm.nEn = 1
    ∧ mbit ((atPwm (fun p => { pIn .disabled p with r.retire := 1 })).ch 0).pwm.r.retire 0 = true
    ∧ ((atPwm (fun p => { pIn .run p with r.retire := 1 })).ch 0).pwm.r.status.state ≠ .ready
    ∧ ((pSync 160000).ch 0).pwm.r.ctrl.syncSrc = true ∧ true ≠ ((pSync 160000).ch 0).pwm.r.sync.extPol
    ∧ ((pSync 163200).env.taps - (up.env.taps - 163200) - ((pSync 163200).ch 0).pwm.r.period.toNat).natAbs * 100
        ≤ 2 * ((pSync 163200).ch 0).pwm.r.period.toNat
    ∧ 3 * (((pSync 240000).ch 0).pwm.r.period.toNat : Int) ≤ 2 * ((pSync 240000).env.taps - (up.env.taps - 240000)) := by
  decide +kernel
/-! ### The loop engine -/

/-- The running module with the loop engine of channel 0 changed. -/
def atLoop (f : Loop → Loop) : State := at0 (fun k => { k with loop := f k.loop })

/-- The loop engine of channel 0 in a state, entered at time 0. -/
def lIn (st : LoopState) (l : Loop) : Loop := { l with r := { l.r with status := { l.r.status with state := st } } }

/-- Channel 0 about to leave ON_DLY, with a permit or without. -/
def onDue (permit : Bool) : State :=
  at0 (fun k => { k with
    loop := lIn .ondly k.loop
    pwm := pIn .ready k.pwm
    shk := { k.shk with r := { k.shk.r with status := { k.shk.r.status with permit := permit } } } })

theorem witness_LoopTicksAndDelays :
    (atLoop (lIn .cv)).soleUp 0 0 = true
    ∧ ((atLoop (lIn .cv)).ch 0).loop.r.status.state.running = true
    ∧ (up.ch 0).loop.r.status.state.running = false
    ∧ (up.ch 0).loop.swap = none
    ∧ (up.ch 0).grant.r.state.state ≠ .hold
    ∧ ((atLoop (fun l => { lIn .cc l with tick := 1 + max 1 l.r.tick.m.toNat })).ch 0).loop.sampleDue = true
    ∧ (up.ch 0).loop.sampleDue = false
    ∧ ((onDue true).ch 0).loop.r.status.state = .ondly
    ∧ ((onDue true).ch 0).loop.tState + msNs ((onDue true).ch 0).loop.r.delay.onDly.toNat ≤ (onDue true).now
    ∧ ((onDue true).ch 0).pwm.r.status.state = .ready
    ∧ ((onDue true).ch 0).shk.r.status.permit = true
    ∧ ((onDue true).ch 0).pwm.noTrip = true
    ∧ ((onDue true).ch 0).clk.inWindow = true
    ∧ ((onDue true).ch 0).eyLink = true
    ∧ ((onDue false).ch 0).shk.r.status.permit = false
    ∧ ((atLoop (lIn .offdly)).ch 0).loop.tState + msNs ((atLoop (lIn .offdly)).ch 0).loop.r.delay.offDly.toNat ≤ up.now
    ∧ ((atLoop (lIn .stopr)).ch 0).loop.tState + msNs ((atLoop (lIn .stopr)).ch 0).loop.r.stopcfg.stopTmo.toNat ≤ up.now := by
  refine ⟨?_, ?_, ?_, ?_, ?_, ?_, ?_, ?_, ?_, ?_, ?_, ?_, ?_, ?_, ?_, ?_, ?_⟩ <;> decide +kernel
/-- A bank with two sections whose check value is stored. -/
def goodBank : Bank :=
  let ws : Vector (BitVec 32) 41 := (Vector.replicate 41 0).set 0 2
  { words := ws, stWords := ws, stCrc := bankCrc ws }

/-- Banks B of both loops sealed with good contents; banks A in use and sealed. -/
def lBanks (l : Loop) : Loop :=
  { l with
    bankIn := Vector.replicate 3 goodBank, bankOut := Vector.replicate 3 goodBank
    r := { l.r with bankStatus := { l.r.bankStatus with inOk := 7, outOk := 7 }, bankCrc := bankCrc goodBank.words } }

/-- The banks of `lBanks` and a selection in LOOP_CSEL: bank B of the inner loop, word 40. -/
def sBanks : State := atLoop (fun l => { lBanks l with r.csel := { bank := 1, word := 40, loop := false } })

theorem goodBank_ok : bankGood goodBank = true := by
  have h : word0Ok goodBank.words = true := by decide +kernel
  simp only [bankGood, h, Bool.true_and, decide_eq_true_eq]
  rfl

theorem bank_sBanks (o : Bool) (i : Nat) (h : i < 3) : (sBanks.ch 0).loop.bank o i = goodBank := by
  have e : (sBanks.ch 0).loop.bankIn = Vector.replicate 3 goodBank ∧ (sBanks.ch 0).loop.bankOut = Vector.replicate 3 goodBank := ⟨rfl, rfl⟩
  cases o <;> simp [Loop.bank, e.1, e.2, vget, h]

theorem word_ne_succ (x : Word) : x ≠ x + 1 := by
  intro h
  have h2 : x + 0 = x + 1 := by simpa using h
  simp at h2

theorem witness_LoopBanks :
    up.takes 0 (desc 0x0201 false false [0x60123, 1, 2, 3, 4, 5, 6]) = true
    ∧ (desc 0x0201 false false [0x60123, 1, 2, 3, 4, 5, 6]).onlyBits [0xF133F, 0xFFFFFFFF, 0xFFFFFFFF, 0xFFFFFFFF, 0xFFFFFFFF, 0xFFFFFFFF, 0xFFFFFFFF] = true
    ∧ up.takes 0 (desc 0x0201 false false [0x10000, 1]) = true
    ∧ (desc 0x0201 false false [0x60123]).fld 0 0 6 + (desc 0x0201 false false [0x60123]).fld 0 16 4 = 41
    ∧ (up.ch 0).loop.isActive false 1 = false
    ∧ (up.ch 0).loop.isActive false 0 = true
    ∧ (up.ch 0).loop.isActive true 2 = false
    ∧ (up.ch 0).loop.r.status.state = .idle
    ∧ sBanks.takes 0 (desc 0x0202 false false [0x100, bankCrc goodBank.words]) = true
    ∧ (desc 0x0202 false false [0x100]).onlyBits [0x1300, 0xFFFFFFFF] = true
    ∧ word0Ok ((sBanks.ch 0).loop.bank false 1).words = true
    ∧ bankCrc ((sBanks.ch 0).loop.bank false 1).words = (desc 0x0202 false false [0x100, bankCrc goodBank.words]).pay 1
    ∧ bankCrc ((sBanks.ch 0).loop.bank false 1).words ≠ (desc 0x0202 false false [0x100, bankCrc goodBank.words + 1]).pay 1
    ∧ sBanks.hostOpen 0 = true
    ∧ bankCrc ((sBanks.ch 0).loop.bank false 1).words = (sBanks.ch 0).loop.r.bankCrc
    ∧ (sBanks.ch 0).loop.isActive (sBanks.ch 0).loop.r.csel.loop (sBanks.ch 0).loop.r.csel.bank.toNat = false
    ∧ sBanks.takes 0 (desc 0x0203 false true [3]) = true
    ∧ (desc 0x0203 false true [3]).onlyBits [0x13] = true
    ∧ up.takes 0 (desc 0x0203 false true [1]) = true
    ∧ (sBanks.ch 0).loop.swap = none
    ∧ (sBanks.ch 0).loop.bankOk false 1 = true
    ∧ bankGood ((sBanks.ch 0).loop.bank true 1) = true
    ∧ (up.ch 0).loop.bankOk false 1 = false :=
  ⟨by decide +kernel,
   by decide +kernel,
   by decide +kernel,
   by decide +kernel,
   by decide +kernel,
   by decide +kernel,
   by decide +kernel,
   by decide +kernel,
   by decide +kernel,
   by decide +kernel,
   by decide +kernel,
   by rw [bank_sBanks _ _ (by decide)]; rfl,
   by rw [bank_sBanks _ _ (by decide)]; exact word_ne_succ _,
   by decide +kernel,
   by rw [bank_sBanks _ _ (by decide)]; rfl,
   by decide +kernel,
   takesC _ _ _ _ _ (by decide +kernel) (by decide +kernel),
   by decide +kernel,
   takesC _ _ _ _ _ (by decide +kernel) (by decide +kernel),
   by decide +kernel,
   by decide +kernel,
   by rw [bank_sBanks _ _ (by decide)]; exact goodBank_ok,
   by decide +kernel⟩
/-- Channel 0 ready for a start in CC: banks sealed, limits set. -/
def startable : State :=
  at0 (fun k =>
    let l := lBanks k.loop
    { k with
      pwm := pIn .ready k.pwm
      shk := { k.shk with r := { k.shk.r with status := { k.shk.r.status with permit := true } } }
      loop := { l with r := { l.r with
        ctrl := { l.r.ctrl with spSrc := true }, vrefLim := { vrefMax := 12500, vrefMin := 0 }
        ilimHost := { ilimExp := 0, ilimImp := 1000 } } } })

/-- A loop whose shutdown is latched while the hottest sensor reads t. -/
def otAt (t : Int) : State := atLoop (fun l => { l with r := { l.r with status := { l.r.status with otSd := true } }, tMax := some t })

/-- A loop in fallback, its tests passed since a time. -/
def fbAt (since : Option Nat) : State :=
  atLoop (fun l => { l with r := { l.r with status := { l.r.status with fb := true } }, passSince := since })

theorem witness_LoopDescriptors :
    startable.takes 0 (desc 0x0204 false true [1, 0x3E81F40]) = true
    ∧ (desc 0x0204 false true [1, 0x3E81F40]).onlyBits [0x1, 0xFFFFFFFF] = true
    ∧ (desc 0x0204 false true [1, 0x3E81F40]).bit 0 0 = true
    ∧ (startable.ch 0).startOk true = true
    ∧ (startable.ch 0).loop.r.ctrl.spSrc = true
    ∧ (up.ch 0).startOk true = false
    ∧ (up.ch 0).loop.r.ctrl.spSrc = false
    ∧ ((atLoop (fun l => { l with r.ctrl.spSrc := true })).ch 0).startOk false = false
    ∧ (atLoop (lIn .ondly)).takes 0 (desc 0x0205 false false []) = true
    ∧ (desc 0x0205 false false []).onlyBits [] = true
    ∧ (atLoop (lIn .cv)).takes 0 (desc 0x0205 false false []) = true
    ∧ up.takes 0 (desc 0x0205 false false []) = true
    ∧ (atLoop (lIn .fault)).takes 0 (desc 0x0208 false true [1]) = true
    ∧ (desc 0x0208 false true [1]).onlyBits [1] = true
    ∧ (desc 0x0208 false true [1]).bit 0 0 = true
    ∧ ((atLoop (lIn .fault)).ch 0).pwm.noTrip = true
    ∧ ((at0 (fun k => { k with loop := lIn .fault k.loop, pwm.r.trip.ocp := true })).ch 0).pwm.noTrip = false
    ∧ (otAt 0).takes 0 (desc 0x0208 false true [2]) = true
    ∧ (desc 0x0208 false true [2]).onlyBits [2] = true
    ∧ (desc 0x0208 false true [2]).bit 0 1 = true
    ∧ (otAt 0).takes 0 (desc 0x0208 false true [4]) = true
    ∧ (desc 0x0208 false true [4]).onlyBits [4] = true
    ∧ (desc 0x0208 false true [4]).bit 0 2 = true
    ∧ ((otAt 0).hub.pm.die 0).tjSd = false
    ∧ 0 < ((otAt 0).ch 0).loop.r.otCfg1.tSd.toInt - ((otAt 0).ch 0).loop.r.otCfg3.sdHyst.toNat
    ∧ ((otAt 0).ch 0).loop.r.otCfg1.tSd.toInt - ((otAt 0).ch 0).loop.r.otCfg3.sdHyst.toNat ≤ 1100
    ∧ (atLoop (fun l => { lIn .cc l with r.ctrl.spSrc := true })).takes 0 (desc 0x0206 false true [3, 0x3E81F40]) = true
    ∧ (desc 0x0206 false true [3, 0x3E81F40]).onlyBits [0x3, 0xFFFFFFFF] = true
    ∧ up.takes 0 (desc 0x0207 false true [0x75307530, 0x320031FF]) = true
    ∧ (desc 0x0207 false true [0x75307530, 0x320031FF]).fld 0 16 16 = 30000
    ∧ (desc 0x0207 false true [0x75307530, 0x320031FF]).fld 0 0 16 = 30000
    ∧ (desc 0x0207 false true [0x75307530, 0x320031FF]).fld 1 16 16 = 12800
    ∧ (desc 0x0207 false true [0x75307530, 0x320031FF]).fld 1 0 16 = 12799
    ∧ (desc 0x0207 false true [0x75307530, 0x320031FF]).onlyBits [0xFFFFFFFF, 0xFFFFFFFF] = true
    ∧ 12800 < (desc 0x0207 false false [0, 0x32010000]).fld 1 16 16
    ∧ (fbAt (some 0)).takes 0 (desc 0x0209 false true []) = true
    ∧ (desc 0x0209 false true []).onlyBits [] = true
    ∧ 0 + sNs 1 ≤ (fbAt (some 0)).now
    ∧ ((fbAt none).ch 0).loop.passSince = none
    ∧ (up.ch 0).loop.r.status.fb = false :=
  ⟨takesC _ _ _ _ _ (by decide +kernel) (by decide +kernel),
   by decide +kernel,
   by decide +kernel,
   by decide +kernel,
   by decide +kernel,
   by decide +kernel,
   by decide +kernel,
   by decide +kernel,
   by decide +kernel,
   by decide +kernel,
   by decide +kernel,
   by decide +kernel,
   takesC _ _ _ _ _ (by decide +kernel) (by decide +kernel),
   by decide +kernel,
   by decide +kernel,
   by decide +kernel,
   by decide +kernel,
   takesC _ _ _ _ _ (by decide +kernel) (by decide +kernel),
   by decide +kernel,
   by decide +kernel,
   takesC _ _ _ _ _ (by decide +kernel) (by decide +kernel),
   by decide +kernel,
   by decide +kernel,
   by decide +kernel,
   by decide +kernel,
   by decide +kernel,
   takesC _ _ _ _ _ (by decide +kernel) (by decide +kernel),
   by decide +kernel,
   takesC _ _ _ _ _ (by decide +kernel) (by decide +kernel),
   by decide +kernel,
   by decide +kernel,
   by decide +kernel,
   by decide +kernel,
   by decide +kernel,
   by decide +kernel,
   takesC _ _ _ _ _ (by decide +kernel) (by decide +kernel),
   by decide +kernel,
   by decide +kernel,
   by decide +kernel,
   by decide +kernel⟩
theorem witness_LoopSupervision :
    up.soleUp 0 1 = true
    ∧ ((atLoop (fun l => { lBanks l with bankIn := Vector.replicate 3 {} })).ch 0).loop.bankOk false 2 = true
    ∧ bankGood (((atLoop (fun l => { lBanks l with bankIn := Vector.replicate 3 {} })).ch 0).loop.bank false 2) = false
    ∧ (∀ o : Bool, ∀ i, i < 3 → bankGood ((sBanks.ch 0).loop.bank o i) = true)
    ∧ ((fbAt none).ch 0).loop.r.status.fb = true
    ∧ ((fbAt none).ch 0).loop.r.status.fbLatch = false
    ∧ ((atLoop (fun l => { l with r.fbCfg.fbTmax := 1, r.status.fb := true })).ch 0).loop.tFb + sNs ((atLoop (fun l => { l with r.fbCfg.fbTmax := 1, r.status.fb := true })).ch 0).loop.r.fbCfg.fbTmax.toNat ≤ up.now
    ∧ ((at0 (fun k => { k with cool.r.status.state := .active })).ch 0).cool.working = true
    ∧ (up.ch 0).cool.working = false :=
  ⟨by decide +kernel,
   by decide +kernel,
   by decide +kernel,
   fun o i h => by rw [bank_sBanks o i h]; exact goodBank_ok,
   by decide +kernel,
   by decide +kernel,
   by decide +kernel,
   by decide +kernel,
   by decide +kernel⟩
/-! ### Metrology -/

/-- The running module with the metrology engine of channel 0 changed, its modulator clocks running. -/
def atMet (f : Met → Met) : State := at0 (fun k => { k with met := f { k.met with clkRun := true } })

/-- One stream of channel 0 changed. -/
def atStream (i : Nat) (f : StreamSt → StreamSt) : State := atMet (fun m => { m with st := vMod m.st i f })

/-- Legal calibration of channel 0 set, so that raw words give a power. -/
def legalCal : State := atMet (fun m => { m with r := { m.r with lcalVgain := 0x8000000, lcalIgain := 0x8000000 } })

theorem witness_MetrologyStreams :
    (atMet id).legalUp 0 1 = true
    ∧ ((atMet id).ch 0).met.running 0 = true
    ∧ ((atMet id).ch 0).met.running 11 = true
    ∧ (((atStream 11 (fun x => { x with flt := true })).ch 0).met.stream 11).flt = true
    ∧ ((atStream 11 (fun x => { x with flt := true })).ch 0).met.running 11 = true
    ∧ (((atMet id).ch 0).met.stream 3).flt = false
    ∧ (((atMet id).ch 0).met.stream 3).setF = 0
    ∧ 0 < (((atStream 3 (fun x => { x with setF := 1 })).ch 0).met.stream 3).setF
    ∧ (legalCal.ch 0).core.meterRole = false
    ∧ ((legalCal.ch 0).met.valid 8 && (legalCal.ch 0).met.valid 11) = true
    ∧ 0 < billed (legalVal (legalCal.ch 0).met.r.lcalVgain (legalCal.ch 0).met.r.lcalVofs 100000) (legalVal (legalCal.ch 0).met.r.lcalIgain (legalCal.ch 0).met.r.lcalIofs 100000) (legalCal.ch 0).met.r.rmcs.rMcs.toNat
    ∧ billed (legalVal (legalCal.ch 0).met.r.lcalVgain (legalCal.ch 0).met.r.lcalVofs 100000) (legalVal (legalCal.ch 0).met.r.lcalIgain (legalCal.ch 0).met.r.lcalIofs (-100000)) (legalCal.ch 0).met.r.rmcs.rMcs.toNat < 0
    ∧ (legalCal.ch 0).met.r.rmcs.iSt.toNat * 10 ≤ (legalVal (legalCal.ch 0).met.r.lcalIgain (legalCal.ch 0).met.r.lcalIofs 100000).natAbs
    ∧ ((up.ch 0).met.valid 8 && (up.ch 0).met.valid 11) = false
    ∧ ((atMet (fun m => { m with acBad := true })).ch 0).met.acBad = true
    ∧ ((atMet (fun m => { m with effBad := true })).ch 0).met.effBad = true := by
  refine ⟨?_, ?_, ?_, ?_, ?_, ?_, ?_, ?_, ?_, ?_, ?_, ?_, ?_, ?_, ?_, ?_⟩ <;> decide +kernel
theorem witness_MetrologyRegisters :
    up.hostOpen 0 = true
    ∧ up.hostOpen 3 = true
    ∧ ((atMet (fun m => { m with r.calSel := 11 })).ch 0).met.r.calSel.toNat < 12
    ∧ (1#32).getLsbD 0 = true
    ∧ (0x100#32).getLsbD 8 = true
    ∧ ((0x1D#32).extractLsb' 0 6).toNat < 0x1E
    ∧ ((0x28#32).extractLsb' 0 6).toNat ≤ 0x28
    ∧ 0x20 ≤ ((0x20#32).extractLsb' 0 6).toNat := by
  refine ⟨?_, ?_, ?_, ?_, ?_, ?_, ?_, ?_⟩ <;> decide +kernel
/-- The capture of channel 0 in a state, with trigger bits. -/
def atCap (st : CapState) (trig : BitVec 5) : State :=
  atMet (fun m => { m with r := { m.r with capStatus := { m.r.capStatus with state := st } }, capCfg := { m.capCfg with trig := trig } })

theorem witness_MetrologyCapture :
    up.takes 0 (desc 0x0401 false false []) = true
    ∧ (desc 0x0401 false false []).onlyBits [] = true
    ∧ (up.ch 0).met.r.capStatus.state ≠ .armed
    ∧ (up.ch 0).met.r.capStatus.state ≠ .post
    ∧ (atCap .armed 0).takes 0 (desc 0x0401 false false []) = true
    ∧ (atCap .armed 0x10).takes 0 (desc 0x0402 false false []) = true
    ∧ (desc 0x0402 false false []).onlyBits [] = true
    ∧ mbit ((atCap .armed 0x10).ch 0).met.capCfg.trig 4 = true
    ∧ mbit ((atCap .armed 0xF).ch 0).met.capCfg.trig 4 = false
    ∧ (atCap .done 0).takes 0 (desc 0x0403 false false [7, 0, 1]) = true
    ∧ (desc 0x0403 false false [7, 0, 1]).onlyBits [0x7, 0xFFFFFFFF, 0xFFFFFFFF] = true
    ∧ 1 ≤ ((desc 0x0403 false false [7, 0, 1]).pay 2).toNat
    ∧ 0 + 1 ≤ (((atCap .done 0).ch 0).met.capRecord (((atCap .done 0).gcid 0).getD 0)).length
    ∧ (atCap .done 0).xferOf ((desc 0x0403 false false [7, 0, 1]).fld 0 0 3) = none
    ∧ 2 ^ 20 < ((desc 0x0403 false false [7, 0, 0x100001]).pay 2).toNat
    ∧ up.takes 0 (desc 0x0404 false true [0xF]) = true
    ∧ (desc 0x0404 false true [0xF]).onlyBits [0xF] = true
    ∧ (up.ch 0).core.meterRole = false
    ∧ ((at0 (fun k => { k with core.meterRole := true })).ch 0).core.meterRole = true
    ∧ (atCap .armed 1).legalUp 0 1 = true
    ∧ mbit ((atCap .armed 1).ch 0).met.capCfg.trig 0 = true
    ∧ mbit ((atCap .armed 0x10).ch 0).met.capCfg.trig 4 = true
    ∧ mbit ((atCap .armed 0).ch 0).met.capCfg.trig 4 = false
    ∧ ((atCap .post 0).ch 0).met.capT + capPostNs ((atCap .post 0).ch 0).met.capCfg ≤ (atCap .post 0).env.site :=
  ⟨by decide +kernel,
   by decide +kernel,
   by decide +kernel,
   by decide +kernel,
   by decide +kernel,
   by decide +kernel,
   by decide +kernel,
   by decide +kernel,
   by decide +kernel,
   by decide +kernel,
   by decide +kernel,
   by decide +kernel,
   by decide +kernel,
   by decide +kernel,
   by decide +kernel,
   takesC _ _ _ _ _ (by decide +kernel) (by decide +kernel),
   by decide +kernel,
   by decide +kernel,
   by decide +kernel,
   by decide +kernel,
   by decide +kernel,
   by decide +kernel,
   by decide +kernel,
   by decide +kernel⟩
/-! ### Site power sharing -/

/-- The running module with the grant state of channel 0 changed. -/
def atGrant (f : Grant → Grant) : State := at0 (fun k => { k with grant := f k.grant })

/-- A grant state. -/
def gIn (st : GrantState) (g : Grant) : Grant := { g with r := { g.r with state := { g.r.state with state := st } } }

/-- A grant record that node 5 issued for epoch 7. -/
def rec7 : GrantRec := { nid := 5, gen := 1, epoch := 7, imp := 100, exp := 0, floor := 10, nRec := 4, theta := 0, at_ := 0 }

/-- The header of an epoch 7 from node 5, generation 1, and a record for GCID 36. -/
def msg7 : GrantMsg := GrantMsg.ofWords 7 0x10005 10 100 0x24000000 0x400000A 0

theorem witness_GrantsAtAChannel :
    up.soleUp 0 1 = true
    ∧ up.nid = some 9
    ∧ (up.ch 0).core.meterRole = false
    ∧ (up.ch 0).grant.valid (4 * 9 + 0) msg7 = true
    ∧ (up.ch 0).grant.hi = none
    ∧ (up.ch 1).grant.valid (4 * 9 + 1) msg7 = false
    ∧ ((atGrant (gIn .granted)).ch 0).grant.r.state.state = .granted
    ∧ 2 * ((atGrant (gIn .granted)).ch 0).grant.tValid + 3 * ((atGrant (gIn .granted)).ch 0).grant.eLen ≤ 2 * up.now
    ∧ (up.ch 0).grant.r.state.state ≠ .granted
    ∧ ((atGrant (gIn .hold)).ch 0).grant.tValid + ((atGrant (gIn .hold)).ch 0).grant.holdNs ≤ up.now
    ∧ ((atGrant (fun g => { g with lo := some rec7, hi := some { rec7 with nid := 6, gen := 2 } })).ch 0).grant.lo = some rec7
    ∧ rec7.at_ + 2 * ((atGrant (fun g => { g with lo := some rec7, hi := some { rec7 with nid := 6, gen := 2 } })).ch 0).grant.eLen ≤ up.now
    ∧ (up.ch 0).grant.lo = none
    ∧ ((up.ch 0).grant.r.imp.toNat : Int) < ((atMet (fun m => { m with msRes := Vector.replicate 9 { val := 1000, ok := true } })).ch 0).pIn
    ∧ (up.ch 0).pIn ≤ ((up.ch 0).grant.r.imp.toNat : Int)
    ∧ (up.ch 0).grant.etaRed = none
    ∧ ((atGrant (fun g => { g with hi := some rec7 })).ch 0).grant.hi = some rec7
    ∧ rec7.nid ≠ 9
    ∧ ((atGrant (fun g => { g with hi := some { rec7 with nid := 9 } })).ch 0).grant.hi = some { rec7 with nid := 9 }
    ∧ (vget (atHub (fun h => { h with st := vMod h.st 0 (fun t => { t with hubLost := true }) })).hub.st 0 {}).hubLost = true
    ∧ (vget up.hub.st 0 {}).hubLost = false := by
  refine ⟨?_, ?_, ?_, ?_, ?_, ?_, ?_, ?_, ?_, ?_, ?_, ?_, ?_, ?_, ?_, ?_, ?_, ?_, ?_, ?_, ?_⟩ <;> decide +kernel
/-- The running module with an active engine. -/
def atEng (f : Eng → Eng) : State :=
  atHub (fun h => { h with eng := f { h.eng with pair := { h.eng.pair with r := { h.eng.pair.r with status := { h.eng.pair.r.status with role := .active, planOn := true } } } } })

/-- The active engine with one context. -/
def atCtx (c : Ctx) : State := atEng (fun e => { e with last := e.last.setCtx c })

theorem witness_LastEngineCommands :
    (atEng id).engUp = true
    ∧ (atEng id).hub.eng.active = true
    ∧ ((atCtx { gcid := 40, st := .ghost, tGhost := some 5 }).hub.eng.last.ctx 40).st = .ghost
    ∧ ((atCtx { gcid := 40, st := .ghost, tGhost := some 5 }).hub.eng.last.ctx 40).tGhost = some 5
    ∧ (List.replicate 34 (0 : Word)).length = 34
    ∧ up.hub.eng.active = false
    ∧ up.engUp = true
    ∧ (atEng id).pwr.tPf = none
    ∧ (atEng id).hub.eng.pair.swap = none
    ∧ (atEng id).hub.eng.last.eNew = none
    ∧ (atEng id).hub.eng.pair.r.status.planOn = true
    ∧ up.hub.eng.role = .none
    ∧ vget (atEng (fun e => { e with last := { e.last with curt := vset e.last.curt 8 (some { cap := 5, tEnd := some 6 }) } })).hub.eng.last.curt 8 none = some { cap := 5, tEnd := some 6 }
    ∧ (List.replicate 16 (0 : Word)).length = 16
    ∧ (up.hub.eng.last.pend.any (fun (c : CfgPend) => decide (c.words = List.replicate 16 0))) = false
    ∧ (atEng id).hostOpen 4 = true := by
  refine ⟨?_, ?_, ?_, ?_, ?_, ?_, ?_, ?_, ?_, ?_, ?_, ?_, ?_, ?_, ?_, ?_⟩ <;> decide +kernel
/-- An engine with a site cap and a feeder. -/
def withCaps (e : Eng) : Eng :=
  { e with last := { e.last with r := { e.last.r with siteCap := 1000, fdrCap := vset e.last.r.fdrCap 0 { en := true, imp := 1000 } } } }

theorem witness_PlannerConfiguration :
    (atEng id).hub.eng.overlap (atEng id).now = false
    ∧ (∀ x, x ∈ (atEng id).lctx.nodes → some x = (atEng id).nid)
    ∧ (atEng id).takes 4 (desc 0x0301 true true [1000, 0, 0]) = true
    ∧ (atEng id).hub.eng.last.cfgCheck up.now (desc 0x0301 true false [1000, 0, 0]) = none
    ∧ (atCtx { gcid := 40, st := .live, cfg := { conf := true, floor := 500 } }).takes 4 (desc 0x0301 true true [100, 0, 0]) = true
    ∧ ((atCtx { gcid := 40, st := .live, cfg := { conf := true, floor := 500 } }).hub.eng.last.cfgApply up.now false (desc 0x0301 true false [100, 0, 0]).w.toList).sumsOk = false
    ∧ (atEng id).takes 4 (desc 0x0302 true true [0x107, 1000, 0]) = true
    ∧ (atEng id).hub.eng.last.cfgCheck up.now (desc 0x0302 true false [0x107, 1000, 0]) = none
    ∧ (atEng id).takes 4 (desc 0x0303 true true [8, 50, 1000]) = true
    ∧ (desc 0x0303 true true [8, 50, 1000]).onlyBits [0x10F, 0xFFFFFF, 0xFFFFFFFF] = true
    ∧ (desc 0x0303 true true [8, 50, 1000]).fld 0 0 4 = 8
    ∧ (atEng id).takes 4 (desc 0x0303 true true [9, 50, 1000]) = true
    ∧ (desc 0x0303 true true [9, 50, 1000]).fld 0 0 4 = 9
    ∧ (atEng id).takes 4 (desc 0x0307 true true [0x81058000]) = true
    ∧ (desc 0x0307 true true [0x81058000]).onlyBits [0xBF7FFFFF] = true
    ∧ (desc 0x0307 true true [0x81058000]).fld 0 24 6 = 1
    ∧ (desc 0x0307 true true [0x81058000]).fld 0 16 7 = 5
    ∧ (desc 0x0307 true true [0x81058000]).fld 0 0 16 = 32768
    ∧ (atEng id).takes 4 (desc 0x0307 true true [0xA0647FFF]) = true
    ∧ (desc 0x0307 true true [0xA0647FFF]).fld 0 0 16 = 32767
    ∧ (desc 0x0307 true true [0xA0647FFF]).fld 0 24 6 = 32
    ∧ (desc 0x0307 true true [0xA0647FFF]).fld 0 16 7 = 100
    ∧ (atEng id).takes 0 (desc 0x0304 false true [0, 32, 30000, 32, 0, 32]) = true
    ∧ (atEng withCaps).hub.eng.last.cfgCheck up.now (desc 0x0304 false false [0, 32, 30000, 32, 0, 32]) = none
    ∧ (atCtx { gcid := 36, st := .absent }).hub.eng.last.cfgCheck up.now (desc 0x0304 false false [0x10000]) = none
    ∧ (atEng withCaps).takes 0 (desc 0x0304 false true [0, 32, 30000, 32, 0, 32]) = true
    ∧ (desc 0x0304 false true [0, 32, 30000, 32, 0, 32]).bit 0 16 = false
    ∧ (desc 0x0304 false true [0, 32, 30000, 32, 0, 32]).bit 0 20 = false
    ∧ (atCtx { gcid := 36, st := .live }).takes 0 (desc 0x0305 false true [7]) = true
    ∧ (desc 0x0305 false true [7]).onlyBits [7] = true
    ∧ (desc 0x0305 false true [7]).target = 36
    ∧ ((atCtx { gcid := 36, st := .live }).hub.eng.last.ctx 36).st = .live
    ∧ ((atEng id).hub.eng.last.ctx 36).st ≠ .live
    ∧ (atCtx { gcid := 37, st := .ghost }).takes 0 (desc 0x0306 false true []) = true
    ∧ (atCtx { gcid := 37, st := .ghost }).hub.eng.last.cfgCheck up.now (desc 0x0306 false false []) = none :=
  ⟨by decide +kernel,
   by decide +kernel,
   takesC _ _ _ _ _ (by decide +kernel) (by decide +kernel),
   by decide +kernel,
   takesC _ _ _ _ _ (by decide +kernel) (by decide +kernel),
   by decide +kernel,
   takesC _ _ _ _ _ (by decide +kernel) (by decide +kernel),
   by decide +kernel,
   takesC _ _ _ _ _ (by decide +kernel) (by decide +kernel),
   by decide +kernel,
   by decide +kernel,
   takesC _ _ _ _ _ (by decide +kernel) (by decide +kernel),
   by decide +kernel,
   takesC _ _ _ _ _ (by decide +kernel) (by decide +kernel),
   by decide +kernel,
   by decide +kernel,
   by decide +kernel,
   by decide +kernel,
   takesC _ _ _ _ _ (by decide +kernel) (by decide +kernel),
   by decide +kernel,
   by decide +kernel,
   by decide +kernel,
   takesC _ _ _ _ _ (by decide +kernel) (by decide +kernel),
   by decide +kernel,
   by decide +kernel,
   takesC _ _ _ _ _ (by decide +kernel) (by decide +kernel),
   by decide +kernel,
   by decide +kernel,
   takesC _ _ _ _ _ (by decide +kernel) (by decide +kernel),
   by decide +kernel,
   by decide +kernel,
   by decide +kernel,
   by decide +kernel,
   takesC _ _ _ _ _ (by decide +kernel) (by decide +kernel),
   by decide +kernel⟩
/-! ### The ledger -/

/-- Channel 0 in a life-cycle state, KS1 loaded, its ledger changed. -/
def atLedg (st : LcState) (f : Ledg → Ledg) : State :=
  at0 (fun k => { k with
    key := { k.key with r := { k.key.r with lcStatus := { k.key.r.lcStatus with state := st }, keySlotStatus := 0x104 } }
    ledg := f k.ledg })

/-- A sealed ledger. -/
def sealedL (l : Ledg) : Ledg := { l with r := { l.r with status := { l.r.status with sealed := true } } }

/-- PARAM_CRC of the unsealed partition of `atLedg` for version 0. -/
def crc0 : Word := ((atLedg .verify id).ch 0).paramCrc 0

theorem desc_pay (op : Nat) (hub : Bool) (a b : Word) : (desc op hub false [a, b]).pay 0 = a ∧ (desc op hub false [a, b]).pay 1 = b := by
  simp [desc, Desc.pay, Desc.word]

theorem crc0_eq : ((atLedg .verify id).ch 0).paramCrc 0 = crc0 := by unfold crc0; rfl

theorem witness_LedgerDescriptors :
    (atLedg .verify sealedL).takes 0 (desc 0x0405 false true [0, 0]) = true
    ∧ (desc 0x0405 false true [0, 0]).ledgerBits = true
    ∧ (atLedg .field id).takes 0 (desc 0x0405 false true [0, 0]) = true
    ∧ (atLedg .verify id).takes 0 (desc 0x0405 false true [0, 0]) = true
    ∧ (atLedg .service id).takes 0 (desc 0x0405 false true [crc0, 0]) = true
    ∧ ((atLedg .verify id).ch 0).ledg.sealing = false
    ∧ ((atLedg .verify sealedL).ch 0).ledg.r.status.sealed = true
    ∧ ((atLedg .verify id).ch 0).key.usable false 1 = true
    ∧ ((at0 (fun k => { k with key.r.lcStatus.state := .verify })).ch 0).key.usable false 1 = false
    ∧ (at0 (fun k => { k with key.r.lcStatus.state := .verify })).takes 0 (desc 0x0405 false true [0, 0]) = true
    ∧ (desc 0x0405 false false [0, 0]).pay 1 = ((atLedg .verify id).ch 0).ledg.r.lcodeVer
    ∧ ((atLedg .verify id).ch 0).paramCrc ((desc 0x0405 false false [crc0 + 1, 0]).pay 1) ≠ (desc 0x0405 false false [crc0 + 1, 0]).pay 0
    ∧ ((atLedg .verify id).ch 0).paramCrc ((desc 0x0405 false false [crc0, 0]).pay 1) = (desc 0x0405 false false [crc0, 0]).pay 0
    ∧ ((atLedg .verify id).ch 0).ledg.free ≠ 0
    ∧ (atLedg .field sealedL).takes 0 (desc 0x0406 false true [5]) = true
    ∧ (desc 0x0406 false true [5]).ledgerBits = true
    ∧ (atLedg .service sealedL).takes 0 (desc 0x0406 false true [5]) = true
    ∧ (atLedg .service id).takes 0 (desc 0x0406 false true [5]) = true
    ∧ ((atLedg .service sealedL).ch 0).ledg.opn = none
    ∧ ((atLedg .service sealedL).ch 0).loop.r.status.state = .idle
    ∧ ((atLedg .service (fun l => { sealedL l with opn := some { typ := 1 } })).ch 0).ledg.opn.isSome = true
    ∧ (atLedg .field (fun l => { l with r.seqNext := 2 })).takes 0 (desc 0x0407 false false [7, 1, 1]) = true
    ∧ (desc 0x0407 false false [7, 1, 1]).ledgerBits = true
    ∧ (desc 0x0407 false false [7, 1, 1]).fld 2 0 15 = 1
    ∧ (desc 0x0407 false false [7, 1, 1]).fld 0 0 3 = 7
    ∧ ((atLedg .field (fun l => { l with r.seqNext := 2 })).ch 0).ledg.r.seqAck.toNat < 1
    ∧ 1 + 1 ≤ ((atLedg .field (fun l => { l with r.seqNext := 2 })).ch 0).ledg.r.seqNext.toNat
    ∧ (atLedg .field (fun l => { l with r.seqNext := 2 })).xferOf 7 = none
    ∧ up.takes 0 (desc 0x0407 false false [0, 1, 0]) = true
    ∧ (desc 0x0407 false false [0, 1, 0]).fld 2 0 15 = 0
    ∧ (atLedg .field (fun l => { l with r.seqNext := 2, streamed := [(1, BitVec.allOnes 64)] })).takes 0 (desc 0x0408 false true [0, 1]) = true
    ∧ (desc 0x0408 false true [0, 1]).ledgerBits = true
    ∧ ((atLedg .field (fun l => { l with r.seqNext := 2, streamed := [(1, BitVec.allOnes 64)] })).ch 0).ledg.wasStreamed 1 = true
    ∧ ((atLedg .field (fun l => { l with r.seqNext := 2 })).ch 0).ledg.wasStreamed 1 = false
    ∧ (atLedg .field sealedL).takes 0 (desc 0x0409 false true [1, 4, 0]) = true
    ∧ (desc 0x0409 false true [1, 4, 0]).ledgerBits = true
    ∧ (atLedg .field id).takes 0 (desc 0x0409 false true [1, 983040, 0]) = true
    ∧ (desc 0x0409 false true [1, 983040, 0]).ledgerBits = true
    ∧ (atLedg .field id).takes 0 (desc 0x0409 false true [1, 3, 0]) = true
    ∧ ((desc 0x0409 false false [1, 983040, 0]).pay 1).toNat % 4 = 0
    ∧ (atLedg .field id).xferOf 1 = none :=
  ⟨takesC _ _ _ _ _ (by decide +kernel) (by decide +kernel),
   by decide +kernel,
   takesC _ _ _ _ _ (by decide +kernel) (by decide +kernel),
   takesC _ _ _ _ _ (by decide +kernel) (by decide +kernel),
   takesC _ _ _ _ _ (by decide +kernel) (by decide +kernel),
   by decide +kernel,
   by decide +kernel,
   by decide +kernel,
   by decide +kernel,
   takesC _ _ _ _ _ (by decide +kernel) (by decide +kernel),
   by decide +kernel,
   by rw [(desc_pay _ _ _ _).1, (desc_pay _ _ _ _).2, crc0_eq]; exact word_ne_succ crc0,
   by rw [(desc_pay _ _ _ _).1, (desc_pay _ _ _ _).2, crc0_eq],
   by decide +kernel,
   takesC _ _ _ _ _ (by decide +kernel) (by decide +kernel),
   by decide +kernel,
   takesC _ _ _ _ _ (by decide +kernel) (by decide +kernel),
   takesC _ _ _ _ _ (by decide +kernel) (by decide +kernel),
   by decide +kernel,
   by decide +kernel,
   by decide +kernel,
   by decide +kernel,
   by decide +kernel,
   by decide +kernel,
   by decide +kernel,
   by decide +kernel,
   by decide +kernel,
   by decide +kernel,
   by decide +kernel,
   by decide +kernel,
   takesC _ _ _ _ _ (by decide +kernel) (by decide +kernel),
   by decide +kernel,
   by decide +kernel,
   by decide +kernel,
   takesC _ _ _ _ _ (by decide +kernel) (by decide +kernel),
   by decide +kernel,
   takesC _ _ _ _ _ (by decide +kernel) (by decide +kernel),
   by decide +kernel,
   takesC _ _ _ _ _ (by decide +kernel) (by decide +kernel),
   by decide +kernel,
   by decide +kernel⟩
theorem witness_LedgerRecords :
    up.legalUp 0 2 = true
    ∧ ((atLedg .field (fun l => { l with pend := [{ typ := 1 }] })).ch 0).ledg.pend = [{ typ := 1 }]
    ∧ ((atLedg .field (fun l => { l with pend := [{ typ := 1 }], r.status.recErr := true })).ch 0).ledg.r.status.recErr = true
    ∧ ((atLedg .field (fun l => { l with pend := [{ typ := 3 }], r.seqNext := 16385 })).ch 0).ledg.free = 0
    ∧ ((atLedg .field (fun l => { l with pend := [{ typ := 3 }], r.seqNext := 16385 })).ch 0).ledg.pend = [{ typ := 3 }]
    ∧ (up.ch 0).ledg.r.status.recErr = false
    ∧ (up.ch 0).ledg.r.status.sealed = false
    ∧ ((at0 (fun k => { k with ledg := { sealedL k.ledg with overRun := 59 }, cool.r.status.ageValid := true, cool.trend := some 256000 })).ch 0).cool.estimate ≠ none
    ∧ 0 < ((((at0 (fun k => { k with ledg := sealedL k.ledg, cool.r.status.ageValid := true, cool.trend := some 256000 })).ch 0).cool.estimate.getD 0) - 0).natAbs
    ∧ (up.ch 0).met.r.rmcs.rMcs.toNat = 0 := by
  refine ⟨?_, ?_, ?_, ?_, ?_, ?_, ?_, ?_, ?_, ?_⟩ <;> decide +kernel
/-! ### The vehicle session -/

/-- Channel 0 with its session changed. -/
def atVeh (f : Veh → Veh) : State := at0 (fun k => { k with veh := f k.veh })

/-- The session in a state. -/
def vIn (st : VehState) (v : Veh) : Veh := { v with r := { v.r with status := { v.r.status with state := st, link := true } } }

/-- The module with site time. -/
def timed (s : State) : State := { s with hub := { s.hub with ring := { s.hub.ring with servo := { s.hub.ring.servo with st := .locked } } } }

/-- The module in a chain with node 3 as time master, without site time. -/
def noSite : State := atHub (fun h => { h with ring := { h.ring with east := { h.ring.east with st := .up }, master := some 3 } })

/-- The least certificate whose validity runs from 2025-01-01 to 2035-01-01. -/
def certDer : List Nat :=
  [0x30, 0x29, 0x30, 0x27, 2, 1, 1, 0x30, 0, 0x30, 0, 0x30, 0x1E, 0x17, 0x0D, 50, 53, 48, 49, 48, 49, 48, 48, 48, 48, 48, 48, 90,
   0x17, 0x0D, 51, 53, 48, 49, 48, 49, 48, 48, 48, 48, 48, 48, 90]

/-- A session with that certificate stored. -/
def vCert (v : Veh) : Veh := { v with certs := [(0, 0, 43, wordsOfBytes certDer)] }

theorem witness_SessionBegins :
    up.soleUp 0 1 = true
    ∧ (up.ch 0).veh.r.status.state ≠ .shutdown
    ∧ up.hostOpen 0 = true
    ∧ ((up.ch 0).veh.r.ctrl.write 0xFFFFFFFF).en = true
    ∧ (up.ch 0).veh.r.status.state = .off
    ∧ (up.ch 0).core.meterRole = false
    ∧ ((up.ch 0).veh.r.ctrl.write 0).en = false
    ∧ ((atVeh (vIn .transfer)).ch 0).veh.r.status.state.running = true
    ∧ ((atVeh (vIn .plugged)).ch 0).veh.r.status.link = true
    ∧ ((atVeh (vIn .plugged)).ch 0).vKept = false
    ∧ (up.ch 0).veh.r.status.link = false
    ∧ ((atVeh (vIn .setup)).ch 0).veh.r.status.state = .setup
    ∧ ((timed (atVeh (vIn .auth))).env.siteValid) = true
    ∧ ((atVeh (vIn .auth)).ch 0).veh.causeSet = false
    ∧ noSite.env.siteValid = false
    ∧ ((atVeh (vIn .auth)).ch 0).veh.tAuth + sNs (max 1 (min 55 ((atVeh (vIn .auth)).ch 0).veh.r.tmo2.authTmo.toNat)) ≤ up.now
    ∧ (((timed (atVeh vCert)).ch 0).veh.cert 0 0).bind (fun x => certEnd ((bytesOfWords x.2).take x.1)) = some 2051222400
    ∧ (timed (atVeh vCert)).env.siteValid = true := by
  refine ⟨?_, ?_, ?_, ?_, ?_, ?_, ?_, ?_, ?_, ?_, ?_, ?_, ?_, ?_, ?_, ?_, ?_, ?_⟩ <;> decide +kernel
/-- Channel 0 in a session state with limits of 1000 V, schedule answered and contactor class C. -/
def vReady (st : VehState) (v : Veh) : Veh :=
  { vIn st v with
    vMax := 1000, sched := true, tCc := some 0
    r := { (vIn st v).r with status := { (vIn st v).r.status with ce := .c }, ctrl := { v.r.ctrl with bptEn := true } } }

/-- Channel 0 in PRECHARGE at its voltage, with or without the conditions of the legal gate. -/
def precharged (gate : Bool) : State :=
  at0 (fun k => { k with
    veh := vReady .precharge k.veh
    loop := { k.loop with vTgt := 800, r := { k.loop.r with vrefLim := { vrefMax := 12500, vrefMin := 0 } } }
    key := { k.key with r := { k.key.r with keySlotStatus := 0x104 } }
    ledg := if gate then sealedL k.ledg else k.ledg
    met := { k.met with clkRun := true, msRes := Vector.replicate 9 { val := 800000, ok := true } } })

theorem witness_SessionTransfersPower :
    ((atVeh (vReady .discovery)).ch 0).veh.r.status.state = .discovery
    ∧ ((atVeh (vReady .discovery)).ch 0).veh.r.ctrl.bptEn = true
    ∧ ((atVeh (vIn .discovery)).ch 0).veh.r.ctrl.bptEn = false
    ∧ ((at0 (fun k => { k with veh := vReady .discovery k.veh, loop.r.vrefLim.vrefMax := 12500 })).ch 0).veh.sched = true
    ∧ 150 ≤ min ((at0 (fun k => { k with veh := vReady .discovery k.veh, loop.r.vrefLim.vrefMax := 1500 })).ch 0).veh.vMax (tenths ((at0 (fun k => { k with loop.r.vrefLim.vrefMax := 1500 })).ch 0).loop.r.vrefLim.vrefMax)
    ∧ min ((atVeh (vReady .discovery)).ch 0).veh.vMax (tenths (up.ch 0).loop.r.vrefLim.vrefMax) < 150
    ∧ held up.now ((atVeh (vReady .cableCheck)).ch 0).veh.tCc (msNs (100 * max 1 (min 100 ((atVeh (vReady .cableCheck)).ch 0).veh.r.tmo1.ccHold.toNat))) = true
    ∧ ((atVeh (vReady .cableCheck)).ch 0).veh.tState + sNs (max 5 (min 60 ((atVeh (vReady .cableCheck)).ch 0).veh.r.tmo1.ccTmo.toNat)) ≤ up.now
    ∧ ((atVeh (vReady .precharge)).ch 0).veh.tState + sNs (max 1 (min 30 ((atVeh (vReady .precharge)).ch 0).veh.r.tmo1.preTmo.toNat)) ≤ up.now
    ∧ ((precharged true).ch 0).legalGate = 0
    ∧ ((precharged true).ch 0).vNear (((precharged true).ch 0).msOk 4) ((precharged true).ch 0).loop.vTgt = true
    ∧ ((precharged false).ch 0).legalGate ≠ 0
    ∧ ((precharged true).ch 0).veh.r.status.state = .precharge
    ∧ (precharged true).soleUp 0 1 = true
    ∧ ((atVeh (vIn .paused)).ch 0).veh.r.status.state = .paused
    ∧ ((atVeh (vIn .transfer)).ch 0).veh.r.status.state = .transfer := by
  refine ⟨?_, ?_, ?_, ?_, ?_, ?_, ?_, ?_, ?_, ?_, ?_, ?_, ?_, ?_, ?_, ?_⟩ <;> decide +kernel
theorem witness_SessionEnds :
    ((atVeh (fun v => { vIn .shutdown v with fromRun := true, stopAns := true })).ch 0).veh.fromRun = true
    ∧ ((atVeh (fun v => { vIn .shutdown v with fromRun := true, stopAns := true })).ch 0).veh.stopAns = true
    ∧ ((atVeh (fun v => { vIn .shutdown v with fromRun := true, stopAns := true })).ch 0).veh.r.status.state = .shutdown
    ∧ ((atVeh (vIn .transfer)).ch 0).veh.causeSet = false
    ∧ ((atVeh (vIn .transfer)).ch 0).veh.tReq + msNs (100 * max 5 (min 50 ((atVeh (vIn .transfer)).ch 0).veh.r.tmo2.clTmo.toNat)) ≤ up.now
    ∧ ((atVeh (fun v => { vIn .paused v with r.tmo2.pauseMax := 60 })).ch 0).veh.tState + sNs (max 1 (min 3600 60)) ≤ up.now
    ∧ ((atVeh (vIn .setup)).ch 0).veh.causeSet = false := by
  refine ⟨?_, ?_, ?_, ?_, ?_, ?_, ?_⟩ <;> decide +kernel
theorem witness_SessionDescriptors :
    (atVeh (vIn .auth)).takes 0 (desc 0x0101 false true [1, 2, 3, 4, 5, 6, 7, 8]) = true
    ∧ ((atVeh (vIn .auth)).ch 0).veh.authDone = false
    ∧ (at0 (fun k => { k with core.meterRole := true })).takes 0 (desc 0x0101 false true []) = true
    ∧ (atVeh (fun v => { vIn .auth v with authDone := true })).takes 0 (desc 0x0101 false true []) = true
    ∧ up.takes 0 (desc 0x0101 false true []) = true
    ∧ (atVeh (vIn .auth)).takes 0 (desc 0x0102 false true []) = true
    ∧ (desc 0x0102 false true []).onlyBits [] = true
    ∧ up.takes 0 (desc 0x0102 false true []) = true
    ∧ (atVeh (vIn .transfer)).takes 0 (desc 0x0103 false false []) = true
    ∧ (desc 0x0103 false false []).onlyBits [] = true
    ∧ (atVeh (vIn .paused)).takes 0 (desc 0x0103 false false []) = true
    ∧ up.takes 0 (desc 0x0103 false false []) = true
    ∧ up.takes 0 (desc 0x0104 false true [0x207, 0, 8192]) = true
    ∧ (desc 0x0104 false true [0x207, 0, 8192]).onlyBits [0x30F, 7, 0xFFFF] = true
    ∧ (desc 0x0104 false true [0x207, 0, 8192]).certRange = true
    ∧ (desc 0x0104 false true [0x207, 0, 8192]).fld 2 0 16 = 8192
    ∧ up.takes 0 (desc 0x0104 false true [0x208, 0, 8192]) = true
    ∧ (desc 0x0104 false true [0x208, 0, 8192]).certRange = false
    ∧ up.takes 0 (desc 0x0104 false true [0x002, 0, 0]) = true
    ∧ (desc 0x0104 false true [0x002, 0, 0]).certRange = true
    ∧ (atVeh (fun v => { v with certs := [(1, 0, 65530, [])] })).takes 0 (desc 0x0104 false true [0, 0, 7]) = true
    ∧ (desc 0x0104 false true [0, 0, 7]).certRange = true
    ∧ 65536 < ((atVeh (fun v => { v with certs := [(1, 0, 65530, [])] })).ch 0).veh.certBytes 0 0 + 7
    ∧ up.xferOf 0 = none
    ∧ up.takes 0 (desc 0x0105 false true [1]) = true
    ∧ (desc 0x0105 false true [1]).onlyBits [1] = true
    ∧ (at0 (fun k => { k with core.meterRole := true })).takes 0 (desc 0x0105 false true [0]) = true :=
  ⟨takesC _ _ _ _ _ (by decide +kernel) (by decide +kernel),
   by decide +kernel,
   takesC _ _ _ _ _ (by decide +kernel) (by decide +kernel),
   takesC _ _ _ _ _ (by decide +kernel) (by decide +kernel),
   takesC _ _ _ _ _ (by decide +kernel) (by decide +kernel),
   takesC _ _ _ _ _ (by decide +kernel) (by decide +kernel),
   by decide +kernel,
   takesC _ _ _ _ _ (by decide +kernel) (by decide +kernel),
   by decide +kernel,
   by decide +kernel,
   by decide +kernel,
   by decide +kernel,
   takesC _ _ _ _ _ (by decide +kernel) (by decide +kernel),
   by decide +kernel,
   by decide +kernel,
   by decide +kernel,
   takesC _ _ _ _ _ (by decide +kernel) (by decide +kernel),
   by decide +kernel,
   takesC _ _ _ _ _ (by decide +kernel) (by decide +kernel),
   by decide +kernel,
   takesC _ _ _ _ _ (by decide +kernel) (by decide +kernel),
   by decide +kernel,
   by decide +kernel,
   by decide +kernel,
   takesC _ _ _ _ _ (by decide +kernel) (by decide +kernel),
   by decide +kernel,
   takesC _ _ _ _ _ (by decide +kernel) (by decide +kernel)⟩
/-! ### The cable and its cooling -/

/-- Channel 0 with its cooling controller changed. -/
def atCool (f : Cool → Cool) : State := at0 (fun k => { k with cool := f k.cool })

/-- The controller in a state. -/
def cIn (st : CoolState) (x : Cool) : Cool := { x with r := { x.r with status := { x.r.status with state := st } } }

theorem witness_CoolingSensorsAndFlags :
    up.soleUp 0 2 = true
    ∧ (up.ch 0).shk.sf3En = false
    ∧ ntcTemp 3000 100000 (10 ^ 12) = none
    ∧ held ((atCool (fun x => { cIn .active x with flowLowSince := some (up.now - 2000000000) })).now) (some (up.now - 2000000000)) 2000000000 = true
    ∧ (cIn .active {}).working = true
    ∧ ((up.ch 0).cool.working && held up.now (up.ch 0).cool.flowLowSince 2000000000) = false
    ∧ held up.now (up.ch 0).cool.flowOkSince 5000000000 = false
    ∧ held up.now (some (up.now - 5000000000)) 5000000000 = true
    ∧ held up.now (some (up.now - 5000000000 + 1)) 5000000000 = false
    ∧ ((up.ch 0).cool.presBadIn || held up.now (up.ch 0).cool.presBadSince 2000000000) = false
    ∧ ((atCool (fun x => { x with presRead := true, pres := none })).ch 0).cool.presBadIn = true
    ∧ held up.now (some (up.now - 10000000000)) 10000000000 = true
    ∧ held up.now (up.ch 0).cool.discSince 1000000000 = false := by
  refine ⟨?_, ?_, ?_, ?_, ?_, ?_, ?_, ?_, ?_, ?_, ?_, ?_, ?_⟩ <;> decide +kernel
theorem witness_CoolingController :
    up.soleUp 0 2 = true
    ∧ up.hostOpen 0 = true
    ∧ (0xFFFFFFFB : Word).getLsbD 2 = false
    ∧ (0xFFFFFFFB : Word).getLsbD 0 = true
    ∧ (0xFFFFFFFA : Word).getLsbD 0 = false
    ∧ (up.ch 0).core.meterRole = false
    ∧ (up.ch 0).cool.r.status.state = .off
    ∧ ((atCool (cIn .standby)).ch 0).cool.r.status.state = .standby
    ∧ ((atCool (cIn .active)).ch 0).cool.r.status.state = .active
    ∧ (up.ch 0).cool.r.ctrl.en = decide ((up.ch 0).cool.r.status.state ≠ .off)
    ∧ (up.ch 0).ledg.r.status.sealed = false
    ∧ ((atLedg .verify sealedL).ch 0).ledg.r.status.sealed = true
    ∧ ((atCool (cIn .rundown)).ch 0).cool.tRun + sNs ((atCool (cIn .rundown)).ch 0).cool.r.ctrl.rundown.toNat ≤ (atCool (cIn .rundown)).now
    ∧ ((atCool (cIn .rundown)).ch 0).cool.cold = true
    ∧ up.now < ((atCool (fun x => { cIn .rundown x with tRun := up.now })).ch 0).cool.tRun + sNs ((atCool (cIn .rundown)).ch 0).cool.r.ctrl.rundown.toNat := by
  refine ⟨?_, ?_, ?_, ?_, ?_, ?_, ?_, ?_, ?_, ?_, ?_, ?_, ?_, ?_, ?_⟩ <;> decide +kernel
/-! ### Eyelet -/

/-- Channel 0 with its Eyelet die changed. -/
def atEy (f : Ey → Ey) : State := at0 (fun k => { k with ey := f k.ey })

/-- The die with its outputs in a state, commanded on. -/
def oIn (st : EyState) (y : Ey) : Ey := { y with o := Vector.replicate 8 { st := st, mode := 1, ol := { onEn := true } } }

/-- Output 7 of channel 0. -/
def out7 (s : State) : EyOut := vget (s.ch 0).ey.o 7 {}

theorem witness_EyeletOutputs :
    (out7 (atEy (oIn .on))).live = true
    ∧ (out7 up).live = false
    ∧ max 1 (out7 (atEy (oIn .on))).retry.ocFilt.toNat * 10 ≤ 100
    ∧ 99 < max 1 (out7 (atEy (oIn .on))).retry.ocFilt.toNat * 10
    ∧ (out7 (atEy (oIn .inrush))).st = .inrush
    ∧ (out7 (atEy (fun y => { y with o := Vector.replicate 8 { st := .inrush, tIn := some 0 } }))).tIn = some 0
    ∧ 0 + msNs (out7 (atEy (oIn .inrush))).lim.inrushT.toNat ≤ up.now
    ∧ (out7 (atEy (oIn .inrush))).tIn = none
    ∧ (out7 (atEy (oIn .pause))).st = .pause
    ∧ (out7 (atEy (oIn .pause))).tPause + (out7 (atEy (oIn .pause))).pause ≤ up.now
    ∧ ((atEy (oIn .pause)).ch 0).ey.on 7 = true
    ∧ (up.ch 0).ey.on 7 = false
    ∧ (out7 (atEy (oIn .on))).st = .on
    ∧ (out7 (atEy (oIn .on))).tOn + 1000000000 ≤ up.now
    ∧ max 1 (out7 up).ol.olT.toNat ≤ 10
    ∧ (out7 up).st = .off
    ∧ (out7 (atEy (oIn .on))).ol.onEn = true
    ∧ (out7 (atEy (oIn .on))).tCond + 1000000 ≤ up.now
    ∧ ((atEy (oIn .on)).ch 0).ey.longPulse 7 = true
    ∧ ((atEy (oIn .on)).ch 0).ey.dip = false
    ∧ 15999 < ((atEy (oIn .on)).ch 0).ey.r.supply.ouvV.toNat * 100 := by
  refine ⟨?_, ?_, ?_, ?_, ?_, ?_, ?_, ?_, ?_, ?_, ?_, ?_, ?_, ?_, ?_, ?_, ?_, ?_, ?_, ?_, ?_⟩ <;> decide +kernel
/-- The die in FAILSAFE with or without a feed since. -/
def failing (fed : Bool) : State := atEy (fun y => { y with failsafe := true, fed := fed, armed := true })

theorem witness_EyeletDie :
    up.soleUp 0 2 = true
    ∧ (up.ch 0).ey.failsafe = false
    ∧ ((failing true).ch 0).ey.failsafe = true
    ∧ up.feeds 0 = true
    ∧ ((atEy (fun y => { y with seq := some 3 })).ch 0).ey.seq ≠ some 15
    ∧ ((atEy (fun y => { y with seq := some 15 })).ch 0).ey.seq = some 15
    ∧ State.reset.feeds 0 = false
    ∧ ((atEy (fun y => { y with armed := true })).ch 0).ey.armed = true
    ∧ ((atEy (fun y => { y with armed := true })).ch 0).ey.tFeed + msNs (max 1 (up.ch 0).ey.r.wdt.wdtT.toNat) ≤ up.now
    ∧ ((failing true).ch 0).ey.fsDone = false
    ∧ ((failing true).ch 0).ey.tFs + msNs (10 * min 50 ((failing true).ch 0).ey.r.wdt.fsDly.toNat) ≤ up.now := by
  refine ⟨?_, ?_, ?_, ?_, ?_, ?_, ?_, ?_, ?_, ?_, ?_⟩ <;> decide +kernel
/-- Channel 0 without its Eyelet link. -/
def unlinked : State := at0 (fun k => { k with core.r.linkStatus.eydLinkOk := false })

theorem witness_EyeletDescriptors :
    unlinked.takes 0 (desc 0x0501 false false [0xFF]) = true
    ∧ (desc 0x0501 false false [0xFF]).onlyBits [0xFF, 0xFFFF, 0x030000FF, 0x030000FF, 0x030000FF, 0x030000FF, 0x030000FF, 0x030000FF] = true
    ∧ (unlinked.ch 0).eyLink = false
    ∧ up.takes 0 (desc 0x0501 false false [0x80, 0x4000]) = true
    ∧ (desc 0x0501 false false [0x80, 0x4000]).onlyBits [0xFF, 0xFFFF, 0x030000FF, 0x030000FF, 0x030000FF, 0x030000FF, 0x030000FF, 0x030000FF] = true
    ∧ (desc 0x0501 false false [0x80, 0x4000]).bit 0 7 = true
    ∧ (desc 0x0501 false false [0x80, 0x4000]).bit 0 6 = false
    ∧ (up.ch 0).eyLink = true
    ∧ (up.ch 0).eyOwner 7 = .host
    ∧ up.takes 0 (desc 0x0501 false false [0x01]) = true
    ∧ (desc 0x0501 false false [0x01]).bit 0 0 = true
    ∧ (up.ch 0).eyOwner 0 ≠ .host
    ∧ (atEy (oIn .latched)).takes 0 (desc 0x0502 false false [0x80]) = true
    ∧ (desc 0x0502 false false [0x80]).onlyBits [0xFF] = true
    ∧ (out7 (atEy (oIn .latched))).st ≠ .thermHot
    ∧ (atEy (oIn .thermHot)).takes 0 (desc 0x0502 false false [0x80]) = true
    ∧ (desc 0x0502 false false [0x80]).bit 0 7 = true
    ∧ (out7 (atEy (oIn .thermHot))).st = .thermHot
    ∧ up.takes 0 (desc 0x0503 false true [7, 0x00050505, 0x00010001, 0x00000001]) = true
    ∧ (desc 0x0503 false true [7, 0x00050505, 0x00010001, 0x00000001]).onlyBits [7, 0x01FF7F7F, 0xF1FF03FF, 0xE0FFFFFF] = true
    ∧ limitsOk 0x00050505 0x00010001 0x00000001 = true
    ∧ limitsOk 0x01F4785A 0x01F403E8 0x000028FF = true
    ∧ limitsOk 0x00050504 0x00010001 0x00000001 = false
    ∧ (failing true).takes 0 (desc 0x0504 false true []) = true
    ∧ (desc 0x0504 false true []).onlyBits [] = true
    ∧ ((failing true).ch 0).ey.fed = true
    ∧ ((failing false).ch 0).ey.fed = false
    ∧ (failing false).takes 0 (desc 0x0504 false true []) = true
    ∧ up.takes 0 (desc 0x0504 false true []) = true
    ∧ up.takes 0 (desc 0x0505 false true [0, 0x3264]) = true
    ∧ (desc 0x0505 false true [0, 0x3264]).onlyBits [0xFFFF, 0x7F7F] = true
    ∧ (desc 0x0505 false true [0, 0x3264]).fld 1 8 7 = 50
    ∧ (desc 0x0505 false true [0, 0x3264]).fld 1 0 7 = 100
    ∧ up.takes 0 (desc 0x0505 false true [0, 0x0001]) = true
    ∧ up.takes 0 (desc 0x0505 false true [0, 0x0000]) = true
    ∧ (desc 0x0505 false true [0, 0x0000]).fld 1 0 7 = 0
    ∧ up.takes 0 (desc 0x0505 false true [0xFFFF, 0x0001]) = true
    ∧ up.takes 0 (desc 0x0505 false true [0x0001, 0x0001]) = true
    ∧ (up.ch 0).veh.r.eyMap.pos = 0
    ∧ (up.ch 0).ey.nvWrites < 10000
    ∧ (atEy (fun y => { y with nvWrites := 10000 })).takes 0 (desc 0x0505 false true [0, 0x0001]) = true
    ∧ up.hostOpen 0 = true :=
  ⟨by decide +kernel,
   by decide +kernel,
   by decide +kernel,
   by decide +kernel,
   by decide +kernel,
   by decide +kernel,
   by decide +kernel,
   by decide +kernel,
   by decide +kernel,
   by decide +kernel,
   by decide +kernel,
   by decide +kernel,
   by decide +kernel,
   by decide +kernel,
   by decide +kernel,
   by decide +kernel,
   by decide +kernel,
   by decide +kernel,
   takesC _ _ _ _ _ (by decide +kernel) (by decide +kernel),
   by decide +kernel,
   by decide +kernel,
   by decide +kernel,
   by decide +kernel,
   takesC _ _ _ _ _ (by decide +kernel) (by decide +kernel),
   by decide +kernel,
   by decide +kernel,
   by decide +kernel,
   takesC _ _ _ _ _ (by decide +kernel) (by decide +kernel),
   takesC _ _ _ _ _ (by decide +kernel) (by decide +kernel),
   takesC _ _ _ _ _ (by decide +kernel) (by decide +kernel),
   by decide +kernel,
   by decide +kernel,
   by decide +kernel,
   takesC _ _ _ _ _ (by decide +kernel) (by decide +kernel),
   takesC _ _ _ _ _ (by decide +kernel) (by decide +kernel),
   by decide +kernel,
   takesC _ _ _ _ _ (by decide +kernel) (by decide +kernel),
   takesC _ _ _ _ _ (by decide +kernel) (by decide +kernel),
   by decide +kernel,
   by decide +kernel,
   takesC _ _ _ _ _ (by decide +kernel) (by decide +kernel),
   by decide +kernel⟩
/-! ### Shank -/

/-- Channel 0 with its Shank changed. -/
def atShk (f : Shk → Shk) : State := at0 (fun k => { k with shk := f k.shk })

/-- Shank in a state. -/
def sIn (st : ShkState) (x : Shk) : Shk := { x with r := { x.r with status := { x.r.status with state := st } } }

/-- A block with CAN source 0 of SITE masters and SF6 enabled. -/
def shkBlock : Vector Word 16 := (((Vector.replicate 16 0).set 1 0xA8).set 3 0x83020000).set 8 0x00800000

/-- Channel 0 with that block in use. -/
def atSrc (f : Shk → Shk) : State := atShk (fun x => f { x with block := shkBlock })

/-- A lost path of source 4, heard again for a second. -/
def lostPath (x : Shk) : Shk :=
  { x with src := vset x.src 4 { b := { lost := true, okSince := some 0, tLast := 1000000000000 } } }

/-- A good PDU of CAN source 0 with the sequence 255. -/
def pdu255 : Vector Word 4 := #v[0x010302FF, 1, 0xFFFFFFFE, crc32c [0, 0x010302FF, 1, 0xFFFFFFFE]]

theorem witness_ShankInputs :
    up.soleUp 0 3 = true
    ∧ up.soleUp 0 2 = true
    ∧ (up.ch 0).shk.sampled = false
    ∧ held up.now (some 0) (msNs (10 * (up.ch 0).shk.fld 2 8 8)) = true
    ∧ held up.now (up.ch 0).shk.tPair.1 (msNs (10 * (up.ch 0).shk.fld 2 8 8)) = false
    ∧ (up.ch 0).shk.coil = (false, false)
    ∧ ((atShk (fun x => { x with coil := (true, false), sf4Run := 2 })).ch 0).shk.coil ≠ (false, false)
    ∧ (up.ch 0).shk.srcOf 0 0x01030200 = none
    ∧ ((atSrc id).ch 0).shk.srcOf 1 pdu255[0] = some 0
    ∧ ((atSrc id).ch 0).shk.pduOk pdu255[0] pdu255[1] pdu255[2] pdu255[3] = true
    ∧ (vget ((atSrc id).ch 0).shk.src 0 {}).a.seq ≠ some 255
    ∧ (vget ((atSrc (fun x => { x with src := vset x.src 0 { a := { copies := [⟨255, 1, 0⟩] } } })).ch 0).shk.src 0 {}).a.seq = some 255
    ∧ ((atSrc id).ch 0).shk.srcUsed 4 = true
    ∧ ((vget ((atSrc id).ch 0).shk.src 4 {}).path true).lost = false
    ∧ ((vget ((atSrc id).ch 0).shk.src 4 {}).path true).tLast + ((atSrc id).ch 0).shk.srcWd 4 ≤ up.now
    ∧ (up.ch 0).shk.srcUsed 5 = false
    ∧ ((vget ((atSrc lostPath).ch 0).shk.src 4 {}).path true).lost = true
    ∧ held up.now ((vget ((atSrc lostPath).ch 0).shk.src 4 {}).path true).okSince 1000000000 = true
    ∧ up.now - ((vget ((atSrc lostPath).ch 0).shk.src 4 {}).path true).tLast ≤ ((atSrc lostPath).ch 0).shk.srcWd 4
    ∧ (up.ch 0).shk.siteMaster = false
    ∧ ((atSrc id).ch 0).shk.siteMaster = true
    ∧ (atSrc id).gcid 0 = some 36 := by
  refine ⟨?_, ?_, ?_, ?_, ?_, ?_, ?_, ?_, ?_, ?_, ?_, ?_, ?_, ?_, ?_, ?_, ?_, ?_, ?_, ?_, ?_, ?_⟩ <;> decide +kernel
theorem witness_ShankStates :
    up.soleUp 0 2 = true
    ∧ ((atShk (fun x => { sIn .ready x with pend0 := true })).ch 0).shk.pend0 = true
    ∧ ((atShk (fun x => { sIn .ready x with pend1 := true })).ch 0).shk.pend0 = false
    ∧ ((atShk (fun x => { sIn .ready x with pend1 := true })).ch 0).shk.pend1 = true
    ∧ ((atShk (sIn .ready)).ch 0).shk.r.status.state = .ready
    ∧ ((atShk (sIn .blocked)).ch 0).shk.r.status.state = .blocked
    ∧ ((atShk (sIn .stop1)).ch 0).shk.r.status.state = .stop1
    ∧ ((atShk (fun x => { sIn .unarmed x with sampled := true, r.confCrc := x.r.crc })).ch 0).shk.quiet = true
    ∧ ((atShk (fun x => { sIn .unarmed x with sampled := true, block := vset x.block 15 0x210 })).ch 0).mapMatches = true
    ∧ ((atShk (sIn .ready)).ch 0).shkRelevant = 0
    ∧ ((atShk (fun x => { sIn .ready x with disc := (true, false) })).ch 0).shkRelevant ≠ 0
    ∧ (up.ch 0).loop.r.status.state = .idle
    ∧ ((atLoop (lIn .cc)).ch 0).loop.r.status.state ≠ .idle
    ∧ ((atShk (fun x => { sIn .degraded x with disc := (true, false) })).ch 0).shkRelevant &&& ~~~((atShk (sIn .degraded)).ch 0).shk.degBits ≠ 0
    ∧ held up.now (some 0) 1000000000 = true
    ∧ ((atShk (fun x => { sIn .blocked x with tClear := some 0 })).ch 0).shkRelevant = 0
    ∧ ((atShk (sIn .degraded)).ch 0).shk.tDeg + sNs (((atShk (sIn .degraded)).ch 0).shk.fld 11 0 16) ≤ up.now
    ∧ up.now < ((atShk (fun x => { sIn .degraded x with tDeg := up.now, block := vset x.block 11 1 })).ch 0).shk.tDeg + sNs (((atShk (fun x => { sIn .degraded x with tDeg := up.now, block := vset x.block 11 1 })).ch 0).shk.fld 11 0 16)
    ∧ ((atShk (sIn .degraded)).ch 0).shk.tDeg + 500000000 ≤ up.now
    ∧ ((atShk (sIn .stop1)).ch 0).shk.tStop1 + msNs (((atShk (sIn .stop1)).ch 0).shk.fld 10 0 16) ≤ up.now
    ∧ ((atShk (fun x => { sIn .safeStop x with masked := false })).ch 0).shk.masked = false
    ∧ ((atShk (fun x => { sIn .safeStop x with masked := false })).ch 0).shk.tInh + msNs (((atShk (sIn .safeStop)).ch 0).shk.fld 2 0 8) ≤ up.now
    ∧ ((atShk (fun x => { sIn .safeStop x with sampled := true })).ch 0).shk.quiet = true
    ∧ (up.ch 0).shk.weldDone = true
    ∧ (up.ch 0).shk.tSf5.isNone = true
    ∧ (up.ch 0).shk.tOffC = (none, none) := by
  refine ⟨?_, ?_, ?_, ?_, ?_, ?_, ?_, ?_, ?_, ?_, ?_, ?_, ?_, ?_, ?_, ?_, ?_, ?_, ?_, ?_, ?_, ?_, ?_, ?_, ?_, ?_⟩ <;> decide +kernel
/-- Channel 0 in READY with a test pulse running since time 0. -/
def testing (on seen : Bool) : State :=
  atSrc (fun x => { sIn .ready x with tpOn := on, tpSeen := seen, r := { (sIn .ready x).r with tp := { x.r.tp with active := true } } })

/-- The modulator of channel 0 in RUN, and phase 0 watched or not. -/
def watched (ph : Option Nat) : State :=
  at0 (fun k => { k with
    pwm := { pIn .run k.pwm with ph := vset k.pwm.ph 0 { (vget k.pwm.ph 0 {}) with act := .on } }
    shk := { k.shk with pwPh := ph, block := vset k.shk.block 13 0x00C80064 } })

theorem witness_ShankTestsAndWatches :
    up.soleUp 0 2 = true
    ∧ ((atShk (sIn .ready)).ch 0).tpMay = true
    ∧ ((atShk (sIn .ready)).ch 0).shk.tpDue ≤ up.now
    ∧ (up.ch 0).tpMay = false
    ∧ ((testing true true).ch 0).shk.r.tp.active = true
    ∧ ((testing true true).ch 0).shk.tpT + 340000 ≤ up.now
    ∧ (((testing true true).ch 0).coilOn 0) = false
    ∧ ((testing true true).ch 0).eyMode (((testing true true).ch 0).shk.out false) = 0
    ∧ ((testing true true).ch 0).shk.sf6En = true
    ∧ ((testing false true).ch 0).shk.tpSeen = true
    ∧ ((testing false false).ch 0).shk.tpSeen = false
    ∧ ((testing false false).ch 0).loop.r.status.state = .idle
    ∧ (up.ch 0).shk.r.tp.active = false
    ∧ 120 < (-121 : Int).natAbs
    ∧ ¬ 120 < (120 : Int).natAbs
    ∧ (up.ch 0).pwm.r.status.state ≠ .run
    ∧ ((watched none).ch 0).pwm.r.status.state = .run
    ∧ ((watched none).ch 0).shk.pwPh ≠ ((watched none).ch 0).pwWatched
    ∧ ((watched (some 0)).ch 0).shk.pwPh = ((watched (some 0)).ch 0).pwWatched
    ∧ ((watched (some 0)).ch 0).pwWatched ≠ none
    ∧ ((watched (some 0)).ch 0).shk.fld 13 0 16 ≤ 100 / 4 * 4
    ∧ 99 / 4 * 4 < ((watched (some 0)).ch 0).shk.fld 13 0 16
    ∧ ((watched (some 0)).ch 0).shk.pwBad = 0
    ∧ ((atSrc (fun x => { x with tOffC := (some 0, none) })).ch 0).shk.sf6En = true
    ∧ held up.now ((atSrc (fun x => { x with tOffC := (some 0, none) })).ch 0).shk.tOffC.1 (msNs (((atSrc id).ch 0).shk.fld 12 0 16)) = true
    ∧ held up.now ((atSrc (fun x => { x with tOnC := (none, some 0) })).ch 0).shk.tOnC.2 (msNs (((atSrc id).ch 0).shk.fld 12 0 16)) = true
    ∧ (up.ch 0).shk.r.input.lands.getLsbD 4 = false
    ∧ ((atShk (fun x => { x with r.input.lands := 0x30 })).ch 0).shk.r.input.lands.getLsbD 5 = true
    ∧ (up.ch 0).shk.sf6En = false
    ∧ held up.now ((atShk (fun x => { x with tSf5 := some 0, sf5Flt := true })).ch 0).shk.tSf5 1000000000 = true
    ∧ ((atShk (fun x => { x with tSf5 := some 0 })).ch 0).shk.sf5Flt = false
    ∧ (up.ch 0).vCon < 60
    ∧ held up.now (up.ch 0).shk.tSf5 1000000000 = false
    ∧ ((atShk (fun x => { x with storedOk := true, storedCrc := blockCrc (vMod x.block 15 (fun w => w ^^^ 1)) })).ch 0).shk.storedOk = true
    ∧ blockCrc (vMod ((atShk (fun x => { x with storedCrc := blockCrc (vMod x.block 15 (fun w => w ^^^ 1)) })).ch 0).shk.block 15 (fun w => w ^^^ 1)) = ((atShk (fun x => { x with storedCrc := blockCrc (vMod x.block 15 (fun w => w ^^^ 1)) })).ch 0).shk.storedCrc
    ∧ (up.ch 0).shk.storedOk = false :=
  ⟨by decide +kernel,
   by decide +kernel,
   by decide +kernel,
   by decide +kernel,
   by decide +kernel,
   by decide +kernel,
   by decide +kernel,
   by decide +kernel,
   by decide +kernel,
   by decide +kernel,
   by decide +kernel,
   by decide +kernel,
   by decide +kernel,
   by decide +kernel,
   by decide +kernel,
   by decide +kernel,
   by decide +kernel,
   by decide +kernel,
   by decide +kernel,
   by decide +kernel,
   by decide +kernel,
   by decide +kernel,
   by decide +kernel,
   by decide +kernel,
   by decide +kernel,
   by decide +kernel,
   by decide +kernel,
   by decide +kernel,
   by decide +kernel,
   by decide +kernel,
   by decide +kernel,
   by decide +kernel,
   by decide +kernel,
   by decide +kernel,
   rfl,
   by decide +kernel⟩
/-- A safety block within its ranges. -/
def goodBlock : Vector Word 16 :=
  #v[0x01000000, 0, 0x01010100, 0, 0, 0, 0, 0x01010000, 2, 0, 100, 0x01000001, 0x00010014, 0x01F401A4, 0x000A0000, 0]

/-- Channel 0 in VERIFY. -/
def verifying (f : Chan → Chan) : State := at0 (fun k => f { k with key.r.lcStatus.state := .verify })

theorem witness_ShankDescriptors :
    (verifying id).takes 0 (desc 0x0601 false true [0x0006000A]) = true
    ∧ (desc 0x0601 false true [0x0006000A]).onlyBits (0x000F000F :: List.replicate 6 0xFFFFFFFF) = true
    ∧ (desc 0x0601 false true [0x0006000A]).fld 0 0 4 = 10
    ∧ (desc 0x0601 false true [0x0006000A]).fld 0 16 4 = 6
    ∧ ((verifying id).ch 0).key.r.lcStatus.state = .verify
    ∧ ((verifying id).ch 0).loop.r.status.state = .idle
    ∧ (verifying (fun k => { k with loop := lIn .cc k.loop })).takes 0 (desc 0x0601 false true [0x0006000A]) = true
    ∧ up.takes 0 (desc 0x0601 false true [0x0006000A]) = true
    ∧ (verifying id).takes 0 (desc 0x0601 false true [0x00000000]) = true
    ∧ (verifying id).takes 0 (desc 0x0601 false true [0x0006000B]) = true
    ∧ (atShk (fun x => { x with block := goodBlock, r.crc := 5 })).takes 0 (desc 0x0602 false true [5]) = true
    ∧ (desc 0x0602 false true [5]).onlyBits [0xFFFFFFFF] = true
    ∧ (desc 0x0602 false true [5]).pay 0 = 5
    ∧ ((atShk (fun x => { x with block := goodBlock, r.crc := 5 })).ch 0).shk.inRange = true
    ∧ (up.ch 0).shk.inRange = false
    ∧ up.takes 0 (desc 0x0602 false true [(up.ch 0).shk.r.crc]) = true
    ∧ up.takes 0 (desc 0x0602 false true [(up.ch 0).shk.r.crc + 1]) = true
    ∧ (atShk (fun x => { x with lv1 := 1 })).takes 0 (desc 0x0603 false true [1]) = true
    ∧ (desc 0x0603 false true [1]).onlyBits [0xF3F] = true
    ∧ (desc 0x0603 false true [1]).bit 0 0 = true
    ∧ ((atShk (fun x => { x with lv1 := 1 })).ch 0).shkResetOk up.env 0 = false
    ∧ up.takes 0 (desc 0x0603 false true [0xF3F]) = true
    ∧ (∀ b, b < 12 → (up.ch 0).shkResetOk up.env b = true)
    ∧ (atShk (fun x => { x with r.demand.latch := 0x10 })).takes 0 (desc 0x0603 false true [0x10]) = true
    ∧ (desc 0x0603 false true [0x10]).bit 0 4 = true
    ∧ mbit ((atShk (fun x => { x with r.demand.latch := 0x10 })).ch 0).shk.r.demand.latch 4 = true
    ∧ 60 ≤ ((atStream 11 (fun x => { x with fast := 60 })).ch 0).vCon
    ∧ (testing true true).takes 0 (desc 0x0604 false true []) = true
    ∧ (desc 0x0604 false true []).onlyBits [] = true
    ∧ (atShk (sIn .ready)).takes 0 (desc 0x0604 false true []) = true
    ∧ ((atShk (sIn .ready)).ch 0).shk.tpBack = false
    ∧ (vget ((atShk (sIn .ready)).ch 0).ey.r.ostat 0 {}).state ≠ .inrush :=
  ⟨takesC _ _ _ _ _ (by decide +kernel) (by decide +kernel),
   by decide +kernel,
   by decide +kernel,
   by decide +kernel,
   by decide +kernel,
   by decide +kernel,
   takesC _ _ _ _ _ (by decide +kernel) (by decide +kernel),
   takesC _ _ _ _ _ (by decide +kernel) (by decide +kernel),
   takesC _ _ _ _ _ (by decide +kernel) (by decide +kernel),
   takesC _ _ _ _ _ (by decide +kernel) (by decide +kernel),
   takesC _ _ _ _ _ (by decide +kernel) (by decide +kernel),
   by decide +kernel,
   by decide +kernel,
   by decide +kernel,
   by decide +kernel,
   takesC _ _ _ _ _ (by decide +kernel) (by decide +kernel),
   takesC _ _ _ _ _ (by decide +kernel) (by decide +kernel),
   takesC _ _ _ _ _ (by decide +kernel) (by decide +kernel),
   by decide +kernel,
   by decide +kernel,
   by decide +kernel,
   takesC _ _ _ _ _ (by decide +kernel) (by decide +kernel),
   by decide +kernel,
   takesC _ _ _ _ _ (by decide +kernel) (by decide +kernel),
   by decide +kernel,
   by decide +kernel,
   by decide +kernel,
   takesC _ _ _ _ _ (by decide +kernel) (by decide +kernel),
   by decide +kernel,
   takesC _ _ _ _ _ (by decide +kernel) (by decide +kernel),
   by decide +kernel,
   by decide +kernel⟩
/-! ### The coordinator pair, firmware, the service hold -/

/-- The hub's engine in a role. -/
def atRole (r : PairRole) (f : Eng → Eng) : State := atHub (fun h => { h with eng := f (h.eng.setRole r) })

/-- The module with another node, 12, that shows itself as standby. -/
def peered (r : PairRole) (f : Eng → Eng) : State :=
  { atRole r f with hub := { (atRole r f).hub with ring := { up.hub.ring with
    nodes := [{ dieId := 1, w2 := 0x8C200000, w3 := 0, w4 := 0, tLast := up.now, tClass := 0, lastE := none, lastW := none }] } } }

/-- The module named as the first engine of the pair, without a role. -/
def elector : State :=
  atRole .none (fun e => { e with last.r.cfg.en := true, pair.r.cfg := { e.pair.r.cfg with aValid := true, nidA := 9 } })

/-- A grant frame of node 12, generation 6, epoch 7, without records. -/
def gFrame12 : List Word := [7, 0x0006000C, 10, 0]

theorem witness_CoordinatorPair :
    (atRole .none id).engUp = true
    ∧ elector.hub.eng.rank elector.lctx = some 0
    ∧ (atRole .none id).hub.eng.role = .none
    ∧ elector.hub.eng.actPresent up.now = false
    ∧ elector.hub.eng.role = .none
    ∧ elector.hub.eng.goneSince + msNs 10 + msNs (2 * 0) ≤ up.now
    ∧ (atRole .sync id).hub.eng.role = .sync
    ∧ (atRole .standby id).hub.eng.role = .standby
    ∧ (atRole .sync (fun e => { e with pair.mirEpoch := some 7 })).hub.eng.pair.mirEpoch = some 7
    ∧ (atRole .sync (fun e => { e with pair := { e.pair with mirRun := 16, ckpt := some ⟨1, 7, 1, [0], [], 0⟩ } })).hub.eng.pair.ckpt.isSome = true
    ∧ (atRole .sync id).hub.eng.pair.mirRun < 16
    ∧ (peered .active id).hub.eng.active = true
    ∧ (peered .active id).hub.eng.peer (peered .active id).lctx = some 12
    ∧ (atRole .standby id).hub.eng.pair.part = none
    ∧ (atRole .standby id).hub.eng.pair.swap = none
    ∧ [0x00010000, 7, 0x00010000].getD 2 0 = (0x00010000 : Word)
    ∧ (0xF0000009 : Word).extractLsb' 28 4 ≠ 0
    ∧ (0x00000009 : Word).extractLsb' 28 4 = 0
    ∧ up.nid = some ((0xF0000009 : Word).extractLsb' 0 6).toNat
    ∧ up.nid ≠ some ((0xF0000008 : Word).extractLsb' 0 6).toNat
    ∧ (atRole .active (fun e => { e with pair.swap := some ⟨7, false, none, 12⟩ })).hub.eng.pair.swap = some ⟨7, false, none, 12⟩
    ∧ (gFrame12.getD 2 0).extractLsb' 16 9 = 0
    ∧ up.nid ≠ some (GFrame.ofWords up.now gFrame12).nid
    ∧ laterBv (atRole .active id).hub.eng.pair.genSeen (GFrame.ofWords up.now gFrame12).gen = false
    ∧ laterBv (GFrame.ofWords up.now gFrame12).gen (atRole .active id).hub.eng.last.r.gen = true
    ∧ (atRole .standby (fun e => { e with pair.tWake := some up.now })).hub.eng.pair.tWake = some up.now := by
  refine ⟨?_, ?_, ?_, ?_, ?_, ?_, ?_, ?_, ?_, ?_, ?_, ?_, ?_, ?_, ?_, ?_, ?_, ?_, ?_, ?_, ?_, ?_, ?_, ?_, ?_, ?_⟩ <;> decide +kernel
theorem witness_PairAndHoldDescriptors :
    (atRole .active id).hub.eng.active = true
    ∧ (atRole .active id).hub.eng.overlap up.now = false
    ∧ (∀ x, x ∈ (atRole .active id).lctx.nodes → some x = (atRole .active id).nid)
    ∧ (atRole .active id).takes 4 (desc 0x0804 true true [0x898C0003]) = true
    ∧ (desc 0x0804 true true [0x898C0003]).onlyBits [0xBFBF0003] = true
    ∧ (desc 0x0804 true true [0x898C0003]).bit 0 31 = true
    ∧ (desc 0x0804 true true [0x898C0003]).bit 0 23 = true
    ∧ ((0x898C0003 : Word).extractLsb' 24 6) ≠ ((0x898C0003 : Word).extractLsb' 16 6)
    ∧ (atRole .active id).takes 4 (desc 0x0804 true true [0x89890000]) = true
    ∧ ((0x89890000 : Word).extractLsb' 24 6) = ((0x89890000 : Word).extractLsb' 16 6)
    ∧ (peered .active id).takes 4 (desc 0x0805 true true []) = true
    ∧ (desc 0x0805 true true []).onlyBits [] = true
    ∧ (peered .active (fun e => { e with pair.nRef := [1, 2, 3, 4, 9] })).hub.eng.quorum (peered .active id).lctx = false
    ∧ (peered .active id).hub.eng.quorum (peered .active id).lctx = true
    ∧ (peered .active id).lctx.sby.filter (fun n => decide (n ≠ (peered .active id).lctx.nid.getD 64)) = 12 :: []
    ∧ (peered .active id).hub.eng.pair.swap = none
    ∧ (atRole .active id).lctx.sby.filter (fun n => decide (n ≠ (atRole .active id).lctx.nid.getD 64)) = []
    ∧ up.takes 0 (desc 0x0806 false true [0x010]) = true
    ∧ (desc 0x0806 false true [0x010]).onlyBits [0x131] = true
    ∧ (desc 0x0806 false true [0x010]).fld 0 4 2 = 1
    ∧ (desc 0x0806 false true [0x010]).bit 0 8 = false
    ∧ (desc 0x0806 false true [0x010]).bit 0 0 = false
    ∧ (up.ch 0).core.r.svc.state = .inService
    ∧ up.heldElse 0 = false
    ∧ ({ up with chans := vset up.chans 3 { (up.ch 3) with core.r.svc := { state := .held, purpose := .test, stop := false } } } : State).heldElse 0 = true
    ∧ up.takes 0 (desc 0x0806 false true [0x100]) = true
    ∧ (desc 0x0806 false true [0x100]).bit 0 8 = true
    ∧ (up.hub.cob.run.any (fun (r : CobRun) => decide (r.task.die = 0) && cobC r.task.test)) = false :=
  ⟨by decide +kernel,
   by decide +kernel,
   by decide +kernel,
   takesC _ _ _ _ _ (by decide +kernel) (by decide +kernel),
   by decide +kernel,
   by decide +kernel,
   by decide +kernel,
   by decide +kernel,
   takesC _ _ _ _ _ (by decide +kernel) (by decide +kernel),
   by decide +kernel,
   takesC _ _ _ _ _ (by decide +kernel) (by decide +kernel),
   by decide +kernel,
   by decide +kernel,
   by decide +kernel,
   by decide +kernel,
   by decide +kernel,
   by decide +kernel,
   takesC _ _ _ _ _ (by decide +kernel) (by decide +kernel),
   by decide +kernel,
   by decide +kernel,
   by decide +kernel,
   by decide +kernel,
   by decide +kernel,
   by decide +kernel,
   by decide +kernel,
   takesC _ _ _ _ _ (by decide +kernel) (by decide +kernel),
   by decide +kernel,
   by decide +kernel⟩
/-- Unit u with firmware f. -/
def atFw (u : Nat) (f : FwSt) : State := atHub (fun h => { h with fw := vset h.fw u f })

/-- An image of version 5. -/
def image5 : List Word := [0, 0, 5, 0, 0]

/-- Channel 0 held for an update, its image stored. -/
def forUpdate (f : FwSt) : State :=
  { atFw 0 f with chans := vset up.chans 0 { (up.ch 0) with core.r.svc := { state := .held, purpose := .update, stop := false } } }

theorem witness_FirmwareInService :
    up.takes 4 (desc 0x0801 true true [7, 4, 0]) = true
    ∧ (desc 0x0801 true true [7, 4, 0]).onlyBits [7, 0xFFFFFFFF, 0xFFFFFFFF] = true
    ∧ (desc 0x0801 true true [7, 4, 0]).pay 1 = 4
    ∧ (vget up.hub.fw 4 {}).commit = false
    ∧ (vget up.hub.fw 4 {}).act = false
    ∧ up.xferOf 7 = none
    ∧ up.takes 4 (desc 0x0801 true true [7, 29360128, 0]) = true
    ∧ 29360128 ≤ fwMax 4
    ∧ up.takes 4 (desc 0x0801 true true [7, 29360132, 0]) = true
    ∧ up.takes 0 (desc 0x0801 false true [0, 4194304, 0]) = true
    ∧ 4194304 ≤ fwMax 0
    ∧ (atFw 4 { commit := true }).takes 4 (desc 0x0801 true true [7, 4, 0]) = true
    ∧ (atFw 4 { staged := some image5 }).takes 4 (desc 0x0802 true true [0, 0, 5]) = true
    ∧ (desc 0x0802 true true [0, 0, 5]).onlyBits [0, 0, 0xFFFFFFFF] = true
    ∧ (desc 0x0802 true true [0, 0, 5]).pay 2 = 5
    ∧ imgVersion image5 = 5
    ∧ up.takes 4 (desc 0x0802 true true [0, 0, 5]) = true
    ∧ (vget up.hub.fw 4 {}).staged = none
    ∧ (forUpdate { staged := some image5, s1 := some image5 }).takes 0 (desc 0x0803 false true [0, 10]) = true
    ∧ (desc 0x0803 false true [0, 10]).onlyBits [3, 0xFFFF] = true
    ∧ (desc 0x0803 false true [0, 10]).bit 0 0 = false
    ∧ (desc 0x0803 false true [0, 10]).bit 0 1 = false
    ∧ ((forUpdate { staged := some image5, s1 := some image5 }).ch 0).core.run = 2
    ∧ ((forUpdate { staged := some image5, s1 := some image5 }).ch 0).core.r.svc.state = .held
    ∧ ((forUpdate { staged := some image5, s1 := some image5 }).ch 0).core.r.svc.purpose = .update
    ∧ (vget (forUpdate { staged := some image5, s1 := some image5 }).hub.fw 0 {}).committed = true
    ∧ (vget (forUpdate {}).hub.fw 0 {}).committed = false
    ∧ (forUpdate {}).takes 0 (desc 0x0803 false true [0, 10]) = true
    ∧ up.takes 0 (desc 0x0803 false true [0, 3600]) = true
    ∧ (up.ch 0).core.r.svc.state ≠ .held
    ∧ (vget (atFw 4 { commit := true }).hub.fw 4 {}).commit = true
    ∧ (vget (atFw 3 { act := true }).hub.fw 3 {}).act = true
    ∧ (vget (atFw 3 { act := true }).hub.fw 3 {}).back = false
    ∧ ((atFw 3 { act := true }).ch 3).core.run = 2
    ∧ (vget (atFw 3 { tTrial := some up.now }).hub.fw 3 {}).tTrial = some up.now :=
  ⟨takesC _ _ _ _ _ (by decide +kernel) (by decide +kernel),
   by decide +kernel,
   by decide +kernel,
   by decide +kernel,
   by decide +kernel,
   by decide +kernel,
   takesC _ _ _ _ _ (by decide +kernel) (by decide +kernel),
   by decide +kernel,
   takesC _ _ _ _ _ (by decide +kernel) (by decide +kernel),
   takesC _ _ _ _ _ (by decide +kernel) (by decide +kernel),
   by decide +kernel,
   takesC _ _ _ _ _ (by decide +kernel) (by decide +kernel),
   takesC _ _ _ _ _ (by decide +kernel) (by decide +kernel),
   by decide +kernel,
   by decide +kernel,
   by decide +kernel,
   takesC _ _ _ _ _ (by decide +kernel) (by decide +kernel),
   by decide +kernel,
   takesC _ _ _ _ _ (by decide +kernel) (by decide +kernel),
   by decide +kernel,
   by decide +kernel,
   by decide +kernel,
   by decide +kernel,
   by decide +kernel,
   by decide +kernel,
   by decide +kernel,
   by decide +kernel,
   takesC _ _ _ _ _ (by decide +kernel) (by decide +kernel),
   takesC _ _ _ _ _ (by decide +kernel) (by decide +kernel),
   by decide +kernel,
   by decide +kernel,
   by decide +kernel,
   by decide +kernel,
   by decide +kernel,
   by decide +kernel⟩
/-! ### The ring -/

/-- The ring with its east link changed. -/
def atEast (f : LinkSt → LinkSt) : State := atHub (fun h => { h with ring := { h.ring with east := f h.ring.east } })

/-- A link in a state, both lanes locked. -/
def linkIn (st : LinkState) (l : LinkSt) : LinkSt := { l with st := st, lane := Vector.replicate 2 { seen := 2 } }

/-- An Awl block of a partner that names node 12. -/
def awl12 : BitVec 64 := 0xC35A_00_00_00_8C_00_A5

theorem witness_RingLinks :
    up.hub.ringRuns = true
    ∧ (up.hub.ring.link false).st = .down
    ∧ ((atEast (linkIn .align)).hub.ring.link false).canFall = true
    ∧ awlOk 0 = false
    ∧ awlOk awl12 = true
    ∧ awl12.getLsbD 23 = true
    ∧ (awl12.extractLsb' 32 8 : Byte).getLsbD 1 = false
    ∧ (vget ((atEast (linkIn .align)).hub.ring.link false).lane 0 {}).seen = 2
    ∧ 3 ≤ (vget ((atEast (fun l => { linkIn .align l with lane := Vector.replicate 2 { seen := 2, miss := 3 } })).hub.ring.link false).lane 0 {}).miss
    ∧ (vget ((atEast (linkIn .align)).hub.ring.link false).lane 0 {}).miss < 3
    ∧ ((atEast (linkIn .lock)).hub.ring.link false).st = .lock
    ∧ ((atEast (fun l => { linkIn .align l with l1Ready := true })).hub.ring.link false).l1Ready = true
    ∧ ((atEast (linkIn .align)).hub.ring.link false).tClean + 1000000 ≤ up.now
    ∧ ((atEast (linkIn .up)).hub.ring.link false).tUp + 100000000 ≤ up.now
    ∧ ((atEast (fun l => { linkIn .up l with rxSleep := true })).hub.ring.link false).rxSleep = true
    ∧ up.hostOpen 4 = true
    ∧ up.hub.ring.r.ctrl.isolateE = false
    ∧ (atHub (fun h => { h with ring := { h.ring with east := { h.ring.east with st := .isolated }, r := { h.ring.r with ctrl := { h.ring.r.ctrl with isolateE := true } } } })).hub.ring.r.ctrl.isolateE = true
    ∧ ((atEast (linkIn .isolated)).hub.ring.link false).st = .isolated
    ∧ up.hub.pm.state 4 = 0
    ∧ (atHub (fun h => { h with pm := { h.pm with r := { h.pm.r with pmStatus := { h.pm.r.pmStatus with hub := 1 } } } })).hub.pm.state 4 ≠ 0
    ∧ (atHub (fun h => { h with ring := { h.ring with r := { h.ring.r with ctrl := { h.ring.r.ctrl with sleepEn := true } } } })).hub.ring.r.ctrl.sleepEn = true := by
  refine ⟨?_, ?_, ?_, ?_, ?_, ?_, ?_, ?_, ?_, ?_, ?_, ?_, ?_, ?_, ?_, ?_, ?_, ?_, ?_, ?_, ?_, ?_⟩ <;> decide +kernel
/-- Node 9 with both links up and node 12 known. -/
def ring12 : State := atHub (fun h => { h with ring := { h.ring with
  east := linkIn .up h.ring.east, west := linkIn .up h.ring.west
  nodes := [{ dieId := 7, w2 := 0x8C010000, w3 := 0, w4 := 5, tLast := 0, tClass := 0, lastE := none, lastW := none }] } })

/-- A DESC frame of node 12 to a node, with hops and the broadcast bit. -/
def hdr12 (dst : BitVec 6) (bc : Bool) (hops : BitVec 7) : BitVec 56 :=
  ({ tc := 2, src := 12, dst := dst, bc := bc, west := true, wrap := 0, hops := hops, len := 1, typ := BitVec.ofNat 6 FType.desc.code, seq := 1 } : Hdr).word

/-- A TRIP block of node 12 that has hops left. -/
def trip12 (hops : BitVec 7) : BitVec 56 :=
  let b : BitVec 48 := (12#48 <<< 40) ||| (1#48 <<< 32) ||| (1#48 <<< 24) ||| hops.setWidth 48
  (b.setWidth 56 <<< 8) ||| (crc48 b).setWidth 56

theorem witness_RingFramesAndTrips :
    ring12.hub.ringRuns = true
    ∧ (ring12.hub.ring.link false).st = .up
    ∧ (up.hub.ring.link false).st ≠ .up
    ∧ (up.hub.ring.link false).st ≠ .isolated
    ∧ hcrcOk (hdr12 9 false 127) = true
    ∧ hcrcOk (hdr12 9 false 127 ^^^ 1) = false
    ∧ FType.ofCode (Hdr.of (hdr12 9 false 127)).typ.toNat = some .desc
    ∧ (Hdr.of (hdr12 9 false 127)).tc.toNat = FType.desc.tc
    ∧ FType.desc.lenOk (Hdr.of (hdr12 9 false 127)).len.toNat = true
    ∧ ring12.hub.ring.nid = some (Hdr.of (hdr12 9 false 127)).dst
    ∧ (Hdr.of (hdr12 9 false 127)).bc = false
    ∧ frameCrc (Hdr.of (hdr12 9 false 127)) [1, 2] = frameCrc (Hdr.of (hdr12 9 false 127)) [1, 2]
    ∧ ¬ (Hdr.of (hdr12 3 false 2)).hops.toNat ≤ 1
    ∧ (Hdr.of (hdr12 3 false 1)).hops.toNat ≤ 1
    ∧ (Hdr.of (hdr12 0 true 2)).bc = true
    ∧ ring12.hub.ring.nid ≠ some (Hdr.of (hdr12 0 true 2)).src
    ∧ ring12.hub.ring.fresh ring12.now (Hdr.of (hdr12 0 true 2)) = true
    ∧ (ring12.hub.ring.link true).wrap = true
    ∧ hcrcOk (trip12 2) = true
    ∧ (trip12 2).extractLsb' 32 8 = 1#8
    ∧ ring12.hub.ring.present ((trip12 2).extractLsb' 48 6) = true
    ∧ ring12.hub.ring.present 63 = false
    ∧ (ring12.hub.ring.trips.filter (fun x => decide (ring12.now < x.2.2 + 10000000))) = []
    ∧ ¬ ((trip12 2).extractLsb' 8 7 : BitVec 7).toNat ≤ 1
    ∧ ((atShk (fun x => { x with tripReq := true })).ch 0).shk.tripReq = true
    ∧ (vget up.hub.st 0 {}).hubLost = false
    ∧ (vget up.hub.st 0 {}).soleLost = false
    ∧ up.soleUp 0 2 = true
    ∧ up.nid.isSome = true := by
  refine ⟨?_, ?_, ?_, ?_, ?_, ?_, ?_, ?_, ?_, ?_, ?_, ?_, ?_, ?_, ?_, ?_, ?_, ?_, ?_, ?_, ?_, ?_, ?_, ?_, ?_, ?_, ?_, ?_, ?_⟩ <;> decide +kernel
/-- PRESENCE of die 8 that shows NID 9 with uptime 0. -/
def pres9 : Vector Word 5 := #v[8, 0, 0x89000000, 0, 0]

theorem witness_RingDiscovery :
    up.hub.ringRuns = true
    ∧ DWord.of pres9[1] pres9[0] ≠ up.hub.dieId
    ∧ pres9[2].getLsbD 31 = true
    ∧ up.hub.ring.nid = some (pres9[2].extractLsb' 24 6)
    ∧ up.hub.ring.nodes.find? (fun (n : NodeSt) => decide (n.dieId = DWord.of pres9[1] pres9[0])) = none
    ∧ (atHub (fun h => { h with ring := { h.ring with nid := none, bootCfg := { h.ring.bootCfg with auto := true } } })).hub.ring.nid = none
    ∧ (atHub (fun h => { h with ring := { h.ring with nid := none, bootCfg := { h.ring.bootCfg with auto := true } } })).hub.ring.claim = true
    ∧ up.hub.ring.tListen + 10000000 ≤ up.now
    ∧ (List.range 64).find? (fun i => !(0xFFFFFFFFFFFFFFFF : BitVec 64).getLsbD i) = none
    ∧ (List.range 64).find? (fun i => !(0x7FFFFFFFFFFFFFFF : BitVec 64).getLsbD i) = some 63
    ∧ ring12.hub.ring.nodes.find? (fun (n : NodeSt) => decide (n.dieId = 7)) ≠ none
    ∧ 0 + 3000000 ≤ ring12.now
    ∧ ring12.hostOpen 4 = true
    ∧ ring12.hub.ring.node 12 ≠ none
    ∧ ring12.hub.ring.nid ≠ some 12 := by
  refine ⟨?_, ?_, ?_, ?_, ?_, ?_, ?_, ?_, ?_, ?_, ?_, ?_, ?_, ?_, ?_⟩ <;> decide +kernel
/-- Node 9 with both links up and node 12 as its time master. -/
def slave (st : TimeState) : State :=
  { ring12 with hub := { ring12.hub with ring := { ring12.hub.ring with
      master := some 12, servo := { ring12.hub.ring.servo with st := st }
      east := { ring12.hub.ring.east with t1 := some 5 } } } }

/-- Node 9 as gateway. -/
def gwTime (pps : Bool) (s : State) : State :=
  { s with hub := { s.hub with gw := { s.hub.gw with r := { s.hub.gw.r with status := { s.hub.gw.r.status with gateway := true } } }
                               ring := { s.hub.ring with r := { s.hub.ring.r with ctrl := { s.hub.ring.r.ctrl with ppsEn := pps } } } } }

theorem witness_RingTime :
    (slave .acquire).hub.ringRuns = true
    ∧ ((slave .acquire).hub.ring.link false).st = .up
    ∧ ((slave .acquire).hub.ring.link false).t1 = some 5
    ∧ ((slave .acquire).hub.ring.link true).t1 = none
    ∧ up.hub.ring.isMaster = true
    ∧ (slave .acquire).hub.ring.isMaster = false
    ∧ (slave .acquire).hub.ring.master = some ((0x0C : Word).extractLsb' 0 6)
    ∧ (slave .acquire).hub.ring.sync = none
    ∧ (slave .acquire).hub.ring.servo.st = .acquire
    ∧ 65536000 < (65536001 : Int).natAbs
    ∧ (slave .acquire).rctx.idle = true
    ∧ (slave .locked).hub.ring.servo.st = .locked
    ∧ (slave .locked).hub.ring.servo.tSync + 500000 ≤ (slave .locked).now
    ∧ (slave .holdover).hub.ring.servo.st = .holdover
    ∧ (slave .holdover).hub.ring.servo.tHold + 10000000 ≤ (slave .holdover).now
    ∧ up.hostOpen 4 = true
    ∧ up.hub.gw.role = false
    ∧ (gwTime true up).hub.gw.role = true
    ∧ (gwTime true up).hub.ring.r.ctrl.ppsEn = true
    ∧ (gwTime false up).hub.ring.r.ctrl.ppsEn = false
    ∧ (gwTime false up).hub.ring.isMaster = true
    ∧ (gwTime false up).hub.ring.siteSet = false
    ∧ (gwTime false (slave .acquire)).hub.ring.isMaster = false
    ∧ (gwTime true up).hub.ring.todArmed = false := by
  refine ⟨?_, ?_, ?_, ?_, ?_, ?_, ?_, ?_, ?_, ?_, ?_, ?_, ?_, ?_, ?_, ?_, ?_, ?_, ?_, ?_, ?_, ?_, ?_, ?_⟩ <;> decide +kernel
/-! ### The host gateway -/

/-- Node 9 as gateway with bus mastering. -/
def gwUp : State := atHub (fun h => { h with gw := { h.gw with r := { h.gw.r with status := { h.gw.r.status with gateway := true, bme := true, linkUp := true } } } })

/-- Its ring 63 in a state, changed. -/
def atRing (st : RingState) (f : GwRing → GwRing) : State :=
  { gwUp with hub := { gwUp.hub with gw := gwUp.hub.gw.setRing 63 (f ((gwUp.hub.gw.ring 63).setSt st)) } }

/-- Ring 63 of a state. -/
def r63 (s : State) : GwRing := s.hub.gw.ring 63

/-- What the ring-63 gateway knows of a descriptor. -/
def sent0 (o : Outst) : State :=
  { atRing .active id with hub := { (atRing .active id).hub with gw := { (atRing .active id).hub.gw with out := [o] } } }

/-- A descriptor of ring 63 forwarded at time 0 with a timeout of 1 ms. -/
def out7d : Outst := { d := { (desc 0x0401 false false []) with rid := 7 }, ring := 63, node := 9, ch := some 0, tmo := 1, t := 0 }

theorem witness_GatewayRings :
    gwUp.gwOn = true
    ∧ up.hub.gw.role = false
    ∧ gwUp.hub.gw.role = true
    ∧ (r63 (atRing .active id)).st = .active
    ∧ 15 < (r63 (atRing .active id)).n
    ∧ (r63 (atRing .active id)).n ≤ 16
    ∧ (atRing .active id).hub.gw.bme = true
    ∧ (r63 gwUp).st = .disabled
    ∧ (r63 (atRing .error id)).st = .error
    ∧ (r63 (atRing .draining id)).st = .draining
    ∧ (atRing .draining id).hub.gw.inflight 63 = 0
    ∧ (sent0 out7d).hub.gw.inflight 63 ≠ 0
    ∧ (r63 (atRing .active (fun x => { x with sqTail := 1 }))).r.ptr.sqHead.toNat ≠ (r63 (atRing .active (fun x => { x with sqTail := 1 }))).sqTail.toNat
    ∧ (atRing .active (fun x => { x with sqTail := 1 })).hub.gw.inflight 63 + (r63 (atRing .active id)).posted < (r63 (atRing .active id)).n
    ∧ gwCheck gwUp.gctx { w := (desc 0x0A01 false false []).w, gw := 9, rid := 0 } = some 0x01
    ∧ gwCheck gwUp.gctx { w := (desc 0x0401 true false []).w, gw := 9, rid := 0 } = some 0x02
    ∧ gwCheck gwUp.gctx { w := (desc 0x0401 false false []).w, gw := 9, rid := 0 } = none
    ∧ (desc 0x0401 false false []).fence = false
    ∧ (desc 0x0401 false false []).portOf = none
    ∧ gwUp.hub.gw.held = []
    ∧ gwUp.hub.gw.load (desc 0x0401 false false []).dst.1 (desc 0x0401 false false []).dst.2 < 16
    ∧ 16 ≤ ({ gwUp.hub.gw with out := List.replicate 16 out7d } : Gw).load 9 (some 0)
    ∧ (r63 (atRing .active (fun x => { x with tSig := some 0 }))).tSig = some 0
    ∧ 0 + usNs (r63 (atRing .active id)).r.irq.time.toNat ≤ up.now
    ∧ (r63 gwUp).tSig = none := by
  refine ⟨?_, ?_, ?_, ?_, ?_, ?_, ?_, ?_, ?_, ?_, ?_, ?_, ?_, ?_, ?_, ?_, ?_, ?_, ?_, ?_, ?_, ?_, ?_, ?_, ?_⟩ <;> decide +kernel
theorem witness_GatewayRequests :
    gwUp.gwOn = true
    ∧ gwUp.dieOf (desc 0x0401 false false []) = some 0
    ∧ gwUp.descFate 0 (desc 0x0401 false false []) = .run
    ∧ (at0 (fun k => { k with core := { k.core with run := 0 } })).descFate 0 (desc 0x0401 false false []) = .noChannel
    ∧ (at0 (fun k => { k with core := { k.core with pm := 3 } })).descFate 0 (desc 0x0401 false false []) = .hold
    ∧ opRow (desc 0x040F false false []).opcode = none
    ∧ (opRow (desc 0x0401 true false []).opcode).map (fun r => r.target.fits (desc 0x0401 true false []).chan) = some false
    ∧ (opRow (desc 0x0101 false false []).opcode).map (fun r => r.critical) = some true
    ∧ ((gwUp.keyOf 0).critical false (desc 0x0101 false false [])).2.1.isSome = true
    ∧ gwUp.takes 0 (desc 0x0401 false false []) = true
    ∧ gwUp.dieOf { (desc 0x0401 false false []) with w := #v[0x10401, 0x01, 0, 0, 0, 0, 0, 0, 0, 0, 0, 0, 0, 0, 0, 0] } = none
    ∧ gwUp.hub.eng.active = false
    ∧ (0x00700001 : Word).getLsbD 0 = true
    ∧ (0x00700000 : Word).getLsbD 0 = false
    ∧ gwUp.hub.eng.last.fwd.lookup 7 = none
    ∧ gwUp.hub.gw.out.find? (fun (o : Outst) => decide (o.d.rid = 7)) = none
    ∧ (sent0 out7d).hub.gw.out.find? (fun (o : Outst) => decide (o.d.rid = 7)) = some out7d
    ∧ ((sent0 out7d).hub.gw.ring out7d.ring).st ≠ .disabled
    ∧ (sent0 out7d).hub.gw.held = []
    ∧ out7d.paused = none
    ∧ out7d.t + msNs out7d.tmo ≤ (sent0 out7d).now
    ∧ ((atVeh (fun v => { v with evq := [5] })).ch 0).veh.evq ≠ []
    ∧ ((atVeh (fun v => { v with evq := [5] })).ch 0).veh.tAttn + 10000000 ≤ up.now
    ∧ (up.ch 0).veh.evq = []
    ∧ up.nid.isSome = true
    ∧ up.gctx.gws.length < 2
    ∧ State.reset.nid = none
    ∧ up.hostOpen 4 = true := by
  refine ⟨?_, ?_, ?_, ?_, ?_, ?_, ?_, ?_, ?_, ?_, ?_, ?_, ?_, ?_, ?_, ?_, ?_, ?_, ?_, ?_, ?_, ?_, ?_, ?_, ?_, ?_, ?_, ?_⟩ <;> decide +kernel
/-- Port 7 of node 9 bound, in a state. -/
def atPort (st : PortState) (n : BitVec 12) : State :=
  { gwUp with hub := { gwUp.hub with gw := { gwUp.hub.gw with
      ports := [{ node := 9, k := 7, rid := 3, r := { status := { state := st, wlen := n } }, buf := [], tHost := 0 }] } } }

theorem witness_WordPorts :
    (atPort .inReady 0).gwOn = true
    ∧ (atPort .inReady 0).hub.gw.role = true
    ∧ gwUp.hub.gw.port 9 7 = none
    ∧ (atPort .inReady 0).hub.gw.port 9 7 = some { node := 9, k := 7, rid := 3, r := { status := { state := .inReady, wlen := 0 } }, buf := [], tHost := 0 }
    ∧ (atPort .outFull 1024).hub.gw.port 9 7 = some { node := 9, k := 7, rid := 3, r := { status := { state := .outFull, wlen := 1024 } }, buf := [], tHost := 0 }
    ∧ 4092 < 4 * (1024 : BitVec 12).toNat
    ∧ (atPort .outEmpty 0).hub.gw.port 9 7 = some { node := 9, k := 7, rid := 3, r := { status := { state := .outEmpty, wlen := 0 } }, buf := [], tHost := 0 }
    ∧ (atPort .inBusy 0).hub.gw.port 9 7 = some { node := 9, k := 7, rid := 3, r := { status := { state := .inBusy, wlen := 0 } }, buf := [], tHost := 0 }
    ∧ 0 + 10000000000 ≤ (atPort .inReady 0).now
    ∧ (atPort .inBusy 0).xferOf 7 = none := by
  refine ⟨?_, ?_, ?_, ?_, ?_, ?_, ?_, ?_, ?_, ?_⟩ <;> decide +kernel
/-- A register access to node 12 sent at time 0. -/
def reading : State :=
  { gwUp with hub := { gwUp.hub with gw := { gwUp.hub.gw with reads := [{ rid := 4095, node := 12, ofs := 0, write := false, t := 0 }] } } }

theorem witness_RegisterPaths :
    gwUp.gwOn = true
    ∧ gwUp.nid ≠ some 12
    ∧ 4 * 24575 < 0x18000
    ∧ gwUp.hub.gw.role = true
    ∧ (gwTime true (peered .none id)).gctx.present.contains 12 = true
    ∧ gwUp.gctx.present.contains 12 = false
    ∧ gwUp.regDead 0x8000 true = false
    ∧ gwUp.memTest (dieOfOfs 0x8000) = false
    ∧ (at0 (fun k => { k with core := { k.core with run := 0 } })).regDead 0x8000 true = true
    ∧ gwUp.hub.gw.reads.find? (fun (x : RegAcc) => decide (x.rid = 4095)) = none
    ∧ reading.hub.gw.reads.find? (fun (x : RegAcc) => decide (x.rid = 4095)) ≠ none
    ∧ 0 + usNs (10 * max 100 (min 1000 reading.hub.gw.r.ctrl.rdTmo.toNat)) ≤ reading.now := by
  refine ⟨?_, ?_, ?_, ?_, ?_, ?_, ?_, ?_, ?_, ?_, ?_, ?_⟩ <;> decide +kernel
/-! ### Keys, life cycle and tamper -/

/-- Channel 0 with its keys changed, in a life-cycle state. -/
def atKey (st : LcState) (f : Key → Key) : State := at0 (fun k => { k with key := f { k.key with r.lcStatus.state := st } })

/-- The hub with its keys changed, in a life-cycle state. -/
def atHubKey (st : LcState) (f : Key → Key) : State := atHub (fun h => { h with key := f { h.key with r.lcStatus.state := st } })

/-- Slots KS0, KS1, KS3 and KS4 loaded. -/
def allLoaded (k : Key) : Key := { k with r := { k.r with keySlotStatus := 0x145 } }

/-- A hold with one input open or none. -/
def inHold (o : Bool) (k : Key) : Key :=
  { k with r := { k.r with tampStatus := { k.r.tampStatus with hold := true, in0Open := o }, tampCfg := { k.r.tampCfg with en0 := true } } }

theorem witness_KeyDescriptors :
    (atKey .service id).takes 0 (desc 0x0701 false true [0x000B0007, 0x1FF]) = true
    ∧ (desc 0x0701 false true [0x000B0007, 0x1FF]).onlyBits [0x000F0007, 0x1FF] = true
    ∧ (desc 0x0701 false true [0x000B0007, 0x1FF]).fld 0 16 4 = 11
    ∧ (desc 0x0701 false true [0x000B0007, 0x1FF]).fld 1 0 9 = 511
    ∧ (atKey .service id).xferOf 7 = none
    ∧ keyClass false 11 = .command
    ∧ keyClass false 12 = .reserved
    ∧ keyClass true 2 = .reserved
    ∧ up.takes 0 (desc 0x0701 false true [0x000C0000, 0]) = true
    ∧ up.takes 0 (desc 0x0701 false true [0x00010000, 0]) = true
    ∧ up.takes 0 (desc 0x0701 false true [0x00040000, 0]) = true
    ∧ (atKey .service id).takes 0 (desc 0x0701 false true [0x00010000, 0]) = true
    ∧ (atKey .service id).xferOf 0 = none
    ∧ ((atKey .service id).keyCtx 0).recOpen = false
    ∧ ((atKey .service id).keyCtx 0).sealed = false
    ∧ (atLedg .service sealedL).takes 0 (desc 0x0701 false true [0x00030000, 0]) = true
    ∧ ((atLedg .service sealedL).keyCtx 0).sealed = true
    ∧ up.takes 0 (desc 0x0702 false true [0x0FF6]) = true
    ∧ (desc 0x0702 false true [0x0FF6]).onlyBits [0xFFFF] = true
    ∧ (desc 0x0702 false true [0x0FF6]).bit 0 11 = true
    ∧ (desc 0x0702 false true [0x0FF6]).bit 0 0 = false
    ∧ (up.keyCtx 0).recOpen = false
    ∧ up.takes 0 (desc 0x0702 false true [0x1000]) = true
    ∧ (desc 0x0702 false true [0x1000]).bit 0 12 = true
    ∧ (atKey .verify allLoaded).takes 0 (desc 0x0703 false true [3]) = true
    ∧ (desc 0x0703 false true [3]).onlyBits [7] = true
    ∧ lcOf 3 = some .field
    ∧ ((atKey .verify allLoaded).keyOf 0).r.lcStatus.debug = false
    ∧ (atKey .provision allLoaded).takes 0 (desc 0x0703 false true [2]) = true
    ∧ lcOf 2 = some .verify
    ∧ (((atKey .provision allLoaded).taken 0 (desc 0x0703 false true [2])).keyOf 0).loaded 3 = true
    ∧ up.takes 0 (desc 0x0703 false true [4]) = true
    ∧ lcOf 4 = some .service
    ∧ up.takes 4 (desc 0x0703 true true [5]) = true
    ∧ lcOf 5 = some .retired
    ∧ (up.keyCtx 4).busy = false
    ∧ up.takes 0 (desc 0x0703 false true [1]) = true
    ∧ lcOf 1 = some .provision
    ∧ (atKey .verify id).takes 0 (desc 0x0704 false true [1]) = true
    ∧ (desc 0x0704 false true [1]).onlyBits [1] = true
    ∧ (desc 0x0704 false true [1]).bit 0 0 = true
    ∧ ((atKey .verify id).keyCtx 0).loopIdle = true
    ∧ up.takes 0 (desc 0x0704 false true [0]) = true
    ∧ (desc 0x0704 false true [0]).bit 0 0 = false
    ∧ up.takes 0 (desc 0x0704 false true [1]) = true
    ∧ up.takes 0 (desc 0x0705 false true []) = true
    ∧ (desc 0x0705 false true []).onlyBits [] = true
    ∧ (up.keyOf 0).r.tampStatus.hold = false
    ∧ ((atHubKey .field (inHold false)).keyOf 4).sourceOpen = false
    ∧ ((atHubKey .field (inHold true)).keyOf 4).sourceOpen = true
    ∧ (atHubKey .field (inHold false)).takes 4 (desc 0x0705 true true []) = true
    ∧ (atHubKey .field (inHold true)).takes 4 (desc 0x0705 true true []) = true
    ∧ up.takes 0 (desc 0x0706 false true [0xFFFFFFFF]) = true
    ∧ (desc 0x0706 false true [0xFFFFFFFF]).onlyBits [0xFFFFFFFF] = true
    ∧ up.takes 0 (desc 0x0701 false true [8, 0]) = true
    ∧ (desc 0x0701 false true [8, 0]).onlyBits [0x000F0007, 0x1FF] = false
    ∧ up.takes 0 (desc 0x0702 false true [0x10000]) = true
    ∧ (desc 0x0702 false true [0x10000]).onlyBits [0xFFFF] = false
    ∧ up.takes 0 (desc 0x0703 false true [8]) = true
    ∧ (desc 0x0703 false true [8]).onlyBits [7] = false
    ∧ up.takes 0 (desc 0x0704 false true [2]) = true
    ∧ (desc 0x0704 false true [2]).onlyBits [1] = false
    ∧ up.takes 0 (desc 0x0705 false true [1]) = true
    ∧ (desc 0x0705 false true [1]).onlyBits [] = false :=
  ⟨takesC _ _ _ _ _ (by decide +kernel) (by decide +kernel),
   by decide +kernel,
   by decide +kernel,
   by decide +kernel,
   by decide +kernel,
   by decide +kernel,
   by decide +kernel,
   by decide +kernel,
   takesC _ _ _ _ _ (by decide +kernel) (by decide +kernel),
   takesC _ _ _ _ _ (by decide +kernel) (by decide +kernel),
   takesC _ _ _ _ _ (by decide +kernel) (by decide +kernel),
   takesC _ _ _ _ _ (by decide +kernel) (by decide +kernel),
   by decide +kernel,
   by decide +kernel,
   by decide +kernel,
   takesC _ _ _ _ _ (by decide +kernel) (by decide +kernel),
   by decide +kernel,
   takesC _ _ _ _ _ (by decide +kernel) (by decide +kernel),
   by decide +kernel,
   by decide +kernel,
   by decide +kernel,
   by decide +kernel,
   takesC _ _ _ _ _ (by decide +kernel) (by decide +kernel),
   by decide +kernel,
   takesC _ _ _ _ _ (by decide +kernel) (by decide +kernel),
   by decide +kernel,
   by decide +kernel,
   by decide +kernel,
   takesC _ _ _ _ _ (by decide +kernel) (by decide +kernel),
   by decide +kernel,
   by decide +kernel,
   takesC _ _ _ _ _ (by decide +kernel) (by decide +kernel),
   by decide +kernel,
   takesC _ _ _ _ _ (by decide +kernel) (by decide +kernel),
   by decide +kernel,
   by decide +kernel,
   takesC _ _ _ _ _ (by decide +kernel) (by decide +kernel),
   by decide +kernel,
   takesC _ _ _ _ _ (by decide +kernel) (by decide +kernel),
   by decide +kernel,
   by decide +kernel,
   by decide +kernel,
   takesC _ _ _ _ _ (by decide +kernel) (by decide +kernel),
   by decide +kernel,
   takesC _ _ _ _ _ (by decide +kernel) (by decide +kernel),
   takesC _ _ _ _ _ (by decide +kernel) (by decide +kernel),
   by decide +kernel,
   by decide +kernel,
   by decide +kernel,
   by decide +kernel,
   takesC _ _ _ _ _ (by decide +kernel) (by decide +kernel),
   takesC _ _ _ _ _ (by decide +kernel) (by decide +kernel),
   takesC _ _ _ _ _ (by decide +kernel) (by decide +kernel),
   by decide +kernel,
   takesC _ _ _ _ _ (by decide +kernel) (by decide +kernel),
   by decide +kernel,
   takesC _ _ _ _ _ (by decide +kernel) (by decide +kernel),
   by decide +kernel,
   takesC _ _ _ _ _ (by decide +kernel) (by decide +kernel),
   by decide +kernel,
   takesC _ _ _ _ _ (by decide +kernel) (by decide +kernel),
   by decide +kernel,
   takesC _ _ _ _ _ (by decide +kernel) (by decide +kernel),
   by decide +kernel⟩
theorem witness_TamperAndCounters :
    ((atKey .field (fun k => { k with r.tampCfg.en0 := true })).keyOf 0).r.tampCfg.en0 = true
    ∧ ((atKey .field (fun k => { k with r.tampCfg.en0 := true })).keyOf 0).r.tampCfg.tf0.toNat ≤ 255
    ∧ 1 ≤ (up.ch 0).core.run
    ∧ (vget up.hub.st 3 {}).hubLost = false
    ∧ detAlarm 3 51 = true
    ∧ detAlarm 3 50 = false
    ∧ detAlarm 4 29 = true
    ∧ detAlarm 4 30 = false
    ∧ detAlarm 5 (-551) = true
    ∧ detAlarm 5 1500 = false
    ∧ detAlarm 6 1 = true
    ∧ detAlarm 6 0 = false
    ∧ up.soleUp 0 3 = true
    ∧ ((atKey .field (fun k => { k with tVol := some up.now })).keyOf 0).tVol = some up.now
    ∧ ((atKey .field (fun k => { k with tVol := some (up.now + 1) })).keyOf 0).tVol = some (up.now + 1)
    ∧ (up.keyOf 0).tVol = none
    ∧ up.hostOpen 0 = true
    ∧ up.hostOpen 4 = true := by
  refine ⟨?_, ?_, ?_, ?_, ?_, ?_, ?_, ?_, ?_, ?_, ?_, ?_, ?_, ?_, ?_, ?_, ?_, ?_⟩ <;> decide +kernel
/-! ### CAN -/

/-- Channel 0 with its bus A changed. -/
def atCan (f : CanBus → CanBus) : State := at0 (fun k => { k with canA := f k.canA })

/-- A controller in a state. -/
def canIn (st : CanState) (c : CanBus) : CanBus := { c with r := { c.r with ctrl := { c.r.ctrl with init := false }, status := { c.r.status with state := st } } }

/-- Its bus A in a state. -/
def busA (s : State) : CanBus := (s.ch 0).bus false

theorem witness_CanStatesAndPorts :
    up.hostOpen 0 = true
    ∧ up.soleUp 0 2 = true
    ∧ up.hub.cob.run = []
    ∧ (busA up).r.status.state = .init
    ∧ ({ (busA up) with r := { (busA up).r with ctrl := { (busA up).r.ctrl.write (0 &&& 0x7FFFFFFF) with recDly := 0 } } } : CanBus).check = true
    ∧ ({ (busA up) with r := { (busA up).r with nbt := { (busA up).r.nbt with nPresc := 0 } } } : CanBus).check = false
    ∧ (busA (atCan (canIn .active))).r.status.state ≠ .init
    ∧ (busA (atCan (canIn .active))).cur = none
    ∧ (busA (atCan (fun c => { canIn .active c with cur := some 63 }))).cur ≠ none
    ∧ (busA up).element ((busA up).addr false) = some (0, false, false)
    ∧ (busA (atCan (fun c => { c with r := { c.r with buftype := Vector.replicate 4 0x55555555 } }))).element 0 = some (0, true, false)
    ∧ (busA (atCan (fun c => { c with r := { c.r with memAddr := 0x5FF } }))).element (4 * 0x5FF) = none
    ∧ (busA (atCan (fun c => { c with r := { c.r with memAddr := 0xFFF } }))).element (4 * 0xFFF) = some (0x1800 + 0x50 * 127, true, false)
    ∧ (busA (atCan (fun c => { c with addrC := 0 }))).word 0 = none
    ∧ (busA (atCan (canIn .integrating))).r.status.state = .integrating
    ∧ (busA (atCan (canIn .integrating))).tec < 128
    ∧ (busA (atCan (fun c => { canIn .integrating c with tec := 255 }))).tec = 255
    ∧ (busA (atCan (fun c => { canIn .integrating c with tec := 256 }))).tec = 256
    ∧ (busA up).onBus = false
    ∧ (busA (atCan (canIn .passive))).onBus = true
    ∧ (busA (atCan (canIn .active))).r.ctrl.mode ≠ 1
    ∧ (busA (atCan (fun c => { canIn .busOff c with r := { (canIn .busOff c).r with ctrl := { c.r.ctrl with autoRec := true } } }))).r.ctrl.autoRec = true
    ∧ (busA (atCan (canIn .busOff))).tBo + msNs (min 1000 (busA (atCan (canIn .busOff))).r.ctrl.recDly.toNat) ≤ up.now
    ∧ (busA (atCan (canIn .recovering))).r.status.state = .recovering
    ∧ (busA (atCan (canIn .active))).initReq = false := by
  refine ⟨?_, ?_, ?_, ?_, ?_, ?_, ?_, ?_, ?_, ?_, ?_, ?_, ?_, ?_, ?_, ?_, ?_, ?_, ?_, ?_, ?_, ?_, ?_, ?_, ?_⟩ <;> decide +kernel
/-- A standard data frame with identifier 0x7FF and no data; a remote frame; an extended one. -/
def fr7FF (w0 : Word) : CanFrame := { w0 := w0, w1 := 0, data := Vector.replicate 16 0 }

/-- A controller on the bus with 64 entries, of which the last takes every standard identifier into receive buffer 63. -/
def canRx (c : CanBus) : CanBus :=
  let c := canIn .active c
  { c with r := { c.r with rxcfg := { c.r.rxcfg with nflt := 64 }, buftype := Vector.replicate 4 0x55555555 } }.put 0x15F8 [0x80000000, 0x9FFC0000]

/-- A controller on the bus whose FIFO holds some elements. -/
def canFifo (n : Nat) (ovw : Bool) (c : CanBus) : CanBus :=
  let c := canIn .active c
  { c with r := { c.r with rxcfg := { c.r.rxcfg with fifoOvw := ovw }, rxfStatus := { c.r.rxfStatus with fill := BitVec.ofNat 8 n } } }

/-- A controller on the bus with buffer 63 of transmit type and pending, or not. -/
def canTx (pend : Bool) (c : CanBus) : CanBus :=
  let c := canIn .active c
  { c with r := { c.r with buftype := Vector.replicate 4 0xAAAAAAAA, txpend := if pend then pairSet c.r.txpend 63 true else c.r.txpend } }

theorem witness_CanTraffic :
    up.soleUp 0 2 = true
    ∧ up.hostOpen 0 = true
    ∧ up.hub.cob.run = []
    ∧ (busA up).onBus = false
    ∧ (busA (atCan canRx)).onBus = true
    ∧ (busA (atCan canRx)).r.ctrl.mode ≠ 3
    ∧ (fr7FF 0x5FFC0000).w0.getLsbD 30 = true
    ∧ (fr7FF 0x5FFC0000).w1.getLsbD 31 = false
    ∧ (busA (atCan (fun c => { canRx c with r := { (canRx c).r with rxcfg := { (canRx c).r.rxcfg with rrf := true } } }))).r.rxcfg.rrf = true
    ∧ (List.range (busA (atCan canRx)).r.rxcfg.nflt.toNat).find? (fun f => (busA (atCan canRx)).matches f (fr7FF 0x1FFC0000).w0) = some 63
    ∧ (List.range (busA (atCan canRx)).r.rxcfg.nflt.toNat).find? (fun f => (busA (atCan canRx)).matches f (fr7FF 0x9FFC0000).w0) = none
    ∧ (busA (atCan canRx)).filtDest 63 = 2
    ∧ (busA (atCan canRx)).btype 63 = 1
    ∧ (busA (atCan canRx)).locked (bufAddr 63) = false
    ∧ (busA (atCan (fun c => { canRx c with lockC := some (bufAddr 63) }))).locked (bufAddr 63) = true
    ∧ (busA (atCan canRx)).hold = none
    ∧ (busA (atCan (fun c => { canRx c with hold := some (none, []) }))).hold ≠ none
    ∧ (busA (atCan (canFifo 127 false))).r.rxfStatus.fill.toNat < 128
    ∧ (busA (atCan (canFifo 127 false))).locked (fifoAddr 0) = false
    ∧ (busA (atCan (canFifo 128 true))).r.rxfStatus.fill = 128
    ∧ (busA (atCan (canFifo 128 true))).r.rxcfg.fifoOvw = true
    ∧ pairBit (busA (atCan (canTx true))).r.txpend 63 = true
    ∧ (∀ j, j < 64 → j ≠ 63 → pairBit (busA (atCan (canTx true))).r.txpend j = false)
    ∧ (∀ j, j < 64 → pairBit (busA (atCan (canTx false))).r.txpend j = false)
    ∧ (busA (atCan (canTx false))).btype 63 = 2
    ∧ (busA (atCan (canTx false))).btype 0 = 2
    ∧ (busA (atCan (fun c => { canTx true c with cur := some 63 }))).cur = some 63
    ∧ (busA (atCan (canTx true))).cur = none
    ∧ (busA (atCan (canTx true))).r.ctrl.selfRx = false
    ∧ (busA (atCan (fun c => { canTx true c with coll := Vector.replicate 64 2 }))).r.ctrl.collLim.toNat ≤ 2 + 1
    ∧ ((0 : BitVec 7) - (busA (atCan (canFifo 1 false))).r.rxfStatus.get).toNat + 1 ≤ (busA (atCan (canFifo 1 false))).r.rxfStatus.fill.toNat
    ∧ (busA (atCan (canFifo 0 false))).r.rxfStatus.fill.toNat < ((0 : BitVec 7) - (busA (atCan (canFifo 0 false))).r.rxfStatus.get).toNat + 1
    ∧ (busA (atCan (fun c => { c with hold := some (some 63, List.replicate 20 0) }))).hold = some (some 63, List.replicate 20 0)
    ∧ (busA (atCan (fun c => { c with hold := some (none, [1]) }))).locked ((busA up).target none) = false
    ∧ (busA (atCan (fun c => { c with lockH := some 0x1800 }))).locked ((busA up).target none) = true := by
  refine ⟨?_, ?_, ?_, ?_, ?_, ?_, ?_, ?_, ?_, ?_, ?_, ?_, ?_, ?_, ?_, ?_, ?_, ?_, ?_, ?_, ?_, ?_, ?_, ?_, ?_, ?_, ?_, ?_, ?_, ?_, ?_, ?_, ?_, ?_, ?_⟩ <;> decide +kernel
/-! ### Clock synthesis -/

/-- Channel 0 with its synthesiser changed. -/
def atClk (f : Clk → Clk) : State := at0 (fun k => { k with clk := f k.clk })

/-- A synthesiser in a state. -/
def kIn (st : ClkState) (x : Clk) : Clk := { x with r := { x.r with status := { x.r.status with state := st } } }

/-- Channel 0 locked, while it transfers power, at an offset. -/
def moving (ofs : BitVec 22) : State :=
  at0 (fun k => { k with
    clk := { kIn .locked k.clk with r := { (kIn .locked k.clk).r with rampNow := { k.clk.r.rampNow with ofs := ofs, running := true } } }
    loop := lIn .cc k.loop })

/-- A locked synthesiser whose profile has a first segment of one step. -/
def profiled (x : Clk) : Clk :=
  let x := kIn .locked x
  { x with r := { x.r with rampCfg := { x.r.rampCfg with mode := 2 }, seg := vset x.r.seg 0 { (vget x.r.seg 0 {}) with steps := 1 } } }

theorem witness_ClockLock :
    up.hostOpen 0 = true
    ∧ (up.ch 0).clk.r.status.state = .locking
    ∧ (up.ch 0).core.pm ≤ 1
    ∧ ((atClk (kIn .locked)).ch 0).clk.r.status.state = .locked
    ∧ ((atClk (kIn .locked)).ch 0).transferring = false
    ∧ ((moving 0).ch 0).transferring = true
    ∧ ((atClk (kIn .failed)).ch 0).clk.r.status.state = .failed
    ∧ ((at0 (fun k => { k with clk := kIn .failed k.clk, core := { k.core with pm := 2 } })).ch 0).core.pm = 2
    ∧ up.soleUp 0 1 = true
    ∧ ((atClk (fun x => { kIn .locked x with r.status.lolNow := true, r.ctrl.auto := true })).ch 0).clk.r.ctrl.auto = true
    ∧ (up.ch 0).clk.r.status.lorNow = false
    ∧ (up.ch 0).clk.tAtt + msNs 5 ≤ up.now
    ∧ 2 ≤ ((atClk (fun x => { x with fails := 2 })).ch 0).clk.fails
    ∧ ((atClk (kIn .locked)).ch 0).clk.r.status.lolNow = false
    ∧ up.soleUp 0 2 = true
    ∧ ((atClk (fun x => { x with r.status.lorNow := true })).ch 0).clk.r.status.lorNow = true
    ∧ up.hub.run ≠ 0 := by
  refine ⟨?_, ?_, ?_, ?_, ?_, ?_, ?_, ?_, ?_, ?_, ?_, ?_, ?_, ?_, ?_, ?_, ?_⟩ <;> decide +kernel
theorem witness_ClockRamp :
    up.hostOpen 0 = true
    ∧ up.soleUp 0 1 = true
    ∧ (up.ch 0).clk.r.status.state ≠ .locked
    ∧ ((atClk profiled).ch 0).clk.r.status.state = .locked
    ∧ ((atClk profiled).ch 0).clk.r.rampCfg.mode = 2
    ∧ (((atClk profiled).ch 0).clk.seg 0).steps ≠ 0
    ∧ (((atClk (kIn .locked)).ch 0).clk.seg 0).steps = 0
    ∧ ((atClk (kIn .locked)).ch 0).clk.r.rampNow.running = false
    ∧ ((atClk (fun x => { kIn .locked x with r.rampNow.running := true })).ch 0).clk.r.rampNow.running = true
    ∧ ((moving 0).ch 0).clk.inWindow = true
    ∧ ((moving 0).ch 0).transferring = true
    ∧ ((moving 671089).ch 0).clk.inWindow = false
    ∧ ((moving 671088).ch 0).clk.inWindow = true
    ∧ (((moving 0).ch 0).clk.left ≤ 1)
    ∧ ((moving 0).ch 0).clk.r.rampNow.seg ≠ 15 := by
  refine ⟨?_, ?_, ?_, ?_, ?_, ?_, ?_, ?_, ?_, ?_, ?_, ?_, ?_, ?_, ?_⟩ <;> decide +kernel
/-! ### Power states, temperature and ageing -/

/-- The module with its power management changed. -/
def atPm (f : Pm → Pm) : State := atHub (fun h => { h with pm := f h.pm })

/-- Unit u in a state, bound for another. -/
def uTo (u st dest : Nat) (p : Pm) : Pm := { (p.setState u st) with u := vset p.u u { dest := some dest, target := dest } }

/-- Die d at a temperature, in a band. -/
def dAt (d : Nat) (t : Int) (band : Nat) (p : Pm) : Pm := { p with th := vset p.th d { (vget p.th d {}) with t := some t, band := band, tHot := some 0, level := 1 } }

theorem witness_PowerStates :
    up.hub.run = 2
    ∧ (atPm (fun p => { p with r := { p.r with pmCtrl := { p.r.pmCtrl with auto := false } } })).hub.pm.r.pmCtrl.auto = false
    ∧ (atPm (fun p => { p with r := { p.r with pmCtrl := { p.r.pmCtrl with auto := true } } })).hub.pm.r.pmCtrl.auto = true
    ∧ (199 : BitVec 24) ≠ 0xFFFFFF
    ∧ exitUs false 1 = 200
    ∧ (vget up.hub.pm.u 4 {}).dest = none
    ∧ (vget (atPm (uTo 3 4 0)).hub.pm.u 3 {}).dest = some 0
    ∧ (atPm (uTo 3 4 0)).hub.pm.state 3 = 4
    ∧ (vget (atPm (fun p => { p with u := vset p.u 3 { target := 4, tLow := some 0 } })).hub.pm.u 3 {}).tLow = some 0
    ∧ (atPm id).hub.pm.state 3 < (vget (atPm (fun p => { p with u := vset p.u 3 { target := 4, tLow := some 0 } })).hub.pm.u 3 {}).target
    ∧ 0 + msNs (max 10 (min 60000 up.hub.pm.r.pmCtrl.dwell.toNat)) ≤ up.now
    ∧ up.hub.cob.run = []
    ∧ (vget (atPm (uTo 4 2 0)).hub.pm.u 4 {}).dest = some 0
    ∧ (atPm (uTo 4 2 0)).hub.dram.bad.getLsbD 2 = false
    ∧ (vget (atPm (uTo 0 3 2)).hub.pm.u 0 {}).dest = some 2
    ∧ (atPm (uTo 0 3 2)).hub.pm.state 0 = 3
    ∧ (vget (atPm (uTo 0 0 4)).hub.pm.u 0 {}).dest = some 4
    ∧ (up.ch 0).clk.pend = false
    ∧ ((atClk (fun x => { kIn .locked x with pend := true })).ch 0).clk.pend = true := by
  refine ⟨?_, ?_, ?_, ?_, ?_, ?_, ?_, ?_, ?_, ?_, ?_, ?_, ?_, ?_, ?_, ?_, ?_, ?_, ?_⟩ <;> decide +kernel
theorem witness_HeatAndAgeing :
    up.hub.run = 2
    ∧ (∀ x, x ∈ ([400, 450, 1600].take (sensorsOf 0) : List Int) → -600 ≤ x ∧ x ≤ 1600)
    ∧ (∀ x, x ∈ ([-600, -600].take (sensorsOf 10) : List Int) → -600 ≤ x ∧ x ≤ 1600 ∧ (2 * x - median2 ([-600, -600].take (sensorsOf 10))).natAbs ≤ 400)
    ∧ (∀ x, x ∈ ([-601, 1601].take (sensorsOf 0) : List Int) → x < -600 ∨ 1600 < x)
    ∧ ((atPm (dAt 4 1200 4)).hub.pm.die 4).band = 4
    ∧ ((atPm (dAt 4 1200 1)).hub.pm.die 4).t = some 1200
    ∧ (atPm (dAt 4 1200 1)).hub.pm.thrT ≤ 1200
    ∧ 500 < (atPm (dAt 4 500 1)).hub.pm.thrT - 30
    ∧ ((atPm (dAt 4 500 1)).hub.pm.die 4).tFall + sNs 1 ≤ up.now
    ∧ ((atPm (dAt 4 500 1)).hub.pm.die 4).tHot = some 0
    ∧ 0 + msNs 100 ≤ up.now
    ∧ up.soleUp 3 2 = true
    ∧ State.reset.soleUp 3 2 = false
    ∧ ((at0 (fun k => { k with loop := lIn .cc k.loop })).ch 0).loop.r.status.state = .cc
    ∧ up.hostOpen 4 = true
    ∧ ((0xFFFFFFFA : Word).extractLsb' 0 4).toNat ≤ 10
    ∧ 10 < ((0xB : Word).extractLsb' 0 4).toNat
    ∧ (∃ x, x ∈ ([15, 14] : List Int).take 8 ∧ x < 15)
    ∧ (¬ ∃ x, x ∈ ([15, 20] : List Int).take 8 ∧ x < 15)
    ∧ (up.hub.pm.ag 4).tPlan + 3600 * sNs (max 1 (min 168 1)) ≤ 4000 * 1000000000
    ∧ up.now < (up.hub.pm.ag 4).tPlan + 3600 * sNs (max 1 (min 168 up.hub.pm.r.ageCfg.replan.toNat))
    ∧ ({ up with now := 700000000000000 } : State).hub.pm.r.ageCfg.replan.toNat ≤ 168
    ∧ (up.hub.pm.ag 4).tPlan + 3600 * sNs (max 1 (min 168 up.hub.pm.r.ageCfg.replan.toNat)) ≤ ({ up with now := 700000000000000 } : State).now
    ∧ (up.hub.pm.ag 0).margin = none
    ∧ ((atPm (fun p => { p with age := Vector.replicate 5 { vSet := 850, slack := Vector.replicate 8 [10, 10] } })).hub.pm.ag 0).margin.any (fun m => decide (m < 5 * (max 4 (min 40 up.hub.pm.r.ageCfg.mTgt.toNat) : Int))) = true
    ∧ up.hub.ring.timeValid = true
    ∧ (up.hub.pm.ag 4).recs.head? = none
    ∧ noSite.hub.ring.timeValid = false :=
  ⟨by decide +kernel,
   by decide +kernel,
   by decide +kernel,
   by decide +kernel,
   by decide +kernel,
   by decide +kernel,
   by decide +kernel,
   by decide +kernel,
   by decide +kernel,
   by decide +kernel,
   by decide +kernel,
   by decide +kernel,
   by decide +kernel,
   by decide +kernel,
   by decide +kernel,
   by decide +kernel,
   by decide +kernel,
   ⟨14, by decide⟩,
   by decide,
   by decide +kernel,
   by decide +kernel,
   by decide +kernel,
   by decide +kernel,
   by decide +kernel,
   by decide +kernel,
   by decide +kernel,
   by decide +kernel,
   by decide +kernel⟩
/-! ### The self-test -/

/-- A state with the self-tests changed. -/
def withCob (s : State) (f : Cob → Cob) : State := { s with hub := { s.hub with cob := f s.hub.cob } }

/-- A task of a die. -/
def task (die test : Nat) : CobTask := { die := die, test := test, byDesc := true }

theorem witness_SelfTests :
    up.hub.run = 2
    ∧ (vget up.hub.fw 4 {}).act = false
    ∧ up.takes 0 (desc 0x0901 false false [6, 0]) = true
    ∧ (desc 0x0901 false false [6, 0]).onlyBits [0xFFFE, 1] = true
    ∧ (List.range 16).filter (fun i => (desc 0x0901 false false [6, 0]).bit 0 i) = [1, 2]
    ∧ (∀ i, i ∈ [1, 2] → up.cobLc 0 i = true)
    ∧ (∀ i, i ∈ [1, 2] → up.cobCond 0 i false = true)
    ∧ up.hub.cob.jobs = []
    ∧ up.takes 0 (desc 0x0901 false false [0xFC00, 0]) = true
    ∧ (List.range 16).filter (fun i => (desc 0x0901 false false [0xFC00, 0]).bit 0 i) = [10, 11, 12, 13, 14, 15]
    ∧ (atKey .blank id).takes 0 (desc 0x0901 false false [8, 0]) = true
    ∧ (atKey .blank id).cobLc 0 3 = false
    ∧ up.takes 0 (desc 0x0901 false false [0x100, 0]) = true
    ∧ (up.ch 0).heldTest = false
    ∧ (withCob up (fun c => { c with jobs := [{ die := 0, ref := up.refOf 0 (desc 0x0901 false false []), left := [1] }] })).takes 0 (desc 0x0901 false false [2, 0]) = true
    ∧ unlinked.takes 0 (desc 0x0901 false false [0x200, 0]) = true
    ∧ unlinked.cobCond 0 9 false = false
    ∧ up.takes 4 (desc 0x0902 true false []) = true
    ∧ (desc 0x0902 true false []).onlyBits [] = true
    ∧ up.hub.cob.run = []
    ∧ up.hub.cob.queue = []
    ∧ (withCob up (fun c => { c with run := [{ task := task 4 10, t := 0 }] })).takes 4 (desc 0x0902 true false []) = true
    ∧ up.takes 4 (desc 0x0903 true true [0x27601E06]) = true
    ∧ (desc 0x0903 true true [0x27601E06]).onlyBits [0xFFFFFFFE] = true
    ∧ (desc 0x0903 true true [0x27601E06]).fld 0 16 16 = 10080
    ∧ (List.range 16).filter (fun i => (desc 0x0903 true false [0x27601E06]).bit 0 i) = [1, 2, 9, 10, 11, 12]
    ∧ up.takes 4 (desc 0x0903 true true [0x000A0002]) = true
    ∧ (desc 0x0903 true true [0x000A0002]).fld 0 16 16 = 10
    ∧ up.takes 4 (desc 0x0903 true true [0x00090002]) = true
    ∧ (desc 0x0903 true true [0x00090002]).fld 0 16 16 = 9
    ∧ up.takes 4 (desc 0x0903 true true [0x000A0008]) = true
    ∧ (withCob up (fun c => { c with r := { c.r with sched := { interval := 10, mask := 0x7FFF } } })).hub.cob.r.sched.mask.getLsbD (12 - 1) = true
    ∧ vget up.hub.cob.tBoot 4 0 + 10 * 60000000000 * (4 + 1) / 5 ≤ up.now
    ∧ up.cobNext = none
    ∧ (withCob up (fun c => { c with queue := [task 4 10] })).cobNext = some (task 4 10)
    ∧ (withCob up (fun c => { c with queue := [task 4 10] })).cobCond 4 10 false = true
    ∧ (withCob up (fun c => { c with queue := [task 0 1] })).cobNext = some (task 0 1)
    ∧ (withCob up (fun c => { c with queue := [task 0 8] })).cobNext = some (task 0 8)
    ∧ (withCob up (fun c => { c with queue := [task 0 8] })).cobCond 0 8 false = false
    ∧ (withCob up (fun c => { c with run := [{ task := task 4 10, t := 0 }] })).hub.cob.run.find? (fun (r : CobRun) => decide (r.task.die = 4)) = some { task := task 4 10, t := 0 }
    ∧ (withCob up (fun c => { c with run := [{ task := task 4 10, t := 0 }] })).cobCut { task := task 4 10, t := 0 } = false
    ∧ (withCob up (fun c => { c with run := [{ task := task 0 8, t := 0 }] })).cobCut { task := task 0 8, t := 0 } = true
    ∧ ({ up with chans := vset up.chans 0 { (up.ch 0) with core.r.svc := { state := .held, purpose := .test, stop := false } } } : State).cobCut { task := task 0 7, t := 0 } = false
    ∧ (task 4 10).tQ + sNs 86400 ≤ ({ up with now := 86400000000000 } : State).now
    ∧ up.hostOpen 4 = true
    ∧ up.hub.cob.res = [] :=
  ⟨by decide +kernel,
   by decide +kernel,
   by decide +kernel,
   by decide +kernel,
   by decide +kernel,
   by decide +kernel,
   by decide +kernel,
   by decide +kernel,
   by decide +kernel,
   by decide +kernel,
   by decide +kernel,
   by decide +kernel,
   by decide +kernel,
   by decide +kernel,
   by decide +kernel,
   by decide +kernel,
   by decide +kernel,
   by decide +kernel,
   by decide +kernel,
   by decide +kernel,
   by decide +kernel,
   by decide +kernel,
   takesC _ _ _ _ _ (by decide +kernel) (by decide +kernel),
   by decide +kernel,
   by decide +kernel,
   by decide +kernel,
   takesC _ _ _ _ _ (by decide +kernel) (by decide +kernel),
   by decide +kernel,
   takesC _ _ _ _ _ (by decide +kernel) (by decide +kernel),
   by decide +kernel,
   takesC _ _ _ _ _ (by decide +kernel) (by decide +kernel),
   by decide +kernel,
   by decide +kernel,
   by decide +kernel,
   by decide +kernel,
   by decide +kernel,
   by decide +kernel,
   by decide +kernel,
   by decide +kernel,
   by decide +kernel,
   by decide +kernel,
   by decide +kernel,
   by decide +kernel,
   by decide +kernel,
   by decide +kernel,
   by decide +kernel⟩
/-! ### Start-up, power failure and resets -/

/-- The module with its supply changed. -/
def atPwr (f : PowerDie → PowerDie) : State := { up with pwr := f up.pwr }

theorem witness_SupplyAndResetPin :
    (atPwr (fun p => { p with vaux := false })).pwr.vaux = false
    ∧ up.pwr.tPf = none
    ∧ 6000 ≤ 6000
    ∧ State.reset.hub.r.rstStatus.vholdOk = false
    ∧ (atHub (fun h => { h with r := { h.r with rstStatus := { h.r.rstStatus with vholdOk := true } } })).hub.r.rstStatus.vholdOk = true
    ∧ (decide (400 ≤ 400) || (decide (380 ≤ 400) && State.reset.hub.r.rstStatus.vholdOk)) = true
    ∧ (decide (400 ≤ 399) || (decide (380 ≤ 399) && State.reset.hub.r.rstStatus.vholdOk)) = false
    ∧ up.pwr.rails = true
    ∧ (atPwr (fun p => { p with rails := false })).pwr.rails = false
    ∧ up.pwr.pin = false
    ∧ 31999 / 40 < 800
    ∧ ¬ 32000 / 40 < 800
    ∧ up.pwr.vaux = true
    ∧ 5699 < 5700
    ∧ (up.ch 3).core.run = 2
    ∧ (atPwr (fun p => { p with tPf := some 0 })).pwr.tPf = some 0
    ∧ 0 + msNs 12 ≤ up.now
    ∧ (atPwr (fun p => { p with tPf := some up.now })).now < up.now + msNs 12
    ∧ (atPwr (fun p => { p with pin := true })).pwr.pin = true
    ∧ up.hub.r.rstStatus.pinMasked = false
    ∧ up.pwr.off.getLsbD 4 = false
    ∧ (atPwr (fun p => { p with tSurge := some up.now })).now < up.now + sNs 10
    ∧ (¬ (58000 < 58000 ∨ (45000 < 58000 ∧ (400000 < 400000 ∨ ∃ t, up.pwr.tSurge = some t ∧ up.now < t + sNs 10)))) :=
  ⟨by decide +kernel,
   by decide +kernel,
   by decide +kernel,
   by decide +kernel,
   by decide +kernel,
   by decide +kernel,
   by decide +kernel,
   by decide +kernel,
   by decide +kernel,
   by decide +kernel,
   by decide +kernel,
   by decide +kernel,
   by decide +kernel,
   by decide +kernel,
   by decide +kernel,
   by decide +kernel,
   by decide +kernel,
   by decide +kernel,
   by decide +kernel,
   by decide +kernel,
   by decide +kernel,
   by decide +kernel,
   by rintro (h | ⟨-, h | ⟨t, h, -⟩⟩) <;> revert h <;> simp [up, State.reset]⟩
theorem witness_BootsAndWatchdogs :
    State.reset.hub.run = 1
    ∧ (vget State.reset.hub.fw 4 {}).s0.isSome = true
    ∧ State.reset.hub.key.inputOpen = false
    ∧ (atHubKey .field (inHold true)).hub.key.inputOpen = true
    ∧ ((at0 (fun k => { k with core := { k.core with run := 1 } })).ch 0).core.run = 1
    ∧ ((at0 (fun k => { k with core := { k.core with run := 1 } })).ch 0).key.r.tampStatus.hold = false
    ∧ ((at0 (fun k => { k with core := { k.core with run := 1 } })).ch 0).key.inputOpen = false
    ∧ ((at0 (fun k => { k with core := { k.core with run := 1 }, key := inHold true k.key })).ch 0).key.r.tampStatus.hold = true
    ∧ up.takes 4 (desc 0x0707 true true []) = true
    ∧ (desc 0x0707 true true []).onlyBits [] = true
    ∧ up.hub.r.rstStatus.ackPend = false
    ∧ (atHub (fun h => { h with r := { h.r with rstStatus := { h.r.rstStatus with ackPend := true } } })).takes 4 (desc 0x0707 true true []) = true
    ∧ up.hub.key.r.lcStatus.state = .field
    ∧ up.hub.run = 2
    ∧ (up.ch 3).core.run = 2
    ∧ (up.ch 0).core.run = 2
    ∧ up.soleUp 0 1 = true
    ∧ ((atVeh (fun v => { vIn .shutdown v with stopAns := true })).ch 0).veh.stopAns = true
    ∧ ((atVeh (vIn .discovery)).ch 0).veh.causeSet = false
    ∧ ((atVeh (vIn .discovery)).ch 0).veh.r.status.state = .discovery
    ∧ ((atVeh (vIn .transfer)).ch 0).veh.r.status.state = .transfer
    ∧ (up.ch 0).veh.r.status.state = .off :=
  ⟨by decide +kernel,
   by decide +kernel,
   by decide +kernel,
   by decide +kernel,
   by decide +kernel,
   by decide +kernel,
   by decide +kernel,
   by decide +kernel,
   takesC _ _ _ _ _ (by decide +kernel) (by decide +kernel),
   by decide +kernel,
   by decide +kernel,
   takesC _ _ _ _ _ (by decide +kernel) (by decide +kernel),
   by decide +kernel,
   by decide +kernel,
   by decide +kernel,
   by decide +kernel,
   by decide +kernel,
   by decide +kernel,
   by decide +kernel,
   by decide +kernel,
   by decide +kernel,
   by decide +kernel⟩
/-! ### Registers, links and rails -/

theorem witness_RegisterAccess :
    0x17FFC % 4 = 0
    ∧ (at0 (fun k => { k with core := { k.core with run := 0 } })).regDead 0x8000 true = true
    ∧ State.reset.regDead 0x17FFC true = true
    ∧ State.reset.regDead 0x17FFC false = true
    ∧ up.hostOpen 4 = true
    ∧ up.hubPeek 0x7FFC = none
    ∧ (hubCmdReg 0x4000 = true ∨ up.hubPeek 0x7FF8 = none)
    ∧ up.hostOpen 3 = true
    ∧ (up.ch 3).regPeek 0x3FFC = none
    ∧ (up.ch 0).regPeek 0xB08 ≠ none
    ∧ 0xB08 ∉ chCmdRegs
    ∧ 0xB08 ∉ chSealedRegs
    ∧ 0x420 ∈ chSealedRegs
    ∧ ((atLedg .verify sealedL).ch 0).ledg.r.status.sealed = true
    ∧ (up.ch 0).ledg.r.status.sealed = false
    ∧ dieOfOfs 0x3104 = 4
    ∧ blockOfs 0x3104 ∈ pairLows true
    ∧ dieOfOfs (0x8000 + 0x4000 * 3 + 0x650) = 3
    ∧ blockOfs (0x8000 + 0x4000 * 3 + 0x650) ∈ pairLows false
    ∧ blockOfs 0x3108 ∉ pairLows true
    ∧ ((atHub (fun h => { h with snaps := [(0x3104, 5)] })).regView 4).hub.snaps.find? (fun x => decide (x.1 = ((atHub (fun h => { h with snaps := [(0x3104, 5)] })).regView 4).snapKey 0x3104)) = some (0x3104, 5) := by
  refine ⟨?_, ?_, ?_, ?_, ?_, ?_, ?_, ?_, ?_, ?_, ?_, ?_, ?_, ?_, ?_, ?_, ?_, ?_, ?_, ?_, ?_⟩ <;> decide +kernel
/-- The stitch link of channel 0 changed. -/
def atLink (f : Stitch → Stitch) : State := up.onStitch 0 f

theorem witness_LinksAndRails :
    2 ≤ up.hub.run
    ∧ (up.ch 3).core.run ≠ 0
    ∧ (vget up.hub.st 3 {}).retrain = false
    ∧ (State.reset.ch 0).core.run = 0
    ∧ (vget up.hub.st 0 {}).failS < 3
    ∧ 3 ≤ (vget (atLink (fun t => { t with failS := 3, failH := 3 })).hub.st 0 {}).failS
    ∧ (vget up.hub.st 0 {}).hubLost = false
    ∧ (vget up.hub.st 0 {}).tSole + usNs 50 ≤ up.now
    ∧ (vget up.hub.st 0 {}).soleLost = false
    ∧ (vget up.hub.st 0 {}).tHub + usNs 50 ≤ up.now
    ∧ up.nid = some 9
    ∧ up.hub.gw.held = []
    ∧ State.reset.nid = none
    ∧ (vget (atLink (fun t => { t with lost := 1 })).hub.st 0 {}).lost ≠ 0
    ∧ up.hub.run = 2
    ∧ ((at0 (fun k => { k with met := { k.met with r := { k.met.r with capStatus := { k.met.r.capStatus with state := .armed } } } })).ch 0).met.r.capStatus.state = .armed
    ∧ up.pwr.rails = true
    ∧ up.pwr.off.getLsbD 4 = false
    ∧ up.soleUp 0 3 = true
    ∧ (up.ch 0).ey.report = false
    ∧ ((atEy (fun y => { y with report := true, fault := { y.fault with oc := 0x80 } })).ch 0).ey.fault ≠ {}
    ∧ ((atEy (fun y => { y with report := true, fault := { y.fault with oc := 0x80 } })).ch 0).ey.report = true := by
  refine ⟨?_, ?_, ?_, ?_, ?_, ?_, ?_, ?_, ?_, ?_, ?_, ?_, ?_, ?_, ?_, ?_, ?_, ?_, ?_, ?_, ?_, ?_⟩ <;> decide +kernel
/-! ### The machine as a whole -/

/-- The outcome is a next state. -/
def isNext (o : Host.Outcome State Fault Refusal) : Bool := match o with | .next _ => true | _ => false

theorem next_of {o : Host.Outcome State Fault Refusal} (h : isNext o = true) : ∃ t, o = .next t := by
  cases o with
  | next t => exact ⟨t, rfl⟩
  | fault f => cases h
  | refused r => cases h

theorem witness_StepRunsTheFrontCommand :
    (up.withFront (.pllLol 0)).pending ≠ []
    ∧ up.pending = [] := by
  refine ⟨?_, ?_⟩ <;> decide +kernel
theorem witness_PortsAndTestsStayApart :
    up.portsApart = true
    ∧ up.testsApart = true
    ∧ State.reset.portsApart = true
    ∧ State.reset.testsApart = true
    ∧ (∃ t, step up = .next t) :=
  ⟨by decide +kernel,
   by decide +kernel,
   by decide +kernel,
   by decide +kernel,
   by exact next_of (by decide +kernel)⟩
theorem witness_CanMemoryStaysCanonical :
    (∀ n, n < 4 → ∀ b : Bool, Memory.wf canDflt ((up.ch n).bus b).mem = true)
    ∧ (∀ n, n < 4 → ∀ b : Bool, Memory.wf canDflt (((atCan canRx).ch n).bus b).mem = true)
    ∧ (∃ t, step up = .next t) :=
  ⟨by decide +kernel,
   by decide +kernel,
   by exact next_of (by decide +kernel)⟩
theorem witness_WhatEveryCommandKeeps :
    (∃ t, exec (.resetUnmask 0) up = .next t) :=
  by exact next_of (by decide +kernel)
theorem witness_WhatFollowsACommand :
    State.reset.settled = true
    ∧ ({ State.reset with hub := { State.reset.hub with run := 0 } } : State).hub.ringRuns = false
    ∧ up.settled = true
    ∧ up.hubView.quiet = true := by
  refine ⟨?_, ?_, ?_, ?_⟩ <;> decide +kernel
/-! ### Ill-formed commands are refused by the check -/

theorem test_wf_offset : (Instr.registerWrite 0x20000 0 true).wf = false := by decide +kernel
theorem test_wf_channel : (Instr.periodWrite 4 0).wf = false := by decide +kernel
theorem test_wf_region : (Instr.dramError 8 true).wf = false := by decide +kernel
theorem test_wf_die : (Instr.railFault 5).wf = false := by decide +kernel
theorem test_wf_phase : (Instr.carrierStart 0 24).wf = false := by decide +kernel
theorem test_wf_gate : (Instr.gateFaultInput 0 6 false 0).wf = false := by decide +kernel
theorem test_wf_opcode : (Instr.loopStart (desc 0x0205 false false [])).wf = false := by decide +kernel
theorem test_wf_gcid : (Instr.ghostTimeout 256).wf = false := by decide +kernel
theorem test_wf_cap : (Instr.curtailExpiry 9).wf = false := by decide +kernel
theorem test_wf_config : (Instr.configStore 64 []).wf = false := by decide +kernel
theorem test_wf_stream : (Instr.streamFault 0 12).wf = false := by decide +kernel
theorem test_wf_trigger : (Instr.capTriggerEvent 0 5).wf = false := by decide +kernel
theorem test_wf_delivery : (Instr.powerDeliveryReq 0 3).wf = false := by decide +kernel
theorem test_wf_output : (Instr.inrushWindowEnd 0 8).wf = false := by decide +kernel
theorem test_wf_path : (Instr.safePdu 0 4 (Vector.replicate 4 0)).wf = false := by decide +kernel
theorem test_wf_source : (Instr.safePathLost 0 6 false).wf = false := by decide +kernel
theorem test_wf_block_word : (Instr.paramBlockCheck 0 16 0).wf = false := by decide +kernel
theorem test_wf_links : (Instr.sync true 65 (Vector.replicate 5 0) 0).wf = false := by decide +kernel
theorem test_wf_node : (Instr.remoteRegisterAccess 64 0 false 0).wf = false := by decide +kernel
theorem test_wf_tag : (Instr.remoteReadTimeout 4096).wf = false := by decide +kernel
theorem test_wf_ring : (Instr.sqDoorbell 64 0).wf = false := by decide +kernel
theorem test_wf_fetch : (Instr.descriptorFetch 0 true (List.replicate 9 (Vector.replicate 16 0))).wf = false := by decide +kernel
theorem test_wf_port : (Instr.wpAck 0 8).wf = false := by decide +kernel
theorem test_wf_window : (Instr.wpDataAccess 0 0 4096 false 0).wf = false := by decide +kernel
theorem test_wf_buffer : (Instr.canTxRequest 0 false 64).wf = false := by decide +kernel
theorem test_wf_synth : (Instr.hubLossOfLock 5 true).wf = false := by decide +kernel
theorem test_wf_unit : (Instr.pmLower 5).wf = false := by decide +kernel
theorem test_wf_wake : (Instr.pmWake 0 10).wf = false := by decide +kernel
theorem test_wf_sensor_die : (Instr.tempConversion 11 []).wf = false := by decide +kernel
theorem test_wf_test : (Instr.cobTestDue 0 16).wf = false := by decide +kernel

/-! ### Single commands, with results worked out by hand from the rules -/

/-- A field of the state after a command; none where the command does not answer a next state. -/
def after {α : Type} (c : Instr) (s : State) (f : State → α) : Option α :=
  match exec c s with
  | .next t => some (f t)
  | _ => none

/-- R65: the least period. -/
theorem test_period_write : after (.periodWrite 0 32000) up (fun t => (t.ch 0).pwm.r.period) = some 32000 := by decide +kernel
/-- R65: a period below the range is ignored. -/
theorem test_period_low :
    after (.periodWrite 0 31999) up (fun t => ((t.ch 0).pwm.r.period, (t.ch 0).pwm.r.status.wrIgn)) = some (0x27100, true) := by decide +kernel
/-- R72: ARM moves DISABLED to READY. -/
theorem test_arm : after (.arm 0) (atPwm (pIn .disabled)) (fun t => (t.ch 0).pwm.r.status.state) = some .ready := by decide +kernel
/-- R398, R399: the first trip of an output that is on: PAUSE for PAUSE0, 10 ms at reset. -/
theorem test_eyelet_trip :
    after (.eyOvercurrentTrip 0 7 100) (atEy (oIn .on)) (fun t => ((out7 t).st, (out7 t).fcnt, (out7 t).pause)) = some (.pause, 1, 10000000) := by
  decide +kernel
/-- R642: from far below the running window the offset moves by 32,767 LSB. -/
theorem test_clock_window :
    after (.rampStep 0) (moving (BitVec.ofInt 22 (-1973000))) (fun t => (t.ch 0).clk.r.rampNow.ofs.toInt) = some (-1940233) := by decide +kernel
/-- R669: 40.0 °C, the highest of two sensors. -/
theorem test_temperature : after (.tempConversion 0 [380, 400]) up (fun t => (t.hub.pm.die 0).t) = some (some 400) := by decide +kernel
/-- R727: a surge beyond 58 V. -/
theorem test_surge : (match exec (.vauxSurge 58001 1) up with | .fault f => some f | _ => none) = some .beyondRatings := by decide +kernel
/-- R710: 40.0 V on the hold-up store is enough for the Soles to boot. -/
theorem test_vhold : after (.vholdOk 400) State.reset (fun t => (t.hub.r.rstStatus.vholdOk, (t.ch 3).core.run)) = some (true, 1) := by decide +kernel
/-- R545: an entry within the ring. -/
theorem test_doorbell : after (.sqDoorbell 63 15) (atRing .active id) (fun t => (r63 t).sqTail) = some 15 := by decide +kernel
/-- R518: a doorbell word past the ring. -/
theorem test_doorbell_high : after (.sqDoorbell 63 16) (atRing .active id) (fun t => (r63 t).st) = some .error := by decide +kernel
/-- R629: a receive error that the controller did not flag first counts 1. -/
theorem test_can_error :
    after (.canRxError 0 false 1 false 1) (atCan (canIn .active)) (fun t => (busA t).r.err.recF) = some 1 := by decide +kernel
/-- R19, R51: a write off a word is counted and changes nothing else of the gateway. -/
theorem test_unaligned_write : after (.registerWrite 0x3001 5 true) up (fun t => vget t.hub.gw.cnt 0 0) = some 1 := by decide +kernel

/-! ### The algorithms the rules name, on published vectors -/

/-- CRC-32C of the nine digits (R159 names the polynomial). -/
theorem test_crc32c : crc32cBytes [0x31, 0x32, 0x33, 0x34, 0x35, 0x36, 0x37, 0x38, 0x39] = 0xE3069283 := by decide +kernel
/-- AES-128 of FIPS 197, appendix C.1. -/
theorem test_aes : aes (List.range 16) ((List.range 16).map (fun i => 17 * i))
    = [0x69, 0xc4, 0xe0, 0xd8, 0x6a, 0x7b, 0x04, 0x30, 0xd8, 0xcd, 0xb7, 0x80, 0x70, 0xb4, 0xc5, 0x5a] := by decide +kernel
/-- AES-CMAC of the empty message, RFC 4493. -/
theorem test_cmac : cmac [0x2b, 0x7e, 0x15, 0x16, 0x28, 0xae, 0xd2, 0xa6, 0xab, 0xf7, 0x15, 0x88, 0x09, 0xcf, 0x4f, 0x3c] []
    = [0xbb, 0x1d, 0x69, 0x29, 0xe9, 0x59, 0x37, 0x28, 0x7f, 0xa3, 0x7d, 0x12, 0x9b, 0x75, 0x67, 0x46] := by decide +kernel

end Sys2Proof.Tests
end

namespace Sys2Proof.Machine

/-! ### What a channel sends changes nothing but the paths it takes -/

/-- A stitch link without the entries its Sole keeps. -/
def Stitch.bare (t : Stitch) : Stitch := { t with kept := [], lost := 0, lostSafe := 0 }

theorem Stitch.keep_bare (t : Stitch) (x : JEntry) : (t.keep x).bare = t.bare := by
  simp only [Stitch.keep]
  split
  · rfl
  · split
    · rfl
    · split <;> rfl

/-- The stitch link of a channel. -/
def State.link (s : State) (n : Nat) : Stitch := vget s.hub.st n {}

/-- The state without the channels, the stitch links and what messages pass through: the ring, the gateway, the journal and
what has left the module. -/
def State.still (s : State) : State :=
  { s with
    chans := Vector.replicate 4 {}
    out := []
    hub := { s.hub with ring := {}, gw := {}, st := Vector.replicate 4 {}, jnl := [], jbuf := [] } }

section Still

variable {s t : State} (h : t.still = s.still)
include h

theorem State.now_of_still : t.now = s.now := (congrArg State.now h :)

theorem State.pwr_of_still : t.pwr = s.pwr := (congrArg State.pwr h :)

theorem State.run_of_still : t.hub.run = s.hub.run := (congrArg (fun u => u.hub.run) h :)

theorem State.hubRegs_of_still : t.hub.r = s.hub.r := (congrArg (fun u => u.hub.r) h :)

theorem State.dram_of_still : t.hub.dram = s.hub.dram := (congrArg (fun u => u.hub.dram) h :)

end Still

/-- t is s after messages of channel n have left it: journal entries, completions and frames on their way, nothing else. -/
structure State.Emits (n : Nat) (s t : State) : Prop where
  still : t.still = s.still
  chans : t.chans = s.chans
  other : ∀ m, m ≠ n → t.link m = s.link m
  bare : (t.link n).bare = (s.link n).bare

namespace State.Emits

variable {n : Nat} {s t u : State}

theorem refl (n : Nat) (s : State) : State.Emits n s s := ⟨rfl, rfl, fun _ _ => rfl, rfl⟩

theorem trans (h : State.Emits n s t) (g : State.Emits n t u) : State.Emits n s u :=
  ⟨g.still.trans h.still, g.chans.trans h.chans, fun m hm => (g.other m hm).trans (h.other m hm), g.bare.trans h.bare⟩

theorem foldl {α : Type} (f : State → α → State) (hf : ∀ u a, State.Emits n u (f u a)) (l : List α) (s : State) :
    State.Emits n s (l.foldl f s) := by
  induction l generalizing s with
  | nil => exact refl n s
  | cons a l ih => exact (hf s a).trans (ih (f s a))

theorem originate (n : Nat) (s : State) (t : FType) (dst : Option Nat) (ws : List Word) :
    State.Emits n s (s.originate t dst ws) := by
  unfold State.originate
  split <;> exact ⟨rfl, rfl, fun _ _ => rfl, rfl⟩

theorem complete (n : Nat) (s : State) (c : Compl) : State.Emits n s (s.complete c) := by
  unfold State.complete
  split
  · exact ⟨rfl, rfl, fun _ _ => rfl, rfl⟩
  · exact originate n s _ _ _

theorem attention (n : Nat) (s : State) (w : Word) : State.Emits n s (s.attention w) := by
  unfold State.attention
  split
  · exact refl n s
  · refine trans ?_ (foldl _ (fun u m => originate n u _ _ _) _ _)
    split <;> exact ⟨rfl, rfl, fun _ _ => rfl, rfl⟩

theorem emit (n : Nat) (s : State) (o : Out) : State.Emits n s (s.emit o) := by
  unfold State.emit
  split
  · exact originate n s _ _ _
  · exact attention n s _
  · exact attention n s _
  · exact ⟨rfl, rfl, fun _ _ => rfl, rfl⟩

end State.Emits

/-- The hub's journal takes an entry: nothing else of the hub changes. -/
theorem Hub.journal_eq (h : Hub) (x : JEntry) :
    h.journal x = { h with jnl := (h.journal x).jnl, jbuf := (h.journal x).jbuf } := by
  unfold Hub.journal
  split <;> rfl

/-- A vector read after a change of one entry. -/
theorem vget_vMod {α : Type} {N : Nat} (v : Vector α N) (i m : Nat) (f : α → α) (d : α) :
    vget (vMod v i f) m d = if m = i ∧ i < N then f (vget v i d) else vget v m d := by
  by_cases hi : i < N
  · by_cases hm : m = i
    · subst hm
      simp [vget, vMod, hi]
    · simp [vget, vMod, hi, hm, Ne.symm hm]
  · simp [vget, vMod, hi]

theorem State.Emits.jTake (n : Nat) (s : State) (x : JEntry) : State.Emits n s (s.jTake n x) := by
  unfold State.jTake
  split
  · refine ⟨rfl, rfl, fun m hm => ?_, ?_⟩
    · exact (vget_vMod _ _ _ _ _).trans (if_neg fun h => hm h.1)
    · refine (congrArg Stitch.bare (vget_vMod _ _ _ _ _)).trans ?_
      split
      · exact Stitch.keep_bare _ _
      · rfl
  · rw [Hub.journal_eq]
    exact ⟨rfl, rfl, fun _ _ => rfl, rfl⟩

/-- A channel that has nothing to send. -/
def Chan.emptied (k : Chan) : Chan := { k with jq := [], cq := [], oq := [] }

theorem State.setCh_ch (s : State) (n : Nat) : s.setCh n (s.ch n) = s := by
  have h : vset s.chans n (vget s.chans n {}) = s.chans := by
    ext i hi
    by_cases hn : n = i
    · subst hn
      simp [vset, vget, hi]
    · simp [vset, hn]
  simp only [State.setCh, State.ch, h]

theorem State.setCh_setCh (s : State) (n : Nat) (k k' : Chan) : (s.setCh n k).setCh n k' = s.setCh n k' := by
  have h : vset (vset s.chans n k) n k' = vset s.chans n k' := by
    ext i hi
    by_cases hn : n = i <;> simp [vset, hn]
  simp only [State.setCh, h]

/-- What a channel has put out leaves it, and leaves the channel with nothing to send. -/
theorem State.flush_emits (s : State) (n : Nat) : State.Emits n (s.setCh n (s.ch n).emptied) (s.flush n) := by
  simp only [State.flush]
  split
  · rename_i h
    have he : (s.ch n).emptied = s.ch n := by
      simp only [List.isEmpty_iff] at h
      obtain ⟨hj, hc, ho⟩ := h
      simp only [Chan.emptied, ← hj, ← hc, ← ho]
    rw [he, State.setCh_ch]
    exact .refl n s
  · exact .trans (.foldl _ (fun u x => .jTake n u x) (s.ch n).jq _)
      (.trans (.foldl _ (fun u c => .complete n u c) (s.ch n).cq _) (.foldl _ (fun u o => .emit n u o) (s.ch n).oq _))

/-- Channel n of s after it was replaced by k: with what it derives from that while its Sole runs, and nothing left to send. -/
def State.after (s : State) (n : Nat) (k : Chan) : Chan := (if k.core.run = 2 then k.settle (s.ch n) s.env else k).emptied

theorem State.withCh_emits (s : State) (n : Nat) (k : Chan) (hn : n < 4) : State.Emits n (s.setCh n (s.after n k)) (s.withCh n k) := by
  have h := State.flush_emits (s.setCh n (if k.core.run = 2 then k.settle (s.ch n) s.env else k)) n
  rwa [State.ch_setCh_same _ _ _ hn, State.setCh_setCh] at h

section WithCh

variable (s : State) (n : Nat) (k : Chan) (hn : n < 4)
include hn

theorem State.withCh_still : (s.withCh n k).still = s.still := (s.withCh_emits n k hn).still

theorem State.withCh_ch_same : (s.withCh n k).ch n = s.after n k := by
  rw [← s.ch_setCh_same n (s.after n k) hn]
  exact congrArg (fun v => vget v n {}) (s.withCh_emits n k hn).chans

theorem State.withCh_ch_other (m : Nat) (hm : m ≠ n) : (s.withCh n k).ch m = s.ch m := by
  rw [← s.ch_setCh_other n m (s.after n k) hm]
  exact congrArg (fun v => vget v m {}) (s.withCh_emits n k hn).chans

theorem State.withCh_link_other (m : Nat) (hm : m ≠ n) : (s.withCh n k).link m = s.link m := (s.withCh_emits n k hn).other m hm

theorem State.withCh_link_bare : ((s.withCh n k).link n).bare = (s.link n).bare := (s.withCh_emits n k hn).bare

end WithCh

/-! ### What a channel's own consequences leave alone -/

/-- k has the run state, the reset cause and HUB_PRESENT of a, and a capture of a that ended in ERROR has stayed there. -/
def Chan.Steady (a k : Chan) : Prop :=
  k.core.run = a.core.run ∧ k.core.r.rstCause = a.core.r.rstCause
    ∧ k.core.r.linkStatus.hubPresent = a.core.r.linkStatus.hubPresent
    ∧ (a.met.r.capStatus.state = .error → k.met.r.capStatus.state = .error)

/-- A capture that ended in ERROR takes no trigger (R282). -/
theorem Met.trigger_error (m : Met) (e : Env) (b : Nat) (h : m.r.capStatus.state = .error) : m.trigger e b = m := by
  unfold Met.trigger
  split
  · rfl
  · rw [h]

namespace Chan.Steady

/- An operation that replaces neither the core nor the metrology engine keeps the relation as it stands; where a proof below is
`h` alone, that is the reason. -/

variable {a k : Chan} {e : Env}

theorem refl (a : Chan) : Chan.Steady a a := ⟨rfl, rfl, rfl, id⟩

theorem branch {c : Prop} [Decidable c] {x y : Chan} (hx : Chan.Steady a x) (hy : Chan.Steady a y) :
    Chan.Steady a (if c then x else y) := by
  split
  · exact hx
  · exact hy

theorem trigger (h : Chan.Steady a k) (b : Nat) : Chan.Steady a { k with met := k.met.trigger e b } := by
  obtain ⟨hrun, hrst, hhub, hcap⟩ := h
  exact ⟨hrun, hrst, hhub, fun ha => by rw [Met.trigger_error _ _ _ (hcap ha)]; exact hcap ha⟩

/-! #### The loop, the cooling and Shank -/

theorem loopStop (h : Chan.Steady a k) (t : Bool) : Chan.Steady a (k.loopStop e t) := by
  unfold Chan.loopStop
  split
  · cases t <;> exact h
  all_goals exact h

theorem forecast (h : Chan.Steady a k) : Chan.Steady a (k.forecast e) := by
  unfold Chan.forecast
  simp only
  split <;> exact h

theorem sessEstimate (h : Chan.Steady a k) : Chan.Steady a (k.sessEstimate e) := by
  unfold Chan.sessEstimate
  simp only
  split
  · exact h
  · apply forecast
    exact h

theorem shkSet (h : Chan.Steady a k) (s : ShkState) : Chan.Steady a (k.shkSet e s) := by
  unfold Chan.shkSet
  split <;> exact h

theorem shkRaise (h : Chan.Steady a k) (f : Nat) (c : Bool) (src : BitVec 4) : Chan.Steady a (k.shkRaise e f c src) :=
  trigger (e := e) h 1

theorem shkSession (h : Chan.Steady a k) (c : Bool) : Chan.Steady a (k.shkSession e c) := by
  unfold Chan.shkSession
  split <;> (apply shkRaise; exact h)

theorem shkView (h : Chan.Steady a k) : Chan.Steady a (k.shkView e) := h

theorem shkSettle (h : Chan.Steady a k) : Chan.Steady a (k.shkSettle e) := by
  unfold Chan.shkSettle
  apply shkView
  apply branch
  · apply shkSet
    exact h
  · exact h

/-! #### The vehicle session -/

theorem vGo (h : Chan.Steady a k) (s : VehState) : Chan.Steady a (k.vGo e s) := h

theorem vAns (h : Chan.Steady a k) (r : VRes) (d : List Int) : Chan.Steady a (k.vAns r d) := h

theorem vEvt (h : Chan.Steady a k) (c d : Nat) : Chan.Steady a (k.vEvt e c d) := by
  unfold Chan.vEvt
  simp only
  split <;> exact h

theorem vCause (h : Chan.Steady a k) (c : Nat) : Chan.Steady a (k.vCause c) := by
  unfold Chan.vCause
  split <;> exact h

theorem vShutdown (h : Chan.Steady a k) (d : Bool) : Chan.Steady a (k.vShutdown e d) := by
  unfold Chan.vShutdown
  apply sessEstimate
  apply vGo
  split
  · apply loopStop
    exact h
  · exact h

theorem vStop (h : Chan.Steady a k) (c : Nat) : Chan.Steady a (k.vStop e c) := by
  unfold Chan.vStop
  apply vGo
  apply loopStop
  exact vCause h c

theorem vSignal (h : Chan.Steady a k) : Chan.Steady a (k.vSignal e) := by
  have hc (x : Chan) (hx : Chan.Steady a x) (c : Nat) : Chan.Steady a (x.vEvt e 0x0C c) := vEvt hx _ _
  unfold Chan.vSignal
  simp only
  split <;> split
  · exact hc _ (shkSession (vCause h _) _) _
  · exact hc _ (vCause h _) _
  · exact vShutdown (hc _ (shkSession (vCause h _) _) _) _
  · exact vShutdown (hc _ (vCause h _) _) _

theorem vPlug (h : Chan.Steady a k) : Chan.Steady a (k.vPlug e) := by
  unfold Chan.vPlug
  apply vEvt
  exact h

theorem recClose (h : Chan.Steady a k) (c : Nat) (x : BitVec 16) : Chan.Steady a (k.recClose e c x) := by
  unfold Chan.recClose
  split <;> exact h

theorem vLoopEnd (h : Chan.Steady a k) : Chan.Steady a (k.vLoopEnd e) := by
  unfold Chan.vLoopEnd
  split
  iterate 2
    · have hev : Chan.Steady a (if k.veh.owe09 ∧ !k.vIn [.transfer] then
          ({ k with veh.owe09 := false } : Chan).vEvt e 0x09 (if k.veh.pause then 0 else k.veh.r.status.cause.toNat) else k) :=
        branch (vEvt (k := { k with veh.owe09 := false }) h _ _) h
      exact branch (recClose hev _ _) hev
  · exact h

theorem vMove (h : Chan.Steady a k) : Chan.Steady a (k.vMove e) := by
  unfold Chan.vMove
  refine branch (vShutdown (vCause h _) _) (branch (vSignal h) ?_)
  split
  case h_1 => exact branch (vPlug h) h
  case h_2 => exact branch (vEvt (vGo h _) _ _) h
  case h_3 => exact branch h (vStop (vAns h _ _) _)
  case h_4 => exact branch (vStop h _) h
  case h_5 =>
    split
    · exact h
    · refine branch (vEvt ?_ _ _) (vShutdown h _)
      exact h
    · exact h
  case h_6 =>
    refine branch (vEvt ?_ _ _) h
    exact h
  case h_7 =>
    refine branch (vEvt ?_ _ _) h
    exact h
  case h_8 => exact h

theorem vCc (h : Chan.Steady a k) : Chan.Steady a (k.vCc e) := by
  unfold Chan.vCc
  split <;> exact h

theorem vSettle (h : Chan.Steady a k) : Chan.Steady a (k.vSettle e) :=
  vCc (vMove (vLoopEnd (vMove (vLoopEnd (vMove h)))))

theorem vLimits (h : Chan.Steady a k) : Chan.Steady a k.vLimits := h

theorem vCommLost (h : Chan.Steady a k) : Chan.Steady a (k.vCommLost e) := by
  have hev (d : Nat) : Chan.Steady a ((k.vCause 0x04).vEvt e 0x0B d) := vEvt (vCause h _) _ _
  unfold Chan.vCommLost
  simp only
  split
  iterate 3 exact vShutdown (hev _) _
  · exact hev _
  iterate 2 exact vStop (hev _) _
  · exact vStop (shkSession (hev _) _) _
  · exact vShutdown (shkSession (hev _) _) _
  · exact h

theorem vTlsLost (h : Chan.Steady a k) : Chan.Steady a (k.vTlsLost e) := by
  unfold Chan.vTlsLost
  simp only
  split
  · exact h
  · apply vCommLost
    exact h

/-! #### The ledger and the views -/

theorem recTrack (h : Chan.Steady a k) : Chan.Steady a (k.recTrack e) := by
  unfold Chan.recTrack Chan.recFlag
  split
  · exact h
  · split <;> exact h

theorem ledgView (h : Chan.Steady a k) : Chan.Steady a (k.ledgView e) := by
  unfold Chan.ledgView
  simp only
  split <;> exact h

theorem pumpView (h : Chan.Steady a k) : Chan.Steady a (k.pumpView e) := h

theorem svcDrain (h : Chan.Steady a k) : Chan.Steady a k.svcDrain := by
  unfold Chan.svcDrain
  simp only
  split <;> exact h

theorem volView (h : Chan.Steady a k) : Chan.Steady a (k.volView e) := by
  unfold Chan.volView
  simp only
  split
  · unfold Chan.volZero
    simp only
    split
    · apply vTlsLost
      exact h
    · exact h
  · exact h

theorem pcView (h : Chan.Steady a k) (old : Chan) : Chan.Steady a (k.pcView old) := by
  unfold Chan.pcView
  split <;> exact h

theorem linkView (h : Chan.Steady a k) : Chan.Steady a k.linkView := h

theorem capView (h : Chan.Steady a k) (old : Chan) : Chan.Steady a (k.capView old e) := by
  unfold Chan.capView
  split
  · exact trigger h 2
  · exact h

theorem attnView (h : Chan.Steady a k) (old : Chan) : Chan.Steady a (k.attnView old) := by
  unfold Chan.attnView
  simp only
  split <;> exact h

theorem settle (h : Chan.Steady a k) (old : Chan) : Chan.Steady a (k.settle old e) :=
  have hs := ledgView (recTrack (vLimits (vSettle (shkSettle h))))
  attnView (capView (linkView (pcView (volView (svcDrain (pumpView hs))) old)) old) old

end Chan.Steady

/-! ### What a command on one channel answers -/

/-- A command that changes a channel whose Sole runs answers with the changed channel. -/
theorem State.becomes_onSole (s : State) (n pm : Nat) (f : Env → Chan → Chan) (P : Chan → Prop) (h : s.soleUp n pm = true)
    (hP : P (f s.env (s.ch n))) : Becomes (s.onSole n pm f).done s n P :=
  ⟨_, hP, by rw [State.onSole_up s n pm f h]; rfl⟩

/-! ### The channel synthesiser (R644 to R653) -/

/-- CLK_CTRL as the RELOCK command writes it: RELOCK set, AUTO as it stands, neither ramp bit. -/
theorem State.clkBit_relock (s : State) (n : Nat) :
    (s.clkBit n 31).getLsbD 31 = true ∧ (s.clkBit n 31).getLsbD 30 = (s.ch n).clk.r.ctrl.auto
      ∧ (s.clkBit n 31).getLsbD 29 = false ∧ (s.clkBit n 31).getLsbD 28 = false := by
  unfold State.clkBit ClkCtrl.read
  cases (s.ch n).clk.r.ctrl.auto <;> decide

/-- A channel whose CLK_CTRL keeps AUTO alone, as every write of its other bits leaves it. -/
def Chan.clkIdle (c : Chan) : Chan := { c with clk := { c.clk with r := { c.clk.r with ctrl := { auto := c.clk.r.ctrl.auto } } } }

/-- A write of CLK_CTRL with RELOCK alone beside AUTO. -/
theorem Chan.clkCtrl_relock (k : Chan) (e : Env) (w : Word) (h31 : w.getLsbD 31 = true) (h30 : w.getLsbD 30 = k.clk.r.ctrl.auto)
    (h29 : w.getLsbD 29 = false) (h28 : w.getLsbD 28 = false) : k.clkCtrl e w = k.clkIdle.relock e false := by
  simp only [Chan.clkCtrl, h31, h30, h29, h28]
  rfl

/-- A host write of CLK_CTRL reaches the synthesiser. -/
theorem Chan.regWrite_clkCtrl (k : Chan) (e : Env) (w : Word) : k.regWrite e 0xB00 w = (k.clkCtrl e w, false) := rfl

/-- The host's RELOCK write reaches the synthesiser of an open channel. -/
theorem State.chWrite_relock (s : State) (n : Nat) (hn : n < 4) (h : s.hostOpen n = true) :
    s.chWrite n 0xB00 (s.clkBit n 31) = s.withCh n ((s.ch n).clkIdle.relock s.env false) := by
  obtain ⟨h31, h30, h29, h28⟩ := s.clkBit_relock n
  have hw : (s.ch n).regWrite s.env 0xB00 (s.clkBit n 31) = ((s.ch n).clkIdle.relock s.env false, false) := by
    rw [Chan.regWrite_clkCtrl, Chan.clkCtrl_relock _ _ _ h31 h30 h29 h28]
  rw [s.chWrite_open n 0xB00 _ hn (by decide) (by decide) h (by rw [hw]), hw]

/-- What entering RELOCKING does to channel n (R644): no offset, no walk, the centre of the register taken, the attempt
started anew, the modulator held and its clocks stopped. -/
def Relocked (s : State) (n : Nat) (auto : Bool) (k : Chan) : Prop :=
  let c := s.ch n
  let x := c.clk
  k.clk.r.status = { x.r.status with state := .relocking } ∧ k.clk.r.rampNow.ofs = 0 ∧ k.clk.r.rampNow.running = false
    ∧ k.clk.r.rampNow.seg = x.r.rampNow.seg ∧ k.clk.centre = x.r.centre.toNat ∧ k.clk.tAtt = s.now ∧ k.clk.fails = 0
    ∧ k.clk.r.ctrl.auto = auto ∧ k.clk.r.seg = x.r.seg ∧ k.clk.r.rampCfg = x.r.rampCfg ∧ k.clk.r.centre = x.r.centre
    ∧ k.pwm = c.pwm.hold ∧ k.met = c.met.clocks false c.met.r.ctrl.mclk0En c.met.r.ctrl.mclk1En
    ∧ k = { c with clk := k.clk, pwm := k.pwm, met := k.met }

theorem State.relocked_relockStart (s : State) (n : Nat) :
    Relocked s n (s.ch n).clk.r.ctrl.auto ((s.ch n).relockStart s.env) :=
  ⟨rfl, rfl, rfl, rfl, rfl, rfl, rfl, rfl, rfl, rfl, rfl, rfl, rfl, rfl⟩

theorem State.relocked_relockStart_clkIdle (s : State) (n : Nat) :
    Relocked s n (s.ch n).clk.r.ctrl.auto ((s.ch n).clkIdle.relockStart s.env) :=
  ⟨rfl, rfl, rfl, rfl, rfl, rfl, rfl, rfl, rfl, rfl, rfl, rfl, rfl, rfl⟩

section Relock

variable (k : Chan) (e : Env)

theorem Chan.relock_trying (h : k.clk.r.status.state = .locking ∨ k.clk.r.status.state = .relocking) :
    k.relock e false = k := by
  rcases h with h | h <;> simp [Chan.relock, h]

theorem Chan.relock_vigil (hpm : 2 ≤ k.core.pm) (h : k.clk.r.status.state = .locked ∨ k.clk.r.status.state = .failed) :
    k.relock e false = { k with clk := { k.clk with pend := true } } := by
  simp [Chan.relock, hpm, h]

theorem Chan.relock_transferring (hpm : k.core.pm ≤ 1) (h : k.clk.r.status.state = .locked) (ht : k.transferring = true) :
    k.relock e false = { k with clk := { k.clk with r := { k.clk.r with status := { k.clk.r.status with relockRef := true } } } } := by
  have hp : ¬ 2 ≤ k.core.pm := by omega
  simp [Chan.relock, hp, h, ht]

theorem Chan.relock_free (hpm : k.core.pm ≤ 1)
    (h : k.clk.r.status.state = .failed ∨ (k.clk.r.status.state = .locked ∧ k.transferring = false)) :
    k.relock e false = k.relockStart e := by
  have hp : ¬ 2 ≤ k.core.pm := by omega
  rcases h with h | ⟨h, ht⟩
  · simp [Chan.relock, hp, h]
  · simp [Chan.relock, hp, h, ht]

/-- The automatic relock (R644): LOCKED with LOL_NOW and AUTO, where no power is transferred. -/
abbrev Chan.autoRelockDue : Prop :=
  k.clk.r.status.state = .locked ∧ k.clk.r.status.lolNow = true ∧ k.clk.r.ctrl.auto = true ∧ k.transferring = false

theorem Chan.relock_auto_due (h : k.autoRelockDue) : k.relock e true = k.relockStart e := by
  obtain ⟨hs, hl, ha, ht⟩ := h
  simp [Chan.relock, hs, hl, ha, ht]

theorem Chan.relock_auto_not_due (h : ¬ k.autoRelockDue) : k.relock e true = k := by
  have h' : ¬ (k.clk.r.status.state = .locked ∧ k.clk.r.status.lolNow ∧ k.clk.r.ctrl.auto ∧ !k.transferring) := by
    simpa [Chan.autoRelockDue] using h
  simp only [Chan.relock, if_true, if_neg h']

end Relock

/-- One journal entry of the channel synthesiser joins those that channel n of s has to send. -/
def SynthNoted (s : State) (n : Nat) (k : Chan) (ev : JEv) : Prop :=
  ∃ j, k.jq = (s.ch n).jq ++ [j] ∧ j.ev = ev ∧ j.src = .pwm ∧ j.ch = some (s.ch n).idx ∧ j.t = s.env.site

/-- RELOCK as the host writes it, by the state of the synthesiser (R644, R678). -/
theorem State.relock_byHost (s : State) (n : Nat) (h : s.hostOpen n = true) (hn : n < 4) :
    let c := s.ch n
    let r := c.clk.r.status
    let o := exec (.relock n false) s
    let idle := c.clkIdle.clk
    ((r.state = .locking ∨ r.state = .relocking) → Becomes o s n (fun k => k = { c with clk := idle }))
      ∧ (c.core.pm = 2 → (r.state = .locked ∨ r.state = .failed) →
          Becomes o s n (fun k => k = { c with clk := { idle with pend := true } }))
      ∧ (c.core.pm ≤ 1 → r.state = .locked → c.transferring = true →
          Becomes o s n (fun k => k = { c with clk := { idle with r := { idle.r with status := { r with relockRef := true } } } }))
      ∧ (c.core.pm ≤ 1 → (r.state = .failed ∨ (r.state = .locked ∧ c.transferring = false)) →
          Becomes o s n (Relocked s n c.clk.r.ctrl.auto)) := by
  intro c r o idle
  have ho : ∀ k, c.clkIdle.relock s.env false = k → ∀ P : Chan → Prop, P k → Becomes o s n P := by
    rintro k rfl P hP
    exact ⟨_, hP, congrArg State.done (s.chWrite_relock n hn h)⟩
  refine ⟨fun hs => ?_, fun hpm hs => ?_, fun hpm hs ht => ?_, fun hpm hs => ?_⟩
  · exact ho _ (Chan.relock_trying _ _ hs) _ rfl
  · exact ho _ (Chan.relock_vigil _ _ hpm.ge hs) _ rfl
  · exact ho _ (Chan.relock_transferring _ _ hpm hs ht) _ rfl
  · exact ho _ (Chan.relock_free _ _ hpm hs) _ (s.relocked_relockStart_clkIdle n)

section Lock

variable (k : Chan) (e : Env)

/-- An attempt to lock runs. -/
abbrev Chan.attempting : Prop := k.clk.r.status.state = .locking ∨ k.clk.r.status.state = .relocking

theorem Chan.lockVerified_due (h : k.attempting) (hl : k.clk.r.status.lorNow = false) :
    k.lockVerified e = { k with
      clk := { k.clk with fails := 0, r := { k.clk.r with
        status := { k.clk.r.status with state := .locked, lolNow := false, relocks := satInc k.clk.r.status.relocks } } }
      pwm := k.pwm.unhold
      met := k.met.clocks true k.met.r.ctrl.mclk0En k.met.r.ctrl.mclk1En } := by
  have h' : (k.clk.r.status.state = .locking ∨ k.clk.r.status.state = .relocking) ∧ !k.clk.r.status.lorNow := by
    simpa [hl] using h
  simp only [Chan.lockVerified, if_pos h']

theorem Chan.lockVerified_not_due (h : ¬ (k.attempting ∧ k.clk.r.status.lorNow = false)) : k.lockVerified e = k := by
  have h' : ¬ ((k.clk.r.status.state = .locking ∨ k.clk.r.status.state = .relocking) ∧ !k.clk.r.status.lorNow) := by
    simpa [Chan.attempting] using h
  simp only [Chan.lockVerified, if_neg h']

/-- An attempt has failed: 5 ms have passed, or the reference is lost (R644). -/
abbrev Chan.attemptFailed : Prop := k.attempting ∧ (k.clk.tAtt + msNs 5 ≤ e.now ∨ k.clk.r.status.lorNow = true)

/-- The synthesiser after a failed attempt: the third ends in FAILED. -/
def Clk.afterFailure (x : Clk) (now : Nat) : Clk :=
  { x with fails := x.fails + 1, tAtt := now
           r := { x.r with status := { x.r.status with lol := true, state := if 2 ≤ x.fails then .failed else x.r.status.state } } }

theorem Chan.lockTimeout_due (h : k.attemptFailed e) :
    k.lockTimeout e = if k.clk.r.status.lol then { k with clk := k.clk.afterFailure e.now }
      else Chan.jr { k with clk := k.clk.afterFailure e.now } e .pwm JEv.clkLol [] := by
  have h3 : (3 ≤ k.clk.fails + 1) = (2 ≤ k.clk.fails) := by simp
  simp only [Chan.lockTimeout]
  rw [if_pos h]
  simp only [h3]
  rfl

theorem Chan.lockTimeout_not_due (h : ¬ k.attemptFailed e) : k.lockTimeout e = k := by
  simp only [Chan.lockTimeout]
  rw [if_neg h]

theorem Chan.lossOfLock_locked (h : k.clk.r.status.state = .locked) (hl : k.clk.r.status.lolNow = false) :
    k.lossOfLock e = Chan.jr { k with clk := { k.clk with r := { k.clk.r with
      status := { k.clk.r.status with lolNow := true, lol := true } } } } e .pwm JEv.clkLol [] := by
  simp only [Chan.lossOfLock]
  rw [if_pos ⟨h, by simp [hl]⟩]

theorem Chan.lossOfLock_other (h : k.clk.r.status.state ≠ .locked ∨ k.clk.r.status.lolNow = true) : k.lossOfLock e = k := by
  simp only [Chan.lossOfLock]
  rw [if_neg]
  rintro ⟨hs, hl⟩
  rcases h with h | h
  · exact h hs
  · simp [h] at hl

theorem Chan.lossOfRef_had (h : k.clk.r.status.lorNow = false) :
    k.lossOfRef e = Chan.jr { k with clk := { k.clk with r := { k.clk.r with
      status := { k.clk.r.status with lorNow := true, lor := true } } } } e .pwm JEv.clkLor [] := by
  simp only [Chan.lossOfRef, h]
  rfl

theorem Chan.lossOfRef_lost (h : k.clk.r.status.lorNow = true) : k.lossOfRef e = k := by
  simp only [Chan.lossOfRef, h]
  rfl

end Lock

/-- RELOCK as the synthesiser asks for it, LOCK_VERIFIED, LOCK_ATTEMPT_TIMEOUT and loss and return of lock, at a Sole in RUN
or TRIM (R644, R646, R647). -/
theorem State.lock_commands (s : State) (n : Nat) (h : s.soleUp n 1 = true) :
    let c := s.ch n
    let x := c.clk
    let r := x.r.status
    (c.autoRelockDue → Becomes (exec (.relock n true) s) s n (Relocked s n true))
      ∧ (¬ c.autoRelockDue → Becomes (exec (.relock n true) s) s n (fun k => k = c))
      ∧ (c.attempting ∧ r.lorNow = false → Becomes (exec (.lockVerified n) s) s n (fun k => k = { c with
          clk := { x with fails := 0, r := { x.r with status := { r with state := .locked, lolNow := false, relocks := satInc r.relocks } } }
          pwm := c.pwm.unhold
          met := c.met.clocks true c.met.r.ctrl.mclk0En c.met.r.ctrl.mclk1En }))
      ∧ (¬ (c.attempting ∧ r.lorNow = false) → Becomes (exec (.lockVerified n) s) s n (fun k => k = c))
      ∧ (c.attemptFailed s.env → Becomes (exec (.lockAttemptTimeout n) s) s n (fun k =>
          k.clk = x.afterFailure s.now ∧ (if r.lol then k.jq = c.jq else SynthNoted s n k JEv.clkLol)
          ∧ k = { c with clk := k.clk, jq := k.jq }))
      ∧ (¬ c.attemptFailed s.env → Becomes (exec (.lockAttemptTimeout n) s) s n (fun k => k = c)) := by
  intro c x r
  refine ⟨fun hd => ?_, fun hd => ?_, fun hd => ?_, fun hd => ?_, fun hd => ?_, fun hd => ?_⟩ <;>
    refine s.becomes_onSole n 1 _ _ h ?_
  · rw [Chan.relock_auto_due _ _ hd, ← hd.2.2.1]
    exact s.relocked_relockStart n
  · exact Chan.relock_auto_not_due _ _ hd
  · exact Chan.lockVerified_due _ _ hd.1 hd.2
  · exact Chan.lockVerified_not_due _ _ hd
  · rw [Chan.lockTimeout_due _ _ hd]
    by_cases hl : (s.ch n).clk.r.status.lol = true
    · rw [if_pos hl, if_pos hl]
      exact ⟨rfl, rfl, rfl⟩
    · rw [if_neg hl, if_neg hl]
      exact ⟨rfl, ⟨_, rfl, rfl, rfl, rfl, rfl⟩, rfl⟩
  · exact Chan.lockTimeout_not_due _ _ hd

/-- LOSS_OF_LOCK and LOCK_REGAINED at a Sole in RUN or TRIM (R647). -/
theorem State.loss_of_lock (s : State) (n : Nat) (h : s.soleUp n 1 = true) :
    let c := s.ch n
    let x := c.clk
    let r := x.r.status
    (r.state = .locked → r.lolNow = false → Becomes (exec (.lossOfLock n) s) s n (fun k =>
        k.clk = { x with r := { x.r with status := { r with lolNow := true, lol := true } } } ∧ SynthNoted s n k JEv.clkLol
        ∧ k = { c with clk := k.clk, jq := k.jq }))
      ∧ (r.state ≠ .locked ∨ r.lolNow = true → Becomes (exec (.lossOfLock n) s) s n (fun k => k = c))
      ∧ Becomes (exec (.lockRegained n) s) s n (fun k =>
          k = { c with clk := { x with r := { x.r with status := { r with lolNow := false } } } }) := by
  intro c x r
  refine ⟨fun hs hl => ?_, fun hd => ?_, ?_⟩ <;> refine s.becomes_onSole n 1 _ _ h ?_
  · rw [Chan.lossOfLock_locked _ _ hs hl]
    exact ⟨rfl, ⟨_, rfl, rfl, rfl, rfl, rfl⟩, rfl⟩
  · exact Chan.lossOfLock_other _ _ hd
  · rfl

/-- Loss and return of the reference, and PLL_LOL, at a Sole in RUN, TRIM or VIGIL (R647, R649). -/
theorem State.loss_of_reference (s : State) (n : Nat) (h : s.soleUp n 2 = true) :
    let c := s.ch n
    let x := c.clk
    let r := x.r.status
    (r.lorNow = false → Becomes (exec (.lossOfReference n) s) s n (fun k =>
        k.clk = { x with r := { x.r with status := { r with lorNow := true, lor := true } } } ∧ SynthNoted s n k JEv.clkLor
        ∧ k = { c with clk := k.clk, jq := k.jq }))
      ∧ (r.lorNow = true → Becomes (exec (.lossOfReference n) s) s n (fun k => k = c))
      ∧ Becomes (exec (.referenceRegained n) s) s n (fun k =>
          k = { c with clk := { x with r := { x.r with status := { r with lorNow := false } } } })
      ∧ Becomes (exec (.pllLol n) s) s n (fun k =>
          k.clk = { x with r := { x.r with status := { r with pllLol := true } } } ∧ SynthNoted s n k JEv.pllLol
          ∧ k = { c with clk := k.clk, jq := k.jq }) := by
  intro c x r
  refine ⟨fun hl => ?_, fun hl => ?_, ?_, ?_⟩ <;> refine s.becomes_onSole n 2 _ _ h ?_
  · rw [Chan.lossOfRef_had _ _ hl]
    exact ⟨rfl, ⟨_, rfl, rfl, rfl, rfl, rfl⟩, rfl⟩
  · exact Chan.lossOfRef_lost _ _ hl
  · rfl
  · exact ⟨rfl, ⟨_, rfl, rfl, rfl, rfl, rfl⟩, rfl⟩

/-- HUB_CLK_STATUS after a synthesiser of the hub, or its reference, loses lock or has it again (R652). -/
def HubClkStatus.lossOf (h : HubClkStatus) (which : Nat) (lost : Bool) : HubClkStatus :=
  { h with
    coreLol := h.coreLol || (lost && decide (which = 0)), laneLol := h.laneLol || (lost && decide (which = 1))
    dramLol := h.dramLol || (lost && decide (which = 2)), pcieLol := h.pcieLol || (lost && decide (which = 3))
    refLost := h.refLost || (lost && decide (which = 4)), refNow := if which = 4 then lost else h.refNow }

/-- What HUB_LOSS_OF_LOCK does at a hub that runs: the status, and one entry of the hub's journal for a loss. -/
theorem State.hubLol_eq (s : State) (which : Nat) (lost : Bool) (hr : s.hub.run ≠ 0) (hw : which < 5) :
    s.hubLol which lost =
      let u : State := { s with hub := { s.hub with r := { s.hub.r with clkStatus := s.hub.r.clkStatus.lossOf which lost } } }
      if lost then u.hubJr JEv.hubLol [(which : Int)] else u := by
  have hg : ¬ (s.hub.run = 0 ∨ 5 ≤ which) := by omega
  simp only [State.hubLol, if_neg hg]
  match which, hw with
  | 0, _ | 1, _ | 2, _ | 3, _ | 4, _ => cases lost <;> simp [HubClkStatus.lossOf]

/-- Settles O46, clause by clause: RELOCK as the host writes it, the commands of the lock, of its loss and of the reference,
and HUB_LOSS_OF_LOCK. -/
theorem clockLock : Obligations.ClockLock := by
  unfold Obligations.ClockLock
  intro s n
  refine ⟨s.relock_byHost n, fun h => ?_, s.loss_of_reference n, fun hr which lost hw => ?_⟩
  · obtain ⟨hauto, hauto', hlock, hlock', htmo, htmo'⟩ := s.lock_commands n h
    obtain ⟨hloss, hloss', hback⟩ := s.loss_of_lock n h
    refine ⟨⟨hauto, hauto'⟩, ⟨fun hd => ?_, hlock'⟩, ⟨htmo, htmo'⟩, hloss, hloss', hback⟩
    obtain ⟨k, rfl, hk⟩ := hlock hd
    exact ⟨_, ⟨rfl, rfl, rfl, rfl⟩, hk⟩
  · exact congrArg State.done (s.hubLol_eq which lost hr hw)

/-! ### Register access: the lock centre (R637, R655, R753)

The lock centre takes what is written only within 30.0 to 33.0; a value outside is taken as the nearer bound (R753). O53 has the
register take every value as written. -/

/-- A module whose hub and Soles run, everything else as right after reset. -/
def State.allUp : State :=
  { State.reset with
    chans := Vector.ofFn (fun (i : Fin 4) => { Chan.fresh i.val with core := { (Chan.fresh i.val).core with run := 2 } })
    hub := { State.reset.hub with run := 2 } }

/-- The lock centre that channel 0 holds where a command answers a next state. -/
def centreAfter (o : Host.Outcome State Fault Refusal) : Option Nat :=
  match o with
  | .next t => some (t.ch 0).clk.r.centre.toNat
  | _ => none

/-- Channel 0 of that module with 0 as its lock centre. -/
def Chan.zeroCentre : Chan :=
  { State.allUp.ch 0 with
    clk := { (State.allUp.ch 0).clk with r := { (State.allUp.ch 0).clk.r with centre := (0 : Word).extractLsb' 0 26 } } }

/-- A write of 0 leaves 0x1E0_0000, the lower bound. -/
theorem centreAfter_write_zero : centreAfter (exec (.registerWrite 0x8B08 0 true) State.allUp) = some 0x1E00000 := by
  decide +kernel

/-- A lock centre of 0 would stay. -/
theorem centreAfter_zeroCentre : centreAfter (.next (State.allUp.withCh 0 Chan.zeroCentre).finish) = some 0 := by
  decide +kernel

/-- Refutes O53: a host write of 0 to the lock centre of channel 0, all dies running, stores 0x1E0_0000 and not 0 (R753). -/
theorem not_registerAccess : ¬ Obligations.RegisterAccess := by
  unfold Obligations.RegisterAccess
  intro h
  have hopen : State.allUp.hostOpen 0 = true := by decide +kernel
  obtain ⟨-, -, -, hch, -⟩ := h State.allUp
  obtain ⟨-, -, hcentre, -⟩ := hch 0 0xB08 0 (by decide) hopen (by decide) (by decide)
  obtain ⟨k, rfl, hk⟩ := hcentre rfl
  have hw : centreAfter (exec (.registerWrite 0x8B08 0 true) State.allUp) = some 0 :=
    (congrArg centreAfter hk).trans centreAfter_zeroCentre
  exact absurd (centreAfter_write_zero.symm.trans hw) (by decide)

/-! ### Stitch links (R34, R35) -/

/-- A channel whose Sole sees its hub. -/
def Chan.seesHub (k : Chan) : Chan :=
  { k with core := { k.core with r := { k.core.r with linkStatus := { k.core.r.linkStatus with hubPresent := true } } } }

/-- The stitch link of channel n carries packets. -/
def State.carries (s : State) (n : Nat) : Prop :=
  n < 4 ∧ 2 ≤ s.hub.run ∧ (s.ch n).core.run ≠ 0 ∧ (s.link n).retrain = false

section Link

variable (s : State) (n : Nat) (f g : Stitch → Stitch)

theorem State.link_onStitch_same (hn : n < 4) : (s.onStitch n f).link n = f (s.link n) :=
  (vget_vMod _ _ _ _ _).trans (if_pos ⟨rfl, hn⟩)

theorem State.link_onStitch_other (m : Nat) (hm : m ≠ n) : (s.onStitch n f).link m = s.link m :=
  (vget_vMod _ _ _ _ _).trans (if_neg fun h => hm h.1)

/-- Two changes of a link that agree on it as it stands are one. -/
theorem State.onStitch_congr (h : f (s.link n) = g (s.link n)) : s.onStitch n f = s.onStitch n g := by
  have hv : vMod s.hub.st n f = vMod s.hub.st n g := by
    by_cases hn : n < 4
    · have hl : s.link n = s.hub.st[n] := by simp [State.link, vget, hn]
      rw [hl] at h
      simp [vMod, hn, h]
    · simp [vMod, hn]
  simp only [State.onStitch, hv]

/-- The packets of a link that does not carry any have no effect. -/
theorem State.stitch_idle (h : ¬ s.carries n) (toSole ok : Bool) :
    (if ok then s.stitchOk n toSole else s.stitchBad n toSole) = s := by
  have hg : 4 ≤ n ∨ s.hub.run < 2 ∨ (s.ch n).core.run = 0 ∨ (vget s.hub.st n {}).retrain = true := by
    simp only [State.carries, State.link] at h
    by_contra hc
    simp only [not_or, Nat.not_le, Nat.not_lt, Bool.not_eq_true] at hc
    exact h hc
  simp only [State.stitchOk, State.stitchBad, if_pos hg, ite_self]

variable (h : s.carries n)
include h

theorem State.carries_guard : ¬ (4 ≤ n ∨ s.hub.run < 2 ∨ (s.ch n).core.run = 0 ∨ (vget s.hub.st n {}).retrain = true) := by
  obtain ⟨hn, hr, hc, ht⟩ := h
  simp only [not_or, Nat.not_le, Nat.not_lt, Bool.not_eq_true]
  exact ⟨hn, hr, hc, ht⟩

/-- A valid packet at a Sole shows it the hub (R35). -/
theorem State.stitchOk_toSole : s.stitchOk n true =
    (s.onStitch n (fun t => { t with failS := 0, tSole := s.now, hubLost := false })).withCh n (s.ch n).seesHub := by
  simp only [State.stitchOk, if_neg (s.carries_guard n h), if_true]
  rw [State.onCh_eq _ n _ h.1]
  simp [Chan.hubSeen]
  rfl

theorem State.stitchOk_toHub : s.stitchOk n false = s.onStitch n (fun t => { t with failH := 0, tHub := s.now, soleLost := false }) := by
  simp only [State.stitchOk, if_neg (s.carries_guard n h)]
  rfl

/-- A CRC failure on the link of channel n is counted in HUB_STITCH_ERR. -/
def State.crcCounted (s : State) (n : Nat) : State :=
  let x := s.hub.r.stitchErr
  let inc (i : Nat) (b : BitVec 8) : BitVec 8 := if n = i then satInc b else b
  { s with hub := { s.hub with r := { s.hub.r with
    stitchErr := { crcCh0 := inc 0 x.crcCh0, crcCh1 := inc 1 x.crcCh1, crcCh2 := inc 2 x.crcCh2, crcCh3 := inc 3 x.crcCh3 } } } }

/-- A failed packet on a link that carries packets is counted and sent again, or has the link retrain (R34). -/
theorem State.stitchBad_eq (b : Bool) : s.stitchBad n b =
    if (if b then (s.link n).failS else (s.link n).failH) + 1 < 4 then
      (s.crcCounted n).onStitch n (fun t =>
        if b then { t with failS := (if b then (s.link n).failS else (s.link n).failH) + 1 }
        else { t with failH := (if b then (s.link n).failS else (s.link n).failH) + 1 })
    else ((s.crcCounted n).onStitch n (fun t => { t with retrain := true })).onCh n (fun _ k => { k with
      core := { k.core with r := { k.core.r with
        linkStatus := { k.core.r.linkStatus with retrain := satInc k.core.r.linkStatus.retrain } } } }) := by
  simp only [State.stitchBad]
  rw [if_neg (s.carries_guard n h)]
  match n, h.1 with
  | 0, _ | 1, _ | 2, _ | 3, _ => rfl

theorem State.stitchBad_retry (b : Bool) (hf : (if b then (s.link n).failS else (s.link n).failH) < 3) :
    s.stitchBad n b = (s.crcCounted n).onStitch n (fun t =>
      if b then { t with failS := t.failS + 1 } else { t with failH := t.failH + 1 }) := by
  rw [s.stitchBad_eq n h, if_pos (by omega)]
  refine State.onStitch_congr _ _ _ _ ?_
  cases b <;> rfl

theorem State.stitchBad_retrain (b : Bool) (hf : 3 ≤ if b then (s.link n).failS else (s.link n).failH) :
    s.stitchBad n b = ((s.crcCounted n).onStitch n (fun t => { t with retrain := true })).withCh n { s.ch n with
      core := { (s.ch n).core with r := { (s.ch n).core.r with
        linkStatus := { (s.ch n).core.r.linkStatus with retrain := satInc (s.ch n).core.r.linkStatus.retrain } } } } := by
  rw [s.stitchBad_eq n h, if_neg (by omega), State.onCh_eq _ n _ h.1]
  rfl

end Link

/-! ### Heartbeats (R35) -/

/-- What a link and its channel are at n stays: time, the hub's run state, the channel and its link. -/
def State.SameAt (n : Nat) (s t : State) : Prop :=
  t.now = s.now ∧ t.hub.run = s.hub.run ∧ t.ch n = s.ch n ∧ t.link n = s.link n

namespace State.SameAt

variable {n m : Nat} {s t u : State}

theorem refl (n : Nat) (s : State) : State.SameAt n s s := ⟨rfl, rfl, rfl, rfl⟩

theorem trans (h : State.SameAt n s t) (g : State.SameAt n t u) : State.SameAt n s u := by
  obtain ⟨h1, h2, h3, h4⟩ := h
  obtain ⟨g1, g2, g3, g4⟩ := g
  exact ⟨g1.trans h1, g2.trans h2, g3.trans h3, g4.trans h4⟩

theorem withCh (s : State) (k : Chan) (hm : m < 4) (hn : n ≠ m) : State.SameAt n s (s.withCh m k) :=
  have hs := s.withCh_still m k hm
  ⟨State.now_of_still hs, State.run_of_still hs, s.withCh_ch_other m k hm n hn, s.withCh_link_other m k hm n hn⟩

theorem onCh (s : State) (f : Env → Chan → Chan) (hn : n ≠ m) : State.SameAt n s (s.onCh m f) := by
  by_cases hm : m < 4
  · rw [State.onCh_eq s m f hm]
    exact withCh s _ hm hn
  · simp only [State.onCh, if_neg hm]
    exact refl n s

theorem onStitch (s : State) (f : Stitch → Stitch) (hn : n ≠ m) : State.SameAt n s (s.onStitch m f) :=
  ⟨rfl, rfl, rfl, s.link_onStitch_other m f n hn⟩

theorem carries_iff (h : State.SameAt n s t) : t.carries n ↔ s.carries n := by
  obtain ⟨-, h2, h3, h4⟩ := h
  simp only [State.carries, h2, h3, h4]

/-- A fold over different channels whose step touches its own channel only: what it does at n is its step at n. -/
theorem foldl_at (f : State → Nat → State) (hf : ∀ u m, n ≠ m → State.SameAt n u (f u m)) (l : List Nat) (hl : l.Nodup)
    (hn : n ∈ l) (s : State) : ∃ u, State.SameAt n s u ∧ State.SameAt n (f u n) (l.foldl f s) := by
  have away (l : List Nat) (hn : n ∉ l) (s : State) : State.SameAt n s (l.foldl f s) := by
    induction l generalizing s with
    | nil => exact refl n s
    | cons m l ih =>
      obtain ⟨hm, hl⟩ := not_or.mp (List.mem_cons.not.mp hn)
      exact (hf s m hm).trans (ih hl _)
  induction l generalizing s with
  | nil => cases hn
  | cons m l ih =>
    obtain ⟨hm, hl⟩ := List.nodup_cons.mp hl
    by_cases hnm : n = m
    · subst hnm
      exact ⟨s, refl n s, away l hm _⟩
    · obtain ⟨u, hu, hz⟩ := ih hl ((List.mem_cons.mp hn).resolve_left hnm) (f s m)
      exact ⟨u, (hf s m hnm).trans hu, hz⟩

end State.SameAt

theorem Chan.steady_after (s : State) (n : Nat) (k : Chan) : Chan.Steady k (s.after n k) := by
  have hk : Chan.Steady k (if k.core.run = 2 then k.settle (s.ch n) s.env else k) := by
    split
    · exact Chan.Steady.settle (.refl k) _
    · exact .refl k
  exact hk

/-- The heartbeats of channel n's link. -/
def State.heartbeat (s : State) (n : Nat) : State := (s.stitchOk n true).stitchOk n false

theorem State.heartbeats_eq (s : State) : s.heartbeats = (List.range 4).foldl State.heartbeat s := rfl

theorem State.heartbeat_idle (s : State) (n : Nat) (h : ¬ s.carries n) : s.heartbeat n = s := by
  have h1 : s.stitchOk n true = s := s.stitch_idle n h true true
  have h2 : s.stitchOk n false = s := s.stitch_idle n h false true
  rw [State.heartbeat, h1, h2]

/-- A link that has just carried both heartbeats. -/
def State.Beaten (s z : State) (n : Nat) : Prop :=
  (z.link n).tHub = s.now ∧ (z.link n).tSole = s.now ∧ (z.link n).hubLost = false ∧ (z.link n).soleLost = false
    ∧ (z.ch n).core.r.linkStatus.hubPresent = true

/-- A Sole that has taken a valid packet: the link and the channel as they then are. -/
theorem State.stitchOk_toSole_seen (s : State) (n : Nat) (h : s.carries n) :
    let u := s.stitchOk n true
    u.now = s.now ∧ u.carries n ∧ (u.link n).tSole = s.now ∧ (u.link n).hubLost = false
      ∧ (u.ch n).core.r.linkStatus.hubPresent = true := by
  intro u
  let w := s.onStitch n (fun t => { t with failS := 0, tSole := s.now, hubLost := false })
  have hu : u = w.withCh n (s.ch n).seesHub := s.stitchOk_toSole n h
  obtain ⟨hn, hrun, hsole, hretrain⟩ := h
  have hstill : u.still = w.still := hu ▸ w.withCh_still n _ hn
  have hbare : (u.link n).bare = (w.link n).bare := hu ▸ w.withCh_link_bare n _ hn
  have hch : u.ch n = w.after n (s.ch n).seesHub := hu ▸ w.withCh_ch_same n _ hn
  have hw : w.link n = _ := s.link_onStitch_same n _ hn
  obtain ⟨hkrun, -, hpresent, -⟩ := Chan.steady_after w n (s.ch n).seesHub
  rw [← hch] at hkrun hpresent
  rw [hw] at hbare
  refine ⟨State.now_of_still hstill, ⟨hn, ?_, ?_, ?_⟩, congrArg Stitch.tSole hbare, congrArg Stitch.hubLost hbare, hpresent⟩
  · exact hrun.trans_eq (State.run_of_still hstill).symm
  · exact fun h0 => hsole (hkrun.symm.trans h0)
  · exact (congrArg Stitch.retrain hbare).trans hretrain

theorem State.heartbeat_beaten (s : State) (n : Nat) (h : s.carries n) : s.Beaten (s.heartbeat n) n := by
  obtain ⟨hnow, hcarries, htSole, hlost, hpresent⟩ := s.stitchOk_toSole_seen n h
  have hz : s.heartbeat n = _ := State.stitchOk_toHub _ n hcarries
  have hl := State.link_onStitch_same (s.stitchOk n true) n
    (fun t => { t with failH := 0, tHub := (s.stitchOk n true).now, soleLost := false }) h.1
  rw [← hz] at hl
  rw [State.Beaten, hl]
  refine ⟨hnow, htSole, hlost, rfl, ?_⟩
  rw [hz]
  exact hpresent

theorem State.SameAt.stitchOk {n m : Nat} (s : State) (b : Bool) (hn : n ≠ m) : State.SameAt n s (s.stitchOk m b) := by
  by_cases h : s.carries m
  · cases b
    · rw [s.stitchOk_toHub m h]
      exact .onStitch s _ hn
    · rw [s.stitchOk_toSole m h]
      exact (State.SameAt.onStitch s _ hn).trans (.withCh _ _ h.1 hn)
  · have hs : s.stitchOk m b = s := s.stitch_idle m h b true
    rw [hs]
    exact .refl n s

/-- HEARTBEAT_SEND: the links that carry packets have both heartbeats, the others stay as they are. -/
theorem State.heartbeats_at (s : State) (n : Nat) (hn : n < 4) :
    (s.carries n → s.Beaten s.heartbeats n) ∧ (¬ s.carries n → s.heartbeats.link n = s.link n) := by
  obtain ⟨u, hu, hz⟩ := State.SameAt.foldl_at (n := n) State.heartbeat
    (fun u m hm => (State.SameAt.stitchOk u true hm).trans (.stitchOk _ false hm)) (List.range 4) List.nodup_range
    (List.mem_range.mpr hn) s
  rw [← s.heartbeats_eq] at hz
  obtain ⟨-, -, hch, hlink⟩ := hz
  refine ⟨fun h => ?_, fun h => ?_⟩
  · have hb := u.heartbeat_beaten n (hu.carries_iff.mpr h)
    rw [State.Beaten, ← hlink, ← hch, hu.1] at hb
    exact hb
  · rw [hlink, u.heartbeat_idle n (mt hu.carries_iff.mp h)]
    exact hu.2.2.2

/-! ### A hub or a Sole that is lost (R35, R42, R282, R526) -/

/-- A Sole has had no valid packet from its hub for 50 µs. -/
def State.hubSilent (s : State) (n : Nat) : Prop :=
  n < 4 ∧ (s.ch n).core.run ≠ 0 ∧ (s.link n).hubLost = false ∧ (s.link n).tSole + usNs 50 ≤ s.now

theorem State.loseHub_not_due (s : State) (n : Nat) (h : ¬ s.hubSilent n) : s.loseHub n = s := by
  simp only [State.loseHub]
  rw [if_pos]
  by_contra hc
  simp only [not_or, Nat.not_le, Nat.not_lt, Bool.not_eq_true] at hc
  exact h hc

theorem State.loseHub_due (s : State) (n : Nat) (h : s.hubSilent n) :
    s.loseHub n = (s.onStitch n (fun t => { t with hubLost := true })).withCh n ((s.ch n).hubSeen false) := by
  obtain ⟨hn, hrun, hlost, ht⟩ := h
  simp only [State.loseHub]
  rw [if_neg, State.onCh_eq _ n _ hn]
  · rfl
  · simp only [not_or, Nat.not_le, Nat.not_lt, Bool.not_eq_true]
    exact ⟨hn, hrun, hlost, ht⟩

/-- ARMED and POST end in ERROR (R282). -/
theorem Met.capErr_state (m : Met) (h : m.r.capStatus.state = .armed ∨ m.r.capStatus.state = .post) :
    m.capErr.r.capStatus.state = .error := by
  rcases h with h | h <;> simp [Met.capErr, h]

/-- The hub has had no valid packet from the Sole of channel n for 50 µs. -/
def State.soleSilent (s : State) (n : Nat) : Prop :=
  n < 4 ∧ 2 ≤ s.hub.run ∧ (s.link n).soleLost = false ∧ (s.link n).tHub + usNs 50 ≤ s.now

theorem State.loseSole_not_due (s : State) (n : Nat) (h : ¬ s.soleSilent n) : s.loseSole n = s := by
  simp only [State.loseSole]
  rw [if_pos]
  by_contra hc
  simp only [not_or, Nat.not_le, Nat.not_lt, Bool.not_eq_true] at hc
  exact h hc

section LoseSole

variable (s : State) (n : Nat) (h : s.soleSilent n)
include h

theorem State.loseSole_guard : ¬ (4 ≤ n ∨ s.hub.run < 2 ∨ (vget s.hub.st n {}).soleLost = true
    ∨ s.now < (vget s.hub.st n {}).tHub + usNs 50) := by
  simp only [not_or, Nat.not_le, Nat.not_lt, Bool.not_eq_true]
  exact h

theorem State.loseSole_alone (hnid : s.nid = none) : s.loseSole n = s.onStitch n (fun t => { t with soleLost := true }) := by
  have hnid' : (s.onStitch n (fun t => { t with soleLost := true })).nid = none := hnid
  simp only [State.loseSole]
  rw [if_neg (s.loseSole_guard n h)]
  simp only [hnid']

theorem State.loseSole_joined (me : Nat) (hnid : s.nid = some me) : s.loseSole n =
    (s.onStitch n (fun t => { t with soleLost := true })).onGw (fun _ => s.hub.gw.lost s.now me (some n)) := by
  have hnid' : (s.onStitch n (fun t => { t with soleLost := true })).nid = some me := hnid
  simp only [State.loseSole]
  rw [if_neg (s.loseSole_guard n h)]
  simp only [hnid']
  rfl

end LoseSole

/-! #### Completions at a gateway that holds no descriptor back -/

/-- x has what g has outstanding, and what g holds back. -/
def Gw.SameOut (g x : Gw) : Prop := x.out = g.out ∧ x.held = g.held

namespace Gw.SameOut

variable {g x : Gw}

theorem branch {c : Prop} [Decidable c] {x y : Gw} (hx : Gw.SameOut g x) (hy : Gw.SameOut g y) :
    Gw.SameOut g (if c then x else y) := by
  split
  · exact hx
  · exact hy

theorem msi (h : Gw.SameOut g x) (v : Nat) : Gw.SameOut g (x.msi v) := branch h h

theorem signal (h : Gw.SameOut g x) (now k : Nat) : Gw.SameOut g (x.signal now k) :=
  branch (msi (x := x.setRing k _) h _) h

theorem write (h : Gw.SameOut g x) (now k cid op st : Nat) (r0 r1 : Word) : Gw.SameOut g (x.write now k cid op st r0 r1) :=
  signal (x := { x.setRing k _ with oq := _ }) h now k

/-- Posting a completion changes neither what is outstanding nor what is held. -/
theorem post (h : Gw.SameOut g x) (now k cid op st : Nat) (r0 r1 : Word) : Gw.SameOut g (x.post now k cid op st r0 r1) := by
  have hc (c : Nat) : Gw.SameOut g (x.count c) := h
  have hx := branch (c := st = 0x0F) (hc 3) (branch (c := st = 0x06) (hc 6) (branch (c := st = 0x07) (hc 7) h))
  exact branch (hc 2) (branch (write hx now k cid op st r0 r1) hx)

end Gw.SameOut

/-- A completion takes its request from those outstanding, and where nothing is held nothing else goes out. -/
theorem Gw.complete_out (g : Gw) (now rid st : Nat) (r0 r1 : Word) (hg : g.held = []) :
    (g.complete now rid st r0 r1).out = g.out.filter (fun x => decide (x.d.rid ≠ rid)) ∧ (g.complete now rid st r0 r1).held = [] := by
  unfold Gw.complete
  split
  · rename_i hf
    have hne : ∀ x ∈ g.out, x.d.rid ≠ rid := by simpa using hf
    refine ⟨?_, hg⟩
    rw [List.filter_eq_self.mpr (by simpa using hne)]
    rfl
  · rename_i o _
    obtain ⟨ho, hh⟩ := Gw.SameOut.post ⟨rfl, rfl⟩ now o.ring o.d.cid o.d.opcode st r0 r1
      (x := { g with out := g.out.filter (fun (x : Outst) => decide (x.d.rid ≠ rid)) }.dropPort rid)
    simp only [Gw.pump, hh.trans hg, Gw.pumpGo]
    exact ⟨ho, trivial⟩

/-- Once every request of a list has completed, none of them is outstanding. -/
theorem Gw.completeAll_out (l : List Outst) (now st : Nat) (g : Gw) (hg : g.held = []) :
    let z := l.foldl (fun (g : Gw) (o : Outst) => g.complete now o.d.rid st 0 0) g
    (∀ o ∈ z.out, o ∈ g.out) ∧ ∀ o ∈ l, o ∉ z.out := by
  induction l generalizing g with
  | nil => exact ⟨fun _ h => h, fun _ h => nomatch h⟩
  | cons a l ih =>
    obtain ⟨ho, hh⟩ := g.complete_out now a.d.rid st 0 0 hg
    obtain ⟨hsub, hgone⟩ := ih _ hh
    rw [ho] at hsub
    refine ⟨fun o h => List.mem_of_mem_filter (hsub o h), fun o h hz => ?_⟩
    rcases List.mem_cons.mp h with rfl | h
    · simpa using hsub o hz
    · exact hgone o h hz

/-- What was outstanding at a channel that is lost is not outstanding any more (R526). -/
theorem Gw.lost_out (g : Gw) (now node n : Nat) (hg : g.held = []) (o : Outst) (ho : o ∈ g.out) (hn : o.node = node)
    (hc : o.ch = some n) : o ∉ (g.lost now node (some n)).out :=
  (Gw.completeAll_out _ now 0x0F g hg).2 o (List.mem_filter.mpr ⟨ho, by simp [hn, hc]⟩)

/-! ### The journal keeps what it took (R43, R55) -/

/-- y is x, but for the mark of concurrency. -/
def JEntry.Is (y x : JEntry) : Prop := y = { x with conc := y.conc }

theorem JEntry.Is.trans {z y x : JEntry} (h : z.Is y) (g : y.Is x) : z.Is x := by
  unfold JEntry.Is at *
  rw [h, g]

/-- An entry put in after another stands behind it, and the other may be marked. -/
theorem jInsert_cons_after (x y : JEntry) (ys : List JEntry) (h : jAfter x y = true) :
    ∃ y', y'.Is y ∧ jInsert x (y :: ys) = y' :: jInsert x ys := by
  rw [jInsert, if_pos h]
  cases jInsert x ys with
  | nil => exact ⟨y, rfl, rfl⟩
  | cons z zs =>
    refine ⟨_, ?_, rfl⟩
    split <;> rfl

theorem jInsert_cons_before (x y : JEntry) (ys : List JEntry) (h : ¬ jAfter x y = true) :
    jInsert x (y :: ys) = { x with conc := jConc x y } :: y :: ys := by
  rw [jInsert, if_neg h]

theorem jInsert_has_new (x : JEntry) (l : List JEntry) : ∃ y ∈ jInsert x l, y.Is x := by
  induction l with
  | nil => exact ⟨_, List.mem_singleton.mpr rfl, rfl⟩
  | cons y ys ih =>
    by_cases h : jAfter x y = true
    · obtain ⟨y', -, hi⟩ := jInsert_cons_after x y ys h
      obtain ⟨z, hz, hzx⟩ := ih
      exact ⟨z, hi ▸ List.mem_cons_of_mem _ hz, hzx⟩
    · exact ⟨{ x with conc := jConc x y }, jInsert_cons_before x y ys h ▸ List.mem_cons_self, rfl⟩

theorem jInsert_has_old (x w : JEntry) (l : List JEntry) (hw : w ∈ l) : ∃ y ∈ jInsert x l, y.Is w := by
  induction l with
  | nil => cases hw
  | cons y ys ih =>
    by_cases h : jAfter x y = true
    · obtain ⟨y', hy', hi⟩ := jInsert_cons_after x y ys h
      rw [hi]
      rcases List.mem_cons.mp hw with rfl | hw
      · exact ⟨y', List.mem_cons_self, hy'⟩
      · obtain ⟨z, hz, hzw⟩ := ih hw
        exact ⟨z, List.mem_cons_of_mem _ hz, hzw⟩
    · rw [jInsert_cons_before x y ys h]
      exact ⟨w, List.mem_cons_of_mem _ hw, rfl⟩

/-- The hub has an entry: in the journal region or in the buffer on the die. -/
def Hub.Has (h : Hub) (x : JEntry) : Prop := ∃ y, (y ∈ h.jnl ∨ y ∈ h.jbuf) ∧ y.Is x

theorem Hub.journal_has_new (h : Hub) (x : JEntry) : (h.journal x).Has x := by
  unfold Hub.journal
  split
  · obtain ⟨y, hy, hyx⟩ := jInsert_has_new x h.jbuf
    exact ⟨y, .inr hy, hyx⟩
  · obtain ⟨y, hy, hyx⟩ := jInsert_has_new x h.jnl
    exact ⟨y, .inl hy, hyx⟩

theorem Hub.journal_has_old (h : Hub) (x w : JEntry) (hw : h.Has w) : (h.journal x).Has w := by
  obtain ⟨y, hy, hyw⟩ := hw
  unfold Hub.journal
  split
  · rcases hy with hy | hy
    · exact ⟨y, .inl hy, hyw⟩
    · obtain ⟨z, hz, hzy⟩ := jInsert_has_old x y h.jbuf hy
      exact ⟨z, .inr hz, hzy.trans hyw⟩
  · rcases hy with hy | hy
    · obtain ⟨z, hz, hzy⟩ := jInsert_has_old x y h.jnl hy
      exact ⟨z, .inl hz, hzy.trans hyw⟩
    · exact ⟨y, .inr hy, hyw⟩

/-- t is s after its hub has journalled something: nothing that it had is gone. -/
def State.Journals (s t : State) : Prop :=
  t.hub.st = s.hub.st ∧ t.chans = s.chans ∧ ∀ x, s.hub.Has x → t.hub.Has x

namespace State.Journals

variable {s t u : State}

theorem refl (s : State) : State.Journals s s := ⟨rfl, rfl, fun _ h => h⟩

theorem trans (h : State.Journals s t) (g : State.Journals t u) : State.Journals s u :=
  ⟨g.1.trans h.1, g.2.1.trans h.2.1, fun x hx => g.2.2 x (h.2.2 x hx)⟩

theorem entry (s : State) (x : JEntry) : State.Journals s { s with hub := s.hub.journal x } :=
  ⟨by rw [Hub.journal_eq], rfl, s.hub.journal_has_old x⟩

/-- The hub takes the entries of a list. -/
theorem entries (l : List JEntry) (s : State) :
    let z := l.foldl (fun (s : State) x => { s with hub := s.hub.journal x }) s
    State.Journals s z ∧ ∀ x ∈ l, z.hub.Has x := by
  induction l generalizing s with
  | nil => exact ⟨refl s, fun _ h => nomatch h⟩
  | cons a l ih =>
    obtain ⟨hz, hl⟩ := ih { s with hub := s.hub.journal a }
    refine ⟨(entry s a).trans hz, fun x hx => ?_⟩
    rcases List.mem_cons.mp hx with rfl | hx
    · exact hz.2.2 x (s.hub.journal_has_new x)
    · exact hl x hx

/-- A count of discarded entries is journalled where it is not 0. -/
theorem unlessZero (h : State.Journals s t) (c : Nat) (ev : JEv) (data : List Int) (safe : Bool) :
    State.Journals s (if c = 0 then t else t.hubJr ev data safe) := by
  split
  · exact h
  · exact h.trans (entry t _)

end State.Journals

/-- The hub is back and the Sole of channel n has entries or counts to forward (R43). -/
def State.forwardDue (s : State) (n : Nat) : Prop :=
  n < 4 ∧ (s.link n).hubLost = false ∧ s.hub.run = 2 ∧ (s.ch n).core.run ≠ 0
    ∧ ((s.link n).kept ≠ [] ∨ (s.link n).lost ≠ 0 ∨ (s.link n).lostSafe ≠ 0)

/-- Nothing is forwarded where nothing is due. -/
theorem State.forward_guard (s : State) (n : Nat) :
    (4 ≤ n ∨ (vget s.hub.st n {}).hubLost = true ∨ s.hub.run ≠ 2 ∨ (s.ch n).core.run = 0
      ∨ ((vget s.hub.st n {}).kept.isEmpty = true ∧ (vget s.hub.st n {}).lost = 0 ∧ (vget s.hub.st n {}).lostSafe = 0))
      ↔ ¬ s.forwardDue n := by
  have ha : 4 ≤ n ↔ ¬ n < 4 := by omega
  have hd : ∀ t : Stitch, (t.kept.isEmpty = true ∧ t.lost = 0 ∧ t.lostSafe = 0) ↔ ¬ (t.kept ≠ [] ∨ t.lost ≠ 0 ∨ t.lostSafe ≠ 0) := by
    intro t
    simp only [List.isEmpty_iff, not_or, not_not, ne_eq]
  simp only [State.forwardDue, State.link, ha, hd, not_and_or, not_not, ne_eq, Bool.not_eq_false]

theorem State.jForward_not_due (s : State) (n : Nat) (h : ¬ s.forwardDue n) : s.jForward n = s := by
  simp only [State.jForward]
  rw [if_pos ((s.forward_guard n).mpr h)]

/-- JOURNAL_FORWARD: the entries kept reach the hub's journal, and the link keeps none of them. -/
theorem State.jForward_due (s : State) (n : Nat) (h : s.forwardDue n) :
    (s.jForward n).link n = { s.link n with kept := [], lost := 0, lostSafe := 0 }
      ∧ (∀ x ∈ (s.link n).kept, (s.jForward n).hub.Has x) ∧ (s.jForward n).chans = s.chans := by
  let s1 := s.onStitch n (fun t => { t with kept := [], lost := 0, lostSafe := 0 })
  let s2 := (s.link n).kept.foldl (fun (s : State) x => { s with hub := s.hub.journal x }) s1
  obtain ⟨hz, hk⟩ : State.Journals s1 s2 ∧ ∀ x ∈ (s.link n).kept, s2.hub.Has x := State.Journals.entries _ s1
  have hf : State.Journals s2 (s.jForward n) := by
    simp only [State.jForward]
    rw [if_neg ((s.forward_guard n).not.mpr (not_not.mpr h))]
    exact .unlessZero (.unlessZero (.refl s2) _ _ _ _) _ _ _ _
  refine ⟨?_, fun x hx => hf.2.2 x (hk x hx), hf.2.1.trans hz.2.1⟩
  rw [← s.link_onStitch_same n (fun t => { t with kept := [], lost := 0, lostSafe := 0 }) h.1]
  exact congrArg (fun v => vget v n {}) (hf.1.trans hz.1)

/-! ### DRAM (R41, R282) -/

/-- A DRAM region marked invalid. -/
def State.dramBad (s : State) (region : Nat) : State :=
  { s with hub := { s.hub with dram := { s.hub.dram with bad := msetb s.hub.dram.bad region true } } }

section Dram

variable (s : State) (region : Nat)

theorem State.dramError_idle (ok : Bool) (h : s.hub.run < 2 ∨ 7 < region) : s.dramError region ok = s := by
  simp only [State.dramError, if_pos h]

theorem State.dramError_corrected (hr : 2 ≤ s.hub.run) (hg : region ≤ 7) : s.dramError region true =
    { s with hub := { s.hub with dram := { s.hub.dram with corr := s.hub.dram.corr + 1 } } } := by
  have hi : ¬ (s.hub.run < 2 ∨ 7 < region) := by omega
  simp only [State.dramError, if_neg hi, if_true]

/-- What an uncorrectable error does by its region. -/
theorem State.dramError_bad (hr : 2 ≤ s.hub.run) (hg : region ≤ 7) : s.dramError region false =
    let u := (s.dramBad region).hubJr JEv.dramBad [(region : Int)]
    if region = 0 then u.onAll (fun _ _ k => { k with met := k.met.capErr })
    else if region = 3 then (List.range 5).foldl (fun (s : State) u => s.fwView u)
      { u with hub := { u.hub with fw := u.hub.fw.map (fun (f : FwSt) => { f with staged := none }) } }
    else u := by
  have hi : ¬ (s.hub.run < 2 ∨ 7 < region) := by omega
  simp only [State.dramError]
  rw [if_neg hi]
  rfl

theorem State.dramBad_hubJr (ev : JEv) (data : List Int) : ((s.dramBad region).hubJr ev data).hub.dram = (s.dramBad region).hub.dram := by
  simp only [State.hubJr]
  rw [Hub.journal_eq]

end Dram

theorem State.onCh_still (s : State) (n : Nat) (f : Env → Chan → Chan) : (s.onCh n f).still = s.still := by
  by_cases hn : n < 4
  · rw [State.onCh_eq s n f hn]
    exact s.withCh_still n _ hn
  · simp only [State.onCh, if_neg hn]

/-- A change of every channel changes nothing but the channels and what they send. -/
theorem State.onAll_still (s : State) (f : Nat → Env → Chan → Chan) : (s.onAll f).still = s.still :=
  List.foldlRecOn (List.range 4) (fun (u : State) n => u.onCh n (f n)) (motive := fun (t : State) => t.still = s.still) rfl
    fun t ht n _ => (t.onCh_still n (f n)).trans ht

/-- A change of every channel reaches each of them as it is. -/
theorem State.onAll_ch (s : State) (f : Nat → Env → Chan → Chan) (n : Nat) (hn : n < 4) :
    ∃ u e, u.ch n = s.ch n ∧ (s.onAll f).ch n = State.after u n (f n e (s.ch n)) := by
  obtain ⟨u, hu, hz⟩ := State.SameAt.foldl_at (n := n) (fun (s : State) m => s.onCh m (f m))
    (fun u m hm => State.SameAt.onCh u (f m) hm) (List.range 4) List.nodup_range (List.mem_range.mpr hn) s
  refine ⟨u, u.env, hu.2.2.1, hz.2.2.1.trans ?_⟩
  rw [← hu.2.2.1, State.onCh_eq u n _ hn]
  exact u.withCh_ch_same n _ hn

theorem msetb_getLsbD (b : BitVec 8) (i : Nat) (hi : i < 8) : (msetb b i true).getLsbD i = true := by
  simp [msetb, hi]

/-- An uncorrectable error in the capture region ends every capture that runs in ERROR. -/
theorem State.dramError_captures (s : State) (hr : 2 ≤ s.hub.run) :
    (s.dramError 0 false).hub.dram.bad.getLsbD 0 = true ∧ ∀ n, n < 4 →
      ((s.ch n).met.r.capStatus.state = .armed ∨ (s.ch n).met.r.capStatus.state = .post) →
      ((s.dramError 0 false).ch n).met.r.capStatus.state = .error := by
  rw [s.dramError_bad 0 hr (by decide)]
  simp only [if_true]
  refine ⟨?_, fun n hn hc => ?_⟩
  · rw [State.dram_of_still (State.onAll_still _ _), State.dramBad_hubJr]
    exact msetb_getLsbD _ 0 (by decide)
  · obtain ⟨u, e, -, hz⟩ := State.onAll_ch ((s.dramBad 0).hubJr JEv.dramBad [((0 : Nat) : Int)])
      (fun _ _ k => { k with met := k.met.capErr }) n hn
    rw [hz]
    exact (Chan.steady_after u n _).2.2.2 (Met.capErr_state _ hc)

/-- t is s but for what registers show of the firmware. -/
def State.FwShown (s t : State) : Prop :=
  t.hub.fw = s.hub.fw ∧ t.hub.dram = s.hub.dram ∧ t.hub.run = s.hub.run ∧ t.hub.r.rstCause = s.hub.r.rstCause
    ∧ t.pwr = s.pwr ∧ ∀ n, (t.ch n).core.run = (s.ch n).core.run

theorem State.FwShown.fwView {s t : State} (h : s.FwShown t) (u : Nat) : s.FwShown (t.fwView u) := by
  obtain ⟨hfw, hdram, hrun, hrst, hpwr, hch⟩ := h
  unfold State.fwView
  simp only
  split
  · rename_i hu
    refine ⟨hfw, hdram, hrun, hrst, hpwr, fun n => ?_⟩
    by_cases hn : n = u
    · subst hn
      rw [State.ch_setCh_same _ _ _ hu]
      exact hch n
    · rw [State.ch_setCh_other _ _ _ _ hn]
      exact hch n
  · split <;> exact ⟨hfw, hdram, hrun, hrst, hpwr, hch⟩

/-- The firmware registers of every unit are brought up to date. -/
theorem State.FwShown.all (s : State) : s.FwShown ((List.range 5).foldl (fun (s : State) u => s.fwView u) s) :=
  List.foldlRecOn (List.range 5) (fun (s : State) u => s.fwView u) (motive := fun t => s.FwShown t)
    ⟨rfl, rfl, rfl, rfl, rfl, fun _ => rfl⟩ fun _ ht u _ => ht.fwView u

/-- An uncorrectable error in the region of the staged images loses them. -/
theorem State.dramError_staged (s : State) (hr : 2 ≤ s.hub.run) :
    (s.dramError 3 false).hub.dram.bad.getLsbD 3 = true ∧ ∀ u, u < 5 → (vget (s.dramError 3 false).hub.fw u {}).staged = none := by
  have hb := s.dramBad_hubJr 3 JEv.dramBad [((3 : Nat) : Int)]
  rw [s.dramError_bad 3 hr (by decide)]
  simp only [if_neg (by decide : ¬ 3 = 0), if_true]
  obtain ⟨hfw, hdram, -⟩ := State.FwShown.all { (s.dramBad 3).hubJr JEv.dramBad [((3 : Nat) : Int)] with
    hub := { ((s.dramBad 3).hubJr JEv.dramBad [((3 : Nat) : Int)]).hub with
      fw := ((s.dramBad 3).hubJr JEv.dramBad [((3 : Nat) : Int)]).hub.fw.map (fun (f : FwSt) => { f with staged := none }) } }
  rw [hfw, hdram]
  refine ⟨?_, fun u hu => ?_⟩
  · exact (congrArg (fun d : Dram => d.bad.getLsbD 3) hb).trans (msetb_getLsbD _ 3 (by decide))
  · simp [vget, hu]

/-! ### Rails (R42, R711) -/

/-- What a test gives back as its die resets: in its channel neither the core nor what stands outside the channels changes. -/
theorem State.cobLeave_at (s : State) (r : CobRun) :
    (s.cobLeave r).still = s.still ∧ (∀ m, m ≠ r.task.die → (s.cobLeave r).ch m = s.ch m)
      ∧ ((s.cobLeave r).ch r.task.die).core.r.rstCause = (s.ch r.task.die).core.r.rstCause
      ∧ (4 ≤ r.task.die → (s.cobLeave r).chans = s.chans) := by
  unfold State.cobLeave
  split
  · exact ⟨rfl, fun _ _ => rfl, rfl, fun _ => rfl⟩
  · split
    · rename_i hd
      rw [State.onCh_eq _ _ _ hd]
      refine ⟨s.withCh_still _ _ hd, fun m hm => s.withCh_ch_other _ _ hd m hm, ?_, fun h => by omega⟩
      have hcore : ((s.ch r.task.die).cobLeave r).core = (s.ch r.task.die).core := by
        unfold Chan.cobLeave
        simp only
        split <;> (try split) <;> rfl
      rw [s.withCh_ch_same _ _ hd, (Chan.steady_after s _ _).2.1, hcore]
    · exact ⟨rfl, fun _ _ => rfl, rfl, fun _ => rfl⟩

/-- t is s but for the tests of a die, and for what their end gives back in its channel. -/
def State.TestsOver (die : Nat) (s t : State) : Prop :=
  t.pwr = s.pwr ∧ t.hub.run = s.hub.run ∧ t.hub.r = s.hub.r ∧ (∀ m, m ≠ die → t.ch m = s.ch m)
    ∧ (t.ch die).core.r.rstCause = (s.ch die).core.r.rstCause ∧ (4 ≤ die → t.chans = s.chans)

theorem State.TestsOver.cobLeave {die : Nat} {s t : State} (h : State.TestsOver die s t) (r : CobRun) (hr : r.task.die = die) :
    State.TestsOver die s (t.cobLeave r) := by
  subst hr
  obtain ⟨hpwr, hrun, hregs, hother, hrst, hchans⟩ := h
  obtain ⟨hs, ho, hc, h4⟩ := t.cobLeave_at r
  exact ⟨(State.pwr_of_still hs).trans hpwr, (State.run_of_still hs).trans hrun, (State.hubRegs_of_still hs).trans hregs,
    fun m hm => (ho m hm).trans (hother m hm), hc.trans hrst, fun hd => (h4 hd).trans (hchans hd)⟩

/-- A reset of a die ends its tests (R692). -/
theorem State.cobReset_over (s : State) (die : Nat) : State.TestsOver die s (s.cobReset die) :=
  List.foldlRecOn (s.hub.cob.run.filter (fun (r : CobRun) => decide (r.task.die = die)))
    (fun (s : State) r => s.cobLeave r) (motive := fun t => State.TestsOver die s t)
    ⟨rfl, rfl, rfl, fun _ _ => rfl, rfl, fun _ => rfl⟩
    fun _ ht r hr => ht.cobLeave r (by simpa using (List.mem_filter.mp hr).2)

/-- A Sole that enters reset: it stands in reset with its cause recorded, and the other dies are as they were (R710, R711). -/
theorem State.soleReset_at (s : State) (n : Nat) (cause : ChRstCause → ChRstCause) (hn : n < 4) :
    let z := s.soleReset n cause
    z.pwr = s.pwr ∧ z.hub.run = s.hub.run ∧ (z.ch n).core.run = 0
      ∧ (z.ch n).core.r.rstCause = cause (s.ch n).core.r.rstCause ∧ ∀ m, m ≠ n → z.ch m = s.ch m := by
  intro z
  obtain ⟨hpwr, hrun, -, hother, hrst, -⟩ := s.cobReset_over n
  let t := s.cobReset n
  let k := (t.ch n).toReset t.env cause
  have hu : t.onCh n (fun e k => k.toReset e cause) = t.withCh n k := State.onCh_eq t n _ hn
  have hs : (t.onCh n (fun e k => k.toReset e cause)).still = t.still := t.onCh_still n _
  have hz (m : Nat) : z.ch m = (t.withCh n k).ch m := (congrArg (fun u : State => u.ch m) hu :)
  obtain ⟨hkrun, hkrst, -, -⟩ := Chan.steady_after t n k
  refine ⟨(State.pwr_of_still hs).trans hpwr, (State.run_of_still hs).trans hrun, ?_, ?_, fun m hm => ?_⟩
  · rw [hz, t.withCh_ch_same n k hn, hkrun]
    rfl
  · rw [hz, t.withCh_ch_same n k hn, hkrst, ← hrst]
    rfl
  · rw [hz, t.withCh_ch_other n k hn m hm]
    exact hother m hm

/-- What a hub reset makes of the state, before the firmware registers follow. -/
theorem State.hubReset_shown (s : State) (run : Nat) (cause : HubRstCause → HubRstCause) :
    ∃ w : State, w.FwShown (s.hubReset run cause) ∧ w.pwr = (s.cobReset 4).pwr ∧ w.hub.run = run
      ∧ w.hub.r.rstCause = cause (s.cobReset 4).hub.r.rstCause ∧ w.chans = (s.cobReset 4).chans := by
  unfold State.hubReset
  generalize s.cobReset 4 = t
  exact ⟨_, State.FwShown.all _, rfl, rfl, rfl, rfl⟩

/-- The hub enters reset: the Soles stand as they were. -/
theorem State.hubReset_at (s : State) (run : Nat) (cause : HubRstCause → HubRstCause) :
    let z := s.hubReset run cause
    z.pwr = s.pwr ∧ z.hub.run = run ∧ z.hub.r.rstCause = cause s.hub.r.rstCause ∧ ∀ n, (z.ch n).core.run = (s.ch n).core.run := by
  intro z
  obtain ⟨hpwr, -, hregs, -, -, hchans⟩ := s.cobReset_over 4
  obtain ⟨w, ⟨-, -, zrun, zrst, zpwr, zch⟩, wpwr, wrun, wrst, wchans⟩ := s.hubReset_shown run cause
  rw [hregs] at wrst
  refine ⟨zpwr.trans (wpwr.trans hpwr), zrun.trans wrun, zrst.trans wrst, fun n => (zch n).trans ?_⟩
  exact congrArg (fun v => (vget v n {}).core.run) (wchans.trans (hchans (Nat.le_refl 4)))

/-- The rail of a die that is on shorts. -/
def State.railDue (s : State) (die : Nat) : Prop := die ≤ 4 ∧ s.pwr.rails = true ∧ s.pwr.off.getLsbD die = false

/-- The rail of one die switched off. -/
def State.railOff (s : State) (die : Nat) : State := { s with pwr := { s.pwr with off := msetb s.pwr.off die true } }

theorem State.railFault_not_due (s : State) (die : Nat) (h : ¬ s.railDue die) : s.railFault die = s := by
  simp only [State.railFault]
  rw [if_pos]
  by_contra hc
  simp only [not_or, Nat.not_lt, Bool.not_eq_true, Bool.not_eq_false'] at hc
  exact h hc

theorem State.railFault_due (s : State) (die : Nat) (h : s.railDue die) : s.railFault die =
    if die < 4 then
      let u := (s.railOff die).soleReset die (fun c => { c with rail := true })
      { u with hub := { u.hub with r := { u.hub.r with dieStatus := { u.hub.r.dieStatus with pmOk := false } } } }
    else (s.railOff die).hubReset 0 (fun c => { c with rail := true }) := by
  obtain ⟨hd, hr, ho⟩ := h
  simp only [State.railFault]
  rw [if_neg]
  · rfl
  · simp only [not_or, Nat.not_lt, Bool.not_eq_true, Bool.not_eq_false']
    exact ⟨hd, hr, ho⟩

/-- RAIL_FAULT at a Sole or at the hub: that die alone is in reset. -/
theorem State.railFault_at (s : State) (die : Nat) (h : s.railDue die) :
    let z := s.railFault die
    z.pwr = { s.pwr with off := msetb s.pwr.off die true }
      ∧ (die < 4 → (z.ch die).core.run = 0 ∧ (z.ch die).core.r.rstCause = { (s.ch die).core.r.rstCause with rail := true }
          ∧ (∀ m, m < 4 → m ≠ die → z.ch m = s.ch m) ∧ z.hub.r.dieStatus.pmOk = false ∧ z.hub.run = s.hub.run)
      ∧ (die = 4 → z.hub.run = 0 ∧ z.hub.r.rstCause = { s.hub.r.rstCause with rail := true }
          ∧ ∀ n, n < 4 → (z.ch n).core.run = (s.ch n).core.run) := by
  intro z
  have hz : z = _ := s.railFault_due die h
  by_cases hd : die < 4
  · rw [if_pos hd] at hz
    obtain ⟨hpwr, hrun, hkrun, hkrst, hother⟩ := (s.railOff die).soleReset_at die (fun c => { c with rail := true }) hd
    rw [hz]
    exact ⟨hpwr, fun _ => ⟨hkrun, hkrst, fun m _ hm => hother m hm, rfl, hrun⟩, fun h4 => by omega⟩
  · rw [if_neg hd] at hz
    obtain ⟨hpwr, hrun, hrst, hch⟩ := (s.railOff die).hubReset_at 0 (fun c => { c with rail := true })
    rw [hz]
    exact ⟨hpwr, fun h4 => absurd h4 hd, fun _ => ⟨hrun, hrst, fun n _ => hch n⟩⟩

/-! ### The Eyelet link (R38) -/

/-- A channel with what a status frame of its Eyelet die tells: currents in mA and VSWn in mV. -/
def Chan.eyHeard (k : Chan) (mas : List Nat) (vsw : Nat) : Chan :=
  { k with
    core := { k.core with r := { k.core.r with linkStatus := { k.core.r.linkStatus with eydLinkOk := true } } }
    ey := { k.ey with
      vsw := vsw
      o := vMapI k.ey.o (fun i (o : EyOut) => { o with ma := if o.live then mas.getD i 0 else 0 }) } }

/-- A vector mapped with its positions, read. -/
theorem vget_vMapI {α β : Type} {N : Nat} (v : Vector α N) (f : Nat → α → β) (i : Nat) (hi : i < N) (d : α) (d' : β) :
    vget (vMapI v f) i d' = f i (vget v i d) := by
  simp [vget, vMapI, hi]

/-- y is k's Eyelet part after the Sole has taken over what the die tells. -/
def Chan.EySynced (k : Chan) (y : Ey) : Prop :=
  y.report = false ∧ y.fault = {} ∧ y.r.ol = k.ey.flags ∧ y.r.fault.oc = k.ey.r.fault.oc ||| k.ey.fault.oc
    ∧ y.r.fault.th = k.ey.r.fault.th ||| k.ey.fault.th ∧ y.r.fault.ouv = k.ey.r.fault.ouv ||| k.ey.fault.ouv
    ∧ y.o = k.ey.o ∧ y.vsw = k.ey.vsw ∧ y.r.supply.vsw = BitVec.ofNat 16 (min 65535 k.ey.vsw)

/-- The Sole takes over what its Eyelet die tells, with entries for the journal, and nothing else changes. -/
theorem Chan.eySync_synced (k : Chan) (e : Env) : ∃ y js, k.eySync e = { k with ey := y, jq := js } ∧ k.EySynced y := by
  unfold Chan.eySync
  simp only
  split <;> split <;> exact ⟨_, _, rfl, rfl, rfl, rfl, rfl, rfl, rfl, rfl, rfl, rfl⟩

/-- A change of the flags, or a trip, is journalled. -/
theorem Chan.eySync_notes (k : Chan) (e : Env) (h : k.ey.flags ≠ k.ey.r.ol ∨ k.ey.fault ≠ {}) : (k.eySync e).jq ≠ k.jq := by
  have hne (l m : List JEntry) (hm : m ≠ []) : l ++ m ≠ l := by simpa using hm
  unfold Chan.eySync
  simp only
  split
  · split
    · simp [Chan.jr]
    · simp [Chan.jr]
  · split
    · simp [Chan.jr]
    · rename_i h1 h2
      exact absurd h (not_or.mpr ⟨h2, h1⟩)

/-- A fault report that is due is taken over, and what it changes is journalled (R38). -/
theorem Chan.eyReport_due (c : Chan) (e : Env) (h : c.ey.report = true) :
    ∃ y js, c.eyReport e = { c with ey := y, jq := js } ∧ c.EySynced y
      ∧ (c.ey.flags ≠ c.ey.r.ol ∨ c.ey.fault ≠ {} → js ≠ c.jq) := by
  obtain ⟨y, js, hz, hy⟩ := c.eySync_synced e
  have hr : c.eyReport e = c.eySync e := if_pos h
  refine ⟨y, js, hr.trans hz, hy, fun hn => ?_⟩
  have hj := c.eySync_notes e hn
  rwa [hz] at hj

theorem Chan.eyReport_not_due (c : Chan) (e : Env) (h : c.ey.report = false) : c.eyReport e = c := by
  simp only [Chan.eyReport, h]
  rfl

/-- A status frame changes of Shank only that it has been seen by a running test pulse (R439). -/
theorem Chan.tpStatus_eq (k : Chan) (e : Env) : ∃ b, k.tpStatus e = { k with shk := { k.shk with tpSeen := b } } := by
  unfold Chan.tpStatus
  simp only
  split <;> exact ⟨_, rfl⟩

/-- A status frame that arrives (R38). -/
theorem Chan.eyStatus_heard (c : Chan) (e : Env) (mas : List Nat) (vsw : Nat) :
    ∃ y js b, (c.eyStatus e true mas vsw).tpStatus e =
        { c.eyHeard mas vsw with ey := y, jq := js, shk := { c.shk with tpSeen := b } }
      ∧ y.vsw = vsw ∧ y.r.supply.vsw.toNat = min 65535 vsw
      ∧ ∀ i, i < 8 → vget y.o i {} = { vget c.ey.o i {} with ma := if (vget c.ey.o i {}).live then mas.getD i 0 else 0 } := by
  obtain ⟨y, js, hz, -, -, -, -, -, -, ho, hvsw, hsupply⟩ := (c.eyHeard mas vsw).eySync_synced e
  obtain ⟨b, hb⟩ := Chan.tpStatus_eq (c.eyStatus e true mas vsw) e
  have hs : c.eyStatus e true mas vsw = (c.eyHeard mas vsw).eySync e := rfl
  rw [hb, hs, hz]
  refine ⟨y, js, b, rfl, hvsw, ?_, fun i hi => ?_⟩
  · rw [hsupply, BitVec.toNat_ofNat]
    exact Nat.mod_eq_of_lt (by omega)
  · rw [ho]
    exact vget_vMapI _ _ i hi _ _

/-- EYELET_FAULT_REPORT and EYELET_STATUS_FRAME at a Sole that runs, in no deeper power state than REST (R38). -/
theorem State.eyelet_commands (s : State) (n : Nat) (h : s.soleUp n 3 = true) :
    let c := s.ch n
    let l := c.core.r.linkStatus
    (c.ey.report = false → Becomes (exec (.eyeletFaultReport n) s) s n (fun k => k = c))
      ∧ (c.ey.report = true → Becomes (exec (.eyeletFaultReport n) s) s n (fun k =>
          c.EySynced k.ey ∧ (c.ey.flags ≠ c.ey.r.ol ∨ c.ey.fault ≠ {} → k.jq ≠ c.jq) ∧ k = { c with ey := k.ey, jq := k.jq }))
      ∧ (∀ (mas : List Nat) (vsw : Nat),
        Becomes (exec (.eyeletStatusFrame n false mas vsw) s) s n (fun k =>
          k = { c with core := { c.core with r := { c.core.r with linkStatus := { l with eydLinkOk := false, eydLinkErr := true } } } })
        ∧ Becomes (exec (.eyeletStatusFrame n true mas vsw) s) s n (fun k =>
          k.core = { c.core with r := { c.core.r with linkStatus := { l with eydLinkOk := true } } }
          ∧ k.ey.vsw = vsw ∧ k.ey.r.supply.vsw.toNat = min 65535 vsw
          ∧ (∀ i, i < 8 → vget k.ey.o i {} = { vget c.ey.o i {} with ma := if (vget c.ey.o i {}).live then mas.getD i 0 else 0 })
          ∧ k = { c with core := k.core, ey := k.ey, jq := k.jq, shk := { c.shk with tpSeen := k.shk.tpSeen } })) := by
  intro c l
  refine ⟨fun hr => ?_, fun hr => ?_, fun mas vsw => ⟨?_, ?_⟩⟩
  · exact s.becomes_onSole n 3 _ _ h (Chan.eyReport_not_due _ _ hr)
  · obtain ⟨y, js, hk, hy, hj⟩ := Chan.eyReport_due _ s.env hr
    refine s.becomes_onSole n 3 _ _ h ?_
    rw [hk]
    exact ⟨hy, hj, rfl⟩
  · exact s.becomes_onSole n 3 _ _ h rfl
  · obtain ⟨y, js, b, hk, hvsw, hsupply, ho⟩ := c.eyStatus_heard s.env mas vsw
    refine s.becomes_onSole n 3 _ _ h ?_
    simp only [if_true]
    rw [hk]
    exact ⟨rfl, hvsw, hsupply, ho, rfl⟩

/-! ### The commands of the stitch links -/

/-- STITCH_PACKET on the link of channel n (R34, R35). -/
theorem State.stitchPacket_at (s : State) (n : Nat) :
    let c := s.ch n
    let l := c.core.r.linkStatus
    let t := s.link n
    let s1 := s.crcCounted n
    (¬ s.carries n → ∀ a b : Bool, Leaves (exec (.stitchPacket n a b) s) s)
      ∧ (s.carries n →
        Becomes (exec (.stitchPacket n true true) s) (s.onStitch n (fun t => { t with failS := 0, tSole := s.now, hubLost := false })) n
          (fun k => k = c.seesHub)
        ∧ Leaves (exec (.stitchPacket n false true) s) (s.onStitch n (fun t => { t with failH := 0, tHub := s.now, soleLost := false }))
        ∧ (t.failS < 3 → Leaves (exec (.stitchPacket n true false) s) (s1.onStitch n (fun t => { t with failS := t.failS + 1 })))
        ∧ (t.failH < 3 → Leaves (exec (.stitchPacket n false false) s) (s1.onStitch n (fun t => { t with failH := t.failH + 1 })))
        ∧ (∀ a : Bool, 3 ≤ (if a then t.failS else t.failH) →
            Becomes (exec (.stitchPacket n a false) s) (s1.onStitch n (fun t => { t with retrain := true })) n (fun k =>
              k = { c with core := { c.core with r := { c.core.r with linkStatus := { l with retrain := satInc l.retrain } } } }))) := by
  intro c l t s1
  refine ⟨fun h a b => congrArg State.done (s.stitch_idle n h a b), fun h => ⟨?_, ?_, fun hf => ?_, fun hf => ?_, fun a hf => ?_⟩⟩
  · exact ⟨_, rfl, congrArg State.done (s.stitchOk_toSole n h)⟩
  · exact congrArg State.done (s.stitchOk_toHub n h)
  · exact congrArg State.done (s.stitchBad_retry n h true hf)
  · exact congrArg State.done (s.stitchBad_retry n h false hf)
  · exact ⟨_, rfl, congrArg State.done (s.stitchBad_retrain n h a hf)⟩

/-- HUB_LOST at channel n (R35, R282). -/
theorem State.hubLost_at (s : State) (n : Nat) :
    let c := s.ch n
    (¬ s.hubSilent n → Leaves (exec (.hubLost n) s) s)
      ∧ (s.hubSilent n → Becomes (exec (.hubLost n) s) (s.onStitch n (fun t => { t with hubLost := true })) n (fun k =>
          k.core.r.linkStatus = { c.core.r.linkStatus with hubPresent := false, hubLost := true }
          ∧ ((c.met.r.capStatus.state = .armed ∨ c.met.r.capStatus.state = .post) → k.met.r.capStatus.state = .error)
          ∧ k = { c with core := { c.core with r := { c.core.r with linkStatus := k.core.r.linkStatus } }, met := k.met })) := by
  intro c
  refine ⟨fun h => congrArg State.done (s.loseHub_not_due n h), fun h => ?_⟩
  refine ⟨c.hubSeen false, ⟨?_, fun hc => ?_, rfl⟩, congrArg State.done (s.loseHub_due n h)⟩
  · simp [Chan.hubSeen]
  · exact Met.capErr_state _ hc

/-- SOLE_LOST at channel n (R35, R526). -/
theorem State.soleLost_at (s : State) (n : Nat) :
    let lost := s.onStitch n (fun t => { t with soleLost := true })
    (¬ s.soleSilent n → Leaves (exec (.soleLost n) s) s)
      ∧ (s.soleSilent n → s.nid = none → Leaves (exec (.soleLost n) s) lost)
      ∧ (∀ me, s.soleSilent n → s.nid = some me → s.hub.gw.held = [] → GwBecomes (exec (.soleLost n) s) lost (fun g =>
          ∀ o, o ∈ s.hub.gw.out → o.node = me → o.ch = some n → o ∉ g.out)) := by
  intro lost
  refine ⟨fun h => ?_, fun h hnid => ?_, fun me h hnid hheld => ?_⟩
  · exact congrArg State.done (s.loseSole_not_due n h)
  · exact congrArg State.done (s.loseSole_alone n h hnid)
  · exact ⟨_, fun o ho hn hc => Gw.lost_out _ s.now me n hheld o ho hn hc, congrArg State.done (s.loseSole_joined n h me hnid)⟩

/-- DRAM_ERROR by its region (R41, R282). -/
theorem State.dramError_at (s : State) (region : Nat) (ok : Bool) :
    let o := exec (.dramError region ok) s
    ((s.hub.run < 2 ∨ 7 < region) → Leaves o s)
      ∧ (2 ≤ s.hub.run → region ≤ 7 → ok = true →
          Leaves o { s with hub := { s.hub with dram := { s.hub.dram with corr := s.hub.dram.corr + 1 } } })
      ∧ (2 ≤ s.hub.run → region ≤ 7 → ok = false → region ≠ 0 → region ≠ 3 →
          Leaves o ((s.dramBad region).hubJr JEv.dramBad [(region : Int)]))
      ∧ (2 ≤ s.hub.run → region = 0 → ok = false → ∃ z, Leaves o z ∧ z.hub.dram.bad.getLsbD 0 = true ∧ ∀ n, n < 4 →
          ((s.ch n).met.r.capStatus.state = .armed ∨ (s.ch n).met.r.capStatus.state = .post) → (z.ch n).met.r.capStatus.state = .error)
      ∧ (2 ≤ s.hub.run → region = 3 → ok = false → ∃ z, Leaves o z ∧ z.hub.dram.bad.getLsbD 3 = true
          ∧ ∀ u, u < 5 → (vget z.hub.fw u {}).staged = none) := by
  intro o
  refine ⟨fun h => ?_, fun hr hg hok => ?_, fun hr hg hok h0 h3 => ?_, fun hr hg hok => ?_, fun hr hg hok => ?_⟩
  · exact congrArg State.done (s.dramError_idle region ok h)
  · subst hok
    exact congrArg State.done (s.dramError_corrected region hr hg)
  · subst hok
    have hb := s.dramError_bad region hr hg
    rw [if_neg h0, if_neg h3] at hb
    exact congrArg State.done hb
  · subst hok hg
    exact ⟨_, rfl, s.dramError_captures hr⟩
  · subst hok hg
    exact ⟨_, rfl, s.dramError_staged hr⟩

/-- Settles O54: the links by `stitchPacket_at`, the losses and what a Sole kept, the heartbeats, the DRAM, the rails and the
Eyelet link, each by its own lemma. -/
theorem linksAndRails : Obligations.LinksAndRails := by
  unfold Obligations.LinksAndRails
  intro s
  refine ⟨fun n => ?_, ⟨s.heartbeats, rfl, s.heartbeats_at⟩, s.dramError_at, rfl, fun die => ⟨fun h => ?_, fun h => ?_⟩, fun n h => ?_⟩
  · obtain ⟨hidle, hpacket⟩ := s.stitchPacket_at n
    obtain ⟨hhub, hhub'⟩ := s.hubLost_at n
    refine ⟨hidle, hpacket, fun hn => ?_, ⟨hhub, hhub'⟩, s.soleLost_at n, fun h => ?_, fun h => ?_⟩
    · exact congrArg State.done (if_pos hn)
    · exact congrArg State.done (s.jForward_not_due n h)
    · exact ⟨s.jForward n, rfl, s.jForward_due n h⟩
  · exact congrArg State.done (s.railFault_not_due die h)
  · exact ⟨s.railFault die, rfl, s.railFault_at die h⟩
  · obtain ⟨hquiet, hreport, hframe⟩ := s.eyelet_commands n h
    refine ⟨hquiet, fun hr => ?_, hframe⟩
    obtain ⟨k, ⟨⟨hrep, hf, hol, hoc, hth, houv, ho, -, -⟩, hj, hk⟩, hl⟩ := hreport hr
    exact ⟨k, ⟨hrep, hf, hol, hoc, hth, houv, ho, hj, hk⟩, hl⟩

end Sys2Proof.Machine

namespace Sys2Proof.Machine

/-! ### Masks -/

/-- A bit of a mask after one of its bits was set to a value. -/
theorem mbit_msetb {N : Nat} (m : BitVec N) (g i : Nat) (b : Bool) :
    mbit (msetb m g b) i = if i = g ∧ i < N then b else mbit m i := by
  have hg : (1#N <<< g).getLsbD i = (decide (g < N) && decide (g = i)) := BitVec.getLsbD_twoPow g i
  have hset : mbit (msetb m g b) i = if b then m.getLsbD i || (1#N <<< g).getLsbD i
      else m.getLsbD i && (decide (i < N) && !(1#N <<< g).getLsbD i) := by
    cases b
    · exact (BitVec.getLsbD_and ..).trans (congrArg _ (BitVec.getLsbD_not ..))
    · exact BitVec.getLsbD_or ..
  rw [hset, hg, mbit]
  by_cases hi : i < N
  · rcases eq_or_ne i g with rfl | hne
    · simp [hi]
    · simp [hi, hne, hne.symm]
  · have hgi : g < N → g ≠ i := by omega
    simpa [hi, BitVec.getLsbD_of_ge m i (Nat.le_of_not_lt hi)] using fun _ : b = true => hgi

/-- Another bit of it. -/
theorem mbit_msetb_other {N : Nat} (m : BitVec N) (g i : Nat) (b : Bool) (h : i ≠ g) : mbit (msetb m g b) i = mbit m i := by
  rw [mbit_msetb, if_neg fun hc => h hc.1]

/-- A bit of a mask of which the first c bits were set one after the other. -/
theorem mbit_setAll {N : Nat} (f : Nat → Bool) (m : BitVec N) (i : Nat) (hi : i < N) (c : Nat) :
    mbit ((List.range c).foldl (fun (m : BitVec N) g => msetb m g (f g)) m) i = if i < c then f i else mbit m i := by
  induction c with
  | zero => rfl
  | succ c ih =>
    rw [List.range_succ, List.foldl_append, List.foldl_cons, List.foldl_nil, mbit_msetb, ih]
    by_cases hc : i = c
    · subst hc
      simp [hi]
    · have : i < c + 1 ↔ i < c := by omega
      simp [hc, this]

/-! ### What a command on a phase modulator answers -/

/-- A command that changes the modulator of a channel whose Sole is in RUN or TRIM. -/
theorem State.becomes_onPwm (s : State) (n : Nat) (f : Env → Chan → Pwm → Pwm) (P : Chan → Prop) (h : s.soleUp n 1 = true)
    (hP : P { s.ch n with pwm := f s.env (s.ch n) (s.ch n).pwm }) : Becomes (s.onPwm n f).done s n P :=
  s.becomes_onSole n 1 _ P h hP

/-- A host write of a register of the modulator of a channel that is open. -/
theorem State.becomes_pwmWrite (s : State) (n o : Nat) (w : Word) (P : Chan → Prop) (hn : n < 4) (h : s.hostOpen n = true)
    (ho : 0x100 ≤ o ∧ o < 0x200 ∧ o % 4 = 0) (hr : ((s.ch n).pwm.r.read o).isSome = true)
    (hP : P ((s.ch n).pwmWrite s.env o w)) : Becomes (s.chWrite n o w).done s n P :=
  ⟨_, hP, congrArg State.done (s.chWrite_pwm n o w hn h ho.1 ho.2.1 ho.2.2 hr)⟩

/-! ### Trips of the modulator (R82 to R85) -/

/-- The bit of PWM_TRIP that a source latches, set. -/
def PwmTrip.latch (t : PwmTrip) : TripSrc → PwmTrip
  | .gflt g => { t with gflt := msetb t.gflt g true }
  | .ocp => { t with ocp := true }
  | .ring => { t with ring := true }
  | .shank => { t with shank := true }

/-- A trip source in RUN latches its bit: the modulator is in TRIPPED, counted, and every phase low (R84). -/
theorem Pwm.trip_run (p : Pwm) (src : TripSrc) (h : p.r.status.state = .run) :
    (p.trip src).2 = true ∧ (p.trip src).1.r.status.state = .tripped ∧ (p.trip src).1.r.tripCnt = satInc p.r.tripCnt
      ∧ ((p.trip src).1.ph.toList.all fun x => decide (x.act = .off)) = true ∧ (p.trip src).1.r.trip = p.r.trip.latch src := by
  have hoff (p : Pwm) : ((p.ph.map fun (x : PhaseSt) => { x with act := .off, ret := false, base := none }).toList.all
      fun x => decide (x.act = .off)) = true := by
    simp
  unfold Pwm.trip
  rw [if_neg (not_not_intro h)]
  cases src <;> exact ⟨rfl, rfl, rfl, hoff p, rfl⟩

/-- The loop of a channel whose modulator has tripped: in FAULT where it was not IDLE, and the modulator as it is. -/
theorem Chan.loopFault_at (k : Chan) (e : Env) :
    (k.loopFault e).pwm = k.pwm ∧ (k.loop.r.status.state ≠ .idle → (k.loopFault e).loop.r.status.state = .fault) := by
  unfold Chan.loopFault
  cases k.loop.swap <;> cases hs : k.loop.r.status.state <;> simp [Chan.compl, Loop.enter, hs]

/-- k is channel c after a source tripped its modulator in RUN (R84, R155). -/
def Chan.GateTripped (c : Chan) (src : TripSrc) (k : Chan) : Prop :=
  (k.pwm.r.status.state = .tripped ∧ k.pwm.r.tripCnt = satInc c.pwm.r.tripCnt
    ∧ (k.pwm.ph.toList.all fun x => decide (x.act = .off)) = true
    ∧ (c.loop.r.status.state ≠ .idle → k.loop.r.status.state = .fault))
  ∧ k.pwm.r.trip = c.pwm.r.trip.latch src

theorem Chan.gateTrip_run (c : Chan) (e : Env) (src : TripSrc) (h : c.pwm.r.status.state = .run) :
    c.GateTripped src (c.gateTrip e src) := by
  obtain ⟨hin, hst, hcnt, hoff, htrip⟩ := c.pwm.trip_run src h
  obtain ⟨hpwm, hloop⟩ := Chan.loopFault_at (({ c with pwm := (c.pwm.trip src).1, met := c.met.trigger e 0 } : Chan).jr e .pwm
    JEv.trip [(c.pwm.trip src).1.r.trip.read.toNat]) e
  have hk : (c.gateTrip e src).pwm = (c.pwm.trip src).1
      ∧ (c.loop.r.status.state ≠ .idle → (c.gateTrip e src).loop.r.status.state = .fault) := by
    rw [Chan.gateTrip, if_pos hin]
    exact ⟨hpwm, hloop⟩
  rw [← hk.1] at hst hcnt hoff htrip
  exact ⟨⟨hst, hcnt, hoff, hk.2⟩, htrip⟩

/-- GATE_FAULT_INPUT asserted within the filter (R82). -/
theorem Chan.gateFault_filtered (c : Chan) (e : Env) (g ns : Nat) (hg : g < 6) (hns : ns ≤ 10 * c.pwm.r.prot.gfltFilt.toNat) :
    c.gateFault e g true ns = c := by
  simp [Chan.gateFault, Nat.not_le.mpr hg, hns]

/-- GATE_FAULT_INPUT asserted beyond the filter at a group with an enabled phase (R82, R84). -/
theorem Chan.gateFault_trips (c : Chan) (e : Env) (g ns : Nat) (hg : g < 6) (hns : 10 * c.pwm.r.prot.gfltFilt.toNat < ns)
    (hen : c.pwm.groupEn g = true) (h : c.pwm.r.status.state = .run) : c.GateTripped (.gflt g) (c.gateFault e g true ns) := by
  have hk : c.gateFault e g true ns = ({ c with pwm := { c.pwm with gflt := msetb c.pwm.gflt g true } } : Chan).gateTrip e (.gflt g) := by
    simp [Chan.gateFault, Nat.not_le.mpr hg, Nat.not_le.mpr hns, hen]
  exact hk ▸ Chan.gateTrip_run { c with pwm := { c.pwm with gflt := msetb c.pwm.gflt g true } } e (.gflt g) h

/-- OVERCURRENT_INPUT beyond its threshold and its filter (R83, R84). -/
theorem Chan.overcurrent_trips (c : Chan) (e : Env) (mv ns : Nat) (hmv : 3 * c.pwm.r.prot.ocpThr.toNat < mv)
    (hns : 10 * c.pwm.r.prot.ocpFilt.toNat < ns) (h : c.pwm.r.status.state = .run) :
    c.GateTripped .ocp (c.overcurrent e mv ns) := by
  have hk : c.overcurrent e mv ns = ({ c with pwm := { c.pwm with oc := true } } : Chan).gateTrip e .ocp := by
    simp [Chan.overcurrent, Nat.not_le.mpr hmv, Nat.not_le.mpr hns]
  exact hk ▸ Chan.gateTrip_run { c with pwm := { c.pwm with oc := true } } e .ocp h

/-- No gate fault is present where no input is asserted. -/
theorem Pwm.gfltNow_none (p : Pwm) (h : p.gflt = 0) :
    (List.range 6).foldl (fun (m : BitVec 6) g => msetb m g (mbit p.gflt g && p.groupEn g)) 0 = 0 := by
  refine BitVec.eq_of_getLsbD_eq fun i hi => ?_
  have hbit : mbit _ i = _ := mbit_setAll (fun g => mbit p.gflt g && p.groupEn g) (0 : BitVec 6) i hi 6
  have hnone : (mbit p.gflt i && p.groupEn i) = (0 : BitVec 6).getLsbD i := by simp [h, mbit]
  rwa [if_pos hi, hnone] at hbit

/-- A clearing of PWM_TRIP while no source is present sets nothing again (R85). -/
theorem Pwm.tripClear_absent (p : Pwm) (w : Word) (hg : p.gflt = 0) (ho : p.oc = false) :
    (p.tripClear w false) =
      let q : Pwm := { p with r.trip := p.r.trip.write w }
      if q.r.status.state = .tripped ∧ q.noTrip then { q with r.status.state := .ready } else q := by
  have hor (t : BitVec 6) : t ||| (p.r.trip.gflt &&& 0) = t := by simp
  simp only [Pwm.tripClear, p.gfltNow_none hg, ho, hor, Bool.and_false, Bool.or_false]

/-- All ones written to PWM_TRIP clear every bit. -/
theorem PwmTrip.write_ones (t : PwmTrip) : t.write 0xFFFFFFFF = {} := by
  obtain ⟨sh, ri, oc, g⟩ := t
  have hg : g &&& ~~~((0xFFFFFFFF : Word).extractLsb' 0 6) = 0 := by
    rw [show ~~~((0xFFFFFFFF : Word).extractLsb' 0 6) = 0#6 by decide]
    exact BitVec.and_zero
  simp only [PwmTrip.write, hg]
  simp

/-- A host write of PWM_TRIP reaches the modulator. -/
theorem Chan.pwmWrite_trip (k : Chan) (e : Env) (w : Word) :
    k.pwmWrite e 0x138 w = { k with pwm := (k.pwm.tripClear w k.shk.r.status.inhibit).view } := rfl

/-- Settles O2: each source by `gateTrip_run`, and the clearing by `tripClear_absent`. -/
theorem pwmTrips : Obligations.PwmTrips := by
  unfold Obligations.PwmTrips
  intro s n h p low
  obtain ⟨hn, hup, hpm⟩ := (s.soleUp_iff n 1).1 h
  refine ⟨fun g ns hg hns => ?_, fun g ns hg hns hen hrun => ?_, fun mv ns hmv hns hrun => ?_, fun hinh hrun => ?_,
    fun hopen ht hg ho hinh => ?_⟩
  · exact s.becomes_onSole n 1 _ _ h (Chan.gateFault_filtered _ _ g ns hg hns)
  · exact s.becomes_onSole n 1 _ _ h (Chan.gateFault_trips _ _ g ns hg hns hen hrun)
  · exact s.becomes_onSole n 1 _ _ h (Chan.overcurrent_trips _ _ mv ns hmv hns hrun)
  · refine s.becomes_onSole n 3 _ _ ((s.soleUp_iff n 3).2 ⟨hn, hup, by omega⟩) ?_
    rw [if_pos hinh]
    exact Chan.gateTrip_run _ _ .shank hrun
  · refine s.becomes_pwmWrite n 0x138 _ _ hn hopen (by decide) rfl ?_
    have hc : (s.ch n).pwm.tripClear 0xFFFFFFFF false = { (s.ch n).pwm with r.trip := {}, r.status.state := .ready } := by
      rw [Pwm.tripClear_absent _ _ hg ho, PwmTrip.write_ones]
      exact if_pos ⟨ht, rfl⟩
    rw [Chan.pwmWrite_trip, hinh, hc]
    exact ⟨rfl, rfl, rfl⟩

/-! ### Gate-driver telemetry (R86, R87) -/

/-- The CRC of a telemetry frame's body. -/
def telCrc (f : BitVec 40) : Byte := crc8 [f.extractLsb' 24 8, f.extractLsb' 16 8, f.extractLsb' 8 8, f.extractLsb' 0 8]

/-- The phase that a telemetry frame of group g speaks of. -/
def telPhase (g : Nat) (f : BitVec 40) : Nat := 4 * g + (f.extractLsb' 0 2).toNat

/-- TEL_OK of a group as the times of its frames give it. -/
theorem Pwm.telView_telOk (p : Pwm) (now g : Nat) (hg : g < 6) :
    mbit (p.telView now).r.telStatus.telOk g = p.telGroupOk now g :=
  (mbit_setAll (p.telGroupOk now) 0 g hg 6).trans (if_pos hg)

/-- In READY and RUN a group that loses TEL_OK sets TEL_LOST. -/
theorem Pwm.telView_telLost (p : Pwm) (now g : Nat) (hg : g < 6) (h : p.r.status.state = .run ∨ p.r.status.state = .ready) :
    mbit (p.telView now).r.telStatus.telLost g =
      (mbit p.r.telStatus.telLost g || (mbit p.r.telStatus.telOk g && !p.telGroupOk now g)) := by
  have hlive : (decide (p.r.status.state = .ready) || decide (p.r.status.state = .run)) = true := by
    rcases h with h | h <;> simp [h]
  have hlost : (p.telView now).r.telStatus.telLost =
      p.r.telStatus.telLost ||| (p.r.telStatus.telOk &&& ~~~(p.telView now).r.telStatus.telOk) := by
    simp only [Pwm.telView, hlive, if_true]
  rw [← p.telView_telOk now g hg, hlost]
  simp [mbit, hg]

section Frame

variable (p : Pwm) (now g : Nat) (f : BitVec 40)

theorem Pwm.telFrame_badCrc (h : telCrc f ≠ f.extractLsb' 32 8) :
    p.telFrame now g f = { p with r.telStatus.crcErr := satInc p.r.telStatus.crcErr } := if_pos h

theorem Pwm.telFrame_repeated (hc : telCrc f = f.extractLsb' 32 8) (hq : vget p.gtSeq g none = some (f.extractLsb' 20 8)) :
    p.telFrame now g f = p := (if_neg (not_not_intro hc)).trans (if_pos hq)

/-- A current frame with a new SEQ. -/
theorem Pwm.telFrame_current (hg : g < 6) (hc : telCrc f = f.extractLsb' 32 8)
    (hq : vget p.gtSeq g none ≠ some (f.extractLsb' 20 8)) (hty : f.extractLsb' 2 2 = 0) :
    let q := p.telFrame now g f
    let j := telPhase g f
    (q.phase j).cur = (f.extractLsb' 4 16).toInt ∧ (q.phase j).tI = some now ∧ (q.phase j).cnt = (p.phase j).cnt + 1
      ∧ vget q.gtSeq g none = some (f.extractLsb' 20 8) ∧ ∀ i, i ≠ j → q.phase i = p.phase i := by
  intro q j
  have hj : j < 24 := by
    have := (f.extractLsb' 0 2).isLt
    simp only [j, telPhase]
    omega
  have hframe : ∃ upd : PhaseSt → PhaseSt, q.ph = vMod p.ph j upd ∧ q.gtSeq = vset p.gtSeq g (some (f.extractLsb' 20 8))
      ∧ ∀ x, (upd x).cur = (f.extractLsb' 4 16).toInt ∧ (upd x).tI = some now ∧ (upd x).cnt = x.cnt + 1 := by
    have hne : ¬ (f.extractLsb' 2 2 = 2 ∨ f.extractLsb' 2 2 = 3) := by simp [hty]
    have hq' : q = _ := (if_neg (not_not_intro hc)).trans ((if_neg hq).trans (if_neg hne))
    rw [hq']
    refine ⟨_, rfl, rfl, fun x => ?_⟩
    simp only [hty, if_true]
    exact ⟨trivial, trivial, trivial⟩
  obtain ⟨upd, hph, hseq, hupd⟩ := hframe
  have hphase (i : Nat) : q.phase i = if i = j then upd (p.phase j) else p.phase i := by
    rw [Pwm.phase, hph, vget_vMod]
    simp [hj, Pwm.phase]
  have hjj : q.phase j = upd (p.phase j) := (hphase j).trans (if_pos rfl)
  obtain ⟨hcur, htI, hcnt⟩ := hupd (p.phase j)
  refine ⟨hjj ▸ hcur, hjj ▸ htI, hjj ▸ hcnt, ?_, fun i hi => (hphase i).trans (if_neg hi)⟩
  rw [hseq]
  simp [vget, vset, hg]

end Frame

/-! ### Retirement (R103 to R105) -/

/-- What PWM_RETIRE asks of phase k in a write: its retirement, or its return to service. -/
def Pwm.retireBit (w : BitVec 24) (p : Pwm) (k : Nat) : Pwm := if mbit w k then p.retireReq k else p.retireClr k

/-- PWM_RETIRE of q is that of p at every phase but k. -/
def Pwm.RetireKept (k : Nat) (p q : Pwm) : Prop := ∀ i, i ≠ k → mbit q.r.retire i = mbit p.r.retire i

/-- The phases of q carry the measured currents of those of p (R88). -/
def Pwm.SameMeas (p q : Pwm) : Prop :=
  q.tImb = p.tImb ∧ ∀ i, (q.phase i).sum = (p.phase i).sum ∧ (q.phase i).cnt = (p.phase i).cnt
    ∧ (q.phase i).iAvg = (p.phase i).iAvg

/-- A phase changed and not its measured currents. -/
theorem Pwm.SameMeas.vMod (p : Pwm) (m : BitVec 24) (k : Nat) (f : PhaseSt → PhaseSt)
    (hf : ∀ x, (f x).sum = x.sum ∧ (f x).cnt = x.cnt ∧ (f x).iAvg = x.iAvg) :
    Pwm.SameMeas p { p with r.retire := m, ph := vMod p.ph k f } := by
  refine ⟨rfl, fun i => ?_⟩
  have hi : vget (Machine.vMod p.ph k f) i {} = if i = k ∧ k < 24 then f (p.phase k) else p.phase i := vget_vMod ..
  simp only [Pwm.phase, hi]
  by_cases hc : i = k ∧ k < 24
  · rw [if_pos hc, hc.1]
    exact hf _
  · rw [if_neg hc]
    exact ⟨rfl, rfl, rfl⟩

/-- A request for phase k changes PWM_RETIRE at k alone, and no measured current. -/
theorem Pwm.retireReq_frame (p : Pwm) (k : Nat) : Pwm.RetireKept k p (p.retireReq k) ∧ Pwm.SameMeas p (p.retireReq k) := by
  have hset (i : Nat) (hi : i ≠ k) : mbit (msetb p.r.retire k true) i = mbit p.r.retire i := mbit_msetb_other _ k i true hi
  have hsame : Pwm.SameMeas p p := ⟨rfl, fun _ => ⟨rfl, rfl, rfl⟩⟩
  unfold Pwm.retireReq
  split
  · exact ⟨fun _ _ => rfl, hsame⟩
  split
  · exact ⟨fun _ _ => rfl, hsame⟩
  dsimp only
  split
  · exact ⟨hset, Pwm.SameMeas.vMod p _ k _ fun _ => ⟨rfl, rfl, rfl⟩⟩
  split
  · exact ⟨hset, Pwm.SameMeas.vMod p _ k _ fun _ => ⟨rfl, rfl, rfl⟩⟩
  split
  · exact ⟨hset, Pwm.SameMeas.vMod p _ k _ fun _ => ⟨rfl, rfl, rfl⟩⟩
  · exact ⟨hset, hsame⟩

/-- A write of 0 for phase k changes PWM_RETIRE at k alone. -/
theorem Pwm.retireClr_frame (p : Pwm) (k : Nat) : Pwm.RetireKept k p (p.retireClr k) := by
  unfold Pwm.retireClr
  split
  · exact fun _ _ => rfl
  split
  · exact fun i hi => mbit_msetb_other _ k i false hi
  · exact fun _ _ => rfl

theorem Pwm.retireBit_frame (w : BitVec 24) (p : Pwm) (k : Nat) : Pwm.RetireKept k p (p.retireBit w k) := by
  unfold Pwm.retireBit
  split
  · exact (p.retireReq_frame k).1
  · exact p.retireClr_frame k

/-- A bit written as it stands asks nothing of its phase. -/
theorem Pwm.retireBit_same (w : BitVec 24) (p : Pwm) (k : Nat) (h : mbit w k = mbit p.r.retire k) : p.retireBit w k = p := by
  unfold Pwm.retireBit
  by_cases hk : mbit p.r.retire k = true
  · simp [h, hk, Pwm.retireReq]
  · simp [h, hk, Pwm.retireClr]

theorem Pwm.retireBits_same (w : BitVec 24) (p : Pwm) (l : List Nat) (h : ∀ k ∈ l, mbit w k = mbit p.r.retire k) :
    l.foldl (Pwm.retireBit w) p = p := by
  induction l with
  | nil => rfl
  | cons k l ih =>
    rw [List.foldl_cons, p.retireBit_same w k (h k List.mem_cons_self)]
    exact ih fun i hi => h i (List.mem_cons_of_mem k hi)

/-- A write of PWM_RETIRE that differs from what stands there at phase j alone is judged for that phase alone. -/
theorem Pwm.retireWrite_one (p : Pwm) (w : BitVec 24) (j : Nat) (hj : j < 24) (h : ∀ i, i ≠ j → mbit w i = mbit p.r.retire i) :
    p.retireWrite w = (p.retireBit w j).view := by
  obtain ⟨a, b, hab⟩ := List.append_of_mem (List.mem_range.mpr hj)
  have hnd : (a ++ j :: b).Nodup := hab ▸ List.nodup_range
  obtain ⟨-, hjb, hdis⟩ := List.nodup_append.1 hnd
  have ha : ∀ k ∈ a, k ≠ j := fun k hk => hdis k hk j List.mem_cons_self
  have hb : ∀ k ∈ b, k ≠ j := fun k hk hkj => (List.nodup_cons.1 hjb).1 (hkj ▸ hk)
  have hfold : (List.range 24).foldl (Pwm.retireBit w) p = p.retireBit w j := by
    rw [hab, List.foldl_append, p.retireBits_same w a fun k hk => h k (ha k hk), List.foldl_cons]
    exact (p.retireBit w j).retireBits_same w b fun k hk => (h k (hb k hk)).trans (p.retireBit_frame w j k (hb k hk)).symm
  exact congrArg Pwm.view hfold

/-- A host write of PWM_RETIRE reaches the modulator. -/
theorem Chan.pwmWrite_retire (k : Chan) (e : Env) (w : Word) :
    k.pwmWrite e 0x120 w = { k with pwm := (k.pwm.retireWrite (w.extractLsb' 0 24)).view } := rfl

/-- PWM_RETIRE written with the bit of phase j changed alone, as RETIRE_REQUEST and RETIRE_CLEAR write it. -/
theorem State.becomes_retireWrite (s : State) (n j : Nat) (b : Bool) (P : Chan → Prop) (hn : n < 4) (h : s.hostOpen n = true)
    (hj : j < 24)
    (hP : P { s.ch n with pwm := (if b then (s.ch n).pwm.retireReq j else (s.ch n).pwm.retireClr j).view.view }) :
    Becomes (if j < 24 then s.chWrite n 0x120 ((msetb (s.ch n).pwm.r.retire j b).setWidth 32) else s).done s n P := by
  have hw (m : BitVec 24) : (m.setWidth 32).extractLsb' 0 24 = m := by
    refine BitVec.eq_of_getLsbD_eq fun i hi => ?_
    have hi' : i < 32 := by omega
    simp [hi, hi']
  have hbit : mbit (msetb (s.ch n).pwm.r.retire j b) j = b := (mbit_msetb _ j j b).trans (if_pos ⟨rfl, hj⟩)
  rw [if_pos hj]
  refine s.becomes_pwmWrite n 0x120 _ _ hn h (by decide) rfl ?_
  rw [Chan.pwmWrite_retire, hw, Pwm.retireWrite_one _ _ j hj fun i hi => mbit_msetb_other _ j i b hi, Pwm.retireBit, hbit]
  exact hP

section Retire

variable (p : Pwm) (j : Nat)

/-- A configured phase that is not retired is enabled (R63). -/
theorem Pwm.enabled_of (hj : j < 24) (hr : mbit p.r.retire j = false) (hc : mbit p.cfg j = true) : mbit p.enabled j = true := by
  have he : mbit p.enabled j = (mbit p.cfg j && (decide (j < 24) && !mbit p.r.retire j)) :=
    (BitVec.getLsbD_and ..).trans (congrArg _ (BitVec.getLsbD_not ..))
  simp [he, hc, hr, hj]

/-- R103: an active phase that is not the last enabled one fades out to be retired. -/
theorem Pwm.retireReq_active (hr : mbit p.r.retire j = false) (hc : mbit p.cfg j = true) (hn : 1 < p.nEn)
    (ha : (p.phase j).act = .on) :
    p.retireReq j = { p with
      r.retire := msetb p.r.retire j true
      ph := vMod p.ph j fun (x : PhaseSt) => { x with act := .fade1, ret := true, base := none } } := by
  have hx : ({ p with r.retire := msetb p.r.retire j true } : Pwm).phase j = p.phase j := rfl
  simp [Pwm.retireReq, hr, hc, hx, ha, Nat.not_le.mpr hn]

/-- R104: the last enabled phase stays in service. -/
theorem Pwm.retireReq_last (hj : j < 24) (hr : mbit p.r.retire j = false) (hc : mbit p.cfg j = true) (hn : p.nEn = 1) :
    p.retireReq j = { p with r.status.retRef := true } := by
  simp [Pwm.retireReq, hr, p.enabled_of j hj hr hc, hn]

/-- R105: a phase returns to service in DISABLED and READY. -/
theorem Pwm.retireClr_atRest (hr : mbit p.r.retire j = true) (h : p.r.status.state = .disabled ∨ p.r.status.state = .ready) :
    p.retireClr j = { p with r.retire := msetb p.r.retire j false } := by
  simp [Pwm.retireClr, hr, h]

theorem Pwm.retireClr_elsewhere (hr : mbit p.r.retire j = true) (hd : p.r.status.state ≠ .disabled)
    (hn : p.r.status.state ≠ .ready) : p.retireClr j = { p with r.status.wrIgn := true } := by
  simp [Pwm.retireClr, hr, hd, hn]

end Retire

/-! ### The imbalance window (R88) -/

theorem Pwm.SameMeas.requests (l : List Nat) (p : Pwm) : Pwm.SameMeas p (l.foldl (fun (p : Pwm) k => p.retireReq k) p) := by
  induction l generalizing p with
  | nil => exact ⟨rfl, fun _ => ⟨rfl, rfl, rfl⟩⟩
  | cons k l ih =>
    obtain ⟨ht, hm⟩ := (p.retireReq_frame k).2
    obtain ⟨ht', hm'⟩ := ih (p.retireReq k)
    refine ⟨ht'.trans ht, fun i => ?_⟩
    obtain ⟨hsum, hcnt, havg⟩ := hm i
    obtain ⟨hsum', hcnt', havg'⟩ := hm' i
    exact ⟨hsum'.trans hsum, hcnt'.trans hcnt, havg'.trans havg⟩

/-- The average of a phase's currents over a window that ends, the last one where none was measured. -/
def PhaseSt.windowAvg (x : PhaseSt) : Int := if x.cnt = 0 then x.iAvg else divHE x.sum x.cnt

/-- An imbalance window ends with its sums zeroed and its averages taken, and then the requests for retirement follow. -/
theorem Pwm.imbWindow_eq (p : Pwm) (now : Nat) : ∃ (q : Pwm) (l : List Nat),
    p.imbWindow now = (l.foldl (fun (p : Pwm) k => p.retireReq k) q).view ∧ q.tImb = now
    ∧ ∀ j, j < 24 → (q.phase j).sum = 0 ∧ (q.phase j).cnt = 0 ∧ (q.phase j).iAvg = (p.phase j).windowAvg := by
  refine ⟨_, _, rfl, rfl, fun j hj => ?_⟩
  have havg : (vget (p.ph.map fun (x : PhaseSt) => { x with iAvg := x.windowAvg }) j {}).iAvg = (p.phase j).windowAvg := by
    simp [vget, hj, Pwm.phase]
  dsimp only [Pwm.phase]
  rw [vget_vMapI _ _ j hj ({} : PhaseSt) ({} : PhaseSt)]
  refine ⟨rfl, rfl, Eq.trans ?_ havg⟩
  dsimp only
  split <;> rfl

/-- The end of an imbalance window: the sums start again, and where a phase was measured its average is the one of the window. -/
theorem Pwm.imbWindow_at (p : Pwm) (now : Nat) :
    (p.imbWindow now).tImb = now ∧ ∀ j, j < 24 →
      ((p.imbWindow now).phase j).sum = 0 ∧ ((p.imbWindow now).phase j).cnt = 0
        ∧ ((p.phase j).cnt ≠ 0 → ((p.imbWindow now).phase j).iAvg = divHE (p.phase j).sum (p.phase j).cnt) := by
  obtain ⟨q, l, hq, ht, hz⟩ := p.imbWindow_eq now
  rw [hq]
  obtain ⟨ht', hm⟩ := Pwm.SameMeas.requests l q
  refine ⟨ht'.trans ht, fun j hj => ?_⟩
  obtain ⟨hsum, hcnt, havg⟩ := hz j hj
  obtain ⟨hsum', hcnt', havg'⟩ := hm j
  exact ⟨hsum'.trans hsum, hcnt'.trans hcnt, fun hc => (havg'.trans havg).trans (if_neg hc)⟩

/-! ### PWM synchronisation (R81) -/

/-- q follows the same CHn_PSYNC edges as p. -/
def Pwm.SameEdges (p q : Pwm) : Prop :=
  q.r.ctrl.syncSrc = p.r.ctrl.syncSrc ∧ q.psLast = p.psLast ∧ q.psRun = p.psRun ∧ q.extPer = p.extPer

/-- SYNC_STATE judged leaves the edges as they are. -/
theorem Pwm.syncBase_sameEdges (p : Pwm) (valid : Bool) : p.SameEdges (p.syncBase valid) := by
  unfold Pwm.syncBase
  dsimp only
  split_ifs <;> exact ⟨rfl, rfl, rfl, rfl⟩

/-- An edge within 2 % of PERIOD of the last one is accepted. -/
theorem Pwm.psyncEdge_accepted (p : Pwm) (e : Env) (rising : Bool) (a : Int) (hs : p.r.ctrl.syncSrc = true)
    (hr : rising ≠ p.r.sync.extPol) (ha : p.psLast = some a)
    (hd : (e.taps - a - p.r.period.toNat).natAbs * 100 ≤ 2 * p.r.period.toNat) :
    p.psyncEdge e rising =
      ({ p with psLast := some e.taps, psRun := p.psRun + 1, extPer := (e.taps - a).toNat } : Pwm).syncBase e.siteValid := by
  simp [Pwm.psyncEdge, hs, hr, ha, hd]

/-- 1.5 periods without an edge lose the anchor, and LOCKED becomes HOLDOVER. -/
theorem Pwm.psyncTimeout_lost (p : Pwm) (e : Env) (a : Int) (ha : p.psLast = some a)
    (hd : 3 * (p.r.period.toNat : Int) ≤ 2 * (e.taps - a)) :
    let q := p.psyncTimeout e
    q.psLast = none ∧ q.psRun = 0
      ∧ (p.r.ctrl.syncSrc = true → p.r.status.syncState = .locked → q.r.status.syncState = .holdover) := by
  simp only [Pwm.psyncTimeout, ha, if_pos hd]
  split
  next => exact ⟨rfl, rfl, fun _ _ => rfl⟩
  next hc => exact ⟨rfl, rfl, fun hs hl => absurd ⟨hs, .inl hl⟩ hc⟩

/-- A telemetry frame of one of the groups reaches the modulator. -/
theorem State.becomes_telFrame (s : State) (n g : Nat) (f : BitVec 40) (P : Chan → Prop) (h : s.soleUp n 1 = true) (hg : g < 6)
    (hP : P { s.ch n with pwm := (s.ch n).pwm.telFrame s.now g f }) : Becomes (exec (.gateTelemetryFrame n g f) s) s n P := by
  have he : exec (.gateTelemetryFrame n g f) s = (s.onPwm n fun e _ p => p.telFrame e.now g f).done :=
    congrArg State.done (if_pos hg)
  exact he ▸ s.becomes_onPwm n _ P h hP

/-- Settles O4: each clause by the lemma on its command of the modulator, the writes of PWM_RETIRE by `becomes_retireWrite`. -/
theorem pwmTelemetryRetirementSync : Obligations.PwmTelemetryRetirementSync := by
  unfold Obligations.PwmTelemetryRetirementSync
  intro s n h p only crc
  have hn : n < 4 := ((s.soleUp_iff n 1).1 h).1
  refine ⟨fun g f hg hc => ?_, fun g f hg hc hq => ?_, fun g f hg hc hq hty => ?_, ?_, ?_, fun j hj ho hr hc hen ha => ?_,
    fun j hj ho hr hc hen => ?_, fun j hj ho hr => ⟨fun hst => ?_, fun hd hrd => ?_⟩, fun rising a hs hr ha hd => ?_,
    fun a ha hd => ?_⟩
  · exact s.becomes_telFrame n g f _ h hg (congrArg (fun q => { s.ch n with pwm := q }) (p.telFrame_badCrc s.now g f hc))
  · exact s.becomes_telFrame n g f _ h hg (congrArg (fun q => { s.ch n with pwm := q }) (p.telFrame_repeated s.now g f hc hq))
  · refine s.becomes_telFrame n g f _ h hg ?_
    obtain ⟨hcur, htI, hcnt, hseq, hother⟩ := p.telFrame_current s.now g f hg hc hq hty
    exact ⟨hcur, htI, hcnt, hseq, hother, rfl⟩
  · exact s.becomes_onPwm n _ _ h
      ⟨p.telView_telOk s.now, fun hst g hg => p.telView_telLost s.now g hg hst, rfl⟩
  · obtain ⟨ht, hz⟩ := p.imbWindow_at s.now
    exact s.becomes_onPwm n _ _ h ⟨hz, ht, rfl⟩
  · refine s.becomes_retireWrite n j true _ hn ho hj ?_
    rw [if_pos rfl, p.retireReq_active j hr hc hen ha]
    have hph : vget (vMod p.ph j fun (x : PhaseSt) => { x with act := .fade1, ret := true, base := none }) j {}
        = { p.phase j with act := .fade1, ret := true, base := none } := (vget_vMod ..).trans (if_pos ⟨rfl, hj⟩)
    exact ⟨(mbit_msetb ..).trans (if_pos ⟨rfl, hj⟩), congrArg PhaseSt.act hph, congrArg PhaseSt.ret hph,
      fun i hi => mbit_msetb_other _ j i true hi, rfl⟩
  · refine s.becomes_retireWrite n j true _ hn ho hj ?_
    rw [if_pos rfl, p.retireReq_last j hj hr hc hen]
    exact ⟨rfl, rfl, rfl⟩
  · refine s.becomes_retireWrite n j false _ hn ho hj ?_
    rw [if_neg Bool.false_ne_true, p.retireClr_atRest j hr hst]
    exact ⟨(mbit_msetb ..).trans (if_pos ⟨rfl, hj⟩), fun i hi => mbit_msetb_other _ j i false hi, rfl⟩
  · refine s.becomes_retireWrite n j false _ hn ho hj ?_
    rw [if_neg Bool.false_ne_true, p.retireClr_elsewhere j hr hd hrd]
    exact ⟨rfl, rfl, rfl⟩
  · refine s.becomes_onPwm n _ _ h ?_
    rw [Pwm.psyncEdge_accepted _ s.env rising a hs hr ha hd]
    obtain ⟨-, hlast, hrun, hper⟩ := Pwm.syncBase_sameEdges
      { p with psLast := some s.env.taps, psRun := p.psRun + 1, extPer := (s.env.taps - a).toNat } s.env.siteValid
    exact ⟨hlast, hrun, hper, rfl⟩
  · obtain ⟨hlast, hrun, hhold⟩ := p.psyncTimeout_lost s.env a ha hd
    exact s.becomes_onPwm n _ _ h ⟨hlast, hrun, hhold, rfl⟩

/-! ### Register writes of the modulator (R69 to R72, R81, R97, R130, R131) -/

/-- PWM_CTRL reads back as it was written. -/
theorem PwmCtrl.write_read (r c : PwmCtrl) : r.write c.read = c := by
  obtain ⟨ofs, sync, arm⟩ := c
  cases ofs <;> cases sync <;> cases arm <;> rfl

section Ctrl

variable (p : Pwm) (valid : Bool)

theorem Pwm.ctrlWrite_arm : p.ctrlWrite valid ({ p.r.ctrl with arm := true } : PwmCtrl).read = p.arm := by
  simp only [Pwm.ctrlWrite, PwmCtrl.write_read, if_true]

theorem Pwm.ctrlWrite_disarm : p.ctrlWrite valid ({ p.r.ctrl with arm := false } : PwmCtrl).read = p.disarm := by
  simp only [Pwm.ctrlWrite, PwmCtrl.write_read, if_true, Bool.false_eq_true, if_false]

theorem Pwm.ctrlWrite_syncSrc (b : Bool) (h : b ≠ p.r.ctrl.syncSrc) :
    p.ctrlWrite valid ({ p.r.ctrl with syncSrc := b } : PwmCtrl).read =
      if p.r.ctrl.arm then (p.setSyncSrc b valid).arm else (p.setSyncSrc b valid).disarm := by
  simp only [Pwm.ctrlWrite, PwmCtrl.write_read, if_neg h]

/-- R69: the check passes. -/
theorem Pwm.arm_passes (hs : p.r.status.state = .disabled) (hc : p.check = true) :
    p.arm.r.status.state = .ready ∧ p.arm.r.status.cfgErr = false ∧ p.arm.r.ctrl.arm = true := by
  have hc' : ({ p with r.ctrl.arm := true } : Pwm).check = true := hc
  simp [Pwm.arm, hs, hc']

/-- R69: the check fails. -/
theorem Pwm.arm_fails (hs : p.r.status.state = .disabled) (hc : p.check = false) :
    p.arm.r.status.state = .disabled ∧ p.arm.r.status.cfgErr = true ∧ p.arm.r.ctrl.arm = true := by
  have hc' : ({ p with r.ctrl.arm := true } : Pwm).check = false := hc
  simp [Pwm.arm, hs, hc']

/-- R72: TRIPPED, and READY with every phase low, end in DISABLED. -/
theorem Pwm.disarm_atRest (h : p.r.status.state = .tripped
      ∨ (p.r.status.state = .ready ∧ (p.ph.toList.all fun x => decide (x.act = .off)) = true)) :
    p.disarm.r.status.state = .disabled ∧ p.disarm.r.ctrl.arm = false := by
  rcases h with h | ⟨h, hoff⟩
  · simp [Pwm.disarm, h]
  · simp only [Pwm.disarm, h, Pwm.readyEnd]
    rw [if_pos ⟨trivial, trivial, hoff⟩]
    exact ⟨rfl, rfl⟩

/-- q is synchronised as p is: the same source, the same edges, the same SYNC_STATE. -/
def Pwm.SameSync (p q : Pwm) : Prop := p.SameEdges q ∧ q.r.status.syncState = p.r.status.syncState

/-- ARM set changes nothing of the synchronisation. -/
theorem Pwm.arm_sameSync : p.SameSync p.arm := by
  unfold Pwm.arm
  dsimp only
  split_ifs <;> exact ⟨⟨rfl, rfl, rfl, rfl⟩, rfl⟩

theorem Pwm.readyEnd_sameSync : p.SameSync p.readyEnd := by
  unfold Pwm.readyEnd
  split <;> exact ⟨⟨rfl, rfl, rfl, rfl⟩, rfl⟩

theorem Pwm.stop_sameSync : p.SameSync p.stop := by
  have hview (q : Pwm) (h : p.SameSync q) : p.SameSync q.readyEnd.view := by
    obtain ⟨⟨hsrc, hlast, hrun, hper⟩, hst⟩ := q.readyEnd_sameSync
    obtain ⟨⟨hsrc', hlast', hrun', hper'⟩, hst'⟩ := h
    exact ⟨⟨hsrc.trans hsrc', hlast.trans hlast', hrun.trans hrun', hper.trans hper'⟩, hst.trans hst'⟩
  unfold Pwm.stop
  split
  · exact hview _ ⟨⟨rfl, rfl, rfl, rfl⟩, rfl⟩
  · exact ⟨⟨rfl, rfl, rfl, rfl⟩, rfl⟩

/-- ARM cleared changes nothing of the synchronisation. -/
theorem Pwm.disarm_sameSync : p.SameSync p.disarm := by
  unfold Pwm.disarm
  dsimp only
  split
  · exact Pwm.stop_sameSync { p with r.ctrl.arm := false }
  · exact Pwm.readyEnd_sameSync { p with r.ctrl.arm := false }
  · exact ⟨⟨rfl, rfl, rfl, rfl⟩, rfl⟩
  · exact ⟨⟨rfl, rfl, rfl, rfl⟩, rfl⟩

/-- R81: a source of synchronisation just chosen has no edge yet, and the modulator runs on its own or begins to pull. -/
def Pwm.SyncBegun (b : Bool) (q : Pwm) : Prop :=
  q.r.ctrl.syncSrc = b ∧ q.psLast = none ∧ q.psRun = 0 ∧ (q.r.status.syncState = .own ∨ q.r.status.syncState = .pulling)

theorem Pwm.setSyncSrc_begun (b : Bool) : Pwm.SyncBegun b (p.setSyncSrc b valid) := by
  obtain ⟨hsrc, hlast, hrun, -⟩ := Pwm.syncBase_sameEdges
    { p with r.ctrl.syncSrc := b, r.status.syncState := .own, psLast := none, psRun := 0 } valid
  refine ⟨hsrc, hlast, hrun, ?_⟩
  cases b <;> cases valid <;> simp [Pwm.setSyncSrc, Pwm.syncBase]

theorem Pwm.SyncBegun.sameSync {b : Bool} {p q : Pwm} (h : p.SyncBegun b) (hq : p.SameSync q) : q.SyncBegun b := by
  obtain ⟨⟨hsrc, hlast, hrun, -⟩, hst⟩ := hq
  unfold Pwm.SyncBegun
  rwa [hsrc, hlast, hrun, hst]

end Ctrl

/-- A value held between two bounds that the field can show. -/
theorem toNat_clampBv {N : Nat} (v : BitVec N) (lo hi : Nat) (hlo : lo ≤ hi) (hhi : hi < 2 ^ N) :
    (clampBv v lo hi).toNat = max lo (min v.toNat hi) := by
  unfold clampBv
  split
  · rw [BitVec.toNat_ofNat, Nat.mod_eq_of_lt (by omega)]
    omega
  split
  · rw [BitVec.toNat_ofNat, Nat.mod_eq_of_lt hhi]
    omega
  · omega

section Write

variable (k : Chan) (e : Env) (w : Word)

/-- A host write of PWM_CTRL reaches the modulator. -/
theorem Chan.pwmWrite_ctrl : k.pwmWrite e 0x100 w = { k with pwm := (k.pwm.ctrlWrite e.siteValid w).view } := rfl

/-- A host write of PWM_PERIOD, taken within its range and else ignored (R71). -/
theorem Chan.pwmWrite_period : k.pwmWrite e 0x108 w =
    { k with
      pwm := (if 32000 ≤ (w.extractLsb' 0 19).toNat ∧ (w.extractLsb' 0 19).toNat ≤ 320000
        then ({ k.pwm with r.period := w.extractLsb' 0 19 } : Pwm) else { k.pwm with r.status.wrIgn := true }).view } := rfl

/-- A host write of PWM_SHED_CFG resets the dwell timers (R97). -/
theorem Chan.pwmWrite_shedCfg : k.pwmWrite e 0x140 w =
    { k with pwm := ({ k.pwm with r.shedCfg := k.pwm.r.shedCfg.write w } : Pwm).dwellReset.view } := rfl

/-- A host write of PWM_PH_SEL reaches the modulator. -/
theorem Chan.pwmWrite_phSel : k.pwmWrite e 0x18C w = { k with pwm := (k.pwm.capture e.now w).view } := rfl

/-- A host write of PWM_SHED_VIEW reaches the modulator. -/
theorem Chan.pwmWrite_shedView : k.pwmWrite e 0x198 w = { k with pwm := (k.pwm.shedView w k.auto).view } := rfl

end Write

/-- Settles O1: each register by what its write does to the modulator. -/
theorem pwmRegisterCommands : Obligations.PwmRegisterCommands := by
  unfold Obligations.PwmRegisterCommands
  intro s n hn h p
  have hctrl (w : Word) (q : Pwm) (hq : p.ctrlWrite s.env.siteValid w = q) (P : Chan → Prop)
      (hP : P { s.ch n with pwm := q.view }) : Becomes (s.chWrite n 0x100 w).done s n P := by
    refine s.becomes_pwmWrite n 0x100 w P hn h (by decide) rfl ?_
    rw [Chan.pwmWrite_ctrl]
    exact hq ▸ hP
  refine ⟨fun hs hc => ?_, fun hs hc => ?_, fun hs => ?_, fun hs hoff => ?_, fun w => ⟨fun hv => ?_, fun hv => ?_, ?_, ?_, ?_⟩,
    fun ext hext => ?_⟩
  · obtain ⟨hst, herr, harm⟩ := p.arm_passes hs hc
    exact hctrl _ _ (p.ctrlWrite_arm _) _ ⟨hst, herr, harm, rfl⟩
  · obtain ⟨hst, herr, harm⟩ := p.arm_fails hs hc
    exact hctrl _ _ (p.ctrlWrite_arm _) _ ⟨hst, herr, harm, rfl⟩
  · obtain ⟨hst, harm⟩ := p.disarm_atRest (.inl hs)
    exact hctrl _ _ (p.ctrlWrite_disarm _) _ ⟨hst, harm, rfl⟩
  · obtain ⟨hst, harm⟩ := p.disarm_atRest (.inr ⟨hs, hoff⟩)
    exact hctrl _ _ (p.ctrlWrite_disarm _) _ ⟨hst, harm, rfl⟩
  · refine s.becomes_pwmWrite n 0x108 w _ hn h (by decide) rfl ?_
    rw [Chan.pwmWrite_period, if_pos hv]
    exact ⟨rfl, rfl, rfl⟩
  · refine s.becomes_pwmWrite n 0x108 w _ hn h (by decide) rfl ?_
    rw [Chan.pwmWrite_period, if_neg hv]
    exact ⟨rfl, rfl, rfl⟩
  · refine s.becomes_pwmWrite n 0x140 w _ hn h (by decide) rfl ?_
    rw [Chan.pwmWrite_shedCfg]
    exact ⟨rfl, rfl, rfl, rfl⟩
  · refine s.becomes_pwmWrite n 0x18C w _ hn h (by decide) rfl ?_
    have hj : (clampBv (w.extractLsb' 0 5) 0 23).toNat = min (w.extractLsb' 0 5).toNat 23 :=
      (toNat_clampBv _ 0 23 (by decide) (by decide)).trans (Nat.zero_max _)
    rw [Chan.pwmWrite_phSel]
    dsimp only
    rw [← hj]
    exact ⟨rfl, rfl, rfl, rfl, rfl, rfl⟩
  · refine s.becomes_pwmWrite n 0x198 w _ hn h (by decide) rfl ?_
    have hm : (clampBv (w.extractLsb' 24 5) 1 24).toNat = max 1 (min (w.extractLsb' 24 5).toNat 24) :=
      toNat_clampBv _ 1 24 (by decide) (by decide)
    rw [Chan.pwmWrite_shedView]
    dsimp only
    rw [← hm]
    exact ⟨rfl, rfl, rfl⟩
  · have hq : Pwm.SyncBegun ext (if p.r.ctrl.arm then (p.setSyncSrc ext s.env.siteValid).arm
        else (p.setSyncSrc ext s.env.siteValid).disarm) := by
      split
      · exact (p.setSyncSrc_begun _ ext).sameSync (Pwm.arm_sameSync _)
      · exact (p.setSyncSrc_begun _ ext).sameSync (Pwm.disarm_sameSync _)
    obtain ⟨hsrc, hlast, hrun, hst⟩ := hq
    exact hctrl _ _ (p.ctrlWrite_syncSrc _ ext hext) _ ⟨hsrc, hlast, hrun, hst, rfl⟩

end Sys2Proof.Machine

namespace Sys2Proof.Machine

/-- A Sole that runs in a power state no deeper than a runs in one no deeper than b. -/
theorem State.soleUp_mono {s : State} {n a : Nat} (h : s.soleUp n a = true) (b : Nat) (hab : a ≤ b) : s.soleUp n b = true := by
  obtain ⟨hn, hrun, hpm⟩ := (s.soleUp_iff n a).1 h
  exact (s.soleUp_iff n b).2 ⟨hn, hrun, hpm.trans hab⟩

/-! ### What the moves of a running loop keep (R155, R164 to R168) -/

/-- The coefficient banks of a loop, with what says which are OK, which are in use and that one failed its check. -/
structure BankView where
  inner : Vector Bank 3
  outer : Vector Bank 3
  status : LoopBankStatus
  actIn : Bool
  actOut : Bool
  err : Bool

def Loop.banks (l : Loop) : BankView :=
  ⟨l.bankIn, l.bankOut, l.r.bankStatus, l.r.status.actIn, l.r.status.actOut, l.r.status.bankErr⟩

/-- Loop m runs on where l ran: its counts of ticks and samples, its pending swap and its banks are those of l, and fallback is
entered only where FB_EN allows it. -/
structure Loop.Moved (l m : Loop) : Prop where
  tick : m.tick = l.tick
  outDone : m.outDone = l.outDone
  swap : m.swap = l.swap
  banks : m.banks = l.banks
  fbEn : m.r.ctrl.fbEn = l.r.ctrl.fbEn
  fb : l.r.status.fb = false → l.r.ctrl.fbEn = false → m.r.status.fb = false
  running : l.r.status.state.running = true → m.r.status.state.running = true

/-- A move that leaves a loop which regulates current doing so. -/
structure Loop.Kept (l m : Loop) : Prop extends Loop.Moved l m where
  ccMode : l.ccMode = true → m.ccMode = true

theorem Loop.Moved.trans {l m n : Loop} (h : l.Moved m) (g : m.Moved n) : l.Moved n where
  tick := g.tick.trans h.tick
  outDone := g.outDone.trans h.outDone
  swap := g.swap.trans h.swap
  banks := g.banks.trans h.banks
  fbEn := g.fbEn.trans h.fbEn
  fb hfb hen := g.fb (h.fb hfb hen) (h.fbEn.trans hen)
  running hr := g.running (h.running hr)

theorem Loop.Moved.actIn {l m : Loop} (h : l.Moved m) : m.r.status.actIn = l.r.status.actIn := congrArg BankView.actIn h.banks

theorem Loop.Moved.actOut {l m : Loop} (h : l.Moved m) : m.r.status.actOut = l.r.status.actOut := congrArg BankView.actOut h.banks

/-- Channel k is c with its loop moved and its streams marked as read (R165). -/
def Chan.Ticks (c k : Chan) : Prop := ∃ l st, k = { c with loop := l, met.st := st } ∧ c.loop.Moved l

/-- Channel k is c with its loop moved, and the loop regulates current where it did. -/
def Chan.Keeps (c k : Chan) : Prop := ∃ l, k = { c with loop := l } ∧ c.loop.Kept l

namespace Chan

variable {c k m : Chan} (e : Env)

theorem Ticks.trans (h : c.Ticks k) (g : k.Ticks m) : c.Ticks m := by
  obtain ⟨l, st, rfl, hl⟩ := h
  obtain ⟨l', st', rfl, hl'⟩ := g
  exact ⟨l', st', rfl, hl.trans hl'⟩

theorem Keeps.trans (h : c.Keeps k) (g : k.Keeps m) : c.Keeps m := by
  obtain ⟨l, rfl, hl⟩ := h
  obtain ⟨l', rfl, hl'⟩ := g
  exact ⟨l', rfl, hl.toMoved.trans hl'.toMoved, fun hc => hl'.ccMode (hl.ccMode hc)⟩

theorem Keeps.ticks (h : c.Keeps k) : c.Ticks k := by
  obtain ⟨l, rfl, hl⟩ := h
  exact ⟨l, _, rfl, hl.toMoved⟩

theorem Keeps.refl (c : Chan) : c.Keeps c := ⟨c.loop, rfl, ⟨rfl, rfl, rfl, rfl, rfl, fun h _ => h, id⟩, id⟩

theorem toStopr_keeps (k : Chan) : k.Keeps (k.toStopr e) :=
  ⟨_, rfl, ⟨rfl, rfl, rfl, rfl, rfl, fun h _ => h, fun _ => rfl⟩, id⟩

theorem toOffdly_keeps (k : Chan) : k.Keeps (k.toOffdly e) := by
  unfold toOffdly
  dsimp only
  split
  · exact ⟨_, rfl, ⟨rfl, rfl, rfl, rfl, rfl, fun _ _ => rfl, fun _ => rfl⟩, id⟩
  · exact ⟨_, rfl, ⟨rfl, rfl, rfl, rfl, rfl, fun h _ => h, fun _ => rfl⟩, id⟩

theorem fbStop_keeps (k : Chan) : k.Keeps (k.fbStop e) := by
  have hlatch : k.Keeps { k with loop.r.status.fbLatch := true } :=
    ⟨_, rfl, ⟨rfl, rfl, rfl, rfl, rfl, fun h _ => h, id⟩, id⟩
  unfold fbStop
  dsimp only
  split
  · exact hlatch.trans (toStopr_keeps e _)
  · exact hlatch

theorem enterFb_keeps (k : Chan) (code : Nat) (h : k.loop.r.ctrl.fbEn ≠ false) : k.Keeps (k.enterFb e code) :=
  ⟨_, rfl, ⟨rfl, rfl, rfl, rfl, rfl, fun _ hn => absurd hn h, id⟩, id⟩

theorem suspectAct_keeps (k : Chan) (code : Nat) : k.Keeps (k.suspectAct e code) := by
  have hnamed : k.Keeps { k with loop.r.pmStatus.suspect := BitVec.ofNat 3 code, loop.sensFault := true } :=
    ⟨_, rfl, ⟨rfl, rfl, rfl, rfl, rfl, fun h _ => h, id⟩, id⟩
  unfold suspectAct
  split
  · exact .refl k
  dsimp only
  split
  · split
    · exact hnamed
    · exact hnamed.trans (fbStop_keeps e _)
  split
  · exact hnamed
  split
  · split
    · exact ⟨_, rfl, ⟨rfl, rfl, rfl, rfl, rfl, fun h _ => h, id⟩, id⟩
    · exact hnamed
  next hen =>
    have hfb := hnamed.trans (enterFb_keeps e _ code hen)
    split
    · exact hfb.trans (toStopr_keeps e _)
    · exact hfb

theorem judge_keeps (k : Chan) : k.Keeps (k.judge e) := by
  have hjudged : k.Keeps { k with
      loop.r.pmStatus.tripped := k.loop.trippedMask, loop.r.pmStatus.seen := k.loop.r.pmStatus.seen ||| k.loop.trippedMask
      loop.passSince := if k.loop.trippedMask ≠ 0 ∨ !k.loop.r.status.fb then none else some (k.loop.passSince.getD e.now) } :=
    ⟨_, rfl, ⟨rfl, rfl, rfl, rfl, rfl, fun h _ => h, id⟩, id⟩
  unfold judge
  dsimp only
  split
  · split
    · exact hjudged.trans (toOffdly_keeps e _)
    · exact hjudged
  · exact hjudged.trans (suspectAct_keeps e _ _)
  · exact hjudged.trans (suspectAct_keeps e _ _)
  · exact hjudged

theorem tickMoves_ticks (k : Chan) : k.Ticks (k.tickMoves e) := by
  unfold tickMoves
  split
  · split
    · exact (toOffdly_keeps e k).ticks
    · exact (Keeps.refl k).ticks
  · split
    · exact ⟨_, _, rfl, ⟨rfl, rfl, rfl, rfl, rfl, fun h _ => h, fun _ => rfl⟩⟩
    · exact (Keeps.refl k).ticks
  · exact (Keeps.refl k).ticks

theorem sampleMoves_keeps (k : Chan) : k.Keeps (k.sampleMoves e) := by
  unfold sampleMoves
  split
  · split
    · exact ⟨_, rfl, ⟨rfl, rfl, rfl, rfl, rfl, fun h _ => h, fun _ => rfl⟩, fun _ => rfl⟩
    · exact .refl k
  · split
    · exact toStopr_keeps e k
    · exact .refl k
  · exact .refl k

theorem fbReturn_keeps (k : Chan) : k.Keeps (k.fbReturn e) := by
  unfold fbReturn
  split
  · exact ⟨_, rfl, ⟨rfl, rfl, rfl, rfl, rfl, fun _ _ => rfl, id⟩, id⟩
  · exact .refl k

theorem sampleTests_keeps (k : Chan) : k.Keeps k.sampleTests :=
  ⟨_, rfl, ⟨rfl, rfl, rfl, rfl, rfl, fun h _ => h, id⟩, id⟩

/-! ### The inner tick (R141, R161) -/

theorem plant_keeps (k : Chan) : k.Keeps k.plant.1 := ⟨_, rfl, ⟨rfl, rfl, rfl, rfl, rfl, fun h _ => h, id⟩, id⟩

theorem cvRamp_keeps (k : Chan) : k.Keeps k.cvRamp := ⟨_, rfl, ⟨rfl, rfl, rfl, rfl, rfl, fun h _ => h, id⟩, id⟩

theorem tickTests_ticks (k : Chan) (rv : Rat) : k.Ticks (k.tickTests rv) :=
  ⟨_, _, rfl, ⟨rfl, rfl, rfl, rfl, rfl, fun h _ => h, id⟩⟩

/-- The moves of a tick between the swaps of its boundary and its sections: states, plant model, tests and the ramp of CV. -/
def tickPrepared (k : Chan) : Chan :=
  let k := k.tickMoves e
  let k := (k.plant.1.tickTests k.plant.2).judge e
  if k.loop.r.status.state = .cv then k.cvRamp else k

theorem tickPrepared_ticks (k : Chan) : k.Ticks (k.tickPrepared e) := by
  have hramp (m : Chan) : m.Keeps (if m.loop.r.status.state = .cv then m.cvRamp else m) := by
    split
    · exact cvRamp_keeps m
    · exact .refl m
  have hplant := (tickMoves_ticks e k).trans (plant_keeps _).ticks
  exact (hplant.trans (tickTests_ticks _ _)).trans ((judge_keeps e _).trans (hramp _)).ticks

/-- What a boundary at which a swap may take effect does to a channel: the loop state, the fallback and the counts stay; a swap
of the inner bank alone takes effect and completes; without a pending swap no selection changes (R161). -/
structure Swapped (c : Chan) (l : Loop) (q : List Compl) : Prop where
  tick : l.tick = c.loop.tick
  state : l.r.status.state = c.loop.r.status.state
  fb : l.r.status.fb = c.loop.r.status.fb
  ctrl : l.r.ctrl = c.loop.r.ctrl
  inner : ∀ sw, c.loop.swap = some sw → sw.inner = true → sw.outer = false →
    l.swap = none ∧ l.r.status.actIn = (!c.loop.r.status.actIn) ∧ l.r.status.actOut = c.loop.r.status.actOut
      ∧ q = c.cq ++ [{ ref := sw.ref, status := 0 }]
  idle : c.loop.swap = none →
    l.r.status.actIn = c.loop.r.status.actIn ∧ l.r.status.actOut = c.loop.r.status.actOut ∧ q = c.cq

end Chan

theorem Loop.swapStates_at (l : Loop) (outer reset : Bool) (n : Nat) :
    (l.swapStates outer reset n).tick = l.tick ∧ (l.swapStates outer reset n).r = l.r := by
  unfold Loop.swapStates
  dsimp only
  split_ifs <;> exact ⟨rfl, rfl⟩

/-- One loop's selection turned where b asks for it: the tick count and the registers but for that selection stay. -/
theorem Loop.swapOne_at (l : Loop) (b outer reset : Bool) :
    let m := if b then l.swapOne outer reset else l
    m.tick = l.tick ∧ m.r = { l.r with status.actIn := l.r.status.actIn ^^ (b && !outer)
                                       status.actOut := l.r.status.actOut ^^ (b && outer) } := by
  cases b
  · simp
  · obtain ⟨htick, hr⟩ := Loop.swapStates_at (if outer then { l with r.status.actOut := !l.r.status.actOut }
      else { l with r.status.actIn := !l.r.status.actIn }) outer reset (nsec (l.words outer))
    rw [if_pos rfl]
    refine ⟨htick.trans ?_, hr.trans ?_⟩ <;> cases outer <;> simp

/-- The loop after an accepted swap has taken effect (R161). -/
def Loop.swapTaken (l : Loop) (sw : SwapReq) : Loop :=
  let l := if sw.inner then l.swapOne false sw.reset else l
  let l := if sw.outer then l.swapOne true sw.reset else l
  { l with swap := none, r.status.swapPend := false, selNv := (l.r.status.actIn, l.r.status.actOut) }

theorem Loop.swapTaken_at (l : Loop) (sw : SwapReq) :
    (l.swapTaken sw).tick = l.tick ∧ (l.swapTaken sw).r = { l.r with
      status.actIn := l.r.status.actIn ^^ sw.inner
      status.actOut := l.r.status.actOut ^^ sw.outer
      status.swapPend := false } := by
  obtain ⟨hti, hri⟩ := l.swapOne_at sw.inner false sw.reset
  obtain ⟨hto, hro⟩ := (if sw.inner then l.swapOne false sw.reset else l).swapOne_at sw.outer true sw.reset
  refine ⟨hto.trans hti, ?_⟩
  rw [hri] at hro
  simp only [Loop.swapTaken, hro]
  simp

namespace Chan

variable {c k m : Chan} (e : Env)

theorem swapAt_none (k : Chan) (b : Bool) (h : k.loop.swap = none) : k.swapAt b = k := by
  simp only [swapAt, h]

theorem swapAt_taken (k : Chan) (b : Bool) (sw : SwapReq) (h : k.loop.swap = some sw) (hb : ¬ (sw.outer ∧ !b)) :
    k.swapAt b = { k with loop := k.loop.swapTaken sw, cq := k.cq ++ [{ ref := sw.ref, status := 0 }] } := by
  simp only [swapAt, h, if_neg hb]
  rfl

theorem swapAt_swapped (k : Chan) (b : Bool) : ∃ l q, k.swapAt b = { k with loop := l, cq := q } ∧ k.Swapped l q := by
  cases h : k.loop.swap with
  | none =>
    exact ⟨k.loop, k.cq, k.swapAt_none b h, rfl, rfl, rfl, rfl, fun sw hsw => by simp [h] at hsw,
      fun _ => ⟨rfl, rfl, rfl⟩⟩
  | some sw =>
    by_cases hb : sw.outer ∧ !b
    · refine ⟨k.loop, k.cq, by simp only [swapAt, h, if_pos hb], rfl, rfl, rfl, rfl, fun sw' hsw _ ho => ?_, fun hn => ?_⟩
      · obtain rfl : sw = sw' := by simpa [h] using hsw
        simp [ho] at hb
      · simp [h] at hn
    · obtain ⟨ht, hr⟩ := k.loop.swapTaken_at sw
      refine ⟨k.loop.swapTaken sw, k.cq ++ [{ ref := sw.ref, status := 0 }], k.swapAt_taken b sw h hb, ht, ?_, ?_, ?_,
        fun sw' hsw hi ho => ?_, fun hn => ?_⟩
      · rw [hr]
      · rw [hr]
      · rw [hr]
      · obtain rfl : sw = sw' := by simpa [h] using hsw
        rw [hr]
        simp [hi, ho, Loop.swapTaken]
      · simp [h] at hn

/-! #### The sections of the inner loop -/

end Chan

/-- A value held between two bounds that a field of 16 bits can show stays between them in that field. -/
theorem toNat_toU_iclamp (x : Int) (lo hi : BitVec 16) (h : lo.toNat ≤ hi.toNat) :
    lo.toNat ≤ (toU 16 (iclamp x lo.toNat hi.toNat)).toNat ∧ (toU 16 (iclamp x lo.toNat hi.toNat)).toNat ≤ hi.toNat := by
  have hlo := lo.isLt
  have hhi := hi.isLt
  simp only [toU, satU, iclamp, BitVec.toNat_ofNat]
  omega

namespace Chan

variable {c k m : Chan} (e : Env)

/-- Outside fallback the sections give a duty within PWM_DUTY_LIM (R141). -/
theorem innerLoop_duty (k : Chan) (hfb : k.loop.r.status.fb = false)
    (hlim : k.pwm.r.dutyLim.dMin.toNat ≤ k.pwm.r.dutyLim.dMax.toNat) :
    k.pwm.r.dutyLim.dMin.toNat ≤ (k.innerLoop e).pwm.r.duty.toNat
      ∧ (k.innerLoop e).pwm.r.duty.toNat ≤ k.pwm.r.dutyLim.dMax.toNat := by
  simp only [innerLoop, hfb, Bool.false_eq_true, if_false]
  exact toNat_toU_iclamp _ _ _ hlim

/-- An inner tick of a loop that runs: the swaps of its boundary, its moves, its sections, and one tick more. -/
theorem innerTick_running (k : Chan) (h : k.loop.r.status.state.running = true) :
    let b := decide (k.loop.tick % max 1 k.loop.r.tick.m.toNat = 0)
    let m := ((k.swapAt b).tickPrepared e).innerLoop e
    k.innerTick e = { m with loop := ({ m.loop with tick := m.loop.tick + 1 } : Loop).view } := by
  obtain ⟨l, q, hk, hs⟩ := k.swapAt_swapped (decide (k.loop.tick % max 1 k.loop.r.tick.m.toNat = 0))
  have hrun : (k.swapAt (decide (k.loop.tick % max 1 k.loop.r.tick.m.toNat = 0))).loop.r.status.state.running = true := by
    rw [hk]
    exact hs.state ▸ h
  simp only [innerTick, h, hrun, Bool.not_true, Bool.false_or, Bool.false_eq_true, if_false]
  rfl

/-- An inner tick of a loop that does not compute, without a pending swap. -/
theorem innerTick_idle (k : Chan) (h : k.loop.r.status.state.running = false) (hs : k.loop.swap = none) : k.innerTick e = k := by
  simp [innerTick, h, swapAt_none k _ hs]

/-- k is c after an inner tick of its running loop (R141, R161). -/
def InnerTicked (c k : Chan) : Prop :=
  let l := c.loop
  k.loop.tick = l.tick + 1 ∧ k.loop.r.status.state.running = true ∧ k.pwm.dutyPrev = c.pwm.r.duty
  ∧ (l.r.status.fb = false → l.r.ctrl.fbEn = false → c.pwm.r.dutyLim.dMin.toNat ≤ c.pwm.r.dutyLim.dMax.toNat →
      c.pwm.r.dutyLim.dMin.toNat ≤ k.pwm.r.duty.toNat ∧ k.pwm.r.duty.toNat ≤ c.pwm.r.dutyLim.dMax.toNat)
  ∧ (∀ sw, l.swap = some sw → sw.inner = true → sw.outer = false →
      k.loop.swap = none ∧ k.loop.r.status.actIn = (!l.r.status.actIn) ∧ k.loop.r.status.actOut = l.r.status.actOut
      ∧ k.cq = c.cq ++ [{ ref := sw.ref, status := 0 }])
  ∧ (l.swap = none → k.loop.r.status.actIn = l.r.status.actIn ∧ k.loop.r.status.actOut = l.r.status.actOut ∧ k.cq = c.cq)
  ∧ k = { c with
      loop := k.loop, met.st := k.met.st, cq := k.cq
      pwm := { c.pwm with dutyPrev := k.pwm.dutyPrev, r.duty := k.pwm.r.duty, dutyAt := k.pwm.dutyAt } }

theorem innerTick_innerTicked (c : Chan) (h : c.loop.r.status.state.running = true) : c.InnerTicked (c.innerTick e) := by
  obtain ⟨l, q, hswap, hs⟩ := c.swapAt_swapped (decide (c.loop.tick % max 1 c.loop.r.tick.m.toNat = 0))
  obtain ⟨l', strm, hprep, hm⟩ := tickPrepared_ticks e { c with loop := l, cq := q }
  rw [innerTick_running e c h, hswap, hprep]
  refine ⟨congrArg (· + 1) (hm.tick.trans hs.tick), hm.running (hs.state ▸ h), rfl, fun hfb hen hlim => ?_,
    fun sw hsw hi ho => ?_, fun hsw => ?_, rfl⟩
  · exact innerLoop_duty e { c with loop := l', met.st := strm, cq := q } (hm.fb (hs.fb.trans hfb) (hs.ctrl ▸ hen)) hlim
  · obtain ⟨hnone, hin, hout, hq⟩ := hs.inner sw hsw hi ho
    exact ⟨hm.swap.trans hnone, hm.actIn.trans hin, hm.actOut.trans hout, hq⟩
  · obtain ⟨hin, hout, hq⟩ := hs.idle hsw
    exact ⟨hm.actIn.trans hin, hm.actOut.trans hout, hq⟩

end Chan

/-! ### The outer sample (R144, R149 to R151) -/

/-- A value held between two bounds in their order is between them. -/
theorem rclamp_between (x : Rat) {lo hi : Rat} (h : lo ≤ hi) : lo ≤ rclamp x lo hi ∧ rclamp x lo hi ≤ hi :=
  ⟨le_max_left _ _, max_le h (min_le_left _ _)⟩

/-- A step of the ramp stays between bounds on both sides of 0 that hold its start and its goal (R150). -/
theorem rampStep_between {i g dn up lo hi : Rat} (hdn : 0 ≤ dn) (hup : 0 ≤ up)
    (hs : lo ≤ i ∧ i ≤ hi) (hg : lo ≤ g ∧ g ≤ hi) : lo ≤ rampStep i g dn up ∧ rampStep i g dn up ≤ hi := by
  obtain ⟨hil, hih⟩ := hs
  obtain ⟨hgl, hgh⟩ := hg
  have hcross (a : Rat) (ha : 0 ≤ a) : 0 ≤ a * up / dn := div_nonneg (mul_nonneg ha hup) hdn
  unfold rampStep
  split_ifs
  · exact ⟨le_max_of_le_left hgl, max_le hgh (by linarith)⟩
  · constructor <;> linarith
  · have := hcross (dn - i) (by linarith)
    exact ⟨le_max_of_le_left hgl, max_le hgh (by linarith)⟩
  · exact ⟨le_min hgl (by linarith), min_le_of_left_le hgh⟩
  · constructor <;> linarith
  · have := hcross (dn + i) (by linarith)
    exact ⟨le_min hgl (by linarith), min_le_of_left_le hgh⟩
  · exact ⟨le_max_of_le_right (le_min (by linarith) hgl), max_le (by linarith) (min_le_of_right_le hgh)⟩

theorem slope_nonneg (v : BitVec 16) : 0 ≤ slope v := by
  unfold slope
  positivity

theorem Loop.toutMs_nonneg (l : Loop) : 0 ≤ l.toutMs := by
  unfold Loop.toutMs Loop.tickMs
  positivity

/-- I_ref is within the limits of its loop, where neither is negative (R150). -/
def Loop.RefWithin (l : Loop) : Prop := 0 ≤ l.lp → 0 ≤ l.lm → -l.lm ≤ l.iRef ∧ l.iRef ≤ l.lp

namespace Chan

variable {c k m : Chan} (e : Env)

/-- The goal of the ramp is within the limits, and its falling slope is not negative. -/
theorem rampGoal_between (k : Chan) (hp : 0 ≤ k.loop.lp) (hm : 0 ≤ k.loop.lm) :
    (-k.loop.lm ≤ k.rampGoal.1 ∧ k.rampGoal.1 ≤ k.loop.lp) ∧ 0 ≤ k.rampGoal.2 := by
  unfold rampGoal
  split
  · exact ⟨⟨by linarith, hp⟩, slope_nonneg _⟩
  · exact ⟨⟨by linarith, hp⟩, slope_nonneg _⟩
  · exact ⟨rclamp_between _ (by linarith), slope_nonneg _⟩

/-- The ramp at an outer sample leaves I_ref within the limits. -/
theorem rampI_within (k : Chan) : k.rampI.loop.RefWithin := by
  intro (hp : 0 ≤ k.loop.lp) (hm : 0 ≤ k.loop.lm)
  obtain ⟨hgoal, hslope⟩ := k.rampGoal_between hp hm
  have ht := k.loop.toutMs_nonneg
  refine rampStep_between (lo := -k.loop.lm) (hi := k.loop.lp) (mul_nonneg hslope ht) (mul_nonneg (slope_nonneg _) ht) ?_ hgoal
  split_ifs <;> constructor <;> linarith

/-- OFFDLY entered: the limits and the sample taken stay, and I_ref as it is or at 0 (R155). -/
theorem toOffdly_at (k : Chan) : ∃ l, k.toOffdly e = { k with loop := l } ∧ l.outDone = k.loop.outDone
    ∧ l.lp = k.loop.lp ∧ l.lm = k.loop.lm ∧ (l.iRef = k.loop.iRef ∨ l.iRef = 0) := by
  unfold toOffdly
  dsimp only
  split
  · exact ⟨_, rfl, rfl, rfl, rfl, (ite_eq_or_eq _ _ _).symm⟩
  · exact ⟨_, rfl, rfl, rfl, rfl, (ite_eq_or_eq _ _ _).symm⟩

/-- The check for zero current keeps I_ref within the limits. -/
theorem zeroCheck_at (k : Chan) : ∃ l, k.zeroCheck e = { k with loop := l } ∧ l.outDone = k.loop.outDone
    ∧ (k.loop.RefWithin → l.RefWithin) := by
  unfold zeroCheck
  dsimp only
  split
  · exact ⟨k.loop, rfl, rfl, id⟩
  generalize (if rabs k.iFb ≤ tenths k.loop.r.stopcfg.iZero then k.loop.zeroRun + 1 else 0) = z
  split
  · obtain ⟨l, hl, hout, hlp, hlm, href⟩ := toOffdly_at e { k with loop.zeroRun := z }
    refine ⟨l, hl, hout, fun h hp hm => ?_⟩
    rw [hlp] at hp ⊢
    rw [hlm] at hm ⊢
    obtain href | href := href <;> rw [href]
    · exact h hp hm
    · exact ⟨by linarith, hp⟩
  · exact ⟨_, rfl, rfl, id⟩

theorem formLimits_keeps (k : Chan) : k.Keeps k.formLimits := ⟨_, rfl, ⟨rfl, rfl, rfl, rfl, rfl, fun h _ => h, id⟩, id⟩

/-- The ramp and the sections of a sample, run where the loop regulates current. -/
theorem outerSections_at (k : Chan) :
    ∃ l, (if k.loop.ccMode then k.rampI.outerLoop k.loop.iRef else k) = { k with loop := l } ∧ l.outDone = k.loop.outDone
      ∧ (k.loop.ccMode = true → l.RefWithin) := by
  split
  · exact ⟨_, rfl, rfl, fun _ => k.rampI_within⟩
  · next h => exact ⟨k.loop, rfl, rfl, fun hc => absurd hc h⟩

/-- k is c with its newest grant record in force, where one waited to be (R151). -/
def GrantApplied (c k : Chan) : Prop :=
  c.grant.ackPend = true → k.grant.ackPend = false ∧ k.grant.apImp = c.grant.r.imp ∧ k.grant.apExp = c.grant.r.exp
    ∧ k.grant.ackEpoch = c.grant.r.epoch

theorem applied_at (k : Chan) : ∃ g, k.applied = { k with grant := g } ∧ k.GrantApplied { k with grant := g } := by
  unfold applied
  dsimp only
  split
  · exact ⟨_, rfl, fun _ => ⟨rfl, rfl, rfl, rfl⟩⟩
  · next h => exact ⟨k.grant, rfl, fun ha => absurd ha h⟩

/-- The states, the return from fallback, the tests and the limits of a sample, before its ramp (R144). -/
def samplePrepared (k : Chan) : Chan :=
  let k := { k with loop.outDone := k.loop.tick }
  ((((k.sampleMoves e).fbReturn e).sampleTests).judge e).formLimits

theorem samplePrepared_keeps (k : Chan) : Keeps { k with loop.outDone := k.loop.tick } (k.samplePrepared e) :=
  ((((sampleMoves_keeps e _).trans (fbReturn_keeps e _)).trans (sampleTests_keeps _)).trans (judge_keeps e _)).trans
    (formLimits_keeps _)

/-- An outer sample that is due. -/
theorem outerSample_due (k : Chan) (h : k.loop.sampleDue = true) :
    let m := k.samplePrepared e
    let m := if m.loop.ccMode then m.rampI.outerLoop m.loop.iRef else m
    let m := (m.applied.pwmSample e).zeroCheck e
    k.outerSample e = { m with loop := m.loop.view } := by
  simp only [outerSample, h, Bool.not_true, Bool.false_eq_true, if_false]
  rfl

theorem outerSample_not_due (k : Chan) (h : k.loop.sampleDue = false) : k.outerSample e = k := by
  simp [outerSample, h]

/-- k is c after an outer sample (R144, R150, R151). -/
def OuterSampled (c k : Chan) : Prop :=
  let l := c.loop
  k.loop.outDone = l.tick ∧ c.GrantApplied k
  ∧ (l.ccMode = true → k.loop.RefWithin)
  ∧ k = { c with loop := k.loop, pwm := k.pwm, grant := k.grant }

theorem outerSample_outerSampled (c : Chan) (h : c.loop.sampleDue = true) : c.OuterSampled (c.outerSample e) := by
  obtain ⟨l, hprep, hkept⟩ := samplePrepared_keeps e c
  obtain ⟨l', hsec, hout, hwithin⟩ := outerSections_at { c with loop := l }
  obtain ⟨g, happ, hgrant⟩ := applied_at { c with loop := l' }
  obtain ⟨l'', hzero, hout', hwithin'⟩ := zeroCheck_at e (pwmSample { c with loop := l', grant := g } e)
  rw [outerSample_due e c h]
  dsimp only at hprep hsec ⊢
  rw [hprep, hsec, happ, hzero]
  exact ⟨(hout'.trans hout).trans hkept.outDone, hgrant, fun hc => hwithin' (hwithin (hkept.ccMode hc)), rfl⟩

/-! ### Limits of a loop that does not compute (R151) -/

/-- Outside HOLD the limits are the least of each direction's sources (R149, R228). -/
theorem formLimits_free (k : Chan) (h : k.grant.r.state.state ≠ .hold) :
    ∃ v, k.formLimits = { k with loop := { k.loop with
      lp := (leastLim (·.1) k.limits).2, lm := (leastLim (·.2) k.limits).2, r.ilimView := v } } := by
  refine ⟨k.formLimits.loop.r.ilimView, ?_⟩
  simp [formLimits, h]

/-- k is c after its limits were formed and applied while its loop does not compute. -/
def LimitApplied (c k : Chan) : Prop :=
  let l := c.loop
  k.loop.lp = (leastLim (·.1) c.limits).2 ∧ k.loop.lm = (leastLim (·.2) c.limits).2
  ∧ (c.grant.ackPend = true → k.grant.ackPend = false ∧ k.grant.apImp = c.grant.r.imp ∧ k.grant.apExp = c.grant.r.exp)
  ∧ k = { c with loop := { l with lp := k.loop.lp, lm := k.loop.lm, r.ilimView := k.loop.r.ilimView }, grant := k.grant }

theorem limitIdle_idle (c : Chan) (h : c.loop.r.status.state.running = false) (hg : c.grant.r.state.state ≠ .hold) :
    c.LimitApplied c.limitIdle := by
  obtain ⟨v, hform⟩ := c.formLimits_free hg
  obtain ⟨g, happ, hgrant⟩ := applied_at { c with loop := { c.loop with
      lp := (leastLim (·.1) c.limits).2, lm := (leastLim (·.2) c.limits).2, r.ilimView := v } }
  have hk : c.limitIdle = c.formLimits.applied := by simp [limitIdle, h]
  rw [hk, hform, happ]
  refine ⟨rfl, rfl, fun ha => ?_, rfl⟩
  obtain ⟨hack, himp, hexp, -⟩ := hgrant ha
  exact ⟨hack, himp, hexp⟩

theorem limitIdle_running (k : Chan) (h : k.loop.r.status.state.running = true) : k.limitIdle = k := by
  simp [limitIdle, h]

/-! ### ON_DLY, OFF_DLY and STOP_TMO (R155) -/

/-- k is c after its loop entered CV or CC at the end of ON_DLY, its modulator in RUN. -/
def Started (c k : Chan) : Prop :=
  k.loop.r.status.state = (if c.loop.tgtCC then .cc else .cv) ∧ k.pwm.r.status.state = .run
  ∧ (c.loop.tgtCC = true → k.loop.iRef = c.iOut) ∧ (c.loop.tgtCC = false → k.loop.vRef = c.vOut)
  ∧ k = { c with loop := k.loop, pwm := k.pwm }

theorem loopRun_started (c : Chan) : c.Started (c.loopRun e) := by
  unfold loopRun
  dsimp only
  split
  next h =>
    have hcc : c.loop.tgtCC = true := h
    exact ⟨(if_pos hcc).symm, rfl, fun _ => rfl, fun hn => absurd hcc (by simp [hn]), rfl⟩
  next h =>
    have hcv : ¬ c.loop.tgtCC = true := h
    exact ⟨(if_neg hcv).symm, rfl, fun hc => absurd hc hcv, fun _ => rfl, rfl⟩

/-- ON_DLY has elapsed where everything allows the start and the gate path echoes (R155, R436). -/
theorem onDelayTested_starts (c : Chan) (hst : c.loop.r.status.state = .ondly)
    (ht : c.loop.tState + msNs c.loop.r.delay.onDly.toNat ≤ e.now) (hpwm : c.pwm.r.status.state = .ready)
    (hpermit : c.shk.r.status.permit = true) (htrip : c.pwm.noTrip = true) (hclk : c.clk.inWindow = true)
    (hey : c.eyLink = true) :
    c.onDelayTested e = c.loopRun e := by
  have hon : c.onDelay e = c.loopRun e := by simp [onDelay, hst, ht, hpwm, hpermit, htrip, hclk]
  simp [onDelayTested, hon, shkGateTest, hey]

/-- ON_DLY has elapsed without a permit: the start is refused. -/
theorem onDelayTested_refuses (c : Chan) (hst : c.loop.r.status.state = .ondly)
    (ht : c.loop.tState + msNs c.loop.r.delay.onDly.toNat ≤ e.now) (hpermit : c.shk.r.status.permit = false) :
    c.onDelayTested e = { c.loopIdle e with loop.r.status.startRef := true } := by
  have hon : c.onDelay e = { c.loopIdle e with loop.r.status.startRef := true } := by simp [onDelay, hst, ht, hpermit]
  have hrest : ¬ ((c.onDelay e).loop.r.status.state.running ∧ !c.loop.r.status.state.running) := by
    rw [hon]
    exact fun h => Bool.false_ne_true h.1
  exact (if_neg hrest).trans hon

theorem onDelayTested_other (c : Chan) (hst : c.loop.r.status.state ≠ .ondly) : c.onDelayTested e = c := by
  simp [onDelayTested, onDelay, hst]

theorem offDelay_other (c : Chan) (hst : c.loop.r.status.state ≠ .offdly) : c.offDelay e = c := by
  simp [offDelay, hst]

theorem stopTimeout_other (c : Chan) (hst : c.loop.r.status.state ≠ .stopr) : c.stopTimeout e = c := by
  simp [stopTimeout, hst]

/-- OFFDLY as it is entered (R155). -/
theorem toOffdly_entered (k : Chan) :
    (k.toOffdly e).loop.r.status.state = .offdly ∧ (k.toOffdly e).loop.tState = e.now := by
  unfold toOffdly
  dsimp only
  split <;> exact ⟨rfl, rfl⟩

end Chan

/-- Settles O5: the inner tick by `innerTick_innerTicked`, the outer sample by `outerSample_outerSampled`, the limits by
`limitIdle_idle`, the ends of the delays each by its lemma. -/
theorem loopTicksAndDelays : Obligations.LoopTicksAndDelays := by
  unfold Obligations.LoopTicksAndDelays
  intro s n h c l st
  have h1 := State.soleUp_mono h 1 (by decide)
  have h2 := State.soleUp_mono h 2 (by decide)
  refine ⟨fun hr => ?_, fun hr hs => ?_, fun hd => ?_, fun hd => ?_, fun hr hg => ?_, fun hr => ?_,
    fun hst ht hpwm hpermit htrip hclk hey => ?_, fun hst ht hpermit => ?_, fun hst => ?_, fun hst ht => ?_, fun hst => ?_,
    fun hst ht => ?_, fun hst => ?_⟩
  · exact s.becomes_onSole n 0 _ c.InnerTicked h (c.innerTick_innerTicked s.env hr)
  · exact s.becomes_onSole n 0 _ _ h (c.innerTick_idle s.env hr hs)
  · refine s.becomes_onSole n 0 _ _ h ?_
    obtain ⟨hout, hgrant, hwithin, hframe⟩ := c.outerSample_outerSampled s.env hd
    exact ⟨hout, hgrant, hwithin, hframe⟩
  · exact s.becomes_onSole n 0 _ _ h (c.outerSample_not_due s.env hd)
  · exact s.becomes_onSole n 2 _ c.LimitApplied h2 (c.limitIdle_idle hr hg)
  · exact s.becomes_onSole n 2 _ _ h2 (c.limitIdle_running hr)
  · refine s.becomes_onSole n 1 _ c.Started h1 ?_
    rw [c.onDelayTested_starts s.env hst ht hpwm hpermit htrip hclk hey]
    exact c.loopRun_started s.env
  · refine s.becomes_onSole n 1 _ _ h1 ?_
    rw [c.onDelayTested_refuses s.env hst ht hpermit]
    exact ⟨rfl, rfl, rfl⟩
  · exact s.becomes_onSole n 1 _ _ h1 (c.onDelayTested_other s.env hst)
  · refine s.becomes_onSole n 1 _ _ h1 ?_
    have hk : c.offDelay s.env = c.loopIdle s.env := if_pos ⟨hst, ht⟩
    rw [hk]
    exact ⟨rfl, rfl, rfl, rfl⟩
  · exact s.becomes_onSole n 1 _ _ h1 (c.offDelay_other s.env hst)
  · refine s.becomes_onSole n 1 _ _ h1 ?_
    have hk : c.stopTimeout s.env = { c.toOffdly s.env with loop.r.status.stopTmo := true } := if_pos ⟨hst, ht⟩
    obtain ⟨hstate, htime⟩ := c.toOffdly_entered s.env
    obtain ⟨l', hframe, -⟩ := c.toOffdly_keeps s.env
    rw [hk]
    exact ⟨hstate, rfl, htime, by rw [hframe]⟩
  · exact s.becomes_onSole n 1 _ _ h1 (c.stopTimeout_other s.env hst)

end Sys2Proof.Machine

namespace Sys2Proof.Machine

/-! ### Coefficient banks (R158, R159) -/

namespace Loop

variable (l : Loop)

@[simp] theorem bank_setOk (o o' : Bool) (i i' : Nat) (b : Bool) : (l.setOk o i b).bank o' i' = l.bank o' i' := by
  cases o <;> rfl

@[simp] theorem bankOk_modBank (o o' : Bool) (i i' : Nat) (f : Bank → Bank) :
    (l.modBank o i f).bankOk o' i' = l.bankOk o' i' := by
  cases o <;> rfl

/-- An OK bit after one was set to a value. -/
theorem bankOk_setOk (o o' : Bool) (i i' : Nat) (b : Bool) :
    (l.setOk o i b).bankOk o' i' = if (o' = o ∧ i' = i) ∧ i' < 3 then b else l.bankOk o' i' := by
  cases o <;> cases o' <;> simp [setOk, bankOk, mbit_msetb]

@[simp] theorem bankOk_setOk_same (o : Bool) (i : Nat) (b : Bool) (hi : i < 3) : (l.setOk o i b).bankOk o i = b := by
  rw [bankOk_setOk, if_pos ⟨⟨rfl, rfl⟩, hi⟩]

@[simp] theorem bank_modBank_same (o : Bool) (i : Nat) (f : Bank → Bank) (hi : i < 3) :
    (l.modBank o i f).bank o i = f (l.bank o i) := by
  cases o <;> exact (vget_vMod ..).trans (if_pos ⟨rfl, hi⟩)

/-- A bank that is not in use, F only in IDLE, is not refused. -/
theorem bankRefuse_none (o : Bool) (i : Nat) (hi : i < 3) (ha : l.isActive o i = false)
    (hF : i = 2 → l.r.status.state = .idle) : l.bankRefuse o i = none := by
  simpa [bankRefuse, ha, Nat.not_lt.mpr (Nat.le_of_lt_succ hi)] using hF

theorem bankRefuse_active (o : Bool) (i : Nat) (hi : i < 3) (ha : l.isActive o i = true) : l.bankRefuse o i = some 0x40 := by
  simp [bankRefuse, ha, Nat.not_lt.mpr (Nat.le_of_lt_succ hi)]

end Loop

/-- Words written into a vector one after the other, read back. -/
theorem vget_setWords (ws : List Word) (pos a : Nat) (v : Vector Word 41) (j : Nat) (hj : j < 41) :
    vget ((ws.zipIdx a).foldl (fun v x => v.setIfInBounds (pos + x.2) x.1) v) j 0
      = if pos + a ≤ j ∧ j < pos + a + ws.length then ws.getD (j - (pos + a)) 0 else vget v j 0 := by
  induction ws generalizing a v with
  | nil =>
    rw [if_neg (by simp)]
    rfl
  | cons x ws ih =>
    have hset : vget (v.setIfInBounds (pos + a) x) j 0 = if j = pos + a then x else vget v j 0 := by
      by_cases h : j = pos + a
      · subst h
        simp [vget, hj]
      · simp [vget, h, Ne.symm h]
    rw [List.zipIdx_cons, List.foldl_cons, ih, hset, List.length_cons]
    by_cases h : pos + (a + 1) ≤ j ∧ j < pos + (a + 1) + ws.length
    · have hj1 : j - (pos + a) = j - (pos + (a + 1)) + 1 := by omega
      rw [if_pos h, if_pos (by omega), hj1, List.getD_cons_succ]
    · rw [if_neg h]
      by_cases h0 : j = pos + a
      · subst h0
        simp
      · rw [if_neg h0, if_neg (by omega)]

namespace Loop

variable (l : Loop)

/-- Words written into a bank: they stand from the position on, the others stay, and the bank is no longer OK (R158). -/
theorem bankPut_at (o : Bool) (i pos : Nat) (ws : List Word) (hi : i < 3) :
    (∀ j, j < 41 → vget ((l.bankPut o i pos ws).bank o i).words j 0
      = if pos ≤ j ∧ j < pos + ws.length then ws.getD (j - pos) 0 else vget (l.bank o i).words j 0)
    ∧ (l.bankPut o i pos ws).bankOk o i = false := by
  unfold bankPut
  refine ⟨fun j hj => ?_, bankOk_setOk_same _ o i false hi⟩
  rw [bank_setOk, bank_modBank_same _ o i _ hi]
  exact vget_setWords ws pos 0 _ j hj

/-- A seal against the right check value: the bank is OK, its words stay and are stored (R159). -/
theorem seal_good (o : Bool) (i : Nat) (crc : Word) (hi : i < 3) (hw : word0Ok (l.bank o i).words = true)
    (hc : bankCrc (l.bank o i).words = crc) :
    (l.seal o i crc).2 = 0 ∧ (l.seal o i crc).1.bankOk o i = true
      ∧ ((l.seal o i crc).1.bank o i).stCrc = crc ∧ ((l.seal o i crc).1.bank o i).words = (l.bank o i).words := by
  have hs : l.seal o i crc = ((l.modBank o i (fun b => { b with stWords := b.words, stCrc := crc })).setOk o i true, 0) := by
    simp [Loop.seal, hw, hc]
  rw [hs]
  exact ⟨rfl, by simp [hi], by simp [hi], by simp [hi]⟩

/-- A seal against another check value fails (R159). -/
theorem seal_badCrc (o : Bool) (i : Nat) (crc : Word) (hw : word0Ok (l.bank o i).words = true)
    (hc : bankCrc (l.bank o i).words ≠ crc) : l.seal o i crc = ({ l with r.bankStatus.sealFail := true }, 0x43) := by
  simp [Loop.seal, hw, hc]

end Loop

/-! ### Descriptors and host accesses at a Sole -/

section ChDesc

variable (s : State) (n op : Nat) (d : Desc) (f : Env → Chan → Chan × Option Nat) (hn : n < 4) (h : s.takes n d = true)
  (hop : d.opcode = op) (hd : (s.taken n d).descOp n d (s.refOf n d) = (s.taken n d).chAct n f)
include hn h hop hd

/-- A descriptor of a channel, done at once with a code. -/
theorem State.executes_chAct (code : Nat) (P : Chan → Prop) (hc : (f (s.taken n d).env ((s.taken n d).ch n)).2 = some code)
    (hP : P (f (s.taken n d).env ((s.taken n d).ch n)).1) : Executes (s.descRow op d).done s n d code P := by
  refine ⟨_, hP, congrArg State.done ?_⟩
  rw [s.descRow_takes n op d hop h, hd]
  simp only [State.chAct, State.answer, hc]
  rw [State.onCh_eq _ n _ hn]

/-- A descriptor of a channel that completes later. -/
theorem State.leaves_chAct (hc : (f (s.taken n d).env ((s.taken n d).ch n)).2 = none) :
    Leaves (s.descRow op d).done ((s.taken n d).withCh n (f (s.taken n d).env ((s.taken n d).ch n)).1) := by
  refine congrArg State.done ?_
  rw [s.descRow_takes n op d hop h, hd]
  simp only [State.chAct, State.answer, hc]
  rw [State.onCh_eq _ n _ hn]

end ChDesc

/-- The descriptors of the coefficient banks reach the operations of their Sole (R175). -/
theorem State.descOp_bank (s : State) (n : Nat) (d : Desc) (ref : DescRef) (hn : n < 4) :
    (d.opcode = 0x0201 → s.descOp n d ref = s.chAct n fun _ k => k.dBankWrite d)
      ∧ (d.opcode = 0x0202 → s.descOp n d ref = s.chAct n fun _ k => k.dBankSeal d)
      ∧ (d.opcode = 0x0203 → s.descOp n d ref = s.chAct n fun _ k => k.dBankSwap d) := by
  have h4 : n ≠ 4 := by omega
  refine ⟨fun hop => ?_, fun hop => ?_, fun hop => ?_⟩ <;>
    simp [State.descOp, State.dieOp, State.chOp, payMask, Desc.ledgerBits, h4, hn, hop]

/-- A host read of a register of a channel that is open, where it is none of a pair of R50: the registers that follow time are
brought up to it, the read has its side effect, and the word is answered. -/
theorem State.chRead_open (s : State) (n o : Nat) (hn : n < 4) (ho : o < 0x4000) (ho4 : o % 4 = 0) (h : s.hostOpen n = true)
    (hlow : o ∉ pairLows false ∧ o - 4 ∉ pairLows false) :
    s.chRead n o =
      let v := s.regView n
      let r := (v.ch n).regTouch v.env o
      let u := v.withCh n r.2
      { u with out := u.out ++ [.readData (u.nid.getD 0) (0x8000 + 0x4000 * n + o) r.1] } := by
  obtain ⟨-, -, h3, -⟩ := s.hostOpen_ch n hn h
  have e : (0x8000 + 0x4000 * n + o) / 4 * 4 = 0x8000 + 0x4000 * n + o := by omega
  have h4 : n ≠ 4 := by omega
  simp only [State.chRead, if_pos hn, State.hostAccess]
  rw [if_neg (by omega)]
  simp [State.regAccess, e, s.regDead_open n o false hn ho h, dieOfOfs_ch n o ho, h3, State.regRead,
    blockOfs_ch n o ho, if_pos hn, State.onCh_eq _ n _ hn, State.regAnswer, h4, hlow]

/-- A host write of a register of a channel that is open, where it changes the loop alone. -/
theorem State.becomes_loopWrite (s : State) (n o : Nat) (w : Word) (l : Loop) (P : Chan → Prop) (hn : n < 4)
    (h : s.hostOpen n = true) (ho : o < 0x4000 ∧ o % 4 = 0)
    (hw : (s.ch n).regWrite s.env o w = ({ s.ch n with loop := l }, false))
    (hP : P { s.ch n with loop := l }) : Becomes (s.chWrite n o w).done s n P :=
  ⟨_, hP, congrArg State.done ((s.chWrite_open n o w hn ho.1 ho.2 h (by rw [hw])).trans (by rw [hw]))⟩

/-! ### The commands of the banks (R158 to R162, R176, R177, R188, R189) -/

/-- The bank of a loop that a swap would bring into use: the other of A and B. -/
def Loop.nextBank (l : Loop) (o : Bool) : Nat := 1 - b2n (if o then l.r.status.actOut else l.r.status.actIn)

namespace Chan

variable (k : Chan) (d : Desc)

/-- A write of words within a bank: put there, or refused with the bank's code (R176). -/
theorem dBankWrite_at
    (hb : d.onlyBits [0xF133F, 0xFFFFFFFF, 0xFFFFFFFF, 0xFFFFFFFF, 0xFFFFFFFF, 0xFFFFFFFF, 0xFFFFFFFF] = true)
    (h1 : 1 ≤ d.fld 0 16 4) (h6 : d.fld 0 16 4 ≤ 6) (h41 : d.fld 0 0 6 + d.fld 0 16 4 ≤ 41) (hi : d.fld 0 8 2 < 3) :
    (k.loop.bankRefuse (d.bit 0 12) (d.fld 0 8 2) = none →
      k.dBankWrite d = ({ k with
        loop := k.loop.bankPut (d.bit 0 12) (d.fld 0 8 2) (d.fld 0 0 6)
          ((List.range (d.fld 0 16 4)).map fun i => d.pay (1 + i)) }, some 0))
    ∧ ∀ c, k.loop.bankRefuse (d.bit 0 12) (d.fld 0 8 2) = some c → k.dBankWrite d = (k, some c) := by
  unfold dBankWrite
  dsimp only
  rw [hb, Bool.not_true, if_neg Bool.false_ne_true, if_neg (by omega)]
  exact ⟨fun hr => by rw [hr], fun c hr => by rw [hr]⟩

/-- A seal of a bank that is not refused (R176). -/
theorem dBankSeal_seals (hb : d.onlyBits [0x1300, 0xFFFFFFFF] = true)
    (hr : k.loop.bankRefuse (d.bit 0 12) (d.fld 0 8 2) = none) :
    k.dBankSeal d = ({ k with loop := (k.loop.seal (d.bit 0 12) (d.fld 0 8 2) (d.pay 1)).1 },
      some (k.loop.seal (d.bit 0 12) (d.fld 0 8 2) (d.pay 1)).2) := by
  unfold dBankSeal
  dsimp only
  rw [hb, Bool.not_true, if_neg Bool.false_ne_true, hr]

/-- A swap of banks that are sealed is accepted (R161). -/
theorem dBankSwap_accepted (hb : d.onlyBits [0x13] = true) (hs : k.loop.swap = none)
    (hany : d.bit 0 0 = true ∨ d.bit 0 1 = true)
    (hgood : ∀ o, (if o then d.bit 0 1 else d.bit 0 0) = true →
      k.loop.bankOk o (k.loop.nextBank o) = true ∧ bankGood (k.loop.bank o (k.loop.nextBank o)) = true) :
    k.dBankSwap d = ({ k with loop := { k.loop with
      swap := some { inner := d.bit 0 0, outer := d.bit 0 1, reset := d.bit 0 4, ref := d.ref true }
      r.status.swapPend := true } }, none) := by
  rw [dBankSwap, hb, Bool.not_true, if_neg Bool.false_ne_true]
  have hin : d.bit 0 0 = true → k.loop.bankOk false (1 - b2n k.loop.r.status.actIn) = true
      ∧ bankGood (k.loop.bank false (1 - b2n k.loop.r.status.actIn)) = true := hgood false
  have hout : d.bit 0 1 = true → k.loop.bankOk true (1 - b2n k.loop.r.status.actOut) = true
      ∧ bankGood (k.loop.bank true (1 - b2n k.loop.r.status.actOut)) = true := hgood true
  unfold swapReq
  dsimp only
  rw [if_neg (by rcases hany with h | h <;> simp [h]), if_neg (by simp [hs]),
    if_neg (by simpa using ⟨fun h => (hin h).1, fun h => (hout h).1⟩),
    if_neg (by simpa using ⟨fun h => (hin h).2, fun h => (hout h).2⟩)]

/-- A swap of an inner bank that is not sealed is refused (R177). -/
theorem dBankSwap_unsealed (hb : d.onlyBits [0x13] = true) (hs : k.loop.swap = none) (h0 : d.bit 0 0 = true)
    (hok : k.loop.bankOk false (k.loop.nextBank false) = false) : k.dBankSwap d = (k, some 0x44) := by
  have hok' : k.loop.bankOk false (1 - b2n k.loop.r.status.actIn) = false := hok
  rw [dBankSwap, hb, Bool.not_true, if_neg Bool.false_ne_true]
  simp [swapReq, hs, h0, hok']

end Chan

namespace Loop

variable (l : Loop) (w : Word)

/-- SEAL written to LOOP_BANK_CTL for a bank that is not refused (R188). -/
theorem bankCtl_seals (hs : w.getLsbD 8 = true) (hr : l.bankRefuse (w.getLsbD 4) (w.extractLsb' 0 2).toNat = none) :
    l.bankCtl w = (({ l with r.bankCtl := { l.r.bankCtl with loop := w.getLsbD 4, bank := w.extractLsb' 0 2 } } : Loop).seal
      (w.getLsbD 4) (w.extractLsb' 0 2).toNat l.r.bankCrc).1 := by
  have hr' : ({ l with r.bankCtl := { l.r.bankCtl with loop := w.getLsbD 4, bank := w.extractLsb' 0 2 } } : Loop).bankRefuse
    (w.getLsbD 4) (w.extractLsb' 0 2).toNat = none := hr
  simp only [bankCtl, hs, if_true, hr']

/-- A word written to LOOP_CDATA for a bank that is not refused (R189). -/
theorem cdataWrite_puts (hr : l.bankRefuse l.r.csel.loop l.r.csel.bank.toNat = none) :
    l.cdataWrite w = (l.bankPut l.r.csel.loop l.r.csel.bank.toNat l.r.csel.word.toNat [w]).cselNext := by
  simp only [cdataWrite, hr]

theorem bankPut_csel (o : Bool) (i pos : Nat) (ws : List Word) : (l.bankPut o i pos ws).r.csel = l.r.csel := by
  cases o <;> rfl

end Loop

/-- A host write of LOOP_BANK_CTL reaches the loop. -/
theorem Chan.regWrite_bankCtl (k : Chan) (e : Env) (w : Word) :
    k.regWrite e 0x238 w = ({ k with loop := k.loop.bankCtl w }, false) := rfl

/-- A host write of LOOP_CDATA reaches the loop. -/
theorem Chan.regWrite_cdata (k : Chan) (e : Env) (w : Word) :
    k.regWrite e 0x248 w = ({ k with loop := k.loop.cdataWrite w }, false) := rfl

/-- Settles O6: the words and their seals by `bankPut_at` and `seal_good`, by descriptor and by register, the swap by
`dBankSwap_accepted` and `dBankSwap_unsealed`, the read of LOOP_CDATA by `chRead_open`. -/
theorem loopBanks : Obligations.LoopBanks := by
  unfold Obligations.LoopBanks
  intro s n d hn h c l outer b only
  obtain ⟨hwrite, hseal, hswap⟩ := (s.taken n d).descOp_bank n d (s.refOf n d) hn
  refine ⟨fun hop hb => ?_, fun hop hb hi ha hF => ⟨fun hw hc => ?_, fun hw hc => ?_⟩, fun w ho => ?_, fun ho => ?_,
    fun hop hb hs => ⟨fun hany hin hout => ?_, fun h0 hok => ?_⟩⟩
  · intro m pos h1 h6 h41 hi
    obtain ⟨hput, hrefused⟩ := c.dBankWrite_at d hb h1 h6 h41 hi
    refine ⟨fun ha hF => ?_, fun ha => ?_⟩
    · have hk := hput (l.bankRefuse_none outer b hi ha hF)
      refine s.executes_chAct n _ d _ hn h hop (hwrite hop) 0 _ (congrArg Prod.snd hk) ?_
      rw [hk]
      obtain ⟨hwords, hok⟩ := l.bankPut_at outer b pos ((List.range m).map fun i => d.pay (1 + i)) hi
      refine ⟨fun j hj => (hwords j hj).trans ?_, hok, rfl⟩
      rw [List.length_map, List.length_range]
      split
      · next hin => simp [List.getD, show j - pos < m by omega]
      · rfl
    · have hk := hrefused _ (l.bankRefuse_active outer b hi ha)
      exact s.executes_chAct n _ d _ hn h hop (hwrite hop) 0x40 _ (congrArg Prod.snd hk) (congrArg Prod.fst hk)
  · have hk := c.dBankSeal_seals d hb (l.bankRefuse_none outer b hi ha hF)
    obtain ⟨hcode, hok, hcrc, hwords⟩ := l.seal_good outer b (d.pay 1) hi hw hc
    refine s.executes_chAct n _ d _ hn h hop (hseal hop) 0 _ ((congrArg Prod.snd hk).trans (congrArg some hcode)) ?_
    rw [hk]
    exact ⟨hok, hcrc, hwords, rfl⟩
  · have hk := c.dBankSeal_seals d hb (l.bankRefuse_none outer b hi ha hF)
    rw [l.seal_badCrc outer b (d.pay 1) hw hc] at hk
    exact s.executes_chAct n _ d _ hn h hop (hseal hop) 0x43 _ (congrArg Prod.snd hk) (congrArg Prod.fst hk)
  · intro l o i
    refine ⟨fun hs hi ha hF hw hc => ?_, fun hi hj ha hF => ?_⟩
    · refine s.becomes_loopWrite n 0x238 w _ _ hn ho (by decide) (Chan.regWrite_bankCtl _ _ w) ?_
      rw [l.bankCtl_seals w hs (l.bankRefuse_none o i hi ha hF)]
      obtain ⟨-, hok, -, hwords⟩ := Loop.seal_good
        { l with r.bankCtl := { l.r.bankCtl with loop := o, bank := w.extractLsb' 0 2 } } o i l.r.bankCrc hi hw hc
      exact ⟨hok, hwords, rfl⟩
    · refine s.becomes_loopWrite n 0x248 w _ _ hn ho (by decide) (Chan.regWrite_cdata _ _ w) ?_
      rw [l.cdataWrite_puts w (l.bankRefuse_none _ _ hi ha hF)]
      obtain ⟨hwords, hok⟩ := l.bankPut_at l.r.csel.loop l.r.csel.bank.toNat l.r.csel.word.toNat [w] hi
      refine ⟨(hwords _ hj).trans ?_, hok, ?_, rfl⟩
      · simp
      · simp [Loop.cselNext, Loop.bankPut_csel]
  · have hofs : 0x8000 + 0x4000 * n + 0x248 = 0x8248 + 0x4000 * n := by omega
    exact congrArg State.done (hofs ▸ s.chRead_open n 0x248 hn (by decide) (by decide) ho (by decide))
  · have hk := c.dBankSwap_accepted d hb hs hany (fun o => by cases o; exact hin; exact hout)
    have hleaves := s.leaves_chAct n _ d _ hn h hop (hswap hop) (congrArg Prod.snd hk)
    rw [hk] at hleaves
    exact hleaves
  · have hk := c.dBankSwap_unsealed d hb hs h0 hok
    exact s.executes_chAct n _ d _ hn h hop (hswap hop) 0x44 _ (congrArg Prod.snd hk) (congrArg Prod.fst hk)

end Sys2Proof.Machine

namespace Sys2Proof.Machine

/-! ### The check of the banks in use (R163) -/

namespace Loop

variable {l m : Loop}

theorem bank_of_banks (h : m.banks = l.banks) (o : Bool) (i : Nat) : m.bank o i = l.bank o i := by
  cases o
  · exact congrArg (fun v => vget (BankView.inner v) i {}) h
  · exact congrArg (fun v => vget (BankView.outer v) i {}) h

theorem bankOk_of_banks (h : m.banks = l.banks) (o : Bool) (i : Nat) : m.bankOk o i = l.bankOk o i := by
  cases o
  · exact congrArg (fun v => mbit (BankView.status v).inOk i) h
  · exact congrArg (fun v => mbit (BankView.status v).outOk i) h

theorem isActive_of_banks (h : m.banks = l.banks) (o : Bool) (i : Nat) : m.isActive o i = l.isActive o i := by
  cases o
  · exact congrArg (fun v => decide (i < 2) && decide (b2n (BankView.actIn v) = i)) h
  · exact congrArg (fun v => decide (i < 2) && decide (b2n (BankView.actOut v) = i)) h

/-- The loop with a bank marked as differing from its stored check value. -/
def markBad (l : Loop) (o : Bool) (i : Nat) : Loop := { l.setOk o i false with r.status.bankErr := true }

theorem isActive_markBad (l : Loop) (o o' : Bool) (i i' : Nat) : (l.markBad o i).isActive o' i' = l.isActive o' i' := by
  cases o <;> rfl

/-- A bank is watched: it is OK, and F or in use. -/
def Watched (l : Loop) (o : Bool) (i : Nat) : Prop := l.bankOk o i = true ∧ (i = 2 ∨ l.isActive o i = true)

/-- A watched bank differs from its stored check value. -/
def BadBank (l : Loop) (o : Bool) (i : Nat) : Prop := l.Watched o i ∧ bankGood (l.bank o i) = false

/-- A bank was found to differ. -/
def FoundBad (l : Loop) (o : Bool) (i : Nat) : Prop := l.bankOk o i = false ∧ l.r.status.bankErr = true

theorem Watched.lt {o : Bool} {i : Nat} (h : l.Watched o i) : i < 3 := by
  by_contra hi
  obtain ⟨hok, -⟩ := h
  cases o <;> simp [bankOk, mbit, BitVec.getLsbD_of_ge _ i (Nat.le_of_not_lt hi)] at hok

end Loop

namespace Chan

variable (e : Env)

/-- R174: a pending swap of a loop of which a bank failed its check is refused. -/
def refuseSwap (k : Chan) (o : Bool) : Chan :=
  match k.loop.swap with
  | some sw =>
    if (if o then sw.outer else sw.inner) then
      ({ k with loop.swap := none, loop.r.status.swapPend := false }).compl sw.ref 0x43
    else k
  | none => k

/-- R163: the state the loop takes where bank i failed its check. -/
def bankFailMoves (k : Chan) (i : Nat) : Chan :=
  if i = 2 then
    if k.loop.r.status.fb then { k.loopIdle e with loop.r.status.fbLatch := true } else k
  else
    match k.loop.r.status.state with
    | .cc | .stopr => k.suspectAct e 7
    | .cv => k.toOffdly e
    | .ondly => { k.loopIdle e with loop.r.status.startRef := true }
    | _ => k

theorem bankFail_eq (k : Chan) (o : Bool) (i : Nat) :
    k.bankFail e o i = (refuseSwap { k with loop := k.loop.markBad o i } o).bankFailMoves e i := rfl

theorem refuseSwap_banks (k : Chan) (o : Bool) : (k.refuseSwap o).loop.banks = k.loop.banks := by
  unfold refuseSwap
  split
  · generalize (if o then _ else _ : Bool) = b
    cases b <;> rfl
  · rfl

theorem bankFailMoves_banks (k : Chan) (i : Nat) : (k.bankFailMoves e i).loop.banks = k.loop.banks := by
  have hkeeps {m : Chan} (h : k.Keeps m) : m.loop.banks = k.loop.banks := by
    obtain ⟨l, rfl, hl⟩ := h
    exact hl.banks
  unfold bankFailMoves
  split
  · split <;> rfl
  · split
    · exact hkeeps (suspectAct_keeps e k 7)
    · exact hkeeps (suspectAct_keeps e k 7)
    · exact hkeeps (toOffdly_keeps e k)
    · rfl
    · rfl

/-- A bank that failed its check is marked, and nothing else of the banks changes. -/
theorem bankFail_banks (k : Chan) (o : Bool) (i : Nat) : (k.bankFail e o i).loop.banks = (k.loop.markBad o i).banks :=
  (bankFailMoves_banks e _ i).trans (refuseSwap_banks _ o)

/-- The check of one bank. -/
def checkBank (k : Chan) (x : Bool × Nat) : Chan :=
  if k.loop.bankOk x.1 x.2 ∧ (x.2 = 2 ∨ k.loop.isActive x.1 x.2) ∧ !bankGood (k.loop.bank x.1 x.2) then
    k.bankFail e x.1 x.2
  else k

theorem bankCheck_eq (k : Chan) :
    k.bankCheck e = [(false, 0), (false, 1), (false, 2), (true, 0), (true, 1), (true, 2)].foldl (checkBank e) k := rfl

theorem checkBank_good (k : Chan) (x : Bool × Nat) (h : ¬ k.loop.BadBank x.1 x.2) : k.checkBank e x = k := by
  refine if_neg fun hc => h ?_
  obtain ⟨hok, hin, hbad⟩ := hc
  exact ⟨⟨hok, hin⟩, by simpa using hbad⟩

theorem checkBank_bad (k : Chan) (x : Bool × Nat) (h : k.loop.BadBank x.1 x.2) :
    (k.checkBank e x).loop.banks = (k.loop.markBad x.1 x.2).banks := by
  obtain ⟨⟨hok, hin⟩, hbad⟩ := h
  have hk : k.checkBank e x = k.bankFail e x.1 x.2 := if_pos ⟨hok, hin, by simp [hbad]⟩
  rw [hk]
  exact bankFail_banks e k x.1 x.2

/-- A bank that differs is found where it is checked. -/
theorem checkBank_finds (k : Chan) (x : Bool × Nat) (h : k.loop.BadBank x.1 x.2) : (k.checkBank e x).loop.FoundBad x.1 x.2 := by
  have hb := checkBank_bad e k x h
  refine ⟨(Loop.bankOk_of_banks hb _ _).trans (Loop.bankOk_setOk_same _ _ _ _ h.1.lt), ?_⟩
  exact congrArg BankView.err hb

/-- What was found stays found. -/
theorem checkBank_keepsFound (k : Chan) (x y : Bool × Nat) (h : k.loop.FoundBad x.1 x.2) :
    (k.checkBank e y).loop.FoundBad x.1 x.2 := by
  by_cases hy : k.loop.BadBank y.1 y.2
  · have hb := checkBank_bad e k y hy
    refine ⟨(Loop.bankOk_of_banks hb _ _).trans ((Loop.bankOk_setOk k.loop y.1 x.1 y.2 x.2 false).trans ?_),
      congrArg BankView.err hb⟩
    split
    · rfl
    · exact h.1
  · rwa [checkBank_good e k y hy]

/-- A bank that differs is left to its own turn by the check of another. -/
theorem checkBank_keepsBad (k : Chan) (x y : Bool × Nat) (hxy : x ≠ y) (h : k.loop.BadBank x.1 x.2) :
    (k.checkBank e y).loop.BadBank x.1 x.2 := by
  by_cases hy : k.loop.BadBank y.1 y.2
  · have hb := checkBank_bad e k y hy
    obtain ⟨⟨hok, hin⟩, hbad⟩ := h
    have hok' : (k.loop.markBad y.1 y.2).bankOk x.1 x.2 = true :=
      (Loop.bankOk_setOk k.loop y.1 x.1 y.2 x.2 false).trans ((if_neg fun hc => hxy (Prod.ext hc.1.1 hc.1.2)).trans hok)
    refine ⟨⟨(Loop.bankOk_of_banks hb _ _).trans hok', ?_⟩, ?_⟩
    · rwa [Loop.isActive_of_banks hb, Loop.isActive_markBad]
    · rw [Loop.bank_of_banks hb]
      exact (congrArg bankGood (Loop.bank_setOk k.loop y.1 x.1 y.2 x.2 false)).trans hbad
  · rwa [checkBank_good e k y hy]

/-- A list of checks in which a bank that differs stands finds it. -/
theorem checkBanks_find (l : List (Bool × Nat)) (k : Chan) (x : Bool × Nat) (hx : x ∈ l) (h : k.loop.BadBank x.1 x.2) :
    (l.foldl (checkBank e) k).loop.FoundBad x.1 x.2 := by
  have hfound (l : List (Bool × Nat)) (k : Chan) (hk : k.loop.FoundBad x.1 x.2) :
      (l.foldl (checkBank e) k).loop.FoundBad x.1 x.2 := by
    induction l generalizing k with
    | nil => exact hk
    | cons y l ih => exact ih _ (checkBank_keepsFound e k x y hk)
  induction l generalizing k with
  | nil => exact absurd hx List.not_mem_nil
  | cons y l ih =>
    by_cases hxy : x = y
    · exact hfound l _ (hxy ▸ checkBank_finds e k x h)
    · exact ih _ ((List.mem_cons.1 hx).resolve_left hxy) (checkBank_keepsBad e k x y hxy h)

theorem bankCheck_finds (k : Chan) (o : Bool) (i : Nat) (h : k.loop.BadBank o i) : (k.bankCheck e).loop.FoundBad o i := by
  refine checkBanks_find e _ k (o, i) ?_ h
  have hi : i = 0 ∨ i = 1 ∨ i = 2 := by
    have := h.1.lt
    omega
  rcases hi with rfl | rfl | rfl <;> cases o <;> simp

theorem bankCheck_good (k : Chan) (h : ∀ o i, ¬ k.loop.BadBank o i) : k.bankCheck e = k :=
  (bankCheck_eq e k).trans (List.foldl_fixed' (fun x => checkBank_good e k x (h x.1 x.2)) _)

/-! ### FB_TMAX (R168) -/

/-- Fallback has lasted FB_TMAX and is not latched yet. -/
theorem fbTimeout_due (k : Chan) (hfb : k.loop.r.status.fb = true) (ht : k.loop.tFb + sNs k.loop.r.fbCfg.fbTmax.toNat ≤ e.now)
    (hl : k.loop.r.status.fbLatch = false) : k.fbTimeout e = k.fbStop e := by
  simp [fbTimeout, hfb, ht, hl]

theorem fbTimeout_none (k : Chan) (hfb : k.loop.r.status.fb = false) : k.fbTimeout e = k := by
  simp [fbTimeout, hfb]

/-- Fallback is latched, and CC is brought to a stop. -/
theorem fbStop_at (k : Chan) : ∃ l, k.fbStop e = { k with loop := l } ∧ l.r.status.fbLatch = true
    ∧ l.r.status.state = (if k.loop.r.status.state = .cc then .stopr else k.loop.r.status.state)
    ∧ l.r.status.fb = k.loop.r.status.fb := by
  unfold fbStop
  dsimp only
  split
  · exact ⟨_, rfl, rfl, rfl, rfl⟩
  · exact ⟨_, rfl, rfl, rfl, rfl⟩

end Chan

/-! ### Power-stage temperature (R169 to R171) -/

/-- What the conversion of a resistance leaves as the temperature of its sensor: the formula's value, none where the sensor is
faulty, and any value where the formula gives none (log entry 1). -/
def NtcReads (b rn r : Nat) (t : Option Int) : Prop :=
  (∀ x, ntcTemp b rn r = some (some x) → t = some x) ∧ (ntcTemp b rn r = none → t = none)

namespace Chan

variable (e : Env)

/-- The conversion of sensor i. -/
def ntcStep (b rn : Nat) (rs : List Nat) (k : Chan) (i : Nat) : Chan :=
  match ntcTemp b rn (rs.getD i 0) with
  | none => { k with loop.ntc := vset k.loop.ntc i none }
  | some (some t) => { k with loop.ntc := vset k.loop.ntc i (some t) }
  | some none => let f := k.free; { f.2 with loop.ntc := vset f.2.loop.ntc i (some ((f.1.setWidth 15).toNat : Int)) }

theorem ntcStep_at (b rn : Nat) (rs : List Nat) (k : Chan) (i : Nat) : ∃ t c,
    k.ntcStep b rn rs i = { k with loop.ntc := vset k.loop.ntc i t, fc := c } ∧ NtcReads b rn (rs.getD i 0) t := by
  unfold ntcStep NtcReads
  generalize rs.getD i 0 = r
  split
  · next h => exact ⟨none, k.fc, rfl, by simp [h], fun _ => rfl⟩
  · next t h => exact ⟨some t, k.fc, rfl, by simp [h], by simp [h]⟩
  · next h => exact ⟨_, _, rfl, by simp [h], by simp [h]⟩

/-- The first c sensors converted one after the other. -/
theorem ntcSteps_at (b rn : Nat) (rs : List Nat) (k : Chan) (c : Nat) (hc : c ≤ 8) : ∃ v m,
    (List.range c).foldl (ntcStep b rn rs) k = { k with loop.ntc := v, fc := m }
      ∧ ∀ i, i < c → NtcReads b rn (rs.getD i 0) (vget v i none) := by
  induction c with
  | zero => exact ⟨_, _, rfl, fun i hi => absurd hi (Nat.not_lt_zero i)⟩
  | succ c ih =>
    obtain ⟨v, m, hk, hv⟩ := ih (by omega)
    obtain ⟨t, m', hstep, ht⟩ := ntcStep_at b rn rs { k with loop.ntc := v, fc := m } c
    refine ⟨vset v c t, m', ?_, fun i hi => ?_⟩
    · rw [List.range_succ, List.foldl_append, hk]
      exact hstep
    · by_cases hic : i = c
      · subst hic
        simpa [vget, vset, show i < 8 by omega] using ht
      · simpa [vget, vset, Ne.symm hic] using hv i (by omega)

end Chan

/-- Loop m has the readings, the faults and the thresholds of l, and the shutdown of l has stayed latched. -/
structure Loop.HeatKept (l m : Loop) : Prop where
  ntc : m.ntc = l.ntc
  tMax : m.tMax = l.tMax
  flt : m.r.otStatus.ntcFlt = l.r.otStatus.ntcFlt
  cfg : m.r.otCfg1 = l.r.otCfg1
  otSd : l.r.status.otSd = true → m.r.status.otSd = true

/-- Channel k is c with its loop changed in what the judging of its temperature changes, and its modulator. -/
def Chan.Judged (c k : Chan) : Prop := ∃ l p, k = { c with loop := l, pwm := p } ∧ c.loop.HeatKept l

namespace Chan

variable {c k m : Chan} (e : Env)

theorem Judged.trans (h : c.Judged k) (g : k.Judged m) : c.Judged m := by
  obtain ⟨l, p, rfl, hl⟩ := h
  obtain ⟨l', p', rfl, hl'⟩ := g
  exact ⟨l', p', rfl, hl'.ntc.trans hl.ntc, hl'.tMax.trans hl.tMax, hl'.flt.trans hl.flt, hl'.cfg.trans hl.cfg,
    fun h => hl'.otSd (hl.otSd h)⟩

theorem Judged.refl (c : Chan) : c.Judged c := ⟨_, _, rfl, rfl, rfl, rfl, rfl, id⟩

theorem loopStop_judged (k : Chan) (t : Bool) : k.Judged (k.loopStop e t) := by
  unfold loopStop
  split
  · dsimp only
    split
    · exact ⟨_, _, rfl, rfl, rfl, rfl, rfl, id⟩
    · exact ⟨_, _, rfl, rfl, rfl, rfl, rfl, id⟩
  · exact ⟨_, _, rfl, rfl, rfl, rfl, rfl, id⟩
  · exact ⟨_, _, rfl, rfl, rfl, rfl, rfl, id⟩
  · exact .refl k

theorem fUpdate_judged (k : Chan) : k.Judged (k.fUpdate e) := by
  unfold fUpdate
  dsimp only
  split_ifs <;> exact ⟨_, _, rfl, rfl, rfl, rfl, rfl, id⟩

/-- R171: warning and shutdown judged on a T_MAX. -/
def otLatch (k : Chan) (t : Int) : Chan :=
  let w := k.loop.r.otCfg1.tWarn.toInt
  let k := { k with loop.r.status.otWarn := decide (w ≤ t) || (k.loop.r.status.otWarn && decide (w - 20 ≤ t)) }
  if k.loop.r.otCfg1.tSd.toInt ≤ t then
    { (if k.loop.r.status.otSd then k else k.loopStop e true) with loop.r.status.otSd := true }
  else k

/-- The shutdown is latched where T_MAX has reached T_SD. -/
theorem otLatch_at (k : Chan) (t : Int) : k.Judged (k.otLatch e t)
    ∧ (k.loop.r.otCfg1.tSd.toInt ≤ t → (k.otLatch e t).loop.r.status.otSd = true) := by
  unfold otLatch
  dsimp only
  generalize (_ || _ : Bool) = w
  have hwarn : k.Judged { k with loop.r.status.otWarn := w } := ⟨_, _, rfl, rfl, rfl, rfl, rfl, id⟩
  split
  · refine ⟨?_, fun _ => rfl⟩
    have hlatch {m : Chan} (h : k.Judged m) : k.Judged { m with loop.r.status.otSd := true } :=
      h.trans ⟨_, _, rfl, rfl, rfl, rfl, rfl, fun _ => rfl⟩
    split
    · exact hlatch hwarn
    · exact hlatch (hwarn.trans (loopStop_judged e _ true))
  · next ht => exact ⟨hwarn, fun h => absurd h ht⟩

/-- T_MAX taken with its register (R170). -/
def takeMax (k : Chan) (t : Option Int) : Chan :=
  let k := { k with loop.tMax := t }
  { k with loop.r.otStatus.tMax := tReg k.loop.tMax }

/-- Warning and shutdown judged where T_MAX has a value. -/
def otJudgeMax (k : Chan) : Chan :=
  match k.loop.tMax with
  | none => k
  | some t => k.otLatch e t

theorem otJudge_eq (k : Chan) : k.otJudge e = ((k.takeMax (k.tMaxOf e)).otJudgeMax e).fUpdate e := rfl

theorem otJudgeMax_at (k : Chan) : k.Judged (k.otJudgeMax e)
    ∧ ∀ t, k.loop.tMax = some t → k.loop.r.otCfg1.tSd.toInt ≤ t → (k.otJudgeMax e).loop.r.status.otSd = true := by
  unfold otJudgeMax
  split
  · next h => exact ⟨.refl k, fun t ht => by simp [h] at ht⟩
  · next t h =>
    obtain ⟨hk, hsd⟩ := otLatch_at e k t
    refine ⟨hk, fun t' ht' => ?_⟩
    obtain rfl : t = t' := by simpa [h] using ht'
    exact hsd

/-- Warning, derating and shutdown judged on the present T_MAX: the shutdown is latched where it was and where T_MAX has
reached T_SD (R171). -/
theorem otJudge_at (k : Chan) : (k.takeMax (k.tMaxOf e)).Judged (k.otJudge e)
    ∧ ∀ t, k.tMaxOf e = some t → k.loop.r.otCfg1.tSd.toInt ≤ t → (k.otJudge e).loop.r.status.otSd = true := by
  obtain ⟨hk, hsd⟩ := otJudgeMax_at e (k.takeMax (k.tMaxOf e))
  have hf := fUpdate_judged e ((k.takeMax (k.tMaxOf e)).otJudgeMax e)
  rw [otJudge_eq]
  refine ⟨hk.trans hf, fun t ht hle => ?_⟩
  obtain ⟨l, p, hl, hkept⟩ := hf
  rw [hl]
  exact hkept.otSd (hsd t ht hle)

/-- k is c after its eight sensors were converted from resistances (R169, R171). -/
def NtcConverted (c : Chan) (rs : List Nat) (k : Chan) : Prop :=
  (∀ i, i < 8 → NtcReads c.loop.r.ntcCfg.ntcB.toNat c.loop.r.ntcCfg.ntcRnom.toNat (rs.getD i 0) (vget k.loop.ntc i none)
    ∧ mbit k.loop.r.otStatus.ntcFlt i = (vget k.loop.ntc i none).isNone)
  ∧ (∀ t, k.loop.tMax = some t → c.loop.r.otCfg1.tSd.toInt ≤ t → k.loop.r.status.otSd = true)
  ∧ (c.loop.r.status.otSd = true → k.loop.r.status.otSd = true)
  ∧ k = { c with loop := k.loop, pwm := k.pwm, fc := k.fc }

/-- The faults of the sensors, one bit for each that has no temperature, and their registers (R194). -/
def ntcShown (k : Chan) : Chan :=
  { k with
    loop.r.otStatus.ntcFlt := (List.range 8).foldl (fun (m : BitVec 8) i => msetb m i (vget k.loop.ntc i none).isNone) 0
    loop.r.ntc := Vector.ofFn (fun i : Fin 4 =>
      { tHi := tReg (vget k.loop.ntc (2 * i.val + 1) none), tLo := tReg (vget k.loop.ntc (2 * i.val) none) }) }

theorem ntcConv_eq (k : Chan) (rs : List Nat) : k.ntcConv e rs =
    ((List.range 8).foldl (ntcStep k.loop.r.ntcCfg.ntcB.toNat k.loop.r.ntcCfg.ntcRnom.toNat rs) k).ntcShown.otJudge e := rfl

theorem ntcConv_converted (c : Chan) (rs : List Nat) : c.NtcConverted rs (c.ntcConv e rs) := by
  obtain ⟨v, m, hsteps, hv⟩ := ntcSteps_at c.loop.r.ntcCfg.ntcB.toNat c.loop.r.ntcCfg.ntcRnom.toNat rs c 8 le_rfl
  obtain ⟨hjudged, hsd⟩ := otJudge_at e (ntcShown { c with loop.ntc := v, fc := m })
  rw [ntcConv_eq, hsteps]
  obtain ⟨l, p, hl, hk⟩ := hjudged
  rw [hl] at hsd ⊢
  refine ⟨fun i hi => ?_, fun t ht => hsd t (hk.tMax.symm.trans ht), hk.otSd, rfl⟩
  have hntc : vget l.ntc i none = vget v i none := congrArg (fun v => vget v i none) hk.ntc
  have hflt : mbit l.r.otStatus.ntcFlt i = (vget v i none).isNone :=
    (congrArg (fun b => mbit b i) hk.flt).trans ((mbit_setAll _ _ i hi 8).trans (if_pos hi))
  dsimp only
  rw [hntc, hflt]
  exact ⟨hv i hi, rfl⟩

/-! ### The auxiliary loops (R172, R173) -/

/-- k is c after the enabled auxiliary loops of a 1 ms mark were computed: the pump loop, and the fan loop where the inlet
temperature is known, else the fan at full duty. -/
def AuxRan (c k : Chan) : Prop :=
  k.loop.r.auxStatus.runs = c.loop.r.auxStatus.runs + (if c.cool.tIn = none then 1 else 2)
  ∧ (c.cool.tIn = none → k.cool.r.drive.fan = 100)
  ∧ k = { c with loop := { c.loop with aux := k.loop.aux, r.auxStatus.runs := k.loop.r.auxStatus.runs },
                 cool.r.drive := k.cool.r.drive }

theorem auxMark_working (c : Chan) (h : c.cool.working = true) : c.AuxRan c.auxMark := by
  unfold auxMark
  rw [h, Bool.not_true, if_neg Bool.false_ne_true]
  dsimp only
  split
  · next ht =>
    refine ⟨?_, fun _ => rfl, rfl⟩
    rw [if_pos ht]
  · next t ht =>
    have hne : c.cool.tIn ≠ none := by simp [ht]
    refine ⟨?_, fun hn => absurd hn hne, rfl⟩
    rw [if_neg hne]
    exact BitVec.add_assoc _ 1 1

theorem auxMark_resting (k : Chan) (h : k.cool.working = false) : k.auxMark = k := by
  simp [auxMark, h]

end Chan

/-- What holds of the channel that a command leaves may be weakened. -/
theorem Becomes.mono {o : Host.Outcome State Fault Refusal} {s : State} {n : Nat} {P Q : Chan → Prop} (h : Becomes o s n P)
    (hPQ : ∀ k, P k → Q k) : Becomes o s n Q := by
  obtain ⟨k, hk, ho⟩ := h
  exact ⟨k, hPQ k hk, ho⟩

/-- Settles O8: the check of the banks by `bankCheck_finds` and `bankCheck_good`, FB_TMAX by `fbStop_at`, the sensors by
`ntcConv_converted`, the auxiliary loops by `auxMark_working`. -/
theorem loopSupervision : Obligations.LoopSupervision := by
  unfold Obligations.LoopSupervision
  intro s n h c l watched
  have h2 := State.soleUp_mono h 2 (by decide)
  refine ⟨fun o i hi hw hbad => ?_, fun hgood => ?_, fun hfb ht hlatch => ?_, fun hfb => ?_, fun rs => ?_,
    fun hw => ?_, fun hw => ?_⟩
  · exact s.becomes_onSole n 2 _ _ h2 (c.bankCheck_finds s.env o i ⟨hw, hbad⟩)
  · refine s.becomes_onSole n 2 _ _ h2 (c.bankCheck_good s.env fun o i hbad => ?_)
    obtain ⟨hw, hdiffers⟩ := hbad
    exact absurd ((hgood o i hw.lt hw).symm.trans hdiffers) (by decide)
  · obtain ⟨m, hm, hset, hstate, hkept⟩ := c.fbStop_at s.env
    refine s.becomes_onSole n 1 _ _ h ?_
    rw [c.fbTimeout_due s.env hfb ht hlatch, hm]
    exact ⟨hset, hstate, hkept.trans hfb, rfl⟩
  · exact s.becomes_onSole n 1 _ _ h (c.fbTimeout_none s.env hfb)
  · refine (s.becomes_onSole n 2 _ _ h2 (c.ntcConv_converted s.env rs)).mono fun k hk => ?_
    obtain ⟨hreads, hsd, hstays, hframe⟩ := hk
    refine ⟨fun i hi => ?_, hsd, hstays, hframe⟩
    obtain ⟨⟨hvalue, hfaulty⟩, hflt⟩ := hreads i hi
    refine ⟨fun t ht => ⟨hvalue t ht, ?_⟩, fun ht => ⟨hfaulty ht, ?_⟩⟩
    · rw [hflt, hvalue t ht]
      rfl
    · rw [hflt, hfaulty ht]
      rfl
  · exact s.becomes_onSole n 2 _ c.AuxRan h2 (c.auxMark_working hw)
  · exact s.becomes_onSole n 2 _ _ h2 (c.auxMark_resting hw)

end Sys2Proof.Machine

namespace Sys2Proof.Machine

/-! ### Admission (R213) -/

/-- Putting an element in its place adds that element. -/
theorem insertBy_perm {α : Type} (le : α → α → Bool) (x : α) (l : List α) : (insertBy le x l).Perm (x :: l) := by
  induction l with
  | nil => exact .rfl
  | cons y ys ih =>
    unfold insertBy
    split
    · exact .rfl
    · exact (ih.cons y).trans (.swap x y ys)

/-- Sorting keeps the elements. -/
theorem sortBy_perm {α : Type} (le : α → α → Bool) (l : List α) : (sortBy le l).Perm l := by
  induction l with
  | nil => exact .rfl
  | cons x xs ih => exact (insertBy_perm le x (sortBy le xs)).trans (ih.cons x)

/-- A channel counts under a cap: the site, or its feeder. -/
def ACh.under (c : ACh) (k : Nat) : Bool := decide (k = 8) || decide (c.fdr = k)

theorem ACh.under_iff (c : ACh) (k : Nat) : c.under k = true ↔ k = 8 ∨ c.fdr = k := by
  simp [ACh.under]

/-- What the channels of a list have committed under a cap. -/
def commUnder (k : Nat) (xs : List ACh) : Int := ((xs.filter (·.under k)).map fun c => (c.comm : Int)).sum

theorem commUnder_cons (k : Nat) (c : ACh) (xs : List ACh) :
    commUnder k (c :: xs) = (if c.under k then (c.comm : Int) else 0) + commUnder k xs := by
  by_cases h : c.under k <;> simp [commUnder, h]

theorem commUnder_append (k : Nat) (xs ys : List ACh) : commUnder k (xs ++ ys) = commUnder k xs + commUnder k ys := by
  simp [commUnder]

theorem commUnder_perm {xs ys : List ACh} (h : xs.Perm ys) (k : Nat) : commUnder k xs = commUnder k ys :=
  ((h.filter _).map _).sum_eq

/-- A change that raises no commitment and leaves every channel on its feeder raises no sum. -/
theorem commUnder_map_le (k : Nat) (f : ACh → ACh) (hfdr : ∀ c, (f c).fdr = c.fdr) (hcomm : ∀ c, (f c).comm ≤ c.comm)
    (xs : List ACh) : commUnder k (xs.map f) ≤ commUnder k xs := by
  induction xs with
  | nil => exact le_rfl
  | cons c cs ih =>
    have hu : (f c).under k = c.under k := by simp [ACh.under, hfdr]
    have hc := hcomm c
    rw [List.map_cons, commUnder_cons, commUnder_cons, hu]
    split <;> omega

/-- R213: a fall or a hold, at once. -/
def ACh.fallen (c : ACh) : ACh := if c.t ≤ c.iss then { c with iss := c.t } else c

theorem ACh.fallen_fdr (c : ACh) : c.fallen.fdr = c.fdr := by
  unfold ACh.fallen
  split <;> rfl

theorem ACh.fallen_comm_le (c : ACh) : c.fallen.comm ≤ c.comm := by
  unfold ACh.fallen ACh.comm
  split
  · exact max_le_max le_rfl ‹_›
  · exact le_rfl

/-! #### One rise within the slacks -/

section Rise

variable (slack : Vector Int 9) (c : ACh)

/-- R213: what a rise may use: the lesser slack of its caps. -/
def ACh.allowance : Int := max 0 (min (vget slack 8 0) (vget slack c.fdr 0))

/-- R213: a channel after its rise. -/
def ACh.risen : ACh := { c with iss := max c.iss (min c.t (c.comm + (c.allowance slack).toNat)) }

/-- What a rise adds to the commitment of its channel. -/
def ACh.growth : Int := ((c.risen slack).comm : Int) - c.comm

/-- The slacks after a rise: those of the site and of its feeder fall by what it added. -/
def ACh.slackLeft : Vector Int 9 :=
  (slack.setIfInBounds 8 (vget slack 8 0 - c.growth slack)).setIfInBounds c.fdr (vget slack c.fdr 0 - c.growth slack)

theorem admitGo_cons (done cs : List ACh) :
    admitGo slack done (c :: cs) = admitGo (c.slackLeft slack) (c.risen slack :: done) cs := rfl

theorem ACh.growth_nonneg : 0 ≤ c.growth slack := by
  simp only [ACh.growth, ACh.risen, ACh.comm]
  omega

theorem ACh.growth_le_allowance : c.growth slack ≤ c.allowance slack := by
  have h : 0 ≤ c.allowance slack := le_max_left _ _
  simp only [ACh.growth, ACh.risen, ACh.comm]
  omega

/-- A rise stays within the slack of each of its caps, and uses nothing of a cap that has none. -/
theorem ACh.growth_le_slack (k : Nat) (hu : c.under k = true) : c.growth slack ≤ max 0 (vget slack k 0) := by
  refine (c.growth_le_allowance slack).trans (max_le_max le_rfl ?_)
  obtain rfl | rfl := (c.under_iff k).1 hu
  · exact min_le_left _ _
  · exact min_le_right _ _

theorem ACh.vget_slackLeft (k : Nat) (hk : k < 9) :
    vget (c.slackLeft slack) k 0 = if c.under k then vget slack k 0 - c.growth slack else vget slack k 0 := by
  by_cases hf : c.fdr = k
  · simp [ACh.slackLeft, ACh.under, vget, hf, hk]
  · by_cases h8 : k = 8
    · subst h8
      simp [ACh.slackLeft, ACh.under, vget, hf]
    · simp [ACh.slackLeft, ACh.under, vget, hf, h8, Ne.symm h8]

end Rise

/-- The rises together add to the commitments under a cap no more than its slack, and nothing where it has none. -/
theorem commUnder_admitGo_le (k : Nat) (hk : k < 9) (slack : Vector Int 9) (done cs : List ACh) :
    commUnder k (admitGo slack done cs) ≤ commUnder k done + commUnder k cs + max 0 (vget slack k 0) := by
  induction cs generalizing slack done with
  | nil =>
    have h0 : commUnder k [] = 0 := rfl
    have := le_max_left 0 (vget slack k 0)
    rw [h0, admitGo]
    omega
  | cons c cs ih =>
    have hih := ih (c.slackLeft slack) (c.risen slack :: done)
    have hu : (c.risen slack).under k = c.under k := rfl
    rw [commUnder_cons, hu, c.vget_slackLeft slack k hk] at hih
    rw [admitGo_cons, commUnder_cons]
    by_cases h : c.under k = true
    · have hg : c.growth slack = ((c.risen slack).comm : Int) - c.comm := rfl
      have hle := c.growth_le_slack slack k h
      have hnn := c.growth_nonneg slack
      rw [if_pos h] at hih ⊢
      rw [if_pos h] at hih
      omega
    · rw [if_neg h] at hih ⊢
      rw [if_neg h] at hih
      omega

/-- A channel whose rise is admitted in its turn (R213, R555, R559). -/
def ACh.rises (c : ACh) : Bool := decide (c.iss < c.t) && c.may

/-- The slack of a cap once the falls are made (R213). -/
def slackOf (eff resv : Vector Int 9) (fell : List ACh) : Vector Int 9 :=
  vMapI eff fun k x => x - vget resv k 0 - commUnder k fell

/-- The channels after the rises: those that do not rise as they are, the others one by one within the slacks (R213). -/
def allRisen (eff resv : Vector Int 9) (fell : List ACh) : List ACh :=
  fell.filter (fun c => !c.rises) ++ admitGo (slackOf eff resv fell) [] (sortBy ACh.before (fell.filter ACh.rises))

/-- Admission makes the falls, then the rises, and puts the channels in order. -/
theorem admission_perm (eff resv : Vector Int 9) (cs : List ACh) :
    (admission eff resv cs).Perm (allRisen eff resv (cs.map ACh.fallen)) :=
  sortBy_perm _ _

/-- Where the commitments under a cap fit, the rises keep them within what it leaves; where they do not, nothing is added. -/
theorem commUnder_allRisen_le (eff resv : Vector Int 9) (fell : List ACh) (k : Nat) (hk : k < 9) :
    commUnder k (allRisen eff resv fell) ≤ max (commUnder k fell) (vget eff k 0 - vget resv k 0) := by
  have hparts : commUnder k (fell.filter ACh.rises) + commUnder k (fell.filter fun c => !c.rises) = commUnder k fell := by
    rw [← commUnder_append]
    exact commUnder_perm (List.filter_append_perm _ _) k
  have hrise := commUnder_admitGo_le k hk (slackOf eff resv fell) [] (sortBy ACh.before (fell.filter ACh.rises))
  have hslack : vget (slackOf eff resv fell) k 0 = vget eff k 0 - vget resv k 0 - commUnder k fell :=
    vget_vMapI eff _ k hk 0 0
  have h0 : commUnder k [] = 0 := rfl
  rw [commUnder_perm (sortBy_perm _ _), hslack] at hrise
  rw [allRisen, commUnder_append]
  omega

/-- Settles O15: the falls raise no sum by `commUnder_map_le`, and the rises stay within the slacks that are then left by
`commUnder_allRisen_le`. -/
theorem admissionKeepsEveryCap : Obligations.AdmissionKeepsEveryCap := by
  unfold Obligations.AdmissionKeepsEveryCap
  intro eff resv cs k hk
  change commUnder k (admission eff resv cs) ≤ max (commUnder k cs) (vget eff k 0 - vget resv k 0)
  have hfall : commUnder k (cs.map ACh.fallen) ≤ commUnder k cs := commUnder_map_le k _ ACh.fallen_fdr ACh.fallen_comm_le cs
  calc commUnder k (admission eff resv cs)
      = commUnder k (allRisen eff resv (cs.map ACh.fallen)) := commUnder_perm (admission_perm eff resv cs) k
    _ ≤ max (commUnder k (cs.map ACh.fallen)) (vget eff k 0 - vget resv k 0) := commUnder_allRisen_le eff resv _ k hk
    _ ≤ max (commUnder k cs) (vget eff k 0 - vget resv k 0) := max_le_max hfall le_rfl

end Sys2Proof.Machine

namespace Sys2Proof.Machine

/-! ### The words of a configuration -/

theorem Desc.getD_toList (d : Desc) (i : Nat) : d.w.toList.getD i 0 = d.word i := by
  simp [Desc.word]

@[simp] theorem Desc.payOf_toList (d : Desc) (i : Nat) : payOf d.w.toList i = d.pay i := d.getD_toList _

@[simp] theorem Desc.p24Of_toList (d : Desc) (i : Nat) : p24Of d.w.toList i = (d.pay i).extractLsb' 0 24 :=
  congrArg _ (d.payOf_toList i)

/-! ### A planner's descriptor at its die (R233) -/

@[simp] theorem State.setKey_eng (s : State) (die : Nat) (x : Key) : (s.setKey die x).hub.eng = s.hub.eng := by
  unfold State.setKey
  split
  · rfl
  · split <;> rfl

@[simp] theorem State.setKey_lctx (s : State) (die : Nat) (x : Key) : (s.setKey die x).lctx = s.lctx := by
  unfold State.setKey
  split
  · rfl
  · split <;> rfl

/-- The counter of a critical descriptor is not the engine's. -/
@[simp] theorem State.taken_eng (s : State) (die : Nat) (d : Desc) : (s.taken die d).hub.eng = s.hub.eng := by
  unfold State.taken
  split
  · exact s.setKey_eng die _
  · rfl

@[simp] theorem State.taken_lctx (s : State) (die : Nat) (d : Desc) : (s.taken die d).lctx = s.lctx := by
  unfold State.taken
  split
  · exact s.setKey_lctx die _
  · rfl

/-- A planner's opcode at the kind of die that takes it (R233): channels 0x0304 to 0x0306, the hub the others. -/
def PlannerAt (die op : Nat) : Prop :=
  (die = 4 ∧ (op = 0x0301 ∨ op = 0x0302 ∨ op = 0x0303 ∨ op = 0x0307)) ∨ (die < 4 ∧ (op = 0x0304 ∨ op = 0x0305 ∨ op = 0x0306))

/-- No planner's opcode is one of the pair's. -/
theorem PlannerAt.not_pair {die op : Nat} (h : PlannerAt die op) : op ≠ 0x0804 ∧ op ≠ 0x0805 := by
  unfold PlannerAt at h
  omega

/-- A planner's descriptor goes on to the active engine (R233). -/
theorem State.descOp_planner (s : State) (die : Nat) (d : Desc) (ref : DescRef) (h : PlannerAt die d.opcode) :
    s.descOp die d ref = s.toEngine d ref := by
  obtain ⟨rfl, hop⟩ | ⟨hdie, hop⟩ := h
  · obtain hop | hop | hop | hop := hop <;> simp [State.descOp, hop]
  · have h4 : die ≠ 4 := by omega
    obtain hop | hop | hop := hop <;>
      simp [State.descOp, State.dieOp, State.chOp, payMask, Desc.ledgerBits, h4, hdie, hop]

/-- The active engine executes what it is given itself (R233). -/
theorem State.toEngine_active (s : State) (d : Desc) (ref : DescRef) (h : s.hub.eng.active = true) :
    s.toEngine d ref = s.engineDo d ref := by
  simp [State.toEngine, h]

/-- The engine after it took a planner's configuration: that of its planner follows it, and its node is to store it. -/
def Eng.planned (e : Eng) (now : Nat) (d : Desc) : Eng :=
  { e with last := e.last.cfgApply now true d.w.toList, store := e.store ++ [d.w.toList] }

section Config

variable (e : Eng) (x : LCtx) (d : Desc) (ref : DescRef) (hov : e.overlap x.now = false)
  (hop : d.opcode ≠ 0x0804 ∧ d.opcode ≠ 0x0805)

/-- An active engine takes a planner's configuration. -/
theorem Eng.cfgTake_active (hact : e.active = true) (hop : d.opcode ≠ 0x0804) :
    e.cfgTake x d.w.toList = e.planned x.now d := by
  have hw : ((d.w.toList.getD 0 0).extractLsb' 0 16).toNat = d.opcode := congrArg _ (congrArg _ (d.getD_toList 0))
  simp only [Eng.cfgTake, Eng.planned, hw, if_neg hop, hact]

include hov hop

/-- A configuration that the checks refuse changes nothing (R235). -/
theorem Eng.config_refused (code : Nat) (hchk : e.last.cfgCheck x.now d = some code) : e.config x d ref = (e, some code) := by
  simp [Eng.config, hov, hop, hchk]

/-- A configuration that is accepted where no other node is present is taken, and complete at once (R233). -/
theorem Eng.config_accepted (hact : e.active = true) (hchk : e.last.cfgCheck x.now d = none)
    (halone : ∀ n, n ∈ x.nodes → some n = x.nid) : e.config x d ref = (e.planned x.now d, some 0) := by
  simpa [Eng.config, hov, hop, hchk, e.cfgTake_active x d hact hop.1] using halone

end Config

section Planner

variable (s : State) (die op : Nat) (d : Desc) (h : s.takes die d = true) (hact : s.hub.eng.active = true)
  (hop : d.opcode = op) (hdie : PlannerAt die op)
include h hact hop hdie

/-- A planner's descriptor is the active engine's to execute. -/
theorem State.descRow_planner :
    s.descRow op d = State.answer ((s.taken die d).engineDo d (s.refOf die d)) (s.refOf die d) := by
  rw [s.descRow_takes die op d hop h, State.descOp_planner _ _ _ _ (hop ▸ hdie),
    State.toEngine_active _ _ _ (by rwa [s.taken_eng])]

variable (hov : s.hub.eng.overlap s.now = false)
include hov

/-- A planner's descriptor that the active engine refuses (R235). -/
theorem State.rejects_planner (code : Nat) (hchk : s.hub.eng.last.cfgCheck s.now d = some code) :
    Rejects (s.descRow op d).done s die d code := by
  have hcfg := s.hub.eng.config_refused s.lctx d (s.refOf die d) hov (hop ▸ hdie.not_pair) code hchk
  refine congrArg State.done ?_
  simp only [s.descRow_planner die op d h hact hop hdie, State.engineDo, State.taken_eng, State.taken_lctx, hcfg,
    State.answer]
  rw [← s.taken_eng die d]

/-- A planner's descriptor that the active engine accepts, alone on its ring (R233). -/
theorem State.executes_planner (halone : ∀ n, n ∈ s.lctx.nodes → some n = s.nid)
    (hchk : s.hub.eng.last.cfgCheck s.now d = none) (P : Eng → Prop) (hP : P (s.hub.eng.planned s.now d)) :
    EngExecutes (s.descRow op d).done s die d 0 P := by
  have hcfg := s.hub.eng.config_accepted s.lctx d (s.refOf die d) hov (hop ▸ hdie.not_pair) hact hchk halone
  refine ⟨_, hP, congrArg State.done ?_⟩
  simp only [s.descRow_planner die op d h hact hop hdie, State.engineDo, State.taken_eng, State.taken_lctx, hcfg,
    State.answer]
  rfl

end Planner

/-- The configuration of its channel that 0x0304 carries: none, a meter's, or a charging channel's. -/
def Desc.ctxCfg (d : Desc) : CtxCfg :=
  if d.bit 0 16 then {}
  else if d.bit 0 20 then { conf := true, meter := true, tHold := d.fld 2 0 16 }
  else
    { conf := true, fdr := (d.pay 0).extractLsb' 0 3, ig := (d.pay 0).extractLsb' 8 4, pcDef := (d.pay 0).extractLsb' 4 3
      floor := ((d.pay 1).extractLsb' 0 24).toNat, pmax := ((d.pay 3).extractLsb' 0 24).toNat, tHold := d.fld 2 0 16 }

/-- What the next snapshot takes of 0x0304. -/
def Desc.ctxIn (d : Desc) : EngIn := if d.bit 0 16 then .unconf d.target else .conf d.target

/-! ### What an entry and a context read as after a change (R222) -/

/-- An entry of a vector read after it was replaced. -/
theorem vget_vset_same {α : Type} {N : Nat} (v : Vector α N) (i : Nat) (x y : α) (hi : i < N) : vget (vset v i x) i y = x := by
  simp [vget, vset, hi]

/-- The other entries are as before. -/
theorem vget_vset_other {α : Type} {N : Nat} (v : Vector α N) (i j : Nat) (x y : α) (hj : j ≠ i) :
    vget (vset v i x) j y = vget v j y := by
  simp [vget, vset, hj.symm]

section Insert

variable {α : Type} (le : α → α → Bool) (p : α → Bool) (x : α) (l : List α)

/-- A search that passes over the element put in its place. -/
theorem find?_insertBy_other (h : p x = false) : (insertBy le x l).find? p = l.find? p := by
  induction l with
  | nil => simp [insertBy, h]
  | cons y ys ih =>
    unfold insertBy
    split
    · simp [h]
    · simp only [List.find?_cons, ih]

/-- A search that finds the element put in its place and no other. -/
theorem find?_insertBy_self (h : p x = true) (hl : ∀ y ∈ l, p y = false) : (insertBy le x l).find? p = some x := by
  induction l with
  | nil => simp [insertBy, h]
  | cons y ys ih =>
    obtain ⟨hy, hys⟩ := List.forall_mem_cons.1 hl
    unfold insertBy
    split
    · simp [h]
    · simp only [List.find?_cons, hy, ih hys]

end Insert

namespace Last

variable (l : Last) (now : Nat) (d : Desc)

/-- The context of a GCID carries it. -/
@[simp] theorem ctx_gcid (g : Nat) : (l.ctx g).gcid = g := by
  unfold ctx
  cases hf : l.ctxs.find? (fun c => decide (c.gcid = g)) with
  | none => rfl
  | some c => simpa using List.find?_some hf

/-- A context put in its place is that of its GCID. -/
theorem ctx_setCtx_same (c : Ctx) : (l.setCtx c).ctx c.gcid = c := by
  have hf := find?_insertBy_self (fun (a b : Ctx) => decide (a.gcid ≤ b.gcid)) (fun a => decide (a.gcid = c.gcid)) c
    (l.ctxs.filter fun x => decide (x.gcid ≠ c.gcid)) (decide_eq_true rfl) fun y hy => by simpa using (List.mem_filter.1 hy).2
  simp only [ctx, setCtx, hf, Option.getD_some]

@[simp] theorem setCtx_inbox (c : Ctx) : (l.setCtx c).inbox = l.inbox := rfl

/-- The contexts of the other GCIDs are as before. -/
theorem ctx_setCtx_other (c : Ctx) (g : Nat) (hg : g ≠ c.gcid) : (l.setCtx c).ctx g = l.ctx g := by
  have hf := find?_insertBy_other (fun (a b : Ctx) => decide (a.gcid ≤ b.gcid)) (fun a => decide (a.gcid = g)) c
    (l.ctxs.filter fun x => decide (x.gcid ≠ c.gcid)) (decide_eq_false hg.symm)
  have hp : (fun a : Ctx => decide (decide (a.gcid ≠ c.gcid) = true ∧ decide (a.gcid = g) = true))
      = fun a => decide (a.gcid = g) := by
    funext a
    by_cases ha : a.gcid = g <;> simp [ha, hg]
  simp only [ctx, setCtx, hf, List.find?_filter, hp]

/-! ### What each configuration stores at an active engine (R222, R234) -/

/-- The opcode and the GCID that a planner's configuration carries. -/
theorem cfgApply_words :
    ((d.w.toList.getD 0 0).extractLsb' 0 16).toNat = d.opcode ∧ ((d.w.toList.getD 1 0).extractLsb' 0 8).toNat = d.target := by
  rw [d.getD_toList, d.getD_toList]
  exact ⟨rfl, rfl⟩

theorem cfgApply_siteCaps (hop : d.opcode = 0x0301) :
    l.cfgApply now true d.w.toList = { l with
      r.siteCap := (d.pay 0).extractLsb' 0 24, r.siteCapx := (d.pay 1).extractLsb' 0 24
      r.siteMeter := { en := d.bit 2 8, gcid := (d.pay 2).extractLsb' 0 8 } } := by
  simp only [cfgApply, cfgApply_words, hop, Desc.payOf_toList, Desc.p24Of_toList, ↓reduceIte]
  rfl

theorem cfgApply_feederCfg (hop : d.opcode = 0x0302) :
    l.cfgApply now true d.w.toList = { l with
      r.fdrCap := vset l.r.fdrCap (d.fld 0 0 3) { en := d.bit 0 8, mtrEn := d.bit 4 8, imp := (d.pay 1).extractLsb' 0 24 }
      r.fdrCapx := vset l.r.fdrCapx (d.fld 0 0 3) ((d.pay 2).extractLsb' 0 24)
      r.fdrBase := vset l.r.fdrBase (d.fld 0 0 3)
        { mtrGcid := (d.pay 4).extractLsb' 0 8, base := (d.pay 3).extractLsb' 0 24 } } := by
  simp only [cfgApply, cfgApply_words, hop, Desc.payOf_toList, Desc.p24Of_toList]
  rfl

theorem cfgApply_curtail (hop : d.opcode = 0x0303) :
    l.cfgApply now true d.w.toList = { l with
      curt := vset l.curt (d.fld 0 0 4) (if d.bit 0 8 then none else
        some { cap := ((d.pay 1).extractLsb' 0 24).toNat
               tEnd := if (d.pay 2).toNat = 0 then none else some (now + msNs (d.pay 2).toNat) }) } := by
  simp only [cfgApply, cfgApply_words, hop, Desc.payOf_toList, Desc.p24Of_toList]
  rfl

theorem cfgApply_plannerCfg (hop : d.opcode = 0x0307) :
    l.cfgApply now true d.w.toList = { l with
      r.cfg := { en := d.bit 0 31, iterMax := (d.pay 0).extractLsb' 24 6, epoch := (d.pay 0).extractLsb' 16 7
                 effDef := (d.pay 0).extractLsb' 0 16 }
      eNew := if (d.pay 0).extractLsb' 16 7 = l.r.cfg.epoch then l.eNew else some (d.fld 0 16 7 * 10000, now) } := by
  simp only [cfgApply, cfgApply_words, hop, Desc.payOf_toList, Desc.p24Of_toList]
  rfl

theorem cfgApply_channelCfg (hop : d.opcode = 0x0304) :
    l.cfgApply now true d.w.toList
      = { l.setCtx { l.ctx d.target with cfg := d.ctxCfg } with inbox := l.inbox ++ [d.ctxIn] } := by
  simp only [cfgApply, cfgApply_words, hop, Desc.payOf_toList, Desc.p24Of_toList, Desc.ctxCfg, Desc.ctxIn, Desc.bit, Desc.fld,
    Nat.reduceEqDiff, ↓reduceIte]
  by_cases hremove : (d.pay 0).getLsbD 16 = true
  · simp only [hremove, ↓reduceIte, setCtx_inbox]
  · by_cases hmeter : (d.pay 0).getLsbD 20 = true
    · simp only [hremove, hmeter, ↓reduceIte, Bool.false_eq_true, setCtx_inbox]
    · simp only [hremove, hmeter, ↓reduceIte, Bool.false_eq_true, setCtx_inbox]

/-- 0x0304 gives its channel the configuration that it carries, and leaves every other context as it was. -/
theorem ctx_cfgApply_channelCfg (hop : d.opcode = 0x0304) :
    (l.cfgApply now true d.w.toList).ctx d.target = { l.ctx d.target with cfg := d.ctxCfg }
      ∧ ∀ g, g ≠ d.target → (l.cfgApply now true d.w.toList).ctx g = l.ctx g := by
  rw [l.cfgApply_channelCfg now d hop]
  have hg := l.ctx_gcid d.target
  refine ⟨?_, fun g hne => l.ctx_setCtx_other { l.ctx d.target with cfg := d.ctxCfg } g (by simpa using hne)⟩
  have hsame := l.ctx_setCtx_same { l.ctx d.target with cfg := d.ctxCfg }
  rwa [hg] at hsame

theorem cfgApply_priority (hop : d.opcode = 0x0305) : l.cfgApply now true d.w.toList = l := by
  simp only [cfgApply, cfgApply_words, hop]
  rfl

theorem cfgApply_escrowRelease (hop : d.opcode = 0x0306) :
    l.cfgApply now true d.w.toList = { l with inbox := l.inbox ++ [.release (d.target / 4)] } := by
  simp only [cfgApply, cfgApply_words, hop]
  rfl

/-! ### What the checks answer (R235) -/

theorem cfgCheck_siteCaps (hop : d.opcode = 0x0301) (hb : d.onlyBits [0xFFFFFF, 0xFFFFFF, 0x1FF] = true) :
    l.cfgCheck now d = if (l.cfgApply now false d.w.toList).sumsOk then none else some 0x51 := by
  simp only [cfgCheck, planMasks, hop, hb, Nat.reduceEqDiff, ↓reduceIte, Bool.not_true, Bool.false_eq_true, true_or]

theorem cfgCheck_curtail (hop : d.opcode = 0x0303) (hb : d.onlyBits [0x10F, 0xFFFFFF, 0xFFFFFFFF] = true) :
    l.cfgCheck now d = if 8 < d.fld 0 0 4 then some 0x50 else none := by
  simp only [cfgCheck, planMasks, hop, hb, Nat.reduceEqDiff, ↓reduceIte, Bool.not_true, Bool.false_eq_true]

theorem cfgCheck_plannerCfg (hop : d.opcode = 0x0307) (hb : d.onlyBits [0xBF7FFFFF] = true) :
    l.cfgCheck now d =
      if 1 ≤ d.fld 0 24 6 ∧ d.fld 0 24 6 ≤ 32 ∧ 5 ≤ d.fld 0 16 7 ∧ d.fld 0 16 7 ≤ 100 ∧ 32768 ≤ d.fld 0 0 16 then none
      else some 0x50 := by
  simp only [cfgCheck, planMasks, hop, Nat.reduceEqDiff, ↓reduceIte, hb]
  rfl

theorem cfgCheck_priority (hop : d.opcode = 0x0305) (hb : d.onlyBits [7] = true) :
    l.cfgCheck now d = if (l.ctx d.target).st = .live then none else some 0x53 := by
  simp only [cfgCheck, planMasks, hop, hb, Nat.reduceEqDiff, ↓reduceIte, Bool.not_true, Bool.false_eq_true, or_self]

end Last

/-- Settles O14: a descriptor that is taken reaches the engine, which executes it (`State.executes_planner`) or refuses it
(`State.rejects_planner`); what it stores is said by the lemmas on `Last.cfgApply`, what is refused by those on
`Last.cfgCheck`. -/
theorem plannerConfiguration : Obligations.PlannerConfiguration := by
  unfold Obligations.PlannerConfiguration
  intro s die d h hact hov halone e0 l ws p24 ok stored
  have accept (op : Nat) (hop : d.opcode = op) (hdie : PlannerAt die op) (hok : ok) (P : Eng → Prop) (l' : Last)
      (hl : l.cfgApply s.now true ws = l') (hP : P { e0 with last := l', store := e0.store ++ [ws] }) :
      EngExecutes (s.descRow op d).done s die d 0 P :=
    s.executes_planner die op d h hact hop hdie hov halone hok P (by subst hl; exact hP)
  have refuse (op : Nat) (hop : d.opcode = op) (hdie : PlannerAt die op) (code : Nat) (hchk : l.cfgCheck s.now d = some code) :
      Rejects (s.descRow op d).done s die d code :=
    s.rejects_planner die op d h hact hop hdie hov code hchk
  have hstored (l' : Last) : stored { e0 with last := l', store := e0.store ++ [ws] } := ⟨rfl, rfl, rfl, rfl⟩
  refine ⟨fun hd hop => ⟨fun hok => ?_, fun hb hsum => ?_⟩, fun hd hop hok => ?_, fun hd hop hb => ?_, fun hd hop hb => ?_,
    fun hd hop hok => ?_, fun hd hop hb => ?_, fun hd hop hok => ?_⟩
  · exact accept _ hop (Or.inl ⟨hd, by decide⟩) hok _ _ (l.cfgApply_siteCaps s.now d hop) ⟨rfl, rfl, rfl, hstored _⟩
  · exact refuse _ hop (Or.inl ⟨hd, by decide⟩) _ ((l.cfgCheck_siteCaps s.now d hop hb).trans (if_neg (Bool.eq_false_iff.1 hsum)))
  · have hk : d.fld 0 0 3 < 8 := BitVec.isLt _
    exact accept _ hop (Or.inl ⟨hd, by decide⟩) hok _ _ (l.cfgApply_feederCfg s.now d hop)
      ⟨vget_vset_same _ _ _ _ hk, vget_vset_same _ _ _ _ hk, fun j hj => vget_vset_other _ _ _ _ _ hj, hstored _⟩
  · have hchk := l.cfgCheck_curtail s.now d hop hb
    refine ⟨fun hk => ?_, fun hk => refuse _ hop (Or.inl ⟨hd, by decide⟩) _ (hchk.trans (if_pos hk))⟩
    exact accept _ hop (Or.inl ⟨hd, by decide⟩) (hchk.trans (if_neg (by omega))) _ _ (l.cfgApply_curtail s.now d hop)
      ⟨vget_vset_same _ _ _ _ (by omega), fun j hj => vget_vset_other _ _ _ _ _ hj, hstored _⟩
  · have hchk := l.cfgCheck_plannerCfg s.now d hop hb
    refine ⟨fun h1 h2 h3 h4 h5 => ?_, fun hbad => refuse _ hop (Or.inl ⟨hd, by decide⟩) _ (hchk.trans (if_neg (by omega)))⟩
    exact accept _ hop (Or.inl ⟨hd, by decide⟩) (hchk.trans (if_pos ⟨h1, h2, h3, h4, h5⟩)) _ _
      (l.cfgApply_plannerCfg s.now d hop) ⟨rfl, rfl, rfl, rfl, fun hne => if_neg hne, hstored _⟩
  · obtain ⟨hself, hothers⟩ := l.ctx_cfgApply_channelCfg s.now d hop
    have hin : (l.cfgApply s.now true ws).inbox = l.inbox ++ [d.ctxIn] := by rw [l.cfgApply_channelCfg s.now d hop]
    refine accept _ hop (Or.inr ⟨hd, by decide⟩) hok _ _ rfl ⟨fun hr => ?_, fun hr hm => ?_, hothers, hstored _⟩
    · rw [hself, hin]
      simp [Desc.ctxCfg, Desc.ctxIn, hr]
    · rw [hself, hin]
      simp [Desc.ctxCfg, Desc.ctxIn, hr, hm, Desc.fld, p24]
  · have hchk := l.cfgCheck_priority s.now d hop hb
    exact ⟨fun hlive => accept _ hop (Or.inr ⟨hd, by decide⟩) (hchk.trans (if_pos hlive)) _ _ (l.cfgApply_priority s.now d hop)
      ⟨rfl, hstored _⟩, fun hlive => refuse _ hop (Or.inr ⟨hd, by decide⟩) _ (hchk.trans (if_neg hlive))⟩
  · exact accept _ hop (Or.inr ⟨hd, by decide⟩) hok _ _ (l.cfgApply_escrowRelease s.now d hop) ⟨rfl, hstored _⟩

end Sys2Proof.Machine

namespace Sys2Proof.Machine

/-! ### What a command on the metrology engine answers -/

/-- A command that changes a channel whose metering runs answers with the changed channel. -/
theorem State.becomes_onLegal (s : State) (n pm : Nat) (f : Env → Chan → Chan) (P : Chan → Prop) (h : s.legalUp n pm = true)
    (hP : P (f s.env (s.ch n))) : Becomes (s.onLegal n pm f).done s n P :=
  ⟨_, hP, congrArg State.done (s.onLegal_up n pm f h)⟩

/-- A command that names a stream or a trigger of the metrology engine, where it has one of that number. -/
theorem State.becomes_onMet (s : State) (n : Nat) (p : Prop) [Decidable p] (f : Env → Met → Met) (P : Chan → Prop) (hp : p)
    (h : s.legalUp n 1 = true) (hP : P { s.ch n with met := f s.env (s.ch n).met }) :
    Becomes (if p then s.onMet n f else s).done s n P := by
  rw [if_pos hp]
  exact s.becomes_onLegal n 1 _ P h hP

/-- A host write of a register of the metrology engine of a channel that is open. -/
theorem State.becomes_metWrite (s : State) (n o : Nat) (w : Word) (P : Chan → Prop) (hn : n < 4) (h : s.hostOpen n = true)
    (ho : o < 0x4000 ∧ o % 4 = 0) (hw : (s.ch n).regWrite s.env o w = ((s.ch n).metWrite o w, false))
    (hP : P ((s.ch n).metWrite o w)) : Becomes (s.chWrite n o w).done s n P :=
  ⟨_, hP, congrArg State.done ((s.chWrite_open n o w hn ho.1 ho.2 h (by rw [hw])).trans (by rw [hw]))⟩

/-- The descriptors of the metrology engine reach the operations of their Sole (R286). -/
theorem State.descOp_met (s : State) (n : Nat) (d : Desc) (ref : DescRef) (hn : n < 4) :
    (d.opcode = 0x0401 → s.descOp n d ref = s.chAct n fun _ k => k.dCapArm d)
      ∧ (d.opcode = 0x0402 → s.descOp n d ref = s.chAct n fun e k => k.dCapTrigger e d)
      ∧ (d.opcode = 0x0404 → s.descOp n d ref = s.chAct n fun _ k => k.dEmapClear d) := by
  have h4 : n ≠ 4 := by omega
  refine ⟨fun hop => ?_, fun hop => ?_, fun hop => ?_⟩ <;>
    simp [State.descOp, State.dieOp, State.chOp, payMask, Desc.ledgerBits, h4, hn, hop]

namespace Met

variable (m : Met)

/-! ### What a view leaves unchanged -/

@[simp] theorem view_valid (i : Nat) : m.view.valid i = m.valid i := rfl

/-- STREAM_OK of a stream that is judged and not faulted (R246). -/
theorem view_streamOk (i : Nat) (hi : i < 12) :
    mbit m.view.r.status.streamOk i = (m.running i && !(m.stream i).flt) :=
  (mbit_setAll _ _ i hi 12).trans (if_pos hi)

/-! ### Calibration (R254, R255) -/

theorem apply_selected (b : Bool) (hi : m.r.calSel.toNat < 12) :
    let i := m.r.calSel.toNat
    let x := m.stream i
    let y := (m.apply b).stream i
    y.cal.gain = x.stage.gain ∧ y.cal.ofs = x.stage.ofs ∧ y.cal.fs.fs = x.stage.fs.fs
      ∧ y.cal.fs.skew = if b && (decide (i = 8) || decide (i = 11)) then x.cal.fs.skew else x.stage.fs.skew := by
  intro i x y
  have hy : y = _ := (vget_vMod _ _ _ _ _).trans (if_pos ⟨rfl, hi⟩)
  rw [hy]
  dsimp only
  split
  · exact ⟨rfl, rfl, rfl, rfl⟩
  · exact ⟨rfl, rfl, rfl, rfl⟩

theorem apply_other (b : Bool) (j : Nat) (hj : j ≠ m.r.calSel.toNat) : (m.apply b).stream j = m.stream j :=
  (vget_vMod _ _ _ _ _).trans (if_neg fun h => hj h.1)

/-! ### The result and map selectors (R294, R296) -/

theorem qSel_ac (w : Word) (hq : (w.extractLsb' 0 6).toNat < 0x1E) :
    (m.qSel w).r.qData0 = (vget m.acRes (w.extractLsb' 0 6).toNat {}).val
      ∧ (m.qSel w).r.qData1.valid = (vget m.acRes (w.extractLsb' 0 6).toNat {}).ok ∧ (m.qSel w).r.qData1.seq = m.acSeq := by
  simp only [qSel, if_pos hq, and_self]

theorem qSel_ms (w : Word) (hlo : 0x20 ≤ (w.extractLsb' 0 6).toNat) (hhi : (w.extractLsb' 0 6).toNat ≤ 0x28) :
    (m.qSel w).r.qData0 = (vget m.msRes ((w.extractLsb' 0 6).toNat - 0x20) {}).val ∧ (m.qSel w).r.qData1.seq = m.msSeq := by
  have hac : ¬ (w.extractLsb' 0 6).toNat < 0x1E := by omega
  simp only [qSel, if_neg hac, if_pos (And.intro hlo hhi), and_self]

/-- The word a snapshot answers is that of the first counter (R271). -/
theorem ivlRead_fst : m.ivlRead.1 = (vget m.ivl 0 {}).wh := by
  simp [ivlRead, vget, List.headD_eq_head?_getD, List.head?_eq_getElem?]

end Met

/-- A host write of MET_CAL_CTL with APPLY set puts the stage in force. -/
theorem Chan.metWrite_calCtl (k : Chan) (w : Word) (h : w.getLsbD 0 = true) :
    k.metWrite 0x41C w =
      { k with met := (({ k.met with r := k.met.r.write 0x41C w } : Met).apply k.ledg.r.status.sealed).view } :=
  congrArg (fun m : Met => { k with met := m.view }) (if_pos h)

/-- A host write of MET_IVL_CTL with RESET set has the next sample reset the counters. -/
theorem Chan.metWrite_ivlCtl (k : Chan) (w : Word) (h : w.getLsbD 8 = true) :
    k.metWrite 0x474 w = { k with met := ({ k.met with ivlRst := true } : Met).view } :=
  congrArg (fun m : Met => { k with met := m.view }) (if_pos h)

/-- Settles O10: the writes reach `Met.apply`, `Met.qSel` and `Met.emapSel` by `becomes_metWrite`, the read of MET_IVL_DCI
is `chRead_open` with the snapshot of `Met.ivlRead`. -/
theorem metrologyRegisters : Obligations.MetrologyRegisters := by
  unfold Obligations.MetrologyRegisters
  intro s n hn ho c m i only
  refine ⟨fun w => ⟨fun hi ha => ?_, fun hr => ?_, ?_, ?_⟩, ?_⟩
  · refine s.becomes_metWrite n 0x41C w _ hn ho (by decide) rfl ?_
    rw [c.metWrite_calCtl w ha]
    obtain ⟨hgain, hofs, hfs, hskew⟩ := Met.apply_selected { m with r := m.r.write 0x41C w } c.ledg.r.status.sealed hi
    exact ⟨hgain, hofs, hfs, hskew, fun j hj => Met.apply_other { m with r := m.r.write 0x41C w } _ j hj, rfl⟩
  · refine s.becomes_metWrite n 0x474 w _ hn ho (by decide) rfl ?_
    rw [c.metWrite_ivlCtl w hr]
    exact ⟨rfl, rfl, rfl, rfl⟩
  · refine s.becomes_metWrite n 0x440 w _ hn ho (by decide) rfl ?_
    exact ⟨m.qSel_ac w, m.qSel_ms w, rfl⟩
  · refine s.becomes_metWrite n 0x488 w _ hn ho (by decide) rfl ?_
    exact ⟨rfl, rfl, rfl, rfl, rfl⟩
  · intro v r u
    refine ⟨(v.ch n).met.ivlRead_fst, ?_, rfl, ?_⟩
    · rintro x ⟨rfl⟩
      rfl
    · have hofs : 0x8000 + 0x4000 * n + 0x460 = 0x8460 + 0x4000 * n := by omega
      exact congrArg State.done (hofs ▸ s.chRead_open n 0x460 hn (by decide) (by decide) ho (by decide))


/-! ### The waveform capture (R281 to R284) -/

namespace Met

variable (m : Met) (e : Env) (b : Nat)

theorem trigger_masked (h : mbit m.capCfg.trig b = false) : m.trigger e b = m := by
  rw [trigger, h, Bool.not_false, if_pos rfl]

/-- A trigger of an armed capture (R282). -/
theorem trigger_armed (h : mbit m.capCfg.trig b = true) (hst : m.r.capStatus.state = .armed) :
    m.trigger e b = ({ m with
      capPre := m.capBuf.length, capLeft := 0, capT := e.site
      r.capStatus := { m.r.capStatus with state := .post, cause := BitVec.ofNat 5 b } } : Met).view := by
  rw [trigger, h, Bool.not_true, if_neg Bool.false_ne_true, hst]

theorem postEnd_due (hst : m.r.capStatus.state = .post) (ht : m.capT + capPostNs m.capCfg ≤ e.site) :
    m.postEnd e = { m with r.capStatus.state := .done } :=
  if_pos ⟨hst, ht⟩

end Met

namespace Chan

variable (k : Chan) (e : Env) (d : Desc)

/-- 0x0401 arms a capture that is not under way (R286). -/
theorem dCapArm_arms (hb : d.onlyBits [] = true) (ha : k.met.r.capStatus.state ≠ .armed)
    (hp : k.met.r.capStatus.state ≠ .post) :
    k.dCapArm d = ({ k with met := { k.met with
      capCfg := k.met.r.capCfg, capThr := k.met.r.capThr, capBuf := [], capPre := 0, capLeft := 0, capPrev := none
      r.capStatus := { state := .armed, cause := 0, miss := 0 } } }, some 0) := by
  rw [dCapArm, hb, Bool.not_true, if_neg Bool.false_ne_true]
  split
  · contradiction
  · contradiction
  · rfl

/-- One that is under way refuses it (R288). -/
theorem dCapArm_refused (hb : d.onlyBits [] = true)
    (h : k.met.r.capStatus.state = .armed ∨ k.met.r.capStatus.state = .post) : k.dCapArm d = (k, some 0x60) := by
  rw [dCapArm, hb, Bool.not_true, if_neg Bool.false_ne_true]
  rcases h with h | h <;> rw [h]

/-- 0x0402 triggers an armed capture whose host trigger is enabled (R286). -/
theorem dCapTrigger_triggers (hb : d.onlyBits [] = true) (ha : k.met.r.capStatus.state = .armed)
    (ht : mbit k.met.capCfg.trig 4 = true) : k.dCapTrigger e d = ({ k with met := k.met.trigger e 4 }, some 0) := by
  simp [dCapTrigger, hb, ha, ht]

theorem dCapTrigger_disabled (hb : d.onlyBits [] = true) (ha : k.met.r.capStatus.state = .armed)
    (ht : mbit k.met.capCfg.trig 4 = false) : k.dCapTrigger e d = (k, some 0x62) := by
  simp [dCapTrigger, hb, ha, ht]

theorem dCapTrigger_notArmed (hb : d.onlyBits [] = true) (ha : k.met.r.capStatus.state ≠ .armed) :
    k.dCapTrigger e d = (k, some 0x60) := by
  simp [dCapTrigger, hb, ha]

section CapRead

variable (g : Nat) (hb : d.onlyBits [0x7, 0xFFFFFFFF, 0xFFFFFFFF] = true)
include hb

/-- A record that is not whole is not read (R288). -/
theorem capWords_notDone (hst : k.met.r.capStatus.state ≠ .done) : k.capWords g d = .inl 0x60 := by
  simp only [capWords, hb, Bool.not_true, if_neg Bool.false_ne_true, if_pos hst]

/-- What a read of a whole record answers: the words asked for, where the record holds them (R287, R288). -/
theorem capWords_done (hst : k.met.r.capStatus.state = .done) :
    k.capWords g d =
      if (d.pay 2).toNat < 1 ∨ 2 ^ 20 < (d.pay 2).toNat ∨ (k.met.capRecord g).length < (d.pay 1).toNat + (d.pay 2).toNat
      then .inl 0x61 else .inr (((k.met.capRecord g).drop (d.pay 1).toNat).take (d.pay 2).toNat) := by
  simp only [capWords, hb, hst, Bool.not_true, if_neg Bool.false_ne_true, ne_eq, not_true_eq_false, if_false]

end CapRead

/-- 0x0404 clears the bands that it names, in use and stored (R280). -/
theorem dEmapClear_clears (hb : d.onlyBits [0xF] = true) (hr : k.core.meterRole = false) :
    ∃ m, k.dEmapClear d = ({ k with met := m }, some 0) ∧ ∀ b, b < 4 →
      vget m.emap b (Vector.replicate 32 {})
        = if d.bit 0 b then Vector.replicate 32 {} else vget k.met.emap b (Vector.replicate 32 {}) := by
  rw [dEmapClear, hb, hr, Bool.not_true, if_neg Bool.false_ne_true, if_neg Bool.false_ne_true]
  exact ⟨_, rfl, fun b hlt => vget_vMapI _ _ b hlt _ _⟩

theorem dEmapClear_meter (hb : d.onlyBits [0xF] = true) (hr : k.core.meterRole = true) :
    k.dEmapClear d = (k, some 0x64) := by
  rw [dEmapClear, hb, hr, Bool.not_true, if_neg Bool.false_ne_true, if_pos rfl]

end Chan

section CapRead

variable (s : State) (n : Nat) (d : Desc) (hop : d.opcode = 0x0403) (h : s.takes n d = true) (hn : n < 4)
include hop hn

theorem State.descOp_capRead_refused (ref : DescRef) (code : Nat) (hc : (s.ch n).capWords ((s.gcid n).getD 0) d = .inl code) :
    s.descOp n d ref = (s, some code) := by
  have h4 : n ≠ 4 := by omega
  simp [State.descOp, State.dieOp, State.chOp, payMask, Desc.ledgerBits, h4, hn, hop, hc]

/-- Words read are sent out through the port of the descriptor, where no transfer holds it (R533). -/
theorem State.descOp_capRead_sends (ref : DescRef) (ws : List Word)
    (hc : (s.ch n).capWords ((s.gcid n).getD 0) d = .inr ws) (hport : s.xferOf (d.fld 0 0 3) = none) :
    let t : Xfer := { die := n, d := d, ref := ref, port := d.fld 0 0 3, isOut := true, words := ws, need := ws.length }
    s.descOp n d ref = (({ s with xfers := s.xfers ++ [t] } : State).portBlock t, none) := by
  have h4 : n ≠ 4 := by omega
  simp [State.descOp, State.dieOp, State.chOp, payMask, Desc.ledgerBits, h4, hn, hop, hc, State.portStart, Desc.portOf, hport]

omit hn
include h

/-- 0x0403 is executed at its Sole in the state in which it is taken, for it is not critical. -/
theorem State.descRow_capRead :
    s.descRow 0x0403 d = State.answer (s.descOp n d (s.refOf n d)) (s.refOf n d) := by
  rw [s.descRow_takes n _ d hop h, s.taken_plain n d (by rw [hop]; decide)]

include hn

theorem State.rejects_capRead (code : Nat) (hc : (s.ch n).capWords ((s.gcid n).getD 0) d = .inl code) :
    Rejects (s.descRow 0x0403 d).done s n d code := by
  refine congrArg State.done ?_
  rw [s.descRow_capRead n d hop h, s.descOp_capRead_refused n d hop hn _ code hc, s.taken_plain n d (by rw [hop]; decide)]
  rfl

theorem State.leaves_capRead (ws : List Word) (hc : (s.ch n).capWords ((s.gcid n).getD 0) d = .inr ws) (len : Nat)
    (hlen : ws.length = len) (hport : s.xferOf (d.fld 0 0 3) = none) :
    let t : Xfer := { die := n, d := d, ref := s.refOf n d, port := d.fld 0 0 3, isOut := true, words := ws, need := len }
    Leaves (s.descRow 0x0403 d).done (({ s with xfers := s.xfers ++ [t] } : State).portBlock t) := by
  subst hlen
  refine congrArg State.done ?_
  rw [s.descRow_capRead n d hop h, s.descOp_capRead_sends n d hop hn _ ws hc hport]
  rfl

end CapRead

/-- Settles O11: each descriptor by what its operation answers, run at its Sole by `executes_chAct` (a read of the record by
`rejects_capRead` and `leaves_capRead`), each trigger by `Met.trigger_armed` or `Met.trigger_masked`. -/
theorem metrologyCapture : Obligations.MetrologyCapture := by
  unfold Obligations.MetrologyCapture
  intro s n d hn h c m st only
  obtain ⟨harm, htrigger, hclear⟩ := (s.taken n d).descOp_met n d (s.refOf n d) hn
  refine ⟨fun hop hb => ⟨fun ha hp => ?_, fun hst => ?_⟩, fun hop hb => ⟨fun ha ht => ?_, fun ha ht => ?_, fun ha => ?_⟩,
    fun hop hb => ?_, fun hop hb => ⟨fun hr => ?_, fun hr => ?_⟩, fun hup => ?_⟩
  · have hk := c.dCapArm_arms d hb ha hp
    refine s.executes_chAct n _ d _ hn h hop (harm hop) 0 _ (congrArg Prod.snd hk) ?_
    rw [hk]
    exact ⟨rfl, rfl, rfl, rfl, rfl⟩
  · have hk := c.dCapArm_refused d hb hst
    exact s.executes_chAct n _ d _ hn h hop (harm hop) 0x60 _ (congrArg Prod.snd hk) (congrArg Prod.fst hk)
  · have hk := c.dCapTrigger_triggers (s.taken n d).env d hb ha ht
    refine s.executes_chAct n _ d _ hn h hop (htrigger hop) 0 _ (congrArg Prod.snd hk) ?_
    rw [hk, m.trigger_armed _ 4 ht ha, s.taken_plain n d (by rw [hop]; decide)]
    exact ⟨rfl, rfl, rfl, rfl, rfl⟩
  · have hk := c.dCapTrigger_disabled (s.taken n d).env d hb ha ht
    exact s.executes_chAct n _ d _ hn h hop (htrigger hop) 0x62 _ (congrArg Prod.snd hk) (congrArg Prod.fst hk)
  · have hk := c.dCapTrigger_notArmed (s.taken n d).env d hb ha
    exact s.executes_chAct n _ d _ hn h hop (htrigger hop) 0x60 _ (congrArg Prod.snd hk) (congrArg Prod.fst hk)
  · intro x off len
    have hch : c = s.ch n := congrArg (fun t => t.ch n) (s.taken_plain n d (by rw [hop]; decide))
    refine ⟨fun hst => ?_, fun hst hbad => ?_, fun hst h1 hmax hlen hport => ?_⟩
    · exact s.rejects_capRead n d hop h hn 0x60 (hch ▸ c.capWords_notDone d _ hb hst)
    · exact s.rejects_capRead n d hop h hn 0x61 (hch ▸ (c.capWords_done d _ hb hst).trans (if_pos hbad))
    · have hok : ¬ (len < 1 ∨ 2 ^ 20 < len ∨ x.length < off + len) := by omega
      refine s.leaves_capRead n d hop h hn _ (hch ▸ (c.capWords_done d _ hb hst).trans (if_neg hok)) len ?_ hport
      rw [List.length_take, List.length_drop]
      omega
  · obtain ⟨k, hk, hbands⟩ := c.dEmapClear_clears d hb hr
    refine s.executes_chAct n _ d _ hn h hop (hclear hop) 0 _ (congrArg Prod.snd hk) ?_
    rw [hk]
    exact ⟨hbands, rfl⟩
  · have hk := c.dEmapClear_meter d hb hr
    exact s.executes_chAct n _ d _ hn h hop (hclear hop) 0x64 _ (congrArg Prod.snd hk) (congrArg Prod.fst hk)
  · intro m
    refine ⟨fun b hlt ht hst => ?_, fun b hlt ht => ?_, fun hst ht => ?_⟩
    · refine s.becomes_onMet n (b < 5) _ _ hlt hup ?_
      rw [m.trigger_armed _ b ht hst]
      exact ⟨rfl, BitVec.toNat_ofNat .. ▸ Nat.mod_eq_of_lt (by omega), rfl, rfl⟩
    · refine s.becomes_onMet n (b < 5) _ _ hlt hup ?_
      rw [m.trigger_masked _ b ht]
    · refine s.becomes_onLegal n 1 _ _ hup ?_
      exact congrArg (fun m : Met => { s.ch n with met := m }) (m.postEnd_due _ hst ht)

end Sys2Proof.Machine

namespace Sys2Proof.Machine

/-! ### Streams and the fast path (R246, R249, R250) -/

namespace Met

variable (m : Met) (i : Nat)

theorem stream_vMod_same (f : StreamSt → StreamSt) (hi : i < 12) : vget (vMod m.st i f) i {} = f (m.stream i) :=
  (vget_vMod _ _ _ _ _).trans (if_pos ⟨rfl, hi⟩)

theorem stream_vMod_other (f : StreamSt → StreamSt) (j : Nat) (hj : j ≠ i) : vget (vMod m.st i f) j {} = m.stream j :=
  (vget_vMod _ _ _ _ _).trans (if_neg fun h => hj h.1)

/-- A stream that runs and faults: flagged, latched, shown not in order, and not valid (R246, R258). -/
theorem fault_running (hi : i < 12) (hr : m.running i = true) :
    ((m.fault i).stream i).flt = true ∧ mbit (m.fault i).r.streamFlt.flt i = true
      ∧ mbit (m.fault i).r.status.streamOk i = false ∧ (m.fault i).valid i = false
      ∧ ∀ j, j ≠ i → (m.fault i).stream j = m.stream j := by
  rw [fault, if_pos hr]
  have hflt : (vget (vMod m.st i fun s => { s with flt := true }) i {}).flt = true :=
    congrArg StreamSt.flt (m.stream_vMod_same i _ hi)
  refine ⟨hflt, (mbit_msetb _ i i true).trans (if_pos ⟨rfl, hi⟩), ?_, ?_, m.stream_vMod_other i _⟩
  · rw [view_streamOk _ i hi, stream, hflt, Bool.not_true, Bool.and_false]
  · rw [view_valid, valid, stream, hflt, Bool.not_true, Bool.and_false, Bool.false_and]

/-- The end of its fault has its filters settle; the latch stays (R246, R250). -/
theorem faultEnd_running (hi : i < 12) (hr : m.running i = true) (hf : (m.stream i).flt = true) :
    ((m.faultEnd i).stream i).flt = false ∧ ((m.faultEnd i).stream i).setF = 3 ∧ ((m.faultEnd i).stream i).setM = 40
      ∧ (m.faultEnd i).valid i = false ∧ mbit (m.faultEnd i).r.streamFlt.flt i = mbit m.r.streamFlt.flt i := by
  rw [faultEnd, if_pos ⟨hr, hf⟩]
  have hst : vget (vMod m.st i fun s => { s with flt := false, setF := 3, setM := 40 }) i {} = _ :=
    m.stream_vMod_same i _ hi
  have hsetM := congrArg StreamSt.setM hst
  refine ⟨congrArg StreamSt.flt hst, congrArg StreamSt.setF hst, hsetM, ?_, rfl⟩
  rw [view_valid, valid, stream, hsetM]
  exact Bool.and_false _

/-- A fast output of a stream that runs and does not settle is its calibrated value (R251). -/
theorem fastOne_delivers (s : StreamSt) (raw : Int) (hr : m.running i = true) (hf : s.flt = false) (hset : s.setF = 0) :
    (m.fastOne i s raw).fast = calVal s.cal raw (2 ^ 15) ∧ (m.fastOne i s raw).fresh = true := by
  simp [fastOne, hr, hf, hset]

/-- One of a stream that settles is withheld (R250). -/
theorem fastOne_settles (s : StreamSt) (raw : Int) (hr : m.running i = true) (hf : s.flt = false) (hset : 0 < s.setF) :
    (m.fastOne i s raw).fast = s.fast ∧ (m.fastOne i s raw).setF + 1 = s.setF := by
  simp only [fastOne, hr, hf, Bool.not_true, Bool.false_eq_true, or_self, if_false, if_pos hset, true_and]
  omega

/-- Recording an instant changes nothing but the instants the capture keeps (R282). -/
theorem capTake_keeps (fast : Bool) (raws : List Int) :
    ∃ b l, m.capTake fast raws = { m with capBuf := b, capLeft := l } := by
  unfold capTake
  split
  · exact ⟨_, _, rfl⟩
  · dsimp only
    split
    · exact ⟨_, _, rfl⟩
    · exact ⟨_, _, rfl⟩
    · exact ⟨_, _, rfl⟩

@[simp] theorem capTake_st (fast : Bool) (raws : List Int) : (m.capTake fast raws).st = m.st := by
  obtain ⟨b, l, h⟩ := m.capTake_keeps fast raws
  rw [h]

/-- A trigger leaves the streams as they are. -/
@[simp] theorem trigger_st (e : Env) (b : Nat) : (m.trigger e b).st = m.st := by
  unfold trigger
  split
  · rfl
  · split
    · rfl
    · rfl
    · rfl
    · rfl

end Met

/-- The fast outputs of one instant reach their streams; beside the metrology engine only the filtered current follows. -/
theorem Chan.fastOutput_at (k : Chan) (e : Env) (raws : List Int) :
    ∃ m y, k.fastOutput e raws = { k with met := m, pwm.iFilt := y }
      ∧ ∀ i, i < 12 → m.stream i = k.met.fastOne i (k.met.stream i) (raws.getD i 0) := by
  unfold fastOutput
  extract_lets m st fsl x rg flt m1 m2 i8 y
  refine ⟨m2, y, rfl, fun i hi => ?_⟩
  have h1 : m1.st = st := Met.capTake_st _ true raws
  have h2 : m2.st = st := by
    rw [← h1]
    dsimp only [m2]
    split
    · exact m1.trigger_st e 3
    · rfl
  rw [Met.stream, h2]
  exact vget_vMapI m.st _ i hi _ _

/-! ### Billed energy (R262 to R268) -/

/-- What the billing of a metrology sample reads and stores. -/
structure BillView where
  tn : Option Nat
  lv : Int
  li : Int
  pBill : Int
  legalGap : Bool
  rmcs : MetRmcs
  accI : Nat
  accE : Nat
  eImp : BitVec 64
  eExp : BitVec 64

/-- Those fields of a metrology engine. -/
def Met.bill (m : Met) : BillView :=
  { tn := m.tn, lv := m.lv, li := m.li, pBill := m.pBill, legalGap := m.r.status.legalGap, rmcs := m.r.rmcs
    accI := m.accI, accE := m.accE, eImp := m.eImp, eExp := m.eExp }

namespace BillView

variable (b : BillView) (p : Int) (d : Nat)

/-- Imported energy taken into its accumulator, whole mWh of it into the legal register. -/
def imported : BillView :=
  { b with accI := (b.accI + p.toNat * d) % mWh, eImp := b.eImp + BitVec.ofNat 64 ((b.accI + p.toNat * d) / mWh) }

/-- Exported energy, likewise. -/
def exported : BillView :=
  { b with accE := (b.accE + p.natAbs * d) % mWh, eExp := b.eExp + BitVec.ofNat 64 ((b.accE + p.natAbs * d) / mWh) }

/-- Billed power over a duration, by its direction. -/
def routed : BillView := if 0 < p then b.imported p d else if p < 0 then b.exported p d else b

theorem routed_imported (h : 0 < p) : b.routed p d = b.imported p d := if_pos h

theorem routed_exported (h : p < 0) : b.routed p d = b.exported p d := (if_neg (by omega)).trans (if_pos h)

theorem routed_zero (h : p = 0) : b.routed p d = b := (if_neg (by omega)).trans (if_neg (by omega))

/-- Energy that is routed leaves what was measured. -/
theorem routed_measured : (b.routed p d).tn = b.tn ∧ (b.routed p d).lv = b.lv ∧ (b.routed p d).li = b.li
    ∧ (b.routed p d).pBill = b.pBill ∧ (b.routed p d).legalGap = b.legalGap := by
  unfold routed
  split
  · exact ⟨rfl, rfl, rfl, rfl, rfl⟩
  · split
    · exact ⟨rfl, rfl, rfl, rfl, rfl⟩
    · exact ⟨rfl, rfl, rfl, rfl, rfl⟩

end BillView

namespace Met

theorem measured_of_bill {m : Met} {b : BillView} (h : m.bill = b) :
    m.tn = b.tn ∧ m.lv = b.lv ∧ m.li = b.li ∧ m.pBill = b.pBill ∧ m.r.status.legalGap = b.legalGap := by
  subst h
  exact ⟨rfl, rfl, rfl, rfl, rfl⟩

theorem energy_of_bill {m : Met} {b : BillView} (h : m.bill = b) :
    m.eImp = b.eImp ∧ m.eExp = b.eExp ∧ m.accI = b.accI ∧ m.accE = b.accE := by
  subst h
  exact ⟨rfl, rfl, rfl, rfl⟩

variable (m : Met)

theorem route_bill (p : Int) (d : Nat) : (m.route p d).bill = m.bill.routed p d := by
  unfold route BillView.routed
  split
  · rfl
  · split
    · rfl
    · rfl

/-- Energy on the AC side is not billed (R269). -/
theorem routeAc_bill (p : Int) (d : Nat) : (m.routeAc p d).bill = m.bill := by
  unfold routeAc
  split
  · rfl
  · split
    · rfl
    · rfl

theorem cross_bill (v : Int) (t : Nat) : (m.cross v t).bill = m.bill := by
  unfold cross
  extract_lets h
  split
  · rfl
  · split
    · rfl
    · rfl

theorem capTake_bill (fast : Bool) (raws : List Int) : (m.capTake fast raws).bill = m.bill := by
  obtain ⟨b, l, h⟩ := m.capTake_keeps fast raws
  rw [h]
  rfl

/-- A change that leaves the billing as it is leaves it so under a condition too. -/
theorem ite_bill (c : Prop) [Decidable c] {x : Met} (h : x.bill = m.bill) : (if c then x else m).bill = m.bill := by
  split
  · exact h
  · rfl

/-- A change of every stream that keeps its fault and its settling keeps what is valid. -/
theorem valid_vMapI (f : Nat → StreamSt → StreamSt) (i : Nat) (hi : i < 12)
    (hf : ∀ x, (f i x).flt = x.flt ∧ (f i x).setM = x.setM) : ({ m with st := vMapI m.st f } : Met).valid i = m.valid i := by
  have hst : vget (vMapI m.st f) i {} = f i (m.stream i) := vget_vMapI m.st f i hi {} {}
  obtain ⟨hflt, hsetM⟩ := hf (m.stream i)
  rw [valid, stream, hst, hflt, hsetM]
  rfl

/-- Both legal streams are valid in this sample (R264). -/
def legalOk : Bool := m.valid 8 && m.valid 11

/-- Legal voltage of a sample, mV (R252). -/
def legalV (raws : List Int) : Int := legalVal m.r.lcalVgain m.r.lcalVofs (raws.getD 11 0)

/-- Legal current of a sample, mA (R252). -/
def legalI (raws : List Int) : Int := legalVal m.r.lcalIgain m.r.lcalIofs (raws.getD 8 0)

/-- Billed power of a sample, µW (R262). -/
def legalP (raws : List Int) : Int := billed (m.legalV raws) (m.legalI raws) m.r.rmcs.rMcs.toNat

end Met

namespace Chan

section Sample

variable (c : Chan) (e : Env) (raws : List Int)

/-- What a metrology sample measures, before any energy is routed. -/
def sampledBill : BillView :=
  { c.met.bill with
    tn := some e.site, lv := c.met.legalV raws, li := c.met.legalI raws, pBill := c.met.legalP raws
    legalGap := !c.core.meterRole && !c.met.legalOk }

/-- Nothing is billed: a meter's channel, a legal stream that is not valid, or less than the starting current (R264). -/
def NotBilled : Prop :=
  c.core.meterRole = true ∨ c.met.legalOk = false ∨ (c.met.legalI raws).natAbs < c.met.r.rmcs.iSt.toNat * 10

/-- k is c after a metrology sample: it stores what was measured, with the energy since the last sample routed by its direction
where it is billed, and shows it; beside the metrology engine nothing changes. -/
structure Sampled (k : Chan) : Prop where
  unbilled : c.NotBilled raws → k.met.bill = c.sampledBill e raws
  routed : ¬ c.NotBilled raws →
    k.met.bill = (c.sampledBill e raws).routed (c.met.legalP raws) (e.site - c.met.tn.getD e.site)
  shown : k.met.r.eImpW = #v[DWord.lo k.met.eImp, DWord.hi k.met.eImp]
  only : k = { c with met := k.met }

theorem metSample_sampled : c.Sampled e raws (c.metSample e raws) := by
  unfold metSample
  extract_lets m0 d m x ok lv li p okL okA pAc rg sts m1 m2 m3 m4 m5 b new10 m6 m7 m8
  have hok (i : Nat) (hi : i < 12) : m.valid i = m0.valid i := m0.valid_vMapI _ i hi fun s => ⟨rfl, rfl⟩
  have hokL : okL = m0.legalOk := congrArg₂ (· && ·) (hok 8 (by decide)) (hok 11 (by decide))
  have h2 : m2.bill = c.sampledBill e raws := by
    rw [Met.cross_bill, sampledBill, ← hokL]
    rfl
  have hrmcs : m2.r.rmcs = m0.r.rmcs := congrArg BillView.rmcs h2
  have hcond : (c.core.meterRole = true ∨ (!okL) = true ∨ li.natAbs < m2.r.rmcs.iSt.toNat * 10) ↔ c.NotBilled raws := by
    rw [hokL, hrmcs, Bool.not_eq_true']
    rfl
  have h4 : m4.bill = m3.bill := m3.ite_bill _ (m3.routeAc_bill _ _)
  have h5 : m5.bill = m4.bill := m4.ite_bill _ rfl
  have h6 : m6.bill = m5.bill := m5.ite_bill _ rfl
  have h8 : m8.bill = m6.bill := m7.capTake_bill _ _
  have h3 : m8.bill = m3.bill := h8.trans (h6.trans (h5.trans h4))
  refine ⟨fun hno => h3.trans ?_, fun hyes => h3.trans ?_, rfl, rfl⟩
  · exact (congrArg Met.bill (if_pos (hcond.2 hno))).trans h2
  · refine (congrArg Met.bill (if_neg (mt hcond.1 hyes))).trans ?_
    rw [Met.route_bill, h2]
    rfl

end Sample

namespace Sampled

variable {c k : Chan} {e : Env} {raws : List Int} (h : c.Sampled e raws k)
include h

/-- Billed or not, it stores what it measures. -/
theorem measured :
    k.met.tn = some e.site ∧ k.met.lv = c.met.legalV raws ∧ k.met.li = c.met.legalI raws ∧ k.met.pBill = c.met.legalP raws
      ∧ k.met.r.status.legalGap = (!c.core.meterRole && !c.met.legalOk) := by
  by_cases hno : c.NotBilled raws
  · exact Met.measured_of_bill (h.unbilled hno)
  · obtain ⟨htn, hlv, hli, hp, hgap⟩ := Met.measured_of_bill (h.routed hno)
    obtain ⟨htn', hlv', hli', hp', hgap'⟩ := (c.sampledBill e raws).routed_measured (c.met.legalP raws)
      (e.site - c.met.tn.getD e.site)
    exact ⟨htn.trans htn', hlv.trans hlv', hli.trans hli', hp.trans hp', hgap.trans hgap'⟩

/-- Where no energy flows or none is billed, the accumulators and the legal registers stay. -/
theorem kept (hno : c.NotBilled raws ∨ c.met.legalP raws = 0) :
    k.met.eImp = c.met.eImp ∧ k.met.eExp = c.met.eExp ∧ k.met.accI = c.met.accI ∧ k.met.accE = c.met.accE := by
  have hb : k.met.bill = c.sampledBill e raws := by
    by_cases hc : c.NotBilled raws
    · exact h.unbilled hc
    · exact (h.routed hc).trans (BillView.routed_zero _ _ _ (hno.resolve_left hc))
  exact Met.energy_of_bill hb

section Billed

variable (hrole : c.core.meterRole = false) (hok : c.met.legalOk = true)
  (hst : c.met.r.rmcs.iSt.toNat * 10 ≤ (c.met.legalI raws).natAbs)
include hrole hok hst

/-- Energy that is billed goes to the accumulator of its direction, and whole mWh of it to the legal register (R264, R265). -/
theorem billed :
    let p := c.met.legalP raws
    let d := e.site - c.met.tn.getD e.site
    (0 < p → k.met.eImp = c.met.eImp + BitVec.ofNat 64 ((c.met.accI + p.toNat * d) / mWh)
      ∧ k.met.accI = (c.met.accI + p.toNat * d) % mWh ∧ k.met.eExp = c.met.eExp ∧ k.met.accE = c.met.accE)
    ∧ (p < 0 → k.met.eExp = c.met.eExp + BitVec.ofNat 64 ((c.met.accE + p.natAbs * d) / mWh)
      ∧ k.met.accE = (c.met.accE + p.natAbs * d) % mWh ∧ k.met.eImp = c.met.eImp ∧ k.met.accI = c.met.accI) := by
  have hyes : ¬ c.NotBilled raws := by
    rintro (h | h | h)
    · exact absurd h (Bool.eq_false_iff.1 hrole)
    · exact absurd h (Bool.ne_false_iff.2 hok)
    · omega
  refine ⟨fun hp => ?_, fun hp => ?_⟩
  · obtain ⟨heImp, heExp, haccI, haccE⟩ := Met.energy_of_bill ((h.routed hyes).trans (BillView.routed_imported _ _ _ hp))
    exact ⟨heImp, haccI, heExp, haccE⟩
  · obtain ⟨heImp, heExp, haccI, haccE⟩ := Met.energy_of_bill ((h.routed hyes).trans (BillView.routed_exported _ _ _ hp))
    exact ⟨heExp, haccE, heImp, haccI⟩

end Billed

end Sampled

end Chan

/-! ### AC windows and milliseconds (R256 to R258) -/

/-- x is m with its AC window closed: the results are counted, and none is valid where a sample was not, or where there was none
(R257). -/
def Met.AcClosed (m x : Met) : Prop :=
  x.acSeq = m.acSeq + 1 ∧ x.ac = [] ∧ x.acBad = false
    ∧ ∀ i, i < 30 → (m.acBad = true ∨ m.ac = []) → (vget x.acRes i {}).ok = false

/-- k is c with its AC window closed, and journal entries queued. -/
def Chan.AcClosed (c k : Chan) : Prop := ∃ m q, k = { c with met := m, jq := q } ∧ c.met.AcClosed m

theorem Chan.AcClosed.jrIf {c k : Chan} (h : c.AcClosed k) {p : Prop} {_ : Decidable p} {e : Env} {src : JSrc} {ev : JEv}
    {data : List Int} : c.AcClosed (if p then k.jr e src ev data else k) := by
  obtain ⟨m, q, rfl, hm⟩ := h
  split
  · exact ⟨m, _, rfl, hm⟩
  · exact ⟨m, q, rfl, hm⟩

theorem Chan.acWindow_closed (k : Chan) (e : Env) : k.AcClosed (k.acWindow e) := by
  unfold acWindow
  extract_lets m c ss va fixed nom f fOk rs ok r sq rg sts m1 vn w3 pl neut nRun nOff nl resid ctc cOff ct se s0 rg2 sts2 m2 k2
    k3 k4 k5
  have h1 : m.AcClosed m1 := by
    refine ⟨rfl, rfl, rfl, fun i hi hbad => ?_⟩
    have hok : ok = false := by
      rcases hbad with h | h <;> simp [ok, ss, h]
    simp [m1, vget, hi, hok]
  have h2 : k.AcClosed k2 := ⟨m2, k.jq, rfl, h1⟩
  have h3 : k.AcClosed k3 := h2.jrIf
  have h4 : k.AcClosed k4 := h3.jrIf
  have h5 : k.AcClosed k5 := h4.jrIf
  split
  · exact ⟨m1, k.jq, rfl, h1⟩
  · exact h5.jrIf

theorem Chan.recPower_at (k : Chan) : ∃ l, k.recPower = { k with ledg := l } := by
  unfold recPower
  split
  · exact ⟨_, rfl⟩
  · exact ⟨_, rfl⟩

/-- The end of a millisecond changes the metering as `msResults` says, and beside it the open record and the modulator. -/
theorem Chan.msEnd_at (k : Chan) (e : Env) : ∃ l p, k.msEnd e = { k with met := k.msResults.1.met, ledg := l, pwm := p } := by
  obtain ⟨l, hl⟩ := k.msResults.1.recPower_at
  unfold msEnd
  extract_lets r k1
  have hk1 : k1 = { k with met := k.msResults.1.met, ledg := l } := hl
  split
  · exact ⟨l, _, by rw [hk1]⟩
  · exact ⟨l, k.pwm, hk1⟩

/-- The results of a millisecond are counted, and each carries whether all its samples were valid (R258). -/
theorem Chan.msResults_at (k : Chan) :
    let m := k.met
    let x := k.msResults.1.met
    x.msSeq = m.msSeq + 1 ∧ x.msN = 0
      ∧ (∀ j, j < 9 → (vget x.msRes j {}).ok = (decide (0 < m.msN) && decide ((vget m.ms j {}).n = m.msN)))
      ∧ x.r.gap = (if m.gapMs then satInc m.r.gap else m.r.gap) ∧ x.gapMs = false := by
  refine ⟨rfl, rfl, fun j hj => ?_, rfl, rfl⟩
  simp [msResults, vget, hj]

/-! ### Efficiency windows (R277 to R280) -/

/-- A window that is not fit for the map leaves it as it was (R277). -/
theorem Chan.effEnd_unfit (k : Chan) (h : k.met.effBad = true ∨ k.met.r.emapCfg.en = false ∨ k.core.meterRole = true) :
    k.effEnd.met.emap = k.met.emap := by
  unfold effEnd
  extract_lets m n mean tens flat eta c7 used pPh bin x emap
  have hused : used = false := by
    rcases h with h | h | h <;> simp [used, m, h]
  exact if_neg (Bool.eq_false_iff.1 hused)

/-- Settles O9: the faults of a stream by `Met.fault_running` and `Met.faultEnd_running`, the fast path by `fastOutput_at`, billing
by `metSample_sampled`, the windows by `acWindow_closed`, `msResults_at` and `effEnd_unfit`. -/
theorem metrologyStreams : Obligations.MetrologyStreams := by
  unfold Obligations.MetrologyStreams
  intro s n h c m only
  refine ⟨fun i hi hr => ?_, fun i hi hr hf => ?_, fun raws => ?_, fun raws => ?_, ?_, ?_, ?_, ?_⟩
  · obtain ⟨hflt, hlatch, hok, hvalid, hothers⟩ := m.fault_running i hi hr
    exact s.becomes_onMet n (i < 12) _ _ hi h ⟨hflt, hlatch, hok, hvalid, hothers, rfl⟩
  · obtain ⟨hflt, hsetF, hsetM, hvalid, hlatch⟩ := m.faultEnd_running i hi hr hf
    exact s.becomes_onMet n (i < 12) _ _ hi h ⟨hflt, hsetF, hsetM, hvalid, hlatch, rfl⟩
  · refine s.becomes_onLegal n 1 _ _ h ?_
    obtain ⟨x, y, hk, hst⟩ := c.fastOutput_at s.env raws
    rw [hk]
    refine ⟨fun i hi hr hf hset => ?_, fun i hi hr hf hset => ?_, rfl⟩
    · exact (hst i hi).symm ▸ m.fastOne_delivers i _ _ hr hf hset
    · exact (hst i hi).symm ▸ m.fastOne_settles i _ _ hr hf hset
  · intro dt lv li p ok
    refine (s.becomes_onLegal n 1 _ (c.Sampled s.env raws) h (c.metSample_sampled s.env raws)).mono fun k hk => ?_
    obtain ⟨htn, hlv, hli, hp, hgap⟩ := hk.measured
    refine ⟨htn, hlv, hli, hp, hk.billed, fun hno => hk.kept ?_, hgap, hk.shown, hk.only⟩
    exact (or_assoc.trans (or_congr_right or_assoc)).2 hno
  · refine s.becomes_onLegal n 1 _ _ h ?_
    obtain ⟨x, q, hk, hseq, hac, hbad, hres⟩ := c.acWindow_closed s.env
    rw [hk]
    exact ⟨hseq, hac, hbad, hres, rfl⟩
  · refine s.becomes_onLegal n 1 _ _ h ?_
    obtain ⟨l, p, hk⟩ := c.msEnd_at s.env
    obtain ⟨hseq, hn, hres, hgap, hms⟩ := c.msResults_at
    rw [hk]
    exact ⟨hseq, hn, hres, hgap, hms, rfl⟩
  · exact s.becomes_onLegal n 1 _ _ h ⟨c.effEnd_unfit, rfl, rfl, rfl, rfl, rfl⟩
  · exact s.becomes_onLegal n 1 _ _ h rfl

end Sys2Proof.Machine

namespace Sys2Proof.Machine

/-! ### A descriptor's operation at its die -/

/-- What a critical descriptor changes before it is executed is the key store of its die: for a Sole, its channel alone. -/
theorem State.taken_ch (s : State) (n : Nat) (d : Desc) (hn : n < 4) : ∃ k, s.taken n d = s.setCh n { s.ch n with key := k } := by
  unfold State.taken
  split
  · exact ⟨_, if_pos hn⟩
  · exact ⟨_, (s.setCh_ch n).symm⟩

/-- A Sole sees the same of the module after its counter was stored. -/
theorem State.taken_env (s : State) (n : Nat) (d : Desc) (hn : n < 4) : (s.taken n d).env = s.env := by
  obtain ⟨k, hk⟩ := s.taken_ch n d hn
  rw [hk]
  rfl

theorem State.taken_xfers (s : State) (n : Nat) (d : Desc) (hn : n < 4) : (s.taken n d).xfers = s.xfers := by
  obtain ⟨k, hk⟩ := s.taken_ch n d hn
  rw [hk]
  rfl

section DescOp

variable (s : State) (die op : Nat) (d : Desc) (h : s.takes die d = true) (hop : d.opcode = op)
include h hop

/-- A descriptor whose operation answers a code completes with it. -/
theorem State.leaves_descOp_code (u : State) (code : Nat) (hd : (s.taken die d).descOp die d (s.refOf die d) = (u, some code)) :
    Leaves (s.descRow op d).done (u.complete { ref := s.refOf die d, status := code }) := by
  rw [s.descRow_takes die op d hop h, hd]
  rfl

/-- A descriptor whose operation answers a code and changes nothing is rejected. -/
theorem State.rejects_descOp (code : Nat) (hd : (s.taken die d).descOp die d (s.refOf die d) = (s.taken die d, some code)) :
    Rejects (s.descRow op d).done s die d code :=
  s.leaves_descOp_code die op d h hop _ code hd

/-- A descriptor whose operation goes on completes later. -/
theorem State.leaves_descOp (u : State) (hd : (s.taken die d).descOp die d (s.refOf die d) = (u, none)) :
    Leaves (s.descRow op d).done u := by
  rw [s.descRow_takes die op d hop h, hd]
  rfl

end DescOp

/-- Words are sent out through a port that no transfer holds (R533). -/
theorem State.portStart_out (s : State) (die : Nat) (d : Desc) (ref : DescRef) (ws : List Word) (need port : Nat)
    (hd : d.portOf = some (port, true)) (hp : s.xferOf port = none) :
    let x : Xfer := { die := die, d := d, ref := ref, port := port, isOut := true, words := ws, need := need }
    s.portStart die d ref ws need = (({ s with xfers := s.xfers ++ [x] } : State).portBlock x, none) := by
  simp [State.portStart, hd, hp]

/-- Words are awaited through a port that no transfer holds (R533). -/
theorem State.portStart_in (s : State) (die : Nat) (d : Desc) (ref : DescRef) (need port : Nat)
    (hd : d.portOf = some (port, false)) (hp : s.xferOf port = none) (hneed : need ≠ 0) :
    s.portStart die d ref [] need = ({ s with xfers := s.xfers ++
      [{ die := die, d := d, ref := ref, port := port, isOut := false, words := [], need := need }] }, none) := by
  simp [State.portStart, hd, hp, hneed]

/-! ### The descriptors of the ledger (R302 to R305, R316, R317, R323 to R325) -/

/-- The descriptors of the ledger that run at once, or wait for a record, reach the operations of their Sole. -/
theorem State.descOp_ledger (s : State) (n : Nat) (d : Desc) (ref : DescRef) (hn : n < 4) (hb : d.ledgerBits = true) :
    (d.opcode = 0x0405 → s.descOp n d ref = s.chAct n fun e k => k.dSeal e d ref)
      ∧ (d.opcode = 0x0406 → s.descOp n d ref = s.chAct n fun e k => k.dUnseal e d ref)
      ∧ (d.opcode = 0x0408 → s.descOp n d ref = s.chAct n fun e k => k.dLedgerAck e d) := by
  have h4 : n ≠ 4 := by omega
  refine ⟨fun hop => ?_, fun hop => ?_, fun hop => ?_⟩ <;>
    simp [State.descOp, State.dieOp, State.chOp, payMask, hb, h4, hn, hop]

section LedgerPorts

variable (s : State) (n : Nat) (d : Desc) (ref : DescRef) (hn : n < 4) (hb : d.ledgerBits = true)
include hn hb

/-- LEDGER_READ at its Sole, refused. -/
theorem State.descOp_ledgerRead_refused (hop : d.opcode = 0x0407) (code : Nat) (hc : (s.ch n).ledgerWords d = .inl code) :
    s.descOp n d ref = (s, some code) := by
  have h4 : n ≠ 4 := by omega
  simp [State.descOp, State.dieOp, State.chOp, payMask, hb, h4, hn, hop, hc]

/-- LEDGER_READ at its Sole: the words go to its port. -/
theorem State.descOp_ledgerRead (hop : d.opcode = 0x0407) (ws : List Word) (hc : (s.ch n).ledgerWords d = .inr ws) :
    s.descOp n d ref = s.portStart n d ref ws ws.length := by
  have h4 : n ≠ 4 := by omega
  simp [State.descOp, State.dieOp, State.chOp, payMask, hb, h4, hn, hop, hc]

variable (hs : (s.ch n).ledg.sealing = false)
include hs

/-- LEGAL_CODE_LOAD at its Sole while no seal is being carried out, refused. -/
theorem State.descOp_codeLoad_refused (hop : d.opcode = 0x0409) (code : Nat) (hc : (s.ch n).loadCheck d = some code) :
    s.descOp n d ref = (s, some code) := by
  have h4 : n ≠ 4 := by omega
  simp [State.descOp, State.dieOp, State.chOp, payMask, hb, h4, hn, hop, hs, hc]

/-- LEGAL_CODE_LOAD at its Sole while no seal is being carried out: its words are awaited at its port. -/
theorem State.descOp_codeLoad (hop : d.opcode = 0x0409) (hc : (s.ch n).loadCheck d = none) :
    s.descOp n d ref = s.portStart n d ref [] ((d.pay 1).toNat / 4) := by
  have h4 : n ≠ 4 := by omega
  simp [State.descOp, State.dieOp, State.chOp, payMask, hb, h4, hn, hop, hs, hc]

end LedgerPorts

namespace Chan

variable (k : Chan) (e : Env) (d : Desc) (ref : DescRef)

/-- The code version that 0x0405 names is that of the code in force, or of the staged image (R305). -/
def KnownCode (k : Chan) (ver : Word) : Prop :=
  ver = k.ledg.r.lcodeVer ∨ ∃ im, k.ledg.staged = some im ∧ imgVersion im = ver

/-! #### 0x0405 while no other seal is being carried out (R302, R325) -/

section Seal

variable (hs : k.ledg.sealing = false)
include hs

theorem dSeal_sealed (h : k.ledg.r.status.sealed = true) : k.dSeal e d ref = (k, some 0x68) := by
  simp [dSeal, hs, h]

variable (hsealed : k.ledg.r.status.sealed = false)
include hsealed

theorem dSeal_state (hv : k.key.r.lcStatus.state ≠ .verify) (hsv : k.key.r.lcStatus.state ≠ .service) :
    k.dSeal e d ref = (k, some 0x6A) := by
  simp [dSeal, hs, hsealed, hv, hsv]

variable (hlc : k.key.r.lcStatus.state = .verify ∨ k.key.r.lcStatus.state = .service)
include hlc

theorem dSeal_key (hk : k.key.usable false 1 = false) : k.dSeal e d ref = (k, some 0x6E) := by
  have hst : ¬ (k.key.r.lcStatus.state ≠ .verify ∧ k.key.r.lcStatus.state ≠ .service) := by tauto
  simp [dSeal, hs, hsealed, hst, hk]

variable (hk : k.key.usable false 1 = true) (hver : k.KnownCode (d.pay 1))
include hk hver

/-- What is left to judge once the state, the key and the version are right. -/
theorem dSeal_known : k.dSeal e d ref =
    if k.paramCrc (d.pay 1) ≠ d.pay 0 then (k, some 0x69)
    else if k.ledg.free = 0 then (k, some 0x6F)
    else ({ k with ledg.pend := k.ledg.pend ++
      [{ k.recNow e 2 with sealTo := some true, ref := some ref, ver := d.pay 1 }] }, none) := by
  have hst : ¬ (k.key.r.lcStatus.state ≠ .verify ∧ k.key.r.lcStatus.state ≠ .service) := by tauto
  obtain hver | ⟨im, him, hver⟩ := hver
  · simp [dSeal, hs, hsealed, hst, hk, hver]
  · simp [dSeal, hs, hsealed, hst, hk, him, hver]

end Seal

/-! #### 0x0406 while no other seal is being carried out (R302, R325) -/

section Unseal

variable (hs : k.ledg.sealing = false)
include hs

theorem dUnseal_unsealed (h : k.ledg.r.status.sealed = false) : k.dUnseal e d ref = (k, some 0x68) := by
  simp [dUnseal, hs, h]

variable (hsealed : k.ledg.r.status.sealed = true)
include hsealed

theorem dUnseal_state (hlc : k.key.r.lcStatus.state ≠ .service) : k.dUnseal e d ref = (k, some 0x6A) := by
  simp [dUnseal, hs, hsealed, hlc]

variable (hlc : k.key.r.lcStatus.state = .service)
include hlc

theorem dUnseal_busy (h : k.ledg.opn.isSome = true ∨ k.loop.r.status.state ≠ .idle) : k.dUnseal e d ref = (k, some 0x6B) := by
  simp only [dUnseal, hs, hsealed, hlc, if_pos h, Bool.not_true, Bool.false_eq_true, if_false, ne_eq, not_true_eq_false]

theorem dUnseal_waits (hopn : k.ledg.opn = none) (hidle : k.loop.r.status.state = .idle) (hfree : k.ledg.free ≠ 0) :
    k.dUnseal e d ref = ({ k with ledg.pend := k.ledg.pend ++ [{ k.recNow e 3 with
      sealTo := some false, ref := some ref, evtCode := 2, evtData := (d.pay 0).extractLsb' 0 24 }] }, none) := by
  have hdata : BitVec.ofNat 24 (d.fld 0 0 24) = (d.pay 0).extractLsb' 0 24 := (BitVec.ofNat_toNat ..).trans (BitVec.setWidth_eq _)
  simp [dUnseal, hs, hsealed, hlc, hopn, hidle, hfree, hdata]

end Unseal

/-! #### 0x0407, 0x0408 and 0x0409 (R305, R316, R317, R325) -/

/-- The records that 0x0407 asks for are held. -/
theorem ledgerWords_held (h1 : 1 ≤ d.fld 2 0 15) (hmax : d.fld 2 0 15 ≤ 16384) (hfirst : k.ledg.r.seqAck.toNat < (d.pay 1).toNat)
    (hlast : (d.pay 1).toNat + d.fld 2 0 15 ≤ k.ledg.r.seqNext.toNat) :
    k.ledgerWords d = .inr ((List.range (d.fld 2 0 15)).flatMap fun i => k.ledg.recordOf ((d.pay 1).toNat + i)) :=
  if_neg (by omega)

theorem ledgerWords_refused (h : d.fld 2 0 15 = 0 ∨ 16384 < d.fld 2 0 15 ∨ (d.pay 1).toNat ≤ k.ledg.r.seqAck.toNat
    ∨ k.ledg.r.seqNext.toNat < (d.pay 1).toNat + d.fld 2 0 15) : k.ledgerWords d = .inl 0x6C :=
  if_pos h

/-- The records after the last one acknowledged up to one have all been streamed whole. -/
theorem allStreamed_iff (l : Ledg) (a last : Nat) :
    (List.range (last - a)).all (fun i => l.wasStreamed (a + 1 + i)) = true ↔ ∀ i, a < i → i ≤ last → l.wasStreamed i = true := by
  simp only [List.all_eq_true, List.mem_range]
  refine ⟨fun h i hlo hhi => ?_, fun h i hi => h _ (by omega) (by omega)⟩
  have hi := h (i - a - 1) (by omega)
  rwa [show a + 1 + (i - a - 1) = i by omega] at hi

/-- LEDG_FREE brought up to date: nothing of the ledger changes but what its registers show of it. -/
theorem ledgView_shows : ∃ js st, k.ledgView e =
    { k with ledg.r.free.free := BitVec.ofNat 15 k.ledg.free, ledg.r.status := st, jq := js }
      ∧ st.sealed = k.ledg.r.status.sealed ∧ st.sealGen = k.ledg.r.status.sealGen ∧ st.legalWarn = k.ledg.r.status.legalWarn := by
  unfold ledgView
  simp only
  split <;> exact ⟨_, _, rfl, rfl, rfl, rfl⟩

theorem dLedgerAck_refused (h : (d.pay 1).toNat ≤ k.ledg.r.seqAck.toNat ∨ k.ledg.r.seqNext.toNat ≤ (d.pay 1).toNat
    ∨ ∃ i, k.ledg.r.seqAck.toNat < i ∧ i ≤ (d.pay 1).toNat ∧ k.ledg.wasStreamed i = false) : k.dLedgerAck e d = (k, some 0x6C) := by
  have hall := allStreamed_iff k.ledg k.ledg.r.seqAck.toNat (d.pay 1).toNat
  refine if_pos (h.imp_right (Or.imp_right ?_))
  rintro ⟨i, hlo, hhi, hi⟩
  rw [Bool.not_eq_true', ← Bool.not_eq_true, hall]
  intro hs
  simp [hs i hlo hhi] at hi

/-- k is channel c after an acknowledgement up to a record (R314, R317). -/
def Acked (c : Chan) (last : Word) (k : Chan) : Prop :=
  k.ledg.r.seqAck = last ∧ k.ledg.r.seqNext = c.ledg.r.seqNext ∧ k.ledg.slots = c.ledg.slots
    ∧ k.ledg.r.free.free.toNat = k.ledg.free % 2 ^ 15 ∧ k = { c with ledg := k.ledg, jq := k.jq }

theorem dLedgerAck_accepted (hlo : k.ledg.r.seqAck.toNat < (d.pay 1).toNat) (hhi : (d.pay 1).toNat < k.ledg.r.seqNext.toNat)
    (hall : ∀ i, k.ledg.r.seqAck.toNat < i → i ≤ (d.pay 1).toNat → k.ledg.wasStreamed i = true) :
    (k.dLedgerAck e d).2 = some 0 ∧ k.Acked (d.pay 1) (k.dLedgerAck e d).1 := by
  have hstr := (allStreamed_iff k.ledg k.ledg.r.seqAck.toNat (d.pay 1).toNat).mpr hall
  have hgo : ¬ ((d.pay 1).toNat ≤ k.ledg.r.seqAck.toNat ∨ k.ledg.r.seqNext.toNat ≤ (d.pay 1).toNat ∨
      (!((List.range ((d.pay 1).toNat - k.ledg.r.seqAck.toNat)).all fun i => k.ledg.wasStreamed (k.ledg.r.seqAck.toNat + 1 + i))) = true) := by
    rw [hstr]
    rintro (hle | hle | hno)
    · omega
    · omega
    · cases hno
  have hk : k.dLedgerAck e d = _ := if_neg hgo
  obtain ⟨js, st, hv, -⟩ := ledgView_shows ({ k with ledg := { k.ledg with
    r.seqAck := BitVec.ofNat 32 (d.pay 1).toNat
    streamed := k.ledg.streamed.filter fun p => decide ((d.pay 1).toNat < p.1.toNat) } } : Chan) e
  rw [hk, hv]
  exact ⟨rfl, BitVec.ofNat_toNat .., rfl, rfl, BitVec.toNat_ofNat .., rfl⟩

theorem loadCheck_sealed (h : k.ledg.r.status.sealed = true) : k.loadCheck d = some 0x68 := if_pos h

/-- Once the seal, the state and the use of the channel allow a load, its length is judged. -/
theorem loadCheck_length (hsealed : k.ledg.r.status.sealed = false) (hb : k.key.r.lcStatus.state ≠ .blank)
    (hr : k.key.r.lcStatus.state ≠ .retired) (hopn : k.ledg.opn = none) (hidle : k.loop.r.status.state = .idle) :
    k.loadCheck d = if (d.pay 1).toNat < 4 ∨ 983040 < (d.pay 1).toNat ∨ (d.pay 1).toNat % 4 ≠ 0 then some 0x6D else none := by
  simp [loadCheck, hsealed, hb, hr, hopn, hidle]

end Chan

/-- Settles O16: each descriptor by what its operation answers, run at its Sole by `executes_chAct` and `leaves_chAct`, those
with a port by `rejects_descOp` and `leaves_descOp`. -/
theorem ledgerDescriptors : Obligations.LedgerDescriptors := by
  unfold Obligations.LedgerDescriptors
  intro s n d hn h hb t c l lc known
  obtain ⟨hseal, hunseal, hack⟩ := t.descOp_ledger n d (s.refOf n d) hn hb
  have henv : t.env = s.env := s.taken_env n d hn
  have hplain : d.opcode = 0x0407 → t = s := fun hop => s.taken_plain n d (by rw [hop]; decide)
  refine ⟨fun hop hs => ⟨fun h1 => ?_, fun h1 h2 h3 => ?_, fun h1 h2 h3 => ?_, fun h1 h2 h3 hver hcrc => ?_,
      fun h1 h2 h3 hver hcrc hfree => ?_⟩,
    fun hop hs => ⟨fun h1 => ?_, fun h1 h2 => ?_, fun h1 h2 h3 => ?_, fun h1 h2 hopn hidle hfree => ?_⟩,
    fun hop => ?_, fun hop => ?_, fun hop hs => ?_⟩
  · have hk := c.dSeal_sealed t.env d (s.refOf n d) hs h1
    exact s.executes_chAct n _ d _ hn h hop (hseal hop) 0x68 _ (congrArg Prod.snd hk) (congrArg Prod.fst hk)
  · have hk := c.dSeal_state t.env d (s.refOf n d) hs h1 h2 h3
    exact s.executes_chAct n _ d _ hn h hop (hseal hop) 0x6A _ (congrArg Prod.snd hk) (congrArg Prod.fst hk)
  · have hk := c.dSeal_key t.env d (s.refOf n d) hs h1 h2 h3
    exact s.executes_chAct n _ d _ hn h hop (hseal hop) 0x6E _ (congrArg Prod.snd hk) (congrArg Prod.fst hk)
  · have hk := (c.dSeal_known t.env d (s.refOf n d) hs h1 h2 h3 hver).trans (if_pos hcrc)
    exact s.executes_chAct n _ d _ hn h hop (hseal hop) 0x69 _ (congrArg Prod.snd hk) (congrArg Prod.fst hk)
  · have hk := (c.dSeal_known t.env d (s.refOf n d) hs h1 h2 h3 hver).trans ((if_neg (not_not_intro hcrc)).trans (if_neg hfree))
    have hz := s.leaves_chAct n _ d _ hn h hop (hseal hop) (congrArg Prod.snd hk)
    rwa [hk, henv] at hz
  · have hk := c.dUnseal_unsealed t.env d (s.refOf n d) hs h1
    exact s.executes_chAct n _ d _ hn h hop (hunseal hop) 0x68 _ (congrArg Prod.snd hk) (congrArg Prod.fst hk)
  · have hk := c.dUnseal_state t.env d (s.refOf n d) hs h1 h2
    exact s.executes_chAct n _ d _ hn h hop (hunseal hop) 0x6A _ (congrArg Prod.snd hk) (congrArg Prod.fst hk)
  · have hk := c.dUnseal_busy t.env d (s.refOf n d) hs h1 h2 h3
    exact s.executes_chAct n _ d _ hn h hop (hunseal hop) 0x6B _ (congrArg Prod.snd hk) (congrArg Prod.fst hk)
  · have hk := c.dUnseal_waits t.env d (s.refOf n d) hs h1 h2 hopn hidle hfree
    have hz := s.leaves_chAct n _ d _ hn h hop (hunseal hop) (congrArg Prod.snd hk)
    rwa [hk, henv] at hz
  · intro first m
    have hport : d.portOf = some (d.fld 0 0 3, true) := by simp [Desc.portOf, hop]
    refine ⟨fun h1 hmax hfirst hlast hfree => ?_, fun hbad => ?_⟩
    · have hd := t.descOp_ledgerRead n d (s.refOf n d) hn hb hop _ (c.ledgerWords_held d h1 hmax hfirst hlast)
      have hfree' : t.xferOf (d.fld 0 0 3) = none := (hplain hop).symm ▸ hfree
      rw [t.portStart_out n d _ _ _ _ hport hfree'] at hd
      have hz := s.leaves_descOp n _ d h hop _ hd
      rw [hplain hop] at hz
      exact ⟨{ die := n, d := d, ref := s.refOf n d, port := d.fld 0 0 3, isOut := true, words := _, need := _ },
        rfl, rfl, rfl, rfl, rfl, hz⟩
    · exact s.rejects_descOp n _ d h hop 0x6C
        (t.descOp_ledgerRead_refused n d _ hn hb hop 0x6C (c.ledgerWords_refused d hbad))
  · intro a last
    refine ⟨fun hlo hhi hall => ?_, fun hbad => ?_⟩
    · obtain ⟨hcode, hk⟩ := c.dLedgerAck_accepted t.env d hlo hhi hall
      exact s.executes_chAct n _ d _ hn h hop (hack hop) 0 _ hcode hk
    · have hk := c.dLedgerAck_refused t.env d hbad
      exact s.executes_chAct n _ d _ hn h hop (hack hop) 0x6C _ (congrArg Prod.snd hk) (congrArg Prod.fst hk)
  · intro len
    have hport : d.portOf = some (d.fld 0 0 3, false) := by simp [Desc.portOf, hop]
    refine ⟨fun h1 => ?_, fun h1 h2 h3 hopn hidle hmin hmax hwhole hfree => ?_, fun h1 h2 h3 hopn hidle hbad => ?_⟩
    · exact s.rejects_descOp n _ d h hop 0x68 (t.descOp_codeLoad_refused n d _ hn hb hs hop 0x68 (c.loadCheck_sealed d h1))
    · have hok : ¬ (len < 4 ∨ 983040 < len ∨ len % 4 ≠ 0) := by omega
      have hd := t.descOp_codeLoad n d (s.refOf n d) hn hb hs hop ((c.loadCheck_length d h1 h2 h3 hopn hidle).trans (if_neg hok))
      have hfree' : t.xferOf (d.fld 0 0 3) = none := by rwa [State.xferOf, s.taken_xfers n d hn]
      rw [t.portStart_in n d _ _ _ hport hfree' (by omega), s.taken_xfers n d hn] at hd
      exact s.leaves_descOp n _ d h hop _ hd
    · exact s.rejects_descOp n _ d h hop 0x6D
        (t.descOp_codeLoad_refused n d _ hn hb hs hop 0x6D ((c.loadCheck_length d h1 h2 h3 hopn hidle).trans (if_pos hbad)))

end Sys2Proof.Machine

namespace Sys2Proof.Machine

/-! ### Records of the ledger (R303, R307, R312 to R320) -/

theorem length_padW (n : Nat) (l : List Word) : (padW n l).length = n := by simp [padW]

theorem length_wordsOfBytes (m : Nat) (l : List Nat) (h : l.length = 4 * m) : (wordsOfBytes l).length = m := by
  induction m generalizing l with
  | zero => rw [List.length_eq_zero_iff.mp h]; rfl
  | succ m ih =>
    match l, h with
    | a :: b :: c :: d :: r, h => exact congrArg (· + 1) (ih r (by simp only [List.length_cons] at h; omega))

namespace Chan

variable (k : Chan)

/-- The body of a record is 48 words, the second of them its sequence number (R307). -/
theorem recBody_shape (x : LRec) (nid : Option Nat) (unsealed ab : Bool) (gen : BitVec 16) (crc ver : Word) :
    (k.recBody x nid unsealed ab gen crc ver).length = 48 ∧ (k.recBody x nid unsealed ab gen crc ver)[1]? = some k.ledg.r.seqNext := by
  refine ⟨?_, rfl⟩
  simp only [recBody, List.length_append, List.length_cons, List.length_nil, List.length_replicate, length_padW]

/-- A record is 64 words, signed or not, the second of them its sequence number (R307). -/
theorem recWords_shape (x : LRec) (nid : Option Nat) (unsealed : Bool) (gen : BitVec 16) (crc ver : Word) :
    (k.recWords x nid unsealed gen crc ver).length = 64 ∧ (k.recWords x nid unsealed gen crc ver).getD 1 0 = k.ledg.r.seqNext := by
  have hcat (ab : Bool) (sig : List Word) (hs : sig.length = 16) :
      (k.recBody x nid unsealed ab gen crc ver ++ sig).length = 64
        ∧ (k.recBody x nid unsealed ab gen crc ver ++ sig).getD 1 0 = k.ledg.r.seqNext := by
    obtain ⟨hl, h1⟩ := k.recBody_shape x nid unsealed ab gen crc ver
    refine ⟨by rw [List.length_append, hl, hs], ?_⟩
    rw [List.getD_eq_getElem?_getD, List.getElem?_append_left (by omega), h1]
    rfl
  unfold recWords
  simp only
  split
  · exact hcat _ _ (by simp)
  · exact hcat _ _ (length_wordsOfBytes 16 _ (by simp [bytesOfNat]))

end Chan

/-- The completion that a record carries, of the seal or unseal that waits for it (R303). -/
def LRec.compls (x : LRec) : List Compl :=
  match x.ref with
  | some r => [{ ref := r, status := 0 }]
  | none => []

/-- The slot that a sequence number stands in (R307). -/
def slotOf (seq : Word) : Nat := (seq - 1).toNat % 16384

namespace Chan

/-- k is channel c after record x was written, with the records of rest left to write (R303, R307, R313, R319). -/
def Written (c : Chan) (x : LRec) (rest : List LRec) (k : Chan) : Prop :=
  k.ledg.r.seqNext = c.ledg.r.seqNext + 1 ∧ k.ledg.pend = rest ∧ k.ledg.r.seqAck = c.ledg.r.seqAck
    ∧ (∃ ws, k.ledg.slots.lookup (slotOf c.ledg.r.seqNext) = some ws ∧ ws.length = 64 ∧ ws.getD 1 0 = c.ledg.r.seqNext)
    ∧ (∀ i, i ≠ slotOf c.ledg.r.seqNext → k.ledg.slots.lookup i = c.ledg.slots.lookup i)
    ∧ k.ledg.r.status.sealed = x.sealTo.getD c.ledg.r.status.sealed
    ∧ (x.sealTo = some true → k.ledg.r.status.sealGen = c.ledg.r.status.sealGen + 1 ∧ k.ledg.r.status.legalWarn = false)
    ∧ k.cq = c.cq ++ x.compls
    ∧ k = { c with ledg := k.ledg, key.r.lcArb := k.key.r.lcArb, cq := k.cq, jq := k.jq }

/-- A slot read after another was filled. -/
theorem lookup_fill {α : Type} (l : List (Nat × α)) (a : Nat) (w : α) (i : Nat) (hi : i ≠ a) :
    ((a, w) :: l.filter fun p => decide (p.1 ≠ a)).lookup i = l.lookup i := by
  have hrest : (l.filter fun p => decide (p.1 ≠ a)).lookup i = l.lookup i := by
    induction l with
    | nil => rfl
    | cons p l ih =>
      obtain ⟨b, v⟩ := p
      by_cases hb : b = a
      · rw [List.filter_cons_of_neg (by simpa using hb), ih, List.lookup_cons, beq_false_of_ne (hb ▸ hi)]
      · rw [List.filter_cons_of_pos (by simpa using hb), List.lookup_cons, List.lookup_cons, ih]
  rw [List.lookup_cons, beq_false_of_ne hi]
  exact hrest

section Write

variable (k : Chan) (e : Env) (nid : Option Nat) (x : LRec) (rest : List LRec)

theorem recWrite_written : k.Written x rest (k.recWrite e nid x rest) := by
  unfold recWrite
  extract_lets l r code ver crc sealed gen warn ws slot _ _ l1 k1 _ _ _ k2 k3
  obtain ⟨arb, hk2⟩ : ∃ arb, k2 = { k1 with key.r.lcArb := arb } := by
    unfold k2
    clear_value code
    cases code <;> exact ⟨_, rfl⟩
  have hk3 : k3 = { k1 with key.r.lcArb := arb, cq := k1.cq ++ x.compls } := by
    unfold k3 LRec.compls
    rw [hk2]
    cases x.ref
    · simp only [List.append_nil]
    · rfl
  obtain ⟨js, st, hv, hsealed, hgen, hwarn⟩ := k3.ledgView_shows e
  obtain ⟨hlen, hseq⟩ := k.recWords_shape x nid (!sealed) gen crc ver
  rw [hv]
  clear_value k3
  subst hk3
  refine ⟨rfl, rfl, rfl, ⟨ws, List.lookup_cons_self, hlen, hseq⟩, fun i hi => lookup_fill _ _ _ i hi, hsealed,
    fun hto => ⟨?_, ?_⟩, rfl, rfl⟩
  · exact hgen.trans (if_pos hto)
  · refine hwarn.trans ?_
    simp [k1, l1, warn, hto]

/-- A record finds a slot, or is not an event record, which alone is dropped where it finds none (R315). -/
def Kept (k : Chan) (x : LRec) : Prop := x.typ ≠ 3 ∨ x.sealTo.isSome = true ∨ k.ledg.free ≠ 0

theorem Kept.not_dropped {k : Chan} {x : LRec} (h : k.Kept x) : ¬ (x.typ = 3 ∧ x.sealTo.isNone = true ∧ k.ledg.free = 0) := by
  rintro ⟨h1, h2, h3⟩
  obtain h | h | h := h
  · exact h h1
  · rw [Option.isNone_iff_eq_none.mp h2] at h
    cases h
  · exact h h3

variable (hp : k.ledg.pend = x :: rest)
include hp

/-- A record that is not dropped is written once its read-backs match. -/
theorem recordWrite_written (h : k.Kept x) : k.Written x rest (k.recordWrite e nid 0) := by
  have hw : k.recordWrite e nid 0 = k.recWrite e nid x rest := by
    simp only [recordWrite, hp, if_neg h.not_dropped]
    rfl
  exact hw ▸ k.recWrite_written e nid x rest

/-- A record whose three retries have failed stays, with REC_ERR set (R319). -/
theorem recordWrite_kept (h : k.Kept x) (bad : Nat) (hbad : 3 < bad) :
    k.recordWrite e nid bad = { k with ledg.r.status.recErr := true } := by
  simp only [recordWrite, hp, if_neg h.not_dropped, if_pos hbad, if_pos (Nat.zero_lt_of_lt hbad)]

/-- An event record that finds no slot is dropped and counted (R315). -/
theorem recordWrite_dropped (bad : Nat) (ht : x.typ = 3) (hs : x.sealTo = none) (hf : k.ledg.free = 0) :
    k.recordWrite e nid bad = { k with ledg := { k.ledg with pend := rest, r.free.lostEvt := satInc k.ledg.r.free.lostEvt } } := by
  simp [recordWrite, hp, ht, hs, hf]

end Write

/-! #### The legal warning (R312, R313) -/

variable (k : Chan) (e : Env)

/-- A partition that is not sealed starts its count again. -/
theorem driftCompare_unsealed (h : k.ledg.r.status.sealed = false) :
    k.driftCompare e = { k.rmeasView with ledg.overRun := 0 } := by
  have hv : k.rmeasView.ledg.r.status.sealed = false := h
  simp only [driftCompare, hv, Bool.not_false, if_true]

section Drift

variable (r : Int) (hs : k.ledg.r.status.sealed = true) (hr : k.cool.estimate = some r)
  (hm : ((k.met.r.rmcs.rMcs.toNat : Nat) : Int) < 20 * ((r - (k.met.r.rmcs.rMcs.toNat : Int)).natAbs : Int))
  (hw : k.ledg.r.status.legalWarn = false)
include hs hr hm hw

/-- A comparison over 5 % counts. -/
theorem driftCompare_over : k.driftCompare e =
    let q : Chan := { k.rmeasView with ledg.overRun := min (k.ledg.overRun + 1) 60 }
    if k.ledg.overRun + 1 = 60 then
      (({ q with ledg.r.status.legalWarn := true } : Chan).recFlag fWarn).eventRec e 1 (k.driftNow.1.setWidth 24)
    else q := by
  have hs' : k.rmeasView.ledg.r.status.sealed = true := hs
  have hw' : k.rmeasView.ledg.r.status.legalWarn = false := hw
  have hr' : k.rmeasView.cool.estimate = some r := hr
  have hm' : ((k.rmeasView.met.r.rmcs.rMcs.toNat : Nat) : Int) < 20 * ((r - (k.rmeasView.met.r.rmcs.rMcs.toNat : Int)).natAbs : Int) := hm
  simp only [driftCompare, hs', hr', if_pos hm', hw', Bool.not_true, Bool.not_false, Bool.false_eq_true, if_false, and_true]
  rfl

/-- The sixtieth comparison in a row over 5 % sets the warning and owes an event record. -/
theorem driftCompare_warns (hn : k.ledg.overRun = 59) :
    ∃ l, k.driftCompare e = { k with ledg := l } ∧ l.r.status.legalWarn = true
      ∧ ∃ x, l.pend = k.ledg.pend ++ [x] ∧ x.typ = 3 ∧ x.evtCode = 1 := by
  rw [k.driftCompare_over e r hs hr hm hw]
  simp only [hn, if_true]
  unfold recFlag
  split <;> exact ⟨_, rfl, rfl, _, rfl, rfl, rfl⟩

/-- An earlier one is counted alone. -/
theorem driftCompare_counts (hn : k.ledg.overRun < 59) :
    k.driftCompare e = { k.rmeasView with ledg.overRun := k.ledg.overRun + 1 } := by
  have hmin : min (k.ledg.overRun + 1) 60 = k.ledg.overRun + 1 := by omega
  rw [k.driftCompare_over e r hs hr hm hw, hmin]
  exact if_neg (by omega)

/-- Whatever the count, a comparison changes the ledger alone. -/
theorem driftCompare_ledg : k.driftCompare e = { k with ledg := (k.driftCompare e).ledg } := by
  rw [k.driftCompare_over e r hs hr hm hw]
  dsimp only
  split
  · unfold recFlag
    split <;> rfl
  · rfl

end Drift

end Chan

/-- Settles O17: a record by `recordWrite_written`, `recordWrite_kept` or `recordWrite_dropped`, the comparisons by
`driftCompare_warns` and `driftCompare_counts`. -/
theorem ledgerRecords : Obligations.LedgerRecords := by
  unfold Obligations.LedgerRecords
  intro s n h c l written
  refine ⟨fun x rest hp hk => ⟨?_, fun he => ?_, fun bad hbad => ?_⟩, fun x rest bad hp ht hs hf => ?_, fun he bad => ?_,
    fun hs => ?_, fun r hs hr hw => ?_, ?_⟩
  · exact s.becomes_onLegal n 2 _ _ h (c.recordWrite_written s.env s.nid x rest hp hk)
  · refine s.becomes_onLegal n 2 _ _ h ?_
    rw [Chan.recordRetry, if_pos he]
    exact c.recordWrite_written s.env s.nid x rest hp hk
  · exact s.becomes_onLegal n 2 _ _ h (c.recordWrite_kept s.env s.nid x rest hp hk bad hbad)
  · exact s.becomes_onLegal n 2 _ _ h (c.recordWrite_dropped s.env s.nid x rest hp bad ht hs hf)
  · exact s.becomes_onLegal n 2 _ _ h (if_neg (Bool.eq_false_iff.mp he))
  · refine s.becomes_onLegal n 2 _ _ h ?_
    rw [c.driftCompare_unsealed s.env hs]
    exact ⟨rfl, rfl, rfl⟩
  · intro m hm
    refine s.becomes_onLegal n 2 _ _ h ⟨fun hn => ?_, fun hn => ?_, c.driftCompare_ledg s.env r hs hr hm hw⟩
    · obtain ⟨l', hk, hwarn, hrec⟩ := c.driftCompare_warns s.env r hs hr hm hw hn
      rw [hk]
      exact ⟨hwarn, hrec⟩
    · rw [c.driftCompare_counts s.env r hs hr hm hw hn]
      exact ⟨rfl, hw, rfl⟩
  · exact s.becomes_onLegal n 2 _ _ h rfl

end Sys2Proof.Machine

namespace Sys2Proof.Machine

/-! ### What a channel holds through its own consequences -/

/-- A channel core without its service hold and its link registers. -/
def Core.lasting (c : Core) : Core := { c with r := { c.r with svc := {}, linkStatus := {} } }

/-- A key store without its volatile keys. -/
def Key.lasting (k : Key) : Key := { k with vol := false, tVol := none }

/-- k has of a what no consequence of a change takes away: its core but for the service hold and the link registers, its key
store but for the volatile keys, its synthesiser, its billed energy, and what its ledger has stored. A store of the legal
registers that is up to date stays so, a gate inhibit that is asserted and a modulator that does not run stay so. -/
def Chan.Lasts (a k : Chan) : Prop :=
  k.core.lasting = a.core.lasting
    ∧ k.key.lasting = a.key.lasting
    ∧ k.clk = a.clk
    ∧ (k.met.eImp = a.met.eImp ∧ k.met.eExp = a.met.eExp)
    ∧ (k.ledg.slots = a.ledg.slots ∧ k.ledg.r.seqNext = a.ledg.r.seqNext ∧ k.ledg.r.pfail = a.ledg.r.pfail
      ∧ k.ledg.committed = a.ledg.committed ∧ k.ledg.img = a.ledg.img)
    ∧ (a.ledg.nv.eImp = a.met.eImp ∧ a.ledg.nv.eExp = a.met.eExp → k.ledg.nv.eImp = a.met.eImp ∧ k.ledg.nv.eExp = a.met.eExp)
    ∧ (a.shk.r.status.inhibit = true → k.shk.r.status.inhibit = true)
    ∧ (a.pwm.r.status.state ≠ .run → k.pwm.r.status.state ≠ .run)

theorem Met.trigger_energy (m : Met) (e : Env) (b : Nat) : (m.trigger e b).eImp = m.eImp ∧ (m.trigger e b).eExp = m.eExp := by
  unfold Met.trigger
  split
  · exact ⟨rfl, rfl⟩
  · split <;> exact ⟨rfl, rfl⟩

namespace Chan.Lasts

/- As in `Chan.Steady`: an operation that replaces nothing of what the relation holds keeps it as it stands, and the proof below
is `h` alone. -/

variable {a k : Chan} {e : Env}

theorem refl (a : Chan) : Chan.Lasts a a := ⟨rfl, rfl, rfl, ⟨rfl, rfl⟩, ⟨rfl, rfl, rfl, rfl, rfl⟩, id, id, id⟩

theorem trans {k' : Chan} (h : Chan.Lasts a k) (g : Chan.Lasts k k') : Chan.Lasts a k' := by
  obtain ⟨hcore, hkey, hclk, ⟨hi, he⟩, ⟨hsl, hseq, hpf, hcm, himg⟩, hnv, hinh, hpwm⟩ := h
  obtain ⟨gcore, gkey, gclk, ⟨gi, ge⟩, ⟨gsl, gseq, gpf, gcm, gimg⟩, gnv, ginh, gpwm⟩ := g
  rw [hi, he] at gnv
  exact ⟨gcore.trans hcore, gkey.trans hkey, gclk.trans hclk, ⟨gi.trans hi, ge.trans he⟩,
    ⟨gsl.trans hsl, gseq.trans hseq, gpf.trans hpf, gcm.trans hcm, gimg.trans himg⟩, gnv ∘ hnv, ginh ∘ hinh, gpwm ∘ hpwm⟩

theorem branch {c : Prop} [Decidable c] {x y : Chan} (hx : Chan.Lasts a x) (hy : Chan.Lasts a y) :
    Chan.Lasts a (if c then x else y) := by
  split
  · exact hx
  · exact hy

/-- A change of the metrology engine that leaves the billed energy. -/
theorem met (h : Chan.Lasts a k) (m : Met) (hi : m.eImp = k.met.eImp) (he : m.eExp = k.met.eExp) :
    Chan.Lasts a { k with met := m } := by
  obtain ⟨hcore, hkey, hclk, ⟨hi', he'⟩, h⟩ := h
  exact ⟨hcore, hkey, hclk, ⟨hi.trans hi', he.trans he'⟩, h⟩

theorem trigger (h : Chan.Lasts a k) (b : Nat) : Chan.Lasts a { k with met := k.met.trigger e b } :=
  h.met _ (k.met.trigger_energy e b).1 (k.met.trigger_energy e b).2

/-- A change of the modulator that does not start it. -/
theorem pwm (h : Chan.Lasts a k) (p : Pwm) (hp : k.pwm.r.status.state ≠ .run → p.r.status.state ≠ .run) :
    Chan.Lasts a { k with pwm := p } := by
  obtain ⟨hcore, hkey, hclk, hmet, hledg, hnv, hinh, hpwm⟩ := h
  exact ⟨hcore, hkey, hclk, hmet, hledg, hnv, hinh, hp ∘ hpwm⟩

/-- A change of Shank that does not release the gate inhibit. -/
theorem shk (h : Chan.Lasts a k) (x : Shk) (hx : k.shk.r.status.inhibit = true → x.r.status.inhibit = true) :
    Chan.Lasts a { k with shk := x } := by
  obtain ⟨hcore, hkey, hclk, hmet, hledg, hnv, hinh, hpwm⟩ := h
  exact ⟨hcore, hkey, hclk, hmet, hledg, hnv, hx ∘ hinh, hpwm⟩

/-- The legal registers are stored (R320). -/
theorem legalStore (h : Chan.Lasts a k) : Chan.Lasts a k.legalStore := by
  obtain ⟨hcore, hkey, hclk, hmet, hledg, hnv, hinh, hpwm⟩ := h
  exact ⟨hcore, hkey, hclk, hmet, hledg, fun _ => hmet, hinh, hpwm⟩

/-! #### The loop, the cooling and Shank -/

theorem loopIdle (h : Chan.Lasts a k) : Chan.Lasts a (k.loopIdle e) := by
  refine (h.pwm k.pwm.stop fun hp => ?_ :)
  rw [Pwm.stop, if_neg hp]
  exact hp

theorem loopStop (h : Chan.Lasts a k) (t : Bool) : Chan.Lasts a (k.loopStop e t) := by
  unfold Chan.loopStop
  split
  · cases t <;> exact loopIdle (e := e) h
  all_goals exact h

theorem sessEstimate (h : Chan.Lasts a k) : Chan.Lasts a (k.sessEstimate e) := by
  unfold Chan.sessEstimate
  simp only
  split
  · exact h
  · unfold Chan.trendUpdate Chan.forecast
    simp only
    split <;> exact h

theorem shkCoils (h : Chan.Lasts a k) : Chan.Lasts a (k.shkCoils e) := by
  refine (h.shk (k.shkCoils e).shk fun hi => ?_ :)
  exact iteInduction (motive := fun x : Shk => x.r.status.inhibit = true) (fun _ => hi) fun _ =>
    iteInduction (motive := fun x : Shk => x.r.status.inhibit = true) (fun _ => hi) fun _ => hi

theorem shkSet (h : Chan.Lasts a k) (s : ShkState) : Chan.Lasts a (k.shkSet e s) := by
  unfold Chan.shkSet
  split <;> exact h

theorem shkRaise (h : Chan.Lasts a k) (f : Nat) (c : Bool) (src : BitVec 4) : Chan.Lasts a (k.shkRaise e f c src) :=
  trigger (e := e) h 1

theorem shkSession (h : Chan.Lasts a k) (c : Bool) : Chan.Lasts a (k.shkSession e c) := by
  unfold Chan.shkSession
  split <;> (apply shkRaise; exact h)

theorem shkView (h : Chan.Lasts a k) : Chan.Lasts a (k.shkView e) :=
  h.shk (k.shkView e).shk fun hi => by simp [Chan.shkView, hi]

theorem shkSettle (h : Chan.Lasts a k) : Chan.Lasts a (k.shkSettle e) := by
  have hc : Chan.Lasts a (k.shkCoils e) := shkCoils h
  unfold Chan.shkSettle
  apply shkView
  apply branch
  · apply shkSet
    exact hc
  · exact hc

/-! #### The vehicle session -/

theorem vGo (h : Chan.Lasts a k) (s : VehState) : Chan.Lasts a (k.vGo e s) := h

theorem vAns (h : Chan.Lasts a k) (r : VRes) (d : List Int) : Chan.Lasts a (k.vAns r d) := h

theorem vEvt (h : Chan.Lasts a k) (c d : Nat) : Chan.Lasts a (k.vEvt e c d) := by
  unfold Chan.vEvt
  simp only
  split <;> exact h

theorem vCause (h : Chan.Lasts a k) (c : Nat) : Chan.Lasts a (k.vCause c) := by
  unfold Chan.vCause
  split <;> exact h

theorem vShutdown (h : Chan.Lasts a k) (d : Bool) : Chan.Lasts a (k.vShutdown e d) := by
  unfold Chan.vShutdown
  apply sessEstimate
  apply vGo
  split
  · apply loopStop
    exact h
  · exact h

theorem vStop (h : Chan.Lasts a k) (c : Nat) : Chan.Lasts a (k.vStop e c) := by
  unfold Chan.vStop
  apply vGo
  apply loopStop
  exact vCause h c

theorem vEndPause (h : Chan.Lasts a k) (c : Nat) : Chan.Lasts a (k.vEndPause e c) := vShutdown (vCause h c) true

theorem vSignal (h : Chan.Lasts a k) : Chan.Lasts a (k.vSignal e) := by
  have hev (c d : Nat) : Chan.Lasts a ((if k.veh.r.status.state.running then
      (k.vCause c).shkSession e false else k.vCause c).vEvt e 0x0C d) :=
    vEvt (branch (shkSession (vCause h c) _) (vCause h c)) _ _
  exact branch (hev _ _) (vShutdown (hev _ _) _)

theorem vPlug (h : Chan.Lasts a k) : Chan.Lasts a (k.vPlug e) := by
  unfold Chan.vPlug
  apply vEvt
  exact h

theorem recClose (h : Chan.Lasts a k) (c : Nat) (x : BitVec 16) : Chan.Lasts a (k.recClose e c x) := by
  unfold Chan.recClose
  split
  · exact h
  · exact legalStore h

theorem vLoopEnd (h : Chan.Lasts a k) : Chan.Lasts a (k.vLoopEnd e) := by
  have hev (d : Nat) : Chan.Lasts a (if k.veh.owe09 ∧ !k.vIn [.transfer] then
      ({ k with veh.owe09 := false } : Chan).vEvt e 0x09 d else k) :=
    branch (vEvt (k := { k with veh.owe09 := false }) h _ _) h
  unfold Chan.vLoopEnd
  split
  · exact branch (recClose (hev _) _ _) (hev _)
  · exact branch (recClose (hev _) _ _) (hev _)
  · exact h

theorem vMove (h : Chan.Lasts a k) : Chan.Lasts a (k.vMove e) := by
  unfold Chan.vMove
  refine branch (vShutdown (vCause h _) _) (branch (vSignal h) ?_)
  split
  case h_1 => exact branch (vPlug h) h
  case h_2 => exact branch (vEvt (vGo h _) _ _) h
  case h_3 => exact branch h (vStop (vAns h _ _) _)
  case h_4 => exact branch (vStop h _) h
  case h_5 =>
    split
    · exact h
    · refine branch (vEvt ?_ _ _) (vShutdown h _)
      exact h
    · exact h
  case h_6 =>
    refine branch (vEvt ?_ _ _) h
    exact h
  case h_7 =>
    refine branch (vEvt ?_ _ _) h
    exact h
  case h_8 => exact h

theorem vSettle (h : Chan.Lasts a k) : Chan.Lasts a (k.vSettle e) :=
  have hm := vMove (vLoopEnd (vMove (vLoopEnd (vMove h))))
  branch hm hm

theorem vCommLost (h : Chan.Lasts a k) : Chan.Lasts a (k.vCommLost e) := by
  have hev (d : Nat) : Chan.Lasts a ((k.vCause 0x04).vEvt e 0x0B d) := vEvt (vCause h _) _ _
  unfold Chan.vCommLost
  simp only
  split
  iterate 3 exact vShutdown (hev _) _
  · exact hev _
  iterate 2 exact vStop (hev _) _
  · exact vStop (shkSession (hev _) _) _
  · exact vShutdown (shkSession (hev _) _) _
  · exact h

theorem vTlsLost (h : Chan.Lasts a k) : Chan.Lasts a (k.vTlsLost e) := by
  unfold Chan.vTlsLost
  simp only
  apply branch
  · exact h
  · apply vCommLost
    exact h

theorem vTamper (h : Chan.Lasts a k) : Chan.Lasts a (k.vTamper e) := by
  unfold Chan.vTamper
  split
  iterate 3 exact vStop h _
  iterate 3 exact vShutdown (vCause h _) _
  · exact vEndPause h _
  · exact h

/-! #### The ledger and the views -/

theorem recTrack (h : Chan.Lasts a k) : Chan.Lasts a (k.recTrack e) := by
  unfold Chan.recTrack Chan.recFlag
  apply branch h
  split <;> exact h

theorem ledgView (h : Chan.Lasts a k) : Chan.Lasts a (k.ledgView e) := by
  obtain ⟨js, st, hv, -⟩ := k.ledgView_shows e
  rw [hv]
  exact h

theorem vLimits (h : Chan.Lasts a k) : Chan.Lasts a k.vLimits := h

theorem pumpView (h : Chan.Lasts a k) : Chan.Lasts a (k.pumpView e) := h

theorem svcDrain (h : Chan.Lasts a k) : Chan.Lasts a k.svcDrain := branch h h

theorem volZero (h : Chan.Lasts a k) : Chan.Lasts a (k.volZero e) := by
  unfold Chan.volZero
  apply branch
  · apply vTlsLost
    exact h
  · exact h

theorem volView (h : Chan.Lasts a k) : Chan.Lasts a (k.volView e) := by
  unfold Chan.volView
  apply branch
  · apply volZero
    exact h
  · exact h

theorem capView (h : Chan.Lasts a k) (old : Chan) : Chan.Lasts a (k.capView old e) := branch (trigger h 2) h

theorem attnView (h : Chan.Lasts a k) (old : Chan) : Chan.Lasts a (k.attnView old) := branch h h

theorem pcView (h : Chan.Lasts a k) (old : Chan) : Chan.Lasts a (k.pcView old) := branch h h

theorem linkView (h : Chan.Lasts a k) : Chan.Lasts a k.linkView := h

/-- What follows from a change of a channel keeps what the relation holds. -/
theorem settle (h : Chan.Lasts a k) (old : Chan) : Chan.Lasts a (k.settle old e) :=
  have hs := ledgView (recTrack (vLimits (vSettle (shkSettle h))))
  attnView (capView (linkView (pcView (volView (svcDrain (pumpView hs))) old)) old) old

end Chan.Lasts

theorem Chan.lasts_after (s : State) (n : Nat) (k : Chan) : Chan.Lasts k (s.after n k) := by
  have hk : Chan.Lasts k (if k.core.run = 2 then k.settle (s.ch n) s.env else k) :=
    .branch (.settle (.refl k) _) (.refl k)
  exact hk

/-- A change of a channel at that channel, and at another one. -/
theorem State.onCh_ch_same (s : State) (n : Nat) (f : Env → Chan → Chan) (hn : n < 4) :
    (s.onCh n f).ch n = s.after n (f s.env (s.ch n)) := by
  rw [State.onCh_eq s n f hn, s.withCh_ch_same n _ hn]

theorem State.onCh_ch_other (s : State) (n : Nat) (f : Env → Chan → Chan) (m : Nat) (hm : m ≠ n) : (s.onCh n f).ch m = s.ch m := by
  by_cases hn : n < 4
  · rw [State.onCh_eq s n f hn, s.withCh_ch_other n _ hn m hm]
  · rw [State.onCh, if_neg hn]

end Sys2Proof.Machine

namespace Sys2Proof.Machine

/-! ### What the tests and the alarms of the dies leave of the state -/

/-- The stored configuration of the NID does not change with what a ring sends. -/
theorem Ring.nidCfg_emit (g : Ring) (w : Bool) (h : Hdr) (ps : List Word) (b : Bool) : (g.emit w h ps b).r.nidCfg = g.r.nidCfg := by
  unfold Ring.emit
  split
  · rfl
  · split <;> rfl

theorem Ring.nidCfg_sendTc0 (g : Ring) (now : Nat) (w : Bool) (h : Hdr) (ps : List Word) :
    (g.sendTc0 now w h ps).r.nidCfg = g.r.nidCfg := by
  unfold Ring.sendTc0
  simp only
  split
  · cases w <;> rfl
  · rw [Ring.nidCfg_emit]
    cases w <;> rfl

theorem Ring.nidCfg_originate (g : Ring) (now : Nat) (t : FType) (dst : Option Nat) (ps : List Word) :
    (g.originate now t dst ps).r.nidCfg = g.r.nidCfg := by
  unfold Ring.originate
  simp only
  split
  · exact Ring.nidCfg_emit ..
  · split
    · rw [Ring.nidCfg_sendTc0, Ring.nidCfg_sendTc0]
    · rw [Ring.nidCfg_emit, Ring.nidCfg_emit]

/-- The state that neither tests, messages nor the reset of a Sole change: without the channels, the stitch links, the tests,
the power states, the transfers, the captured words and what messages pass through, but with the stored configuration of the
NID. -/
def State.firm (s : State) : State :=
  { s.still with
    xfers := []
    hub := { s.still.hub with cob := {}, pm := {}, snaps := [], ring := { r := { ({} : RingRegs) with nidCfg := s.hub.ring.r.nidCfg } } } }

section Firm

variable {s t : State}

theorem State.firm_of_still (h : t.still = s.still) (hn : t.hub.ring.r.nidCfg = s.hub.ring.r.nidCfg) : t.firm = s.firm := by
  simp only [State.firm, h, hn]

variable (h : t.firm = s.firm)
include h

theorem State.now_of_firm : t.now = s.now := (congrArg State.now h :)
theorem State.pwr_of_firm : t.pwr = s.pwr := (congrArg State.pwr h :)
theorem State.run_of_firm : t.hub.run = s.hub.run := (congrArg (fun u => u.hub.run) h :)
theorem State.hubRegs_of_firm : t.hub.r = s.hub.r := (congrArg (fun u => u.hub.r) h :)
theorem State.key_of_firm : t.hub.key = s.hub.key := (congrArg (fun u => u.hub.key) h :)
theorem State.fw_of_firm : t.hub.fw = s.hub.fw := (congrArg (fun u => u.hub.fw) h :)
theorem State.nidCfg_of_firm : t.hub.ring.r.nidCfg = s.hub.ring.r.nidCfg := (congrArg (fun u => u.hub.ring.r.nidCfg) h :)

end Firm

/-- A fold whose steps keep what is firm keeps it. -/
theorem State.firm_foldl {α : Type} (f : State → α → State) (hf : ∀ u a, (f u a).firm = u.firm) (l : List α) (s : State) :
    (l.foldl f s).firm = s.firm :=
  List.foldlRecOn l f (motive := fun t => t.firm = s.firm) rfl fun t ht a _ => (hf t a).trans ht

section Sends

variable (s : State)

theorem State.firm_originate (t : FType) (dst : Option Nat) (ws : List Word) : (s.originate t dst ws).firm = s.firm := by
  refine State.firm_of_still (State.Emits.originate 0 s t dst ws).still ?_
  unfold State.originate
  split
  · exact Ring.nidCfg_originate ..
  · rfl

theorem State.firm_complete (c : Compl) : (s.complete c).firm = s.firm := by
  unfold State.complete
  split
  · rfl
  · exact s.firm_originate ..

theorem State.firm_attention (w : Word) : (s.attention w).firm = s.firm := by
  unfold State.attention
  split
  · rfl
  · refine (State.firm_foldl _ (fun u m => u.firm_originate ..) _ _).trans ?_
    split <;> rfl

theorem State.firm_emit (o : Out) : (s.emit o).firm = s.firm := by
  unfold State.emit
  split
  · exact s.firm_originate ..
  · exact s.firm_attention _
  · exact s.firm_attention _
  · rfl

theorem State.firm_journal (x : JEntry) : ({ s with hub := s.hub.journal x } : State).firm = s.firm := by
  rw [Hub.journal_eq]
  rfl

theorem State.firm_jTake (n : Nat) (x : JEntry) : (s.jTake n x).firm = s.firm := by
  unfold State.jTake
  split
  · rfl
  · exact s.firm_journal x

theorem State.firm_flush (n : Nat) : (s.flush n).firm = s.firm := by
  simp only [State.flush]
  split
  · rfl
  · exact (State.firm_foldl _ (fun u o => u.firm_emit o) _ _).trans
      ((State.firm_foldl _ (fun u c => u.firm_complete c) _ _).trans (State.firm_foldl _ (fun u x => u.firm_jTake n x) _ _))

theorem State.firm_onCh (n : Nat) (f : Env → Chan → Chan) : (s.onCh n f).firm = s.firm := by
  unfold State.onCh
  split
  · exact State.firm_flush _ n
  · rfl

end Sends

/-- t is s after tests of its dies have ended: nothing else of the state has changed, and every channel is what it was but for
what the end of a test gives back to it. -/
def State.Ends (s t : State) : Prop := t.firm = s.firm ∧ ∀ n, n < 4 → Chan.Lasts (s.ch n) (t.ch n)

namespace State.Ends

variable {s t u : State}

theorem refl (s : State) : State.Ends s s := ⟨rfl, fun _ _ => .refl _⟩

theorem trans (h : State.Ends s t) (g : State.Ends t u) : State.Ends s u :=
  ⟨g.1.trans h.1, fun n hn => (h.2 n hn).trans (g.2 n hn)⟩

theorem foldl {α : Type} (f : State → α → State) (hf : ∀ u a, State.Ends u (f u a)) (l : List α) (s : State) :
    State.Ends s (l.foldl f s) :=
  List.foldlRecOn l f (motive := fun t => State.Ends s t) (refl s) fun t ht a _ => ht.trans (hf t a)

/-- What changes no channel. -/
theorem sent (hf : t.firm = s.firm) (hc : t.chans = s.chans) : State.Ends s t := by
  refine ⟨hf, fun n _ => ?_⟩
  simp only [State.ch, hc]
  exact .refl _

theorem onCh (s : State) (n : Nat) (f : Env → Chan → Chan) (hf : ∀ e k, Chan.Lasts k (f e k)) : State.Ends s (s.onCh n f) := by
  refine ⟨s.firm_onCh n f, fun m hm => ?_⟩
  by_cases hmn : m = n
  · subst hmn
    rw [s.onCh_ch_same m f hm]
    exact (hf _ _).trans (Chan.lasts_after s m _)
  · rw [s.onCh_ch_other n f m hmn]
    exact .refl _

theorem complete (s : State) (c : Compl) : State.Ends s (s.complete c) := by
  obtain ⟨-, hch, -⟩ := s.complete_frame c
  exact sent (s.firm_complete c) hch

theorem jTake (s : State) (n : Nat) (x : JEntry) : State.Ends s (s.jTake n x) := by
  obtain ⟨-, hch, -⟩ := s.jTake_frame n x
  exact sent (s.firm_jTake n x) hch

theorem hubJr (s : State) (ev : JEv) (data : List Int) (safe : Bool) : State.Ends s (s.hubJr ev data safe) :=
  sent (s.firm_journal _) rfl

end State.Ends

/-- What a test gives back to its block is nothing that lasts. -/
theorem Chan.lasts_cobLeave (k : Chan) (r : CobRun) : Chan.Lasts k (k.cobLeave r) := by
  have h := Chan.Lasts.refl k
  unfold Chan.cobLeave
  split
  · exact .branch (h.met _ rfl rfl) h
  · exact .branch h h
  · exact .branch h h
  · exact h

section Tests

variable (s : State)

theorem State.ends_cobLeave (r : CobRun) : State.Ends s (s.cobLeave r) := by
  unfold State.cobLeave
  split
  · exact .sent rfl rfl
  · split
    · exact .onCh s _ _ fun _ k => k.lasts_cobLeave r
    · exact .refl s

theorem State.ends_cobDone : State.Ends s s.cobDone :=
  State.Ends.trans (t := { s with hub.cob.jobs := s.hub.cob.jobs.filter fun (j : CobJob) => decide (j.left ≠ []) })
    (.sent rfl rfl) (.foldl _ (fun u _ => .complete u _) _ _)

theorem State.ends_cobFinish (r : CobRun) (res : Nat) (detail : BitVec 8) : State.Ends s (s.cobFinish r res detail) := by
  have hj (c : Cob) (j : JEntry) :
      let w : State := { s.cobLeave r with hub := { (s.cobLeave r).hub with cob := c } }
      State.Ends (s.cobLeave r) (if r.task.die = 4 then { w with hub := w.hub.journal j } else w.jTake r.task.die j) := by
    intro w
    have hw : State.Ends (s.cobLeave r) w := .sent rfl rfl
    split
    · exact hw.trans (.sent (w.firm_journal j) rfl)
    · exact hw.trans (.jTake w _ j)
  exact ((s.ends_cobLeave r).trans (hj _ _)).trans (State.ends_cobDone _)

/-- Tests that are aborted. -/
theorem State.ends_cobAbort (die : Nat) (drop : Bool) : State.Ends s (s.cobAbort die drop) := by
  have hf := State.Ends.foldl (fun (s : State) r => s.cobFinish r 3 0) (fun u r => u.ends_cobFinish r 3 0)
    (s.hub.cob.run.filter fun (r : CobRun) => decide (r.task.die = die)) s
  unfold State.cobAbort
  simp only
  split
  · exact hf.trans (State.Ends.trans (.sent rfl rfl) (State.ends_cobDone _))
  · exact hf

/-- A reset of a die ends its tests. -/
theorem State.ends_cobReset (die : Nat) : State.Ends s (s.cobReset die) :=
  (State.Ends.foldl (fun (s : State) r => s.cobLeave r) (fun u r => u.ends_cobLeave r) _ s).trans (.sent rfl rfl)

theorem State.ends_pmWake (u code : Nat) : State.Ends s (s.pmWake u code) := by
  unfold State.pmWake
  split
  · exact .sent rfl rfl
  · exact .refl s

theorem State.ends_keyOpsCut (die : Nat) : State.Ends s (s.keyOpsCut die) :=
  State.Ends.trans (t := { s with xfers := s.xfers.filter fun (x : Xfer) => !(decide (x.die = die) && decide (x.d.opcode = 0x0701)) })
    (.sent rfl rfl) (.foldl _ (fun u _ => .complete u _) _ _)

end Tests

end Sys2Proof.Machine

namespace Sys2Proof.Machine

/-! ### What a reset and a power failure leave stored -/

/-- k has the keys of a and what the ledger of a has written. -/
def Chan.Stored (a k : Chan) : Prop :=
  k.key.slots = a.key.slots ∧ k.ledg.slots = a.ledg.slots ∧ k.ledg.r.seqNext = a.ledg.r.seqNext

namespace Chan.Stored

variable {a k z : Chan}

theorem refl (a : Chan) : Chan.Stored a a := ⟨rfl, rfl, rfl⟩

theorem trans (h : Chan.Stored a k) (g : Chan.Stored k z) : Chan.Stored a z := by
  obtain ⟨hkey, hslots, hseq⟩ := h
  obtain ⟨gkey, gslots, gseq⟩ := g
  exact ⟨gkey.trans hkey, gslots.trans hslots, gseq.trans hseq⟩

theorem of_lasts (h : Chan.Lasts a k) : Chan.Stored a k := by
  obtain ⟨-, hkey, -, -, ⟨hsl, hseq, -⟩, -⟩ := h
  exact ⟨(congrArg Key.slots hkey :), hsl, hseq⟩

end Chan.Stored

/-- t has what the dies of s keep without power: their keys, the records written and the hub's settings of the tamper
inputs. -/
def State.Stored (s t : State) : Prop :=
  t.hub.key.slots = s.hub.key.slots ∧ t.hub.key.r.tampCfg = s.hub.key.r.tampCfg ∧ ∀ n, n < 4 → Chan.Stored (s.ch n) (t.ch n)

namespace State.Stored

variable {s t u : State}

theorem refl (s : State) : State.Stored s s := ⟨rfl, rfl, fun _ _ => .refl _⟩

theorem trans (h : State.Stored s t) (g : State.Stored t u) : State.Stored s u := by
  obtain ⟨hkey, hcfg, hch⟩ := h
  obtain ⟨gkey, gcfg, gch⟩ := g
  exact ⟨gkey.trans hkey, gcfg.trans hcfg, fun n hn => (hch n hn).trans (gch n hn)⟩

theorem foldl {α : Type} (f : State → α → State) (hf : ∀ u a, State.Stored u (f u a)) (l : List α) (s : State) :
    State.Stored s (l.foldl f s) :=
  List.foldlRecOn l f (motive := fun t => State.Stored s t) (refl s) fun t ht a _ => ht.trans (hf t a)

theorem of_firm (h : t.firm = s.firm) (hc : ∀ n, n < 4 → Chan.Stored (s.ch n) (t.ch n)) : State.Stored s t :=
  ⟨congrArg Key.slots (State.key_of_firm h), congrArg (fun k : Key => k.r.tampCfg) (State.key_of_firm h), hc⟩

theorem onCh (s : State) (n : Nat) (f : Env → Chan → Chan) (hf : ∀ e k, Chan.Stored k (f e k)) : State.Stored s (s.onCh n f) := by
  refine of_firm (s.firm_onCh n f) fun m hm => ?_
  by_cases hmn : m = n
  · subst hmn
    rw [s.onCh_ch_same m f hm]
    exact (hf _ _).trans (.of_lasts (Chan.lasts_after s m _))
  · rw [s.onCh_ch_other n f m hmn]
    exact .refl _

end State.Stored

/-! #### Changes of several channels in turn -/

/-- What is firm stays, and channel n. -/
def State.Beside (n : Nat) (s t : State) : Prop := t.firm = s.firm ∧ t.ch n = s.ch n

namespace State.Beside

variable {n m : Nat} {s t u : State}

theorem refl (n : Nat) (s : State) : State.Beside n s s := ⟨rfl, rfl⟩

theorem trans (h : State.Beside n s t) (g : State.Beside n t u) : State.Beside n s u := ⟨g.1.trans h.1, g.2.trans h.2⟩

theorem onCh (s : State) (f : Env → Chan → Chan) (hn : n ≠ m) : State.Beside n s (s.onCh m f) :=
  ⟨s.firm_onCh m f, s.onCh_ch_other m f n hn⟩

section Fold

variable (f : State → Nat → State) (hf : ∀ u m, n ≠ m → State.Beside n u (f u m)) (l : List Nat)
include hf

/-- A fold over channels whose step touches its own channel only leaves every other channel. -/
theorem foldl_away (hn : n ∉ l) (s : State) : State.Beside n s (l.foldl f s) := by
  induction l generalizing s with
  | nil => exact refl n s
  | cons m l ih =>
    obtain ⟨hm, hl⟩ := not_or.mp (List.mem_cons.not.mp hn)
    exact (hf s m hm).trans (ih hl _)

/-- What it does at a channel is its step at that channel. -/
theorem foldl_at (hl : l.Nodup) (hn : n ∈ l) (s : State) : ∃ u, State.Beside n s u ∧ State.Beside n (f u n) (l.foldl f s) := by
  induction l generalizing s with
  | nil => cases hn
  | cons m l ih =>
    obtain ⟨hm, hl⟩ := List.nodup_cons.mp hl
    by_cases hnm : n = m
    · subst hnm
      exact ⟨s, refl n s, foldl_away f hf l hm _⟩
    · obtain ⟨u, hu, hz⟩ := ih hl ((List.mem_cons.mp hn).resolve_left hnm) (f s m)
      exact ⟨u, (hf s m hnm).trans hu, hz⟩

end Fold

end State.Beside

/-! ### Resets (R710, R711) -/

section SoleReset

variable (s : State) (n : Nat) (cause : ChRstCause → ChRstCause)

theorem State.soleReset_firm : (s.soleReset n cause).firm = s.firm :=
  ((State.firm_onCh (s.cobReset n) n fun e k => k.toReset e cause).trans (s.ends_cobReset n).1 :)

theorem State.Beside.soleReset (m : Nat) (hmn : m ≠ n) : State.Beside m s (s.soleReset n cause) := by
  obtain ⟨-, -, -, hother, -⟩ := s.cobReset_over n
  have hz := (State.Beside.onCh (s.cobReset n) (fun e k => k.toReset e cause) hmn).2
  exact ⟨s.soleReset_firm n cause, hz.trans (hother m hmn)⟩

/-- The channel of a Sole that enters reset, but for what the end of its tests gives back to it. -/
theorem State.soleReset_ch (hn : n < 4) :
    ∃ k e, Chan.Lasts (s.ch n) k ∧ (s.soleReset n cause).ch n = (k.toReset e cause).emptied := by
  let t := s.cobReset n
  refine ⟨t.ch n, t.env, (s.ends_cobReset n).2 n hn, ?_⟩
  exact t.onCh_ch_same n (fun e k => k.toReset e cause) hn

theorem State.soleReset_stored : State.Stored s (s.soleReset n cause) := by
  refine .of_firm (s.soleReset_firm n cause) fun m hm => ?_
  by_cases hmn : m = n
  · subst hmn
    obtain ⟨k, e, hk, hz⟩ := s.soleReset_ch m cause hm
    rw [hz]
    exact (Chan.Stored.of_lasts hk).trans ⟨rfl, rfl, rfl⟩
  · rw [(State.Beside.soleReset s n cause m hmn).2]
    exact .refl _

end SoleReset

/-- Registers of the hub without those of its firmware. -/
def HubRegs.noFw (r : HubRegs) : HubRegs := { r with fwStatus := {}, fwVer := 0, fwNext := 0 }

/-- A channel without the registers of its firmware. -/
def Chan.noFw (k : Chan) : Chan := { k with core := { k.core with r := { k.core.r with fwStatus := {}, fwVer := 0, fwNext := 0 } } }

/-- A hub without the registers of its firmware. -/
def Hub.noFw (h : Hub) : Hub := { h with r := h.r.noFw }

/-- t is s but for what registers show of the firmware of the dies (R577, R578). -/
def State.FwSeen (s t : State) : Prop :=
  t.hub.noFw = s.hub.noFw ∧ t.now = s.now ∧ t.pwr = s.pwr ∧ t.xfers = s.xfers ∧ ∀ n, (t.ch n).noFw = (s.ch n).noFw

namespace State.FwSeen

variable {s t : State}

theorem refl (s : State) : s.FwSeen s := ⟨rfl, rfl, rfl, rfl, fun _ => rfl⟩

theorem setCh (h : s.FwSeen t) (u : Nat) (k : Chan) (hu : u < 4) (hk : k.noFw = (t.ch u).noFw) : s.FwSeen (t.setCh u k) := by
  obtain ⟨hhub, hnow, hpwr, hx, hch⟩ := h
  refine ⟨hhub, hnow, hpwr, hx, fun n => ?_⟩
  by_cases hn : n = u
  · subst hn
    rw [State.ch_setCh_same _ _ _ hu, hk]
    exact hch n
  · rw [State.ch_setCh_other _ _ _ _ hn]
    exact hch n

theorem fwView (h : s.FwSeen t) (u : Nat) : s.FwSeen (t.fwView u) := by
  unfold State.fwView
  simp only
  split
  · rename_i hu
    exact h.setCh u _ hu rfl
  · split <;> exact h

theorem all (s : State) : s.FwSeen ((List.range 5).foldl (fun (s : State) u => s.fwView u) s) :=
  List.foldlRecOn (List.range 5) (fun (s : State) u => s.fwView u) (motive := fun t => s.FwSeen t)
    (refl s) fun _ ht u _ => ht.fwView u

end State.FwSeen

section HubReset

variable (s : State) (run : Nat) (cause : HubRstCause → HubRstCause)

/-- What a hub reset makes of the state, before the firmware registers follow. -/
theorem State.hubReset_seen :
    ∃ w : State, w.FwSeen (s.hubReset run cause) ∧ w.pwr = (s.cobReset 4).pwr ∧ w.chans = (s.cobReset 4).chans ∧ w.xfers = []
      ∧ w.hub.run = run ∧ w.hub.jnl = [] ∧ w.hub.jbuf = [] ∧ w.hub.key = (s.cobReset 4).hub.key.boot
      ∧ w.hub.ring.r.nidCfg = (s.cobReset 4).hub.ring.r.nidCfg ∧ w.hub.r.rstCause = cause (s.cobReset 4).hub.r.rstCause
      ∧ w.hub.r.wdt = (s.cobReset 4).hub.r.wdt := by
  unfold State.hubReset
  generalize s.cobReset 4 = t
  exact ⟨_, State.FwSeen.all _, rfl, rfl, rfl, rfl, rfl, rfl, rfl, rfl, rfl, rfl⟩

/-- The hub enters reset: what it keeps, and that the Soles and the supply stand as they were (R710, R711). -/
theorem State.hubReset_keeps :
    let z := s.hubReset run cause
    z.pwr = s.pwr ∧ z.xfers = [] ∧ z.hub.run = run ∧ z.hub.jnl = [] ∧ z.hub.jbuf = [] ∧ z.hub.key = s.hub.key.boot
      ∧ z.hub.ring.r.nidCfg = s.hub.ring.r.nidCfg ∧ z.hub.r.rstCause = cause s.hub.r.rstCause ∧ z.hub.r.wdt = s.hub.r.wdt
      ∧ ∀ n, (z.ch n).noFw = (s.ch n).noFw := by
  intro z
  obtain ⟨w, ⟨zhub, -, zpwr, zx, zch⟩, wpwr, wch, wx, wrun, wjnl, wjbuf, wkey, wnid, wrst, wwdt⟩ := s.hubReset_seen run cause
  have hfirm := (s.ends_cobReset 4).1
  obtain ⟨-, -, -, -, -, hchans⟩ := s.cobReset_over 4
  rw [State.key_of_firm hfirm] at wkey
  rw [State.nidCfg_of_firm hfirm] at wnid
  rw [State.hubRegs_of_firm hfirm] at wrst wwdt
  have zr : z.hub.r.noFw = w.hub.r.noFw := congrArg Hub.r zhub
  refine ⟨zpwr.trans (wpwr.trans (State.pwr_of_firm hfirm)), zx.trans wx, ?_, ?_, ?_, ?_, ?_, ?_, ?_, fun n => (zch n).trans ?_⟩
  · exact (congrArg Hub.run zhub :).trans wrun
  · exact (congrArg Hub.jnl zhub :).trans wjnl
  · exact (congrArg Hub.jbuf zhub :).trans wjbuf
  · exact (congrArg Hub.key zhub :).trans wkey
  · exact (congrArg (fun h : Hub => h.ring.r.nidCfg) zhub :).trans wnid
  · exact (congrArg HubRegs.rstCause zr :).trans wrst
  · exact (congrArg HubRegs.wdt zr :).trans wwdt
  · exact congrArg (fun v => (vget v n {} : Chan).noFw) (wch.trans (hchans (Nat.le_refl 4)))

theorem State.hubReset_stored : State.Stored s (s.hubReset run cause) := by
  obtain ⟨-, -, -, -, -, hkey, -, -, -, hch⟩ := s.hubReset_keeps run cause
  refine ⟨(congrArg Key.slots hkey :), (congrArg (fun k : Key => k.r.tampCfg) hkey :), fun n _ => ⟨?_, ?_, ?_⟩⟩
  · exact (congrArg (fun k : Chan => k.key.slots) (hch n) :)
  · exact (congrArg (fun k : Chan => k.ledg.slots) (hch n) :)
  · exact (congrArg (fun k : Chan => k.ledg.r.seqNext) (hch n) :)

end HubReset

end Sys2Proof.Machine

namespace Sys2Proof.Machine

/-! ### The release of the Soles (R701) -/

/-- A channel whose Sole has left reset. -/
def Chan.freed (k : Chan) : Chan := ({ k with core := { k.core with run := 1 } } : Chan).emptied

/-- Channel n after the Soles that nothing holds left reset: their rails are on and their power state is not OFF. -/
def State.freedCh (s : State) (n : Nat) : Chan :=
  if (s.ch n).core.run = 0 ∧ (s.ch n).core.pm ≠ 4 ∧ s.pwr.off.getLsbD n = false then (s.ch n).freed else s.ch n

/-- The step of `State.release` at one Sole. -/
def State.freeSole (s : State) (n : Nat) : State :=
  if (s.ch n).core.run = 0 ∧ (s.ch n).core.pm ≠ 4 ∧ !s.pwr.off.getLsbD n then
    s.onCh n (fun _ k => { k with core := { k.core with run := 1 } })
  else s

theorem State.firm_freeSole (s : State) (n : Nat) : (s.freeSole n).firm = s.firm := by
  unfold State.freeSole
  split
  · exact s.firm_onCh n _
  · rfl

theorem State.Beside.freeSole (s : State) {n m : Nat} (hn : n ≠ m) : State.Beside n s (s.freeSole m) := by
  unfold State.freeSole
  split
  · exact .onCh s _ hn
  · exact .refl n s

theorem State.freeSole_ch (s : State) (n : Nat) (hn : n < 4) : (s.freeSole n).ch n = s.freedCh n := by
  unfold State.freeSole State.freedCh
  simp only [Bool.not_eq_true']
  split
  · rw [s.onCh_ch_same n _ hn]
    rfl
  · rfl

/-- Nothing holds the Soles: VHOLD_OK is set, RESET_N is high and the rails are on. -/
def State.Rising (s : State) : Prop :=
  s.hub.r.rstStatus.vholdOk = true ∧ s.pwr.pin = false ∧ s.pwr.rails = true ∧ s.pwr.tPf = none

theorem State.release_held (s : State) (h : ¬s.Rising) : s.release = s := by
  unfold State.release
  rw [if_pos]
  by_contra hc
  simp only [Bool.not_eq_true', not_or, Bool.not_eq_false, Bool.not_eq_true, Option.isSome_eq_false_iff, Option.isNone_iff_eq_none] at hc
  exact h hc

theorem State.release_free (s : State) (h : s.Rising) : s.release.firm = s.firm ∧ ∀ n, n < 4 → s.release.ch n = s.freedCh n := by
  obtain ⟨hv, hpin, hrails, ht⟩ := h
  have hr : s.release = (List.range 4).foldl State.freeSole s := by
    unfold State.release
    rw [if_neg (by simp [hv, hpin, hrails, ht])]
    rfl
  rw [hr]
  refine ⟨State.firm_foldl _ State.firm_freeSole _ s, fun n hn => ?_⟩
  obtain ⟨u, ⟨hufirm, huch⟩, -, hz⟩ := State.Beside.foldl_at State.freeSole (fun u _ hnm => .freeSole u hnm) _ List.nodup_range
    (List.mem_range.mpr hn) s
  rw [hz, State.freeSole_ch u n hn]
  unfold State.freedCh
  rw [huch, State.pwr_of_firm hufirm]

/-- A release changes no Sole that is out of reset. -/
theorem State.release_ch_running (s : State) (n : Nat) (hn : n < 4) (h : (s.ch n).core.run ≠ 0) : s.release.ch n = s.ch n := by
  by_cases hr : s.Rising
  · rw [(s.release_free hr).2 n hn, State.freedCh, if_neg fun hc => h hc.1]
  · rw [s.release_held hr]

theorem State.release_firm (s : State) : s.release.firm = s.firm := by
  by_cases hr : s.Rising
  · exact (s.release_free hr).1
  · rw [s.release_held hr]

theorem State.freedCh_run (s : State) (n : Nat) :
    (s.freedCh n).core.pm = (s.ch n).core.pm ∧ (s.freedCh n).core.run
      = if (s.ch n).core.run = 0 ∧ (s.ch n).core.pm ≠ 4 ∧ s.pwr.off.getLsbD n = false then 1 else (s.ch n).core.run := by
  unfold State.freedCh
  split <;> exact ⟨rfl, rfl⟩

/-! ### The power-fail warning at a Sole (R320, R707) -/

theorem Pwm.trip_ne_run (p : Pwm) (src : TripSrc) : (p.trip src).1.r.status.state ≠ .run := by
  by_cases h : p.r.status.state = .run
  · obtain ⟨-, ht, -⟩ := p.trip_run src h
    rw [ht]
    exact nofun
  · have ht : p.trip src = (p, false) := if_pos h
    rw [ht]
    exact h

theorem Chan.Lasts.loopFault {a k : Chan} {e : Env} (h : Chan.Lasts a k) : Chan.Lasts a (k.loopFault e) := by
  unfold Chan.loopFault
  cases k.loop.swap with
  | none =>
    simp only
    split <;> exact h
  | some sw =>
    simp only
    split <;> exact h

/-- The gate inhibit stops the modulator and takes away nothing else that lasts (R84). -/
theorem Chan.shkInhibit_lasts (k : Chan) (e : Env) :
    Chan.Lasts k (k.shkInhibit e) ∧ (k.shkInhibit e).shk.r.status.inhibit = true ∧ (k.shkInhibit e).pwm.r.status.state ≠ .run := by
  let k' : Chan := { k with shk.r.status.inhibit := true }
  have hk : Chan.Lasts k k' := (Chan.Lasts.refl k).shk k'.shk fun _ => rfl
  have hne := k'.pwm.trip_ne_run .shank
  have hp := (Chan.Lasts.refl k').pwm (k'.pwm.trip .shank).1 fun _ => hne
  have hz : Chan.Lasts k' (k'.gateTrip e .shank) ∧ (k'.gateTrip e .shank).pwm.r.status.state ≠ .run := by
    unfold Chan.gateTrip
    simp only
    split
    · refine ⟨.loopFault ?_, ?_⟩
      · exact hp.trigger 0
      · rw [(Chan.loopFault_at _ e).1]
        exact hne
    · exact ⟨hp, hne⟩
  obtain ⟨hz, hzne⟩ := hz
  obtain ⟨-, -, -, -, -, -, hinh, -⟩ := id hz
  exact ⟨hk.trans hz, hinh rfl, hzne⟩

/-- k is what the power-fail warning makes of a Sole: its gates are low and its legal code has committed. -/
def Chan.Failed (a k : Chan) : Prop :=
  Chan.Stored a k ∧ k.core.run = a.core.run ∧ k.core.pfail = true ∧ k.shk.r.status.inhibit = true ∧ k.pwm.r.status.state ≠ .run
    ∧ k.ledg.committed = true ∧ k.ledg.r.pfail.pfailCnt = satInc a.ledg.r.pfail.pfailCnt
    ∧ (k.met.eImp = a.met.eImp ∧ k.met.eExp = a.met.eExp) ∧ (k.ledg.nv.eImp = a.met.eImp ∧ k.ledg.nv.eExp = a.met.eExp)

theorem Chan.pfail_failed (k : Chan) (e : Env) : Chan.Failed k (k.pfail e) := by
  let k' : Chan := { k with core := { k.core with pfail := true }, shk := { k.shk with r.status.disReq := true } }
  obtain ⟨hl, hinh, hne⟩ := k'.shkInhibit_lasts e
  have hst := Chan.Stored.of_lasts hl
  obtain ⟨hcore, -, -, hmet, ⟨-, -, hpf, -⟩, -⟩ := hl
  have hcnt : (k'.shkInhibit e).ledg.r.pfail.pfailCnt = k.ledg.r.pfail.pfailCnt := congrArg LedgPfail.pfailCnt hpf
  exact ⟨hst, (congrArg Core.run hcore :), (congrArg Core.pfail hcore :), hinh, hne, rfl, congrArg satInc hcnt, hmet, hmet⟩

theorem Chan.Failed.lasts {a k z : Chan} (h : Chan.Failed a k) (g : Chan.Lasts k z) : Chan.Failed a z := by
  obtain ⟨hst, hrun, hpf, hinh, hpwm, hcm, hcnt, hmet, hnv⟩ := h
  have gst := Chan.Stored.of_lasts g
  obtain ⟨gcore, -, -, ⟨gi, ge⟩, ⟨-, -, gpf, gcm, -⟩, gnv, ginh, gpwm⟩ := g
  rw [hmet.1, hmet.2] at gnv
  exact ⟨hst.trans gst, (congrArg Core.run gcore :).trans hrun, (congrArg Core.pfail gcore :).trans hpf, ginh hinh, gpwm hpwm,
    gcm.trans hcm, (congrArg LedgPfail.pfailCnt gpf).trans hcnt, ⟨gi.trans hmet.1, ge.trans hmet.2⟩, gnv hnv⟩

theorem Chan.Failed.of_lasts {a k z : Chan} (h : Chan.Lasts a k) (g : Chan.Failed k z) : Chan.Failed a z := by
  have hst := Chan.Stored.of_lasts h
  obtain ⟨hcore, -, -, ⟨hi, he⟩, ⟨-, -, hpf, -⟩, -⟩ := h
  obtain ⟨gst, grun, gpf, ginh, gpwm, gcm, gcnt, gmet, gnv⟩ := g
  rw [hi, he] at gmet gnv
  exact ⟨hst.trans gst, grun.trans (congrArg Core.run hcore :), gpf, ginh, gpwm, gcm, gcnt.trans (congrArg (fun p => satInc p.pfailCnt) hpf),
    gmet, gnv⟩

/-! ### The commit of the module (R707) -/

/-- The Soles that run their legal code. -/
def State.legalSoles (s : State) : List Nat :=
  (List.range 4).filter fun n => decide ((s.ch n).core.run = 2) || (decide ((s.ch n).core.run = 3) && !(s.ch n).core.r.boot.lcodeBad)

/-- s after its Soles have committed. -/
def State.commitSoles (s : State) : State := s.legalSoles.foldl (fun (s : State) n => s.onCh n (fun e k => k.pfail e)) s

/-- The dies whose commit has to complete, as bits. -/
def State.mustMask (s : State) : BitVec 5 :=
  (s.legalSoles ++ if decide (2 ≤ s.hub.run) = true then [4] else []).foldl (fun (m : BitVec 5) i => msetb m i true) 0

/-- No commit takes place (R709), or the Soles commit, and the supply and the hub's count of commits follow. -/
theorem State.commitAll_cases (s : State) :
    (s.legalSoles = [] ∧ s.commitAll = s)
      ∨ ∃ (p : PowerDie) (c : BitVec 16), s.commitAll = { s.commitSoles with
            pwr := p
            hub := { s.commitSoles.hub with r := { s.commitSoles.hub.r with holdup := { s.commitSoles.hub.r.holdup with pfCnt := c } } } }
          ∧ p.must = s.mustMask ∧ (2 ≤ s.hub.run → c = satInc s.commitSoles.hub.r.holdup.pfCnt) := by
  unfold State.commitAll
  simp only
  split
  · rename_i h
    exact .inl ⟨List.isEmpty_iff.mp h.1, rfl⟩
  · refine .inr ?_
    by_cases hr : 2 ≤ s.hub.run
    · simp only [hr, decide_true, if_true]
      refine ⟨_, _, rfl, ?_, fun _ => rfl⟩
      simp only [State.mustMask, hr, decide_true, if_true]
      rfl
    · simp only [hr, decide_false, Bool.false_eq_true, if_false]
      refine ⟨_, s.commitSoles.hub.r.holdup.pfCnt, rfl, ?_, fun h => h.elim⟩
      simp only [State.mustMask, hr, decide_false, Bool.false_eq_true, if_false]
      rfl

theorem State.mem_legalSoles {s : State} {n : Nat} (h : n ∈ s.legalSoles) : n < 4 :=
  List.mem_range.mp (List.mem_filter.mp h).1

theorem State.legalSoles_of_run {s : State} {n : Nat} (hn : n < 4) (h : (s.ch n).core.run = 2) : n ∈ s.legalSoles :=
  List.mem_filter.mpr ⟨List.mem_range.mpr hn, by simp [h]⟩

theorem State.commitSoles_firm (s : State) : s.commitSoles.firm = s.firm := State.firm_foldl _ (fun u n => u.firm_onCh n _) _ s

theorem State.commitSoles_stored (s : State) : State.Stored s s.commitSoles :=
  .foldl _ (fun u n => .onCh u n _ fun e k => (k.pfail_failed e).1) _ s

theorem State.commitSoles_failed (s : State) (n : Nat) (h : n ∈ s.legalSoles) : Chan.Failed (s.ch n) (s.commitSoles.ch n) := by
  obtain ⟨u, ⟨-, huch⟩, -, hz⟩ := State.Beside.foldl_at (fun (s : State) n => s.onCh n (fun e k => k.pfail e))
    (fun u _ hnm => .onCh u _ hnm) s.legalSoles (List.nodup_range.filter _) h s
  have hn := State.mem_legalSoles h
  have hz : s.commitSoles.ch n = _ := hz.trans (u.onCh_ch_same n _ hn)
  rw [hz, ← huch]
  exact ((u.ch n).pfail_failed u.env).lasts (Chan.lasts_after u n _)

/-- A commit leaves what is stored, the keys and the causes of the last reset. -/
theorem State.commitAll_keeps (s : State) :
    s.commitAll.hub.r.rstCause = s.hub.r.rstCause ∧ State.Stored s s.commitAll := by
  rcases s.commitAll_cases with ⟨-, hz⟩ | ⟨p, c, hz, -, -⟩
  · rw [hz]
    exact ⟨rfl, .refl s⟩
  · rw [hz]
    exact ⟨(congrArg (fun u : State => u.hub.r.rstCause) s.commitSoles_firm :), s.commitSoles_stored⟩

/-- The bits that are set in a mask of which the bits of a list were set one after the other. -/
theorem mbit_setList {N : Nat} (l : List Nat) (m : BitVec N) (i : Nat) (hi : i < N) :
    mbit (l.foldl (fun (m : BitVec N) i => msetb m i true) m) i = (decide (i ∈ l) || mbit m i) := by
  induction l generalizing m with
  | nil => simp
  | cons g l ih =>
    rw [List.foldl_cons, ih, mbit_msetb]
    by_cases hg : i = g
    · simp [hg, hg ▸ hi]
    · simp [hg]

/-- The power-fail warning at a Sole that runs, and at the hub: each commits (R320, R707). -/
theorem State.commitAll_due (s : State) (n : Nat) (hn : n < 4) (h : (s.ch n).core.run = 2) :
    Chan.Failed (s.ch n) (s.commitAll.ch n) ∧ s.commitAll.pwr.must.getLsbD n = true
      ∧ (2 ≤ s.hub.run → s.commitAll.pwr.must.getLsbD 4 = true ∧ s.commitAll.hub.r.holdup.pfCnt = satInc s.hub.r.holdup.pfCnt) := by
  have hl := State.legalSoles_of_run hn h
  rcases s.commitAll_cases with ⟨hnil, -⟩ | ⟨p, c, hz, hmust, hc⟩
  · rw [hnil] at hl
    cases hl
  · rw [hz]
    have hbit (i : Nat) (hi : i < 5) (hm : i ∈ s.legalSoles ++ if decide (2 ≤ s.hub.run) = true then [4] else []) :
        p.must.getLsbD i = true := by
      rw [hmust]
      refine (mbit_setList _ 0 i hi).trans ?_
      rw [decide_eq_true hm, Bool.true_or]
    refine ⟨s.commitSoles_failed n hl, hbit n (by omega) (List.mem_append_left _ hl), fun hr => ⟨hbit 4 (by decide) ?_, ?_⟩⟩
    · simp [hr]
    · rw [← State.hubRegs_of_firm s.commitSoles_firm]
      exact hc hr

/-- What the power-fail warning makes of a state on which nothing else was done first. -/
theorem State.commitAll_ends {s t : State} (hst : State.Ends s t) (n : Nat) (hn : n < 4) (h : (s.ch n).core.run = 2) :
    Chan.Failed (s.ch n) (t.commitAll.ch n) ∧ t.commitAll.pwr.must.getLsbD n = true
      ∧ (2 ≤ s.hub.run → t.commitAll.pwr.must.getLsbD 4 = true ∧ t.commitAll.hub.r.holdup.pfCnt = satInc s.hub.r.holdup.pfCnt) := by
  obtain ⟨hfirm, hch⟩ := hst
  have hl := hch n hn
  have hrun : (t.ch n).core.run = 2 := (congrArg Core.run hl.1 :).trans h
  obtain ⟨hf, hm, h4⟩ := t.commitAll_due n hn hrun
  rw [State.run_of_firm hfirm, State.hubRegs_of_firm hfirm] at h4
  exact ⟨.of_lasts hl hf, hm, h4⟩

/-! ### The end of a commit (R709) -/

/-- The rails are off: a commit that had its time is complete, and what is stored of the others stays (R709). -/
theorem State.commitEnd_keeps (s : State) (t0 : Nat) : (s.commitEnd t0).pwr.must = s.pwr.must ∧ State.Stored s (s.commitEnd t0) := by
  unfold State.commitEnd
  refine List.foldlRecOn (List.range 5) _ (motive := fun t : State => t.pwr.must = s.pwr.must ∧ State.Stored s t) ⟨rfl, .refl s⟩ ?_
  rintro t ht d -
  by_cases hfull : msNs (if d = 4 then 12 else 10) ≤ s.now - t0
  · simp only [hfull, decide_true, Bool.true_or, if_true]
    split <;> exact ht
  · simp only [hfull, decide_false, Bool.false_or, Bool.false_eq_true, if_false]
    split
    · exact ht
    · split
      · exact ht
      · split
        · exact ht
        · split
          · rename_i u _
            have hs := State.Stored.onCh t.hubFree.2 d (fun _ k => k.undo u (t.hubFree.1.getLsbD 1)) fun _ _ => ⟨rfl, rfl, rfl⟩
            have hp := State.pwr_of_firm (t.hubFree.2.firm_onCh d fun _ k => k.undo u (t.hubFree.1.getLsbD 1))
            exact ⟨(congrArg PowerDie.must hp :).trans ht.1, ht.2.trans hs⟩
          · exact ht

/-- The bits of a mask set one after the other make the mask. -/
theorem foldl_msetb_self : ∀ m : BitVec 5, (List.range 5).foldl (fun x d => if m.getLsbD d then msetb x d true else x) 0 = m := by
  decide

/-- s with the commits of a mask complete. -/
def State.withDone (s : State) (m : BitVec 5) : State := { s with pwr := { s.pwr with done := m } }

/-- Five steps that complete one commit each where it had to complete complete them all. -/
theorem State.foldl_withDone (s : State) (hd : s.pwr.done = 0) (step : State → Nat → State)
    (h : ∀ m d, step (s.withDone m) d = s.withDone (if s.pwr.must.getLsbD d then msetb m d true else m)) :
    (List.range 5).foldl step s = s.withDone s.pwr.must := by
  have hs : s.withDone 0 = s := by
    rw [← hd]
    rfl
  calc (List.range 5).foldl step s = (List.range 5).foldl step (s.withDone 0) := by rw [hs]
    _ = s.withDone _ := List.foldl_hom s.withDone h
    _ = s.withDone s.pwr.must := congrArg s.withDone (foldl_msetb_self _)

/-- After 12 ms every commit that had to complete has done so. -/
theorem State.commitEnd_done (s : State) (t0 : Nat) (ht : t0 + msNs 12 ≤ s.now) (hd : s.pwr.done = 0) :
    (s.commitEnd t0).pwr.done = s.pwr.must := by
  have hfull (d : Nat) : msNs (if d = 4 then 12 else 10) ≤ s.now - t0 := by
    unfold msNs at ht ⊢
    split <;> omega
  have hz : s.commitEnd t0 = s.withDone s.pwr.must := by
    unfold State.commitEnd
    refine s.foldl_withDone hd _ fun m d => ?_
    simp only [hfull, decide_true, Bool.true_or, if_true]
    have hmust : (s.withDone m).pwr.must = s.pwr.must := rfl
    rw [hmust]
    cases s.pwr.must.getLsbD d <;> rfl
  rw [hz]
  rfl
end Sys2Proof.Machine

namespace Sys2Proof.Machine

/-! ### The supply (R697 to R700) -/

/-- The Soles of t stand as those of s do after the Soles that nothing holds left reset; `off`: the rails that are off. -/
def State.Released (s t : State) (off : BitVec 5) : Prop := ∀ n, n < 4 → (t.ch n).core.pm = (s.ch n).core.pm
  ∧ (t.ch n).core.run = if (s.ch n).core.run = 0 ∧ (s.ch n).core.pm ≠ 4 ∧ off.getLsbD n = false then 1 else (s.ch n).core.run

theorem State.release_released (s : State) (h : s.Rising) : s.Released s.release s.pwr.off := by
  intro n hn
  rw [(s.release_free h).2 n hn]
  exact s.freedCh_run n

/-- s with its hub released from reset. -/
def State.hubOut (s : State) : State := { s with hub := { s.hub with run := 1 } }

theorem State.rise_eq (s : State) (h : s.pwr.off.getLsbD 4 = false) : s.rise = s.hubOut.release := by
  unfold State.rise
  rw [h]
  rfl

/-- The module rises with the hub's rail on: the hub boots, and so do the Soles where VHOLD_OK is set (R701). -/
theorem State.rise_keeps (s : State) (h : s.pwr.off.getLsbD 4 = false) :
    s.rise.firm = s.hubOut.firm ∧ (s.hubOut.Rising → s.Released s.rise s.pwr.off)
      ∧ (s.hub.r.rstStatus.vholdOk = false → s.rise.chans = s.chans) := by
  rw [s.rise_eq h]
  refine ⟨s.hubOut.release_firm, s.hubOut.release_released, fun hv => ?_⟩
  rw [s.hubOut.release_held fun hr => absurd (hr.1.symm.trans hv) (by decide)]
  rfl

/-- s with VAUX valid: its rails are on, and the power-on reset has its cause recorded (R697, R709). -/
def State.powered (s : State) : State := { s with
  pwr := { s.pwr with vaux := true, rails := true, off := 0, pfEnd := none, pin := false }
  hub := { s.hub with r := { s.hub.r with
    dieStatus := { s.hub.r.dieStatus with pmOk := true }
    rstCause := { ({} : HubRstCause) with
      por := true, rail := s.hub.r.rstCause.rail
      pfailOk := decide (s.pwr.pfEnd = some true), commitLost := decide (s.pwr.pfEnd = some false) } } } }

/-- VAUX is valid while the module is down. -/
def State.VauxDue (s : State) (mv us : Nat) : Prop := s.pwr.vaux = false ∧ s.pwr.tPf = none ∧ 6000 ≤ mv ∧ 1000 ≤ us

theorem State.vauxValid_idle (s : State) (mv us : Nat) (h : ¬s.VauxDue mv us) : s.vauxValid mv us = s := by
  refine if_pos ?_
  by_contra hc
  simp only [not_or, Bool.not_eq_true, not_lt, Option.isSome_eq_false_iff, Option.isNone_iff_eq_none] at hc
  exact h hc

theorem State.vauxValid_due (s : State) (mv us : Nat) (h : s.VauxDue mv us) : s.vauxValid mv us = s.powered.rise := by
  obtain ⟨hv, ht, hmv, hus⟩ := h
  unfold State.vauxValid
  rw [if_neg (by simp [hv, ht, hmv, hus])]
  rfl

/-- VAUX_VALID with the module down: the hub boots, and the Soles where VHOLD_OK is set. -/
theorem State.powered_rise (s : State) (ht : s.pwr.tPf = none) :
    s.powered.rise.firm = s.powered.hubOut.firm ∧ (s.hub.r.rstStatus.vholdOk = true → s.Released s.powered.rise 0)
      ∧ (s.hub.r.rstStatus.vholdOk = false → s.powered.rise.chans = s.chans) := by
  have hoff : (0 : BitVec 5).getLsbD 4 = false := by decide
  obtain ⟨hfirm, hrel, hheld⟩ := s.powered.rise_keeps hoff
  exact ⟨hfirm, fun hv => hrel ⟨hv, rfl, rfl, ht⟩, hheld⟩

/-! #### VHOLD and the hold-up capacitance -/

/-- A measured value shown in 16 bits. -/
theorem toU_nat (x : Nat) : toU 16 (x : Int) = BitVec.ofNat 16 (min 65535 x) := by
  have h : satU 16 (x : Int) = min 65535 x := by
    unfold satU iclamp
    omega
  exact congrArg (BitVec.ofNat 16) h

/-- VHOLD_OK after a measurement: set at 40.0 V, clear below 38.0 V. -/
def State.vholdBit (s : State) (dv : Nat) : Bool := decide (400 ≤ dv) || (decide (380 ≤ dv) && s.hub.r.rstStatus.vholdOk)

/-- s with a measurement of VHOLD shown (R698). -/
def State.vholdSeen (s : State) (dv : Nat) : State := { s with hub := { s.hub with r := { s.hub.r with
  rstStatus := { s.hub.r.rstStatus with vholdOk := s.vholdBit dv, vhold := BitVec.ofNat 16 (min 65535 dv) } } } }

theorem State.vholdOk_eq (s : State) (dv : Nat) (h : s.pwr.rails = true) : s.vholdOk dv
    = let t := if s.hub.r.rstStatus.vholdOk && !s.vholdBit dv then (s.vholdSeen dv).hubJr JEv.vholdLow [(dv : Int)] else s.vholdSeen dv
      if s.vholdBit dv then t.release else t := by
  have hb : (if 400 ≤ dv then true else if dv < 380 then false else s.hub.r.rstStatus.vholdOk) = s.vholdBit dv := by
    unfold State.vholdBit
    by_cases h4 : 400 ≤ dv
    · simp [h4]
    · by_cases h3 : dv < 380
      · simp [h4, h3]
      · simp [h4, h3, Nat.le_of_not_lt h3]
  unfold State.vholdOk
  rw [h, if_neg (by decide)]
  simp only [hb, toU_nat]
  rfl

theorem State.vholdOk_off (s : State) (dv : Nat) (h : s.pwr.rails = false) : s.vholdOk dv = s := by
  refine if_pos ?_
  rw [h]
  rfl

/-- VHOLD too low: a VHOLD_OK that was set clears, which is journalled (R698). -/
theorem State.vholdOk_low (s : State) (dv : Nat) (h : s.pwr.rails = true) (hb : s.vholdBit dv = false) : s.vholdOk dv
    = if s.hub.r.rstStatus.vholdOk then (s.vholdSeen dv).hubJr JEv.vholdLow [(dv : Int)] else s.vholdSeen dv := by
  rw [s.vholdOk_eq dv h, hb]
  cases s.hub.r.rstStatus.vholdOk <;> rfl

/-- VHOLD_OK is set: the Soles that nothing holds leave reset (R701). -/
theorem State.vholdOk_high (s : State) (dv : Nat) (h : s.pwr.rails = true) (hb : s.vholdBit dv = true) :
    s.vholdOk dv = (s.vholdSeen dv).release := by
  rw [s.vholdOk_eq dv h, hb]
  cases s.hub.r.rstStatus.vholdOk <;> rfl

/-- s with the hold-up capacitance shown (R700). -/
def State.holdupSeen (s : State) (us : Nat) : State := { s with hub := { s.hub with r := { s.hub.r with
  holdup := { s.hub.r.holdup with cap := BitVec.ofNat 16 (min 65535 (us / 40)) }
  rstStatus := { s.hub.r.rstStatus with holdWeak := decide (us / 40 < 800) } } } }

theorem State.holdupMeasure_eq (s : State) (us : Nat) (h : s.pwr.rails = true) : s.holdupMeasure us
    = if us / 40 < 800 then (s.holdupSeen us).hubJr JEv.holdWeak [((us / 40 : Nat) : Int)] else s.holdupSeen us := by
  unfold State.holdupMeasure
  rw [h, if_neg (by decide)]
  simp only [toU_nat, decide_eq_true_eq]
  rfl

theorem State.holdupMeasure_off (s : State) (us : Nat) (h : s.pwr.rails = false) : s.holdupMeasure us = s := by
  refine if_pos ?_
  rw [h]
  rfl

/-! ### The power-fail warning (R697, R707) -/

/-- VAUX falls while the module is up. -/
def State.FailDue (s : State) (mv : Nat) : Prop := s.pwr.vaux = true ∧ s.pwr.rails = true ∧ s.pwr.tPf = none ∧ mv < 5700

theorem State.pfail_idle (s : State) (mv : Nat) (h : ¬s.FailDue mv) : s.pfail mv = s := by
  refine if_pos ?_
  by_contra hc
  simp only [not_or, Bool.not_eq_true', Bool.not_eq_false, Bool.not_eq_true, not_le, Option.isSome_eq_false_iff,
    Option.isNone_iff_eq_none] at hc
  exact h hc

/-- s with its hub awake and the tests of every die aborted. -/
def State.testsOff (s : State) : State := (List.range 5).foldl (fun (s : State) d => s.cobAbort d false) (s.pmWake 4 9)

theorem State.ends_testsOff (s : State) : State.Ends s s.testsOff :=
  (s.ends_pmWake 4 9).trans (.foldl _ (fun u d => u.ends_cobAbort d false) _ _)

/-- s with the time of its power failure. -/
def State.warned (s : State) : State := { s with pwr := { s.pwr with tPf := some s.now } }

theorem State.pfail_due (s : State) (mv : Nat) (h : s.FailDue mv) : s.pfail mv = s.testsOff.commitAll.warned := by
  obtain ⟨hv, hr, ht, hmv⟩ := h
  unfold State.pfail
  rw [if_neg (by simp [hv, hr, ht, hmv])]
  unfold State.testsOff State.warned
  rfl

theorem State.commitAll_now (s : State) : s.commitAll.now = s.now := by
  rcases s.commitAll_cases with ⟨-, hz⟩ | ⟨p, c, hz, -, -⟩
  · rw [hz]
  · rw [hz]
    exact (congrArg State.now s.commitSoles_firm :)

/-- The commit of a module whose tests have been aborted, at a Sole that runs and at the hub. -/
theorem State.testsOff_commit (s : State) : s.testsOff.commitAll.now = s.now ∧ ∀ n, n < 4 → (s.ch n).core.run = 2 →
    Chan.Failed (s.ch n) (s.testsOff.commitAll.ch n) ∧ s.testsOff.commitAll.pwr.must.getLsbD n = true
      ∧ (2 ≤ s.hub.run → s.testsOff.commitAll.pwr.must.getLsbD 4 = true
        ∧ s.testsOff.commitAll.hub.r.holdup.pfCnt = satInc s.hub.r.holdup.pfCnt) :=
  ⟨s.testsOff.commitAll_now.trans (State.now_of_firm s.ends_testsOff.1), fun n hn h => State.commitAll_ends s.ends_testsOff n hn h⟩

/-! ### Every die in reset (R710) -/

/-- Every die of z is in reset. -/
def State.Down (z : State) : Prop := z.hub.run = 0 ∧ z.hub.jnl = [] ∧ z.xfers = [] ∧ ∀ n, n < 4 → (z.ch n).core.run = 0

/-- What the four Soles show of steps that reset one Sole each. -/
theorem State.foldl_soles (f : State → Nat → State) (hfirm : ∀ u n, (f u n).firm = u.firm)
    (hst : ∀ u n, State.Stored u (f u n)) (hbe : ∀ n u m, n ≠ m → State.Beside n u (f u m)) (P : Chan → Prop)
    (hP : ∀ u n, n < 4 → P ((f u n).ch n)) (s : State) :
    let z := (List.range 4).foldl f s
    z.firm = s.firm ∧ State.Stored s z ∧ ∀ n, n < 4 → P (z.ch n) := by
  refine ⟨State.firm_foldl f hfirm _ s, .foldl f hst _ s, fun n hn => ?_⟩
  obtain ⟨u, -, -, hz⟩ := State.Beside.foldl_at f (hbe n) _ List.nodup_range (List.mem_range.mpr hn) s
  rw [hz]
  exact hP u n hn

/-- No output of an Eyelet die without power is on. -/
theorem Ey.live_dark (i : Nat) (hi : i < 8) : (vget ({} : Ey).o i {}).live = false := by
  have h : vget (Vector.replicate 8 ({} : EyOut)) i {} = {} := by simp [vget, hi]
  exact congrArg EyOut.live h

/-- An Eyelet die of a Sole in reset loses its power. -/
def State.soleDark (s : State) (n : Nat) (cause : ChRstCause → ChRstCause) : State :=
  (s.soleReset n cause).onCh n (fun _ k => k.eyDark)

theorem State.soleDark_ch (s : State) (n : Nat) (cause : ChRstCause → ChRstCause) (hn : n < 4) :
    ((s.soleDark n cause).ch n).core.run = 0 ∧ ((s.soleDark n cause).ch n).ey.o = ({} : Ey).o := by
  obtain ⟨-, -, hrun, -⟩ := s.soleReset_at n cause hn
  have hz : (s.soleDark n cause).ch n = ((s.soleReset n cause).ch n).eyDark.emptied := by
    have hne : ((s.soleReset n cause).ch n).eyDark.core.run ≠ 2 := fun h => absurd (hrun.symm.trans h) (by decide)
    rw [State.soleDark, State.onCh_ch_same _ n _ hn, State.after, if_neg hne]
  rw [hz]
  exact ⟨hrun, rfl⟩

/-- The rails go off: every Sole and its Eyelet die. -/
theorem State.solesDark_keeps (s : State) (cause : ChRstCause → ChRstCause) :
    let z := (List.range 4).foldl (fun (s : State) n => s.soleDark n cause) s
    z.firm = s.firm ∧ State.Stored s z ∧ ∀ n, n < 4 → (z.ch n).core.run = 0 ∧ (z.ch n).ey.o = ({} : Ey).o := by
  refine State.foldl_soles _ (fun u n => ?_) (fun u n => ?_) (fun n u m hnm => ?_)
    (fun k => k.core.run = 0 ∧ k.ey.o = ({} : Ey).o) (fun u n hn => u.soleDark_ch n cause hn) s
  · exact (State.firm_onCh _ n _).trans (u.soleReset_firm n cause)
  · exact (u.soleReset_stored n cause).trans (.onCh _ n _ fun _ _ => ⟨rfl, rfl, rfl⟩)
  · exact (State.Beside.soleReset u m cause n hnm).trans (.onCh _ _ hnm)

/-- s with every Sole in reset. -/
def State.solesReset (s : State) (cause : ChRstCause → ChRstCause) : State :=
  (List.range 4).foldl (fun (s : State) n => s.soleReset n cause) s

theorem State.solesReset_keeps (s : State) (cause : ChRstCause → ChRstCause) : (s.solesReset cause).firm = s.firm
    ∧ State.Stored s (s.solesReset cause) ∧ ∀ n, n < 4 → ((s.solesReset cause).ch n).core.run = 0 := by
  refine State.foldl_soles (fun s n => s.soleReset n cause) (fun u n => u.soleReset_firm n cause)
    (fun u n => u.soleReset_stored n cause) (fun n u m hnm => State.Beside.soleReset u m cause n hnm)
    (fun k => k.core.run = 0) (fun u n hn => ?_) s
  obtain ⟨-, -, hrun, -⟩ := u.soleReset_at n cause hn
  exact hrun

/-- The hub enters reset with every Sole in reset. -/
theorem State.hubReset_down (s : State) (cause : HubRstCause → HubRstCause) (h : ∀ n, n < 4 → (s.ch n).core.run = 0) :
    (s.hubReset 0 cause).Down := by
  obtain ⟨-, hx, hrun, hjnl, -, -, -, -, -, hch⟩ := s.hubReset_keeps 0 cause
  exact ⟨hrun, hjnl, hx, fun n hn => (congrArg (fun k : Chan => k.core.run) (hch n) :).trans (h n hn)⟩

/-! #### The rails go off (R709) -/

/-- s with the commits that had to complete ended, and every Sole in reset without power. -/
def State.darkened (s : State) (t0 : Nat) : State :=
  (List.range 4).foldl (fun (s : State) n => s.soleDark n fun c => { ({} : ChRstCause) with module := true, rail := c.rail })
    (s.commitEnd t0)

/-- s with every die in reset without power. -/
def State.railless (s : State) (t0 : Nat) : State :=
  (s.darkened t0).hubReset 0 fun c => { ({} : HubRstCause) with rail := c.rail, por := false }

/-- s with its rails marked off, and whether the commits were complete kept for the next start. -/
def State.unpowered (s : State) : State := { s with
  pwr := { s.pwr with
    vaux := false, rails := false, pin := false, off := 0, tPf := none, must := 0, done := 0, undo := []
    pfEnd := if s.pwr.must = 0 then none else some (decide (s.pwr.done = s.pwr.must)) }
  hub := { s.hub with r := { s.hub.r with
    holdup := { s.hub.r.holdup with cap := 0 }
    rstStatus := { ({} : HubRstStatus) with ackPend := s.hub.r.rstStatus.ackPend } } } }

/-- Commits that all completed are shown so at the next start. -/
theorem State.unpowered_pfEnd (s : State) (h : s.pwr.done = s.pwr.must) :
    s.unpowered.pwr.pfEnd = if s.pwr.must = 0 then none else some true := by
  simp [State.unpowered, h]

theorem State.railsOff_idle (s : State) (dv : Nat) (ht : s.pwr.tPf = none) : s.railsOff dv = s := by
  unfold State.railsOff
  rw [ht]

theorem State.railsOff_early (s : State) (dv t : Nat) (ht : s.pwr.tPf = some t) (h : s.now < t + msNs 12 ∧ 180 < dv) :
    s.railsOff dv = s := by
  unfold State.railsOff
  rw [ht]
  exact if_pos h

theorem State.railsOff_due (s : State) (dv t : Nat) (ht : s.pwr.tPf = some t) (h : ¬(s.now < t + msNs 12 ∧ 180 < dv)) :
    s.railsOff dv = (s.railless t).unpowered := by
  unfold State.railsOff
  rw [ht]
  refine (if_neg h).trans ?_
  unfold State.unpowered State.railless State.darkened State.soleDark
  rfl

theorem State.darkened_keeps (s : State) (t : Nat) :
    (s.darkened t).pwr = (s.commitEnd t).pwr ∧ State.Stored s (s.darkened t)
      ∧ ∀ n, n < 4 → ((s.darkened t).ch n).core.run = 0 ∧ ((s.darkened t).ch n).ey.o = ({} : Ey).o := by
  obtain ⟨hfirm, hst, hch⟩ := (s.commitEnd t).solesDark_keeps fun c => { ({} : ChRstCause) with module := true, rail := c.rail }
  unfold State.darkened
  exact ⟨State.pwr_of_firm hfirm, (s.commitEnd_keeps t).2.trans hst, hch⟩

theorem State.railless_keeps (s : State) (t : Nat) :
    (s.railless t).Down ∧ State.Stored s (s.railless t) ∧ (s.railless t).pwr = (s.commitEnd t).pwr
      ∧ ∀ n, n < 4 → ((s.railless t).ch n).ey.o = ({} : Ey).o := by
  obtain ⟨hpwr, hst, hch⟩ := s.darkened_keeps t
  obtain ⟨zpwr, -, -, -, -, -, -, -, -, hnofw⟩ :=
    (s.darkened t).hubReset_keeps 0 fun c => { ({} : HubRstCause) with rail := c.rail, por := false }
  refine ⟨State.hubReset_down _ _ fun n hn => (hch n hn).1, hst.trans (State.hubReset_stored _ 0 _), zpwr.trans hpwr, fun n hn => ?_⟩
  exact (congrArg (fun k : Chan => k.ey.o) (hnofw n) :).trans (hch n hn).2

/-! ### RESET_N (R712 to R714) -/

/-- RESET_N goes low while the module is up. -/
def State.PinDue (s : State) (us : Nat) : Prop :=
  s.pwr.rails = true ∧ s.pwr.tPf = none ∧ s.pwr.pin = false ∧ s.hub.r.rstStatus.pinMasked = false ∧ 200 ≤ us

theorem State.resetPin_idle (s : State) (us : Nat) (h : ¬s.PinDue us) : s.resetPin true us = s := by
  unfold State.resetPin
  by_cases hup : (!s.pwr.rails) = true ∨ s.pwr.tPf.isSome = true
  · exact if_pos hup
  · rw [if_neg hup, if_pos rfl]
    refine if_pos ?_
    by_contra hc
    simp only [not_or, Bool.not_eq_true', Bool.not_eq_false, Bool.not_eq_true, not_lt, Option.isSome_eq_false_iff,
      Option.isNone_iff_eq_none] at hup hc
    exact h ⟨hup.1, hup.2, hc⟩

/-- s with its rails tried again and no commit owed. -/
def State.railsAgain (s : State) : State := { s with pwr := { s.pwr with off := 0, must := 0, done := 0, undo := [] } }

/-- s with its Soles in reset after the commit of every die. -/
def State.solesDown (s : State) : State := (s.commitAll.solesReset fun c => { c with module := true }).railsAgain

theorem State.moduleReset_eq (s : State) (cause : HubRstCause → HubRstCause) : s.moduleReset cause = s.solesDown.hubReset 0 cause := rfl

/-- s with RESET_N low. -/
def State.pinned (s : State) : State := { s with pwr := { s.pwr with pin := true } }

theorem State.resetPin_due (s : State) (us : Nat) (h : s.PinDue us) :
    s.resetPin true us = (s.moduleReset fun c => { c with pin := true }).pinned := by
  obtain ⟨hr, ht, hpin, hm, hus⟩ := h
  unfold State.resetPin
  rw [if_neg (by simp [hr, ht]), if_pos rfl, if_neg (by simp [hpin, hm, hus])]
  rfl

theorem State.solesDown_keeps (s : State) :
    State.Stored s s.solesDown ∧ s.solesDown.hub.r = s.commitAll.hub.r ∧ ∀ n, n < 4 → (s.solesDown.ch n).core.run = 0 := by
  obtain ⟨zfirm, zst, zch⟩ := s.commitAll.solesReset_keeps fun c => { c with module := true }
  unfold State.solesDown
  generalize (s.commitAll.solesReset fun c => { c with module := true }) = w at zfirm zst zch
  exact ⟨(s.commitAll_keeps.2.trans zst :), (State.hubRegs_of_firm zfirm :), zch⟩

/-- A module reset: every die is in reset, and what is stored stays (R710, R711). -/
theorem State.moduleReset_keeps (s : State) (cause : HubRstCause → HubRstCause) :
    (s.moduleReset cause).Down ∧ State.Stored s (s.moduleReset cause)
      ∧ (s.moduleReset cause).hub.r.rstCause = cause s.hub.r.rstCause := by
  obtain ⟨hst, hr, hch⟩ := s.solesDown_keeps
  rw [State.moduleReset_eq]
  obtain ⟨-, -, -, -, -, -, -, zrst, -⟩ := s.solesDown.hubReset_keeps 0 cause
  rw [hr, s.commitAll_keeps.1] at zrst
  exact ⟨State.hubReset_down _ cause hch, hst.trans (State.hubReset_stored _ 0 cause), zrst⟩

/-- s with RESET_N high. -/
def State.unpinned (s : State) : State := { s with pwr := { s.pwr with pin := false } }

theorem State.resetPin_high (s : State) (us : Nat) (hr : s.pwr.rails = true) (ht : s.pwr.tPf = none) (hp : s.pwr.pin = true) :
    s.resetPin false us = s.unpinned.rise := by
  unfold State.resetPin
  rw [if_neg (by simp [hr, ht]), if_neg (by decide), if_pos hp]
  rfl

theorem State.resetPin_high_idle (s : State) (us : Nat) (h : s.pwr.rails = false ∨ s.pwr.tPf ≠ none ∨ s.pwr.pin = false) :
    s.resetPin false us = s := by
  unfold State.resetPin
  by_cases hup : (!s.pwr.rails) = true ∨ s.pwr.tPf.isSome = true
  · exact if_pos hup
  · rw [if_neg hup, if_neg (by decide)]
    simp only [not_or, Bool.not_eq_true', Bool.not_eq_false, Bool.not_eq_true, Option.isSome_eq_false_iff,
      Option.isNone_iff_eq_none] at hup
    rw [if_neg (by simpa [hup.1, hup.2] using h)]

/-- RESET_N has been low for 30 s. -/
def State.StuckDue (s : State) (us : Nat) : Prop := s.pwr.pin = true ∧ 30000000 ≤ us ∧ s.pwr.tPf = none

/-- s with its reset input masked, which waits to be acknowledged (R713, R714). -/
def State.masked (s : State) : State := { s with
  pwr := { s.pwr with pin := false }
  hub := { s.hub with r := { s.hub.r with
    rstCause := { s.hub.r.rstCause with stuck := true }
    rstStatus := { s.hub.r.rstStatus with pinMasked := true, ackPend := true } } }
  chans := s.chans.map (fun (k : Chan) => { k with core := { k.core with ackPend := true } }) }

theorem State.resetStuck_idle (s : State) (us : Nat) (h : ¬s.StuckDue us) : s.resetStuck us = s := by
  refine if_pos ?_
  by_contra hc
  simp only [not_or, Bool.not_eq_true', Bool.not_eq_false, Bool.not_eq_true, not_lt, Option.isSome_eq_false_iff,
    Option.isNone_iff_eq_none] at hc
  exact h hc

theorem State.resetStuck_due (s : State) (us : Nat) (h : s.StuckDue us) : s.resetStuck us = s.masked.rise := by
  obtain ⟨hp, hus, ht⟩ := h
  unfold State.resetStuck
  rw [if_neg (by simp [hp, ht, hus])]
  rfl

theorem State.masked_ch (s : State) (n : Nat) (hn : n < 4) : (s.masked.ch n).core.ackPend = true := by
  simp [State.masked, State.ch, vget, hn]

/-- A release leaves every ACK_PEND. -/
theorem State.release_ackPend (s : State) (n : Nat) (hn : n < 4) : (s.release.ch n).core.ackPend = (s.ch n).core.ackPend := by
  by_cases hr : s.Rising
  · rw [(s.release_free hr).2 n hn, State.freedCh]
    split <;> rfl
  · rw [s.release_held hr]

/-- The module rises, with its hub where the hub's rail is on. -/
theorem State.rise_cases (s : State) : s.rise = s.release ∨ s.rise = s.hubOut.release := by
  unfold State.rise
  cases s.pwr.off.getLsbD 4
  · exact .inr rfl
  · exact .inl rfl

theorem State.rise_ackPend (s : State) (n : Nat) (hn : n < 4) : (s.rise.ch n).core.ackPend = (s.ch n).core.ackPend := by
  rcases s.rise_cases with hz | hz
  · exact hz ▸ s.release_ackPend n hn
  · exact hz ▸ s.hubOut.release_ackPend n hn

/-- The supply and the registers of the hub do not change as the module rises. -/
theorem State.rise_regs (s : State) : s.rise.pwr = s.pwr ∧ s.rise.hub.r = s.hub.r := by
  rcases s.rise_cases with hz | hz
  · rw [hz]
    exact ⟨State.pwr_of_firm s.release_firm, State.hubRegs_of_firm s.release_firm⟩
  · rw [hz]
    exact ⟨(State.pwr_of_firm s.hubOut.release_firm :), (State.hubRegs_of_firm s.hubOut.release_firm :)⟩

/-! ### Surges (R727) -/

/-- A surge came less than 10 s before. -/
def State.Near (s : State) : Prop := ∃ t, s.pwr.tSurge = some t ∧ s.now < t + sNs 10

theorem State.surgeBad_iff (s : State) (mv us : Nat) :
    s.surgeBad mv us = true ↔ 58000 < mv ∨ (45000 < mv ∧ (400000 < us ∨ s.Near)) := by
  unfold State.surgeBad State.Near
  cases s.pwr.tSurge <;> simp

theorem State.executes_surge (s : State) (mv us : Nat) (h : ¬(58000 < mv ∨ (45000 < mv ∧ (400000 < us ∨ s.Near)))) :
    exec (.vauxSurge mv us) s = (s.surge mv us).done :=
  if_neg (mt (s.surgeBad_iff mv us).mp h)

/-! ### The obligation about the supply and RESET_N -/

/-- Settles O51: the supply, the power-fail warning and RESET_N, by what each makes of a state that is due. -/
theorem supplyAndResetPin : Obligations.SupplyAndResetPin := by
  intro s p r rs released kept down
  refine ⟨?vaux, ?vhold, ?holdup, ?pfail, ?rails, ?pinLow, ?pinHigh, ?stuck, ?unmask, ?surge⟩
  case vaux =>
    intro mv us o due
    refine ⟨fun h => congrArg State.done (s.vauxValid_idle mv us h), fun h => ?_⟩
    obtain ⟨hfirm, hrel, hheld⟩ := s.powered_rise h.2.1
    exact ⟨_, congrArg State.done (s.vauxValid_due mv us h), (State.run_of_firm hfirm :), (State.pwr_of_firm hfirm :),
      (congrArg HubRegs.rstCause (State.hubRegs_of_firm hfirm) :), hrel, hheld⟩
  case vhold =>
    intro dv o ok u
    refine ⟨fun hr => ?_, fun hr hok => ?_, fun hr hok hpin ht => ?_, fun hr hok hoff => ?_⟩
    · exact congrArg State.done (s.vholdOk_off dv hr)
    · exact congrArg State.done (s.vholdOk_low dv hr hok)
    · exact ⟨_, congrArg State.done (s.vholdOk_high dv hr hok), u.release_released ⟨hok, hpin, hr, ht⟩,
        (State.hubRegs_of_firm u.release_firm :), (State.pwr_of_firm u.release_firm :)⟩
    · have hheld : ¬u.Rising := by
        rintro ⟨-, hpin, -, ht⟩
        exact hoff.elim (fun h => absurd (h.symm.trans hpin) (by decide)) (fun h => h ht)
      exact congrArg State.done ((s.vholdOk_high dv hr hok).trans (u.release_held hheld))
  case holdup =>
    intro us o u
    exact ⟨fun hr => congrArg State.done (s.holdupMeasure_off us hr), fun hr => congrArg State.done (s.holdupMeasure_eq us hr)⟩
  case pfail =>
    intro mv o due
    refine ⟨fun h => congrArg State.done (s.pfail_idle mv h), fun h => ?_⟩
    obtain ⟨hnow, hfail⟩ := s.testsOff_commit
    have hz := s.pfail_due mv h
    generalize s.testsOff.commitAll = w at hnow hfail hz
    refine ⟨_, congrArg State.done hz, congrArg some hnow, fun n hn hrun => ?_, ?_⟩
    · obtain ⟨⟨-, -, hpf, hinh, hpwm, hcm, hcnt, -, hi, he⟩, hmust, -⟩ := hfail n hn hrun
      exact ⟨hpf, hinh, hpwm, hcm, hcnt, hi, he, hmust⟩
    · rintro ⟨n, hn, hrun⟩
      obtain ⟨-, -, hhub⟩ := hfail n hn hrun
      exact hhub
  case rails =>
    intro dv o
    refine ⟨?_, fun t ht h => ?_⟩
    · rintro (ht | ⟨t, ht, hearly⟩)
      · exact congrArg State.done (s.railsOff_idle dv ht)
      · exact congrArg State.done (s.railsOff_early dv t ht hearly)
    · obtain ⟨hdown, hst, hpwr, hey⟩ := s.railless_keeps t
      have hz := s.railsOff_due dv t ht (by omega)
      generalize s.railless t = w at hdown hst hpwr hey hz
      refine ⟨_, congrArg State.done hz, hdown, hst, rfl, rfl, rfl, fun n i hn hi => ?_, fun htime hdone => ?_⟩
      · have hoff : (w.unpowered.ch n).ey.o = ({} : Ey).o := hey n hn
        rw [hoff]
        exact Ey.live_dark i hi
      · have hmust : w.pwr.must = s.pwr.must := by rw [hpwr, (s.commitEnd_keeps t).1]
        have hall : w.pwr.done = w.pwr.must := by rw [hmust, hpwr, s.commitEnd_done t htime hdone]
        rw [w.unpowered_pfEnd hall, hmust]
  case pinLow =>
    intro us o due
    refine ⟨fun h => congrArg State.done (s.resetPin_idle us h), fun h => ?_⟩
    obtain ⟨hdown, hst, hrst⟩ := s.moduleReset_keeps fun c => { c with pin := true }
    have hz := s.resetPin_due us h
    generalize (s.moduleReset fun c => { c with pin := true }) = w at hdown hst hrst hz
    exact ⟨_, congrArg State.done hz, hdown, hst, rfl, hrst⟩
  case pinHigh =>
    intro us o
    refine ⟨fun h => congrArg State.done (s.resetPin_high_idle us h), fun hr ht hp hoff => ?_⟩
    obtain ⟨hfirm, hrel, hheld⟩ := s.unpinned.rise_keeps hoff
    exact ⟨_, congrArg State.done (s.resetPin_high us hr ht hp), (congrArg PowerDie.pin (State.pwr_of_firm hfirm) :),
      (State.run_of_firm hfirm :), fun hv => hrel ⟨hv, rfl, hr, ht⟩, hheld⟩
  case stuck =>
    intro us o due
    refine ⟨fun h => congrArg State.done (s.resetStuck_idle us h), fun h => ?_⟩
    obtain ⟨hpwr, hregs⟩ := s.masked.rise_regs
    exact ⟨_, congrArg State.done (s.resetStuck_due us h), (congrArg PowerDie.pin hpwr :), (congrArg HubRegs.rstStatus hregs :),
      (congrArg HubRegs.rstCause hregs :), fun n hn => (s.masked.rise_ackPend n hn).trans (s.masked_ch n hn),
      fun hoff => State.run_of_firm (s.masked.rise_keeps hoff).1⟩
  case unmask =>
    intro us
    exact ⟨fun h => congrArg State.done (if_pos h), fun h => congrArg State.done (if_neg (Nat.not_lt.mpr h))⟩
  case surge =>
    intro mv us o near bad u
    refine ⟨fun h => if_pos ((s.surgeBad_iff mv us).mpr h), fun h => ?_, fun h hmv => ?_⟩
    · exact (s.executes_surge mv us (by omega)).trans (congrArg State.done (if_pos h))
    · exact (s.executes_surge mv us h).trans (congrArg State.done (if_neg (Nat.not_le.mpr hmv)))

end Sys2Proof.Machine

namespace Sys2Proof.Machine

/-! ### Alarms (R595 to R600) -/

/-- z is key store k after alarms: the settings and the levels of its inputs are the same, and a hold lasts. -/
def Key.After (k z : Key) : Prop :=
  z.r.tampCfg = k.r.tampCfg ∧ z.r.tampStatus.in0Open = k.r.tampStatus.in0Open ∧ z.r.tampStatus.in1Open = k.r.tampStatus.in1Open
    ∧ (k.r.tampStatus.hold = true → z.r.tampStatus.hold = true)

namespace Key.After

variable {k z w : Key}

theorem refl (k : Key) : Key.After k k := ⟨rfl, rfl, rfl, id⟩

theorem trans (h : Key.After k z) (g : Key.After z w) : Key.After k w := by
  obtain ⟨hcfg, h0, h1, hhold⟩ := h
  obtain ⟨gcfg, g0, g1, ghold⟩ := g
  exact ⟨gcfg.trans hcfg, g0.trans h0, g1.trans h1, ghold ∘ hhold⟩

theorem hold (h : Key.After k z) (hk : k.r.tampStatus.hold = true) : z.r.tampStatus.hold = true := by
  obtain ⟨-, -, -, hlast⟩ := h
  exact hlast hk

/-- The registers of a key store tell. -/
theorem of_r (h : z.r = k.r) : Key.After k z := by
  rw [Key.After, h]
  exact ⟨rfl, rfl, rfl, id⟩

end Key.After

/-- An alarm leaves the settings and the levels of the inputs, and the die is in the hold (R599). -/
theorem Key.after_alarm (k : Key) (code : Nat) (boot : Bool) :
    Key.After k (k.alarm code boot).1 ∧ (k.alarm code boot).1.r.tampStatus.hold = true := by
  unfold Key.alarm Key.After
  cases h : k.r.tampStatus.hold <;> simp [h]

/-- What a Sole's alarm does to its channel changes neither its run state nor its key registers. -/
def Chan.Awake (a k : Chan) : Prop := k.core.run = a.core.run ∧ k.key.r = a.key.r

namespace Chan.Awake

variable {a k z : Chan}

theorem refl (a : Chan) : Chan.Awake a a := ⟨rfl, rfl⟩

theorem trans (h : Chan.Awake a k) (g : Chan.Awake k z) : Chan.Awake a z := ⟨g.1.trans h.1, g.2.trans h.2⟩

theorem of_lasts (h : Chan.Lasts a k) : Chan.Awake a k := ⟨(congrArg Core.run h.1 :), (congrArg Key.r h.2.1 :)⟩

theorem recFlag (h : Chan.Awake a k) (f : BitVec 16) : Chan.Awake a (k.recFlag f) := by
  unfold Chan.recFlag
  split <;> exact h

theorem legalTamper (k : Chan) : Chan.Awake k k.legalTamper := by
  refine recFlag (List.foldlRecOn _ _ (motive := fun u => Chan.Awake k u) ?_ fun u hu x _ => ?_) _
  · split <;> exact .refl k
  · split <;> exact hu

theorem alarmed (k : Chan) (e : Env) (src : BitVec 24) : Chan.Awake k (k.alarmed e src) := by
  have ht : Chan.Awake k ((k.vTamper e).legalTamper.eventRec e 4 src) :=
    (of_lasts (.vTamper (.refl k))).trans (legalTamper (k.vTamper e))
  unfold Chan.alarmed
  generalize (k.vTamper e).legalTamper.eventRec e 4 src = u at ht
  simp only
  split
  · exact ht
  · exact ht.trans (of_lasts (.volZero (.refl u)))

end Chan.Awake

/-! #### An alarm at a die -/

/-- t is s after alarms of its dies, but for their channels: nothing else has changed that is firm. -/
def State.Alarmed (s t : State) : Prop :=
  Key.After s.hub.key t.hub.key ∧ ({ t with hub := { t.hub with key := s.hub.key } } : State).firm = s.firm

namespace State.Alarmed

variable {s t u : State}

theorem of_firm (h : t.firm = s.firm) : s.Alarmed t := by
  have hkey := State.key_of_firm h
  refine ⟨.of_r (congrArg Key.r hkey), ?_⟩
  rw [← hkey]
  exact h

theorem trans (h : s.Alarmed t) (g : t.Alarmed u) : s.Alarmed u := by
  obtain ⟨hkey, hfirm⟩ := h
  obtain ⟨gkey, gfirm⟩ := g
  refine ⟨hkey.trans gkey, .trans ?_ hfirm⟩
  exact (congrArg (fun w : State => ({ w with hub := { w.hub with key := s.hub.key } } : State)) gfirm :)

/-- The key store of the hub after an alarm. -/
theorem key {x : Key} (h : Key.After s.hub.key x) : s.Alarmed { s with hub := { s.hub with key := x } } := ⟨h, rfl⟩

end State.Alarmed

theorem State.firm_soleAlarm (s : State) (n code : Nat) (hn : n < 4) : (s.alarm n code).firm = s.firm := by
  unfold State.alarm
  simp only [hn, if_true]
  have hkey (x : Key) : ((s.setKey n x).cobAbort n false).firm = s.firm := by
    rw [((s.setKey n x).ends_cobAbort n false).1, State.setKey, if_pos hn]
    rfl
  split
  · exact hkey _
  · rw [State.firm_onCh, (State.ends_keyOpsCut _ n).1, (State.ends_pmWake _ n 3).1]
    exact hkey _

/-- An alarm of the hub: it is in the hold. -/
theorem State.hub_alarm (s : State) (code : Nat) : s.Alarmed (s.alarm 4 code) ∧ (s.alarm 4 code).hub.key.r.tampStatus.hold = true := by
  obtain ⟨ha, hhold⟩ := (s.keyOf 4).after_alarm code (decide (s.hub.run < 2))
  unfold State.alarm
  simp only [show ¬(4 : Nat) < 4 by decide, if_false]
  generalize (s.keyOf 4).alarm code (decide (s.hub.run < 2)) = r at ha hhold
  have hset : s.Alarmed (s.setKey 4 r.1) := State.Alarmed.key ha
  have hcut (t : State) (ht : (s.setKey 4 r.1).Alarmed t) : s.Alarmed t ∧ t.hub.key.r.tampStatus.hold = true :=
    ⟨hset.trans ht, ht.1.hold hhold⟩
  have hab := ((s.setKey 4 r.1).ends_cobAbort 4 false).1
  split
  · exact hcut _ (.of_firm hab)
  · refine hcut _ (State.Alarmed.trans (t := State.hubJr _ JEv.tamper [(tampSource 4 code).toNat] true) (.of_firm ?_) (.key (.of_r rfl)))
    rw [(State.Ends.hubJr _ _ _ _).1, (State.ends_keyOpsCut _ 4).1, (State.ends_pmWake _ 4 3).1, hab]

/-- An alarm of the hub and of the Soles that its stitch links reach. -/
theorem State.alarmAll_hub (s : State) (code : Nat) :
    s.Alarmed (s.alarmAll 4 code) ∧ (s.alarmAll 4 code).hub.key.r.tampStatus.hold = true := by
  obtain ⟨ha, hhold⟩ := s.hub_alarm code
  unfold State.alarmAll
  simp only [if_true]
  generalize s.alarm 4 code = u at ha hhold
  suffices hall : u.Alarmed _ from ⟨ha.trans hall, hall.1.hold hhold⟩
  refine List.foldlRecOn (List.range 4) _ (motive := fun t => u.Alarmed t) (.of_firm rfl) fun t ht n hn => ?_
  split
  · exact ht.trans (.of_firm (t.firm_soleAlarm n 7 (List.mem_range.mp hn)))
  · exact ht

/-- k is channel a after alarms of its Sole: its run state is the same, and its key store as `Key.After` says. -/
def Chan.Alarmed (a k : Chan) : Prop := k.core.run = a.core.run ∧ Key.After a.key k.key

theorem Chan.Awake.alarmed_after {a k z : Chan} (h : Chan.Alarmed a k) (g : Chan.Awake k z) : Chan.Alarmed a z :=
  ⟨g.1.trans h.1, h.2.trans (.of_r g.2)⟩

/-- An alarm of a Sole: it is in the hold. -/
theorem State.sole_alarm (s : State) (n code : Nat) (hn : n < 4) :
    Chan.Alarmed (s.ch n) ((s.alarm n code).ch n) ∧ ((s.alarm n code).ch n).key.r.tampStatus.hold = true := by
  obtain ⟨ha, hhold⟩ := (s.keyOf n).after_alarm code (decide ((s.ch n).core.run < 2))
  unfold State.alarm
  simp only [hn, if_true]
  generalize (s.keyOf n).alarm code (decide ((s.ch n).core.run < 2)) = r at ha hhold
  have hkey : s.keyOf n = (s.ch n).key := if_pos hn
  have hset : (s.setKey n r.1).ch n = { s.ch n with key := r.1 } := by
    rw [State.setKey, if_pos hn, State.ch_setCh_same _ _ _ hn]
  have hch : Chan.Alarmed (s.ch n) ((s.setKey n r.1).ch n) ∧ ((s.setKey n r.1).ch n).key.r.tampStatus.hold = true := by
    rw [hset]
    exact ⟨⟨rfl, hkey ▸ ha⟩, hhold⟩
  have hcut (z : Chan) (hz : Chan.Awake ((s.setKey n r.1).ch n) z) : Chan.Alarmed (s.ch n) z ∧ z.key.r.tampStatus.hold = true :=
    ⟨hz.alarmed_after hch.1, hz.2.symm ▸ hch.2⟩
  have hab := (s.setKey n r.1).ends_cobAbort n false
  split
  · exact hcut _ (.of_lasts (hab.2 n hn))
  · have hops := (hab.trans (State.ends_pmWake _ n 3)).trans (State.ends_keyOpsCut _ n)
    rw [State.onCh_ch_same _ n _ hn]
    exact hcut _ ((Chan.Awake.of_lasts (hops.2 n hn)).trans ((Chan.Awake.alarmed _ _ _).trans (.of_lasts (Chan.lasts_after _ n _))))

/-! #### The alarms of a start (R595) -/

/-- The alarms that a die finds as it starts, and its hold: t is what they make of s before the die holds. -/
theorem State.bootAlarms_cases (s : State) (die : Nat) (R : State → Prop) (hs : R s)
    (ha : ∀ t c, R t → R (t.alarmAll die c) ∧ ((t.alarmAll die c).keyOf die).r.tampStatus.hold = true) :
    ∃ t, R t ∧ ((s.keyOf die).inputOpen = true → (t.keyOf die).r.tampStatus.hold = true) ∧ ((s.keyOf die).inputOpen = false → t = s)
      ∧ s.bootAlarms die = if (t.keyOf die).r.tampStatus.hold then t.setKey die { t.keyOf die with held := true } else t := by
  have h1 := ha s 1 hs
  simp only [State.bootAlarms, Key.inputOpen]
  generalize ((s.keyOf die).r.tampCfg.en0 && (s.keyOf die).r.tampStatus.in0Open) = a
  generalize ((s.keyOf die).r.tampCfg.en1 && (s.keyOf die).r.tampStatus.in1Open) = b
  cases a <;> cases b
  · exact ⟨s, hs, nofun, fun _ => rfl, rfl⟩
  · exact ⟨_, (ha s 2 hs).1, fun _ => (ha s 2 hs).2, nofun, rfl⟩
  · exact ⟨_, h1.1, fun _ => h1.2, nofun, rfl⟩
  · exact ⟨_, (ha _ 2 h1.1).1, fun _ => (ha _ 2 h1.1).2, nofun, rfl⟩

/-- The hub at its start: its firmware and the stored configuration of its NID are as they were, and in a hold, or with an
input open, it holds. -/
theorem State.bootAlarms_hub (s : State) :
    (s.bootAlarms 4).hub.fw = s.hub.fw ∧ (s.bootAlarms 4).hub.ring.r.nidCfg = s.hub.ring.r.nidCfg
      ∧ (s.hub.key.r.tampStatus.hold = true ∨ s.hub.key.inputOpen = true →
        (s.bootAlarms 4).hub.key.r.tampStatus.hold = true ∧ (s.bootAlarms 4).hub.key.held = true) := by
  have hof (u : State) : u.keyOf 4 = u.hub.key := rfl
  obtain ⟨t, ⟨hkey, hfirm⟩, hopen, -, hz⟩ := s.bootAlarms_cases 4 (fun t => s.Alarmed t) (.of_firm rfl) fun t c ht => by
    obtain ⟨ha, hh⟩ := t.alarmAll_hub c
    rw [hof]
    exact ⟨ht.trans ha, hh⟩
  have hfw : t.hub.fw = s.hub.fw := (congrArg (fun w : State => w.hub.fw) hfirm :)
  have hnid : t.hub.ring.r.nidCfg = s.hub.ring.r.nidCfg := (congrArg (fun w : State => w.hub.ring.r.nidCfg) hfirm :)
  rw [hz]
  by_cases hh : (t.keyOf 4).r.tampStatus.hold = true
  · rw [if_pos hh]
    exact ⟨hfw, hnid, fun _ => ⟨hh, rfl⟩⟩
  · rw [if_neg hh]
    exact ⟨hfw, hnid, fun h => absurd (h.elim hkey.hold hopen) hh⟩

/-- A Sole at its start with nothing that alarms it. -/
theorem State.bootAlarms_quiet (s : State) (n : Nat) (hn : n < 4) (hhold : (s.ch n).key.r.tampStatus.hold = false)
    (hopen : (s.ch n).key.inputOpen = false) : s.bootAlarms n = s := by
  have hkey : s.keyOf n = (s.ch n).key := if_pos hn
  simp only [Key.inputOpen, Bool.or_eq_false_iff] at hopen
  simp [State.bootAlarms, hkey, hopen.1, hopen.2, hhold]

/-- A Sole at its start: its run state is as it was, and in a hold, or with an input open, it holds. -/
theorem State.bootAlarms_sole (s : State) (n : Nat) (hn : n < 4) (h : (s.ch n).key.r.tampStatus.hold = true ∨ (s.ch n).key.inputOpen = true) :
    ((s.bootAlarms n).ch n).core.run = (s.ch n).core.run ∧ ((s.bootAlarms n).ch n).key.r.tampStatus.hold = true
      ∧ ((s.bootAlarms n).ch n).key.held = true := by
  have hkey (u : State) : u.keyOf n = (u.ch n).key := if_pos hn
  have hall (u : State) (c : Nat) : u.alarmAll n c = u.alarm n c := if_neg (by omega)
  obtain ⟨t, ⟨hrun, hafter⟩, hopen, -, hz⟩ := s.bootAlarms_cases n (fun t => Chan.Alarmed (s.ch n) (t.ch n)) ⟨rfl, .refl _⟩
    fun t c ht => by
      obtain ⟨⟨hr, hk⟩, hh⟩ := t.sole_alarm n c hn
      rw [hall, hkey]
      exact ⟨⟨hr.trans ht.1, ht.2.trans hk⟩, hh⟩
  have hh : (t.keyOf n).r.tampStatus.hold = true := by
    rw [hkey s, hkey t] at hopen
    rw [hkey t]
    exact h.elim hafter.hold hopen
  rw [hz, if_pos hh, State.setKey, if_pos hn, State.ch_setCh_same _ _ _ hn]
  exact ⟨hrun, hh, rfl⟩

end Sys2Proof.Machine

namespace Sys2Proof.Machine

/-! ### The slots at a start (R703 to R706) -/

/-- The firmware state of a die as its ROM leaves it: a trial or a commit that was running has ended. -/
def FwSt.ended (f : FwSt) : FwSt := { f with
  boot := if f.trialF then f.prev else f.boot, trialF := false, commit := false, act := false, back := false
  ref := none, tTrial := none }

/-- A slot passes at a start: the one that BOOT names, or the other one. -/
def FwSt.sound (f : FwSt) (other ok : Bool) : Bool := ok && (f.ended.slot other).isSome

/-- s with the entries of the journal that the start of a die leaves. -/
def State.startJr (s : State) (a b : Bool) (u : Nat) : State :=
  let s := if a then s.hubJr JEv.trialEnd [(u : Int)] else s
  if b then s.hubJr JEv.commitInt [(u : Int)] else s

theorem State.startJr_keeps (s : State) (a b : Bool) (u : Nat) : (s.startJr a b u).firm = s.firm ∧ (s.startJr a b u).chans = s.chans := by
  have h (t : State) (c : Bool) (ev : JEv) :
      (if c then t.hubJr ev [(u : Int)] else t).firm = t.firm ∧ (if c then t.hubJr ev [(u : Int)] else t).chans = t.chans := by
    cases c
    · exact ⟨rfl, rfl⟩
    · exact ⟨t.firm_journal _, rfl⟩
  obtain ⟨ha, hac⟩ := h s a JEv.trialEnd
  obtain ⟨hb, hbc⟩ := h (if a then s.hubJr JEv.trialEnd [(u : Int)] else s) b JEv.commitInt
  exact ⟨hb.trans ha, hbc.trans hac⟩

section Rom

variable (s : State) (okBoot okOther : Bool)

/-- What the ROM of the hub finds, before the journal. -/
theorem State.fwBoot_hub_shows :
    let f := vget s.hub.fw 4 {}
    let z := s.fwBoot 4 okBoot okOther
    z.2 = (f.sound false okBoot || f.sound true okOther) ∧ ∃ (r : HubRegs) (a b : Bool),
      z.1 = ({ s with hub := { s.hub with fw := vMod s.hub.fw 4 FwSt.ended, r := r } } : State).startJr a b 4
      ∧ r.boot.recovery = (!f.sound false okBoot && !f.sound true okOther)
      ∧ r.boot.slotAlt = (!f.sound false okBoot && f.sound true okOther) := by
  intro f z
  have hsound (c ok : Bool) : (ok && ((vget (vMod s.hub.fw 4 FwSt.ended) 4 {}).slot c).isSome) = f.sound c ok := by
    rw [vget_vMod, if_pos ⟨rfl, by decide⟩, FwSt.sound]
  refine ⟨?_, _, _, _, rfl, ?_, ?_⟩ <;> rw [← hsound, ← hsound] <;> rfl

/-- The ROM of the hub: whether a slot runs, and which one. -/
theorem State.fwBoot_hub :
    let f := vget s.hub.fw 4 {}
    let z := s.fwBoot 4 okBoot okOther
    z.2 = (f.sound false okBoot || f.sound true okOther)
      ∧ z.1.hub.r.boot.recovery = (!f.sound false okBoot && !f.sound true okOther)
      ∧ z.1.hub.r.boot.slotAlt = (!f.sound false okBoot && f.sound true okOther)
      ∧ vget z.1.hub.fw 4 {} = f.ended ∧ z.1.hub.key = s.hub.key ∧ z.1.hub.ring.r.nidCfg = s.hub.ring.r.nidCfg := by
  intro f z
  obtain ⟨hok, r, a, b, hz, hrec, halt⟩ := s.fwBoot_hub_shows okBoot okOther
  have hfirm := (State.startJr_keeps { s with hub := { s.hub with fw := vMod s.hub.fw 4 FwSt.ended, r := r } } a b 4).1
  rw [← hz] at hfirm
  have hr : z.1.hub.r = r := State.hubRegs_of_firm hfirm
  have hfw : z.1.hub.fw = vMod s.hub.fw 4 FwSt.ended := State.fw_of_firm hfirm
  refine ⟨hok, hr ▸ hrec, hr ▸ halt, ?_, (State.key_of_firm hfirm :), (State.nidCfg_of_firm hfirm :)⟩
  rw [hfw, vget_vMod, if_pos ⟨rfl, by decide⟩]

/-- A channel without what the start of its Sole shows of its firmware. -/
def Chan.noRom (k : Chan) : Chan := { k with core := { k.core with r := { k.core.r with
  fwStatus := {}, fwVer := 0, fwNext := 0, boot := { ({} : ChBoot) with lcodeBad := k.core.r.boot.lcodeBad } } } }

theorem State.FwSeen.fwRunningView {t : State} (h : s.FwSeen t) (n : Nat) (hn : n < 4) (alt fail : Bool) :
    s.FwSeen (t.fwRunningView n alt fail) := by
  unfold State.fwRunningView
  simp only [hn, if_true]
  exact h.setCh n _ hn rfl

theorem State.FwSeen.noRom {s t : State} (h : s.FwSeen t) (n : Nat) : (t.ch n).noRom = (s.ch n).noRom := by
  obtain ⟨-, -, -, -, hch⟩ := h
  exact (congrArg Chan.noRom (hch n) :)

/-- s with the firmware state of a die as its ROM leaves it. -/
def State.slotsEnded (s : State) (u : Nat) : State := { s with hub := { s.hub with fw := vMod s.hub.fw u FwSt.ended } }

/-- What the ROM of a Sole finds, before the journal. -/
theorem State.fwBoot_sole_shows (n : Nat) (hn : n < 4) :
    let f := vget s.hub.fw n {}
    let z := s.fwBoot n okBoot okOther
    z.2 = (f.sound false okBoot || f.sound true okOther) ∧ ∃ (t : State) (r : ChBoot) (a b : Bool), (s.slotsEnded n).FwSeen t
      ∧ z.1 = (t.setCh n { t.ch n with core := { (t.ch n).core with r := { (t.ch n).core.r with boot := r } } }).startJr a b n
      ∧ r.lcodeBad = (t.ch n).core.r.boot.lcodeBad := by
  intro f z
  have hseen := (State.FwSeen.refl (s.slotsEnded n)).fwView n
  have hfw : ((s.slotsEnded n).fwView n).hub.fw = vMod s.hub.fw n FwSt.ended := congrArg Hub.fw hseen.1
  have hsound (c ok : Bool) : (ok && ((vget ((s.slotsEnded n).fwView n).hub.fw n {}).slot c).isSome) = f.sound c ok := by
    rw [hfw, vget_vMod, if_pos ⟨rfl, by omega⟩, FwSt.sound]
  constructor
  · rw [← hsound, ← hsound]
    rfl
  · have hz : z.1 = (s.fwBoot n okBoot okOther).1 := rfl
    unfold State.fwBoot at hz
    simp only [hn, if_true] at hz
    exact ⟨_, _, _, _, hseen.fwRunningView _ n hn _ _, hz, rfl⟩

/-- The ROM of a Sole: whether a slot runs; its channel changes in what it shows of that. -/
theorem State.fwBoot_sole (n : Nat) (hn : n < 4) :
    let f := vget s.hub.fw n {}
    let z := s.fwBoot n okBoot okOther
    z.2 = (f.sound false okBoot || f.sound true okOther) ∧ (z.1.ch n).noRom = (s.ch n).noRom := by
  intro f z
  obtain ⟨hok, t, r, a, b, hseen, hz, hr⟩ := s.fwBoot_sole_shows okBoot okOther n hn
  refine ⟨hok, .trans ?_ (hseen.noRom n)⟩
  have hch : z.1.ch n = { t.ch n with core := { (t.ch n).core with r := { (t.ch n).core.r with boot := r } } } := by
    rw [hz, State.ch, (State.startJr_keeps _ a b n).2, ← State.ch, State.ch_setCh_same _ _ _ hn]
  rw [hch, Chan.noRom, Chan.noRom, hr]

end Rom

end Sys2Proof.Machine

namespace Sys2Proof.Machine

/-! ### The boot of the hub (R701, R703 to R706) -/

/-- A hub without its power states and its journal. -/
def Hub.bare (h : Hub) : Hub := { h with pm := {}, jnl := [], jbuf := [] }

theorem State.hubJr_bare (s : State) (ev : JEv) (data : List Int) (safe : Bool) :
    (s.hubJr ev data safe).hub.bare = s.hub.bare ∧ (s.hubJr ev data safe).chans = s.chans := by
  refine ⟨?_, rfl⟩
  unfold State.hubJr
  rw [Hub.journal_eq]
  rfl

theorem State.jRestore_bare (s : State) : s.jRestore.hub.bare = s.hub.bare := by
  unfold State.jRestore
  simp only
  split
  · exact (State.hubJr_bare _ _ _ _).1
  · rfl

theorem State.ageReplan_bare (s : State) (die : Nat) (boot : Bool) :
    (s.ageReplan die boot).hub.bare = s.hub.bare ∧ (s.ageReplan die boot).chans = s.chans := by
  unfold State.ageReplan
  simp only
  split
  · split
    · exact State.hubJr_bare _ _ _ _
    · exact ⟨rfl, rfl⟩
  · exact ⟨rfl, rfl⟩

/-- s with its hub started: it runs, or is in recovery. -/
def State.hubStarted (s : State) (ok : Bool) : State :=
  let h := s.hub
  { s with hub := { h with
      run := if ok then 2 else 3
      ring := h.ring.boot s.now
      gw := h.gw.reset
      eng := h.eng.boot s.now
      cob := { h.cob with tBoot := vset h.cob.tBoot 4 s.now }
      r := { h.r with dieStatus := { h.r.dieStatus with norOk := true, pmOk := decide (s.pwr.off = 0) } }
      st := h.st.map (fun (t : Stitch) => { t with tHub := s.now }) } }

theorem State.hubBoot_eq (s : State) (okBoot okOther : Bool) (h : s.hub.run = 1) :
    s.hubBoot okBoot okOther = let r := (s.bootAlarms 4).fwBoot 4 okBoot okOther
      (if r.2 then (r.1.hubStarted r.2).jRestore else r.1.hubStarted r.2).ageReplan 4 true := by
  unfold State.hubBoot
  rw [if_neg (not_not_intro h)]
  rfl

/-- What a boot of the hub leaves of its start. -/
theorem State.hubBoot_bare (s : State) (okBoot okOther : Bool) (h : s.hub.run = 1) :
    (s.hubBoot okBoot okOther).hub.bare = (((s.bootAlarms 4).fwBoot 4 okBoot okOther).1.hubStarted
      ((s.bootAlarms 4).fwBoot 4 okBoot okOther).2).hub.bare := by
  rw [s.hubBoot_eq okBoot okOther h]
  generalize (s.bootAlarms 4).fwBoot 4 okBoot okOther = r
  refine (State.ageReplan_bare _ 4 true).1.trans ?_
  split
  · exact State.jRestore_bare _
  · rfl

/-- The clause of the hub's boot, in terms of what its ROM finds. -/
theorem State.hubBoot_made (s : State) (okBoot okOther : Bool) (h : s.hub.run = 1) :
    let f := vget s.hub.fw 4 {}
    let z := s.hubBoot okBoot okOther
    (z.hub.run = if f.sound false okBoot || f.sound true okOther then 2 else 3)
      ∧ z.hub.r.boot.recovery = (!f.sound false okBoot && !f.sound true okOther)
      ∧ z.hub.r.boot.slotAlt = (!f.sound false okBoot && f.sound true okOther)
      ∧ z.hub.r.dieStatus.norOk = true ∧ z.hub.gw.role = false ∧ z.hub.eng.role = .none ∧ z.hub.ring.r.nidCfg = s.hub.ring.r.nidCfg
      ∧ vget z.hub.fw 4 {} = f.ended ∧ z.hub.key = (s.bootAlarms 4).hub.key := by
  intro f z
  have hz := s.hubBoot_bare okBoot okOther h
  obtain ⟨hfw, hnid, -⟩ := s.bootAlarms_hub
  obtain ⟨hok, hrec, halt, hended, hkey, hcfg⟩ := (s.bootAlarms 4).fwBoot_hub okBoot okOther
  rw [hfw] at hok hrec halt hended
  rw [hnid] at hcfg
  have hz : z.hub.bare = _ := hz
  generalize (s.bootAlarms 4).fwBoot 4 okBoot okOther = r at hok hrec halt hended hkey hcfg hz
  refine ⟨?_, ?_, ?_, ?_, ?_, ?_, ?_, ?_, ?_⟩
  · rw [← hok]
    exact (congrArg Hub.run hz :)
  · exact (congrArg (fun h : Hub => h.r.boot.recovery) hz :).trans hrec
  · exact (congrArg (fun h : Hub => h.r.boot.slotAlt) hz :).trans halt
  · exact (congrArg (fun h : Hub => h.r.dieStatus.norOk) hz :)
  · exact (congrArg (fun h : Hub => h.gw.role) hz :)
  · exact (congrArg (fun h : Hub => h.eng.role) hz :)
  · exact (congrArg (fun h : Hub => h.ring.r.nidCfg) hz :).trans hcfg
  · exact (congrArg (fun h : Hub => vget h.fw 4 {}) hz :).trans hended
  · exact (congrArg Hub.key hz :).trans hkey

end Sys2Proof.Machine

namespace Sys2Proof.Machine

/-! ### The boot of a Sole (R702 to R706) -/

/-- k is channel a after the legal code of its Sole was checked, with the outcome ok: its role is the one last stored, and a
legal code that is good has taken up what the last commit left (R321). -/
def Chan.Legal (a : Chan) (ok : Bool) (k : Chan) : Prop :=
  k.core.r.boot.lcodeBad = (!ok) ∧ k.core.meterRole = a.core.r.role.meterNext
    ∧ (ok = true → k.met.eImp = a.ledg.nv.eImp ∧ k.met.eExp = a.ledg.nv.eExp ∧ k.ledg.r.pfail.lastOk = a.ledg.committed
      ∧ k.ledg.committed = false ∧ k.ledg.img = [])

namespace Chan.Legal

variable {a k z : Chan} {ok : Bool}

theorem lasts (h : Chan.Legal a ok k) (g : Chan.Lasts k z) : Chan.Legal a ok z := by
  obtain ⟨hbad, hrole, htake⟩ := h
  obtain ⟨gcore, -, -, ⟨gi, ge⟩, ⟨-, -, gpf, gcm, gimg⟩, -⟩ := g
  refine ⟨(congrArg (fun c : Core => c.r.boot.lcodeBad) gcore :).trans hbad, (congrArg Core.meterRole gcore :).trans hrole, fun hok => ?_⟩
  obtain ⟨hi, he, hlast, hcm, himg⟩ := htake hok
  exact ⟨gi.trans hi, ge.trans he, (congrArg LedgPfail.lastOk gpf).trans hlast, gcm.trans hcm, gimg.trans himg⟩

/-- What the ROM shows does not matter to it. -/
theorem rom (h : Chan.Legal a ok k) (g : z.noRom = k.noRom) : Chan.Legal a ok z := by
  have hz : Chan.Legal a ok z.noRom := g ▸ h
  exact hz

end Chan.Legal

/-- The legal code takes up what the last commit left (R321). -/
theorem Chan.legalBoot_took (k : Chan) (e : Env) :
    let z := k.legalBoot e
    z.core.lasting = k.core.lasting ∧ (z.met.eImp = k.ledg.nv.eImp ∧ z.met.eExp = k.ledg.nv.eExp)
      ∧ z.ledg.r.pfail.lastOk = k.ledg.committed ∧ z.ledg.committed = false ∧ z.ledg.img = [] := by
  have hview (w : Chan) (hcore : w.core = k.core) (hmet : w.met.eImp = k.ledg.nv.eImp ∧ w.met.eExp = k.ledg.nv.eExp)
      (hpf : w.ledg.r.pfail.lastOk = k.ledg.committed) (hcm : w.ledg.committed = false) (himg : w.ledg.img = []) :
      let z := w.ledgView e
      z.core.lasting = k.core.lasting ∧ (z.met.eImp = k.ledg.nv.eImp ∧ z.met.eExp = k.ledg.nv.eExp)
        ∧ z.ledg.r.pfail.lastOk = k.ledg.committed ∧ z.ledg.committed = false ∧ z.ledg.img = [] := by
    obtain ⟨gcore, -, -, ⟨gi, ge⟩, ⟨-, -, gpf, gcm, gimg⟩, -⟩ := Chan.Lasts.ledgView (e := e) (.refl w)
    exact ⟨gcore.trans (congrArg Core.lasting hcore), ⟨gi.trans hmet.1, ge.trans hmet.2⟩,
      (congrArg LedgPfail.lastOk gpf).trans hpf, gcm.trans hcm, gimg.trans himg⟩
  unfold Chan.legalBoot
  simp only
  split
  · refine hview _ ?_ ⟨?_, ?_⟩ ?_ ?_ ?_ <;> rfl
  · refine hview _ ?_ ⟨?_, ?_⟩ ?_ ?_ ?_ <;> rfl

/-- The legal code boots (R321, R702). -/
theorem Chan.bootLegal_legal (k : Chan) (e : Env) (ok : Bool) :
    (k.bootLegal e ok).core.run = k.core.run ∧ Chan.Legal k ok (k.bootLegal e ok) := by
  cases ok
  · exact ⟨rfl, rfl, rfl, nofun⟩
  · obtain ⟨hcore, ⟨hi, he⟩, hpf, hcm, himg⟩ := Chan.legalBoot_took { k with
      loop := k.loop.boot
      met := k.met.boot
      core := { k.core with
        meterRole := k.core.r.role.meterNext
        r := { k.core.r with
          role := { k.core.r.role with meter := k.core.r.role.meterNext }
          boot := { k.core.r.boot with lcodeBad := !true } } } } e
    exact ⟨(congrArg Core.run hcore :), (congrArg (fun c : Core => c.r.boot.lcodeBad) hcore :), (congrArg Core.meterRole hcore :),
      fun _ => ⟨hi, he, hpf, hcm, himg⟩⟩

/-- A Sole's grant unit starts again, and nothing else of its channel. -/
theorem Chan.lasts_grantBoot (k : Chan) : Chan.Lasts k k.grantBoot := by
  unfold Chan.grantBoot
  split <;> exact .refl k

/-- Shank of a Sole whose reset has ended inhibits its gates (R435). -/
theorem Chan.shkBoot_made (k : Chan) (e : Env) :
    (∀ a ok, Chan.Legal a ok k → Chan.Legal a ok (k.shkBoot e)) ∧ (k.shkBoot e).core.run = k.core.run
      ∧ (k.shkBoot e).clk = k.clk ∧ (k.shkBoot e).shk.r.status.inhibit = true := by
  have hw (w : Chan) (hcore : w.core = k.core) (hl : ∀ a ok, Chan.Legal a ok k → Chan.Legal a ok w) (hclk : w.clk = k.clk)
      (hinh : w.shk.r.status.inhibit = true) :
      (∀ a ok, Chan.Legal a ok k → Chan.Legal a ok (w.shkView e)) ∧ (w.shkView e).core.run = k.core.run
        ∧ (w.shkView e).clk = k.clk ∧ (w.shkView e).shk.r.status.inhibit = true := by
    have hrun : w.core.run = k.core.run := congrArg Core.run hcore
    have hv := Chan.Lasts.shkView (e := e) (.refl w)
    obtain ⟨gcore, -, gclk, -, -, -, ginh, -⟩ := id hv
    exact ⟨fun a ok h => (hl a ok h).lasts hv, (congrArg Core.run gcore :).trans hrun, gclk.trans hclk, ginh hinh⟩
  refine hw _ ?_ ?_ ?_ ?_
  · rfl
  · exact fun a ok h => h
  · rfl
  · rfl

/-- The ordinary firmware of a Sole runs: its synthesiser locks, and its gates are inhibited (R702). -/
theorem Chan.bootRun_made (a k : Chan) (e : Env) (ok : Bool) (h : Chan.Legal a ok k) :
    let z := k.bootRun e
    z.core.run = 2 ∧ Chan.Legal a ok z ∧ z.clk.r.status.state = .locking ∧ z.shk.r.status.inhibit = true := by
  let w : Chan := { k with
    core := { k.core with
      run := 2
      r := { k.core.r with linkStatus := { k.core.r.linkStatus with retrain := 0, hubPresent := true } } }
    pwm := k.pwm.boot k.core.meterRole }
  have hg := w.lasts_grantBoot
  have hlegal : Chan.Legal a ok w.grantBoot := Chan.Legal.lasts (k := w) h hg
  obtain ⟨hl, hrun, hclk, hinh⟩ := (w.grantBoot.clkBoot e).shkBoot_made e
  have hv := Chan.Lasts.ledgView (e := e) (.refl ((w.grantBoot.clkBoot e).shkBoot e))
  obtain ⟨gcore, -, gclk, -, -, -, ginh, -⟩ := id hv
  have hgrun : w.grantBoot.core.run = 2 := (congrArg Core.run hg.1 :)
  refine ⟨(congrArg Core.run gcore :).trans (hrun.trans hgrun), (hl a ok hlegal).lasts hv, ?_, ginh hinh⟩
  exact (congrArg (fun c : Clk => c.r.status.state) (gclk.trans hclk) :)

/-- s with the boot of a Sole recorded at the hub. -/
def State.soleStarted (s : State) (n : Nat) : State := { s with hub := { s.hub with
  cob := { s.hub.cob with tBoot := vset s.hub.cob.tBoot n s.now }
  st := vMod s.hub.st n (fun (t : Stitch) => { t with tHub := s.now, tSole := s.now }) } }

theorem State.soleBoot_idle (s : State) (n : Nat) (okLegal okBoot okOther : Bool) (h : 4 ≤ n ∨ (s.ch n).core.run ≠ 1) :
    s.soleBoot n okLegal okBoot okOther = s := if_pos h

theorem State.soleBoot_held (s : State) (n : Nat) (okLegal okBoot okOther : Bool) (hn : n < 4) (h : (s.ch n).core.run = 1)
    (hhold : ((s.bootAlarms n).ch n).key.r.tampStatus.hold = true) : s.soleBoot n okLegal okBoot okOther = s.bootAlarms n := by
  unfold State.soleBoot
  rw [if_neg (by omega)]
  exact if_pos hhold

/-- The boot of a Sole that nothing alarms. -/
theorem State.soleBoot_eq (s : State) (n : Nat) (okLegal okBoot okOther : Bool) (hn : n < 4) (h : (s.ch n).core.run = 1)
    (hhold : (s.ch n).key.r.tampStatus.hold = false) (hopen : (s.ch n).key.inputOpen = false) :
    s.soleBoot n okLegal okBoot okOther = let r := (s.onCh n (fun e k => k.bootLegal e okLegal)).fwBoot n okBoot okOther
      ((r.1.onCh n (fun e k => if r.2 then k.bootRun e else k.bootFail)).soleStarted n).ageReplan n true := by
  unfold State.soleBoot
  rw [if_neg (by omega), s.bootAlarms_quiet n hn hhold hopen]
  simp only
  rw [if_neg (by simp [hhold])]
  rfl

/-- What the boot of a Sole makes of its channel. -/
theorem State.soleBoot_made (s : State) (n : Nat) (okLegal okBoot okOther : Bool) (hn : n < 4) (h : (s.ch n).core.run = 1)
    (hhold : (s.ch n).key.r.tampStatus.hold = false) (hopen : (s.ch n).key.inputOpen = false) :
    let f := vget s.hub.fw n {}
    let runs := f.sound false okBoot || f.sound true okOther
    let k := (s.soleBoot n okLegal okBoot okOther).ch n
    (k.core.run = if runs then 2 else 3) ∧ Chan.Legal (s.ch n) okLegal k
      ∧ (runs = true → k.clk.r.status.state = .locking ∧ k.shk.r.status.inhibit = true) := by
  intro f runs k
  obtain ⟨-, hlegal⟩ := (s.ch n).bootLegal_legal s.env okLegal
  have hz := s.soleBoot_eq n okLegal okBoot okOther hn h hhold hopen
  have ht : Chan.Legal (s.ch n) okLegal ((s.onCh n fun e k => k.bootLegal e okLegal).ch n) := by
    rw [State.onCh_ch_same s n _ hn]
    exact hlegal.lasts (Chan.lasts_after s n _)
  obtain ⟨hok, hrom⟩ := (s.onCh n fun e k => k.bootLegal e okLegal).fwBoot_sole okBoot okOther n hn
  rw [State.fw_of_firm (s.firm_onCh n _)] at hok
  generalize (s.onCh n fun e k => k.bootLegal e okLegal).fwBoot n okBoot okOther = r at hok hrom hz
  have hr := ht.rom hrom
  have hk : k = r.1.after n (if r.2 then (r.1.ch n).bootRun r.1.env else (r.1.ch n).bootFail) := by
    have hage := (State.ageReplan_bare ((r.1.onCh n fun e k => if r.2 then k.bootRun e else k.bootFail).soleStarted n) n true).2
    rw [← State.onCh_ch_same r.1 n (fun e k => if r.2 then k.bootRun e else k.bootFail) hn]
    exact (congrArg (fun u : State => u.ch n) hz).trans (congrArg (fun v => (vget v n {} : Chan)) hage)
  have hlast := Chan.lasts_after r.1 n (if r.2 then (r.1.ch n).bootRun r.1.env else (r.1.ch n).bootFail)
  rw [← hk] at hlast
  have hruns : r.2 = runs := hok
  cases hb : runs
  · rw [hruns, hb] at hlast
    exact ⟨(congrArg Core.run hlast.1 :), Chan.Legal.lasts (k := (r.1.ch n).bootFail) hr hlast, nofun⟩
  · rw [hruns, hb] at hlast
    obtain ⟨hrun, hl, hclk, hinh⟩ := Chan.bootRun_made _ _ r.1.env _ hr
    have hl := hl.lasts hlast
    obtain ⟨gcore, -, gclk, -, -, -, ginh, -⟩ := hlast
    exact ⟨(congrArg Core.run gcore :).trans hrun, hl, fun _ => ⟨(congrArg (fun c : Clk => c.r.status.state) gclk :).trans hclk, ginh hinh⟩⟩

end Sys2Proof.Machine

namespace Sys2Proof.Machine

/-! ### The loss of the Tongue's session (R340, R716) -/

/-- The session of k has its cause recorded, the loss of communication, and its TLS connection is closed. -/
def Chan.CommLost (k : Chan) : Prop := k.veh.causeSet = true ∧ k.veh.r.status.cause = 4 ∧ k.veh.r.status.tls = false

namespace Chan.CommLost

variable {k : Chan} {e : Env}

/-- The record of the loss. -/
theorem recorded (h : k.veh.causeSet = false) (ht : k.veh.r.status.tls = false) (d : Nat) :
    Chan.CommLost ((k.vCause 0x04).vEvt e 0x0B d) := by
  have hc : Chan.CommLost (k.vCause 0x04) := by
    rw [Chan.vCause, if_neg (by simp [h])]
    exact ⟨rfl, rfl, ht⟩
  unfold Chan.vEvt
  simp only
  split <;> exact hc

theorem of_veh {z : Chan} (h : Chan.CommLost k) (hz : z.veh = k.veh) : Chan.CommLost z := by
  rw [Chan.CommLost, hz]
  exact h

end Chan.CommLost

theorem Chan.loopStop_veh (k : Chan) (e : Env) (t : Bool) : (k.loopStop e t).veh = k.veh := by
  unfold Chan.loopStop
  split
  · cases t <;> rfl
  all_goals rfl

theorem Chan.sessEstimate_veh (k : Chan) (e : Env) : (k.sessEstimate e).veh = k.veh := by
  unfold Chan.sessEstimate
  simp only
  split
  · rfl
  · unfold Chan.trendUpdate Chan.forecast
    simp only
    split <;> rfl

/-- A session that ends goes to SHUTDOWN. -/
theorem Chan.CommLost.vShutdown {k : Chan} {e : Env} (h : Chan.CommLost k) (d : Bool) :
    Chan.CommLost (k.vShutdown e d) ∧ (k.vShutdown e d).veh.r.status.state = .shutdown := by
  have hgo (w : Chan) (hw : Chan.CommLost w) :
      Chan.CommLost ((w.vGo e .shutdown).sessEstimate e) ∧ ((w.vGo e .shutdown).sessEstimate e).veh.r.status.state = .shutdown := by
    refine ⟨.of_veh (k := w.vGo e .shutdown) hw (Chan.sessEstimate_veh _ e), ?_⟩
    rw [Chan.sessEstimate_veh]
    rfl
  unfold Chan.vShutdown
  simp only
  refine hgo _ ?_
  split
  · refine .of_veh ?_ (Chan.loopStop_veh _ e false)
    exact h
  · exact h

/-- A session that stops goes to STOPPING. -/
theorem Chan.CommLost.vStop {k : Chan} {e : Env} (h : Chan.CommLost k) (c : Nat) :
    Chan.CommLost (k.vStop e c) ∧ (k.vStop e c).veh.r.status.state = .stopping := by
  have hc : k.vCause c = k := if_pos h.1
  unfold Chan.vStop
  simp only [hc]
  refine ⟨?_, rfl⟩
  have hs : Chan.CommLost (({ k with veh.pause := false, loop.iTgt := 0 } : Chan).loopStop e false) := by
    refine .of_veh ?_ (Chan.loopStop_veh _ e false)
    exact h
  exact hs

/-- The Tongue's session is lost before its cable is checked: it goes to SHUTDOWN. -/
theorem Chan.vCommLost_early (k : Chan) (e : Env) (hc : k.veh.causeSet = false) (ht : k.veh.r.status.tls = false)
    (h : k.veh.r.status.state = .setup ∨ k.veh.r.status.state = .auth ∨ k.veh.r.status.state = .discovery) :
    Chan.CommLost (k.vCommLost e) ∧ (k.vCommLost e).veh.r.status.state = .shutdown := by
  rcases h with h | h | h <;> simp only [Chan.vCommLost, h] <;> exact (Chan.CommLost.recorded hc ht _).vShutdown false

/-- The Tongue's session is lost while it charges, or is about to: it stops. -/
theorem Chan.vCommLost_running (k : Chan) (e : Env) (hc : k.veh.causeSet = false) (ht : k.veh.r.status.tls = false)
    (h : k.veh.r.status.state = .cableCheck ∨ k.veh.r.status.state = .precharge ∨ k.veh.r.status.state = .transfer) :
    Chan.CommLost (k.vCommLost e) ∧ (k.vCommLost e).veh.r.status.state = .stopping := by
  have hrec := Chan.CommLost.recorded (e := e) hc ht
  rcases h with h | h | h
  · simp only [Chan.vCommLost, h]
    exact (hrec _).vStop 4
  · simp only [Chan.vCommLost, h]
    exact (hrec _).vStop 4
  · simp only [Chan.vCommLost, h]
    refine Chan.CommLost.vStop ?_ 4
    exact hrec _

/-- No session is lost where none runs, or where it is stopping. -/
theorem Chan.vCommLost_idle (k : Chan) (e : Env) (h : k.veh.r.status.state = .off ∨ k.veh.r.status.state = .unplugged
    ∨ k.veh.r.status.state = .plugged ∨ k.veh.r.status.state = .ended ∨ k.veh.r.status.state = .stopping) : k.vCommLost e = k := by
  rcases h with h | h | h | h | h <;> simp only [Chan.vCommLost, h]

/-- A channel whose TLS connection is closed. -/
def Chan.tlsClosed (k : Chan) : Chan := { k with veh.r.status.tls := false }

theorem Chan.vTlsLost_of_not_shutdown (k : Chan) (e : Env) (h : k.veh.r.status.state ≠ .shutdown) :
    k.vTlsLost e = k.tlsClosed.vCommLost e := by
  refine if_neg fun hc => ?_
  exact h (Eq.symm (by simpa [Chan.vIn] using hc.1))

theorem Chan.vTlsLost_orderly (k : Chan) (e : Env) (h : k.veh.r.status.state = .shutdown) (ha : k.veh.stopAns = true) :
    k.vTlsLost e = k.tlsClosed := by
  refine if_pos ⟨?_, ha⟩
  simp [Chan.vIn, h]

/-! ### The watchdogs of the hub and of a Sole (R711, R715) -/

theorem State.hubWatchdog_eq (s : State) (h : s.hub.run = 2) :
    let w := s.hub.r.wdt
    s.hubWatchdog = ({ s with hub := { s.hub with r := { s.hub.r with wdt := { w with exp := satInc w.exp } } } } : State).hubReset 1
      fun c => { c with hubWdt := true } := by
  unfold State.hubWatchdog
  rw [if_neg (not_not_intro h)]

/-- A channel that differs in the registers of its firmware differs in its core alone. -/
theorem Chan.eq_of_noFw {a k : Chan} (h : k.noFw = a.noFw) :
    k.core.run = a.core.run ∧ k.core.pm = a.core.pm ∧ k = { a with core := k.core } :=
  ⟨(congrArg (fun c : Chan => c.core.run) h :), (congrArg (fun c : Chan => c.core.pm) h :),
    (congrArg (fun c : Chan => ({ c with core := k.core } : Chan)) h :)⟩

/-- What the watchdog of a Sole does before the Sole resets: its expiry is counted, its gates go low, and the legal registers are
stored without a mark that the commit is complete. -/
def Chan.expire (k : Chan) (e : Env) : Chan :=
  let w := k.core.r.wdt
  (({ k with core := { k.core with r := { k.core.r with wdt := { w with exp := satInc w.exp } } } } : Chan).shkInhibit e).legalSave e

/-- k is channel a after its watchdog expired: the count, and what was stored. -/
def Chan.Expired (a k : Chan) : Prop :=
  Chan.Stored a k ∧ k.core.r.wdt.exp = satInc a.core.r.wdt.exp ∧ k.core.r.rstCause = a.core.r.rstCause
    ∧ (k.met.eImp = a.met.eImp ∧ k.met.eExp = a.met.eExp) ∧ (k.ledg.nv.eImp = a.met.eImp ∧ k.ledg.nv.eExp = a.met.eExp)
    ∧ k.ledg.committed = false

theorem Chan.Expired.lasts {a k z : Chan} (h : Chan.Expired a k) (g : Chan.Lasts k z) : Chan.Expired a z := by
  obtain ⟨hst, hexp, hrst, hmet, hnv, hcm⟩ := h
  have gst := Chan.Stored.of_lasts g
  obtain ⟨gcore, -, -, ⟨gi, ge⟩, ⟨-, -, -, gcm, -⟩, gnv, -⟩ := g
  rw [hmet.1, hmet.2] at gnv
  exact ⟨hst.trans gst, (congrArg (fun c : Core => c.r.wdt.exp) gcore :).trans hexp,
    (congrArg (fun c : Core => c.r.rstCause) gcore :).trans hrst, ⟨gi.trans hmet.1, ge.trans hmet.2⟩, gnv hnv, gcm.trans hcm⟩

theorem Chan.expire_expired (k : Chan) (e : Env) : Chan.Expired k (k.expire e) := by
  let k' : Chan := { k with core := { k.core with r := { k.core.r with wdt := { k.core.r.wdt with exp := satInc k.core.r.wdt.exp } } } }
  obtain ⟨hl, -, -⟩ := k'.shkInhibit_lasts e
  have hst := Chan.Stored.of_lasts hl
  obtain ⟨hcore, -, -, hmet, -⟩ := hl
  exact ⟨hst, (congrArg (fun c : Core => c.r.wdt.exp) hcore :), (congrArg (fun c : Core => c.r.rstCause) hcore :), hmet, hmet, rfl⟩

/-- s after the watchdog of a Sole, before the Sole leaves reset. -/
def State.expireReset (s : State) (n : Nat) : State := (s.onCh n fun e k => k.expire e).soleReset n fun c => { c with wdt := true }

theorem State.soleWatchdog_eq (s : State) (n : Nat) (hn : n < 4) (h : (s.ch n).core.run = 2) :
    s.soleWatchdog n = (s.expireReset n).release := by
  unfold State.soleWatchdog
  rw [if_neg (by omega)]
  rfl

/-- k is what the watchdog makes of channel a. -/
def Chan.Barked (a k : Chan) : Prop :=
  k.core.r.wdt.exp = satInc a.core.r.wdt.exp ∧ k.core.r.rstCause = { a.core.r.rstCause with wdt := true }
    ∧ k.ledg.nv.eImp = a.met.eImp ∧ k.ledg.nv.eExp = a.met.eExp ∧ k.ledg.committed = false
    ∧ k.key.slots = a.key.slots ∧ k.ledg.slots = a.ledg.slots

theorem State.expireReset_ch (s : State) (n : Nat) (hn : n < 4) : (((s.expireReset n).ch n).core.run = 0
    ∧ ((s.expireReset n).ch n).core.pm = 0) ∧ Chan.Barked (s.ch n) ((s.expireReset n).ch n) := by
  have hexp : Chan.Expired (s.ch n) ((s.onCh n fun e k => k.expire e).ch n) := by
    rw [State.onCh_ch_same s n _ hn]
    exact ((s.ch n).expire_expired s.env).lasts (Chan.lasts_after s n _)
  obtain ⟨w, e, hw, hk⟩ := (s.onCh n fun e k => k.expire e).soleReset_ch n (fun c => { c with wdt := true }) hn
  obtain ⟨⟨hkey, hslots, -⟩, hcnt, hrst, -, ⟨hi, he⟩, hcm⟩ := hexp.lasts hw
  have hk : (s.expireReset n).ch n = _ := hk
  rw [hk]
  exact ⟨⟨rfl, rfl⟩, hcnt, congrArg (fun c : ChRstCause => { c with wdt := true }) hrst, hi, he, hcm, hkey, hslots⟩

theorem State.expireReset_beside (s : State) (n m : Nat) (hmn : m ≠ n) : State.Beside m s (s.expireReset n) :=
  (State.Beside.onCh s _ hmn).trans (State.Beside.soleReset _ n _ m hmn)

theorem State.expireReset_firm (s : State) (n : Nat) : (s.expireReset n).firm = s.firm :=
  (State.soleReset_firm _ n _).trans (s.firm_onCh n _)

/-- A Sole in reset whose power state is ON, after the release: it leaves reset where nothing holds it. -/
theorem State.release_reset (s : State) (n : Nat) (hn : n < 4) (hrun : (s.ch n).core.run = 0) (hpm : (s.ch n).core.pm = 0) :
    (s.release.ch n = s.ch n ∨ s.release.ch n = (s.ch n).freed) ∧ (s.release.ch n).core.run
      = if s.hub.r.rstStatus.vholdOk = true ∧ s.pwr.pin = false ∧ s.pwr.rails = true ∧ s.pwr.tPf = none
          ∧ s.pwr.off.getLsbD n = false then 1 else 0 := by
  by_cases hr : s.Rising
  · rw [(s.release_free hr).2 n hn, (s.freedCh_run n).2]
    obtain ⟨hv, hpin, hrails, ht⟩ := hr
    constructor
    · unfold State.freedCh
      split
      · exact .inr rfl
      · exact .inl rfl
    · simp [hrun, hpm, hv, hpin, hrails, ht]
  · rw [s.release_held hr, hrun, if_neg]
    · exact ⟨.inl rfl, rfl⟩
    · rintro ⟨hv, hpin, hrails, ht, -⟩
      exact hr ⟨hv, hpin, hrails, ht⟩

/-- The watchdog of a Sole (R715): what it makes of its channel, and that no other Sole outside reset changes. -/
theorem State.soleWatchdog_made (s : State) (n : Nat) (hn : n < 4) (h : (s.ch n).core.run = 2) :
    let z := s.soleWatchdog n
    Chan.Barked (s.ch n) (z.ch n)
      ∧ (z.ch n).core.run = (if s.hub.r.rstStatus.vholdOk = true ∧ s.pwr.pin = false ∧ s.pwr.rails = true ∧ s.pwr.tPf = none
          ∧ s.pwr.off.getLsbD n = false then 1 else 0)
      ∧ ∀ m, m < 4 → m ≠ n → (s.ch m).core.run ≠ 0 → z.ch m = s.ch m := by
  intro z
  have hz : z = (s.expireReset n).release := s.soleWatchdog_eq n hn h
  have hfirm := s.expireReset_firm n
  obtain ⟨⟨hrun, hpm⟩, hb⟩ := s.expireReset_ch n hn
  have hbeside := s.expireReset_beside n
  generalize s.expireReset n = w at hz hfirm hrun hpm hb hbeside
  obtain ⟨hch, hrel⟩ := w.release_reset n hn hrun hpm
  rw [State.hubRegs_of_firm hfirm, State.pwr_of_firm hfirm] at hrel
  rw [hz]
  refine ⟨?_, hrel, fun m hm hmn hup => ?_⟩
  · rcases hch with hch | hch
    · exact hch ▸ hb
    · rw [hch]
      exact hb
  · have hm' := (hbeside m hmn).2
    rw [w.release_ch_running m hm (hm' ▸ hup), hm']

end Sys2Proof.Machine

namespace Sys2Proof.Machine

/-! ### The acknowledgement of a masked reset input (R714) -/

/-- The check of a critical descriptor leaves the life cycle of its die. -/
theorem Key.critical_lc (k : Key) (hub : Bool) (d : Desc) : (k.critical hub d).1.r.lcStatus = k.r.lcStatus := by
  let P (x : Key × Option Nat × Bool) : Prop := x.1.r.lcStatus = k.r.lcStatus
  exact iteInduction (motive := P) (fun _ => rfl) fun _ => iteInduction (motive := P) (fun _ => rfl) fun _ =>
    iteInduction (motive := P) (fun _ => rfl) fun _ => iteInduction (motive := P) (fun _ => rfl) fun _ =>
      iteInduction (motive := P) (fun _ => rfl) fun _ => rfl

/-- What a critical descriptor changes at the hub before it is executed is its key store. -/
theorem State.taken_hub (s : State) (d : Desc) :
    ∃ x : Key, s.taken 4 d = { s with hub := { s.hub with key := x } } ∧ x.r.lcStatus = s.hub.key.r.lcStatus := by
  unfold State.taken
  split
  · exact ⟨_, rfl, Key.critical_lc _ _ d⟩
  · exact ⟨_, rfl, rfl⟩

theorem State.descOp_stuckAck (s : State) (d : Desc) (ref : DescRef) (hop : d.opcode = 0x0707) :
    s.descOp 4 d ref = s.dStuckAck d := by
  simp [State.descOp, hop]

section StuckAck

variable (s : State) (d : Desc) (hb : d.onlyBits [] = true)
include hb

theorem State.dStuckAck_state (h : s.hub.key.r.lcStatus.state = .blank ∨ s.hub.key.r.lcStatus.state = .retired) :
    s.dStuckAck d = (s, some 0xB0) := by
  unfold State.dStuckAck
  rw [if_neg (by simp [hb]), if_pos h]

variable (h : ¬(s.hub.key.r.lcStatus.state = .blank ∨ s.hub.key.r.lcStatus.state = .retired))
include h

theorem State.dStuckAck_none (ha : s.hub.r.rstStatus.ackPend = false) : s.dStuckAck d = (s, some 0xB7) := by
  unfold State.dStuckAck
  rw [if_neg (by simp [hb]), if_neg h, if_pos (by simp [ha])]

theorem State.dStuckAck_pending (ha : s.hub.r.rstStatus.ackPend = true) : s.dStuckAck d = ({ s with
    hub := { s.hub with r := { s.hub.r with rstStatus := { s.hub.r.rstStatus with ackPend := false } } }
    chans := s.chans.map (fun (k : Chan) => { k with core := { k.core with ackPend := false } }) }, some 0) := by
  unfold State.dStuckAck
  rw [if_neg (by simp [hb]), if_neg h, if_neg (by simp [ha])]

end StuckAck

/-! ### The obligation about boots and watchdogs -/

/-- Settles O52: boots, the acknowledgement of a masked reset and the watchdogs, by what each leaves of its die. -/
theorem bootsAndWatchdogs : Obligations.BootsAndWatchdogs := by
  intro s slots runs open_
  refine ⟨?hubBoot, ?soleBoot, ?ack, ?hubDog, ?soleDog, ?tongue⟩
  case hubBoot =>
    intro okBoot okOther o
    refine ⟨fun h => congrArg State.done (if_pos h), fun h => ?_⟩
    obtain ⟨hrun, hrec, halt, hnor, hgw, heng, hnid, hfw, hkey⟩ := s.hubBoot_made okBoot okOther h
    generalize hz : s.hubBoot okBoot okOther = z at hrun hrec halt hnor hgw heng hnid hfw hkey
    have hruns : runs 4 okBoot okOther = ((vget s.hub.fw 4 {}).sound false okBoot || (vget s.hub.fw 4 {}).sound true okOther) := rfl
    refine ⟨z, congrArg State.done hz, ?_, ?_, halt.trans (Bool.and_assoc ..).symm, hnor, hgw, heng, hnid, ?_, ?_, fun hheld => ?_⟩
    · rw [hrun, hruns]
    · rw [hrec, hruns, Bool.not_or]
    · rw [hfw]
      rfl
    · rw [hfw]
      rfl
    · rw [hkey]
      obtain ⟨-, -, hhold⟩ := s.bootAlarms_hub
      exact hhold hheld
  case soleBoot =>
    intro n okLegal okBoot okOther o c
    refine ⟨fun h => congrArg State.done (s.soleBoot_idle n okLegal okBoot okOther h), fun hn h hheld => ?_,
      fun hn h hhold hopen => ?_⟩
    · obtain ⟨hrun, hhold, hheld⟩ := s.bootAlarms_sole n hn hheld
      exact ⟨_, congrArg State.done (s.soleBoot_held n okLegal okBoot okOther hn h hhold), hrun.trans h, hhold, hheld⟩
    · obtain ⟨hrun, ⟨hbad, hrole, htake⟩, hup⟩ := s.soleBoot_made n okLegal okBoot okOther hn h hhold (Bool.not_eq_true _ ▸ hopen)
      exact ⟨_, rfl, hrun, hbad, hrole, htake, hup⟩
  case ack =>
    intro d htakes hop hb t o lc
    obtain ⟨x, ht, hlc⟩ := s.taken_hub d
    have hd (r : DescRef) : t.descOp 4 d r = t.dStuckAck d := t.descOp_stuckAck d r hop
    have hstate : t.hub.key.r.lcStatus.state = lc := by
      rw [show t = _ from ht]
      exact congrArg (fun r => r.state) hlc
    have hack : t.hub.r.rstStatus.ackPend = s.hub.r.rstStatus.ackPend := by rw [show t = _ from ht]
    refine ⟨fun h => ?_, fun hbl hret ha => ?_, fun hbl hret ha => ?_⟩
    · exact s.rejects_descOp 4 0x0707 d htakes hop 0xB0 ((hd _).trans (t.dStuckAck_state d hb (hstate ▸ h)))
    · refine s.rejects_descOp 4 0x0707 d htakes hop 0xB7 ((hd _).trans (t.dStuckAck_none d hb ?_ (hack.trans ha)))
      rw [hstate]
      exact not_or.mpr ⟨hbl, hret⟩
    · refine s.leaves_descOp_code 4 0x0707 d htakes hop _ 0 ((hd _).trans (t.dStuckAck_pending d hb ?_ (hack.trans ha)))
      rw [hstate]
      exact not_or.mpr ⟨hbl, hret⟩
  case hubDog =>
    intro o
    refine ⟨fun h => congrArg State.done (if_pos h), fun h => ?_⟩
    let w := s.hub.r.wdt
    let u : State := { s with hub := { s.hub with r := { s.hub.r with wdt := { w with exp := satInc w.exp } } } }
    obtain ⟨hpwr, hx, hrun, hjnl, hjbuf, hkey, hnid, hrst, hwdt, hch⟩ := u.hubReset_keeps 1 fun c => { c with hubWdt := true }
    have hz : s.hubWatchdog = u.hubReset 1 _ := s.hubWatchdog_eq h
    generalize u.hubReset 1 (fun c => { c with hubWdt := true }) = z at hpwr hx hrun hjnl hjbuf hkey hnid hrst hwdt hch hz
    exact ⟨z, congrArg State.done hz, hrun, hrst, (congrArg (fun w => w.exp) hwdt :), (congrArg Key.slots hkey :), hnid, hjnl, hjbuf, hx, hpwr,
      fun n _ => Chan.eq_of_noFw (hch n)⟩
  case soleDog =>
    intro n o c
    refine ⟨fun h => congrArg State.done (if_pos h), fun hn h => ?_⟩
    obtain ⟨⟨hexp, hrst, hi, he, hcm, hkey, hslots⟩, hrun, hother⟩ := s.soleWatchdog_made n hn h
    exact ⟨_, rfl, hexp, hrst, hi, he, hcm, hkey, hslots, hrun, hother⟩
  case tongue =>
    intro n hup c st o
    refine ⟨fun h ha => ?_, fun h hc => ?_, fun h hc => ?_, fun h => ?_⟩
    · exact s.becomes_onSole n 1 _ _ hup (c.vTlsLost_orderly s.env h ha)
    · obtain ⟨⟨-, hcause, htls⟩, hst⟩ := c.tlsClosed.vCommLost_early s.env hc rfl h
      refine s.becomes_onSole n 1 _ _ hup ?_
      have hne : st ≠ .shutdown := by rcases h with h | h | h <;> rw [h] <;> decide
      rw [c.vTlsLost_of_not_shutdown s.env hne]
      exact ⟨hst, hcause, htls⟩
    · obtain ⟨⟨-, hcause, htls⟩, hst⟩ := c.tlsClosed.vCommLost_running s.env hc rfl h
      refine s.becomes_onSole n 1 _ _ hup ?_
      have hne : st ≠ .shutdown := by rcases h with h | h | h <;> rw [h] <;> decide
      rw [c.vTlsLost_of_not_shutdown s.env hne]
      exact ⟨hst, hcause, htls⟩
    · refine s.becomes_onSole n 1 _ _ hup ?_
      have hne : st ≠ .shutdown := by rcases h with h | h | h | h | h <;> rw [h] <;> decide
      rw [c.vTlsLost_of_not_shutdown s.env hne]
      exact c.tlsClosed.vCommLost_idle s.env h

end Sys2Proof.Machine

namespace Sys2Proof.Machine

/-! ### What the shared operations of the vehicle session leave (R340 to R343, R351) -/

namespace Chan

variable (k : Chan) (e : Env)

@[simp] theorem vIn_iff (ss : List VehState) : k.vIn ss = true ↔ k.veh.r.status.state ∈ ss := by
  simp [vIn]

theorem vIn_not (ss : List VehState) : (!k.vIn ss) = true ↔ k.veh.r.status.state ∉ ss := by
  rw [← vIn_iff, Bool.not_eq_true', Bool.not_eq_true]

theorem vIn_only (st : VehState) : k.vIn [st] = true ↔ k.veh.r.status.state = st := by
  simp

/-- An event leaves of the session all but its queue, and what the registers show of that; it is journalled, and may raise
attention (R351). -/
theorem vEvt_leaves (code data : Nat) : ∃ q t ovf cnt js os, k.vEvt e code data = { k with
    veh := { k.veh with evq := q, tAttn := t, r.flags.evtOvf := ovf, r.status.evtCnt := cnt }
    jq := js
    oq := k.oq ++ os } := by
  unfold vEvt
  dsimp only
  split
  · exact ⟨_, _, _, _, _, [_], rfl⟩
  · exact ⟨_, _, _, _, _, [], by rw [List.append_nil]; rfl⟩

/-- The first cause of a session is recorded (R343). -/
theorem vCause_first (h : k.veh.causeSet = false) (c : Nat) :
    k.vCause c = { k with veh := { k.veh with causeSet := true, r.status.cause := BitVec.ofNat 8 c } } :=
  if_neg (by simp [h])

/-- A cause leaves all of the session but the cause. -/
theorem vCause_leaves (c : Nat) : ∃ x, k.vCause c = { k with veh := { k.veh with causeSet := true, r.status.cause := x } } := by
  cases h : k.veh.causeSet with
  | false => exact ⟨_, k.vCause_first h c⟩
  | true =>
    refine ⟨k.veh.r.status.cause, (if_pos h).trans ?_⟩
    rw [← h]

/-- A stop leaves the targets of the loop. -/
theorem loopStop_leaves (t : Bool) : ∃ l p, k.loopStop e t = { k with loop := l, pwm := p }
    ∧ l.vTgt = k.loop.vTgt ∧ l.iTgt = k.loop.iTgt := by
  unfold loopStop
  split
  · cases t <;> exact ⟨_, _, rfl, rfl, rfl⟩
  all_goals exact ⟨_, _, rfl, rfl, rfl⟩

/-- STOPPING is entered: the current target is 0 and the loop is stopped (R340). -/
theorem vStop_leaves (c : Nat) : ∃ l p, k.vStop e c = { k.vCause c with
      veh := { (k.vCause c).veh with pause := false, tState := e.now, r.status.state := .stopping }, loop := l, pwm := p }
    ∧ l.vTgt = k.loop.vTgt ∧ l.iTgt = 0 := by
  obtain ⟨x, hx⟩ := k.vCause_leaves c
  obtain ⟨l, p, hl, hv, hi⟩ := ({ k.vCause c with veh.pause := false, loop.iTgt := 0 } : Chan).loopStop_leaves e false
  refine ⟨l, p, ?_, ?_, hi⟩
  · unfold vStop
    dsimp only
    rw [hl]
    rfl
  · rw [hv, hx]

/-- A session that stops is in STOPPING with a current target of 0; the cause stands if it is the first (R340, R343). -/
theorem vStop_stops (c : Nat) : (k.vStop e c).veh.r.status.state = .stopping ∧ (k.vStop e c).loop.iTgt = 0
    ∧ (k.veh.causeSet = false → (k.vStop e c).veh.r.status.cause = BitVec.ofNat 8 c) := by
  obtain ⟨l, p, hk, -, hi⟩ := k.vStop_leaves e c
  rw [hk]
  refine ⟨rfl, hi, fun h => ?_⟩
  rw [k.vCause_first h]

theorem vStop_ledg (c : Nat) : (k.vStop e c).ledg = k.ledg := by
  obtain ⟨l, p, hk, -⟩ := k.vStop_leaves e c
  obtain ⟨x, hx⟩ := k.vCause_leaves c
  rw [hk, hx]

theorem vStop_pause (c : Nat) : (k.vStop e c).veh.pause = false := by
  obtain ⟨l, p, hk, -⟩ := k.vStop_leaves e c
  rw [hk]

/-- The session after the entry to SHUTDOWN (R340). -/
theorem vShutdown_veh (dis : Bool) : (k.vShutdown e dis).veh = { k.veh with
    ctOn := false, disOn := k.veh.disOn || dis, stopAns := false, pause := false
    fromRun := k.veh.r.status.state.running, tState := e.now, r.status.state := .shutdown } := by
  unfold vShutdown
  dsimp only
  rw [sessEstimate_veh]
  unfold vGo
  split
  · rw [loopStop_veh]
  · rfl

/-- A session that ends with a cause is in SHUTDOWN, its contactor outputs off; the cause stands if it is the first (R340, R343). -/
theorem vShutdown_ends (c : Nat) (dis : Bool) :
    let z := (k.vCause c).vShutdown e dis
    z.veh.r.status.state = .shutdown ∧ z.veh.ctOn = false ∧ z.veh.disOn = (k.veh.disOn || dis)
      ∧ z.veh.authDone = k.veh.authDone ∧ (k.veh.causeSet = false → z.veh.r.status.cause = BitVec.ofNat 8 c) := by
  obtain ⟨x, hx⟩ := k.vCause_leaves c
  refine ⟨?_, ?_, ?_, ?_, fun h => ?_⟩
  · rw [vShutdown_veh]
  · rw [vShutdown_veh]
  · rw [vShutdown_veh, hx]
  · rw [vShutdown_veh, hx]
  · rw [vShutdown_veh, k.vCause_first h]

end Chan

end Sys2Proof.Machine

namespace Sys2Proof.Machine

/-! ### The signalling circuits, VEH_CTRL and the link (R329, R333, R334, R340) -/

/-- A session whose ID circuit shows a class, seen since t; it is taken once it has been seen for deb ns (R329). -/
def Veh.idSeen (v : Veh) (now deb : Nat) (cls : IdState) (t : Nat) : Veh :=
  { v with idCand := cls, tId := t, r.status.id := if t + deb ≤ now then cls else v.r.status.id }

/-- A session whose CE circuit, of class old so far, shows a class, seen since t (R329). The class so far is an argument because
one sample judges both circuits as they were before it. -/
def Veh.ceSeen (v : Veh) (now deb : Nat) (old cls : CeState) (t : Nat) : Veh :=
  { v with ceCand := cls, tCe := t, r.status.ce := if t + deb ≤ now then cls else old }

/-- A session after one sample of both circuits. -/
def Veh.sampled (v : Veh) (now ce id : Nat) : Veh :=
  let deb := msNs (max 1 (min 100 v.r.ceThr.deb.toNat))
  (v.idSeen now deb (v.idClass id) (if v.idClass id = v.idCand then v.tId else now)).ceSeen now deb v.r.status.ce (v.ceClass ce)
    (if v.ceClass ce = v.ceCand then v.tCe else now)

/-- Both circuits seen: what that changes of a session. -/
theorem Veh.seen_eq (v : Veh) (now deb : Nat) (ce : CeState) (id : IdState) (tC tI : Nat) :
    (v.idSeen now deb id tI).ceSeen now deb v.r.status.ce ce tC = { v with
      ceCand := ce, tCe := tC, idCand := id, tId := tI
      r.status := { v.r.status with
        ce := if tC + deb ≤ now then ce else v.r.status.ce
        id := if tI + deb ≤ now then id else v.r.status.id } } := rfl

theorem Veh.seen_state (v : Veh) (now deb : Nat) (ce : CeState) (id : IdState) (tC tI : Nat) :
    ((v.idSeen now deb id tI).ceSeen now deb v.r.status.ce ce tC).r.status.state = v.r.status.state := rfl

/-- A session that is running cannot be switched off (R340). -/
theorem VehState.running_past {st : VehState} (h : st.running = true) :
    st ∉ [.unplugged, .plugged, .setup, .auth, .discovery, .ended] := by
  cases st <;> simp_all [VehState.running]

namespace Chan

variable (k : Chan) (e : Env)

/-- Outside SHUTDOWN a sample does no more than be taken. -/
theorem ceId_full (ce id : Nat) (h : k.veh.r.status.state ≠ .shutdown) :
    k.ceId e ce id true = { k with veh := k.veh.sampled e.now ce id } := by
  have hst : (k.veh.sampled e.now ce id).r.status.state = k.veh.r.status.state := Veh.seen_state ..
  exact if_neg fun hc => h (hst.symm.trans ((vIn_only { k with veh := k.veh.sampled e.now ce id } _).1 hc.1))

/-- k after a write of VEH_CTRL that changes no state (R340). -/
def withCtrl (w : Word) : Chan := { k with veh.r.ctrl := k.veh.r.ctrl.write w }

theorem vEnable_on (w : Word) (hen : (k.veh.r.ctrl.write w).en = true) (h : k.veh.r.status.state = .off)
    (hm : k.core.meterRole = false) : k.vEnable e w = ({ k.withCtrl w with veh.ceOn := true } : Chan).vGo e .unplugged :=
  (if_pos hen).trans (if_pos ⟨(vIn_only _ _).2 h, by simp [hm]⟩)

theorem vEnable_off (w : Word) (hen : (k.veh.r.ctrl.write w).en = false)
    (h : k.veh.r.status.state ∈ [.unplugged, .plugged, .setup, .auth, .discovery, .ended]) :
    ∃ v, k.vEnable e w = { k with veh := v }
      ∧ v.r.status.state = .off ∧ v.ceOn = false ∧ v.phy = false ∧ v.r.status.tls = false :=
  ⟨_, (if_neg (ne_true_of_eq_false hen)).trans (if_pos ((vIn_iff _ _).2 h)), rfl, rfl, rfl, rfl⟩

theorem vEnable_running (w : Word) (hen : (k.veh.r.ctrl.write w).en = false) (h : k.veh.r.status.state.running = true) :
    k.vEnable e w = k.withCtrl w := by
  refine (if_neg (by simp [hen])).trans (if_neg fun hc => ?_)
  exact VehState.running_past h ((vIn_iff _ _).1 hc)

/-- SDP is answered once the link is up, before a session, where nothing keeps the channel from one (R333, R334). -/
theorem vSdp_answers (hl : k.veh.r.status.link = true) (h : k.veh.r.status.state = .plugged ∨ k.veh.r.status.state = .setup)
    (hk : k.vKept = false) : k.vSdp = k.vAns .sdp :=
  if_pos ⟨hl, by simpa using h, by simp [hk]⟩

theorem vSdp_silent (h : k.veh.r.status.link = false ∨ k.vKept = true) : k.vSdp = k :=
  if_neg fun ⟨hl, _, hk⟩ => by rcases h with h | h <;> simp [h] at hl hk

/-! ### Setup and authorisation (R337 to R340) -/

theorem vSetup_elsewhere (ev : BitVec 48) (h : k.veh.r.status.state ≠ .setup) : k.vSetup e ev = k :=
  if_neg fun hc => h ((vIn_only _ _).1 hc)

/-- The channel as SessionSetupReq brings it to AUTH (R340). -/
def setUp (ev : BitVec 48) : Chan :=
  let f := k.free
  let k := f.2
  let k : Chan := { k with
    key.vol := true
    veh := { k.veh with
      tAuth := e.now, tReq := e.now
      r.sid := #v[f.1.extractLsb' 0 32, f.1.extractLsb' 32 32]
      r.evccidLo := ev.extractLsb' 0 32
      r.evccidHi := ev.extractLsb' 32 16
      r.status.tls := true } }
  (k.vAns .sessionSetup).vGo e .auth

/-- The channel brought to AUTH, with the event that tells the host so. -/
def setUpEvt (ev : BitVec 48) : Chan := (k.setUp e ev).vEvt e 0x04 (k.free.1.extractLsb' 0 24).toNat

theorem vSetup_of_setup (ev : BitVec 48) (h : k.veh.r.status.state = .setup) : k.vSetup e ev =
    if (k.setUpEvt e ev).veh.r.auth then (k.setUpEvt e ev).vAccept e (List.replicate 8 0) else k.setUpEvt e ev :=
  if_pos ((vIn_only _ _).2 h)

/-- z is channel k after a SessionSetupReq that was answered (R340). -/
def SetUp (ev : BitVec 48) (z : Chan) : Prop :=
  z.veh.r.status.tls = true ∧ z.veh.r.evccidLo = ev.extractLsb' 0 32 ∧ z.veh.r.evccidHi = ev.extractLsb' 32 16
    ∧ z.veh.tReq = e.now ∧ z = { k with veh := z.veh, key.vol := true, jq := z.jq, oq := z.oq, fc := k.fc + 1 }

theorem setUpEvt_setUp (ev : BitVec 48) : k.SetUp e ev (k.setUpEvt e ev)
    ∧ (k.setUpEvt e ev).veh.r.status.state = .auth ∧ (k.setUpEvt e ev).veh.r.auth = k.veh.r.auth := by
  obtain ⟨q, t, ovf, cnt, js, os, hev⟩ := (k.setUp e ev).vEvt_leaves e 0x04 (k.free.1.extractLsb' 0 24).toNat
  rw [setUpEvt, hev]
  exact ⟨⟨rfl, rfl, rfl, rfl, rfl⟩, rfl, rfl⟩

theorem SetUp.vAccept {k z : Chan} {e : Env} {ev : BitVec 48} (h : k.SetUp e ev z) (ref : List Word) :
    k.SetUp e ev (z.vAccept e ref) := by
  obtain ⟨htls, hlo, hhi, hreq, hz⟩ := h
  exact ⟨htls, hlo, hhi, hreq,
    (congrArg (fun y : Chan => ({ y with veh := (z.vAccept e ref).veh, oq := (z.vAccept e ref).oq } : Chan)) hz :)⟩

/-- SessionSetupReq in SETUP: the session goes to AUTH, or where AUTO_AUTH is set on to DISCOVERY (R338, R340). -/
theorem vSetup_done (ev : BitVec 48) (h : k.veh.r.status.state = .setup) :
    (k.vSetup e ev).veh.r.status.state = (if k.veh.r.auth then .discovery else .auth) ∧ k.SetUp e ev (k.vSetup e ev) := by
  obtain ⟨hz, hst, hauth⟩ := k.setUpEvt_setUp e ev
  rw [k.vSetup_of_setup e ev h, hauth]
  cases k.veh.r.auth
  · exact ⟨hst, hz⟩
  · exact ⟨rfl, hz.vAccept _⟩

/-! ### Authorisation asked, refused and timed out (R337 to R340) -/

/-- The channel with its authorisation decided against, the vehicle told so. -/
def authFailed : Chan := ({ k with veh.authDone := true } : Chan).vAns .authFailed

/-- A rejected authorisation ends the session, with cause 13 where none was recorded (R340). -/
theorem vReject_ends : (k.vReject e).veh.r.status.state = .shutdown ∧ (k.vReject e).veh.authDone = true
    ∧ (k.vReject e).veh.ctOn = false ∧ (k.veh.causeSet = false → (k.vReject e).veh.r.status.cause = 0x0D) := by
  obtain ⟨hst, hct, -, hdone, hcause⟩ := k.authFailed.vShutdown_ends e 0x0D false
  exact ⟨hst, hdone, hct, hcause⟩

/-- The channel once AuthorizationReq has been noted. -/
def authNoted (pnc : Bool) : Chan := { k.vReq e with veh := { (k.vReq e).veh with r.status.pnc := pnc } }

/-- The channel once the host has been asked for authorisation, of a contract or of an identification outside it. -/
def authAsks (pnc : Bool) (em : Vector Word 4) : Chan :=
  if k.veh.authAsked then k
  else if pnc then ({ k with veh := { k.veh with r.emaid := em, authAsked := true } } : Chan).vEvt e 0x06 0
  else ({ k with veh.authAsked := true } : Chan).vEvt e 0x05 0

theorem authAsks_again (pnc : Bool) (em : Vector Word 4) (h : k.veh.authAsked = true) : k.authAsks e pnc em = k := if_pos h

/-- The host is asked once: by an event, with the EMAID of a contract (R337). -/
theorem authAsks_first (pnc : Bool) (em : Vector Word 4) (h : k.veh.authAsked = false) :
    ∃ v js os, k.authAsks e pnc em = { k with veh := v, jq := js, oq := k.oq ++ os } ∧ v.r.status.state = k.veh.r.status.state
      ∧ v.r.status.pnc = k.veh.r.status.pnc ∧ v.authAsked = true ∧ (pnc = true → v.r.emaid = em) := by
  rw [authAsks, if_neg (ne_true_of_eq_false h)]
  cases pnc with
  | true =>
    obtain ⟨q, t, ovf, cnt, js, os, hev⟩ :=
      ({ k with veh := { k.veh with r.emaid := em, authAsked := true } } : Chan).vEvt_leaves e 0x06 0
    exact ⟨_, js, os, (if_pos rfl).trans hev, rfl, rfl, rfl, fun _ => rfl⟩
  | false =>
    obtain ⟨q, t, ovf, cnt, js, os, hev⟩ := ({ k with veh.authAsked := true } : Chan).vEvt_leaves e 0x05 0
    exact ⟨_, js, os, (if_neg Bool.false_ne_true).trans hev, rfl, rfl, rfl, fun hp => by cases hp⟩

theorem vAuthReq_elsewhere (pnc ok : Bool) (em : Vector Word 4) (h : k.veh.r.status.state ≠ .auth) :
    k.vAuthReq e pnc ok em = k :=
  if_pos ((vIn_not _ _).2 (by simpa using h))

/-- A contract that does not verify is rejected (R337). -/
theorem vAuthReq_rejects (ok : Bool) (em : Vector Word 4) (h : k.veh.r.status.state = .auth)
    (hbad : ok = false ∨ e.siteValid = false) : k.vAuthReq e true ok em = (k.authNoted e true).vReject e :=
  (if_neg (by simpa using h)).trans (if_pos ⟨rfl, by simpa using hbad⟩)

theorem vAuthReq_goes (pnc ok : Bool) (em : Vector Word 4) (h : k.veh.r.status.state = .auth)
    (hok : pnc = true → ok = true ∧ e.siteValid = true) :
    k.vAuthReq e pnc ok em = ((k.authNoted e pnc).authAsks e pnc em).vAns .authOngoing := by
  refine (if_neg (by simpa using h)).trans (if_neg ?_)
  rintro ⟨hp, hno⟩
  obtain ⟨ho, hs⟩ := hok hp
  simp [ho, hs] at hno

/-- AuthorizationReq in AUTH that is not rejected: the session stays in AUTH, and has asked (R337, R340). -/
theorem vAuthReq_asks (pnc ok : Bool) (em : Vector Word 4) (h : k.veh.r.status.state = .auth)
    (hok : pnc = true → ok = true ∧ e.siteValid = true) :
    let z := k.vAuthReq e pnc ok em
    z.veh.r.status.state = .auth ∧ z.veh.authAsked = true ∧ z.veh.r.status.pnc = pnc
      ∧ (pnc = true → k.veh.authAsked = false → z.veh.r.emaid = em) ∧ (k.veh.authAsked = true → z.veh.evq = k.veh.evq)
      ∧ (∃ xs : List Out, z.oq = k.oq ++ xs ++ [Out.vehicle k.idx .authOngoing []])
      ∧ z = { k with veh := z.veh, jq := z.jq, oq := z.oq } := by
  rw [k.vAuthReq_goes e pnc ok em h hok]
  cases ha : k.veh.authAsked with
  | true =>
    rw [(k.authNoted e pnc).authAsks_again e pnc em ha]
    exact ⟨h, ha, rfl, fun _ hf => (by cases hf), fun _ => rfl, ⟨[], by rw [List.append_nil]; rfl⟩, rfl⟩
  | false =>
    obtain ⟨v, js, os, hk, hst, hpnc, hasked, hem⟩ := (k.authNoted e pnc).authAsks_first e pnc em ha
    rw [hk]
    exact ⟨hst.trans h, hasked, hpnc, fun hp _ => hem hp, fun hf => (by cases hf), ⟨os, rfl⟩, rfl⟩

theorem vAuthTimeout_elsewhere (h : k.veh.r.status.state ≠ .auth) : k.vAuthTimeout e = k :=
  if_neg fun hc => h ((vIn_only _ _).1 hc.1)

theorem vAuthTimeout_due (h : k.veh.r.status.state = .auth)
    (hd : k.veh.tAuth + sNs (max 1 (min 55 k.veh.r.tmo2.authTmo.toNat)) ≤ e.now) : k.vAuthTimeout e = k.vReject e :=
  if_pos ⟨(vIn_only _ _).2 h, hd⟩

/-! ### The check of the leaf's validity (R336) -/

theorem certTick_noTime (h : e.siteValid = false) : k.certTick e = k := if_pos (by simp [h])

/-- z is channel k with the flags of the leaf set as its validity stands, whatever events that raised. -/
def CertFlagged (exp warn : Bool) (z : Chan) : Prop :=
  z.veh.r.flags.certExp = exp ∧ z.veh.r.flags.certWarn = warn ∧ z.veh.certs = k.veh.certs
    ∧ z = { k with veh := z.veh, jq := z.jq, oq := z.oq }

theorem CertFlagged.vEvtIf {k z : Chan} {exp warn : Bool} (h : k.CertFlagged exp warn z) (e : Env) (c : Prop) [Decidable c]
    (code data : Nat) : k.CertFlagged exp warn (if c then z.vEvt e code data else z) := by
  split
  · obtain ⟨hexp, hwarn, hcerts, hz⟩ := h
    obtain ⟨q, t, ovf, cnt, js, os, hev⟩ := z.vEvt_leaves e code data
    rw [hev]
    exact ⟨hexp, hwarn, hcerts, (congrArg (fun y : Chan => ({ y with
      veh := { z.veh with evq := q, tAttn := t, r.flags.evtOvf := ovf, r.status.evtCnt := cnt }
      jq := js, oq := z.oq ++ os } : Chan)) hz :)⟩
  · exact h

/-- With site time the flags say whether the leaf has expired, or will within 30 days (R336). -/
theorem certTick_flags (hs : e.siteValid = true) (t : Int)
    (ht : (k.veh.cert 0 0).bind (fun x => certEnd ((bytesOfWords x.2).take x.1)) = some t) :
    let left : Int := t - ((e.site / 1000000000 : Nat) : Int)
    k.CertFlagged (decide (left < 0)) (decide (left < 30 * 86400) && !decide (left < 0)) (k.certTick e) := by
  intro left
  have hbase : k.CertFlagged (decide (left < 0)) (decide (left < 30 * 86400) && !decide (left < 0))
      { k with veh := { k.veh with r.flags := { k.veh.r.flags with
        certExp := decide (left < 0), certWarn := decide (left < 30 * 86400) && !decide (left < 0) } } } :=
    ⟨rfl, rfl, rfl, rfl⟩
  unfold certTick
  rw [if_neg (by simp [hs]), ht]
  exact (hbase.vEvtIf e _ _ _).vEvtIf e _ _ _

end Chan

/-! ### The commands of the session's beginning -/

/-- A sample at a Sole in RUN or TRIM takes both circuits, and a connector found present wakes the channel (R331, R666). -/
theorem State.ceIdSample_at (s : State) (n ce id : Nat) (h : s.soleUp n 1 = true)
    (hst : (s.ch n).veh.r.status.state ≠ .shutdown) :
    let u := s.withCh n { s.ch n with veh := (s.ch n).veh.sampled s.now ce id }
    s.ceIdSample n ce id =
      if (s.ch n).veh.r.status.id ≠ .present ∧ (u.ch n).veh.r.status.id = .present then u.pmWake n 1 else u := by
  obtain ⟨-, -, hpm⟩ := (s.soleUp_iff n 1).1 h
  have hu : s.onSole n 3 (fun e k => k.ceId e ce id (decide (k.core.pm ≤ 1)))
      = s.withCh n { s.ch n with veh := (s.ch n).veh.sampled s.now ce id } := by
    rw [State.onSole_up s n 3 _ (State.soleUp_mono h 3 (by omega)), decide_eq_true hpm, Chan.ceId_full _ _ ce id hst]
    rfl
  unfold State.ceIdSample
  rw [hu]

/-- A host write of VEH_CTRL reaches the session. -/
theorem Chan.regWrite_vehCtrl (k : Chan) (e : Env) (w : Word) : k.regWrite e 0x600 w = (k.vEnable e w, false) := rfl

/-- A host write of VEH_CTRL of a channel that is open. -/
theorem State.becomes_vehEnable (s : State) (n : Nat) (w : Word) (P : Chan → Prop) (hn : n < 4) (h : s.hostOpen n = true)
    (hP : P ((s.ch n).vEnable s.env w)) : Becomes (s.chWrite n 0x600 w).done s n P := by
  refine ⟨_, hP, congrArg State.done ?_⟩
  rw [s.chWrite_open n 0x600 w hn (by decide) (by decide) h (by rw [Chan.regWrite_vehCtrl]), Chan.regWrite_vehCtrl]

/-- A read of VEH_EVT takes the oldest event, or answers 0 (R351). -/
theorem Chan.regTouch_vehEvt (k : Chan) (e : Env) : k.regTouch e 0x608 = (k.veh.evq.headD 0, { k with veh := { k.veh with
    evq := k.veh.evq.drop 1
    r.status.evtCnt := if k.veh.evq = [] then k.veh.r.status.evtCnt else BitVec.ofNat 6 (k.veh.evq.drop 1).length } }) := by
  have ht : k.regTouch e 0x608 = k.vEvtRead := rfl
  rw [ht, vEvtRead]
  cases hq : k.veh.evq with
  | nil =>
    have hk : k = { k with veh := { k.veh with evq := [] } } :=
      congrArg (fun q => ({ k with veh := { k.veh with evq := q } } : Chan)) hq
    rw [if_pos rfl]
    exact congrArg (fun z => ((0 : Word), z)) hk
  | cons w q =>
    rw [if_neg (List.cons_ne_nil w q)]
    rfl

/-- Settles O18: each command by what its request makes of the session, the samples by `State.ceIdSample_at`, VEH_CTRL by
`State.becomes_vehEnable`, the read of VEH_EVT by `State.chRead_open`. -/
theorem sessionBegins : Obligations.SessionBegins := by
  unfold Obligations.SessionBegins
  intro s n hup c v st same
  obtain ⟨hn, -, -⟩ := (s.soleUp_iff n 1).1 hup
  have hch (f : Env → Chan → Chan) (P : Chan → Prop) (hP : P (f s.env c)) : Becomes (s.onSole n 1 f).done s n P :=
    s.becomes_onSole n 1 f P hup hP
  refine ⟨fun ce id hst => ?sample, fun w ho => ⟨fun hen hoff hm => ?on, fun hen hst => ?off, fun hen hrun => ?running⟩,
    hch _ _ ?link, fun hl hst hk => hch _ _ (c.vSdp_answers hl hst hk), fun h => hch _ _ (c.vSdp_silent h),
    fun ev => ⟨fun hst => hch _ _ ?setup, fun hst => hch _ _ (c.vSetup_elsewhere s.env ev hst)⟩,
    fun pnc ok em => ⟨fun hst hok => hch _ _ (c.vAuthReq_asks s.env pnc ok em hst hok), fun hst hp hbad hc => hch _ _ ?reject,
      fun hst => hch _ _ (c.vAuthReq_elsewhere s.env pnc ok em hst)⟩,
    fun hst hc hd => hch _ _ ?timeout, fun hst => hch _ _ (c.vAuthTimeout_elsewhere s.env hst),
    fun hs => hch _ _ (c.certTick_noTime s.env hs), fun t hs ht => hch _ _ (c.certTick_flags s.env hs t ht),
    hch _ _ ?unsupported, fun ho => ?read⟩
  case sample =>
    refine congrArg State.done ((s.ceIdSample_at n ce id hup hst).trans ?_)
    have hv := v.seen_eq s.now (msNs (max 1 (min 100 v.r.ceThr.deb.toNat))) (v.ceClass ce) (v.idClass id)
      (if v.ceClass ce = v.ceCand then v.tCe else s.now) (if v.idClass id = v.idCand then v.tId else s.now)
    rw [show v.sampled s.now ce id = _ from hv]
  case on =>
    refine s.becomes_vehEnable n w _ hn ho ?_
    rw [c.vEnable_on s.env w hen hoff hm]
    rfl
  case off =>
    refine s.becomes_vehEnable n w _ hn ho ?_
    obtain ⟨x, hx, hoff, hce, hphy, htls⟩ := c.vEnable_off s.env w hen (by simpa using hst)
    rw [hx]
    exact ⟨hoff, hce, hphy, htls, rfl⟩
  case running => exact s.becomes_vehEnable n w _ hn ho (c.vEnable_running s.env w hen hrun)
  case link => rfl
  case setup =>
    obtain ⟨hz, htls, hlo, hhi, hreq, hfr⟩ := c.vSetup_done s.env ev hst
    exact ⟨hz, htls, hlo, hhi, hreq, hfr⟩
  case reject =>
    rw [hp, c.vAuthReq_rejects s.env ok em hst hbad]
    obtain ⟨hz, hdone, hct, hcause⟩ := (c.authNoted s.env true).vReject_ends s.env
    exact ⟨hz, hcause hc, hdone, hct⟩
  case timeout =>
    rw [c.vAuthTimeout_due s.env hst hd]
    obtain ⟨hz, hdone, -, hcause⟩ := c.vReject_ends s.env
    exact ⟨hz, hcause hc, hdone⟩
  case unsupported => rfl
  case read =>
    intro x k u
    have hofs : 0x8000 + 0x4000 * n + 0x608 = 0x8608 + 0x4000 * n := by omega
    have hread := s.chRead_open n 0x608 hn (by decide) (by decide) ho (by decide)
    dsimp only at hread
    rw [Chan.regTouch_vehEvt, hofs] at hread
    exact congrArg State.done hread

end Sys2Proof.Machine

namespace Sys2Proof.Machine

/-! ### Parameters, schedule and cable check (R332, R340, R341, R346) -/

namespace Chan

variable (k : Chan) (e : Env)

/-- The contactor outputs on, the loop is asked to start at a voltage with no current (R340). -/
theorem vClose_leaves (v : Rat) :
    ∃ l, k.vClose e v = { k with veh.ctOn := true, loop := l } ∧ l.vTgt = v ∧ l.iTgt = 0 := by
  unfold vClose loopStart
  dsimp only
  split
  · exact ⟨_, rfl, rfl, rfl⟩
  · exact ⟨_, rfl, rfl, rfl⟩

theorem vParams_elsewhere (bpt : Bool) (a b i x : BitVec 16) (h : k.veh.r.status.state ≠ .discovery) :
    k.vParams e bpt a b i x = k :=
  if_pos ((vIn_not _ _).2 (by simpa using h))

/-- The channel with the maxima and minima of the vehicle in its registers. -/
def paramsSet (bpt : Bool) (a b i x : BitVec 16) : Chan :=
  { k with veh := { k.veh with
    r.status.bpt := bpt
    r.evLim1 := { iMax := i, vMax := a }
    r.evLim2 := { iDis := x, vMin := b } } }

theorem vParams_taken (bpt : Bool) (a b i x : BitVec 16) (h : k.veh.r.status.state = .discovery)
    (hb : bpt = false ∨ k.veh.r.ctrl.bptEn = true) :
    k.vParams e bpt a b i x = ((k.vReq e).paramsSet bpt a b i x).vLimits.vAns .chargeParameter := by
  refine (if_neg (by simpa using h)).trans (if_neg ?_)
  rintro ⟨hp, hn⟩
  have hen : (!k.veh.r.ctrl.bptEn) = true := hn
  rcases hb with hb | hb <;> simp [hb] at hp hen

/-- The current the vehicle may be discharged with counts where it has asked for it and it is enabled (R346, R347). -/
theorem paramsSet_iDis (bpt : Bool) (a b i x : BitVec 16) (hb : bpt = false ∨ k.veh.r.ctrl.bptEn = true) :
    (k.paramsSet bpt a b i x).vLimits.veh.iDis = if bpt then (x.toNat : Rat) / 10 else 0 := by
  have hi : (k.paramsSet bpt a b i x).vLimits.veh.iDis = if bpt && k.veh.r.ctrl.bptEn then dV x else 0 := rfl
  rw [hi]
  rcases hb with hb | hb <;> rw [hb]
  · rfl
  · rw [Bool.and_true]
    rfl

/-- What the parameters change is the session: its limits, in the registers and as they count (R346). -/
theorem paramsSet_limits (bpt : Bool) (a b i x : BitVec 16) : ∃ v, (k.paramsSet bpt a b i x).vLimits = { k with veh := v }
    ∧ v.r.status.state = k.veh.r.status.state ∧ v.r.status.bpt = bpt
    ∧ v.r.evLim1 = { iMax := i, vMax := a } ∧ v.r.evLim2 = { iDis := x, vMin := b } ∧ v.vMax = (a.toNat : Rat) / 10
    ∧ v.iChg = (i.toNat : Rat) / 10 ∧ v.tReq = k.veh.tReq :=
  ⟨_, rfl, rfl, rfl, rfl, rfl, rfl, rfl, rfl⟩

theorem vParams_unsupported (a b i x : BitVec 16) (h : k.veh.r.status.state = .discovery) (hb : k.veh.r.ctrl.bptEn = false) :
    k.vParams e true a b i x = (k.vReq e).vAns .unsupported := by
  refine (if_neg (by simpa using h)).trans (if_pos ⟨rfl, ?_⟩)
  show (!k.veh.r.ctrl.bptEn) = true
  rw [hb]
  rfl

theorem vSchedule_elsewhere (h : k.veh.r.status.state ≠ .discovery) : k.vSchedule e = k :=
  if_neg fun hc => h ((vIn_only _ _).1 hc)

theorem vSchedule_answers (h : k.veh.r.status.state = .discovery) :
    k.vSchedule e = (({ k with veh.sched := true } : Chan).vReq e).vAns .schedule :=
  if_pos ((vIn_only _ _).2 h)

/-- The channel as CableCheckReq brings it to CABLE_CHECK, to be made at a voltage (R340, R341). -/
def cableBegun (vcc : Rat) : Chan :=
  let k := k.vReq e
  ({ k with veh := { k.veh with vcc := vcc, tCc := none } } : Chan).vGo e .cableCheck

/-- The voltage of a cable check: the lesser of the limits of the vehicle and of the loop (R341). -/
def checkVolts : Rat := min k.veh.vMax (tenths k.loop.r.vrefLim.vrefMax)

theorem vCableReq_judged (h : k.veh.r.status.state = .discovery) (hs : k.veh.sched = true) (hce : k.veh.r.status.ce = .c) :
    k.vCableReq e = if k.checkVolts < 150 then ((k.cableBegun e k.checkVolts).vAns .cableCheckFailed).vStop e 0x06
      else ((k.cableBegun e k.checkVolts).vClose e k.checkVolts).vAns .cableCheckOngoing := by
  refine (if_neg ?_).trans ((if_pos ⟨(vIn_only _ _).2 h, hs⟩).trans (if_pos hce))
  rw [vIn_only, h]
  decide

/-- A cable check begins with the contactor outputs on (R340, R341). -/
theorem vCableReq_begins (h : k.veh.r.status.state = .discovery) (hs : k.veh.sched = true) (hce : k.veh.r.status.ce = .c)
    (hv : 150 ≤ k.checkVolts) :
    let z := k.vCableReq e
    z.veh.r.status.state = .cableCheck ∧ z.veh.ctOn = true ∧ z.veh.vcc = k.checkVolts ∧ z.veh.tCc = none
      ∧ z.loop.vTgt = k.checkVolts ∧ z.loop.iTgt = 0 ∧ z.veh.tState = e.now
      ∧ z = { k with veh := z.veh, loop := z.loop, oq := z.oq } := by
  obtain ⟨l, hl, hlv, hli⟩ := (k.cableBegun e k.checkVolts).vClose_leaves e k.checkVolts
  rw [(k.vCableReq_judged e h hs hce).trans (if_neg (not_lt.mpr hv)), hl]
  exact ⟨rfl, rfl, rfl, rfl, hlv, hli, rfl, rfl⟩

/-- A voltage too low for a cable check fails it at once (R341). -/
theorem vCableReq_fails (h : k.veh.r.status.state = .discovery) (hs : k.veh.sched = true) (hce : k.veh.r.status.ce = .c)
    (hv : k.checkVolts < 150) :
    k.vCableReq e = ((k.cableBegun e k.checkVolts).vAns .cableCheckFailed).vStop e 0x06 :=
  (k.vCableReq_judged e h hs hce).trans (if_pos hv)

theorem vCableHold_elsewhere (h : k.veh.r.status.state ≠ .cableCheck) : k.vCableHold e = k :=
  if_neg fun hc => h ((vIn_only _ _).1 hc.1)

theorem vCableHold_due (h : k.veh.r.status.state = .cableCheck)
    (hd : held e.now k.veh.tCc (msNs (100 * max 1 (min 100 k.veh.r.tmo1.ccHold.toNat))) = true) :
    k.vCableHold e = (k.vAns .cableCheckFinished).vGo e .precharge :=
  if_pos ⟨(vIn_only _ _).2 h, hd⟩

theorem vCableTimeout_elsewhere (h : k.veh.r.status.state ≠ .cableCheck) : k.vCableTimeout e = k :=
  if_neg fun hc => h ((vIn_only _ _).1 hc.1)

theorem vCableTimeout_due (h : k.veh.r.status.state = .cableCheck)
    (hd : k.veh.tState + sNs (max 5 (min 60 k.veh.r.tmo1.ccTmo.toNat)) ≤ e.now) :
    k.vCableTimeout e = (k.vAns .cableCheckFailed).vStop e 0x06 :=
  if_pos ⟨(vIn_only _ _).2 h, hd⟩

/-! ### Precharge (R340, R346) -/

theorem vPrecharge_elsewhere (v : BitVec 16) (h : k.veh.r.status.state ≠ .precharge) (hp : k.veh.r.status.state ≠ .paused) :
    k.vPrecharge e v = k :=
  (if_neg fun hc => h ((vIn_only _ _).1 hc)).trans (if_neg fun hc => hp ((vIn_only _ _).1 hc))

theorem vPrecharge_follows (v : BitVec 16) (h : k.veh.r.status.state = .precharge) : k.vPrecharge e v =
    (({ k with loop.vTgt := dV v, veh.r.evTgt.vTgt := v } : Chan).vReq e).vAns .precharge [k.msVal 4] :=
  if_pos ((vIn_only _ _).2 h)

/-- The channel with the vehicle's target voltage noted. -/
def targetNoted (v : BitVec 16) : Chan := ({ k with veh.r.evTgt.vTgt := v } : Chan).vReq e

/-- PreChargeReq in PAUSED starts the loop again (R340). -/
theorem vPrecharge_resumes (v : BitVec 16) (h : k.veh.r.status.state = .paused) :
    let z := k.vPrecharge e v
    z.veh.r.status.state = .precharge ∧ z.veh.ctOn = true ∧ z.loop.vTgt = (v.toNat : Rat) / 10 ∧ z.loop.iTgt = 0 := by
  have hz : k.vPrecharge e v
      = (((k.targetNoted e v).vClose e (dV v)).vGo e .precharge).vAns .precharge
          [(((k.targetNoted e v).vClose e (dV v)).vGo e .precharge).msVal 4] := by
    refine (if_neg ?_).trans (if_pos ((vIn_only _ _).2 h))
    rw [vIn_only, h]
    decide
  obtain ⟨l, hl, hv, hi⟩ := (k.targetNoted e v).vClose_leaves e (dV v)
  rw [hz, hl]
  exact ⟨rfl, rfl, hv, hi⟩

theorem vPreTimeout_elsewhere (h : k.veh.r.status.state ≠ .precharge) : k.vPreTimeout e = k :=
  if_neg fun hc => h ((vIn_only _ _).1 hc.1)

theorem vPreTimeout_due (h : k.veh.r.status.state = .precharge)
    (hd : k.veh.tState + sNs (max 1 (min 30 k.veh.r.tmo1.preTmo.toNat)) ≤ e.now) : k.vPreTimeout e = k.vStop e 0x07 :=
  if_pos ⟨(vIn_only _ _).2 h, hd⟩

/-! ### Power delivery (R340, R344) -/

theorem vPower_elsewhere (kind : Nat) (h : k.veh.r.status.state ≠ .precharge) (ht : k.veh.r.status.state ≠ .transfer) :
    k.vPower e kind = k := by
  unfold vPower
  split
  · exact if_neg fun hc => h ((vIn_only _ _).1 hc)
  · exact if_neg fun hc => ht ((vIn_only _ _).1 hc)
  · exact if_neg fun hc => ht ((vIn_only _ _).1 hc)
  · rfl

theorem vPower_start (h : k.veh.r.status.state = .precharge) : k.vPower e 0 = (k.vReq e).vStart e :=
  if_pos ((vIn_only _ _).2 h)

/-- The channel with its session's record open, its loop to regulate current, and event 0x09 owed (R344, R352). -/
def powered : Chan := { (if k.ledg.opn.isSome then k else k.recOpen e) with loop.tgtCC := true, veh.owe09 := true }

theorem powered_open :
    ∃ l, k.powered e = { k with ledg := l, loop.tgtCC := true, veh.owe09 := true } ∧ l.opn.isSome = true := by
  unfold powered
  split
  · next h => exact ⟨_, rfl, h⟩
  · exact ⟨_, rfl, rfl⟩

/-- Power starts where the legal gate is open and the voltage near (R340, R344). -/
theorem vStart_starts (hg : k.legalGate = 0) (hv : k.vNear (k.msOk 4) k.loop.vTgt = true) :
    let z := k.vStart e
    z.veh.r.status.state = .transfer ∧ z.loop.tgtCC = true ∧ z.ledg.opn.isSome = true ∧ z.veh.owe09 = true
      ∧ z = { k with veh := z.veh, loop := z.loop, ledg := z.ledg, jq := z.jq, oq := z.oq } := by
  have hz : k.vStart e = (((k.powered e).vAns .powerDeliveryOk).vGo e .transfer).vEvt e 0x07 (b2n (k.powered e).veh.r.status.bpt) :=
    (if_neg (not_not_intro hg)).trans (if_pos hv)
  obtain ⟨q, t, ovf, cnt, js, os, hev⟩ :=
    (((k.powered e).vAns .powerDeliveryOk).vGo e .transfer).vEvt_leaves e 0x07 (b2n (k.powered e).veh.r.status.bpt)
  obtain ⟨l, hl, hopn⟩ := k.powered_open e
  rw [hz, hev, hl]
  exact ⟨rfl, rfl, hopn, rfl, rfl⟩

/-- The cause of a start that the legal gate refuses (R344). -/
def gateCause : Nat := if k.ledg.opn.isNone then 0x0C else if k.key.r.tampStatus.hold then 0x09 else 0x08

theorem vStart_refused (hg : k.legalGate ≠ 0) :
    k.vStart e = ((k.vAns .powerDeliveryFailed).vEvt e 0x0F k.legalGate).vStop e k.gateCause :=
  if_pos hg

/-- The next start is judged as the channel stands: the request itself changes nothing of what is judged. -/
theorem vReq_gate : (k.vReq e).legalGate = k.legalGate ∧ (k.vReq e).gateCause = k.gateCause
    ∧ (k.vReq e).vNear ((k.vReq e).msOk 4) (k.vReq e).loop.vTgt = k.vNear (k.msOk 4) k.loop.vTgt :=
  ⟨rfl, rfl, rfl⟩

/-- A start that the legal gate refuses stops the session, and no record is touched (R340, R344). -/
theorem vStart_stops (hg : k.legalGate ≠ 0) :
    let z := k.vStart e
    z.veh.r.status.state = .stopping ∧ z.ledg = k.ledg ∧ z.loop.iTgt = 0
      ∧ (k.veh.causeSet = false → z.veh.r.status.cause = BitVec.ofNat 8 k.gateCause) := by
  rw [k.vStart_refused e hg]
  obtain ⟨q, t, ovf, cnt, js, os, hev⟩ := (k.vAns .powerDeliveryFailed).vEvt_leaves e 0x0F k.legalGate
  rw [hev]
  generalize hy : ({ k.vAns .powerDeliveryFailed with veh := _, jq := _, oq := _ } : Chan) = y
  have hledg : y.ledg = k.ledg := hy ▸ rfl
  have hset : y.veh.causeSet = k.veh.causeSet := hy ▸ rfl
  obtain ⟨hst, hi, hcause⟩ := y.vStop_stops e k.gateCause
  exact ⟨hst, (y.vStop_ledg e _).trans hledg, hi, fun h => hcause (hset.trans h)⟩

theorem vPower_stop (h : k.veh.r.status.state = .transfer) : k.vPower e 1 = ((k.vReq e).vAns .powerDeliveryOk).vStop e 0x01 :=
  if_pos ((vIn_only _ _).2 h)

/-- The channel with its session to pause (R340). -/
def pausing : Chan := { k with veh.pause := true, loop.iTgt := 0 }

theorem vPower_standby (h : k.veh.r.status.state = .transfer) :
    k.vPower e 2 = ((((k.vReq e).vAns .powerDeliveryOk).pausing).loopStop e false).vGo e .stopping :=
  if_pos ((vIn_only _ _).2 h)

/-- Standby stops the loop for a pause, with no cause (R340). -/
theorem vPower_pauses (h : k.veh.r.status.state = .transfer) :
    let z := k.vPower e 2
    z.veh.r.status.state = .stopping ∧ z.veh.pause = true ∧ z.loop.iTgt = 0
      ∧ z.veh.r.status.cause = k.veh.r.status.cause := by
  obtain ⟨l, p, hl, -, hi⟩ := (((k.vReq e).vAns .powerDeliveryOk).pausing).loopStop_leaves e false
  rw [k.vPower_standby e h, hl]
  exact ⟨rfl, rfl, hi, rfl⟩

/-! ### The charge loop (R340, R346 to R348, R379) -/

theorem estPoint_leaves (ev : Option Int) : ∃ c, k.estPoint ev = { k with cool := c } := by
  unfold estPoint
  dsimp only
  split
  · exact ⟨_, rfl⟩
  · exact ⟨_, rfl⟩

theorem vLoopReq_elsewhere (it vt vm im id : BitVec 16) (ev : Option Int) (err : Bool) (h : k.veh.r.status.state ≠ .transfer)
    (hs : k.veh.r.status.state ≠ .stopping) : k.vLoopReq e it vt vm im id ev err = k :=
  (if_neg fun hc => h ((vIn_only _ _).1 hc)).trans (if_neg fun hc => hs ((vIn_only _ _).1 hc))

/-- The channel as a DC_ChargeLoopReq in TRANSFER sets its targets and maxima. -/
def loopSet (it vt vm im id : BitVec 16) (ev : Option Int) : Chan :=
  let k := (k.vReq e).estPoint ev
  let k : Chan := { k with
    veh := { k.veh with
      r.evTgt := { iTgt := it, vTgt := vt }
      r.evLim1 := { iMax := im, vMax := vm }
      r.evLim2.iDis := id }
    loop.vTgt := dV vt
    loop.iTgt := (it.toInt : Rat) / 10 }
  k.vLimits

/-- z has the targets and maxima of a DC_ChargeLoopReq. -/
def LoopSet (it vt vm im : BitVec 16) (z : Chan) : Prop :=
  z.loop.vTgt = (vt.toNat : Rat) / 10 ∧ z.veh.r.evTgt = { iTgt := it, vTgt := vt } ∧ z.veh.vMax = (vm.toNat : Rat) / 10
    ∧ z.veh.iChg = (im.toNat : Rat) / 10 ∧ z.veh.tReq = e.now

theorem loopSet_sets (it vt vm im id : BitVec 16) (ev : Option Int) :
    LoopSet e it vt vm im (k.loopSet e it vt vm im id ev) ∧ (k.loopSet e it vt vm im id ev).loop.iTgt = (it.toInt : Rat) / 10
      ∧ (k.loopSet e it vt vm im id ev).veh.r.status.state = k.veh.r.status.state := by
  obtain ⟨c, hc⟩ := (k.vReq e).estPoint_leaves ev
  unfold loopSet
  rw [hc]
  exact ⟨⟨rfl, rfl, rfl, rfl, rfl⟩, rfl, rfl⟩

/-- A stop leaves what the request set but the current target. -/
theorem LoopSet.vStop {z : Chan} {e : Env} {it vt vm im : BitVec 16} (h : LoopSet e it vt vm im z) (c : Nat) :
    LoopSet e it vt vm im (z.vStop e c) := by
  obtain ⟨hv, htgt, hmax, hchg, hreq⟩ := h
  obtain ⟨l, p, hl, hlv, -⟩ := z.vStop_leaves e c
  obtain ⟨x, hx⟩ := z.vCause_leaves c
  rw [hl, hx]
  exact ⟨hlv.trans hv, htgt, hmax, hchg, hreq⟩

theorem vLoopReq_answers (it vt vm im id : BitVec 16) (ev : Option Int) (err : Bool) (h : k.veh.r.status.state = .transfer) :
    ∃ data, k.vLoopReq e it vt vm im id ev err =
      if err then ((k.loopSet e it vt vm im id ev).vAns .chargeLoop data).vStop e 0x02
      else (k.loopSet e it vt vm im id ev).vAns .chargeLoop data :=
  ⟨_, if_pos ((vIn_only _ _).2 h)⟩

/-- DC_ChargeLoopReq in TRANSFER is followed, and stops the session where the vehicle reports an error (R340, R346). -/
theorem vLoopReq_follows (it vt vm im id : BitVec 16) (ev : Option Int) (err : Bool) (h : k.veh.r.status.state = .transfer) :
    let z := k.vLoopReq e it vt vm im id ev err
    z.veh.r.status.state = (if err then .stopping else .transfer) ∧ (err = false → z.loop.iTgt = (it.toInt : Rat) / 10)
      ∧ (err = true → z.loop.iTgt = 0) ∧ LoopSet e it vt vm im z := by
  obtain ⟨data, hz⟩ := k.vLoopReq_answers e it vt vm im id ev err h
  obtain ⟨hset, hi, hst⟩ := k.loopSet_sets e it vt vm im id ev
  have hans : LoopSet e it vt vm im ((k.loopSet e it vt vm im id ev).vAns .chargeLoop data) := hset
  rw [hz]
  cases err with
  | false => exact ⟨hst.trans h, fun _ => hi, fun hf => (by cases hf), hans⟩
  | true =>
    obtain ⟨hstop, hzero, -⟩ := ((k.loopSet e it vt vm im id ev).vAns .chargeLoop data).vStop_stops e 0x02
    exact ⟨hstop, fun hf => (by cases hf), fun _ => hzero, hans.vStop 0x02⟩

end Chan

/-- Settles O19: each request in its state by what it makes of the session, and elsewhere by the lemma that it changes nothing. -/
theorem sessionTransfersPower : Obligations.SessionTransfersPower := by
  unfold Obligations.SessionTransfersPower
  intro s n hup c v st same goes
  have hch (f : Env → Chan → Chan) (P : Chan → Prop) (hP : P (f s.env c)) : Becomes (s.onSole n 1 f).done s n P :=
    s.becomes_onSole n 1 f P hup hP
  -- a command whose failure, in its state, stops the session with a cause
  have hstop (y : Chan) (code : Nat) (hy : y.veh.causeSet = v.causeSet) (hc : v.causeSet = false) :
      (y.vStop s.env code).veh.r.status.state = .stopping
        ∧ (y.vStop s.env code).veh.r.status.cause = BitVec.ofNat 8 code ∧ (y.vStop s.env code).loop.iTgt = 0 := by
    obtain ⟨hst, hi, hcause⟩ := y.vStop_stops s.env code
    exact ⟨hst, hcause (hy.trans hc), hi⟩
  refine ⟨fun bpt a b i x => ⟨fun hst hb => hch _ _ ?params, fun hst hb hen => hch _ _ ?unsupported,
      fun hst => hch _ _ (c.vParams_elsewhere s.env bpt a b i x hst)⟩,
    fun hst => hch _ _ ?schedule, fun hst => hch _ _ (c.vSchedule_elsewhere s.env hst),
    fun hst hs hce => ⟨fun hv => hch _ _ (c.vCableReq_begins s.env hst hs hce hv), fun hv hc => hch _ _ ?checkLow⟩,
    fun hst hd => hch _ _ ?hold,
    fun hst => ⟨hch _ _ (c.vCableHold_elsewhere s.env hst), hch _ _ (c.vCableTimeout_elsewhere s.env hst)⟩,
    fun hst hc hd => hch _ _ ?checkTimeout,
    fun w => ⟨fun hst => hch _ _ ?precharge, fun hst => hch _ _ (c.vPrecharge_resumes s.env w hst),
      fun hst hp => hch _ _ (c.vPrecharge_elsewhere s.env w hst hp)⟩,
    fun hst hc hd => hch _ _ ?preTimeout, fun hst => hch _ _ (c.vPreTimeout_elsewhere s.env hst),
    fun hst hg hv => hch _ _ ?start, fun hst hg => hch _ _ ?refused,
    fun hst => ⟨hch _ _ ?stop, hch _ _ (c.vPower_pauses s.env hst)⟩,
    fun hst ht kind => hch _ _ (c.vPower_elsewhere s.env kind hst ht),
    fun it vt vm im id ev err => ⟨fun hst => hch _ _ ?loop,
      fun hst hs => hch _ _ (c.vLoopReq_elsewhere s.env it vt vm im id ev err hst hs)⟩⟩
  case params =>
    have hdis := (c.vReq s.env).paramsSet_iDis bpt a b i x hb
    obtain ⟨v', hv', hst', hbpt, h1, h2, hmax, hchg, hreq⟩ := (c.vReq s.env).paramsSet_limits bpt a b i x
    rw [hv'] at hdis
    rw [c.vParams_taken s.env bpt a b i x hst hb, hv']
    exact ⟨hst'.trans hst, hbpt, h1, h2, hmax, hchg, hdis, hreq, rfl⟩
  case unsupported =>
    rw [hb, c.vParams_unsupported s.env a b i x hst hen]
    exact ⟨hst, rfl⟩
  case schedule =>
    rw [c.vSchedule_answers s.env hst]
    exact ⟨hst, rfl⟩
  case checkLow =>
    rw [c.vCableReq_fails s.env hst hs hce hv]
    exact hstop _ _ rfl hc
  case hold =>
    rw [c.vCableHold_due s.env hst hd]
    exact ⟨rfl, rfl, rfl⟩
  case checkTimeout =>
    rw [c.vCableTimeout_due s.env hst hd]
    exact hstop _ _ rfl hc
  case precharge =>
    rw [c.vPrecharge_follows s.env w hst]
    exact ⟨hst, rfl, rfl, rfl, rfl⟩
  case preTimeout =>
    rw [c.vPreTimeout_due s.env hst hd]
    exact hstop _ _ rfl hc
  case start =>
    obtain ⟨hgate, -, hnear⟩ := c.vReq_gate s.env
    rw [c.vPower_start s.env hst]
    obtain ⟨hz, htgt, hopn, howe, hfr⟩ := (c.vReq s.env).vStart_starts s.env (hgate.trans hg) (hnear.trans hv)
    exact ⟨hz, htgt, hopn, howe, hfr⟩
  case refused =>
    obtain ⟨hgate, hcause, -⟩ := c.vReq_gate s.env
    rw [c.vPower_start s.env hst]
    obtain ⟨hz, hledg, hi, hc⟩ := (c.vReq s.env).vStart_stops s.env (hgate ▸ hg)
    refine ⟨hz, hledg, hi, fun h => (hc h).trans ?_⟩
    rw [hcause]
    unfold Chan.gateCause
    split_ifs <;> rfl
  case stop =>
    rw [c.vPower_stop s.env hst]
    obtain ⟨hz, hi, hc⟩ := ((c.vReq s.env).vAns .powerDeliveryOk).vStop_stops s.env 0x01
    exact ⟨hz, Chan.vStop_pause _ _ _, hi, hc⟩
  case loop =>
    obtain ⟨hz, hi, hi0, hv, htgt, hmax, hchg, hreq⟩ := c.vLoopReq_follows s.env it vt vm im id ev err hst
    exact ⟨hz, hv, hi, hi0, htgt, hmax, hchg, hreq⟩

end Sys2Proof.Machine

namespace Sys2Proof.Machine

/-! ### The ends of a session (R340, R342, R343) -/

namespace Chan

variable (k : Chan) (e : Env)

theorem vWelding_elsewhere (h : k.veh.r.status.state ≠ .shutdown) : k.vWelding = k :=
  if_neg fun hc => h ((vIn_only _ _).1 hc.1)

theorem vWelding_answers (h : k.veh.r.status.state = .shutdown) (hr : k.veh.fromRun = true) :
    k.vWelding = k.vAns .welding [k.msVal 4] :=
  if_pos ⟨(vIn_only _ _).2 h, hr⟩

theorem vSessionStop_elsewhere (h : k.veh.r.status.state ≠ .paused) (hs : k.veh.r.status.state ≠ .shutdown) :
    k.vSessionStop e = k :=
  (if_neg fun hc => h ((vIn_only _ _).1 hc)).trans (if_neg fun hc => hs ((vIn_only _ _).1 hc))

/-- From PAUSED a session ends with the discharge output on (R340). -/
theorem vEndPause_ends (c : Nat) : (k.vEndPause e c).veh.r.status.state = .shutdown ∧ (k.vEndPause e c).veh.ctOn = false
    ∧ (k.vEndPause e c).veh.disOn = true
    ∧ (k.veh.causeSet = false → (k.vEndPause e c).veh.r.status.cause = BitVec.ofNat 8 c) := by
  obtain ⟨hst, hct, hdis, -, hcause⟩ := k.vShutdown_ends e c true
  exact ⟨hst, hct, hdis.trans (Bool.or_true _), hcause⟩

/-- The channel with SessionStop answered. -/
def stopAnswered : Chan := ({ k with veh.stopAns := true } : Chan).vAns .sessionStop

theorem vSessionStop_paused (h : k.veh.r.status.state = .paused) :
    k.vSessionStop e = ((k.vReq e).vEndPause e 0x01).stopAnswered :=
  if_pos ((vIn_only _ _).2 h)

/-- SessionStopReq in PAUSED ends the session, with cause 1 where none was recorded (R340). -/
theorem vSessionStop_ends (h : k.veh.r.status.state = .paused) :
    let z := k.vSessionStop e
    z.veh.r.status.state = .shutdown ∧ z.veh.stopAns = true ∧ z.veh.ctOn = false ∧ z.veh.disOn = true
      ∧ (k.veh.causeSet = false → z.veh.r.status.cause = 1) := by
  obtain ⟨hst, hct, hdis, hcause⟩ := (k.vReq e).vEndPause_ends e 0x01
  rw [k.vSessionStop_paused e h]
  generalize (k.vReq e).vEndPause e 0x01 = y at hst hct hdis hcause
  exact ⟨hst, rfl, hct, hdis, hcause⟩

theorem vSessionStop_shutdown (h : k.veh.r.status.state = .shutdown) :
    k.vSessionStop e = (({ k with veh.stopAns := true } : Chan).vReq e).vAns .sessionStop := by
  refine (if_neg ?_).trans (if_pos ((vIn_only _ _).2 h))
  rw [vIn_only, h]
  decide

/-! ### Communication lost (R340) -/

/-- The channel with the loss of its session's communication noted: cause 4, where it is the first, and event 0x0B. -/
def commNoted : Chan := (k.vCause 0x04).vEvt e 0x0B k.veh.r.status.state.code

theorem commNoted_cause : (k.commNoted e).veh.causeSet = true ∧ (k.commNoted e).veh.r.status.tls = k.veh.r.status.tls
    ∧ (k.veh.causeSet = false → (k.commNoted e).veh.r.status.cause = 4) := by
  obtain ⟨q, t, ovf, cnt, js, os, hev⟩ := (k.vCause 0x04).vEvt_leaves e 0x0B k.veh.r.status.state.code
  obtain ⟨x, hx⟩ := k.vCause_leaves 0x04
  rw [commNoted, hev]
  refine ⟨?_, ?_, fun h => ?_⟩
  · rw [hx]
  · rw [hx]
  · rw [k.vCause_first h]
    rfl

/-- A stop leaves a cause that was recorded, the TLS connection, and Shank. -/
theorem vStop_noted (c : Nat) (h : k.veh.causeSet = true) : (k.vStop e c).veh.r.status.cause = k.veh.r.status.cause
    ∧ (k.vStop e c).veh.r.status.tls = k.veh.r.status.tls ∧ (k.vStop e c).shk = k.shk := by
  obtain ⟨l, p, hk, -⟩ := k.vStop_leaves e c
  have hc : k.vCause c = k := if_pos h
  rw [hk, hc]
  exact ⟨rfl, rfl, rfl⟩

/-- Before power the session shuts down. -/
theorem vCommLost_shuts (h : k.veh.r.status.state = .setup ∨ k.veh.r.status.state = .auth ∨ k.veh.r.status.state = .discovery)
    (hc : k.veh.causeSet = false) : (k.vCommLost e).veh.r.status.state = .shutdown ∧ (k.vCommLost e).veh.r.status.cause = 4
      ∧ (k.vCommLost e).veh.ctOn = false := by
  have hz : k.vCommLost e = (k.commNoted e).vShutdown e false := by
    unfold vCommLost
    dsimp only
    rcases h with h | h | h <;> rw [h] <;> simp only [commNoted, h]
  obtain ⟨-, -, hcause⟩ := k.commNoted_cause e
  rw [hz, vShutdown_veh]
  exact ⟨rfl, hcause hc, rfl⟩

/-- With the loop at work and no power yet the session stops. -/
theorem vCommLost_stops (h : k.veh.r.status.state = .cableCheck ∨ k.veh.r.status.state = .precharge)
    (hc : k.veh.causeSet = false) :
    let z := k.vCommLost e
    z.veh.r.status.state = .stopping ∧ z.veh.r.status.cause = 4 ∧ z.loop.iTgt = 0 := by
  have hz : k.vCommLost e = (k.commNoted e).vStop e 0x04 := by
    unfold vCommLost
    dsimp only
    rcases h with h | h <;> rw [h] <;> simp only [commNoted, h]
  obtain ⟨hset, -, hcause⟩ := k.commNoted_cause e
  obtain ⟨hst, hi, -⟩ := (k.commNoted e).vStop_stops e 0x04
  obtain ⟨hcs, -, -⟩ := (k.commNoted e).vStop_noted e 0x04 hset
  rw [hz]
  exact ⟨hst, hcs.trans (hcause hc), hi⟩

/-- With power Shank is asked for a stop as well. -/
theorem vCommLost_transfer (h : k.veh.r.status.state = .transfer) (hc : k.veh.causeSet = false) :
    let z := k.vCommLost e
    z.veh.r.status.state = .stopping ∧ z.veh.r.status.cause = 4 ∧ z.veh.r.status.tls = k.veh.r.status.tls ∧ z.loop.iTgt = 0
      ∧ z.shk.sf4Com = true := by
  have hz : k.vCommLost e = ((k.commNoted e).shkSession e true).vStop e 0x04 := by
    unfold vCommLost
    dsimp only
    rw [h]
    simp only [commNoted, h]
  obtain ⟨hset, htls, hcause⟩ := k.commNoted_cause e
  have hveh : ((k.commNoted e).shkSession e true).veh = (k.commNoted e).veh := rfl
  have hsf : ((k.commNoted e).shkSession e true).shk.sf4Com = true := rfl
  obtain ⟨hst, hi, -⟩ := ((k.commNoted e).shkSession e true).vStop_stops e 0x04
  obtain ⟨hcs, hts, hshk⟩ := ((k.commNoted e).shkSession e true).vStop_noted e 0x04 (hveh ▸ hset)
  rw [hveh] at hcs hts
  rw [hz]
  exact ⟨hst, hcs.trans (hcause hc), hts.trans htls, hi, hshk ▸ hsf⟩

/-- A sequence timeout closes the connection (R340). -/
theorem vSeqTimeout_closes (h : k.veh.r.status.state ∈ [.setup, .auth, .discovery, .shutdown, .cableCheck, .precharge]) :
    k.vSeqTimeout e = k.tlsClosed.vCommLost e :=
  if_pos ((vIn_iff _ _).2 h)

theorem vSeqTimeout_transfer (h : k.veh.r.status.state = .transfer) : k.vSeqTimeout e = k := by
  refine if_neg ?_
  rw [vIn_iff, h]
  decide

theorem vLoopTimeout_elsewhere (h : k.veh.r.status.state ≠ .transfer) (hp : k.veh.r.status.state ≠ .paused) :
    k.vLoopTimeout e = k :=
  if_neg fun hc => by simpa [h, hp] using hc.1

theorem vLoopTimeout_due (h : k.veh.r.status.state = .transfer)
    (hd : k.veh.tReq + msNs (100 * max 5 (min 50 k.veh.r.tmo2.clTmo.toNat)) ≤ e.now) : k.vLoopTimeout e = k.vCommLost e :=
  if_pos ⟨(vIn_iff _ _).2 (by simp [h]), hd⟩

theorem vPauseTimeout_elsewhere (h : k.veh.r.status.state ≠ .paused) : k.vPauseTimeout e = k :=
  if_neg fun hc => h ((vIn_only _ _).1 hc.1)

theorem vPauseTimeout_due (h : k.veh.r.status.state = .paused)
    (hd : k.veh.tState + sNs (max 1 (min 3600 k.veh.r.tmo2.pauseMax.toNat)) ≤ e.now) : k.vPauseTimeout e = k.vEndPause e 0x0F :=
  if_pos ⟨(vIn_only _ _).2 h, hd⟩

end Chan

/-- Settles O20: the ends by `Chan.vShutdown_ends`, lost communication by what `Chan.vCommLost` does in each group of states. -/
theorem sessionEnds : Obligations.SessionEnds := by
  unfold Obligations.SessionEnds
  intro s n hup c v st same goes lost
  have hch (f : Env → Chan → Chan) (P : Chan → Prop) (hP : P (f s.env c)) : Becomes (s.onSole n 1 f).done s n P :=
    s.becomes_onSole n 1 f P hup hP
  have hlost (f : Env → Chan → Chan) (hf : st ∈ [.setup, .auth, .discovery, .cableCheck, .precharge] →
      f s.env c = c.tlsClosed.vCommLost s.env) : lost (s.onSole n 1 f).done := by
    refine fun hc => ⟨fun h => hch _ _ ?_, fun h => hch _ _ ?_⟩
    · rw [hf (by rcases h with h | h | h <;> simp [h])]
      exact c.tlsClosed.vCommLost_shuts s.env h hc
    · rw [hf (by rcases h with h | h <;> simp [h])]
      exact c.tlsClosed.vCommLost_stops s.env h hc
  refine ⟨fun hst hr => hch _ _ ?welding, fun hst => hch _ _ (c.vWelding_elsewhere hst),
    fun hst => hch _ _ (c.vSessionStop_ends s.env hst), fun hst => hch _ _ ?stopShutdown,
    fun hst hs => hch _ _ (c.vSessionStop_elsewhere s.env hst hs),
    hlost _ fun h => c.vTlsLost_of_not_shutdown s.env ?notShutdown, fun hst ha => hch _ _ ?orderly,
    fun hst hc => hch _ _ ?tlsTransfer,
    hlost _ fun h => c.vSeqTimeout_closes s.env ?inSequence, fun hst => hch _ _ (c.vSeqTimeout_transfer s.env hst),
    fun hst hc hd => hch _ _ ?loopTimeout, fun hst hp => hch _ _ (c.vLoopTimeout_elsewhere s.env hst hp),
    fun hst hc hd => hch _ _ ?pauseTimeout, fun hst => hch _ _ (c.vPauseTimeout_elsewhere s.env hst)⟩
  case welding =>
    rw [c.vWelding_answers hst hr]
    exact ⟨hst, rfl⟩
  case stopShutdown =>
    rw [c.vSessionStop_shutdown s.env hst]
    exact ⟨hst, rfl⟩
  case notShutdown =>
    intro hsd
    rw [show st = .shutdown from hsd] at h
    revert h
    decide
  case inSequence =>
    have hsub : [VehState.setup, .auth, .discovery, .cableCheck, .precharge]
        ⊆ [.setup, .auth, .discovery, .shutdown, .cableCheck, .precharge] := by decide
    exact hsub h
  case orderly =>
    rw [c.vTlsLost_orderly s.env hst ha]
    exact ⟨hst, rfl⟩
  case tlsTransfer =>
    rw [c.vTlsLost_of_not_shutdown s.env (by rw [show c.veh.r.status.state = .transfer from hst]; decide)]
    obtain ⟨hz, hcause, htls, hi, hsf⟩ := c.tlsClosed.vCommLost_transfer s.env hst hc
    exact ⟨hz, hcause, htls, hi, hsf⟩
  case loopTimeout =>
    rw [c.vLoopTimeout_due s.env hst hd]
    obtain ⟨hz, hcause, -, -, hsf⟩ := c.vCommLost_transfer s.env hst hc
    exact ⟨hz, hcause, hsf⟩
  case pauseTimeout =>
    obtain ⟨hz, -, hdis, hcause⟩ := c.vEndPause_ends s.env 0x0F
    rw [c.vPauseTimeout_due s.env hst hd]
    exact ⟨hz, hcause hc, hdis⟩

end Sys2Proof.Machine

namespace Sys2Proof.Machine

/-! ### The session's descriptors (R335, R338, R354 to R356) -/

/-- No payload bit is reserved where every word may be anything. -/
theorem Desc.onlyBits_all (d : Desc) : d.onlyBits (List.replicate 8 0xFFFFFFFF) = true := by
  unfold Desc.onlyBits
  rw [List.all_eq_true]
  intro i hi
  have hm : (List.replicate 8 (0xFFFFFFFF : Word)).getD i 0 = 0xFFFFFFFF := by
    rw [List.getD_eq_getElem?_getD, List.getElem?_replicate, if_pos (List.mem_range.mp hi)]
    rfl
  rw [hm, decide_eq_true_iff]
  exact BitVec.and_zero

/-- The descriptors of the session that run at once reach the operations of their Sole. -/
theorem State.descOp_session (s : State) (n : Nat) (d : Desc) (ref : DescRef) (hn : n < 4) :
    (d.opcode = 0x0101 → s.descOp n d ref = s.chAct n fun e k => k.dAuthAccept e d)
      ∧ (d.opcode = 0x0102 → d.onlyBits [] = true → s.descOp n d ref = s.chAct n fun e k => k.dAuthReject e d)
      ∧ (d.opcode = 0x0103 → d.onlyBits [] = true → s.descOp n d ref = s.chAct n fun e k => k.dSessionStop e d)
      ∧ (d.opcode = 0x0105 → d.onlyBits [1] = true → s.descOp n d ref = s.chAct n fun _ k => k.dAuthMode d) := by
  have h4 : n ≠ 4 := by omega
  have hall := d.onlyBits_all
  refine ⟨fun hop => ?_, fun hop hb => ?_, fun hop hb => ?_, fun hop hb => ?_⟩
  · simp only [State.descOp, State.dieOp, State.chOp, payMask, Desc.ledgerBits, hop, h4, hn, hall, if_true, if_false,
      Option.any_some, Bool.not_true, Bool.or_self, Bool.false_eq_true]
  all_goals simp only [State.descOp, State.dieOp, State.chOp, payMask, Desc.ledgerBits, hop, h4, hn, hb, if_true, if_false,
    Option.any_some, Bool.not_true, Bool.or_self, Bool.false_eq_true]

/-- A descriptor of a channel whose operation is known to answer with a channel and a code. -/
theorem State.executes_answer (s : State) (n op : Nat) (d : Desc) (f : Env → Chan → Chan × Option Nat) (hn : n < 4)
    (h : s.takes n d = true) (hop : d.opcode = op) (hd : (s.taken n d).descOp n d (s.refOf n d) = (s.taken n d).chAct n f)
    {k : Chan} {code : Nat} {P : Chan → Prop} (hk : f (s.taken n d).env ((s.taken n d).ch n) = (k, some code)) (hP : P k) :
    Executes (s.descRow op d).done s n d code P :=
  s.executes_chAct n op d f hn h hop hd code P (congrArg Prod.snd hk) (by rw [hk]; exact hP)

namespace Chan

variable (k : Chan) (e : Env) (d : Desc)

/-! #### 0x0101 and 0x0102 -/

theorem authRefuse_meter (h : k.core.meterRole = true) : k.authRefuse = some 0x74 := if_pos h

theorem authRefuse_done (hm : k.core.meterRole = false) (h : k.veh.authDone = true) : k.authRefuse = some 0x71 := by
  simp [authRefuse, hm, h]

/-- Outside AUTH there is nothing to accept or reject. -/
theorem authRefuse_state (hm : k.core.meterRole = false) (hd : k.veh.authDone = false) (h : k.veh.r.status.state ≠ .auth) :
    k.authRefuse = some 0x70 := by
  have hin : (!k.vIn [.auth]) = true := (vIn_not _ _).2 (by simpa using h)
  simp only [authRefuse, hm, hd, hin, if_true, Bool.false_eq_true, if_false]

theorem authRefuse_none (hm : k.core.meterRole = false) (hd : k.veh.authDone = false) (h : k.veh.r.status.state = .auth) :
    k.authRefuse = none := by
  have hin : k.vIn [.auth] = true := (vIn_only _ _).2 h
  simp only [authRefuse, hm, hd, hin, Bool.not_true, Bool.false_eq_true, if_false]

theorem dAuthAccept_refused (c : Nat) (h : k.authRefuse = some c) : k.dAuthAccept e d = (k, some c) := by
  rw [dAuthAccept, h]

theorem dAuthAccept_accepts (h : k.authRefuse = none) :
    k.dAuthAccept e d = (k.vAccept e ((List.range 8).map d.pay), some 0) := by
  rw [dAuthAccept, h]

theorem dAuthReject_refused (c : Nat) (h : k.authRefuse = some c) : k.dAuthReject e d = (k, some c) := by
  rw [dAuthReject, h]

theorem dAuthReject_rejects (h : k.authRefuse = none) : k.dAuthReject e d = (k.vReject e, some 0) := by
  rw [dAuthReject, h]

/-! #### 0x0103 -/

theorem dSessionStop_stops (hm : k.core.meterRole = false)
    (h : k.veh.r.status.state ∈ [.discovery, .cableCheck, .precharge, .transfer, .paused]) :
    k.dSessionStop e d = (k.vHostStop e, some 0) := by
  rw [dSessionStop, hm, if_neg Bool.false_ne_true, if_neg]
  rw [vIn_not, not_not]
  exact h

theorem dSessionStop_refused (hm : k.core.meterRole = false)
    (h : k.veh.r.status.state ∉ [.discovery, .cableCheck, .precharge, .transfer, .paused]) :
    k.dSessionStop e d = (k, some 0x72) := by
  rw [dSessionStop, hm, if_neg Bool.false_ne_true, if_pos ((vIn_not _ _).2 h)]

/-- The host's stop with the loop at work. -/
theorem vHostStop_running (h : k.veh.r.status.state = .cableCheck ∨ k.veh.r.status.state = .precharge
    ∨ k.veh.r.status.state = .transfer) : k.vHostStop e = (k.vAns .terminate).vStop e 0x03 := by
  have hst : (k.vAns .terminate).veh.r.status.state = k.veh.r.status.state := rfl
  unfold vHostStop
  dsimp only
  rw [hst]
  rcases h with h | h | h <;> rw [h]

/-- The host's stop before the loop has been started, or in a pause: the session shuts down. -/
theorem vHostStop_shuts (h : k.veh.r.status.state = .discovery ∨ k.veh.r.status.state = .paused) :
    ∃ dis, k.vHostStop e = ((k.vAns .terminate).vCause 0x03).vShutdown e dis := by
  have hst : (k.vAns .terminate).veh.r.status.state = k.veh.r.status.state := rfl
  unfold vHostStop
  dsimp only
  rw [hst]
  rcases h with h | h <;> rw [h]
  · exact ⟨false, rfl⟩
  · exact ⟨true, rfl⟩

/-! #### 0x0104 and 0x0105 -/

theorem certCheck_full (hm : k.core.meterRole = false)
    (h : 65536 < k.veh.certBytes (d.fld 0 8 2) (d.fld 0 0 4) + d.fld 2 0 16) : k.certCheck d = some 0x73 := by
  rw [certCheck, hm, if_neg Bool.false_ne_true, if_pos h]

theorem certCheck_fits (hm : k.core.meterRole = false)
    (h : k.veh.certBytes (d.fld 0 8 2) (d.fld 0 0 4) + d.fld 2 0 16 ≤ 65536) : k.certCheck d = none := by
  rw [certCheck, hm, if_neg Bool.false_ne_true, if_neg (by omega)]

/-- The channel with an item of its certificate store erased (R335). -/
def certErased : Chan :=
  let certs := k.veh.certs.filter (fun x => !(decide (x.1 = d.fld 0 8 2 ∧ x.2.1 = d.fld 0 0 4)))
  { k with veh.certs := certs }

theorem certDone_erases (h : d.fld 2 0 16 = 0) : k.certDone d [] = (k.certErased d, 0) := if_pos h

theorem dAuthMode_meter (h : k.core.meterRole = true) : k.dAuthMode d = (k, some 0x74) := if_pos h

theorem dAuthMode_sets (h : k.core.meterRole = false) : k.dAuthMode d = ({ k with veh.r.auth := d.bit 0 0 }, some 0) :=
  if_neg (by simp [h])

end Chan

section CertLoad

variable (s : State) (n : Nat) (d : Desc) (ref : DescRef) (hn : n < 4) (hop : d.opcode = 0x0104)
  (hb : d.onlyBits [0x30F, 7, 0xFFFF] = true)
include hn hop hb

theorem State.descOp_certLoad_range (h : d.certRange = false) : s.descOp n d ref = (s, some 0x73) := by
  have h4 : n ≠ 4 := by omega
  simp only [State.descOp, State.dieOp, State.chOp, payMask, Desc.ledgerBits, hop, h4, hn, hb, h, if_true, if_false,
    Option.any_some, Bool.not_true, Bool.not_false, Bool.or_self, Bool.false_eq_true]

variable (h : d.certRange = true)
include h

theorem State.descOp_certLoad_refused (code : Nat) (hc : (s.ch n).certCheck d = some code) : s.descOp n d ref = (s, some code) := by
  have h4 : n ≠ 4 := by omega
  simp only [State.descOp, State.dieOp, State.chOp, payMask, Desc.ledgerBits, hop, h4, hn, hb, h, hc, if_true, if_false,
    Option.any_some, Bool.not_true, Bool.or_self, Bool.false_eq_true]

/-- CERT_LOAD that is not refused binds its port (R335, R533). -/
theorem State.descOp_certLoad (hc : (s.ch n).certCheck d = none) :
    s.descOp n d ref = s.portStart n d ref [] ((d.fld 2 0 16 + 3) / 4) := by
  have h4 : n ≠ 4 := by omega
  simp only [State.descOp, State.dieOp, State.chOp, payMask, Desc.ledgerBits, hop, h4, hn, hb, h, hc, if_true, if_false,
    Option.any_some, Bool.not_true, Bool.or_self, Bool.false_eq_true]

/-- With LENGTH 0 the item is erased at once, if its port is free (R335, R356). -/
theorem State.descOp_certLoad_erases (hc : (s.ch n).certCheck d = none) (hp : s.xferOf (d.fld 1 0 3) = none)
    (hl : d.fld 2 0 16 = 0) : s.descOp n d ref = s.chAct n fun _ k => (k.certErased d, some 0) := by
  rw [s.descOp_certLoad n d ref hn hop hb h hc]
  simp [State.portStart, Desc.portOf, hop, hp, hl, State.portDone, State.chAct, Chan.certDone_erases _ d hl]

end CertLoad

/-- Settles O21: each descriptor by what its operation answers, run at its Sole by `executes_chAct`, CERT_LOAD through its port. -/
theorem sessionDescriptors : Obligations.SessionDescriptors := by
  unfold Obligations.SessionDescriptors
  intro s n d hn h t c v st
  obtain ⟨haccept, hreject, hstop, hmode⟩ := t.descOp_session n d (s.refOf n d) hn
  refine ⟨fun hop => ⟨fun hm hd hst => ?accept, fun hm => ?acceptMeter, fun hm hd => ?acceptDone,
      fun hm hd hst => ?acceptState⟩,
    fun hop hb hm hd => ⟨fun hst => ?reject, fun hst => ?rejectState⟩,
    fun hop hb hm => ⟨fun hst => ?stop, fun hst => ?shut, fun hst => ?stopState⟩,
    fun hop hb => ?cert, fun hop hb => ⟨fun hm => ?mode, fun hm => ?modeMeter⟩⟩
  case accept =>
    have hk := c.dAuthAccept_accepts t.env d (c.authRefuse_none hm hd hst)
    exact s.executes_answer n _ d _ hn h hop (haccept hop) hk ⟨rfl, rfl, rfl, rfl⟩
  case acceptMeter =>
    exact s.executes_answer n _ d _ hn h hop (haccept hop) (c.dAuthAccept_refused t.env d _ (c.authRefuse_meter hm)) rfl
  case acceptDone =>
    exact s.executes_answer n _ d _ hn h hop (haccept hop) (c.dAuthAccept_refused t.env d _ (c.authRefuse_done hm hd)) rfl
  case acceptState =>
    exact s.executes_answer n _ d _ hn h hop (haccept hop) (c.dAuthAccept_refused t.env d _ (c.authRefuse_state hm hd hst)) rfl
  case reject =>
    have hk := c.dAuthReject_rejects t.env d (c.authRefuse_none hm hd hst)
    obtain ⟨hz, hdone, -, hcause⟩ := c.vReject_ends t.env
    exact s.executes_answer n _ d _ hn h hop (hreject hop hb) hk ⟨hz, hdone, hcause⟩
  case rejectState =>
    exact s.executes_answer n _ d _ hn h hop (hreject hop hb) (c.dAuthReject_refused t.env d _ (c.authRefuse_state hm hd hst)) rfl
  case stop =>
    have hin : st ∈ [.discovery, .cableCheck, .precharge, .transfer, .paused] := by rcases hst with hst | hst | hst <;> simp [hst]
    have hk := c.dSessionStop_stops t.env d hm hin
    rw [c.vHostStop_running t.env hst] at hk
    exact s.executes_answer n _ d _ hn h hop (hstop hop hb) hk ((c.vAns .terminate).vStop_stops t.env 0x03)
  case shut =>
    have hin : st ∈ [.discovery, .cableCheck, .precharge, .transfer, .paused] := by rcases hst with hst | hst <;> simp [hst]
    have hk := c.dSessionStop_stops t.env d hm hin
    obtain ⟨dis, hz⟩ := c.vHostStop_shuts t.env hst
    obtain ⟨hsd, -, -, -, hcause⟩ := (c.vAns .terminate).vShutdown_ends t.env 0x03 dis
    rw [hz] at hk
    exact s.executes_answer n _ d _ hn h hop (hstop hop hb) hk ⟨hsd, hcause⟩
  case stopState =>
    have hout : st ∉ [.discovery, .cableCheck, .precharge, .transfer, .paused] := by
      rcases hst with hst | hst | hst | hst | hst | hst | hst | hst <;> simp [hst]
    exact s.executes_answer n _ d _ hn h hop (hstop hop hb) (c.dSessionStop_refused t.env d hm hout) rfl
  case cert =>
    intro kind i len
    refine ⟨fun hr => ?_, fun hr hm hfull => ?_, fun hr hm hfit hfree => ?_⟩
    · exact s.rejects_descOp n _ d h hop 0x73 (t.descOp_certLoad_range n d _ hn hop hb hr)
    · exact s.rejects_descOp n _ d h hop 0x73 (t.descOp_certLoad_refused n d _ hn hop hb hr 0x73 (c.certCheck_full d hm hfull))
    have hfree' : t.xferOf (d.fld 1 0 3) = none := by rwa [State.xferOf, s.taken_xfers n d hn]
    have hc := c.certCheck_fits d hm hfit
    refine ⟨fun hlen => ?_, fun hlen => ?_⟩
    · have hport : d.portOf = some (d.fld 1 0 3, false) := if_pos hop
      have hd := t.descOp_certLoad n d (s.refOf n d) hn hop hb hr hc
      rw [t.portStart_in n d _ _ _ hport hfree' (by omega), s.taken_xfers n d hn] at hd
      exact s.leaves_descOp n _ d h hop _ hd
    · exact s.executes_answer n _ d _ hn h hop (t.descOp_certLoad_erases n d _ hn hop hb hr hc hfree' hlen) rfl rfl
  case mode => exact s.executes_answer n _ d _ hn h hop (hmode hop hb) (c.dAuthMode_sets d hm) rfl
  case modeMeter => exact s.executes_answer n _ d _ hn h hop (hmode hop hb) (c.dAuthMode_meter d hm) rfl

end Sys2Proof.Machine

namespace Sys2Proof.Machine

/-! ### The flags of the cooling (R364, R377) -/

namespace Chan

variable (k : Chan) (e : Env) (v : Bool)

/-- A flag's change adds to the journal, and a flag that stays adds nothing. -/
theorem coolFlag_at (which : Nat) (old : Bool) : ∃ j, k.coolFlag e which v old = { k with jq := j }
    ∧ (old = v → j = k.jq) := by
  unfold coolFlag
  split
  · exact ⟨_, rfl, fun _ => rfl⟩
  · next h => exact ⟨_, rfl, fun hv => absurd hv.symm h⟩

theorem setFlowLow_at : ∃ j, k.setFlowLow e v = { k with cool.r.status.flowLow := v, jq := j }
    ∧ (k.cool.r.status.flowLow = v → j = k.jq) :=
  coolFlag_at _ e v 1 _

theorem setPres_at : ∃ j, k.setPres e v =
      { k with cool := { k.cool with r.status.presFlt := v, presIn := v && k.cool.presBadIn }, jq := j }
    ∧ (k.cool.r.status.presFlt = v → j = k.jq) :=
  coolFlag_at _ e v 2 _

theorem setDisc_at : ∃ j, k.setDisc e v = { k with cool.r.status.pinDisc := v, jq := j }
    ∧ (k.cool.r.status.pinDisc = v → j = k.jq) :=
  coolFlag_at _ e v 0 _

/-- k is z, in which c's flag has the value v, but for the journal, to which a flag that had it already adds nothing. -/
def FlagTaken (c : Chan) (get : Chan → Bool) (v : Bool) (z k : Chan) : Prop :=
  get k = v ∧ k = { z with jq := k.jq } ∧ (get c = v → k.jq = c.jq)

theorem FlagTaken.intro {c z k : Chan} {get : Chan → Bool} {v : Bool} (hget : ∀ j, get { z with jq := j } = v)
    (h : ∃ j, k = { z with jq := j } ∧ (get c = v → j = c.jq)) : c.FlagTaken get v z k := by
  obtain ⟨j, rfl, hj⟩ := h
  exact ⟨hget j, rfl, hj⟩

end Chan

/-- A command on a flag of a channel takes it where its condition has held long enough, and else changes nothing. -/
theorem State.becomes_flag (s : State) (n : Nat) {cond : Bool} {get : Chan → Bool} {v : Bool} {z t : Chan}
    {f : Env → Chan → Chan} (h : s.soleUp n 2 = true) (hf : f s.env (s.ch n) = if cond then t else s.ch n)
    (ht : (s.ch n).FlagTaken get v z t) :
    (cond = true → Becomes (s.onSole n 2 f).done s n ((s.ch n).FlagTaken get v z))
      ∧ (cond = false → Becomes (s.onSole n 2 f).done s n (fun k => k = s.ch n)) := by
  refine ⟨fun hc => s.becomes_onSole n 2 f _ h ?_, fun hc => s.becomes_onSole n 2 f _ h ?_⟩
  · rwa [hf, hc, if_pos rfl]
  · rw [hf, hc, if_neg Bool.false_ne_true]

/-! ### The conversion of the cable's sensors (R363, R365) -/

/-- The readings of a conversion as the controller takes them: the four PT1000 sensors, the pressure, the masks of the faulty
sensors, and the registers that show them. -/
def Cool.sensed (c : Cool) (pts : List Nat) (mv : Nat) : Cool :=
  let pt : Vector (Option Int) 4 := Vector.ofFn fun i => ptTemp (pts.getD i.val 0)
  let p : Option Int := if mv < 250 ∨ 4750 < mv then none else some (((mv : Int) - 500) * 25)
  { c with
    pt := pt, pres := p, presRead := true
    tinHeld := if c.tIn.isSome ∧ c.r.status.state ≠ .off then c.tIn else c.tinHeld
    r.pin01 := { pt1 := tReg (vget pt 1 none), pt0 := tReg (vget pt 0 none) }
    r.pin23 := { pt3 := tReg (vget pt 3 none), pt2 := tReg (vget pt 2 none) }
    r.tcool := { tOut := tReg (vget c.cn 1 none), tIn := tReg (vget c.cn 0 none) }
    r.flow.pres := toU 16 (match p with | some x => divHE x 100 | none => 0)
    r.status.pinFlt := (List.range 4).foldl (fun m i => msetb m i (vget pt i none).isNone) 0
    r.status.cntcFlt := (List.range 2).foldl (fun m i => msetb m i (vget c.cn i none).isNone) 0 }

theorem Cool.sensed_pt (c : Cool) (pts : List Nat) (mv i : Nat) (hi : i < 4) :
    vget (c.sensed pts mv).pt i none = ptTemp (pts.getD i 0) := by
  simp [Cool.sensed, vget, hi]

theorem Cool.sensed_pinFlt (c : Cool) (pts : List Nat) (mv i : Nat) (hi : i < 4) :
    mbit (c.sensed pts mv).r.status.pinFlt i = (ptTemp (pts.getD i 0)).isNone := by
  rw [← c.sensed_pt pts mv i hi]
  exact (mbit_setAll _ _ i hi 4).trans (if_pos hi)

theorem Cool.sensed_cntcFlt (c : Cool) (pts : List Nat) (mv i : Nat) (hi : i < 2) :
    mbit (c.sensed pts mv).r.status.cntcFlt i = (vget c.cn i none).isNone :=
  (mbit_setAll _ _ i hi 2).trans (if_pos hi)

/-- x is c after a conversion: the PT1000 sensors and the coolant NTCs as their resistances read, each faulty one in its mask,
the pressure, and PRES_FLT set where the pressure input is faulty. -/
structure Cool.Converted (c : Cool) (b rn : Nat) (pts ntcs : List Nat) (mv : Nat) (x : Cool) : Prop where
  pt : ∀ i, i < 4 → vget x.pt i none = ptTemp (pts.getD i 0)
  pinFlt : ∀ i, i < 4 → mbit x.r.status.pinFlt i = (ptTemp (pts.getD i 0)).isNone
  cn : ∀ i, i < 2 → NtcReads b rn (ntcs.getD i 0) (vget x.cn i none)
  cntcFlt : ∀ i, i < 2 → mbit x.r.status.cntcFlt i = (vget x.cn i none).isNone
  pres : x.pres = if mv < 250 ∨ 4750 < mv then none else some (((mv : Int) - 500) * 25)
  presFlt : x.r.status.presFlt = (decide (mv < 250 ∨ 4750 < mv) || c.r.status.presFlt)
  kept : x.r.ctrl = c.r.ctrl ∧ x.r.status.state = c.r.status.state ∧ x.tc = c.tc ∧ x.flow = c.flow

/-- The pressure input is faulty after a conversion outside its range. -/
theorem Cool.sensed_presBadIn (c : Cool) (pts : List Nat) (mv : Nat) :
    (c.sensed pts mv).presBadIn = decide (mv < 250 ∨ 4750 < mv) := by
  have hp : (c.sensed pts mv).presBadIn = (if mv < 250 ∨ 4750 < mv then none else some (((mv : Int) - 500) * 25)).isNone :=
    Bool.true_and _
  rw [hp]
  split
  · next h => simp [h]
  · next h => simp [h]

namespace Chan

variable (e : Env) (b rn : Nat) (pts ntcs : List Nat) (mv : Nat)

/-- The conversion of coolant NTC i. -/
def cntcStep (k : Chan) (i : Nat) : Chan :=
  match ntcTemp b rn (ntcs.getD i 0) with
  | none => { k with cool.cn := vset k.cool.cn i none }
  | some (some t) => { k with cool.cn := vset k.cool.cn i (some t) }
  | some none => let f := k.free; { f.2 with cool.cn := vset f.2.cool.cn i (some (f.1.setWidth 16).toInt) }

theorem cntcStep_at (k : Chan) (i : Nat) : ∃ t m,
    k.cntcStep b rn ntcs i = { k with cool.cn := vset k.cool.cn i t, fc := m } ∧ NtcReads b rn (ntcs.getD i 0) t := by
  unfold cntcStep NtcReads
  generalize ntcs.getD i 0 = r
  split
  · next h => exact ⟨none, k.fc, rfl, by simp [h], fun _ => rfl⟩
  · next t h => exact ⟨some t, k.fc, rfl, by simp [h], by simp [h]⟩
  · next h => exact ⟨_, _, rfl, by simp [h], by simp [h]⟩

/-- Both coolant NTCs converted. -/
theorem cntcSteps_at (k : Chan) : ∃ v m, (k.cntcStep b rn ntcs 0).cntcStep b rn ntcs 1 = { k with cool.cn := v, fc := m }
    ∧ ∀ i, i < 2 → NtcReads b rn (ntcs.getD i 0) (vget v i none) := by
  obtain ⟨t, m, hk, ht⟩ := k.cntcStep_at b rn ntcs 0
  obtain ⟨t', m', hk', ht'⟩ := cntcStep_at b rn ntcs { k with cool.cn := vset k.cool.cn 0 t, fc := m } 1
  refine ⟨_, _, (congrArg (fun k => cntcStep b rn ntcs k 1) hk).trans hk', fun i hi => ?_⟩
  obtain rfl | rfl : i = 0 ∨ i = 1 := by omega
  · rw [vget_vset_other _ _ _ _ _ (by decide), vget_vset_same _ _ _ _ (by decide)]
    exact ht
  · rw [vget_vset_same _ _ _ _ (by decide)]
    exact ht'

/-- A faulty pressure input sets PRES_FLT in every state (R377). -/
def presJudged (k : Chan) : Chan := if k.cool.presBadIn ∧ !k.cool.r.status.presFlt then k.setPres e true else k

theorem presJudged_at (k : Chan) : ∃ p i j,
    k.presJudged e = { k with cool := { k.cool with r.status.presFlt := p, presIn := i }, jq := j }
      ∧ p = (k.cool.presBadIn || k.cool.r.status.presFlt) := by
  unfold presJudged
  split
  · next h =>
    obtain ⟨j, hj, -⟩ := k.setPres_at e true
    exact ⟨_, _, j, hj, by simp [h.1]⟩
  · next h =>
    refine ⟨_, _, _, rfl, ?_⟩
    cases hb : k.cool.presBadIn
    · rfl
    · simpa [hb] using h

/-- The readings taken, journalled where the masks have changed. -/
def coolSensed (k : Chan) (old : CoolStatus) : Chan :=
  let c := k.cool.sensed pts mv
  ({ k with cool := c.stamps e.now } : Chan).coolFlag e 3
    (decide (c.r.status.pinFlt ≠ old.pinFlt ∨ c.r.status.cntcFlt ≠ old.cntcFlt)) false

theorem coolSensed_at (k : Chan) (old : CoolStatus) : ∃ j,
    k.coolSensed e pts mv old = { k with cool := (k.cool.sensed pts mv).stamps e.now, jq := j } := by
  obtain ⟨j, hj, -⟩ := coolFlag_at { k with cool := (k.cool.sensed pts mv).stamps e.now } e _ 3 false
  exact ⟨j, hj⟩

theorem coolConvert_eq (k : Chan) : k.coolConvert e pts ntcs mv =
    (((k.cntcStep k.loop.r.ntcCfg.ntcB.toNat k.loop.r.ntcCfg.ntcRnom.toNat ntcs 0).cntcStep
      k.loop.r.ntcCfg.ntcB.toNat k.loop.r.ntcCfg.ntcRnom.toNat ntcs 1).coolSensed e pts mv k.cool.r.status).presJudged e := rfl

/-- A conversion replaces the readings, and is journalled. -/
theorem coolConvert_at (c : Chan) : ∃ x j m, c.coolConvert e pts ntcs mv = { c with cool := x, jq := j, fc := m }
    ∧ c.cool.Converted c.loop.r.ntcCfg.ntcB.toNat c.loop.r.ntcCfg.ntcRnom.toNat pts ntcs mv x := by
  obtain ⟨v, m, hk, hv⟩ := c.cntcSteps_at c.loop.r.ntcCfg.ntcB.toNat c.loop.r.ntcCfg.ntcRnom.toNat ntcs
  obtain ⟨j, hj⟩ := coolSensed_at e pts mv { c with cool.cn := v, fc := m } c.cool.r.status
  obtain ⟨p, i, j', hj', hp⟩ := presJudged_at e { c with
    cool := (({ c.cool with cn := v } : Cool).sensed pts mv).stamps e.now, jq := j, fc := m }
  refine ⟨_, j', m, by rw [coolConvert_eq, hk, hj, hj'], ?_⟩
  exact {
    pt := Cool.sensed_pt { c.cool with cn := v } pts mv
    pinFlt := Cool.sensed_pinFlt { c.cool with cn := v } pts mv
    cn := hv
    cntcFlt := Cool.sensed_cntcFlt { c.cool with cn := v } pts mv
    pres := rfl
    presFlt := hp.trans (congrArg (· || _) (Cool.sensed_presBadIn { c.cool with cn := v } pts mv))
    kept := ⟨rfl, rfl, rfl, rfl⟩ }

/-- SF3 is Shank's: it changes Shank, triggers a capture and is journalled, and nothing of it is left while SF3 is off (R428). -/
theorem shkSf3_at (k : Chan) : ∃ x t j, k.shkSf3 e = { k with shk := x, met := t, jq := j }
    ∧ (k.shk.sf3En = false → x = { k.shk with sf3Run := 0, sf3 := false } ∧ t = k.met) := by
  unfold shkSf3
  dsimp only
  split
  · exact ⟨_, _, _, rfl, fun _ => ⟨rfl, rfl⟩⟩
  · next hon =>
    have hno : ∀ {p : Prop}, k.shk.sf3En = false → p := fun h => absurd h (by simpa using hon)
    split_ifs <;> exact ⟨_, _, _, rfl, hno⟩

end Chan

/-- Settles O22: a conversion by `coolConvert_at` and `shkSf3_at`, the flags by `becomes_flag`. -/
theorem coolingSensorsAndFlags : Obligations.CoolingSensorsAndFlags := by
  unfold Obligations.CoolingSensorsAndFlags
  intro s n h c x flag
  refine ⟨fun pts ntcs mv => ?convert, fun pulses => s.becomes_onSole n 2 _ _ h ⟨rfl, rfl, rfl⟩, ?_, ?_, ?_, ?_, ?_, ?_⟩
  case convert =>
    intro badP
    refine s.becomes_onSole n 2 _ _ h ?_
    obtain ⟨z, j, m, hk, hz⟩ := c.coolConvert_at s.env pts ntcs mv
    obtain ⟨y, t, j', hsf3, hoff⟩ := Chan.shkSf3_at s.env { c with cool := z, jq := j, fc := m }
    rw [hk, hsf3]
    have hbad : badP = decide (mv < 250 ∨ 4750 < mv) := (Bool.decide_or _ _).symm
    obtain ⟨hctrl, hstate, htc, hflow⟩ := hz.kept
    refine ⟨fun i hi => ⟨hz.pt i hi, hz.pinFlt i hi⟩, fun i hi => ?_, fun hb => ?_, fun hb => ?_, hctrl, hstate, htc, hflow,
      hoff, rfl⟩
    · obtain ⟨hvalue, hfaulty⟩ := hz.cn i hi
      have hflt := hz.cntcFlt i hi
      exact ⟨fun ht => ⟨hfaulty ht, by rw [hflt, hfaulty ht, Option.isNone_none]⟩,
        fun t ht => ⟨hvalue t ht, by rw [hflt, hvalue t ht, Option.isNone_some]⟩⟩
    · have hout := of_decide_eq_true (hbad.symm.trans hb)
      exact ⟨hz.pres.trans (if_pos hout), by rw [hz.presFlt, decide_eq_true hout, Bool.true_or]⟩
    · have hin := of_decide_eq_false (hbad.symm.trans hb)
      exact ⟨hz.pres.trans (if_neg hin), by rw [hz.presFlt, decide_eq_false hin, Bool.false_or]⟩
  · refine s.becomes_flag n h ?_ (.intro (fun _ => rfl) (c.setFlowLow_at s.env true))
    simp only [Chan.flowLowSet, Bool.and_eq_true]
    rfl
  · exact s.becomes_flag n h rfl (.intro (fun _ => rfl) (c.setFlowLow_at s.env false))
  · refine s.becomes_flag n h ?_ (.intro (fun _ => rfl) (c.setPres_at s.env true))
    simp only [Chan.presSet, Bool.or_eq_true]
    rfl
  · exact s.becomes_flag n h rfl (.intro (fun _ => rfl) (c.setPres_at s.env false))
  · exact s.becomes_flag n h rfl (.intro (fun _ => rfl) (c.setDisc_at s.env true))
  · exact s.becomes_flag n h rfl (.intro (fun _ => rfl) (c.setDisc_at s.env false))

end Sys2Proof.Machine

namespace Sys2Proof.Machine

/-! ### The states of the cooling controller (R366, R367, R374) -/

/-- The controller at rest in a state: its outputs low and its judging of flow and pressure begun anew, with PRES_FLT as
given. -/
def Cool.rested (c : Cool) (s : CoolState) (p i : Bool) : Cool :=
  { c with
    r.status := { c.r.status with state := s, flowLow := false, presFlt := p }
    r.drive := {}
    flowLowSince := none, presBadSince := none, tPump := none, presIn := i }

namespace Chan

variable (k : Chan) (e : Env)

/-- A state with the pump on is entered with both auxiliary loops enabled. -/
theorem coolEnter_on {s : CoolState} (h : s = .active ∨ s = .rundown) :
    k.coolEnter e s = { k with loop.r.auxStatus.en := 3, cool.r.status.state := s } := by
  rcases h with rfl | rfl <;> rfl

/-- A state with the pump off is entered with the outputs low, and FLOW_LOW clears. -/
theorem coolEnter_off {s : CoolState} (h : s = .off ∨ s = .standby) : ∃ p i j,
    k.coolEnter e s = { k with loop.r.auxStatus.en := 0, cool := k.cool.rested s p i, jq := j } := by
  have hs : decide (s = .active ∨ s = .rundown) = false := by rcases h with rfl | rfl <;> rfl
  unfold coolEnter
  rw [hs]
  obtain ⟨j, hj, -⟩ := setFlowLow_at { k with
    loop.r.auxStatus.en := 0
    cool := { k.cool with r.status.state := s, r.drive := {}, flowLowSince := none, presBadSince := none, tPump := none } }
    e false
  simp only [Bool.false_eq_true, if_false, hj]
  split
  · obtain ⟨j', hj', -⟩ := setPres_at { k with
      loop.r.auxStatus.en := 0
      cool := k.cool.rested s k.cool.r.status.presFlt k.cool.presIn, jq := j } e false
    exact ⟨_, _, j', hj'⟩
  · exact ⟨k.cool.r.status.presFlt, k.cool.presIn, j, rfl⟩

/-- The state of the controller after a 1 ms mark (R367). -/
def coolNext (now : Nat) : CoolState :=
  match k.cool.r.status.state with
  | .off => .off
  | .standby => if k.loopOn ∨ k.cool.hot then .active else .standby
  | .active => if !k.loopOn ∧ !k.cool.hot then .rundown else .active
  | .rundown => if k.loopOn then .active
      else if k.cool.tRun + sNs k.cool.r.ctrl.rundown.toNat ≤ now ∧ k.cool.cold then .standby else .rundown

section Cases

variable {k : Chan} (e : Env) (now : Nat)

theorem coolNext_off (h : k.cool.r.status.state = .off) : k.coolNext now = .off := by
  simp only [coolNext, h]

theorem coolNext_standby (h : k.cool.r.status.state = .standby) :
    k.coolNext now = if k.loopOn ∨ k.cool.hot then .active else .standby := by
  simp only [coolNext, h]

theorem coolNext_active (h : k.cool.r.status.state = .active) :
    k.coolNext now = if !k.loopOn ∧ !k.cool.hot then .rundown else .active := by
  simp only [coolNext, h]

theorem coolNext_rundown (h : k.cool.r.status.state = .rundown) : k.coolNext now = if k.loopOn then .active
    else if k.cool.tRun + sNs k.cool.r.ctrl.rundown.toNat ≤ now ∧ k.cool.cold then .standby else .rundown := by
  simp only [coolNext, h]

theorem rundownEnd_rundown (h : k.cool.r.status.state = .rundown) : k.rundownEnd e =
    if k.cool.tRun + sNs k.cool.r.ctrl.rundown.toNat ≤ e.now ∧ k.cool.cold then k.coolEnter e .standby else k := by
  simp only [rundownEnd, h, true_and]

end Cases

/-- k is c after the transitions of a 1 ms mark: in its next state, with the actions of the transition it took. -/
structure CoolMoved (now : Nat) (c k : Chan) : Prop where
  next : k.cool.r.status.state = c.coolNext now
  timed : c.cool.r.status.state = .active → k.cool.r.status.state = .rundown → k.cool.tRun = now
  on : k.cool.r.status.state = .active ∨ k.cool.r.status.state = .rundown →
    k.cool.r.status.state ≠ c.cool.r.status.state → k.loop.r.auxStatus.en = 3
  off : k.cool.r.status.state = .off ∨ k.cool.r.status.state = .standby →
    k.cool.r.status.state ≠ c.cool.r.status.state →
      k.loop.r.auxStatus.en = 0 ∧ k.cool.r.drive = {} ∧ k.cool.r.status.flowLow = false
  model : c.cool.r.status.state = .off → k.cool.tc = c.cool.tc ∧ k.cool.tk = c.cool.tk
  cap : k.cool.r.cap = c.cool.r.cap ∧ k.cool.r.cable = c.cool.r.cable ∧ k.cool.tRise = c.cool.tRise
  frame : k = { c with cool := k.cool, jq := k.jq, loop.r.auxStatus.en := k.loop.r.auxStatus.en }

variable {k e}

theorem CoolMoved.stays {now : Nat} (h : k.coolNext now = k.cool.r.status.state) : CoolMoved now k k where
  next := h.symm
  timed ha hr := absurd (ha.symm.trans hr) (by decide)
  on _ hne := absurd rfl hne
  off _ hne := absurd rfl hne
  model _ := ⟨rfl, rfl⟩
  cap := ⟨rfl, rfl, rfl⟩
  frame := rfl

/-- A transition to ACTIVE or RUNDOWN, of which RUNDOWN starts its timer. -/
theorem CoolMoved.works {s : CoolState} {t : Nat} (hs : s = .active ∨ s = .rundown) (h : k.coolNext e.now = s)
    (ht : s = .rundown → t = e.now) : CoolMoved e.now k (({ k with cool.tRun := t } : Chan).coolEnter e s) := by
  rw [coolEnter_on _ e hs]
  exact {
    next := h.symm
    timed := fun _ => ht
    on := fun _ _ => rfl
    off := fun h => absurd h (by rcases hs with rfl | rfl <;> simp)
    model := fun _ => ⟨rfl, rfl⟩
    cap := ⟨rfl, rfl, rfl⟩
    frame := rfl }

theorem CoolMoved.rests (h : k.coolNext e.now = .standby) : CoolMoved e.now k (k.coolEnter e .standby) := by
  obtain ⟨p, i, j, hk⟩ := k.coolEnter_off e (.inr rfl)
  rw [hk]
  exact {
    next := h.symm
    timed := fun _ hr => absurd hr (by simp [Cool.rested])
    on := fun hw => absurd hw (by simp [Cool.rested])
    off := fun _ _ => ⟨rfl, rfl, rfl⟩
    model := fun _ => ⟨rfl, rfl⟩
    cap := ⟨rfl, rfl, rfl⟩
    frame := rfl }

/-- A 1 ms mark takes the controller to its next state, and no transition is taken where that is the present one. -/
theorem coolMoves_moved : CoolMoved e.now k (k.coolMoves e) := by
  unfold coolMoves
  split
  · next hst =>
    have hnext := coolNext_standby e.now hst
    split
    · next h => exact .works (t := k.cool.tRun) (.inl rfl) (hnext.trans (if_pos h)) nofun
    · next h => exact .stays ((hnext.trans (if_neg h)).trans hst.symm)
  · next hst =>
    have hnext := coolNext_active e.now hst
    split
    · next h => exact .works (.inr rfl) (hnext.trans (if_pos h)) fun _ => rfl
    · next h => exact .stays ((hnext.trans (if_neg h)).trans hst.symm)
  · next hst =>
    have hnext := coolNext_rundown e.now hst
    split
    · next h => exact .works (t := k.cool.tRun) (.inl rfl) (hnext.trans (if_pos h)) nofun
    · next hoff =>
      rw [if_neg hoff] at hnext
      rw [rundownEnd_rundown e hst]
      split
      · next h => exact .rests (hnext.trans (if_pos h))
      · next h => exact .stays ((hnext.trans (if_neg h)).trans hst.symm)
  · next hst => exact .stays ((coolNext_off e.now hst).trans hst.symm)

end Chan

/-! ### The thermal model and the cap (R372 to R376) -/

/-- y is the controller x after its model ran: its state, its drive and the cap in force are as they were, and in OFF the model
stands still. -/
structure Cool.Ran (x y : Cool) : Prop where
  state : y.r.status.state = x.r.status.state
  flowLow : y.r.status.flowLow = x.r.status.flowLow
  drive : y.r.drive = x.r.drive
  tRun : y.tRun = x.tRun
  cap : y.r.cap = x.r.cap ∧ y.r.cable = x.r.cable ∧ y.tRise = x.tRise
  model : x.r.status.state = .off → y.tc = x.tc ∧ y.tk = x.tk

namespace Chan

/-- The model runs in every state but OFF (R374). -/
theorem coolModel_ran (k : Chan) : ∃ y, (if k.cool.r.status.state = .off then k else k.coolModel) = { k with cool := y }
    ∧ k.cool.Ran y := by
  split
  · exact ⟨k.cool, rfl, rfl, rfl, rfl, rfl, ⟨rfl, rfl, rfl⟩, fun _ => ⟨rfl, rfl⟩⟩
  · next h => exact ⟨k.coolModel.cool, rfl, rfl, rfl, rfl, rfl, ⟨rfl, rfl, rfl⟩, fun hoff => absurd hoff h⟩

/-- The resistance to the dispenser and the means of the estimates are taken in every state (R378, R379). -/
theorem rLink_estMeans_ran (k : Chan) : ∃ y, k.rLink.estMeans = { k with cool := y } ∧ k.cool.Ran y := by
  refine ⟨k.rLink.estMeans.cool, ?_⟩
  unfold estMeans rLink
  dsimp only
  split <;> exact ⟨rfl, rfl, rfl, rfl, rfl, ⟨rfl, rfl, rfl⟩, fun _ => ⟨rfl, rfl⟩⟩

/-- The cap that a 1 ms mark puts in force, and the time of the last rise (R376). -/
def nextCap (k : Chan) (e : Env) : Nat × Nat :=
  let t := (leastTerm k.cool.terms).2
  let old := k.cool.r.cap.cap.toNat
  if t ≤ old then (t, k.cool.tRise)
  else if k.cool.tRise + msNs 100 ≤ e.now then (min t (old + k.cool.pctRated 1), e.now)
  else (old, k.cool.tRise)

section Cap

variable (k : Chan) (e : Env)

theorem coolCap_cap : (k.coolCap e).cool.r.cap.cap = BitVec.ofNat 16 (k.nextCap e).1 := rfl

theorem coolCap_tRise : (k.coolCap e).cool.tRise = (k.nextCap e).2 := rfl

/-- The terms of the cap do not depend on the cap in force. -/
theorem coolCap_terms : (k.coolCap e).cool.terms = k.cool.terms := rfl

end Cap

/-! ### The 1 ms mark (R367, R372 to R376) -/

/-- The stamps of the flags take no part in the transitions. -/
theorem CoolMoved.of_stamps {now : Nat} {c k : Chan} (h : CoolMoved now { c with cool := c.cool.stamps now } k) :
    CoolMoved now c k :=
  { h with }

/-- The model leaves what the transitions made. -/
theorem CoolMoved.ran {now : Nat} {c k : Chan} {y : Cool} (h : CoolMoved now c k) (g : k.cool.Ran y) :
    CoolMoved now c { k with cool := y } where
  next := g.state.trans h.next
  timed ha hr := g.tRun.trans (h.timed ha (g.state.symm.trans hr))
  on hw hne := h.on (g.state ▸ hw) (g.state ▸ hne)
  off hw hne :=
    have ⟨hen, hdrive, hflow⟩ := h.off (g.state ▸ hw) (g.state ▸ hne)
    ⟨hen, g.drive.trans hdrive, g.flowLow.trans hflow⟩
  model hoff :=
    have ⟨htc, htk⟩ := h.model hoff
    have ⟨gtc, gtk⟩ := g.model (h.next.trans (coolNext_off now hoff))
    ⟨gtc.trans htc, gtk.trans htk⟩
  cap :=
    have ⟨hcap, hcable, hrise⟩ := h.cap
    have ⟨gcap, gcable, grise⟩ := g.cap
    ⟨gcap.trans hcap, gcable.trans hcable, grise.trans hrise⟩
  frame := congrArg (fun z : Chan => ({ z with cool := y } : Chan)) h.frame

/-- A 1 ms mark takes the transitions, runs the model and puts the cap in force. -/
theorem coolMark_at (c : Chan) (e : Env) : ∃ k, CoolMoved e.now c k ∧ c.coolMark e = k.coolCap e := by
  have hmoved := coolMoves_moved (k := { c with cool := c.cool.stamps e.now }) (e := e)
  obtain ⟨y, hy, hran⟩ := (({ c with cool := c.cool.stamps e.now } : Chan).coolMoves e).coolModel_ran
  obtain ⟨z, hz, hran'⟩ := rLink_estMeans_ran
    { ({ c with cool := c.cool.stamps e.now } : Chan).coolMoves e with cool := y }
  refine ⟨_, (hmoved.of_stamps.ran hran).ran hran', ?_⟩
  unfold coolMark
  dsimp only
  rw [hy, hz]

variable {k : Chan} {e : Env}

/-- A fall of the cap takes effect at once. -/
theorem nextCap_falls (h : (leastTerm k.cool.terms).2 ≤ k.cool.r.cap.cap.toNat) :
    (k.nextCap e).1 = (leastTerm k.cool.terms).2 :=
  congrArg Prod.fst (if_pos h)

/-- A rise is at most 1 % of I_RATED. -/
theorem nextCap_rises (h : k.cool.r.cap.cap.toNat < (leastTerm k.cool.terms).2) (ht : k.cool.tRise + 100000000 ≤ e.now) :
    k.nextCap e = (min (leastTerm k.cool.terms).2 (k.cool.r.cap.cap.toNat + k.cool.r.cable.iRated.toNat / 100), e.now) := by
  have hpct : k.cool.pctRated 1 = k.cool.r.cable.iRated.toNat / 100 := congrArg (· / 100) (Nat.mul_one _)
  rw [← hpct]
  exact (if_neg (Nat.not_le.2 h)).trans (if_pos ht)

/-- No rise follows another within 100 ms. -/
theorem nextCap_waits (h : k.cool.r.cap.cap.toNat < (leastTerm k.cool.terms).2) (ht : e.now < k.cool.tRise + 100000000) :
    (k.nextCap e).1 = k.cool.r.cap.cap.toNat :=
  congrArg Prod.fst ((if_neg (Nat.not_le.2 h)).trans (if_neg (Nat.not_le.2 ht)))

end Chan

/-! ### COOL_CTRL (R367, R368, R374, R383) -/

/-- T_c and T_k on entry to STANDBY from OFF (R374). -/
def Cool.startTemp (c : Cool) : Rat :=
  match optMax (optMax c.tPin c.tIn) c.tOut with
  | some t => (t : Rat) / 10
  | none => (c.r.lim1.tCLim.toInt : Rat) / 10

/-- The controller as it starts: the model at its first temperatures, and the last valid T_IN taken. -/
def Cool.started (c : Cool) : Cool := { c with tc := c.startTemp, tk := c.startTemp, tinHeld := c.tIn }

namespace Chan

variable (k : Chan) (e : Env)

/-- The fields of a write to COOL_CTRL taken, with EN as given. -/
def ctrlSet (w : Word) (en : Bool) : Chan :=
  { k with cool.r.ctrl := { k.cool.r.ctrl.write w with en := en, ageRst := false } }

theorem ctrlSet_write (w : Word) {en : Bool} (h : w.getLsbD 0 = en) :
    (k.ctrlSet w en).cool.r.ctrl = { k.cool.r.ctrl.write w with ageRst := false } := by
  subst h
  rfl

/-- The controller starts in STANDBY. -/
theorem coolOn_at : ∃ p i j, k.coolOn e =
    { k with loop.r.auxStatus.en := 0, cool := k.cool.started.rested .standby p i, jq := j } :=
  coolEnter_off { k with cool := k.cool.started } e (.inr rfl)

theorem coolCtrl_eq (w : Word) : k.coolCtrl e w =
    if k.core.meterRole then k.ctrlSet w k.cool.r.ctrl.en
    else if w.getLsbD 0 then
      if k.cool.r.status.state = .off then (k.ctrlSet w true).coolOn e else k.ctrlSet w true
    else match k.cool.r.status.state with
      | .active | .rundown => { k.ctrlSet w k.cool.r.ctrl.en with cool.r.status.wrIgn := true }
      | .standby => (k.ctrlSet w false).coolEnter e .off
      | .off => k.ctrlSet w false := rfl

section Writes

variable {k} {w : Word}

theorem coolCtrl_starts (hm : k.core.meterRole = false) (hw : w.getLsbD 0 = true) (hst : k.cool.r.status.state = .off) :
    k.coolCtrl e w = (k.ctrlSet w true).coolOn e := by
  rw [coolCtrl_eq, hm, hw, hst]
  rfl

theorem coolCtrl_stops (hm : k.core.meterRole = false) (hw : w.getLsbD 0 = false)
    (hst : k.cool.r.status.state = .standby) : k.coolCtrl e w = (k.ctrlSet w false).coolEnter e .off := by
  rw [coolCtrl_eq, hm, hw, hst]
  rfl

/-- EN is not taken away while the pump runs (R368). -/
theorem coolCtrl_ignores (hm : k.core.meterRole = false) (hw : w.getLsbD 0 = false)
    (hst : k.cool.r.status.state = .active ∨ k.cool.r.status.state = .rundown) :
    k.coolCtrl e w = { k.ctrlSet w k.cool.r.ctrl.en with cool.r.status.wrIgn := true } := by
  rw [coolCtrl_eq, hm, hw]
  rcases hst with hst | hst
  · rw [hst]
    rfl
  · rw [hst]
    rfl

/-- A write that leaves EN as the state has it changes the other fields alone. -/
theorem coolCtrl_keeps (hw : w.getLsbD 0 = k.cool.r.ctrl.en)
    (hen : k.cool.r.ctrl.en = decide (k.cool.r.status.state ≠ .off)) :
    k.coolCtrl e w = k.ctrlSet w k.cool.r.ctrl.en := by
  rw [coolCtrl_eq, hw]
  split
  · rfl
  · by_cases hoff : k.cool.r.status.state = .off
    · rw [hen, hoff]
      rfl
    · rw [hen, decide_eq_true hoff, if_pos rfl, if_neg hoff]

end Writes

/-- A write of COOL_CTRL reaches the controller, and its AGE_RST the trend. -/
theorem regWrite_coolCtrl (w : Word) : k.regWrite e 0x700 w =
    (if w.getLsbD 2 then (k.coolCtrl e w).ageRst else k.coolCtrl e w, false) := rfl

theorem ageRst_sealed (h : k.ledg.r.status.sealed = true) : k.ageRst = { k with cool.r.status.wrIgn := true } := if_pos h

theorem ageRst_unsealed (h : k.ledg.r.status.sealed = false) : k.ageRst = { k with cool := { k.cool with
    trend := none, con0 := none, outRun := 0, fc := []
    r.rmeas := {}, r.age := {}, r.fcast := {}, r.status.ageValid := false } } := by
  unfold ageRst
  rw [h]
  rfl

end Chan

/-- A host write of COOL_CTRL of a channel that is open. -/
theorem State.becomes_coolCtrl (s : State) (n : Nat) (w : Word) (P : Chan → Prop) (hn : n < 4) (h : s.hostOpen n = true)
    (hP : P (if w.getLsbD 2 then ((s.ch n).coolCtrl s.env w).ageRst else (s.ch n).coolCtrl s.env w)) :
    Becomes (s.chWrite n 0x700 w).done s n P := by
  refine ⟨_, hP, congrArg State.done ?_⟩
  rw [s.chWrite_open n 0x700 w hn (by decide) (by decide) h (by rw [Chan.regWrite_coolCtrl]), Chan.regWrite_coolCtrl]

/-- COOL_CTRL as AGE_RST is written: AGE_RST set, EN as it stands. -/
theorem CoolCtrl.read_ageRst (r : CoolCtrl) : (r.read ||| 4).getLsbD 2 = true ∧ (r.read ||| 4).getLsbD 0 = r.en := by
  unfold CoolCtrl.read
  cases r.en <;> simp [bit32]

/-- Settles O23: COOL_CTRL by what the write makes of the state, the 1 ms mark by `coolMark_at`, the end of the rundown by
`rundownEnd_rundown`. -/
theorem coolingController : Obligations.CoolingController := by
  unfold Obligations.CoolingController
  intro s n h c x st only
  obtain ⟨hn, -, -⟩ := (s.soleUp_iff n 2).1 h
  refine ⟨fun w ho hw hm => ⟨fun hen hst => ?start, fun hen hst => ?stop, fun hen hst => ?ignore⟩,
    fun ho hen => ⟨fun hs => ?forget, fun hs => ?keep⟩, ?mark, fun hst ht hcold => ?rest, fun hno => ?none⟩
  case start =>
    refine s.becomes_coolCtrl n w _ hn ho ?_
    have hctrl := c.ctrlSet_write w hen
    obtain ⟨p, i, j, hk⟩ := (c.ctrlSet w true).coolOn_at s.env
    rw [hw, if_neg Bool.false_ne_true, c.coolCtrl_starts s.env hm hen hst, hk]
    exact ⟨rfl, hctrl, rfl, rfl, rfl, rfl, rfl⟩
  case stop =>
    refine s.becomes_coolCtrl n w _ hn ho ?_
    have hctrl := c.ctrlSet_write w hen
    obtain ⟨p, i, j, hk⟩ := (c.ctrlSet w false).coolEnter_off s.env (.inl rfl)
    rw [hw, if_neg Bool.false_ne_true, c.coolCtrl_stops s.env hm hen hst, hk]
    exact ⟨rfl, hctrl, rfl, rfl⟩
  case ignore =>
    refine s.becomes_coolCtrl n w _ hn ho ?_
    rw [hw, if_neg Bool.false_ne_true, c.coolCtrl_ignores s.env hm hen hst]
    exact ⟨rfl, rfl, rfl, rfl⟩
  case forget =>
    refine s.becomes_coolCtrl n _ _ hn ho ?_
    obtain ⟨h2, h0⟩ := x.r.ctrl.read_ageRst
    rw [h2, if_pos rfl, c.coolCtrl_keeps s.env h0 hen, (c.ctrlSet (x.r.ctrl.read ||| 4) x.r.ctrl.en).ageRst_unsealed hs]
    exact ⟨rfl, rfl, rfl, rfl, rfl, rfl, rfl, rfl⟩
  case keep =>
    refine s.becomes_coolCtrl n _ _ hn ho ?_
    obtain ⟨h2, h0⟩ := x.r.ctrl.read_ageRst
    rw [h2, if_pos rfl, c.coolCtrl_keeps s.env h0 hen, (c.ctrlSet (x.r.ctrl.read ||| 4) x.r.ctrl.en).ageRst_sealed hs]
    exact ⟨rfl, rfl, rfl, rfl, rfl⟩
  case mark =>
    refine s.becomes_onSole n 2 _ _ h ?_
    obtain ⟨k, hmoved, hk⟩ := c.coolMark_at s.env
    obtain ⟨hcap, hcable, hrise⟩ := hmoved.cap
    rw [hk]
    refine ⟨hmoved.next, hmoved.timed, hmoved.on, hmoved.off, hmoved.model, ?_,
      congrArg (fun z : Chan => { z with cool := (k.coolCap s.env).cool }) hmoved.frame⟩
    rw [k.coolCap_terms s.env, ← hcap, ← hcable, ← hrise]
    refine ⟨rfl, rfl, fun hfall => ?_, fun hup ht => ?_, fun hup ht => ?_⟩
    · rw [k.coolCap_cap, Chan.nextCap_falls hfall]
    · rw [k.coolCap_cap, k.coolCap_tRise, Chan.nextCap_rises (e := s.env) hup ht]
      exact ⟨rfl, rfl⟩
    · rw [k.coolCap_cap, Chan.nextCap_waits (e := s.env) hup ht, BitVec.ofNat_toNat, BitVec.setWidth_eq]
  case rest =>
    refine s.becomes_onSole n 2 _ _ h ?_
    obtain ⟨p, i, j, hk⟩ := c.coolEnter_off s.env (.inr rfl)
    rw [c.rundownEnd_rundown s.env hst, if_pos ⟨ht, hcold⟩, hk]
    exact ⟨rfl, rfl, rfl⟩
  case none =>
    refine s.becomes_onSole n 2 _ _ h (if_neg ?_)
    rintro ⟨hst, ht, hcold⟩
    rcases hno with hno | hno | hno
    · exact hno hst
    · exact absurd ht (Nat.not_le.2 hno)
    · exact Bool.false_ne_true (hno.symm.trans hcold)

end Sys2Proof.Machine

namespace Sys2Proof.Machine

/-! ### One output of an Eyelet die -/

section Entries

variable {α : Type} {N : Nat} (v : Vector α N) (i j : Nat) (f : α → α) (d : α)

/-- The entry that a change names. -/
theorem vget_vMod_same (hi : i < N) : vget (vMod v i f) i d = f (vget v i d) :=
  (vget_vMod v i i f d).trans (if_pos ⟨rfl, hi⟩)

/-- The other entries are as before. -/
theorem vget_vMod_other (hj : j ≠ i) : vget (vMod v i f) j d = vget v j d :=
  (vget_vMod v i j f d).trans (if_neg fun h => hj h.1)

end Entries

section

variable (s : State) (n i : Nat) (f : Nat → Ey → Ey) {y : Ey} {P : Chan → Prop} (hn : n < 4) (hi : i < 8)
include hn

/-- A command on an Eyelet die that is known to make y of it. -/
theorem State.becomes_onEy (hf : f s.now (s.ch n).ey = y) (hP : P { s.ch n with ey := y }) :
    Becomes (s.onEy n f).done s n P :=
  ⟨_, hf.symm ▸ hP, congrArg State.done (s.onCh_eq n _ hn)⟩

/-- One that leaves it as it is. -/
theorem State.keeps_onEy (hf : f s.now (s.ch n).ey = (s.ch n).ey) : Becomes (s.onEy n f).done s n (fun k => k = s.ch n) :=
  s.becomes_onEy n f hn hf rfl

include hi

/-- A command on one of its outputs. -/
theorem State.becomes_onOut (hf : f s.now (s.ch n).ey = y) (hP : P { s.ch n with ey := y }) :
    Becomes (s.onOut n i f).done s n P := by
  rw [State.onOut, if_pos hi]
  exact s.becomes_onEy n f hn hf hP

theorem State.keeps_onOut (hf : f s.now (s.ch n).ey = (s.ch n).ey) :
    Becomes (s.onOut n i f).done s n (fun k => k = s.ch n) :=
  s.becomes_onOut n i f hn hi hf rfl

end

/-- k is c with one output of its die changed, and beside the outputs no register of it. -/
def Chan.OutOnly (c : Chan) (i : Nat) (k : Chan) : Prop :=
  (∀ j, j ≠ i → vget k.ey.o j {} = vget c.ey.o j {}) ∧ k.ey.r = c.ey.r ∧ k = { c with ey := k.ey }

/-- An Eyelet die with one output changed. -/
def Ey.modOut (y : Ey) (i : Nat) (g : EyOut → EyOut) : Ey := { y with o := vMod y.o i g }

theorem Ey.modOut_same (y : Ey) (i : Nat) (g : EyOut → EyOut) (hi : i < 8) : vget (y.modOut i g).o i {} = g (vget y.o i {}) :=
  vget_vMod_same y.o i g {} hi

theorem Ey.modOut_other (y : Ey) (i j : Nat) (g : EyOut → EyOut) (hj : j ≠ i) : vget (y.modOut i g).o j {} = vget y.o j {} :=
  vget_vMod_other y.o i j g {} hj

/-- Two changes of one entry, one after the other. -/
theorem vMod_vMod {α : Type} {N : Nat} (v : Vector α N) (i : Nat) (f g : α → α) :
    vMod (vMod v i f) i g = vMod v i (g ∘ f) := by
  by_cases hi : i < N
  · simp [vMod, hi]
  · simp [vMod, hi]

theorem Ey.modOut_modOut (y : Ey) (i : Nat) (f g : EyOut → EyOut) : (y.modOut i f).modOut i g = y.modOut i (g ∘ f) :=
  congrArg (fun o => { y with o := o }) (vMod_vMod y.o i f g)

/-- A channel with one output of its die changed, whatever else of the die beside its registers. -/
theorem Chan.OutOnly.intro (c : Chan) (i : Nat) (g : EyOut → EyOut) {y : Ey} (ho : y.o = (c.ey.modOut i g).o)
    (hr : y.r = c.ey.r) : c.OutOnly i { c with ey := y } :=
  ⟨fun j hj => (congrArg (vget · j {}) ho).trans (c.ey.modOut_other i j g hj), hr, rfl⟩

/-- A command that changes an output of an Eyelet die alone. -/
theorem State.becomes_modOut (s : State) (n i : Nat) (f : Nat → Ey → Ey) {g : EyOut → EyOut} {o : EyOut} (hn : n < 4)
    (hi : i < 8) (hf : f s.now (s.ch n).ey = (s.ch n).ey.modOut i g) (hg : g (vget (s.ch n).ey.o i {}) = o) :
    Becomes (s.onOut n i f).done s n (fun k => vget k.ey.o i {} = o ∧ (s.ch n).OutOnly i k) :=
  s.becomes_onOut n i f hn hi hf ⟨(Ey.modOut_same _ i g hi).trans hg, .intro _ i g rfl rfl⟩

/-! ### Trips and retries of an output (R395 to R399) -/

/-- Output o after an over-current trip as x stands. -/
def EyOut.tripped (x : EyOut) (now : Nat) (o : EyOut) : EyOut :=
  { o with
    st := if x.fcnt + 1 ≤ x.n then .pause else .latched
    fcnt := min 15 (x.fcnt + 1), tIn := none, tPause := now, ma := 0
    pause := pauseNs o.retry.pause0.toNat (min 15 (x.fcnt + 1)) }

/-- An output after a thermal trip. -/
def EyOut.overheated (o : EyOut) : EyOut := { o with st := .thermHot, fcnt := min 15 (o.fcnt + 1), tIn := none, ma := 0 }

/-- Output o with its temperature above the case. -/
def EyOut.heated (dt : Nat) (o : EyOut) : EyOut := { o with dt := dt }

namespace Ey

variable (y : Ey) (now i : Nat)

/-- An over-current trip of an output that conducts. -/
theorem ocTrip_live (h : (vget y.o i {}).live = true) : y.ocTrip now i =
    { y.modOut i ((vget y.o i {}).tripped now) with report := true, fault.oc := msetb y.fault.oc i true } := by
  simp only [ocTrip, h, Bool.not_true, Bool.false_eq_true, if_false, decide_eq_true_eq]
  rfl

theorem ocTrip_dead (h : (vget y.o i {}).live = false) : y.ocTrip now i = y := if_pos (congrArg not h)

theorem overcurrent_held (us : Nat) (h : max 1 (vget y.o i {}).retry.ocFilt.toNat * 10 ≤ us) :
    y.overcurrent now i us = y.ocTrip now i := if_pos h

theorem overcurrent_keeps (us : Nat)
    (h : (vget y.o i {}).live = false ∨ us < max 1 (vget y.o i {}).retry.ocFilt.toNat * 10) : y.overcurrent now i us = y := by
  unfold overcurrent
  split
  · next hus => exact y.ocTrip_dead now i (h.resolve_right (Nat.not_lt.2 hus))
  · rfl

theorem shortCircuit_exceeds (ma : Nat) (h : 15000 < ma) : y.shortCircuit now i ma = y.ocTrip now i := if_pos h

theorem shortCircuit_keeps (ma : Nat) (h : (vget y.o i {}).live = false ∨ ma ≤ 15000) : y.shortCircuit now i ma = y := by
  unfold shortCircuit
  split
  · next hma => exact y.ocTrip_dead now i (h.resolve_right (Nat.not_le.2 hma))
  · rfl

section Thermal

variable (dt : Nat) (tj : Int)

/-- A thermal trip of an output that conducts or waits to (R397). -/
theorem thermal_hot (ht : 60 ≤ dt ∨ 170 ≤ tj) (h : (vget y.o i {}).live = true ∨ (vget y.o i {}).st = .pause) :
    y.thermal i dt tj =
      { y.modOut i (EyOut.overheated ∘ EyOut.heated dt) with report := true, fault.th := msetb y.fault.th i true } := by
  rw [← modOut_modOut]
  exact if_pos (And.intro ht h)

theorem thermal_keeps (h : ¬((60 ≤ dt ∨ 170 ≤ tj) ∧ ((vget y.o i {}).live = true ∨ (vget y.o i {}).st = .pause))) :
    y.thermal i dt tj = y.modOut i (EyOut.heated dt) := if_neg h

/-- An output re-arms once it has cooled (R397). -/
theorem rearm_at (hi : i < 8) : ∃ g, y.rearm i dt tj = y.modOut i g ∧ g (vget y.o i {}) = { vget y.o i {} with
    dt := dt, st := if (vget y.o i {}).st = .thermHot ∧ dt ≤ 30 ∧ tj ≤ 150 then .thermWait else (vget y.o i {}).st } := by
  have hst : (vget (y.modOut i (EyOut.heated dt)).o i {}).st = (vget y.o i {}).st :=
    (congrArg EyOut.st (y.modOut_same i (EyOut.heated dt) hi) :)
  by_cases h : (vget y.o i {}).st = .thermHot ∧ dt ≤ 30 ∧ tj ≤ 150
  · refine ⟨(fun o => { o with st := .thermWait }) ∘ EyOut.heated dt, ?_, ?_⟩
    · rw [← modOut_modOut]
      exact if_pos (hst.symm ▸ h)
    · rw [if_pos h]
      rfl
  · refine ⟨EyOut.heated dt, if_neg (hst.symm ▸ h), ?_⟩
    rw [if_neg h]
    rfl

end Thermal

theorem inrushEnd_over (t : Nat) (hst : (vget y.o i {}).st = .inrush) (hin : (vget y.o i {}).tIn = some t)
    (h : t + msNs (vget y.o i {}).lim.inrushT.toNat ≤ now) :
    y.inrushEnd now i = y.modOut i (fun o => { o with st := .on, tOn := now }) := by
  simp only [inrushEnd, hst, hin]
  exact if_pos h

theorem inrushEnd_keeps (h : (vget y.o i {}).st ≠ .inrush ∨ (vget y.o i {}).tIn = none
    ∨ ∃ t, (vget y.o i {}).tIn = some t ∧ now < t + msNs (vget y.o i {}).lim.inrushT.toNat) : y.inrushEnd now i = y := by
  unfold inrushEnd
  dsimp only
  split
  · next t hst hin =>
    obtain hne | hnone | ⟨t', hsome, hlt⟩ := h
    · exact absurd hst hne
    · exact absurd (hin.symm.trans hnone) nofun
    · obtain rfl : t = t' := Option.some.inj (hin.symm.trans hsome)
      exact if_neg (Nat.not_le.2 hlt)
  · rfl

theorem pauseEnd_over (hst : (vget y.o i {}).st = .pause) (h : (vget y.o i {}).tPause + (vget y.o i {}).pause ≤ now)
    (hon : y.on i = true) : y.pauseEnd now i = y.modOut i (fun o =>
      { o with st := .inrush, tIn := if y.pulses i then some now else none, tCond := now }) := if_pos ⟨hst, h, hon⟩

theorem pauseEnd_keeps (h : (vget y.o i {}).st ≠ .pause ∨ now < (vget y.o i {}).tPause + (vget y.o i {}).pause
    ∨ y.on i = false) : y.pauseEnd now i = y := by
  refine if_neg fun ⟨hst, ht, hon⟩ => ?_
  obtain h | h | h := h
  · exact h hst
  · exact absurd ht (Nat.not_le.2 h)
  · exact Bool.false_ne_true (h.symm.trans hon)

theorem fcntClear_due (hst : (vget y.o i {}).st = .on) (h : (vget y.o i {}).tOn + 1000000000 ≤ now) :
    y.fcntClear now i = y.modOut i (fun o => { o with fcnt := 0 }) := if_pos ⟨hst, h⟩

theorem fcntClear_keeps (h : (vget y.o i {}).st ≠ .on ∨ now < (vget y.o i {}).tOn + 1000000000) : y.fcntClear now i = y :=
  if_neg fun ⟨hst, ht⟩ => h.elim (fun hne => hne hst) (fun hlt => absurd ht (Nat.not_le.2 hlt))

/-! ### Open load and undervoltage of an output (R401 to R403) -/

section OpenLoad

variable (mv ma ms : Nat)

theorem openLoad_off (hms : max 1 (vget y.o i {}).ol.olT.toNat ≤ ms) (hst : (vget y.o i {}).st = .off) :
    y.openLoad now i mv ma ms = { y with flags := { y.flags with
      shortVsw := msetb y.flags.shortVsw i (decide (y.vsw ≤ mv + 1000))
      olOff := msetb y.flags.olOff i ((vget y.o i {}).ol.offEn && decide ((vget y.o i {}).ol.offVth.toNat * 100 ≤ mv)
        && !decide (y.vsw ≤ mv + 1000)) } } := by
  simp only [openLoad, if_neg (Nat.not_lt.2 hms), hst]

theorem openLoad_on (hms : max 1 (vget y.o i {}).ol.olT.toNat ≤ ms) (hst : (vget y.o i {}).st = .on)
    (hen : (vget y.o i {}).ol.onEn = true) (ht : (vget y.o i {}).tCond + 1000000 ≤ now) (hp : y.longPulse i = true) :
    y.openLoad now i mv ma ms = { y with flags := { y.flags with
      olOn := msetb y.flags.olOn i
        (decide (ma < (vget y.o i {}).ol.olIon.toNat * (if (vget y.o i {}).ol.fine then 1 else 10))) } } := by
  simp only [openLoad, if_neg (Nat.not_lt.2 hms), hst]
  exact if_pos ⟨hen, ht, hp⟩

theorem openLoad_keeps (h : ms < max 1 (vget y.o i {}).ol.olT.toNat
    ∨ ((vget y.o i {}).st ≠ .off ∧ (vget y.o i {}).st ≠ .on)
    ∨ ((vget y.o i {}).st = .on ∧ ((vget y.o i {}).ol.onEn = false ∨ y.longPulse i = false
      ∨ now < (vget y.o i {}).tCond + 1000000))) : y.openLoad now i mv ma ms = y := by
  unfold openLoad
  dsimp only
  split
  · rfl
  · next hms =>
    obtain h := h.resolve_left hms
    split
    · next hst =>
      obtain ⟨hne, -⟩ | ⟨hon, -⟩ := h
      · exact absurd hst hne
      · exact absurd (hst.symm.trans hon) nofun
    · next hst =>
      obtain ⟨-, hne⟩ | ⟨-, hno⟩ := h
      · exact absurd hst hne
      · refine if_neg fun ⟨hen, ht, hp⟩ => ?_
        obtain hno | hno | hno := hno
        · exact Bool.false_ne_true (hno.symm.trans hen)
        · exact Bool.false_ne_true (hno.symm.trans hp)
        · exact absurd ht (Nat.not_le.2 hno)
    · rfl

end OpenLoad

section Undervoltage

variable (mv us : Nat) (limiting : Bool)

theorem outputUv_low (hlive : (vget y.o i {}).live = true) (hlim : limiting = false) (hdip : y.dip = false)
    (hmv : mv < y.r.supply.ouvV.toNat * 100) (hus : 500 ≤ us) :
    y.outputUv i mv us limiting = { y with fault.ouv := msetb y.fault.ouv i true, report := true } :=
  if_pos ⟨hlive, congrArg not hlim, congrArg not hdip, hmv, hus⟩

theorem outputUv_keeps (h : (vget y.o i {}).live = false ∨ limiting = true ∨ y.dip = true
    ∨ y.r.supply.ouvV.toNat * 100 ≤ mv ∨ us < 500) : y.outputUv i mv us limiting = y := by
  refine if_neg fun ⟨hlive, hlim, hdip, hmv, hus⟩ => ?_
  obtain h | rfl | h | h | h := h
  · exact Bool.false_ne_true (h.symm.trans hlive)
  · exact Bool.false_ne_true hlim
  · exact Bool.false_ne_true ((congrArg not h).symm.trans hdip)
  · exact absurd hmv (Nat.not_lt.2 h)
  · exact absurd hus (Nat.not_le.2 h)

end Undervoltage

end Ey

/-- k is c after an over-current trip of output i (R395, R396, R399). -/
def Chan.OcTripped (c : Chan) (now i : Nat) (k : Chan) : Prop :=
  let o := vget c.ey.o i {}
  (vget k.ey.o i {}).fcnt = min 15 (o.fcnt + 1)
    ∧ (vget k.ey.o i {}).st = (if o.fcnt + 1 ≤ max 1 o.retry.n.toNat then .pause else .latched)
    ∧ (vget k.ey.o i {}).tPause = now
    ∧ (vget k.ey.o i {}).pause = min (max 1 o.retry.pause0.toNat * 10 * 1000000 * 2 ^ (min 15 (o.fcnt + 1) - 1)) 5000000000
    ∧ mbit k.ey.fault.oc i = true ∧ k.ey.report = true ∧ c.OutOnly i k

/-- The bit of a mask that was set to a value. -/
theorem mbit_msetb_same {N : Nat} (m : BitVec N) (i : Nat) (b : Bool) (hi : i < N) : mbit (msetb m i b) i = b :=
  (mbit_msetb m i i b).trans (if_pos ⟨rfl, hi⟩)

/-- A command that trips an output that conducts. -/
theorem State.becomes_ocTripped (s : State) (n i : Nat) (f : Nat → Ey → Ey) (hn : n < 4) (hi : i < 8)
    (hlive : (vget (s.ch n).ey.o i {}).live = true) (hf : f s.now (s.ch n).ey = (s.ch n).ey.ocTrip s.now i) :
    Becomes (s.onOut n i f).done s n ((s.ch n).OcTripped s.now i) := by
  have ho := Ey.modOut_same (s.ch n).ey i ((vget (s.ch n).ey.o i {}).tripped s.now) hi
  exact s.becomes_onOut n i f hn hi (hf.trans (Ey.ocTrip_live _ _ i hlive))
    ⟨congrArg EyOut.fcnt ho, congrArg EyOut.st ho, congrArg EyOut.tPause ho, congrArg EyOut.pause ho,
      mbit_msetb_same _ i true hi, rfl, .intro _ i _ rfl rfl⟩

/-- Settles O24: each command by what it makes of the output where its condition holds, and elsewhere by the lemma that it
changes nothing. -/
theorem eyeletOutputs : Obligations.EyeletOutputs := by
  unfold Obligations.EyeletOutputs
  intro s n i hn hi c y o at_ rest same trips
  refine ⟨fun us => ⟨fun hl hus => ?_, fun h => ?_⟩, fun ma => ⟨fun hl hma => ?_, fun h => ?_⟩,
    fun dt tj => ⟨?thermal, ?rearm⟩, fun t hst hin ht => ?_, fun h => ?_, fun hst ht hon => ?_, fun h => ?_, fun hst ht => ?_,
    fun h => ?_, fun mv ma ms => ⟨fun hms hst => ?off, fun hms hst hen ht hp => ?on, fun h => ?_⟩,
    fun mv us lim => ⟨fun hl hlim hdip hmv hus => ?uv, fun h => ?_⟩⟩
  · exact s.becomes_ocTripped n i _ hn hi hl (y.overcurrent_held s.now i us hus)
  · exact s.keeps_onOut n i _ hn hi (y.overcurrent_keeps s.now i us h)
  · exact s.becomes_ocTripped n i _ hn hi hl (y.shortCircuit_exceeds s.now i ma hma)
  · exact s.keeps_onOut n i _ hn hi (y.shortCircuit_keeps s.now i ma h)
  case thermal =>
    by_cases h : (60 ≤ dt ∨ 170 ≤ tj) ∧ (o.live = true ∨ o.st = .pause)
    · have ho := y.modOut_same i (EyOut.overheated ∘ EyOut.heated dt) hi
      refine s.becomes_onOut n i _ hn hi (y.thermal_hot i dt tj h.1 h.2)
        ⟨congrArg EyOut.dt ho, Chan.OutOnly.intro c i _ rfl rfl,
          fun _ _ => ⟨congrArg EyOut.st ho, congrArg EyOut.fcnt ho, mbit_msetb_same _ i true hi, rfl⟩, ?_⟩
      rintro (hcold | ⟨hdead, hst⟩)
      · exact absurd h.1 (by omega)
      · exact absurd h.2 (not_or.2 ⟨fun hl => Bool.false_ne_true (hdead.symm.trans hl), hst⟩)
    · have ho := y.modOut_same i (EyOut.heated dt) hi
      exact s.becomes_onOut n i _ hn hi (y.thermal_keeps i dt tj h)
        ⟨congrArg EyOut.dt ho, Chan.OutOnly.intro c i _ rfl rfl, fun hhot hcond => absurd ⟨hhot, hcond⟩ h,
          fun _ => ⟨(congrArg EyOut.st ho :), rfl⟩⟩
  case rearm =>
    obtain ⟨g, hf, hg⟩ := y.rearm_at i dt tj hi
    exact s.becomes_modOut n i _ hn hi hf hg
  · exact s.becomes_modOut n i _ hn hi (y.inrushEnd_over s.now i t hst hin ht) rfl
  · exact s.keeps_onOut n i _ hn hi (y.inrushEnd_keeps s.now i h)
  · exact s.becomes_modOut n i _ hn hi (y.pauseEnd_over s.now i hst ht hon) rfl
  · exact s.keeps_onOut n i _ hn hi (y.pauseEnd_keeps s.now i h)
  · exact s.becomes_modOut n i _ hn hi (y.fcntClear_due s.now i hst ht) rfl
  · exact s.keeps_onOut n i _ hn hi (y.fcntClear_keeps s.now i h)
  case off =>
    exact s.becomes_onOut n i _ hn hi (y.openLoad_off s.now i mv ma ms hms hst)
      ⟨mbit_msetb_same _ i _ hi, mbit_msetb_same _ i _ hi, rfl, rfl⟩
  case on =>
    exact s.becomes_onOut n i _ hn hi (y.openLoad_on s.now i mv ma ms hms hst hen ht hp) ⟨mbit_msetb_same _ i _ hi, rfl⟩
  · exact s.keeps_onOut n i _ hn hi (y.openLoad_keeps s.now i mv ma ms h)
  case uv =>
    exact s.becomes_onOut n i _ hn hi (y.outputUv_low i mv us lim hl hlim hdip hmv hus) rfl
  · exact s.keeps_onOut n i _ hn hi (y.outputUv_keeps i mv us lim h)

end Sys2Proof.Machine

namespace Sys2Proof.Machine

/-! ### An output follows its command (R394, R398) -/

/-- The state in which an output's command, on or off, leaves it. -/
def EyState.follow (st : EyState) (on : Bool) : EyState :=
  match st with
  | .off | .inrush => if on then .inrush else .off
  | .on => if on then .on else .off
  | .pause => if on then .pause else .off
  | x => x

/-- A state that its command neither enters nor leaves. -/
theorem EyState.follow_rest {st : EyState} {on : Bool} (hoff : st = .off → on = true → False)
    (hin : st = .inrush → on = false → False) (hon : st = .on → on = false → False)
    (hpause : st = .pause → on = false → False) : st.follow on = st := by
  cases st with
  | off => exact if_neg (hoff rfl)
  | inrush => exact if_pos (Bool.eq_true_of_not_eq_false (hin rfl))
  | on => exact if_pos (Bool.eq_true_of_not_eq_false (hon rfl))
  | pause => exact if_pos (Bool.eq_true_of_not_eq_false (hpause rfl))
  | latched => rfl
  | thermHot => rfl
  | thermWait => rfl

/-- q is output o with its command in a mode, which is on or off. -/
def EyOut.Follows (o q : EyOut) (mode : Nat) (on : Bool) : Prop :=
  q.mode = mode ∧ q.st = o.st.follow on ∧ q.fcnt = o.fcnt

namespace Ey

/-- Die z is y but for its output i, which P relates to what it was and to its command there. -/
structure Steps (P : EyOut → Bool → EyOut → Prop) (i : Nat) (y z : Ey) : Prop where
  out : P (vget y.o i {}) (y.on i) (vget z.o i {})
  others : ∀ j, j ≠ i → vget z.o j {} = vget y.o j {}
  frame : z = { y with o := z.o }

variable {P : EyOut → Bool → EyOut → Prop} {i : Nat} {y : Ey}

theorem Steps.modOut {g : EyOut → EyOut} (hi : i < 8) (h : P (vget y.o i {}) (y.on i) (g (vget y.o i {}))) :
    y.Steps P i (y.modOut i g) where
  out := (y.modOut_same i g hi).symm ▸ h
  others j := y.modOut_other i j g
  frame := rfl

theorem Steps.refl (h : P (vget y.o i {}) (y.on i) (vget y.o i {})) : y.Steps P i y := ⟨h, fun _ _ => rfl, rfl⟩

/-- The command of an output is its own. -/
theorem on_congr (y : Ey) {v : Vector EyOut 8} (h : vget v i {} = vget y.o i {}) : ({ y with o := v } : Ey).on i = y.on i := by
  unfold on
  rw [h]

/-- A pass over the outputs takes each from what it was before the pass. -/
theorem foldl_steps {f : Ey → Nat → Ey} {P : Nat → EyOut → Bool → EyOut → Prop}
    (hf : ∀ (y : Ey) (i : Nat), i < 8 → y.Steps (P i) i (f y i)) (y : Ey) (c : Nat) (hc : c ≤ 8) :
    ∃ v, (List.range c).foldl f y = { y with o := v } ∧ (∀ i, i < c → P i (vget y.o i {}) (y.on i) (vget v i {}))
      ∧ ∀ i, c ≤ i → vget v i {} = vget y.o i {} := by
  induction c with
  | zero => exact ⟨y.o, rfl, fun i hi => absurd hi (Nat.not_lt_zero i), fun _ _ => rfl⟩
  | succ c ih =>
    obtain ⟨v, hv, hdone, hleft⟩ := ih (Nat.le_of_succ_le hc)
    obtain ⟨hout, hothers, hframe⟩ := hf { y with o := v } c hc
    refine ⟨_, ?_, fun i hi => ?_, fun i hi => (hothers i (by omega)).trans (hleft i (Nat.le_of_succ_le hi))⟩
    · rw [List.range_succ, List.foldl_append, hv]
      exact hframe
    · obtain hlt | rfl : i < c ∨ i = c := by omega
      · rw [hothers i (Nat.ne_of_lt hlt)]
        exact hdone i hlt
      · rw [y.on_congr (hleft i (Nat.le_refl i))] at hout
        exact hleft i (Nat.le_refl i) ▸ hout

/-- One output follows its command. -/
theorem follow_steps (y : Ey) (now i : Nat) (hi : i < 8) :
    y.Steps (fun o on q => o.Follows q o.mode on) i (y.follow now i) := by
  unfold follow
  dsimp only
  split
  · next hst hon => exact .modOut hi ⟨rfl, by rw [hst, hon]; rfl, rfl⟩
  · next hst hon => exact .modOut hi ⟨rfl, by rw [hst, hon]; rfl, rfl⟩
  · next hst hon => exact .modOut hi ⟨rfl, by rw [hst, hon]; rfl, rfl⟩
  · next hst hon => exact .modOut hi ⟨rfl, by rw [hst, hon]; rfl, rfl⟩
  · next hst hon =>
    split
    · exact .modOut hi ⟨rfl, hst.trans (by rw [hst, hon]; rfl), rfl⟩
    · exact .refl ⟨rfl, hst.trans (by rw [hst, hon]; rfl), rfl⟩
  · next hoff hin hon hpause _ =>
    exact .refl ⟨rfl, (EyState.follow_rest hoff hin hon hpause).symm, rfl⟩

/-- The command of output i in a mode: on, while VSWn suffices and Shank does not mask it, whose mask is not received in
FAILSAFE (R394, R411, R413). -/
def commands (y : Ey) (mode : Nat → Nat) (i : Nat) : Bool :=
  decide (mode i ≠ 0) && !y.uv && (y.failsafe || !(mbit y.mask i))

/-- The outputs of a die that has taken new modes follow them. -/
theorem followAll_at (y : Ey) (now : Nat) (mode : Nat → Nat) {v : Vector EyOut 8}
    (hv : ∀ i, i < 8 → vget v i {} = { vget y.o i {} with mode := mode i }) :
    ∃ w, ({ y with o := v } : Ey).followAll now = { y with o := w }
      ∧ ∀ i, i < 8 → (vget y.o i {}).Follows (vget w i {}) (mode i) (y.commands mode i) := by
  obtain ⟨w, hw, hdone, -⟩ := foldl_steps (fun y i hi => y.follow_steps now i hi) { y with o := v } 8 (Nat.le_refl 8)
  refine ⟨w, hw, fun i hi => ?_⟩
  have hon : ({ y with o := v } : Ey).on i = y.commands mode i := by
    unfold on commands
    rw [hv i hi]
  have h := hdone i hi
  rw [hon] at h
  dsimp only at h
  rwa [hv i hi] at h

end Ey
end Sys2Proof.Machine

namespace Sys2Proof.Machine

/-! ### Command frames (R393, R394, R413) -/

namespace Chan

variable (k : Chan) (e : Env)

/-- In FAILSAFE a command frame changes nothing of the die. -/
theorem eyFrame_failsafe (h : k.ey.failsafe = true) : ∃ m, k.eyFrame e = { k with ey.r.cmd := m } := ⟨_, if_pos h⟩

/-- A command frame brings the modes of the owners and Shank's mask, which the outputs follow. -/
theorem eyFrame_follows (h : k.ey.failsafe = false) : ∃ m v, k.eyFrame e =
      { k with ey := { k.ey with r.cmd := m, mask := k.shk.r.status.offMask, o := v } }
    ∧ ∀ i, i < 8 → (vget k.ey.o i {}).Follows (vget v i {}) (k.eyMode i)
      (decide (k.eyMode i ≠ 0) && !k.ey.uv && (false || !(mbit k.shk.r.status.offMask i))) := by
  let cmd := (List.range 8).foldl (fun (m : BitVec 16) i => m ||| (BitVec.ofNat 16 (k.eyMode i) <<< (2 * i))) 0
  obtain ⟨v, hv, hfollows⟩ := Ey.followAll_at { k.ey with r.cmd := cmd, mask := k.shk.r.status.offMask } e.now k.eyMode
    (fun i hi => vget_vMapI k.ey.o (fun i (o : EyOut) => { o with mode := k.eyMode i }) i hi {} {})
  simp only [Ey.commands, h] at hfollows
  exact ⟨cmd, v, (if_neg (by simp [h])).trans (congrArg (fun y : Ey => { k with ey := y }) hv), hfollows⟩

end Chan

namespace Ey

variable (y : Ey) (now : Nat)

/-! ### VSWn (R405, R411) -/

/-- A fall of VSWn by 2 V within 50 µs, or below OUV_V, begins a dip. -/
theorem supplyDip_at (v0 v1 us : Nat) : y.supplyDip v0 v1 us =
    if !y.dip && ((decide (v1 + 2000 ≤ v0) && decide (us ≤ 50)) || decide (v1 < y.r.supply.ouvV.toNat * 100)) then
      { y with vsw := v1, dip := true, dipRef := v0, r.supply.dipCnt := satInc y.r.supply.dipCnt }
    else { y with vsw := v1 } := by
  simp only [supplyDip, Bool.and_eq_true, Bool.or_eq_true, decide_eq_true_eq]

/-- It ends once VSWn has stood above its end for 2 ms. -/
theorem supplyDipEnd_at (mv us : Nat) : y.supplyDipEnd mv us = { y with
    vsw := mv
    dip := y.dip && !(decide (max (y.dipRef - 1000) (y.r.supply.ouvV.toNat * 100) < mv) && decide (2000 ≤ us)) } := by
  unfold supplyDipEnd
  dsimp only
  cases y.dip
  · exact if_neg fun h => Bool.false_ne_true h.1
  · by_cases h : max (y.dipRef - 1000) (y.r.supply.ouvV.toNat * 100) < mv ∧ 2000 ≤ us
    · rw [if_pos ⟨rfl, h⟩, ← Bool.decide_and, decide_eq_true h]
      rfl
    · rw [if_neg fun hc => h hc.2, ← Bool.decide_and, decide_eq_false h]
      rfl

/-- Below 5.0 V no output's command is on. -/
theorem vswUnder_low (mv : Nat) (h : mv < 5000) : ∃ v, y.vswUnder now mv = { y with vsw := mv, uv := true, o := v }
    ∧ ∀ i, i < 8 → (vget y.o i {}).Follows (vget v i {}) (vget y.o i {}).mode
      (commands { y with uv := true } (fun i => (vget y.o i {}).mode) i) := by
  obtain ⟨v, hv, hfollows⟩ := followAll_at { y with vsw := mv, uv := true } now (fun i => (vget y.o i {}).mode) (v := y.o)
    (fun i _ => rfl)
  exact ⟨v, (if_pos h).trans hv, hfollows⟩

/-- Above 5.5 V the commands are on again. -/
theorem vswRestore_high (mv : Nat) (h : 5500 < mv) : ∃ v, y.vswRestore now mv = { y with vsw := mv, uv := false, o := v }
    ∧ ∀ i, i < 8 → (vget y.o i {}).Follows (vget v i {}) (vget y.o i {}).mode
      (commands { y with uv := false } (fun i => (vget y.o i {}).mode) i) := by
  obtain ⟨v, hv, hfollows⟩ := followAll_at { y with vsw := mv, uv := false } now (fun i => (vget y.o i {}).mode) (v := y.o)
    (fun i _ => rfl)
  exact ⟨v, (if_pos h).trans hv, hfollows⟩

/-! ### The watchdog and the fail-safe states (R412, R413) -/

/-- Some of the outputs commanded into a mode. -/
theorem vget_newModes (p : Nat → Prop) [DecidablePred p] (m i : Nat) (hi : i < 8) :
    vget (vMapI y.o (fun i (o : EyOut) => if p i then { o with mode := m } else o)) i {} =
      { vget y.o i {} with mode := if p i then m else (vget y.o i {}).mode } := by
  rw [vget_vMapI _ (fun i (o : EyOut) => if p i then { o with mode := m } else o) i hi {} {}]
  split <;> rfl

/-- The expiry of the watchdog is due. -/
def wdDue : Bool := y.armed && !y.failsafe && decide (y.tFeed + msNs (max 1 y.r.wdt.wdtT.toNat) ≤ now)

theorem wdDue_iff : y.wdDue now = true ↔ y.armed = true ∧ (!y.failsafe) = true
    ∧ y.tFeed + msNs (max 1 y.r.wdt.wdtT.toNat) ≤ now := by
  simp only [wdDue, Bool.and_eq_true, decide_eq_true_eq, and_assoc]

theorem wdExpire_due (h : y.wdDue now = true) : ∃ v, y.wdExpire now =
      { y with failsafe := true, tFs := now, fsDone := false, fed := false, wdExp := true, report := true, o := v }
    ∧ ∀ i, i < 8 → (vget y.o i {}).Follows (vget v i {}) (if y.stored i = 0 then 0 else (vget y.o i {}).mode)
      (commands { y with failsafe := true } (fun i => if y.stored i = 0 then 0 else (vget y.o i {}).mode) i) := by
  obtain ⟨v, hv, hfollows⟩ := followAll_at
    { y with failsafe := true, tFs := now, fsDone := false, fed := false, wdExp := true, report := true } now
    (fun i => if y.stored i = 0 then 0 else (vget y.o i {}).mode)
    (v := vMapI y.o (fun i (o : EyOut) => if y.stored i = 0 then { o with mode := 0 } else o))
    (fun i hi => y.vget_newModes _ _ i hi)
  exact ⟨v, (if_pos ((y.wdDue_iff now).1 h)).trans hv, hfollows⟩

theorem wdExpire_keeps (h : y.wdDue now = false) : y.wdExpire now = y :=
  if_neg fun hc => Bool.false_ne_true (h.symm.trans ((y.wdDue_iff now).2 hc))

/-- The delayed step of FAILSAFE is due. -/
def fsDue : Bool := y.failsafe && !y.fsDone && decide (y.tFs + msNs (10 * min 50 y.r.wdt.fsDly.toNat) ≤ now)

theorem fsDue_iff : y.fsDue now = true ↔ y.failsafe = true ∧ (!y.fsDone) = true
    ∧ y.tFs + msNs (10 * min 50 y.r.wdt.fsDly.toNat) ≤ now := by
  simp only [fsDue, Bool.and_eq_true, decide_eq_true_eq, and_assoc]

theorem fsDelay_due (h : y.fsDue now = true) : ∃ v, y.fsDelay now = { y with fsDone := true, o := v }
    ∧ ∀ i, i < 8 → (vget y.o i {}).Follows (vget v i {}) (if y.stored i = 1 then 1 else (vget y.o i {}).mode)
      (commands { y with failsafe := true } (fun i => if y.stored i = 1 then 1 else (vget y.o i {}).mode) i) := by
  have hc := (y.fsDue_iff now).1 h
  obtain ⟨v, hv, hfollows⟩ := followAll_at { y with fsDone := true } now
    (fun i => if y.stored i = 1 then 1 else (vget y.o i {}).mode)
    (v := vMapI y.o (fun i (o : EyOut) => if y.stored i = 1 then { o with mode := 1 } else o))
    (fun i hi => y.vget_newModes _ _ i hi)
  simp only [commands, hc.1] at hfollows
  exact ⟨v, (if_pos hc).trans hv, hfollows⟩

theorem fsDelay_keeps (h : y.fsDue now = false) : y.fsDelay now = y :=
  if_neg fun hc => Bool.false_ne_true (h.symm.trans ((y.fsDue_iff now).2 hc))

end Ey

/-- A feed reaches the die from a channel core that feeds it. -/
theorem State.watchdogFeed_fed (s : State) (n : Nat) (q : BitVec 4) (h : s.feeds n = true) :
    exec (.watchdogFeed n q) s = (s.onEy n (fun now y => y.feed now q)).done := congrArg State.done (if_pos h)

/-- Settles O25: each command by what it makes of the die; the outputs follow by `Ey.followAll_at`. -/
theorem eyeletDie : Obligations.EyeletDie := by
  unfold Obligations.EyeletDie
  intro s n hn c y same follows
  refine ⟨fun h => ⟨fun hf => ?frame, fun hf => ?frameFailsafe⟩, fun v0 v1 us => ?dip,
    fun mv us => s.becomes_onEy n _ hn (y.supplyDipEnd_at mv us) rfl,
    fun mv => ⟨fun h => ?under, fun h => ?_, fun h => ?restore, fun h => ?_⟩,
    fun sel => s.becomes_onEy n _ hn rfl rfl, fun q => ⟨fun h hq => ?feed, fun h hq => ?again, fun h => ?unfed⟩,
    ⟨fun h => ?expiry, fun h => ?_⟩, ⟨fun h => ?delay, fun h => ?_⟩⟩
  case frame =>
    obtain ⟨m, v, hk, hfollows⟩ := c.eyFrame_follows s.env hf
    refine s.becomes_onSole n 2 _ _ h ?_
    rw [hk]
    exact ⟨hfollows, rfl, rfl⟩
  case frameFailsafe =>
    obtain ⟨m, hk⟩ := c.eyFrame_failsafe s.env hf
    refine s.becomes_onSole n 2 _ _ h ?_
    rw [hk]
  case dip =>
    exact s.becomes_onEy n _ hn (y.supplyDip_at v0 v1 us) (apply_ite (fun y : Ey => { c with ey := y }) _ _ _)
  case under =>
    obtain ⟨v, hv, hfollows⟩ := y.vswUnder_low s.now mv h
    exact s.becomes_onEy n _ hn hv ⟨hfollows, rfl⟩
  · exact s.becomes_onEy n _ hn (if_neg (Nat.not_lt.2 h)) rfl
  case restore =>
    obtain ⟨v, hv, hfollows⟩ := y.vswRestore_high s.now mv h
    exact s.becomes_onEy n _ hn hv ⟨hfollows, rfl⟩
  · exact s.becomes_onEy n _ hn (if_neg (Nat.not_lt.2 h)) rfl
  case feed => exact (s.watchdogFeed_fed n q h).symm ▸ s.becomes_onEy n _ hn (if_neg hq) rfl
  case again => exact (s.watchdogFeed_fed n q h).symm ▸ s.keeps_onEy n _ hn (if_pos hq)
  case unfed => exact congrArg State.done (if_neg (by rw [h]; nofun))
  case expiry =>
    obtain ⟨v, hv, hfollows⟩ := y.wdExpire_due s.now h
    exact s.becomes_onEy n _ hn hv ⟨rfl, rfl, rfl, rfl, rfl, rfl, hfollows, rfl, rfl, rfl⟩
  · exact s.keeps_onEy n _ hn (y.wdExpire_keeps s.now h)
  case delay =>
    obtain ⟨v, hv, hfollows⟩ := y.fsDelay_due s.now h
    exact s.becomes_onEy n _ hn hv ⟨hfollows, rfl⟩
  · exact s.keeps_onEy n _ hn (y.fsDelay_keeps s.now h)

end Sys2Proof.Machine

namespace Sys2Proof.Machine

/-! ### Two bits per output (R393, R423, R424) -/

/-- The modes h with those of the chosen outputs among the first c taken from w. -/
def takeModes (p : Nat → Bool) (w h : BitVec 16) (c : Nat) : BitVec 16 :=
  (List.range c).foldl (fun (m : BitVec 16) i =>
    if p i then (m &&& ~~~(3#16 <<< (2 * i))) ||| (w &&& (3#16 <<< (2 * i))) else m) h

/-- The two bits of output i. -/
theorem getLsbD_modeMask (i b : Nat) (hb : b < 16) : (3#16 <<< (2 * i)).getLsbD b = decide (b / 2 = i) := by
  have h3 (k : Nat) : (3#16).getLsbD k = decide (k < 2) := by
    rcases k with _ | _ | k
    · rfl
    · rfl
    · simp [BitVec.getLsbD, Nat.testBit_succ, show ¬(k + 2 < 2) by omega]
  rw [BitVec.getLsbD_shiftLeft, h3, decide_eq_true hb, Bool.true_and, ← decide_not, ← Bool.decide_and, decide_eq_decide]
  omega

theorem takeModes_getLsbD (p : Nat → Bool) (w h : BitVec 16) (c b : Nat) (hb : b < 16) :
    (takeModes p w h c).getLsbD b = if b / 2 < c ∧ p (b / 2) = true then w.getLsbD b else h.getLsbD b := by
  induction c with
  | zero => rfl
  | succ c ih =>
    have hstep : takeModes p w h (c + 1) = if p c then
        (takeModes p w h c &&& ~~~(3#16 <<< (2 * c))) ||| (w &&& (3#16 <<< (2 * c))) else takeModes p w h c := by
      rw [takeModes, List.range_succ, List.foldl_append]
      rfl
    rw [hstep, apply_ite (BitVec.getLsbD · b), BitVec.getLsbD_or, BitVec.getLsbD_and, BitVec.getLsbD_and,
      BitVec.getLsbD_not, getLsbD_modeMask c b hb, ih]
    by_cases hc : b / 2 = c
    · subst hc
      simp [hb]
    · have hlt : b / 2 < c + 1 ↔ b / 2 < c := by omega
      simp [hb, hc, hlt]

/-- The mode of each output, taken where it was chosen. -/
theorem takeModes_field (p : Nat → Bool) (w h : BitVec 16) (i : Nat) (hi : i < 8) :
    (takeModes p w h 8).extractLsb' (2 * i) 2 = if p i then w.extractLsb' (2 * i) 2 else h.extractLsb' (2 * i) 2 := by
  refine BitVec.eq_of_getLsbD_eq fun b hb => ?_
  have hd : (2 * i + b) / 2 = i := by omega
  rw [apply_ite (BitVec.getLsbD · b)]
  simp only [BitVec.getLsbD_extractLsb', takeModes_getLsbD p w h 8 (2 * i + b) (by omega), hd, hi, true_and]
  split <;> rfl

/-- A mode of the half word is one of the word. -/
theorem mode_of_half (w : Word) (i : Nat) (hi : i < 8) :
    (w.extractLsb' 0 16).extractLsb' (2 * i) 2 = w.extractLsb' (2 * i) 2 := by
  refine BitVec.eq_of_getLsbD_eq fun b hb => ?_
  have hlt : 2 * i + b < 16 := by omega
  simp [BitVec.getLsbD_extractLsb', hlt]

/-- An output a descriptor selects. -/
theorem Desc.mbit_sel (d : Desc) (i : Nat) (hi : i < 8) : mbit ((d.pay 0).extractLsb' 0 8) i = d.bit 0 i := by
  simp [mbit, Desc.bit, hi]

/-- A descriptor selects an output of which p holds. -/
theorem Desc.any_sel (d : Desc) (p : Nat → Bool) :
    (List.range 8).any (fun i => mbit ((d.pay 0).extractLsb' 0 8) i && p i) = true
      ↔ ∃ i, i < 8 ∧ d.bit 0 i = true ∧ p i = true := by
  simp only [List.any_eq_true, List.mem_range, Bool.and_eq_true]
  exact exists_congr fun i => and_congr_right fun hi => by rw [d.mbit_sel i hi]

/-! ### The descriptors of an Eyelet die (R398, R414 to R421, R425) -/

/-- They reach the operations of their Sole. -/
theorem State.descOp_eyelet (s : State) (n : Nat) (d : Desc) (ref : DescRef) (hn : n < 4) :
    (d.opcode = 0x0501 → s.descOp n d ref = s.chAct n fun _ k => k.dEyOutput d)
      ∧ (d.opcode = 0x0502 → s.descOp n d ref = s.chAct n fun e k => k.dEyClear e d)
      ∧ (d.opcode = 0x0503 → s.descOp n d ref = s.chAct n fun _ k => k.dEyLimits d)
      ∧ (d.opcode = 0x0504 → s.descOp n d ref = s.chAct n fun _ k => k.dEyResume d)
      ∧ (d.opcode = 0x0505 → s.descOp n d ref = s.chAct n fun _ k => k.dEyFailsafe d) := by
  have h4 : n ≠ 4 := by omega
  refine ⟨fun hop => ?_, fun hop => ?_, fun hop => ?_, fun hop => ?_, fun hop => ?_⟩ <;>
    simp [State.descOp, State.dieOp, State.chOp, payMask, Desc.ledgerBits, h4, hn, hop]

/-! #### 0x0501 -/

namespace Ey

variable (y : Ey) (d : Desc) {i : Nat}

/-- A die with the modes and PWM settings of the outputs that a 0x0501 selects. -/
def commanded : Ey := { y with
  host := takeModes (mbit ((d.pay 0).extractLsb' 0 8)) ((d.pay 1).extractLsb' 0 16) y.host 8
  r.pwm := vMapI y.r.pwm (fun i (p : EyPwm) => if mbit ((d.pay 0).extractLsb' 0 8) i then
    { freq := (d.pay (2 + i)).extractLsb' 24 2, duty := (d.pay (2 + i)).extractLsb' 0 8 } else p) }

theorem commanded_field (hi : i < 8) : (y.commanded d).host.extractLsb' (2 * i) 2 =
    if d.bit 0 i then (d.pay 1).extractLsb' (2 * i) 2 else y.host.extractLsb' (2 * i) 2 := by
  rw [commanded, takeModes_field _ _ _ i hi, mode_of_half _ i hi, d.mbit_sel i hi]

theorem commanded_pwm (hi : i < 8) : vget (y.commanded d).r.pwm i ({} : EyPwm) = if d.bit 0 i then
    { freq := (d.pay (2 + i)).extractLsb' 24 2, duty := (d.pay (2 + i)).extractLsb' 0 8 } else vget y.r.pwm i {} := by
  rw [← d.mbit_sel i hi]
  exact vget_vMapI y.r.pwm _ i hi ({} : EyPwm) ({} : EyPwm)

theorem commanded_selected (hi : i < 8) (hs : d.bit 0 i = true) :
    (y.commanded d).host.extractLsb' (2 * i) 2 = (d.pay 1).extractLsb' (2 * i) 2
      ∧ vget (y.commanded d).r.pwm i {} =
        { freq := (d.pay (2 + i)).extractLsb' 24 2, duty := (d.pay (2 + i)).extractLsb' 0 8 } :=
  ⟨(y.commanded_field d hi).trans (if_pos hs), (y.commanded_pwm d hi).trans (if_pos hs)⟩

theorem commanded_other (hi : i < 8) (hs : d.bit 0 i = false) :
    (y.commanded d).host.extractLsb' (2 * i) 2 = y.host.extractLsb' (2 * i) 2
      ∧ vget (y.commanded d).r.pwm i {} = vget y.r.pwm i {} := by
  have hno : ¬(d.bit 0 i = true) := by rw [hs]; nofun
  exact ⟨(y.commanded_field d hi).trans (if_neg hno), (y.commanded_pwm d hi).trans (if_neg hno)⟩

end Ey

namespace Chan

variable {k : Chan} {d : Desc}

section Output

variable (hb : d.onlyBits [0xFF, 0xFFFF, 0x030000FF, 0x030000FF, 0x030000FF, 0x030000FF, 0x030000FF, 0x030000FF] = true)
include hb

theorem dEyOutput_unlinked (hl : k.eyLink = false) : k.dEyOutput d = (k, some 0x87) := by
  simp only [dEyOutput, hb, hl, Bool.not_true, Bool.not_false, Bool.false_eq_true, if_false, if_true]

variable (hl : k.eyLink = true)
include hl

theorem dEyOutput_owned (h : ∃ i, i < 8 ∧ d.bit 0 i = true ∧ k.eyOwner i ≠ .host) : k.dEyOutput d = (k, some 0x80) := by
  have hany := (d.any_sel fun i => decide (k.eyOwner i ≠ .host)).2 (by simpa using h)
  simp only [dEyOutput, hb, hl, hany, Bool.not_true, Bool.false_eq_true, if_false, if_true]

theorem dEyOutput_takes (h : ∀ i, i < 8 → d.bit 0 i = true → k.eyOwner i = .host) : k.dEyOutput d =
    ({ k with ey := k.ey.commanded d }, some 0) := by
  have hany : ¬ _ := mt (d.any_sel fun i => decide (k.eyOwner i ≠ .host)).1
    fun ⟨i, hi, hs, ho⟩ => of_decide_eq_true ho (h i hi hs)
  simp only [dEyOutput, hb, hl, hany, Bool.not_true, Bool.false_eq_true, if_false]
  rfl

end Output
end Chan

/-! #### 0x0502 -/

/-- An output that enters OFF: the settings of its registers come into force (R425). -/
def EyOut.switchedOff (r : EyRegs) (i : Nat) (o : EyOut) : EyOut :=
  { o with st := .off, tIn := none, ma := 0, lim := vget r.lim i {}, retry := vget r.retry i {}, ol := vget r.olcfg i {} }

/-- q is output o after a clear: a latch goes, and a thermal one only while trips are left (R398). -/
def EyOut.Cleared (o q : EyOut) (on : Bool) : Prop :=
  let next : EyState := if on then .inrush else .off
  (o.st = .latched → q.fcnt = 0 ∧ q.st = next)
    ∧ (o.st = .thermWait → q.fcnt = o.fcnt ∧ q.st = (if o.fcnt ≤ max 1 o.retry.n.toNat then next else .latched))
    ∧ (o.st ≠ .latched ∧ o.st ≠ .thermWait → q = o)

namespace Ey

variable (y : Ey) (now i : Nat)

/-- An output put to OFF, which then follows its command. -/
theorem modOut_follow (g : EyOut → EyOut) (hi : i < 8) (hst : (g (vget y.o i {})).st = .off)
    (hmode : (g (vget y.o i {})).mode = (vget y.o i {}).mode) :
    y.Steps (fun o on q => q.fcnt = (g o).fcnt ∧ q.st = if on then .inrush else .off) i ((y.modOut i g).follow now i) := by
  have ho := y.modOut_same i g hi
  have hon : (y.modOut i g).on i = y.on i := by
    rw [on, ho, hmode]
    rfl
  obtain ⟨⟨-, hstate, hfcnt⟩, hothers, hframe⟩ := (y.modOut i g).follow_steps now i hi
  rw [ho, hon, hst] at hstate
  exact ⟨⟨hfcnt.trans (congrArg EyOut.fcnt ho), hstate⟩, fun j hj => (hothers j hj).trans (y.modOut_other i j g hj),
    hframe⟩

theorem clear_latched (h : (vget y.o i {}).st = .latched) : y.clear now i =
    (y.modOut i ((fun o => { o with fcnt := 0 }) ∘ EyOut.switchedOff y.r i)).follow now i := by
  rw [← modOut_modOut]
  simp only [clear, h]
  rfl

theorem clear_cooled (h : (vget y.o i {}).st = .thermWait) (hn : (vget y.o i {}).fcnt ≤ (vget y.o i {}).n) :
    y.clear now i = (y.modOut i (EyOut.switchedOff y.r i)).follow now i := by
  simp only [clear, h, if_pos hn]
  rfl

theorem clear_exhausted (h : (vget y.o i {}).st = .thermWait) (hn : ¬(vget y.o i {}).fcnt ≤ (vget y.o i {}).n) :
    y.clear now i = y.modOut i (fun o => { o with st := .latched }) := by
  simp only [clear, h, if_neg hn]
  rfl

theorem clear_other (h : (vget y.o i {}).st ≠ .latched ∧ (vget y.o i {}).st ≠ .thermWait) : y.clear now i = y := by
  unfold clear
  dsimp only
  split
  · next hst => exact absurd hst h.1
  · next hst => exact absurd hst h.2
  · rfl

/-- A clear of one output. -/
theorem clear_steps (hi : i < 8) : y.Steps (fun o on q => o.Cleared q on) i (y.clear now i) := by
  by_cases hlatched : (vget y.o i {}).st = .latched
  · rw [y.clear_latched now i hlatched]
    obtain ⟨hout, hothers, hframe⟩ :=
      y.modOut_follow now i ((fun o => { o with fcnt := 0 }) ∘ EyOut.switchedOff y.r i) hi rfl rfl
    exact ⟨⟨fun _ => hout, fun h => absurd (hlatched.symm.trans h) nofun, fun h => absurd hlatched h.1⟩, hothers, hframe⟩
  by_cases hwait : (vget y.o i {}).st = .thermWait
  · have hret {q : EyOut} {on : Bool} (h : q.fcnt = (vget y.o i {}).fcnt ∧ q.st =
        if (vget y.o i {}).fcnt ≤ (vget y.o i {}).n then (if on then .inrush else .off) else .latched) :
        (vget y.o i {}).Cleared q on :=
      ⟨fun h => absurd h hlatched, fun _ => h, fun h => absurd hwait h.2⟩
    by_cases hn : (vget y.o i {}).fcnt ≤ (vget y.o i {}).n
    · rw [y.clear_cooled now i hwait hn]
      obtain ⟨⟨hfcnt, hst⟩, hothers, hframe⟩ := y.modOut_follow now i (EyOut.switchedOff y.r i) hi rfl rfl
      exact ⟨hret ⟨hfcnt, by rw [if_pos hn]; exact hst⟩, hothers, hframe⟩
    · rw [y.clear_exhausted now i hwait hn]
      exact .modOut hi (hret ⟨rfl, by rw [if_neg hn]⟩)
  · rw [y.clear_other now i ⟨hlatched, hwait⟩]
    exact .refl ⟨fun h => absurd h hlatched, fun h => absurd h hwait, fun _ => rfl⟩

/-- The outputs of a mask cleared. -/
theorem clearMask_at (m : BitVec 8) : ∃ v, y.clearMask now m = { y with o := v } ∧ ∀ i, i < 8 →
    (mbit m i = true → (vget y.o i {}).Cleared (vget v i {}) (y.on i))
      ∧ (mbit m i = false → vget v i {} = vget y.o i {}) := by
  have hstep (y : Ey) (i : Nat) (hi : i < 8) :
      y.Steps (fun o on q => (mbit m i = true → o.Cleared q on) ∧ (mbit m i = false → q = o)) i
        (if mbit m i then y.clear now i else y) := by
    cases mbit m i with
    | false => exact .refl ⟨fun h => absurd h Bool.false_ne_true, fun _ => rfl⟩
    | true =>
      obtain ⟨hout, hothers, hframe⟩ := y.clear_steps now i hi
      exact ⟨⟨fun _ => hout, fun h => absurd h.symm Bool.false_ne_true⟩, hothers, hframe⟩
  obtain ⟨v, hv, hdone, -⟩ := foldl_steps hstep y 8 (Nat.le_refl 8)
  exact ⟨v, hv, hdone⟩

end Ey

namespace Chan

variable {k : Chan} (e : Env) {d : Desc}

section Clear

variable (hb : d.onlyBits [0xFF] = true)
include hb

theorem dEyClear_unlinked (hl : k.eyLink = false) : k.dEyClear e d = (k, some 0x87) := by
  simp only [dEyClear, hb, hl, Bool.not_true, Bool.not_false, Bool.false_eq_true, if_false, if_true]

variable (hl : k.eyLink = true)
include hl

theorem dEyClear_hot (h : ∃ i, i < 8 ∧ d.bit 0 i = true ∧ (vget k.ey.o i {}).st = .thermHot) :
    k.dEyClear e d = (k, some 0x81) := by
  have hany := (d.any_sel fun i => decide ((vget k.ey.o i {}).st = .thermHot)).2 (by simpa using h)
  simp only [dEyClear, hb, hl, hany, Bool.not_true, Bool.false_eq_true, if_false, if_true]

theorem dEyClear_clears (h : ∀ i, i < 8 → d.bit 0 i = true → (vget k.ey.o i {}).st ≠ .thermHot) :
    k.dEyClear e d = ({ k with ey := k.ey.clearMask e.now ((d.pay 0).extractLsb' 0 8) }, some 0) := by
  have hany : ¬ _ := mt (d.any_sel fun i => decide ((vget k.ey.o i {}).st = .thermHot)).1
    fun ⟨i, hi, hs, ho⟩ => h i hi hs (of_decide_eq_true ho)
  simp only [dEyClear, hb, hl, hany, Bool.not_true, Bool.false_eq_true, if_false]

end Clear

/-! #### 0x0503 -/

section Limits

variable (hb : d.onlyBits [7, 0x01FF7F7F, 0xF1FF03FF, 0xE0FFFFFF] = true)
include hb

theorem dEyLimits_unlinked (hl : k.eyLink = false) : k.dEyLimits d = (k, some 0x87) := by
  simp only [dEyLimits, hb, hl, Bool.not_true, Bool.not_false, Bool.false_eq_true, if_false, if_true]

variable (hl : k.eyLink = true)
include hl

theorem dEyLimits_range (h : limitsOk (d.pay 1) (d.pay 2) (d.pay 3) = false) : k.dEyLimits d = (k, some 0x82) := by
  simp only [dEyLimits, hb, hl, h, Bool.not_true, Bool.not_false, Bool.false_eq_true, if_false, if_true]

theorem dEyLimits_takes (h : limitsOk (d.pay 1) (d.pay 2) (d.pay 3) = true) : k.dEyLimits d =
    ({ k with ey.r := { k.ey.r with
        lim := vMod k.ey.r.lim (d.fld 0 0 3) (fun (x : EyLim) => x.write (d.pay 1))
        retry := vMod k.ey.r.retry (d.fld 0 0 3) (fun (x : EyRetry) => x.write (d.pay 2))
        olcfg := vMod k.ey.r.olcfg (d.fld 0 0 3) (fun (x : EyOlcfg) => x.write (d.pay 3)) } }, some 0) := by
  simp only [dEyLimits, hb, hl, h, Bool.not_true, Bool.false_eq_true, if_false]

end Limits

/-! #### 0x0504 -/

section Resume

variable (hb : d.onlyBits [] = true)
include hb

theorem dEyResume_unlinked (hl : k.eyLink = false) : k.dEyResume d = (k, some 0x87) := by
  simp only [dEyResume, hb, hl, Bool.not_true, Bool.not_false, Bool.false_eq_true, if_false, if_true]

variable (hl : k.eyLink = true)
include hl

theorem dEyResume_idle (hf : k.ey.failsafe = false) : k.dEyResume d = (k, some 0x83) := by
  simp only [dEyResume, hb, hl, hf, Bool.not_true, Bool.not_false, Bool.false_eq_true, if_false, if_true]

theorem dEyResume_unfed (hf : k.ey.failsafe = true) (hfed : k.ey.fed = false) : k.dEyResume d = (k, some 0x84) := by
  simp only [dEyResume, hb, hl, hf, hfed, Bool.not_true, Bool.not_false, Bool.false_eq_true, if_false, if_true]

theorem dEyResume_resumes (hf : k.ey.failsafe = true) (hfed : k.ey.fed = true) :
    k.dEyResume d = ({ k with ey := { k.ey with failsafe := false, fsDone := false } }, some 0) := by
  simp only [dEyResume, hb, hl, hf, hfed, Bool.not_true, Bool.false_eq_true, if_false]

end Resume

/-! #### 0x0505 -/

end Chan

/-- The state a 0x0505 stores for output i is OFF; 3 is taken as OFF (R424). -/
def Desc.StoresOff (d : Desc) (i : BitVec 3) : Prop :=
  ((d.pay 0).extractLsb' (2 * i.toNat) 2).toNat = 0 ∨ ((d.pay 0).extractLsb' (2 * i.toNat) 2).toNat = 3

/-- The same as the operation judges it, on the half word. -/
def Desc.offStored (d : Desc) (i : Nat) : Bool :=
  decide ((((d.pay 0).extractLsb' 0 16).extractLsb' (2 * i) 2).toNat = 0
    ∨ (((d.pay 0).extractLsb' 0 16).extractLsb' (2 * i) 2).toNat = 3)

theorem Desc.offStored_iff (d : Desc) (i : BitVec 3) : d.offStored i.toNat = true ↔ d.StoresOff i := by
  rw [offStored, mode_of_half _ _ i.isLt, decide_eq_true_iff]
  rfl

/-- The times a 0x0505 gives are in range (R416). -/
def Desc.SafeTimes (d : Desc) : Prop := d.fld 1 8 7 ≤ 50 ∧ 1 ≤ d.fld 1 0 7 ∧ d.fld 1 0 7 ≤ 100

namespace Chan

variable {k : Chan} {d : Desc} (hb : d.onlyBits [0xFFFF, 0x7F7F] = true) (hl : k.eyLink = true)
include hb hl

omit hl in
theorem dEyFailsafe_unlinked (hl : k.eyLink = false) : k.dEyFailsafe d = (k, some 0x87) := by
  simp only [dEyFailsafe, hb, hl, Bool.not_true, Bool.not_false, Bool.false_eq_true, if_false, if_true]

theorem dEyFailsafe_times (h : ¬d.SafeTimes) : k.dEyFailsafe d = (k, some 0x82) := by
  have hr : 50 < d.fld 1 8 7 ∨ d.fld 1 0 7 < 1 ∨ 100 < d.fld 1 0 7 := by
    unfold Desc.SafeTimes at h
    omega
  simp only [dEyFailsafe, hb, hl, hr, Bool.not_true, Bool.false_eq_true, if_false, if_true]

variable (ht : d.SafeTimes)
include ht

theorem dEyFailsafe_inTime : k.dEyFailsafe d =
    if !d.offStored k.veh.r.eyMap.pos.toNat ∨ !d.offStored k.veh.r.eyMap.neg.toNat then (k, some 0x85)
    else if 10000 ≤ k.ey.nvWrites then (k, some 0x86)
    else ({ k with ey := { k.ey with
        nvWrites := k.ey.nvWrites + 1
        r.fsafe := (d.pay 0).extractLsb' 0 16
        r.wdt := { fsDly := BitVec.ofNat 7 (d.fld 1 8 7), wdtT := BitVec.ofNat 7 (d.fld 1 0 7) } } }, some 0) := by
  have hr : ¬(50 < d.fld 1 8 7 ∨ d.fld 1 0 7 < 1 ∨ 100 < d.fld 1 0 7) := by
    unfold Desc.SafeTimes at ht
    omega
  simp only [dEyFailsafe, hb, hl, hr, Bool.not_true, Bool.false_eq_true, if_false]
  rfl

/-- An output of a contactor must be stored OFF (R415). -/
theorem dEyFailsafe_contactors (h : ¬(d.StoresOff k.veh.r.eyMap.pos ∧ d.StoresOff k.veh.r.eyMap.neg)) :
    k.dEyFailsafe d = (k, some 0x85) := by
  rw [← d.offStored_iff, ← d.offStored_iff, not_and_or] at h
  exact (dEyFailsafe_inTime hb hl ht).trans (if_pos (by simpa using h))

variable (hpos : d.StoresOff k.veh.r.eyMap.pos) (hneg : d.StoresOff k.veh.r.eyMap.neg)
include hpos hneg

theorem dEyFailsafe_off : k.dEyFailsafe d = if 10000 ≤ k.ey.nvWrites then (k, some 0x86)
    else ({ k with ey := { k.ey with
        nvWrites := k.ey.nvWrites + 1
        r.fsafe := (d.pay 0).extractLsb' 0 16
        r.wdt := { fsDly := BitVec.ofNat 7 (d.fld 1 8 7), wdtT := BitVec.ofNat 7 (d.fld 1 0 7) } } }, some 0) := by
  rw [← d.offStored_iff] at hpos hneg
  rw [dEyFailsafe_inTime hb hl ht, hpos, hneg]
  exact if_neg (by simp)

end Chan

/-! ### The register of the modes (R393) -/

/-- k is c after a host write of its modes: an output of another owner keeps its command, which WR_IGN shows. -/
def Chan.ModesWritten (c : Chan) (w : Word) (k : Chan) : Prop :=
  (∀ i, i < 8 → k.ey.host.extractLsb' (2 * i) 2
      = if c.eyOwner i = .host then w.extractLsb' (2 * i) 2 else c.ey.host.extractLsb' (2 * i) 2)
    ∧ (k.ey.r.status.wrIgn = true ↔ c.ey.r.status.wrIgn = true
        ∨ ∃ i, i < 8 ∧ c.eyOwner i ≠ .host ∧ (w.extractLsb' (2 * i) 2).toNat ≠ c.eyMode i)
    ∧ k = { c with ey := { c.ey with host := k.ey.host, r.status.wrIgn := k.ey.r.status.wrIgn } }

theorem Chan.eyCmdWrite_written (c : Chan) (w : Word) : c.ModesWritten w (c.eyCmdWrite (w.extractLsb' 0 16)) := by
  refine ⟨fun i hi => ?_, ?_, rfl⟩
  · have hfield := takeModes_field (fun i => decide (c.eyOwner i = .host)) (w.extractLsb' 0 16) c.ey.host i hi
    rw [mode_of_half w i hi] at hfield
    simp only [decide_eq_true_eq] at hfield
    exact hfield
  · simp only [eyCmdWrite, Bool.or_eq_true, List.any_eq_true, List.mem_range, Bool.and_eq_true, Bool.not_eq_true',
      decide_eq_false_iff_not, decide_eq_true_eq]
    refine or_congr_right (exists_congr fun i => and_congr_right fun hi => ?_)
    rw [mode_of_half w i hi]

/-- A host write of EY_CMD of a channel that is open. -/
theorem State.becomes_eyCmd (s : State) (n : Nat) (w : Word) (P : Chan → Prop) (hn : n < 4) (h : s.hostOpen n = true)
    (hP : P ((s.ch n).eyCmdWrite (w.extractLsb' 0 16))) : Becomes (s.chWrite n 0x804 w).done s n P := by
  have hw : (s.ch n).regWrite s.env 0x804 w = ((s.ch n).eyCmdWrite (w.extractLsb' 0 16), false) := rfl
  refine ⟨_, hP, congrArg State.done ?_⟩
  rw [s.chWrite_open n 0x804 w hn (by decide) (by decide) h (by rw [hw]), hw]

/-- Settles O26: each descriptor by what its operation answers, run at its Sole by `executes_answer`, and the write of the modes
by `eyCmdWrite_written`. -/
theorem eyeletDescriptors : Obligations.EyeletDescriptors := by
  unfold Obligations.EyeletDescriptors
  intro s n hn
  refine ⟨fun d h => ?_, fun w ho => s.becomes_eyCmd n w _ hn ho ((s.ch n).eyCmdWrite_written w)⟩
  intro c y same pw
  obtain ⟨hout, hclr, hlim, hres, hfs⟩ := (s.taken n d).descOp_eyelet n d (s.refOf n d) hn
  refine ⟨fun hl => ⟨fun hop hb => ?_, fun hop hb => ?_, fun hop hb => ?_, fun hop hb => ?_, fun hop hb => ?_⟩,
    fun hl => ⟨fun hop hb => ⟨fun hown => ?output, fun hown => ?_⟩, fun hop hb => ⟨fun hcool => ?clear, fun hhot => ?_⟩,
      fun hop hb => ⟨fun hok => ?limits, fun hok => ?_⟩,
      fun hop hb => ⟨fun hf hfed => ?_, fun hf => ?_, fun hf hfed => ?_⟩, fun hop hb => ?failsafe⟩⟩
  · exact s.executes_answer n _ d _ hn h hop (hout hop) (Chan.dEyOutput_unlinked hb hl) rfl
  · exact s.executes_answer n _ d _ hn h hop (hclr hop) (Chan.dEyClear_unlinked _ hb hl) rfl
  · exact s.executes_answer n _ d _ hn h hop (hlim hop) (Chan.dEyLimits_unlinked hb hl) rfl
  · exact s.executes_answer n _ d _ hn h hop (hres hop) (Chan.dEyResume_unlinked hb hl) rfl
  · exact s.executes_answer n _ d _ hn h hop (hfs hop) (Chan.dEyFailsafe_unlinked hb hl) rfl
  case output =>
    exact s.executes_answer n _ d _ hn h hop (hout hop) (Chan.dEyOutput_takes hb hl hown)
      ⟨fun i hi hs => y.commanded_selected d hi hs, fun i hi hs => y.commanded_other d hi hs, rfl⟩
  · exact s.executes_answer n _ d _ hn h hop (hout hop) (Chan.dEyOutput_owned hb hl hown) rfl
  case clear =>
    obtain ⟨v, hv, hcleared⟩ := y.clearMask_at (s.taken n d).now ((d.pay 0).extractLsb' 0 8)
    have hk := (Chan.dEyClear_clears (s.taken n d).env hb hl hcool).trans
      (congrArg (fun y : Ey => ({ c with ey := y }, some 0)) hv)
    refine s.executes_answer n _ d _ hn h hop (hclr hop) hk ⟨fun i hi => ?_, rfl⟩
    obtain ⟨hsel, hkept⟩ := hcleared i hi
    rw [d.mbit_sel i hi] at hsel hkept
    refine ⟨fun hs => (hsel hs).1, fun hs => (hsel hs).2.1, fun hno => ?_⟩
    cases hs : d.bit 0 i with
    | false => exact hkept hs
    | true => exact (hsel hs).2.2 (hno.resolve_left fun hf => Bool.false_ne_true (hf.symm.trans hs))
  · exact s.executes_answer n _ d _ hn h hop (hclr hop) (Chan.dEyClear_hot _ hb hl hhot) rfl
  case limits =>
    refine s.executes_answer n _ d _ hn h hop (hlim hop) (Chan.dEyLimits_takes hb hl hok) ⟨fun i hi => ?_, rfl, rfl⟩
    refine (vget_vMod y.r.lim (d.fld 0 0 3) i _ {}).trans ?_
    by_cases hf : i = d.fld 0 0 3
    · rw [if_pos hf, if_pos ⟨hf, hf ▸ hi⟩, hf]
    · rw [if_neg hf, if_neg fun hc => hf hc.1]
  · exact s.executes_answer n _ d _ hn h hop (hlim hop) (Chan.dEyLimits_range hb hl hok) rfl
  · exact s.executes_answer n _ d _ hn h hop (hres hop) (Chan.dEyResume_resumes hb hl hf hfed) rfl
  · exact s.executes_answer n _ d _ hn h hop (hres hop) (Chan.dEyResume_idle hb hl hf) rfl
  · exact s.executes_answer n _ d _ hn h hop (hres hop) (Chan.dEyResume_unfed hb hl hf hfed) rfl
  case failsafe =>
    intro dly t stored off v good
    refine ⟨fun ht => ?_, fun ht hoff => ?_, fun ht hpos hneg hworn => ?_, fun ht hpos hneg hnv => ?_⟩
    · exact s.executes_answer n _ d _ hn h hop (hfs hop) (Chan.dEyFailsafe_times hb hl ht) rfl
    · exact s.executes_answer n _ d _ hn h hop (hfs hop) (Chan.dEyFailsafe_contactors hb hl ht hoff) rfl
    · exact s.executes_answer n _ d _ hn h hop (hfs hop) ((Chan.dEyFailsafe_off hb hl ht hpos hneg).trans (if_pos hworn)) rfl
    · exact s.executes_answer n _ d _ hn h hop (hfs hop)
        ((Chan.dEyFailsafe_off hb hl ht hpos hneg).trans (if_neg (Nat.not_le.2 hnv))) rfl

end Sys2Proof.Machine

namespace Sys2Proof.Machine

/-! ### The transitions of Shank (R429, R435) -/

namespace Chan

variable (k : Chan) (e : Env)

/-- A trip request reaches a modulator in no other state than RUN (R84). -/
theorem gateTrip_rests (src : TripSrc) (h : k.pwm.r.status.state ≠ .run) : k.gateTrip e src = k := by
  have ht : k.pwm.trip src = (k.pwm, false) := if_pos h
  rw [gateTrip, ht]
  rfl

/-- A fault of the loop leaves all but the loop, and the completion of a swap it cancels. -/
theorem loopFault_leaves : ∃ l q, k.loopFault e = { k with loop := l, cq := q } := by
  unfold loopFault
  cases k.loop.swap with
  | none =>
    dsimp only
    split <;> exact ⟨_, _, rfl⟩
  | some sw =>
    dsimp only
    split <;> exact ⟨_, _, rfl⟩

theorem gateTrip_leaves (src : TripSrc) :
    ∃ p m l j q, k.gateTrip e src = { k with pwm := p, met := m, loop := l, jq := j, cq := q } := by
  unfold gateTrip
  dsimp only
  split
  · obtain ⟨l, q, hk⟩ := (({ k with pwm := (k.pwm.trip src).1, met := k.met.trigger e 0 } : Chan).jr e .pwm JEv.trip
      [(k.pwm.trip src).1.r.trip.read.toNat]).loopFault_leaves e
    exact ⟨_, _, l, _, q, hk⟩
  · exact ⟨_, _, _, _, _, rfl⟩

/-- The gate inhibit is asserted, and a running modulator trips (R84). -/
theorem shkInhibit_at : ∃ p m l j q, k.shkInhibit e =
      { k with shk.r.status.inhibit := true, pwm := p, met := m, loop := l, jq := j, cq := q }
    ∧ (k.pwm.r.status.state = .run → p.r.status.state = .tripped ∧ p.r.trip.shank = true)
    ∧ (k.pwm.r.status.state ≠ .run → p = k.pwm ∧ l = k.loop) := by
  let z : Chan := { k with shk.r.status.inhibit := true }
  by_cases hrun : k.pwm.r.status.state = .run
  · obtain ⟨p, m, l, j, q, hz⟩ := z.gateTrip_leaves e .shank
    obtain ⟨⟨hst, -⟩, htrip⟩ := z.gateTrip_run e .shank hrun
    rw [hz] at hst htrip
    exact ⟨p, m, l, j, q, hz, fun _ => ⟨hst, congrArg PwmTrip.shank htrip⟩, fun h => absurd hrun h⟩
  · exact ⟨_, _, _, _, _, z.gateTrip_rests e .shank hrun, fun h => absurd h hrun, fun _ => ⟨rfl, rfl⟩⟩

/-- Shank enters a state. -/
theorem shkSet_at (st : ShkState) : ∃ t j o, k.shkSet e st =
    { k with shk := { k.shk with r.status.state := st, tClear := t }, jq := j, oq := o } := by
  unfold shkSet
  split
  · next h => exact ⟨k.shk.tClear, k.jq, k.oq, by rw [← h]⟩
  · exact ⟨_, _, _, rfl⟩

/-- The Shank of a channel as it enters SAFE_STOP (R429). -/
def safeShk (t : Option Nat) : Shk := { k.shk with
  tInh := e.now, tClear := t
  r.status := { k.shk.r.status with
    state := .safeStop, inhibit := true, disReq := k.shk.r.status.disReq || (!k.shk.coil.1 && !k.shk.coil.2) } }

/-- Category 0: SAFE_STOP is entered, and a running modulator trips (R429). -/
theorem shkSafe_at (hinit : k.shk.r.status.state ≠ .init) (hsafe : k.shk.r.status.state ≠ .safeStop) :
    ∃ t p m l j q o, k.shkSafe e = { k with shk := k.safeShk e t, pwm := p, met := m, loop := l, jq := j, cq := q, oq := o }
    ∧ (k.pwm.r.status.state = .run → p.r.status.state = .tripped ∧ p.r.trip.shank = true)
    ∧ (k.pwm.r.status.state ≠ .run → p = k.pwm ∧ l = k.loop) := by
  let z : Chan := { k with shk := { k.shk with
    tInh := e.now, r.status.disReq := k.shk.r.status.disReq || (!k.shk.coil.1 && !k.shk.coil.2) } }
  have hk : k.shkSafe e = (z.shkInhibit e).shkSet e .safeStop := by
    unfold shkSafe
    split
    · next h => exact absurd h hinit
    · next h => exact absurd h hsafe
    · rfl
  obtain ⟨p, m, l, j, q, hz, hrun, hrest⟩ := z.shkInhibit_at e
  obtain ⟨t, j', o, hset⟩ := (z.shkInhibit e).shkSet_at e .safeStop
  rw [hz] at hset
  exact ⟨t, p, m, l, j', q, o, (hk.trans (congrArg (Chan.shkSet · e .safeStop) hz)).trans hset, hrun, hrest⟩

/-- In INIT and in SAFE_STOP category 0 changes nothing. -/
theorem shkSafe_rests (h : k.shk.r.status.state = .init ∨ k.shk.r.status.state = .safeStop) : k.shkSafe e = k := by
  unfold shkSafe
  obtain h | h := h
  · rw [h]
  · rw [h]

/-- Category 1: STOP1 is entered, and the loop is asked to stop (R429). -/
theorem shkStop1_at : ∃ t p l j o, k.shkStop1 e =
      { k with shk := { k.shk with tStop1 := e.now, r.status.state := .stop1, tClear := t }, pwm := p, loop := l, jq := j, oq := o }
    ∧ (k.loop.r.status.state = .cv ∨ k.loop.r.status.state = .cc → p = k.pwm ∧ l = { k.loop with stopReq := true }) := by
  let z : Chan := { k with shk := { k.shk with tStop1 := e.now } }
  obtain ⟨l, p, hz, -⟩ := z.loopStop_leaves e false
  obtain ⟨t, j, o, hset⟩ := (z.loopStop e false).shkSet_at e .stop1
  rw [hz] at hset
  refine ⟨t, p, l, j, o, (congrArg (Chan.shkSet · e .stop1) hz).trans hset, fun h => ?_⟩
  have hreq : z.loopStop e false = { z with loop.stopReq := true } := by
    unfold loopStop
    obtain h | h := h
    · rw [show z.loop.r.status.state = _ from h]
    · rw [show z.loop.r.status.state = _ from h]
  rw [hz] at hreq
  exact ⟨congrArg Chan.pwm hreq, congrArg Chan.loop hreq⟩

/-- Shank is disarmed: the inhibit is asserted and the mask set (R435). -/
theorem shkUnarmed_at : ∃ t p m l j q o, k.shkUnarmed e = { k with
    shk := { k.shk with masked := true, tClear := t, r.status := { k.shk.r.status with state := .unarmed, inhibit := true } }
    pwm := p, met := m, loop := l, jq := j, cq := q, oq := o } := by
  let z : Chan := { k with shk := { k.shk with masked := true } }
  obtain ⟨p, m, l, j, q, hz, -⟩ := z.shkInhibit_at e
  obtain ⟨t, j', o, hset⟩ := (z.shkInhibit e).shkSet_at e .unarmed
  rw [hz] at hset
  exact ⟨t, p, m, l, j', q, o, (congrArg (Chan.shkSet · e .unarmed) hz).trans hset⟩

/-- Shank is released, to BLOCKED where a fault is present (R435). -/
theorem shkRelease_at : ∃ t j o, k.shkRelease e = { k with
    shk := { k.shk with
      masked := false, tpKeep := (false, false), tClear := t
      r.status := { k.shk.r.status with
        state := if k.shkRelevant = 0 then .ready else .blocked, inhibit := k.core.meterRole } }
    jq := j, oq := o } := shkSet_at _ e _

end Chan
end Sys2Proof.Machine

namespace Sys2Proof.Machine

/-- k is c after category 0 acted at a time: the gates are inhibited at once, and a running modulator trips (R429). -/
def Chan.SafeStopped (c : Chan) (now : Nat) (k : Chan) : Prop :=
  k.shk.r.status.state = .safeStop ∧ k.shk.r.status.inhibit = true ∧ k.shk.tInh = now
  ∧ k.shk.r.status.disReq = (c.shk.r.status.disReq || (!c.shk.coil.1 && !c.shk.coil.2))
  ∧ (c.pwm.r.status.state = .run → k.pwm.r.status.state = .tripped ∧ k.pwm.r.trip.shank = true)
  ∧ (c.pwm.r.status.state ≠ .run → k.pwm = c.pwm ∧ k.loop = c.loop)
  ∧ k = { c with shk := k.shk, pwm := k.pwm, met := k.met, loop := k.loop, jq := k.jq, cq := k.cq, oq := k.oq }

/-- k is c after category 1 acted at a time: a loop stop is requested (R429). -/
def Chan.StopAsked (c : Chan) (now : Nat) (k : Chan) : Prop :=
  k.shk.r.status.state = .stop1 ∧ k.shk.tStop1 = now
  ∧ (c.loop.r.status.state = .cv ∨ c.loop.r.status.state = .cc →
      k = { c with shk := k.shk, loop.stopReq := true, jq := k.jq, oq := k.oq })
  ∧ k = { c with shk := k.shk, pwm := k.pwm, loop := k.loop, jq := k.jq, oq := k.oq }

/-- Shank has entered a state or released the gates: it alone has changed, and what it journals and sends. -/
def Chan.ShankOnly (c k : Chan) : Prop := k = { c with shk := k.shk, jq := k.jq, oq := k.oq }

namespace Chan

variable (k : Chan) (e : Env)

/-- Category 0 in a state that it ends. -/
theorem shkSafe_stops {st : ShkState} (h : k.shk.r.status.state = st) (hst : st ≠ .init ∧ st ≠ .safeStop) :
    k.SafeStopped e.now (k.shkSafe e) ∧ ∃ t, (k.shkSafe e).shk = k.safeShk e t := by
  subst h
  obtain ⟨t, p, m, l, j, q, o, hk, hrun, hrest⟩ := k.shkSafe_at e hst.1 hst.2
  rw [hk]
  exact ⟨⟨rfl, rfl, rfl, rfl, hrun, hrest, rfl⟩, t, rfl⟩

/-- Category 1. -/
theorem shkStop1_asks : k.StopAsked e.now (k.shkStop1 e) ∧ ∃ t, (k.shkStop1 e).shk =
    { k.shk with tStop1 := e.now, r.status.state := .stop1, tClear := t } := by
  obtain ⟨t, p, l, j, o, hk, hreq⟩ := k.shkStop1_at e
  rw [hk]
  refine ⟨⟨rfl, rfl, fun h => ?_, rfl⟩, t, rfl⟩
  obtain ⟨rfl, rfl⟩ := hreq h
  rfl

/-! #### Demands -/

/-- The channel with no demand waiting. -/
def unwaited : Chan := { k with shk := { k.shk with pend0 := false, pend1 := false } }

theorem shkDemand_safe (hst : k.shk.r.status.state = .ready ∨ k.shk.r.status.state = .degraded
      ∨ k.shk.r.status.state = .blocked ∨ k.shk.r.status.state = .stop1)
    (h : k.shk.pend0 = true ∨ (k.shk.r.status.state = .blocked ∧ k.shk.pend1 = true)) :
    k.shkDemand e = k.unwaited.shkSafe e := by
  unfold shkDemand
  dsimp only
  obtain h0 | ⟨hb, h1⟩ := h
  · obtain hst | hst | hst | hst := hst <;> simp only [hst, h0, true_or, if_true] <;> rfl
  · simp only [hb, h1, or_true, if_true]
    rfl

theorem shkDemand_stops (hst : k.shk.r.status.state = .ready ∨ k.shk.r.status.state = .degraded) (h0 : k.shk.pend0 = false)
    (h1 : k.shk.pend1 = true) : k.shkDemand e = k.unwaited.shkStop1 e := by
  unfold shkDemand
  dsimp only
  obtain hst | hst := hst <;> simp only [hst, h0, h1, Bool.false_eq_true, if_false, if_true] <;> rfl

theorem shkDemand_rests (h : k.shk.r.status.state = .init ∨ k.shk.r.status.state = .unarmed
      ∨ k.shk.r.status.state = .safeStop
      ∨ (k.shk.pend0 = false ∧ (k.shk.pend1 = false ∨ k.shk.r.status.state = .stop1))) :
    k.shkDemand e = k.unwaited := by
  unfold shkDemand
  dsimp only
  obtain h | h | h | ⟨h0, h1 | h⟩ := h
  iterate 3
    rw [h]
    rfl
  · simp only [h0, h1, Bool.false_eq_true, or_self, if_false]
    split <;> rfl
  · rw [h, h0]
    rfl

/-! #### Arming, faults and the way out -/

/-- The conditions under which Shank arms. -/
def armOk : Bool :=
  decide (k.shk.r.status.state = .unarmed) && decide (k.shk.r.confCrc = k.shk.r.crc) && k.mapMatches
    && !k.shk.r.status.paramBad && k.shk.quiet

theorem shkArm_at : k.shkArm e = if k.armOk then k.shkRelease e else k := by
  simp only [shkArm, armOk, Bool.and_eq_true, decide_eq_true_eq, and_assoc]

theorem shkArm_arms (h : k.armOk = true) : k.shkArm e = k.shkRelease e := (k.shkArm_at e).trans (if_pos h)

theorem shkArm_rests (h : k.armOk = false) : k.shkArm e = k := (k.shkArm_at e).trans (if_neg (ne_true_of_eq_false h))

theorem shkFault_blocks (hst : k.shk.r.status.state = .ready) (hf : k.shkRelevant ≠ 0) (hl : k.loop.r.status.state = .idle) :
    k.shkFault e = k.shkSet e .blocked := by
  simp only [shkFault, hst, if_neg hf, if_pos hl]

theorem shkFault_degrades (hst : k.shk.r.status.state = .ready) (hf : k.shkRelevant ≠ 0) (hl : k.loop.r.status.state ≠ .idle) :
    k.shkFault e = ({ k with shk := { k.shk with tDeg := e.now, degBits := k.shkRelevant, tOver := none } } : Chan).shkSet e
      .degraded := by
  simp only [shkFault, hst, if_neg hf, if_neg hl]

theorem shkFault_second (hst : k.shk.r.status.state = .degraded) (hf : k.shkRelevant &&& ~~~k.shk.degBits ≠ 0) :
    k.shkFault e = k.shkSafe e := by
  simp only [shkFault, hst, if_pos hf]

theorem shkFault_rests (h : (k.shk.r.status.state = .ready ∧ k.shkRelevant = 0)
      ∨ (k.shk.r.status.state = .degraded ∧ k.shkRelevant &&& ~~~k.shk.degBits = 0)
      ∨ (k.shk.r.status.state ≠ .ready ∧ k.shk.r.status.state ≠ .degraded)) : k.shkFault e = k := by
  unfold shkFault
  obtain ⟨hst, hf⟩ | ⟨hst, hf⟩ | ⟨hready, hdeg⟩ := h
  · simp only [hst, if_pos hf]
  · simp only [hst, if_neg (not_not_intro hf)]
  · dsimp only
    split
    · next hst => exact absurd hst hready
    · next hst => exact absurd hst hdeg
    · rfl

/-- The conditions under which Shank leaves the safe state. -/
def exitOk : Bool :=
  decide (k.shk.r.status.state = .safeStop) && k.shk.masked && k.shk.quiet && k.shk.weldDone && k.shk.tSf5.isNone
    && decide (k.shk.tOffC = (none, none)) && decide (k.shk.coil = (false, false))

theorem shkExit_at : k.shkExit e =
    if k.exitOk then ({ k with shk := { k.shk with r.status.disReq := false } } : Chan).shkRelease e else k := by
  have hcoil : k.shk.coil = (false, false) ↔ (!k.shk.coil.1) = true ∧ (!k.shk.coil.2) = true := by
    rw [Prod.ext_iff, Bool.not_eq_true', Bool.not_eq_true']
  simp only [shkExit, exitOk, Bool.and_eq_true, decide_eq_true_eq, and_assoc, hcoil]

theorem shkExit_exits (h : k.exitOk = true) :
    k.shkExit e = ({ k with shk := { k.shk with r.status.disReq := false } } : Chan).shkRelease e :=
  (k.shkExit_at e).trans (if_pos h)

theorem shkExit_rests (h : k.exitOk = false) : k.shkExit e = k := (k.shkExit_at e).trans (if_neg (ne_true_of_eq_false h))

/-- An entry of Shank to another state. -/
theorem shkSet_only (st : ShkState) : (k.shkSet e st).shk.r.status.state = st ∧ k.ShankOnly (k.shkSet e st) := by
  obtain ⟨t, j, o, hk⟩ := k.shkSet_at e st
  rw [hk]
  exact ⟨rfl, rfl⟩

/-! #### The current in DEGRADED (R438) -/

/-- The current that the cap of DEGRADED is held against exceeds it by more than a tenth. -/
def overCap : Bool :=
  let mag (i : Nat) : Rat := if k.met.valid i then rabs (k.fast i) else 0
  decide (11 / 10 * k.shk.iCap < max (mag 8) (mag 9))

variable (hst : k.shk.r.status.state = .degraded) (ht : k.shk.tDeg + msNs 500 ≤ e.now)
include hst ht

theorem shkCurrent_over (h : k.overCap = true) : k.shkCurrent e =
    if k.shk.tOver.getD e.now + msNs 100 ≤ e.now then
      ({ k with shk.tOver := some (k.shk.tOver.getD e.now) } : Chan).shkSafe e
    else { k with shk.tOver := some (k.shk.tOver.getD e.now) } := by
  unfold overCap at h
  dsimp only at h
  simp only [shkCurrent, if_pos (And.intro hst ht), h, if_true, held, decide_eq_true_eq]

theorem shkCurrent_long (h : k.overCap = true) (hlong : k.shk.tOver.getD e.now + msNs 100 ≤ e.now) :
    k.SafeStopped e.now (k.shkCurrent e) := by
  rw [k.shkCurrent_over e hst ht h, if_pos hlong]
  exact (Chan.shkSafe_stops { k with shk.tOver := some (k.shk.tOver.getD e.now) } e hst (by decide)).1

theorem shkCurrent_below (h : k.overCap = false) : k.shkCurrent e = { k with shk.tOver := none } := by
  unfold overCap at h
  dsimp only at h
  simp only [shkCurrent, if_pos (And.intro hst ht), h, Bool.false_eq_true, if_false, held]

end Chan
end Sys2Proof.Machine

namespace Sys2Proof.Machine

/-- Settles O28: each command by the transition it takes where its condition holds, and elsewhere by the lemma that it changes
nothing. -/
theorem shankStates : Obligations.ShankStates := by
  unfold Obligations.ShankStates
  intro s n h c x st loopSt f same safe stop1 only
  -- category 0 from a state that it leaves, whatever of Shank's waiting demands and timers went before
  have hsafe (z : Chan) {q : ShkState} (hq : z.shk.r.status.state = q) (hne : q ≠ .init ∧ q ≠ .safeStop) :=
    (z.shkSafe_stops s.env hq hne).1
  have hrelease (z : Chan) := z.shkRelease_at s.env
  refine ⟨fun hst h0 => ?cat0, fun hst h0 h1 => ?cat1, fun hst hp => ?blocked, fun hst h0 => ?stop1, fun hr => ?_,
    ⟨fun hok => ?arm, fun hok => ?_⟩, fun hst hf hl => ?_, fun hst hf hl => ?degrade, fun hst hf => ?second, fun hr => ?_,
    fun hst hf ht => ?_, fun hr => ?_, fun hst ht => ?_, fun hr => ?_,
    fun hst ht => ⟨fun hi hlong => ?exceeds, fun hi hlong => ?_, fun hi => ?_⟩, fun hr => ?_,
    fun hst ht => ?timeout, fun hr => ?_, fun hst hm ht => ?_, fun hr => ?_,
    ⟨fun hok => ?exit, fun hok => ?_⟩⟩ <;>
    refine s.becomes_onSole n 2 _ _ h ?_
  case cat0 =>
    rw [c.shkDemand_safe s.env (hst.imp_right .inl) (.inl h0)]
    have hne : st ≠ .init ∧ st ≠ .safeStop := by
      obtain hst | hst := hst <;> rw [hst] <;> exact ⟨nofun, nofun⟩
    obtain ⟨hstop, t, hshk⟩ := c.unwaited.shkSafe_stops s.env rfl hne
    exact ⟨hstop, congrArg Shk.pend0 hshk⟩
  case cat1 =>
    rw [c.shkDemand_stops s.env hst h0 h1]
    obtain ⟨hstop, t, hshk⟩ := c.unwaited.shkStop1_asks s.env
    exact ⟨hstop, congrArg Shk.pend1 hshk⟩
  case blocked =>
    rw [c.shkDemand_safe s.env (.inr (.inr (.inl hst))) (hp.imp_right (And.intro hst))]
    exact hsafe c.unwaited hst (by decide)
  case stop1 =>
    rw [c.shkDemand_safe s.env (.inr (.inr (.inr hst))) (.inl h0)]
    exact hsafe c.unwaited hst (by decide)
  · exact c.shkDemand_rests s.env hr
  case arm =>
    rw [c.shkArm_arms s.env hok]
    obtain ⟨t, j, o, hk⟩ := hrelease c
    rw [hk]
    exact ⟨rfl, rfl, rfl, rfl⟩
  · exact c.shkArm_rests s.env hok
  · rw [c.shkFault_blocks s.env hst hf hl]
    exact c.shkSet_only s.env .blocked
  case degrade =>
    rw [c.shkFault_degrades s.env hst hf hl]
    obtain ⟨t, j, o, hk⟩ := Chan.shkSet_at
      { c with shk := { c.shk with tDeg := s.env.now, degBits := c.shkRelevant, tOver := none } } s.env .degraded
    rw [hk]
    exact ⟨rfl, rfl, rfl, rfl⟩
  case second =>
    rw [c.shkFault_second s.env hst hf]
    exact hsafe c hst (by decide)
  · exact c.shkFault_rests s.env hr
  · rw [Chan.shkBlockedClear, if_pos ⟨hst, hf, ht⟩]
    exact c.shkSet_only s.env .ready
  · refine if_neg ?_
    rwa [not_and_or, not_and_or, Bool.not_eq_true]
  · rw [Chan.shkDegTimeout, if_pos ⟨hst, ht⟩]
    exact (c.shkStop1_asks s.env).1
  · refine if_neg ?_
    rwa [not_and_or, Nat.not_le]
  case exceeds => exact c.shkCurrent_long s.env hst ht hi hlong
  · exact (c.shkCurrent_over s.env hst ht hi).trans (if_neg (Nat.not_le.2 hlong))
  · exact c.shkCurrent_below s.env hst ht hi
  · refine if_neg ?_
    rwa [not_and_or, Nat.not_le]
  case timeout =>
    rw [Chan.shkStop1Timeout, if_pos ⟨hst, ht⟩]
    exact hsafe c hst (by decide)
  · refine if_neg ?_
    rwa [not_and_or, not_or, Nat.not_le]
  · exact if_pos ⟨hst, ht, congrArg not hm⟩
  · refine if_neg ?_
    rw [not_and_or, not_and_or, Nat.not_le, Bool.not_eq_true, Bool.not_eq_false']
    exact hr.imp_right Or.symm
  case exit =>
    rw [c.shkExit_exits s.env hok]
    obtain ⟨t, j, o, hk⟩ := hrelease { c with shk := { c.shk with r.status.disReq := false } }
    rw [hk]
    exact ⟨rfl, rfl, rfl, rfl, rfl⟩
  · exact c.shkExit_rests s.env hok

end Sys2Proof.Machine

namespace Sys2Proof.Machine

/-! ### Tests and watches of Shank (R439 to R447) -/

/-- k is c after a trip at a time: in SAFE_STOP, unless Shank was in INIT (R429, R435). -/
def Chan.ShankTripped (c : Chan) (now : Nat) (k : Chan) : Prop :=
  (c.shk.r.status.state ≠ .init → k.shk.r.status.state = .safeStop)
  ∧ (c.shk.r.status.state = .init → k.shk.r.status.state = .init)
  ∧ (c.shk.r.status.state ≠ .init → c.shk.r.status.state ≠ .safeStop → k.shk.r.status.inhibit = true ∧ k.shk.tInh = now)

/-- The entry of POS (false) or NEG (true) of a pair. -/
def sideOf {α : Type} (p : α × α) (neg : Bool) : α := if neg then p.2 else p.1

theorem sideOf_setSide {α : Type} (p : α × α) (neg : Bool) (v : α) : sideOf (setSide p neg v) neg = v := by
  cases neg <;> rfl

theorem sideOf_latched (p : Bool × Bool) (neg b : Bool) :
    sideOf (if b then setSide p neg true else p) neg = (b || sideOf p neg) := by
  cases b with
  | false => rfl
  | true => exact sideOf_setSide p neg true

namespace Chan

variable (k : Chan) (e : Env)

/-- Category 0 in any state. -/
theorem shkSafe_trips : k.ShankTripped e.now (k.shkSafe e) := by
  by_cases h : k.shk.r.status.state = .init ∨ k.shk.r.status.state = .safeStop
  · rw [k.shkSafe_rests e h]
    exact ⟨h.resolve_left, id, fun hinit hsafe => absurd (h.resolve_left hinit) hsafe⟩
  · obtain ⟨hinit, hsafe⟩ := not_or.1 h
    obtain ⟨⟨hst, hinh, ht, -⟩, -⟩ := k.shkSafe_stops e rfl ⟨hinit, hsafe⟩
    exact ⟨fun _ => hst, fun hi => absurd hi hinit, fun _ _ => ⟨hinh, ht⟩⟩

/-- What category 0 leaves of Shank. -/
theorem shkSafe_keeps {α : Type} (f : Shk → α)
    (hf : ∀ x i t s, f { x with tInh := i, tClear := t, r.status := s } = f x) : f (k.shkSafe e).shk = f k.shk := by
  by_cases h : k.shk.r.status.state = .init ∨ k.shk.r.status.state = .safeStop
  · rw [k.shkSafe_rests e h]
  · obtain ⟨-, t, hshk⟩ := k.shkSafe_stops e rfl (not_or.1 h)
    rw [hshk]
    exact hf ..

/-! #### Test pulses (R439 to R441) -/

/-- A test that has run its time is preempted: by the safe state, or by its output commanded OFF (R441). -/
def tpCut : Bool :=
  decide (k.shk.r.status.state = .safeStop) || (k.shk.tpOn && decide (k.eyMode (k.shk.out k.shk.tpNeg) = 0))

section PulseEnd

variable (ha : k.shk.r.tp.active = true) (ht : k.shk.tpT + usNs 340 ≤ e.now)
include ha ht

theorem tpEnd_cut (h : k.tpCut = true) : ∃ t, k.tpEnd e = { k with shk := { k.shk with
    tpKeep := t
    coil := if k.shk.tpOn then setSide k.shk.coil k.shk.tpNeg false else k.shk.coil
    tOffC := if k.shk.tpOn ∧ k.shk.sf6En then setSide k.shk.tOffC k.shk.tpNeg (some k.shk.tpT) else k.shk.tOffC
    r.tp := { k.shk.r.tp with active := false, last := .preempted, preempt := satInc k.shk.r.tp.preempt } } } := by
  rw [tpCut, Bool.or_eq_true] at h
  simp only [tpEnd, if_pos (And.intro ha ht), if_pos h]
  exact ⟨_, rfl⟩

variable (h : k.tpCut = false)
include h

theorem tpEnd_passes (hs : k.shk.tpSeen = true) : k.tpEnd e = { k with shk := { k.shk with
    tpBack := k.shk.tpOn
    r.tp := { k.shk.r.tp with active := false, last := .passed, pass := satInc k.shk.r.tp.pass } } } := by
  replace h := ne_true_of_eq_false h
  rw [tpCut, Bool.or_eq_true] at h
  simp only [tpEnd, if_pos (And.intro ha ht), if_neg h, if_pos hs]

/-- The channel with a test that has failed. -/
def tpFailed : Chan := { k with shk := { k.shk with
  tpFail := true
  r.tp := { k.shk.r.tp with active := false, last := .failed } } }

theorem tpEnd_fails (hs : k.shk.tpSeen = false) : k.tpEnd e =
    if k.loop.r.status.state ≠ .idle ∧ k.loop.r.status.state ≠ .fault then k.tpFailed.shkStop1 e
    else k.tpFailed.shkSafe e := by
  replace h := ne_true_of_eq_false h
  rw [tpCut, Bool.or_eq_true] at h
  simp only [tpEnd, if_pos (And.intro ha ht), if_neg h, if_neg (ne_true_of_eq_false hs)]
  rfl

end PulseEnd

/-! #### The reference and the carrier (R442, R443) -/

theorem shkClock_trips {d1 d2 : Int} (h1 : 120 < d1.natAbs) (h2 : 120 < d2.natAbs) : k.shkClock e d1 d2 =
    ({ k with shk := { k.shk with onRc := true, clkTrip := true, refOk := none } } : Chan).shkSafe e := by
  simp only [shkClock, decide_eq_true h1, decide_eq_true h2, Bool.and_self, if_true]

theorem shkClock_one {d1 d2 : Int} (h : decide (120 < d1.natAbs) ≠ decide (120 < d2.natAbs)) :
    k.shkClock e d1 d2 = { k with shk.refOk := none } := by
  unfold shkClock
  cases h1 : decide (120 < d1.natAbs) with
  | false => simp only [h1, Bool.eq_true_of_not_eq_false fun h2 => h (h1.trans h2.symm)]; rfl
  | true => simp only [h1, Bool.eq_false_of_not_eq_true fun h2 => h (h1.trans h2.symm)]; rfl

theorem shkClock_near {d1 d2 : Int} (h1 : decide (120 < d1.natAbs) = false) (h2 : decide (120 < d2.natAbs) = false) :
    k.shkClock e d1 d2 = { k with shk.refOk := some (k.shk.refOk.getD e.now) } := by
  simp only [shkClock, h1, h2]
  rfl

section Carrier

/-- The interval is the first of a watched phase: it is discarded. -/
def pwFirst : Prop := k.shk.pwPh ≠ k.pwWatched ∨ k.pwWatched = none

theorem pwFirst_iff : k.shk.pwPh ≠ k.pwWatched ∨ k.pwWatched.isNone = true ↔ k.pwFirst :=
  or_congr_right Option.isNone_iff_eq_none

/-- The interval, measured to 40 ns, lies within its bounds. -/
def pwGood (iv : Nat) : Prop := k.shk.fld 13 0 16 ≤ iv / 4 * 4 ∧ iv / 4 * 4 ≤ k.shk.fld 13 16 16

/-- Shank after an interval that counts. -/
def pwShk (iv bad : Nat) : Shk := { k.shk with pwBad := bad, r.pw := BitVec.ofNat 16 (min 0xFFFF (iv / 4 * 4)) }

variable (iv : Nat)

theorem shkPw_stopped (marker : Bool) (h : k.pwm.r.status.state ≠ .run) :
    k.shkPw e iv marker = { k with shk := { k.shk with pwPh := none, pwBad := 0 } } := if_pos h

variable (hrun : k.pwm.r.status.state = .run)
include hrun

theorem shkPw_first (h : k.pwFirst) :
    k.shkPw e iv true = { k with shk := { k.shk with pwPh := k.pwWatched, pwBad := 0 } } := by
  simp only [shkPw, if_neg (not_not_intro hrun)]
  exact if_pos ⟨trivial, k.pwFirst_iff.2 h⟩

theorem shkPw_silent : k.shkPw e iv false = ({ k with shk := { k.shk with pwBad := 2, pwWd := true } } : Chan).shkSafe e := by
  simp only [shkPw, if_neg (not_not_intro hrun)]
  rfl

variable (h : ¬k.pwFirst)
include h

theorem shkPw_counts : k.shkPw e iv true =
    let n := if within (k.shk.fld 13 0 16) (k.shk.fld 13 16 16) (iv / 4 * 4) then 0 else k.shk.pwBad + 1
    let z : Chan := { k with shk := k.pwShk iv (min n 2) }
    if 2 ≤ n then ({ z with shk.pwWd := true } : Chan).shkSafe e else z := by
  simp only [shkPw, if_neg (not_not_intro hrun)]
  exact if_neg fun hc => h (k.pwFirst_iff.1 hc.2)

theorem shkPw_good (hg : k.pwGood iv) : k.shkPw e iv true = { k with shk := k.pwShk iv 0 } := by
  have hw : within (k.shk.fld 13 0 16) (k.shk.fld 13 16 16) (iv / 4 * 4) = true := by
    rwa [within, ← Bool.decide_and, decide_eq_true_iff]
  rw [k.shkPw_counts e iv hrun h, if_pos hw]
  rfl

theorem shkPw_bad (hg : ¬k.pwGood iv) : k.shkPw e iv true = if 2 ≤ k.shk.pwBad + 1 then
      ({ k with shk := { k.pwShk iv (min (k.shk.pwBad + 1) 2) with pwWd := true } } : Chan).shkSafe e
    else { k with shk := k.pwShk iv (min (k.shk.pwBad + 1) 2) } := by
  have hw : ¬within (k.shk.fld 13 0 16) (k.shk.fld 13 16 16) (iv / 4 * 4) = true := by
    rwa [within, ← Bool.decide_and, decide_eq_true_iff]
  rw [k.shkPw_counts e iv hrun h, if_neg hw]

end Carrier

/-! #### Demands that Shank raises itself (R428) -/

/-- A demand of category 0 latches its function and waits. -/
theorem shkRaise_raises (f : Nat) (src : BitVec 4) (hf : f - 1 < 6) :
    mbit (k.shkRaise e f false src).shk.r.demand.latch (f - 1) = true ∧ (k.shkRaise e f false src).shk.pend0 = true :=
  ⟨mbit_msetb_same _ _ true hf, Bool.or_true _⟩

/-! #### The mirror contacts and the discharge (R445, R446) -/

section Weld

variable (neg : Bool)

theorem shkWeld_rests (h : k.shk.sf6En = false
      ∨ (held e.now (sideOf k.shk.tOffC neg) (msNs (k.shk.fld 12 0 16)) = false
        ∧ held e.now (sideOf k.shk.tOnC neg) (msNs (k.shk.fld 12 0 16)) = false)) : k.shkWeld e neg = k := by
  unfold sideOf at h
  unfold shkWeld
  dsimp only
  obtain h | ⟨hoff, hon⟩ := h
  · rw [h]
    rfl
  · rw [if_neg (ne_true_of_eq_false hoff), if_neg (ne_true_of_eq_false hon), ite_self]

variable (hen : k.shk.sf6En = true)
include hen

theorem shkWeld_off (hoff : held e.now (sideOf k.shk.tOffC neg) (msNs (k.shk.fld 12 0 16)) = true) : k.shkWeld e neg =
    let z : Chan := { k with shk.tOffC := setSide k.shk.tOffC neg none }
    if k.shk.r.input.lands.getLsbD (if neg then 5 else 4) then z else z.shkRaise e 6 false := by
  unfold sideOf at hoff
  simp only [shkWeld, hen, Bool.not_true, Bool.false_eq_true, if_false, hoff, if_true]

theorem shkWeld_stuck (hoff : held e.now (sideOf k.shk.tOffC neg) (msNs (k.shk.fld 12 0 16)) = true)
    (hl : k.shk.r.input.lands.getLsbD (if neg then 5 else 4) = false) :
    k.shkWeld e neg = ({ k with shk.tOffC := setSide k.shk.tOffC neg none } : Chan).shkRaise e 6 false :=
  (k.shkWeld_off e neg hen hoff).trans (if_neg (ne_true_of_eq_false hl))

theorem shkWeld_opened (hoff : held e.now (sideOf k.shk.tOffC neg) (msNs (k.shk.fld 12 0 16)) = true)
    (hl : k.shk.r.input.lands.getLsbD (if neg then 5 else 4) = true) :
    k.shkWeld e neg = { k with shk.tOffC := setSide k.shk.tOffC neg none } :=
  (k.shkWeld_off e neg hen hoff).trans (if_pos hl)

theorem shkWeld_on (hoff : held e.now (sideOf k.shk.tOffC neg) (msNs (k.shk.fld 12 0 16)) = false)
    (hon : held e.now (sideOf k.shk.tOnC neg) (msNs (k.shk.fld 12 0 16)) = true) : ∃ j, k.shkWeld e neg =
    { k with
      shk := { k.shk with
        tOnC := setSide k.shk.tOnC neg none
        mirror := if k.shk.r.input.lands.getLsbD (if neg then 5 else 4) then setSide k.shk.mirror neg true else k.shk.mirror }
      jq := j } := by
  unfold sideOf at hoff hon
  simp only [shkWeld, hen, Bool.not_true, Bool.false_eq_true, if_false, hoff, hon, if_true]
  by_cases hl : k.shk.r.input.lands.getLsbD (if neg then 5 else 4) = true
  · simp only [hl, if_true]
    exact ⟨_, rfl⟩
  · simp only [hl]
    exact ⟨k.jq, rfl⟩

end Weld

section Discharge

variable (h : held e.now k.shk.tSf5 (sNs 1) = true)
include h

/-- The SF5 timer has run, and what it found is taken up. -/
def sf5Timed : Chan := { k with shk := { k.shk with tSf5 := none, sf5Flt := false } }

theorem shkDischarge_fails (hv : k.shk.sf5Flt = true ∨ 60 ≤ k.vCon) : k.shkDischarge e = k.sf5Timed.shkRaise e 5 false := by
  have hc : k.shk.sf5Flt = true ∨ (!k.sf5Timed.v11Low) = true := by
    refine hv.imp_right fun hv => ?_
    rw [v11Low, Bool.not_eq_true', decide_eq_false_iff_not]
    exact not_lt.2 hv
  simp only [shkDischarge, if_pos h]
  exact if_pos hc

theorem shkDischarge_passes (hflt : k.shk.sf5Flt = false) (hv : k.vCon < 60) : k.shkDischarge e = { k with shk := { k.shk with
    tSf5 := none, r.status.disReq := decide (k.shk.r.status.state = .safeStop) && k.shk.r.status.disReq } } := by
  have hc : ¬(k.shk.sf5Flt = true ∨ (!k.sf5Timed.v11Low) = true) := by
    rw [not_or, Bool.not_eq_true, v11Low, Bool.not_eq_true', decide_eq_false_iff_not]
    exact ⟨hflt, not_not_intro hv⟩
  have hz : k.sf5Timed = { k with shk.tSf5 := none } := by
    rw [sf5Timed, ← hflt]
  simp only [shkDischarge, if_pos h]
  refine (if_neg hc).trans ?_
  by_cases hst : k.shk.r.status.state = .safeStop
  · rw [if_pos hst, decide_eq_true hst, Bool.true_and]
    exact hz
  · rw [if_neg hst, decide_eq_false hst, Bool.false_and]
    exact congrArg (fun z : Chan => { z with shk.r.status.disReq := false }) hz

end Discharge

/-! #### The parameter block (R447) -/

/-- Shank's parameters are bad or new: it disarms, unless it is in INIT (R435). -/
theorem disarm_at : ∃ t i m p mt l j q o,
    (if k.shk.r.status.state = .init then k else k.shkUnarmed e) = { k with
      shk := { k.shk with
        masked := m, tClear := t
        r.status := { k.shk.r.status with
          state := if k.shk.r.status.state = .init then .init else .unarmed, inhibit := i } }
      pwm := p, met := mt, loop := l, jq := j, cq := q, oq := o }
    ∧ (k.shk.r.status.state ≠ .init → i = true ∧ m = true) := by
  by_cases h : k.shk.r.status.state = .init
  · rw [if_pos h, if_pos h]
    exact ⟨_, _, _, _, _, _, _, _, _, by rw [← h], fun hne => absurd h hne⟩
  · obtain ⟨t, p, m, l, j, q, o, hk⟩ := k.shkUnarmed_at e
    rw [if_neg h, if_neg h]
    exact ⟨_, _, _, _, _, _, _, _, _, hk, fun _ => ⟨rfl, rfl⟩⟩

section Check

variable (word : Nat) (flip : Word)

/-- The channel with an upset in the block in use. -/
def blockHit : Chan :=
  let b := vMod k.shk.block word fun (w : Word) => w ^^^ flip
  { k with shk := { k.shk with block := b, r.crc := blockCrc b } }

theorem shkBlockCheck_good (h : blockCrc (k.blockHit word flip).shk.block = k.shk.storedCrc) (hok : k.shk.storedOk = true) :
    k.shkBlockCheck e word flip = k.blockHit word flip := if_pos ⟨h, hok⟩

theorem shkBlockCheck_bad (h : blockCrc (k.blockHit word flip).shk.block ≠ k.shk.storedCrc ∨ k.shk.storedOk = false) :
    k.shkBlockCheck e word flip =
      let z : Chan := { k.blockHit word flip with shk.r.status.paramBad := true }
      if z.shk.r.status.state = .init then z else z.shkUnarmed e := by
  refine if_neg fun hc => ?_
  exact h.elim (fun hne => hne hc.1) fun hno => Bool.false_ne_true (hno.symm.trans hc.2)

end Check

end Chan
end Sys2Proof.Machine

namespace Sys2Proof.Machine

/-- Settles O29: each command by what it makes of Shank where its condition holds, a trip by `Chan.shkSafe_trips`. -/
theorem shankTestsAndWatches : Obligations.ShankTestsAndWatches := by
  unfold Obligations.ShankTestsAndWatches
  intro s n h c x st loopSt same safe side only
  refine ⟨fun hmay hdue => ?_, fun hr => ?_,
    fun ha ht => ⟨fun hcut => ?cut, fun hcut hs => ?_, fun hcut hs => ?failed⟩, fun hr => ?_,
    fun d1 d2 => ⟨fun h1 h2 => ?clock, fun hne => ?_, fun h1 h2 => ?_⟩,
    fun iv marker => ⟨fun hno => ?_, fun hrun hm hf => ?_, fun hrun hm hf hg => ?_, fun hrun hm hf hg hbad => ?once,
      fun hrun hm hf hg hbad => ?twice, fun hrun hm => ?silent⟩,
    fun neg => ⟨fun hen hoff hopn => ?weld, fun hen hoff hopn => ?opened, fun hen hoff hon => ?mirror, fun hr => ?_⟩,
    fun ht hv => ?sf5, fun ht hflt hv => ?_, fun hr => ?_,
    fun word flip => ⟨fun hcrc hok => ?_, fun hbad => ?param⟩⟩ <;>
    refine s.becomes_onSole n 2 _ _ h ?_
  · exact if_pos ⟨hmay, hdue⟩
  · refine if_neg ?_
    rwa [not_and_or, Bool.not_eq_true, Nat.not_le]
  case cut =>
    obtain ⟨t, hk⟩ := c.tpEnd_cut s.env ha ht hcut
    rw [hk]
    refine ⟨rfl, fun hon => ?_, fun hon hen => ?_, rfl⟩
    · exact (congrArg (sideOf · x.tpNeg) (if_pos hon)).trans (sideOf_setSide ..)
    · exact (congrArg (sideOf · x.tpNeg) (if_pos ⟨hon, hen⟩)).trans (sideOf_setSide ..)
  · exact c.tpEnd_passes s.env ha ht hcut hs
  case failed =>
    rw [c.tpEnd_fails s.env ha ht hcut hs]
    by_cases hl : loopSt ≠ .idle ∧ loopSt ≠ .fault
    · obtain ⟨⟨hst, -⟩, t, hshk⟩ := c.tpFailed.shkStop1_asks s.env
      rw [if_pos hl, if_pos hl]
      exact ⟨congrArg Shk.tpFail hshk, congrArg (fun x : Shk => x.r.tp) hshk, hst⟩
    · rw [if_neg hl, if_neg hl]
      exact ⟨c.tpFailed.shkSafe_keeps s.env Shk.tpFail fun _ _ _ _ => rfl,
        c.tpFailed.shkSafe_keeps s.env (fun x => x.r.tp) fun _ _ _ _ => rfl, c.tpFailed.shkSafe_trips s.env⟩
  · refine if_neg ?_
    rwa [not_and_or, Bool.not_eq_true, Nat.not_le]
  case clock =>
    rw [c.shkClock_trips s.env (of_decide_eq_true h1) (of_decide_eq_true h2)]
    let z : Chan := { c with shk := { x with onRc := true, clkTrip := true, refOk := none } }
    exact ⟨z.shkSafe_keeps s.env Shk.onRc fun _ _ _ _ => rfl, z.shkSafe_keeps s.env Shk.clkTrip fun _ _ _ _ => rfl,
      z.shkSafe_keeps s.env Shk.refOk fun _ _ _ _ => rfl, z.shkSafe_trips s.env⟩
  · exact c.shkClock_one s.env hne
  · exact c.shkClock_near s.env h1 h2
  · exact c.shkPw_stopped s.env iv marker hno
  · rw [hm]
    exact c.shkPw_first s.env iv hrun hf
  · rw [hm]
    exact c.shkPw_good s.env iv hrun hf hg
  case once =>
    rw [hm, c.shkPw_bad s.env iv hrun hf hg, hbad]
    rfl
  case twice =>
    rw [hm, c.shkPw_bad s.env iv hrun hf hg, if_pos (Nat.succ_le_succ (Nat.one_le_iff_ne_zero.2 hbad))]
    let z : Chan := { c with shk := { c.pwShk iv (min (c.shk.pwBad + 1) 2) with pwWd := true } }
    exact ⟨z.shkSafe_keeps s.env Shk.pwWd fun _ _ _ _ => rfl, z.shkSafe_trips s.env⟩
  case silent =>
    rw [hm, c.shkPw_silent s.env iv hrun]
    let z : Chan := { c with shk := { x with pwBad := 2, pwWd := true } }
    exact ⟨z.shkSafe_keeps s.env Shk.pwWd fun _ _ _ _ => rfl, z.shkSafe_keeps s.env (fun x => x.r.pw) fun _ _ _ _ => rfl,
      z.shkSafe_trips s.env⟩
  case weld =>
    rw [c.shkWeld_stuck s.env neg hen hoff hopn]
    obtain ⟨hl, hp⟩ := ({ c with shk.tOffC := setSide x.tOffC neg none } : Chan).shkRaise_raises s.env 6 0 (by decide)
    exact ⟨hl, hp, sideOf_setSide .., rfl⟩
  case opened =>
    rw [c.shkWeld_opened s.env neg hen hoff hopn]
    exact ⟨sideOf_setSide .., rfl⟩
  case mirror =>
    obtain ⟨j, hk⟩ := c.shkWeld_on s.env neg hen hoff hon
    rw [hk]
    exact ⟨sideOf_latched .., sideOf_setSide .., rfl⟩
  · exact c.shkWeld_rests s.env neg hr
  case sf5 =>
    rw [c.shkDischarge_fails s.env ht hv]
    obtain ⟨hl, hp⟩ := c.sf5Timed.shkRaise_raises s.env 5 0 (by decide)
    exact ⟨hl, hp, rfl, rfl, rfl⟩
  · exact c.shkDischarge_passes s.env ht hflt hv
  · exact if_neg (ne_true_of_eq_false hr)
  · exact c.shkBlockCheck_good s.env word flip hcrc hok
  case param =>
    rw [c.shkBlockCheck_bad s.env word flip hbad]
    obtain ⟨t, i, m, p, mt, l, j, q, o, hk, hset⟩ :=
      ({ c.blockHit word flip with shk.r.status.paramBad := true } : Chan).disarm_at s.env
    dsimp only
    rw [hk]
    exact ⟨rfl, rfl, rfl, rfl, hset⟩

end Sys2Proof.Machine

namespace Sys2Proof.Machine

/-! ### The descriptors of Shank (R447, R448, R452 to R454) -/

/-- They reach the operations of their Sole. -/
theorem State.descOp_shank (s : State) (n : Nat) (d : Desc) (ref : DescRef) (hn : n < 4) :
    (d.opcode = 0x0601 → d.onlyBits (0x000F000F :: List.replicate 6 0xFFFFFFFF) = true →
        s.descOp n d ref = s.chAct n fun e k => k.dShkParam e d)
      ∧ (d.opcode = 0x0602 → d.onlyBits [0xFFFFFFFF] = true → s.descOp n d ref = s.chAct n fun _ k => k.dShkConfirm d)
      ∧ (d.opcode = 0x0603 → d.onlyBits [0xF3F] = true → s.descOp n d ref = s.chAct n fun e k => k.dShkReset e d)
      ∧ (d.opcode = 0x0604 → d.onlyBits [] = true → s.descOp n d ref = s.chAct n fun e k => k.dShkTest e d) := by
  have h4 : n ≠ 4 := by omega
  refine ⟨fun hop hb => ?_, fun hop hb => ?_, fun hop hb => ?_, fun hop hb => ?_⟩ <;>
    simp only [State.descOp, State.dieOp, State.chOp, payMask, Desc.ledgerBits, hop, h4, hn, hb, if_true, if_false,
      Option.any_some, Bool.not_true, Bool.or_self, Bool.false_eq_true]

/-- Words put into a vector one after the other. -/
theorem vget_putWords {N : Nat} (f : Nat → Word) (pos m : Nat) (v : Vector Word N) (i : Nat) (hi : i < N) :
    vget ((List.range m).foldl (fun (v : Vector Word N) j => v.setIfInBounds (pos + j) (f j)) v) i 0
      = if pos ≤ i ∧ i < pos + m then f (i - pos) else vget v i 0 := by
  induction m with
  | zero => exact (if_neg (by omega)).symm
  | succ m ih =>
    rw [List.range_succ, List.foldl_append, List.foldl_cons, List.foldl_nil]
    by_cases hm : i = pos + m
    · subst hm
      rw [if_pos (by omega), Nat.add_sub_cancel_left]
      simp [vget, hi]
    · have hlast : i < pos + (m + 1) ↔ i < pos + m := by omega
      simp only [hlast, ← ih]
      simp [vget, Ne.symm hm]

namespace Chan

variable (k : Chan) (e : Env) (d : Desc)

/-! #### 0x0601 -/

theorem dShkParam_life (h : k.key.r.lcStatus.state ≠ .verify ∧ k.key.r.lcStatus.state ≠ .service) :
    k.dShkParam e d = (k, some 0x90) := if_pos h

section Param

variable (hlc : k.key.r.lcStatus.state = .verify ∨ k.key.r.lcStatus.state = .service)
include hlc

theorem dShkParam_busy (h : k.loop.r.status.state ≠ .idle) : k.dShkParam e d = (k, some 0x91) := by
  have hno : ¬(k.key.r.lcStatus.state ≠ .verify ∧ k.key.r.lcStatus.state ≠ .service) := fun hc => hlc.elim hc.1 hc.2
  exact (if_neg hno).trans (if_pos h)

variable (hl : k.loop.r.status.state = .idle)
include hl

theorem dShkParam_idle : k.dShkParam e d =
    if d.fld 0 16 4 = 0 ∨ 6 < d.fld 0 16 4 ∨ 16 < d.fld 0 0 4 + d.fld 0 16 4 then (k, some 0x92) else
      let b := (List.range (d.fld 0 16 4)).foldl (fun (b : Vector Word 16) j => b.setIfInBounds (d.fld 0 0 4 + j) (d.pay (1 + j)))
        k.shk.block
      let z : Chan := { k with shk := { k.shk with
        block := b, stored := b, storedCrc := blockCrc b, storedOk := true
        r.crc := blockCrc b, r.confCrc := 0, r.status.paramBad := false } }
      (if z.shk.r.status.state = .init then z else z.shkUnarmed e, some 0) := by
  have hno : ¬(k.key.r.lcStatus.state ≠ .verify ∧ k.key.r.lcStatus.state ≠ .service) := fun hc => hlc.elim hc.1 hc.2
  exact (if_neg hno).trans (if_neg (not_not_intro hl))

end Param

/-! #### 0x0602 -/

theorem dShkConfirm_other (h : d.pay 0 ≠ k.shk.r.crc) : k.dShkConfirm d = (k, some 0x93) := if_pos h

theorem dShkConfirm_range (h : d.pay 0 = k.shk.r.crc) (hr : k.shk.inRange = false) : k.dShkConfirm d = (k, some 0x92) :=
  (if_neg (not_not_intro h)).trans (if_pos (congrArg not hr))

theorem dShkConfirm_takes (h : d.pay 0 = k.shk.r.crc) (hr : k.shk.inRange = true) :
    k.dShkConfirm d = ({ k with shk.r.confCrc := d.pay 0 }, some 0) :=
  (if_neg (not_not_intro h)).trans (if_neg (by rw [hr]; exact Bool.false_ne_true))

/-! #### 0x0603 -/

/-- A function is named whose condition does not hold. -/
def resetBarred : Bool := (List.range 12).any fun b => d.bit 0 b && !(k.shkResetOk e b)

theorem resetBarred_iff : k.resetBarred e d = true ↔ ∃ b, b < 12 ∧ d.bit 0 b = true ∧ k.shkResetOk e b = false := by
  simp only [resetBarred, List.any_eq_true, List.mem_range, Bool.and_eq_true, Bool.not_eq_true']

theorem dShkReset_refuses (h : ∃ b, b < 12 ∧ d.bit 0 b = true ∧ k.shkResetOk e b = false) :
    k.dShkReset e d = (k, some 0x94) := if_pos ((k.resetBarred_iff e d).2 h)

/-- Shank with the functions reset that a 0x0603 names. -/
def resetShk : Shk := { k.shk with
  r.demand := { k.shk.r.demand with latch := k.shk.r.demand.latch &&& ~~~((d.pay 0).extractLsb' 0 6) }
  tpFail := k.shk.tpFail && !d.bit 0 8
  inhibTest := k.shk.inhibTest && !d.bit 0 8
  pwWd := k.shk.pwWd && !d.bit 0 9
  pwBad := if d.bit 0 9 then 0 else k.shk.pwBad
  clkTrip := k.shk.clkTrip && !d.bit 0 10
  onRc := k.shk.onRc && !d.bit 0 10
  disc := if d.bit 0 11 then (false, false) else k.shk.disc }

theorem dShkReset_resets (h : ∀ b, b < 12 → d.bit 0 b = true → k.shkResetOk e b = true) :
    k.dShkReset e d = ({ k with shk := k.resetShk d }, some 0) := by
  refine if_neg fun hc => ?_
  obtain ⟨b, hb, hn, hno⟩ := (k.resetBarred_iff e d).1 hc
  exact Bool.false_ne_true (hno.symm.trans (h b hb hn))

theorem resetShk_latch (b : Nat) (hb : b < 6) :
    mbit (k.resetShk d).r.demand.latch b = (mbit k.shk.r.demand.latch b && !(d.bit 0 b)) := by
  simp [resetShk, mbit, Desc.bit, hb]

/-- A latched SF5 is not reset while V11 reads 60 V or more (R446). -/
theorem shkResetOk_sf5 (hl : mbit k.shk.r.demand.latch 4 = true) (hv : 60 ≤ k.vCon) : k.shkResetOk e 4 = false := by
  simp only [shkResetOk, hl, v11Low, decide_eq_false (not_lt.2 hv)]
  rfl

/-! #### 0x0604 -/

theorem dShkTest_refuses
    (h : k.shk.r.tp.active = true ∨ (k.shk.r.status.state ≠ .ready ∧ k.shk.r.status.state ≠ .degraded)) :
    k.dShkTest e d = (k, some 0x95) := if_pos h

/-- A test that may start, starts: the output is the one whose turn it is (R439). -/
theorem dShkTest_starts (ha : k.shk.r.tp.active = false)
    (hst : k.shk.r.status.state = .ready ∨ k.shk.r.status.state = .degraded) (hb : k.shk.tpBack = false)
    (ho : (vget k.ey.r.ostat (k.shk.out k.shk.r.tp.next) {}).state ≠ .inrush) : k.dShkTest e d =
    ({ k with shk := { k.shk with
        tpDue := e.now + sNs (k.shk.fld 14 16 16), tpT := e.now, tpNeg := k.shk.r.tp.next
        tpOn := k.coilOn (k.shk.out k.shk.r.tp.next), tpSeen := false
        r.tp := { k.shk.r.tp with active := true, next := !k.shk.r.tp.next } } }, some 0) := by
  have hno : ¬(k.shk.r.tp.active = true ∨ (k.shk.r.status.state ≠ .ready ∧ k.shk.r.status.state ≠ .degraded)) := by
    rw [ha, ← not_or]
    exact not_or.2 ⟨Bool.false_ne_true, not_not_intro hst⟩
  have hmay : ({ k with shk.tpDue := e.now } : Chan).tpMay = true := by
    unfold tpMay
    dsimp only
    refine (Bool.and_eq_true_iff ..).2 ⟨?_, decide_eq_true ho⟩
    obtain hst | hst := hst
    · rw [hst, ha, hb]
      rfl
    · rw [hst, ha, hb]
      rfl
  refine (if_neg hno).trans (congrArg (Prod.mk · (some 0)) ?_)
  exact if_pos ⟨hmay, Nat.le_refl e.now⟩

end Chan

/-- Settles O30: each descriptor by what its operation answers, run at its Sole by `executes_answer`. -/
theorem shankDescriptors : Obligations.ShankDescriptors := by
  unfold Obligations.ShankDescriptors
  intro s n d hn h c x st same
  obtain ⟨hpar, hconf, hreset, htest⟩ := (s.taken n d).descOp_shank n d (s.refOf n d) hn
  have henv := s.taken_env n d hn
  refine ⟨fun hop hb => ?param, fun hop hb => ⟨fun hcrc hr => ?_, fun hcrc hr => ?_, fun hcrc => ?_⟩,
    fun hop hb => ?reset, fun hop hb => ⟨fun hr => ?_, fun ha hst hback ho => ?test⟩⟩
  case param =>
    intro word m lc
    have hd := hpar hop hb
    refine ⟨fun hv hs => ?_, fun hlc hl => ?_, fun hlc hl hm => ?_, fun hlc hl h1 h6 h16 => ?_⟩
    · exact s.executes_answer n _ d _ hn h hop hd (c.dShkParam_life _ d ⟨hv, hs⟩) rfl
    · exact s.executes_answer n _ d _ hn h hop hd (c.dShkParam_busy _ d hlc hl) rfl
    · exact s.executes_answer n _ d _ hn h hop hd ((c.dShkParam_idle _ d hlc hl).trans (if_pos hm)) rfl
    · have hok : ¬(m = 0 ∨ 6 < m ∨ 16 < word + m) := by omega
      refine s.executes_answer n _ d _ hn h hop hd ((c.dShkParam_idle _ d hlc hl).trans (if_neg hok)) ?_
      obtain ⟨t, i, mk, p, mt, l, j, q, o, hk, hset⟩ := Chan.disarm_at _ (s.taken n d).env
      rw [hk]
      exact ⟨fun j hj => vget_putWords (fun j => d.pay (1 + j)) word m x.block j hj, rfl, rfl, rfl, rfl, rfl, rfl, rfl, hset⟩
  · exact s.executes_answer n _ d _ hn h hop (hconf hop hb) (c.dShkConfirm_takes d hcrc hr) rfl
  · exact s.executes_answer n _ d _ hn h hop (hconf hop hb) (c.dShkConfirm_range d hcrc hr) rfl
  · exact s.executes_answer n _ d _ hn h hop (hconf hop hb) (c.dShkConfirm_other d hcrc) rfl
  case reset =>
    have hd := hreset hop hb
    rw [← henv]
    have hbarred (hno : ∃ b, b < 12 ∧ d.bit 0 b = true ∧ c.shkResetOk (s.taken n d).env b = false) :
        same (exec (.shkReset d) s) 0x94 :=
      s.executes_answer n _ d _ hn h hop hd (c.dShkReset_refuses _ d hno) rfl
    refine ⟨hbarred, fun hall => ?_, fun h4 hl hv => hbarred ⟨4, by decide, h4, c.shkResetOk_sf5 _ hl hv⟩⟩
    exact s.executes_answer n _ d _ hn h hop hd (c.dShkReset_resets _ d hall)
      ⟨fun b hb => c.resetShk_latch d b hb, rfl, rfl, rfl, rfl, rfl, rfl, rfl⟩
  · exact s.executes_answer n _ d _ hn h hop (htest hop hb) (c.dShkTest_refuses _ d hr) rfl
  case test =>
    exact s.executes_answer n _ d _ hn h hop (htest hop hb) (c.dShkTest_starts _ d ha hst hback ho)
      ⟨rfl, rfl, congrArg Env.now henv, rfl, rfl⟩

end Sys2Proof.Machine

namespace Sys2Proof.Machine

/-! ### The sequence number of the site PDUs (R434): nothing that follows from a change of a channel changes it -/

namespace Chan

variable (k : Chan) (e : Env)

theorem branch_siteSeq {c : Prop} [Decidable c] {x y : Chan} {q : BitVec 8} (hx : x.shk.siteSeq = q) (hy : y.shk.siteSeq = q) :
    (if c then x else y).shk.siteSeq = q :=
  iteInduction (motive := fun z : Chan => z.shk.siteSeq = q) (fun _ => hx) fun _ => hy

@[simp] theorem loopStop_siteSeq (t : Bool) : (k.loopStop e t).shk.siteSeq = k.shk.siteSeq := by
  obtain ⟨l, p, hk, -⟩ := k.loopStop_leaves e t
  rw [hk]

@[simp] theorem sessEstimate_siteSeq : (k.sessEstimate e).shk.siteSeq = k.shk.siteSeq := by
  unfold sessEstimate trendUpdate forecast
  dsimp only
  split
  · rfl
  · split <;> rfl

@[simp] theorem shkSet_siteSeq (st : ShkState) : (k.shkSet e st).shk.siteSeq = k.shk.siteSeq := by
  obtain ⟨t, j, o, hk⟩ := k.shkSet_at e st
  rw [hk]

@[simp] theorem shkSession_siteSeq (com : Bool) : (k.shkSession e com).shk.siteSeq = k.shk.siteSeq := by
  cases com <;> rfl

theorem shkCoils_siteSeq : (k.shkCoils e).shk.siteSeq = k.shk.siteSeq := by
  exact iteInduction (motive := fun x : Shk => x.siteSeq = k.shk.siteSeq) (fun _ => rfl) fun _ =>
    iteInduction (motive := fun x : Shk => x.siteSeq = k.shk.siteSeq) (fun _ => rfl) fun _ => rfl

theorem shkSettle_siteSeq : (k.shkSettle e).shk.siteSeq = k.shk.siteSeq := by
  unfold shkSettle
  refine Eq.trans ?_ (k.shkCoils_siteSeq e)
  dsimp only [shkView]
  split
  · exact shkSet_siteSeq ..
  · rfl

/-! #### The vehicle session -/

@[simp] theorem vEvt_siteSeq (code data : Nat) : (k.vEvt e code data).shk.siteSeq = k.shk.siteSeq := by
  obtain ⟨q, t, ovf, cnt, js, os, hk⟩ := k.vEvt_leaves e code data
  rw [hk]

@[simp] theorem vCause_siteSeq (c : Nat) : (k.vCause c).shk.siteSeq = k.shk.siteSeq := by
  obtain ⟨x, hk⟩ := k.vCause_leaves c
  rw [hk]

@[simp] theorem vStop_siteSeq (c : Nat) : (k.vStop e c).shk.siteSeq = k.shk.siteSeq := by
  obtain ⟨l, p, hk, -⟩ := k.vStop_leaves e c
  rw [hk]
  exact k.vCause_siteSeq c

@[simp] theorem vShutdown_siteSeq (dis : Bool) : (k.vShutdown e dis).shk.siteSeq = k.shk.siteSeq := by
  unfold vShutdown
  rw [sessEstimate_siteSeq]
  dsimp only [vGo]
  split
  · rw [loopStop_siteSeq]
  · rfl

@[simp] theorem vSignal_siteSeq : (k.vSignal e).shk.siteSeq = k.shk.siteSeq := by
  unfold vSignal
  dsimp only
  split <;> split <;> simp

@[simp] theorem recClose_siteSeq (c : Nat) (x : BitVec 16) : (k.recClose e c x).shk.siteSeq = k.shk.siteSeq := by
  unfold recClose
  split <;> rfl

@[simp] theorem vLoopEnd_siteSeq : (k.vLoopEnd e).shk.siteSeq = k.shk.siteSeq := by
  have hev (d : Nat) : (if k.veh.owe09 ∧ !k.vIn [.transfer] then ({ k with veh.owe09 := false } : Chan).vEvt e 0x09 d
      else k).shk.siteSeq = k.shk.siteSeq := branch_siteSeq (vEvt_siteSeq ..) rfl
  unfold vLoopEnd
  split
  · exact branch_siteSeq ((recClose_siteSeq ..).trans (hev _)) (hev _)
  · exact branch_siteSeq ((recClose_siteSeq ..).trans (hev _)) (hev _)
  · rfl

@[simp] theorem vMove_siteSeq : (k.vMove e).shk.siteSeq = k.shk.siteSeq := by
  unfold vMove
  dsimp only
  repeat' split
  all_goals simp [vPlug, vGo, vAns, send]

theorem vSettle_siteSeq : (k.vSettle e).shk.siteSeq = k.shk.siteSeq := by
  have hmoved : ((((((k.vMove e).vLoopEnd e).vMove e).vLoopEnd e).vMove e)).shk.siteSeq = k.shk.siteSeq := by simp
  exact branch_siteSeq hmoved hmoved

@[simp] theorem vCommLost_siteSeq : (k.vCommLost e).shk.siteSeq = k.shk.siteSeq := by
  unfold vCommLost
  dsimp only
  split <;> simp

theorem volView_siteSeq : (k.volView e).shk.siteSeq = k.shk.siteSeq := by
  unfold volView volZero vTlsLost
  dsimp only
  repeat' split
  all_goals simp

/-! #### The ledger and the views -/

theorem ledgView_siteSeq : (k.ledgView e).shk.siteSeq = k.shk.siteSeq := by
  obtain ⟨js, st, hk, -⟩ := k.ledgView_shows e
  rw [hk]

theorem recTrack_siteSeq : (k.recTrack e).shk.siteSeq = k.shk.siteSeq := by
  unfold recTrack recFlag
  split
  · rfl
  · split <;> rfl

theorem settle_siteSeq (old : Chan) : (k.settle old e).shk.siteSeq = k.shk.siteSeq := by
  have hledg : ((((k.shkSettle e).vSettle e).vLimits.recTrack e).ledgView e).shk.siteSeq = k.shk.siteSeq :=
    calc
      _ = (((k.shkSettle e).vSettle e).vLimits.recTrack e).shk.siteSeq := ledgView_siteSeq ..
      _ = ((k.shkSettle e).vSettle e).shk.siteSeq := recTrack_siteSeq ..
      _ = (k.shkSettle e).shk.siteSeq := vSettle_siteSeq ..
      _ = k.shk.siteSeq := k.shkSettle_siteSeq e
  have hdrain (z : Chan) : z.svcDrain.shk = z.shk := by
    unfold svcDrain
    dsimp only
    split <;> rfl
  have hview (z : Chan) : ((((z.pcView old).linkView).capView old e).attnView old).shk = z.shk := by
    unfold attnView capView linkView pcView
    dsimp only
    repeat' split
    all_goals rfl
  unfold settle
  dsimp only
  rw [hview, volView_siteSeq, hdrain]
  exact hledg

end Chan

theorem State.after_siteSeq (s : State) (n : Nat) (k : Chan) : (s.after n k).shk.siteSeq = k.shk.siteSeq := by
  unfold State.after
  split
  · exact k.settle_siteSeq s.env _
  · rfl

end Sys2Proof.Machine

namespace Sys2Proof.Machine

/-! ### The demands of the sources (R428) -/

/-- k is c with the levels of SF1 and SF2 judged anew: a source that newly demands latches its function. -/
def Chan.SourcesJudged (c k : Chan) : Prop :=
  let n1 := k.shk.lv1 &&& ~~~c.shk.lv1
  let n2 := k.shk.lv2 &&& ~~~c.shk.lv2
  k.shk.lv1 = k.shk.levels 1 ∧ k.shk.lv2 = k.shk.levels 2
  ∧ (n1 ≠ 0 → mbit k.shk.r.demand.latch 0 = true ∧ k.shk.pend0 = true ∧ k.shk.r.demand.lastSrc = lastSrcOf n1)
  ∧ (n2 ≠ 0 → mbit k.shk.r.demand.latch 1 = true ∧ k.shk.pend0 = true)
  ∧ (n1 = 0 → n2 = 0 → k.shk.r.demand = c.shk.r.demand ∧ k.shk.pend0 = c.shk.pend0)
  ∧ k.shk.pend1 = c.shk.pend1 ∧ k.shk.r.status = c.shk.r.status ∧ k.shk.block = c.shk.block
  ∧ k = { c with shk := k.shk, met := k.met, jq := k.jq }

namespace Chan

variable (k : Chan) (e : Env)

/-- A demand of category 0 of function f, of SF1 with its source. -/
theorem shkRaise_cat0 (f : Nat) (src : BitVec 4) : ∃ cnt m j, k.shkRaise e f false src = { k with
    shk := { k.shk with
      r.demand := { k.shk.r.demand with
        latch := msetb k.shk.r.demand.latch (f - 1) true, lastSrc := if f = 1 then src else k.shk.r.demand.lastSrc }
      r.cnt := cnt, pend0 := true }
    met := m, jq := j } := by
  unfold shkRaise jr
  simp only [Bool.not_false, Bool.or_true, Bool.or_false]
  exact ⟨_, _, _, rfl⟩

/-- What the judging of the sources changes of Shank. -/
theorem shkLevels_judges : k.SourcesJudged (k.shkLevels e) ∧ ∃ t q cnt p, (k.shkLevels e).shk = { k.shk with
    lv1 := k.shk.levels 1, lv2 := k.shk.levels 2, tripReq := t, r.demand := q, r.cnt := cnt, pend0 := p } := by
  let n1 := k.shk.levels 1 &&& ~~~k.shk.lv1
  let n2 := k.shk.levels 2 &&& ~~~k.shk.lv2
  let z : Chan := { k with shk := { k.shk with
    lv1 := k.shk.levels 1, lv2 := k.shk.levels 2, tripReq := k.shk.tripReq || (k.shk.siteMaster && n1.getLsbD 0) } }
  let y : Chan := if n1 ≠ 0 then z.shkRaise e 1 false (lastSrcOf n1) else z
  have hk : k.shkLevels e = if n2 ≠ 0 then y.shkRaise e 2 false else y := rfl
  by_cases h1 : n1 = 0
  · have hy : y = z := if_neg (not_not_intro h1)
    rw [hk, hy]
    by_cases h2 : n2 = 0
    · rw [if_neg (not_not_intro h2)]
      exact ⟨⟨rfl, rfl, fun h => absurd h1 h, fun h => absurd h2 h, fun _ _ => ⟨rfl, rfl⟩, rfl, rfl, rfl, rfl⟩, _, _, _, _, rfl⟩
    · obtain ⟨cnt, m, j, hz⟩ := z.shkRaise_cat0 e 2 0
      rw [if_pos h2, hz]
      exact ⟨⟨rfl, rfl, fun h => absurd h1 h, fun _ => ⟨mbit_msetb_same _ 1 true (by decide), rfl⟩, fun _ h => absurd h h2,
        rfl, rfl, rfl, rfl⟩, _, _, _, _, rfl⟩
  · obtain ⟨cnt, m, j, hz⟩ := z.shkRaise_cat0 e 1 (lastSrcOf n1)
    have hy : y = _ := (if_pos h1).trans hz
    have hlatch (x : BitVec 6) : mbit (msetb x 0 true) 0 = true := mbit_msetb_same x 0 true (by decide)
    rw [hk]
    by_cases h2 : n2 = 0
    · rw [if_neg (not_not_intro h2), hy]
      exact ⟨⟨rfl, rfl, fun _ => ⟨hlatch _, rfl, rfl⟩, fun h => absurd h2 h, fun h => absurd h h1, rfl, rfl, rfl, rfl⟩,
        _, _, _, _, rfl⟩
    · obtain ⟨cnt', m', j', hy'⟩ := y.shkRaise_cat0 e 2 0
      rw [hy] at hy'
      rw [if_pos h2, hy, hy']
      exact ⟨⟨rfl, rfl, fun _ => ⟨(mbit_msetb_other _ 1 0 true (by decide)).trans (hlatch _), rfl, rfl⟩,
        fun _ => ⟨mbit_msetb_same _ 1 true (by decide), rfl⟩, fun h => absurd h h1, rfl, rfl, rfl, rfl⟩, _, _, _, _, rfl⟩

end Chan

/-! ### The lands (R430) -/

namespace Shk

variable (x : Shk) (now : Nat) (lands : BitVec 6)

/-- One land sampled. -/
def sampleLand (i : Nat) : Shk :=
  let v := lands.getLsbD i
  if x.r.input.lands.getLsbD i = v then { x with tDiff := x.tDiff.setIfInBounds i none }
  else
    let t := (vget x.tDiff i none).getD now
    if t + x.filt i ≤ now then
      { x with tDiff := x.tDiff.setIfInBounds i none, r.input.lands := msetb x.r.input.lands i v }
    else { x with tDiff := x.tDiff.setIfInBounds i (some t) }

/-- The filtered level of a land after a sample. -/
def filtered (i : Nat) : Bool :=
  if now < (vget x.tDiff i none).getD now + x.filt i then x.r.input.lands.getLsbD i else lands.getLsbD i

/-- The land sampled takes its filtered level; the others and their times are as before. -/
theorem sampleLand_at (i : Nat) (hi : i < 6) : ∃ td l, x.sampleLand now lands i = { x with tDiff := td, r.input.lands := l }
    ∧ l.getLsbD i = x.filtered now lands i
    ∧ ∀ j, j ≠ i → l.getLsbD j = x.r.input.lands.getLsbD j ∧ vget td j none = vget x.tDiff j none := by
  have htd (t : Option Nat) (j : Nat) (hj : j ≠ i) : vget (x.tDiff.setIfInBounds i t) j none = vget x.tDiff j none :=
    vget_vset_other x.tDiff i j t none hj
  unfold sampleLand filtered
  dsimp only
  by_cases heq : x.r.input.lands.getLsbD i = lands.getLsbD i
  · rw [if_pos heq, heq, ite_self]
    exact ⟨_, _, rfl, heq, fun j hj => ⟨rfl, htd _ j hj⟩⟩
  · rw [if_neg heq]
    by_cases ht : (vget x.tDiff i none).getD now + x.filt i ≤ now
    · rw [if_pos ht, if_neg (Nat.not_lt.2 ht)]
      exact ⟨_, _, rfl, mbit_msetb_same _ i _ hi, fun j hj => ⟨mbit_msetb_other _ i j _ hj, htd _ j hj⟩⟩
    · rw [if_neg ht, if_pos (Nat.not_le.1 ht)]
      exact ⟨_, _, rfl, rfl, fun j hj => ⟨rfl, htd _ j hj⟩⟩

/-- A pass over the first lands filters each as it stood before. -/
theorem sampleLands_at (c : Nat) (hc : c ≤ 6) : ∃ td l,
    (List.range c).foldl (fun x i => x.sampleLand now lands i) x = { x with tDiff := td, r.input.lands := l }
    ∧ (∀ i, i < c → l.getLsbD i = x.filtered now lands i)
    ∧ ∀ i, c ≤ i → l.getLsbD i = x.r.input.lands.getLsbD i ∧ vget td i none = vget x.tDiff i none := by
  induction c with
  | zero => exact ⟨_, _, rfl, fun i hi => absurd hi (Nat.not_lt_zero i), fun _ _ => ⟨rfl, rfl⟩⟩
  | succ c ih =>
    obtain ⟨td, l, hx, hdone, hleft⟩ := ih (Nat.le_of_succ_le hc)
    obtain ⟨td', l', hx', hnew, hothers⟩ := sampleLand_at { x with tDiff := td, r.input.lands := l } now lands c hc
    obtain ⟨hl, ht⟩ := hleft c (Nat.le_refl c)
    refine ⟨td', l', ?_, fun i hi => ?_, fun i hi => ?_⟩
    · rw [List.range_succ, List.foldl_append, hx]
      exact hx'
    · obtain hlt | rfl : i < c ∨ i = c := by omega
      · exact (hothers i (Nat.ne_of_lt hlt)).1.trans (hdone i hlt)
      · rw [hnew]
        unfold filtered
        dsimp only
        rw [hl, ht]
        rfl
    · obtain ⟨hl', ht'⟩ := hothers i (by omega)
      obtain ⟨hl, ht⟩ := hleft i (Nat.le_of_succ_le hi)
      exact ⟨hl'.trans hl, ht'.trans ht⟩

/-- Shank as the first sample of its lands finds it: the filtered levels are those of the lands (R430). -/
def sampledAt : Shk := if x.sampled then x else { x with sampled := true, r.input.lands := lands }

theorem sampledAt_eq : x.sampledAt lands =
    { x with sampled := true, r.input.lands := if x.sampled then x.r.input.lands else lands } := by
  cases h : x.sampled with
  | false => exact if_neg (ne_true_of_eq_false h)
  | true =>
    rw [sampledAt, if_pos h, if_pos rfl, ← h]

/-- The times from which the pairs differ and both mirror contacts read open, after a sample (R430, R445). -/
def landTimed : Shk :=
  let l := x.r.input.lands
  let df (used : Bool) (a b : Nat) (t : Option Nat) : Option Nat :=
    if used && (l.getLsbD a != l.getLsbD b) then some (t.getD now) else none
  { x with
    tPair := (df x.estopHw 0 1 x.tPair.1, df x.imdHw 2 3 x.tPair.2)
    tOpen := if l.getLsbD 4 && l.getLsbD 5 then some (x.tOpen.getD now) else none }

end Shk

/-- The lands as Shank takes them: filtered, or as they read where none has been sampled yet. -/
theorem Chan.shkSample_at (k : Chan) (e : Env) (lands : BitVec 6) : ∃ td l tp op, k.shkSample e lands =
      ({ k with shk := { k.shk with
          sampled := true, tDiff := td, r.input.lands := l, tPair := tp, tOpen := op } } : Chan).shkLevels e
    ∧ ∀ i, i < 6 → l.getLsbD i =
      if k.shk.sampled = true ∧ e.now < (vget k.shk.tDiff i none).getD e.now + k.shk.filt i then k.shk.r.input.lands.getLsbD i
      else lands.getLsbD i := by
  obtain ⟨td, l, hx, hall, -⟩ := (k.shk.sampledAt lands).sampleLands_at e.now lands 6 (Nat.le_refl 6)
  have hk : k.shkSample e lands = ({ k with shk := ((List.range 6).foldl
      (fun x i => x.sampleLand e.now lands i) (k.shk.sampledAt lands)).landTimed e.now } : Chan).shkLevels e := rfl
  rw [hx] at hk
  rw [k.shk.sampledAt_eq] at hk hall
  refine ⟨td, l, _, _, hk, fun i hi => (hall i hi).trans ?_⟩
  unfold Shk.filtered
  dsimp only
  cases hs : k.shk.sampled with
  | false => simp
  | true => simp [Shk.filt, Shk.fld]

end Sys2Proof.Machine

namespace Sys2Proof.Machine

/-! ### The pairs of lands, and the comparators of CE and ID (R430) -/

namespace Chan

variable (k : Chan) (e : Env) (ce id : Nat)

/-- The lands of a pair have differed for the time allowed. -/
theorem shkPair_due (imd : Bool)
    (h : held e.now (if imd then k.shk.tPair.2 else k.shk.tPair.1) (msNs (10 * k.shk.fld 2 8 8)) = true) :
    ∃ j, k.shkPair e imd = { k with
      shk.disc := if imd then (k.shk.disc.1, true) else (true, k.shk.disc.2), jq := j } := ⟨_, if_pos h⟩

/-- CE and ID lie within their limits. -/
def sf4InRange : Bool := decide (100 * k.shk.fld 10 24 8 ≤ ce) && decide (id < 100 * k.shk.fld 10 16 8)

theorem shkSf4_off (h : k.shk.coil = (false, false)) : k.shkSf4 e ce id = { k with shk.sf4Run := 0 } := by
  simp only [shkSf4, h, Bool.or_self, Bool.not_false, if_true]

section Compared

variable (h : k.shk.coil ≠ (false, false))
include h

/-- The channel with a sample compared, n of them out of range in a row. -/
def sf4Compared (n : Nat) : Chan := { k with shk := { k.shk with
  sf4Run := min n 3
  r.input := { k.shk.r.input with
    ceOk := decide (100 * k.shk.fld 10 24 8 ≤ ce), idOk := decide (id < 100 * k.shk.fld 10 16 8) } } }

theorem shkSf4_on : k.shkSf4 e ce id =
    let n := if k.sf4InRange ce id then 0 else k.shk.sf4Run + 1
    if n = 3 then (k.sf4Compared ce id n).shkSession e false else k.sf4Compared ce id n := by
  refine if_neg fun hc => ?_
  rw [Bool.not_eq_true', Bool.or_eq_false_iff] at hc
  exact h (Prod.ext hc.1 hc.2)

theorem shkSf4_good (hok : k.sf4InRange ce id = true) : k.shkSf4 e ce id =
    { k with shk := { k.shk with sf4Run := 0, r.input := { k.shk.r.input with ceOk := true, idOk := true } } } := by
  obtain ⟨hce, hid⟩ := Bool.and_eq_true_iff.1 hok
  have hz : k.sf4Compared ce id 0 =
      { k with shk := { k.shk with sf4Run := 0, r.input := { k.shk.r.input with ceOk := true, idOk := true } } } := by
    rw [sf4Compared, hce, hid]
    rfl
  rw [k.shkSf4_on e ce id h, if_pos hok]
  exact hz

variable (hok : k.sf4InRange ce id = false)
include hok

theorem shkSf4_bad : k.shkSf4 e ce id = if k.shk.sf4Run = 2 then (k.sf4Compared ce id 3).shkSession e false
    else k.sf4Compared ce id (k.shk.sf4Run + 1) := by
  rw [k.shkSf4_on e ce id h, if_neg (ne_true_of_eq_false hok)]
  by_cases h2 : k.shk.sf4Run = 2
  · rw [if_pos h2, h2]
    rfl
  · rw [if_neg h2]
    exact if_neg (by omega)

end Compared

end Chan

/-! ### The safe PDUs (R431 to R434) -/

namespace PduSrc

variable (p : PduSrc) (b : Bool) (x : PduPath)

theorem setPath_same : (p.setPath b x).path b = x := by cases b <;> rfl

theorem setPath_other : (p.setPath b x).path (!b) = p.path (!b) := by cases b <;> rfl

/-- q is source p with a new copy, the newest of a path; the other path is as before (R433). -/
def Took (now : Nat) (c : PduCopy) (q : PduSrc) : Prop :=
  (q.path b).seq = some c.seq ∧ (q.path b).tLast = now ∧ (q.path b).demands = decide (c.w4 &&& 3 ≠ 0)
    ∧ (q.path b).lost = (p.path b).lost ∧ q.path (!b) = p.path (!b)

theorem take_took (now wd win : Nat) (c : PduCopy) : p.Took b now c (p.take now wd win b c) := by
  cases b <;> exact ⟨rfl, rfl, rfl, rfl, rfl⟩

end PduSrc

/-- A source that a PDU matches is one of the six. -/
theorem Shk.srcOf_lt {x : Shk} {path i : Nat} {w0 : Word} (h : x.srcOf path w0 = some i) : i < 6 := by
  have hi := List.mem_of_find?_eq_some h
  by_cases hp : path < 2
  · rw [if_pos hp] at hi
    exact (by decide : ∀ i ∈ [0, 1, 2, 3], i < 6) i hi
  · rw [if_neg hp] at hi
    exact (by decide : ∀ i ∈ [4, 5], i < 6) i hi

namespace Chan

variable (k : Chan) (e : Env) (path : Nat) (w0 w1 w2 w3 : Word)

theorem shkPdu_counts (h : k.shk.srcOf path w0 = none ∨ k.shk.pduOk w0 w1 w2 w3 = false) : k.shkPdu e path w0 w1 w2 w3 =
    { k with shk.r.cnt := { k.shk.r.cnt with crcErr := satInc k.shk.r.cnt.crcErr } } := by
  unfold shkPdu
  dsimp only
  split
  · next hsrc hok =>
    obtain h | h := h
    · exact absurd (h.symm.trans hsrc) nofun
    · exact absurd (h.symm.trans hok) nofun
  · rfl

/-- The channel with source i replaced. -/
def withSrc (i : Nat) (p : PduSrc) : Chan := { k with shk.src := k.shk.src.setIfInBounds i p }

section Copy

variable {i : Nat} (hsrc : k.shk.srcOf path w0 = some i) (hok : k.shk.pduOk w0 w1 w2 w3 = true)
include hsrc hok

/-- A good copy: taken where its SEQ is not that of the newest (R433). -/
theorem shkPdu_good : k.shkPdu e path w0 w1 w2 w3 =
    let p := vget k.shk.src i {}
    let b := decide (path % 2 = 1)
    if (p.path b).seq = some (w0.extractLsb' 0 8) then k
    else (k.withSrc i (p.take e.now (k.shk.srcWd i) (msNs (k.shk.fld 7 16 8)) b
      { seq := w0.extractLsb' 0 8, w4 := w1, t := e.now })).shkLevels e := by
  simp only [shkPdu, hsrc, hok]
  rfl

end Copy

/-- A source replaced, and the levels judged: the source as it was put, and the others as before. -/
theorem withSrc_judged {i : Nat} (hi : i < 6) (p : PduSrc) (j : List JEntry) :
    let z := ({ k.withSrc i p with jq := j } : Chan).shkLevels e
    k.SourcesJudged z ∧ vget z.shk.src i {} = p ∧ ∀ m, m ≠ i → vget z.shk.src m {} = vget k.shk.src m {} := by
  obtain ⟨hj, t, q, cnt, pd, hshk⟩ := Chan.shkLevels_judges { k.withSrc i p with jq := j } e
  refine ⟨hj, ?_, fun m hm => ?_⟩
  · rw [hshk]
    exact vget_vset_same k.shk.src i p {} hi
  · rw [hshk]
    exact vget_vset_other k.shk.src i m p {} hm

/-! #### The loss and the return of a path -/

variable (i : Nat) (b : Bool)

/-- The path's watchdog has expired. -/
def pathDue (now : Nat) : Prop :=
  let p := (vget k.shk.src i {}).path b
  k.shk.srcUsed i = true ∧ (!p.lost) = true ∧ p.tLast + k.shk.srcWd i ≤ now

theorem shkPathLost_due (h : k.pathDue i b e.now) : ∃ j, k.shkPathLost e i b =
    ({ k.withSrc i ((vget k.shk.src i {}).setPath b { (vget k.shk.src i {}).path b with lost := true, okSince := none }) with
      jq := j } : Chan).shkLevels e := ⟨_, if_pos h⟩

theorem shkPathLost_rests (h : ¬k.pathDue i b e.now) : k.shkPathLost e i b = k := if_neg h

/-- The path has brought valid copies for 1 s. -/
def pathBack (now : Nat) : Prop :=
  let p := (vget k.shk.src i {}).path b
  p.lost = true ∧ held now p.okSince (sNs 1) = true ∧ now - p.tLast ≤ k.shk.srcWd i

theorem shkPathBack_due (h : k.pathBack i b e.now) : ∃ j, k.shkPathBack e i b =
    ({ k.withSrc i ((vget k.shk.src i {}).setPath b { (vget k.shk.src i {}).path b with lost := false, okSince := none }) with
      jq := j } : Chan).shkLevels e := ⟨_, if_pos h⟩

theorem shkPathBack_rests (h : ¬k.pathBack i b e.now) : k.shkPathBack e i b = k := if_neg h

/-! #### The PDU of a master -/

theorem shkSite_sends (g : Nat) (h : k.shk.siteMaster = true) : k.shkSite (some g) = { k with
    shk.siteSeq := k.shk.siteSeq + 1, oq := k.oq ++ [.frame .safe none (k.shk.sitePdu g)] } := by
  unfold shkSite
  rw [h]
  rfl

theorem shkSite_rests (g : Option Nat) (h : g = none ∨ k.shk.siteMaster = false) : k.shkSite g = k := by
  unfold shkSite
  split
  · next hm =>
    obtain h | h := h
    · exact absurd h nofun
    · exact absurd (h.symm.trans hm) nofun
  · rfl

end Chan

/-! ### The NID of the node is not changed by what its channels send -/

namespace Ring

variable (g : Ring)

theorem nid_emit (w : Bool) (h : Hdr) (ps : List Word) (b : Bool) : (g.emit w h ps b).nid = g.nid := by
  unfold emit
  split
  · rfl
  · split <;> rfl

theorem nid_setLink (w : Bool) (l : LinkSt) : (g.setLink w l).nid = g.nid := by
  cases w <;> rfl

theorem nid_sendTc0 (now : Nat) (w : Bool) (h : Hdr) (ps : List Word) : (g.sendTc0 now w h ps).nid = g.nid := by
  unfold sendTc0 cnt modLink
  dsimp only
  split
  · rw [nid_setLink, nid_setLink]
  · rw [nid_emit, nid_setLink]

theorem nid_originate (now : Nat) (t : FType) (dst : Option Nat) (ps : List Word) : (g.originate now t dst ps).nid = g.nid := by
  unfold originate
  dsimp only
  split
  · exact nid_emit ..
  · split
    · rw [nid_sendTc0, nid_sendTc0]
    · rw [nid_emit, nid_emit]

end Ring

namespace State

variable (s : State)

theorem nid_foldl {α : Type} (f : State → α → State) (hf : ∀ u a, (f u a).nid = u.nid) (l : List α) (s : State) :
    (l.foldl f s).nid = s.nid :=
  List.foldlRecOn l f (motive := fun t => t.nid = s.nid) rfl fun t ht a _ => (hf t a).trans ht

theorem nid_originate (t : FType) (dst : Option Nat) (ws : List Word) : (s.originate t dst ws).nid = s.nid := by
  unfold originate
  split
  · exact congrArg (Option.map fun n => n.toNat) (Ring.nid_originate ..)
  · rfl

theorem nid_complete (c : Compl) : (s.complete c).nid = s.nid := by
  unfold complete
  split
  · rfl
  · exact s.nid_originate ..

theorem nid_attention (w : Word) : (s.attention w).nid = s.nid := by
  unfold attention
  split
  · rfl
  · refine (nid_foldl _ (fun u m => u.nid_originate ..) _ _).trans ?_
    split <;> rfl

theorem nid_emit (o : Out) : (s.emit o).nid = s.nid := by
  unfold emit
  split
  · exact s.nid_originate ..
  · exact s.nid_attention _
  · exact s.nid_attention _
  · rfl

theorem nid_jTake (n : Nat) (x : JEntry) : (s.jTake n x).nid = s.nid := by
  unfold jTake
  split
  · rfl
  · rw [Hub.journal_eq]
    rfl

theorem nid_flush (n : Nat) : (s.flush n).nid = s.nid := by
  unfold flush
  dsimp only
  split
  · rfl
  · exact (nid_foldl _ (fun u o => u.nid_emit o) _ _).trans
      ((nid_foldl _ (fun u c => u.nid_complete c) _ _).trans (nid_foldl _ (fun u x => u.nid_jTake n x) _ _))

/-- A channel keeps its GCID when a channel of its node changes. -/
theorem gcid_withCh (n m : Nat) (k : Chan) : (s.withCh n k).gcid m = s.gcid m :=
  congrArg (Option.map fun x => 4 * x + m) (nid_flush _ n)

end State

section Site

variable (s : State) (n : Nat) (h : s.soleUp n 2 = true)
include h

theorem State.siteSend_rests (hno : s.gcid n = none ∨ (s.ch n).shk.siteMaster = false) :
    s.siteSend n = s.withCh n (s.ch n) := by
  have hn := ((s.soleUp_iff n 2).1 h).1
  have hsent : s.onSole n 2 (fun _ k => k.shkSite (s.gcid n)) = s.withCh n (s.ch n) := by
    rw [s.onSole_up n 2 _ h, (s.ch n).shkSite_rests _ hno]
  have hseq : ((s.withCh n (s.ch n)).ch n).shk.siteSeq = (s.ch n).shk.siteSeq := by
    rw [s.withCh_ch_same n _ hn, s.after_siteSeq]
  unfold State.siteSend
  dsimp only
  rw [hsent]
  split
  · exact if_pos hseq
  · rfl

theorem State.siteSend_sends (g : Nat) (hg : s.gcid n = some g) (hm : (s.ch n).shk.siteMaster = true) :
    s.siteSend n =
      let x := (s.ch n).shk
      let w (i : Nat) : Word := (x.sitePdu g).getD i 0
      (List.range 4).foldl (fun (t : State) m =>
        t.onSole m 2 fun e k => (k.shkPdu e 2 (w 0) (w 1) (w 2) (w 3)).shkPdu e 3 (w 0) (w 1) (w 2) (w 3))
        (s.withCh n { s.ch n with shk.siteSeq := x.siteSeq + 1, oq := (s.ch n).oq ++ [.frame .safe none (x.sitePdu g)] }) := by
  have hn := ((s.soleUp_iff n 2).1 h).1
  have hsent := s.onSole_up n 2 (fun _ k => k.shkSite (s.gcid n)) h
  simp only [hg, (s.ch n).shkSite_sends g hm] at hsent
  have hseq : ((s.withCh n { s.ch n with
      shk.siteSeq := (s.ch n).shk.siteSeq + 1
      oq := (s.ch n).oq ++ [.frame .safe none ((s.ch n).shk.sitePdu g)] }).ch n).shk.siteSeq ≠ (s.ch n).shk.siteSeq := by
    rw [s.withCh_ch_same n _ hn, s.after_siteSeq]
    dsimp only
    intro hc
    bv_omega
  unfold State.siteSend
  simp only [hsent, s.gcid_withCh, hg]
  exact if_neg hseq

end Site

end Sys2Proof.Machine

namespace Sys2Proof.Machine

/-- Settles O27: the lands by `Chan.shkSample_at`, the copies and the paths of a source by `Chan.withSrc_judged`, the PDU of a
master by `State.siteSend_sends`. -/
theorem shankInputs : Obligations.ShankInputs := by
  unfold Obligations.ShankInputs
  intro s n h c x same judged
  refine ⟨fun lands => ?sample, fun imd => ⟨fun hdue => ?_, fun hno => ?_⟩, fun h2 =>
    ⟨fun ce id => ⟨fun hoff => ?_, fun hon hok => ?_, fun hon hbad => ?sf4⟩,
      fun path p => ⟨fun hbad => ?_, fun i hsrc hok => ⟨fun hold => ?_, fun hnew => ?copy⟩⟩,
      fun i b hi => ⟨fun hused hlost ht => ?lost, fun hr => ?_, fun hlost hheld ht => ?back, fun hr => ?_⟩,
      fun hno => ?_, fun g hg hm => ?send⟩⟩
  case sample =>
    obtain ⟨td, l, tp, op, hk, hl⟩ := c.shkSample_at s.env lands
    let z : Chan := { c with shk := { x with sampled := true, tDiff := td, r.input.lands := l, tPair := tp, tOpen := op } }
    obtain ⟨hj, t, q, cnt, p, hshk⟩ := z.shkLevels_judges s.env
    refine ⟨z.shkLevels s.env, fun i hi => ?_, ?_, ?_, hj, ?_⟩
    · rw [hshk]
      exact hl i hi
    · rw [hshk]
    · rw [hshk]
    · have hon : s.onSole n 3 (fun e k => k.shkSample e lands) = s.withCh n (z.shkLevels s.env) := by
        rw [s.onSole_up n 3 _ h, hk]
      refine congrArg State.done ?_
      unfold State.landSample
      dsimp only
      rw [hon]
      simp only [Bool.not_eq_true']
      rfl
  · obtain ⟨j, hk⟩ := c.shkPair_due s.env imd hdue
    refine s.becomes_onSole n 3 _ _ h ?_
    rw [hk]
  · exact s.becomes_onSole n 3 _ _ h (if_neg (ne_true_of_eq_false hno))
  · exact s.becomes_onSole n 2 _ _ h2 (c.shkSf4_off s.env ce id hoff)
  · exact s.becomes_onSole n 2 _ _ h2 (c.shkSf4_good s.env ce id hon hok)
  case sf4 =>
    refine s.becomes_onSole n 2 _ _ h2 ?_
    rw [c.shkSf4_bad s.env ce id hon hbad]
    by_cases hrun : x.sf4Run = 2
    · obtain ⟨cnt, m, j, hz⟩ := ({ c.sf4Compared ce id 3 with shk.sf4Sig := true } : Chan).shkRaise_cat0 s.env 4 0
      have hses : (c.sf4Compared ce id 3).shkSession s.env false = _ := hz
      rw [if_pos hrun, hses]
      exact ⟨by rw [hrun]; rfl, fun _ => ⟨rfl, mbit_msetb_same _ 3 true (by decide), rfl⟩, fun hne => absurd hrun hne, rfl⟩
    · rw [if_neg hrun]
      exact ⟨Nat.min_comm .., fun h => absurd h hrun, fun _ => ⟨rfl, rfl, rfl⟩, rfl⟩
  · exact s.becomes_onSole n 2 _ _ h2 (c.shkPdu_counts s.env path _ _ _ _ hbad)
  · exact s.becomes_onSole n 2 _ _ h2 ((c.shkPdu_good s.env path _ _ _ _ hsrc hok).trans (if_pos hold))
  case copy =>
    let cp : PduCopy := { seq := p[0].extractLsb' 0 8, w4 := p[1], t := s.env.now }
    let q := (vget x.src i {}).take s.env.now (x.srcWd i) (msNs (x.fld 7 16 8)) (decide (path % 2 = 1)) cp
    have hk := (c.shkPdu_good s.env path _ _ _ _ hsrc hok).trans (if_neg hnew)
    obtain ⟨hj, hsame, hothers⟩ := c.withSrc_judged s.env (Shk.srcOf_lt hsrc) q c.jq
    have htook : (vget x.src i {}).Took (decide (path % 2 = 1)) s.env.now cp q := PduSrc.take_took ..
    obtain ⟨hseq, ht, hdem, hlost, hother⟩ := hsame.symm ▸ htook
    refine s.becomes_onSole n 2 _ _ h2 ?_
    rw [hk]
    exact ⟨hseq, ht, hdem, hlost, hother, hothers, hj⟩
  case lost =>
    obtain ⟨j, hk⟩ := c.shkPathLost_due s.env i b ⟨hused, congrArg not hlost, ht⟩
    obtain ⟨hj, hsame, hothers⟩ := c.withSrc_judged s.env hi _ j
    refine s.becomes_onSole n 2 _ _ h2 ?_
    rw [hk]
    exact ⟨(congrArg (PduSrc.path · b) hsame).trans (PduSrc.setPath_same ..),
      ⟨(congrArg (PduSrc.path · !b) hsame).trans (PduSrc.setPath_other ..), hothers⟩, hj⟩
  · refine s.becomes_onSole n 2 _ _ h2 (c.shkPathLost_rests s.env i b ?_)
    rwa [Chan.pathDue, not_and_or, not_and_or, Bool.not_eq_true, Bool.not_eq_true, Bool.not_eq_false', Nat.not_le]
  case back =>
    obtain ⟨j, hk⟩ := c.shkPathBack_due s.env i b ⟨hlost, hheld, ht⟩
    obtain ⟨hj, hsame, hothers⟩ := c.withSrc_judged s.env hi _ j
    refine s.becomes_onSole n 2 _ _ h2 ?_
    rw [hk]
    exact ⟨(congrArg (PduSrc.path · b) hsame).trans (PduSrc.setPath_same ..),
      ⟨(congrArg (PduSrc.path · !b) hsame).trans (PduSrc.setPath_other ..), hothers⟩, hj⟩
  · refine s.becomes_onSole n 2 _ _ h2 (c.shkPathBack_rests s.env i b ?_)
    rwa [Chan.pathBack, not_and_or, not_and_or, Bool.not_eq_true, Bool.not_eq_true, Nat.not_le]
  · exact ⟨c, rfl, congrArg State.done (s.siteSend_rests n h2 hno)⟩
  case send =>
    exact congrArg State.done (s.siteSend_sends n h2 g hg hm)

end Sys2Proof.Machine

namespace Sys2Proof.Machine

/-! ### What a command on the ring interface answers -/

namespace State

variable (s : State) {P : Ring → Prop}

/-- A command on the ring interface that is known to make g of it. -/
theorem becomes_onRing (f : RCtx → Ring → Ring) {g : Ring} (h : s.hub.ringRuns = true) (hf : f s.rctx s.hub.ring = g) (hP : P g) :
    RingBecomes (s.onRing f).done s P :=
  ⟨g, hP, congrArg done ((if_pos h).trans (by rw [hf]))⟩

/-- One that leaves it as it is. -/
theorem keeps_onRing (f : RCtx → Ring → Ring) (h : s.hub.ringRuns = true) (hf : f s.rctx s.hub.ring = s.hub.ring) :
    RingBecomes (s.onRing f).done s (fun g => g = s.hub.ring) :=
  s.becomes_onRing f h hf rfl

/-- An access to a hub that is open finds it. -/
theorem regDead_hub (o : Nat) (wr : Bool) (ho : o < 0x8000) (h : s.hostOpen 4 = true) : s.regDead o wr = false := by
  simp only [hostOpen, Bool.and_eq_true, decide_eq_true_eq, Bool.not_eq_true'] at h
  obtain ⟨⟨⟨hrun, hact⟩, -⟩, -⟩ := h
  simp [regDead, dieOfOfs, if_pos ho, hrun, hact]

/-- A host write of a register of the ring interface of a hub that is open. -/
theorem hostWrite_ring (o : Nat) (w : Word) (h : s.hostOpen 4 = true) (ho : 0x1000 ≤ o ∧ o < 0x2000 ∧ o % 4 = 0)
    (hr : (s.hubPeek o).isSome = true) : s.hostAccess o true w = s.ringRegWrite o w := by
  obtain ⟨hlo, hhi, h4⟩ := ho
  have hdie : dieOfOfs o = 4 := if_pos (by omega)
  have htest : s.memTest 4 = false := by
    simp only [hostOpen, Bool.and_eq_true, Bool.not_eq_true'] at h
    exact h.1.2
  have hcmd : hubCmdReg o = false := by
    simp [hubCmdReg]
    omega
  have hword : o / 4 * 4 = o := by omega
  have hwrite : s.hubWrite o w = (s.ringRegWrite o w, false) := by
    simp only [hubWrite, hcmd, Bool.false_or, ← Option.not_isSome, hr]
    rw [if_neg (by decide), if_neg (by omega), if_neg (by omega), if_pos hhi]
  rw [hostAccess, if_neg (by omega)]
  simp [regAccess, hword, s.regDead_hub o true (by omega) h, hdie, htest, regWrite, hwrite, regAnswer]

/-- A host write that is known to make g of the ring interface. -/
theorem becomes_ringWrite (o : Nat) (w : Word) {f g : Ring} (h : s.hostOpen 4 = true)
    (ho : 0x1000 ≤ o ∧ o < 0x2000 ∧ o % 4 = 0) (hr : (s.hubPeek o).isSome = true)
    (hw : s.ringRegWrite o w = { s with hub.ring := f }) (hf : f = g) (hP : P g) : RingBecomes (s.hostAccess o true w).done s P :=
  ⟨g, hP, congrArg done ((s.hostWrite_ring o w h ho hr).trans (hw.trans (by rw [hf])))⟩

end State

/-! ### Words put together of fields -/

section Fields

variable {W m : Nat} (f : BitVec m) (x : BitVec W) (a b k : Nat)

/-- A flag is a field of one bit. -/
theorem flag_eq_field (p : Bool) : (if p then 1#32 <<< b else 0) = (BitVec.ofBool p).setWidth 32 <<< b := by
  cases p
  · simp
  · rfl

@[simp] theorem getLsbD_field (ha : a < W) : (f.setWidth W <<< b).getLsbD a = (decide (b ≤ a) && f.getLsbD (a - b)) := by
  by_cases hb : b ≤ a
  · simp [ha, hb, Nat.not_lt.2 hb]
  · simp [hb, Nat.not_le.1 hb]

@[simp] theorem getLsbD_setWidth_above (h : m ≤ a) : (f.setWidth W).getLsbD a = false := by
  simp [f.getLsbD_of_ge a h]

@[simp] theorem extract_field_same (h : b + m ≤ W) : (f.setWidth W <<< b).extractLsb' b m = f := by
  ext i hi
  rw [BitVec.getElem_extractLsb', getLsbD_field f _ _ (by omega)]
  simp [hi]

@[simp] theorem extract_field_below (h : a + k ≤ b) : (x <<< b).extractLsb' a k = 0 := by
  ext i hi
  simp [show a + i < b by omega]

@[simp] theorem extract_field_above (h : b + m ≤ a) : (f.setWidth W <<< b).extractLsb' a k = 0 := by
  ext i hi
  simp [f.getLsbD_of_ge (a + i - b) (by omega)]

@[simp] theorem extract_setWidth_same (h : m ≤ W) : (f.setWidth W).extractLsb' 0 m = f := by
  ext i hi
  simp [show i < W by omega, hi]

@[simp] theorem extract_setWidth_above (h : m ≤ a) : (f.setWidth W).extractLsb' a k = 0 := by
  ext i hi
  simp [f.getLsbD_of_ge (a + i) (by omega)]

end Fields

end Sys2Proof.Machine

namespace Sys2Proof.Machine

/-! ### The links of a ring interface -/

namespace Ring

variable (g : Ring) (w : Bool) (l : LinkSt)

@[simp] theorem link_setLink_same : (g.setLink w l).link w = l := by
  cases w <;> rfl

@[simp] theorem link_setLink_other : (g.setLink w l).link (!w) = g.link (!w) := by
  cases w <;> rfl

@[simp] theorem setLink_link : g.setLink w (g.link w) = g := by
  cases w <;> rfl

@[simp] theorem r_setLink : (g.setLink w l).r = g.r := by
  cases w <;> rfl

@[simp] theorem clock_setLink : (g.setLink w l).clock = g.clock := by
  cases w <;> rfl

/-! ### Delay measurement (R489) -/

/-- A DELAY_REQ to the neighbour on a link that is UP, with the fraction of its stamp. -/
def delaySend (now : Nat) (f : BitVec 16) : Ring :=
  if (g.link w).st = .up then
    let ns := BitVec.ofNat 64 (g.site now)
    (g.modLink w fun l => { l with t1 := some ((ns.toNat : Int) * 65536 + f.toNat) }).toNeighbour w .delayReq
      [DWord.lo ns, DWord.hi ns, f.setWidth 32, 0]
  else g

theorem delayExchange_eq (now : Nat) (fE fW : BitVec 16) :
    g.delayExchange now fE fW = (g.delaySend false now fE).delaySend true now fW := rfl

theorem toNeighbour_eq (t : FType) (ps : List Word) : g.toNeighbour w t ps = { g with oq := (g.toNeighbour w t ps).oq } := by
  unfold toNeighbour
  dsimp only
  split <;> rfl

/-- The link w with T1 of a DELAY_REQ noted. -/
def stamped (now : Nat) (f : BitVec 16) : LinkSt :=
  { g.link w with t1 := some (((BitVec.ofNat 64 (g.site now)).toNat : Int) * 65536 + f.toNat) }

theorem delaySend_down (now : Nat) (f : BitVec 16) (h : (g.link w).st ≠ .up) : g.delaySend w now f = g := if_neg h

theorem delaySend_up (now : Nat) (f : BitVec 16) (h : (g.link w).st = .up) :
    ∃ q, g.delaySend w now f = { g.setLink w (g.stamped w now f) with oq := q } := by
  rw [delaySend, if_pos h]
  dsimp only
  rw [toNeighbour_eq]
  exact ⟨_, rfl⟩

/-- The link w is as a DELAY_REQ that is due leaves it: x, with T1 noted where it is UP. -/
def Asked (now : Nat) (f : BitVec 16) (x : LinkSt) : Prop :=
  let l := g.link w
  (l.st = .up → x.t1 = some (((BitVec.ofNat 64 (g.site now)).toNat : Int) * 65536 + f.toNat))
  ∧ (l.st ≠ .up → x = l) ∧ x.ds = l.ds ∧ x.st = l.st

theorem delaySend_asked (now : Nat) (f : BitVec 16) : g.Asked w now f ((g.delaySend w now f).link w) := by
  by_cases h : (g.link w).st = .up
  · obtain ⟨q, hq⟩ := g.delaySend_up w now f h
    have hl : (g.delaySend w now f).link w = g.stamped w now f := by
      rw [hq]
      exact g.link_setLink_same w _
    rw [hl]
    exact ⟨fun _ => rfl, fun hn => absurd h hn, rfl, rfl⟩
  · rw [g.delaySend_down w now f h]
    exact ⟨fun hu => absurd hu h, fun _ => rfl, rfl, rfl⟩

theorem delaySend_other (now : Nat) (f : BitVec 16) :
    (g.delaySend w now f).link (!w) = g.link (!w) ∧ (g.delaySend w now f).clock = g.clock := by
  by_cases h : (g.link w).st = .up
  · obtain ⟨q, hq⟩ := g.delaySend_up w now f h
    rw [hq]
    exact ⟨g.link_setLink_other w _, g.clock_setLink w _⟩
  · rw [g.delaySend_down w now f h]
    exact ⟨rfl, rfl⟩

theorem delayExchange_asked (now : Nat) (fE fW : BitVec 16) (w : Bool) :
    g.Asked w now (if w then fW else fE) ((g.delayExchange now fE fW).link w) := by
  rw [delayExchange_eq]
  cases w with
  | false =>
    have hwest := ((g.delaySend false now fE).delaySend_other true now fW).1
    exact hwest ▸ g.delaySend_asked false now fE
  | true =>
    obtain ⟨heast, hclock⟩ : (g.delaySend false now fE).link true = g.link true ∧ _ := g.delaySend_other false now fE
    have h := (g.delaySend false now fE).delaySend_asked true now fW
    rw [Asked, heast, site, hclock] at h
    exact h

theorem delayResp_rests (now : Nat) (w0 w1 w2 w3 w4 : Word) (f : BitVec 16) (h : (g.link w).t1 = none ∨ (g.link w).st ≠ .up) :
    g.delayResp now w w0 w1 w2 w3 w4 f = g := by
  unfold delayResp
  split
  · rfl
  · next t ht =>
    obtain h | h := h
    · exact absurd (h.symm.trans ht) nofun
    · exact if_pos h

theorem delayResp_measures (now : Nat) (w0 w1 w2 w3 w4 : Word) (f : BitVec 16) (t1 : Int) (h : (g.link w).t1 = some t1)
    (hup : (g.link w).st = .up) :
    g.delayResp now w w0 w1 w2 w3 w4 f =
      let t2 : Int := ((DWord.of w1 w0).toNat : Int) * 65536 + ((w2.extractLsb' 0 16 : BitVec 16).toNat : Int)
      let t3 : Int := ((DWord.of w4 w3).toNat : Int) * 65536 + ((w2.extractLsb' 16 16 : BitVec 16).toNat : Int)
      let t4 : Int := (g.site now : Int) * 65536 + f.toNat
      g.setLink w { g.link w with t1 := none, ds := (divHE ((t4 - t1) - (t3 - t2)) 2 :: (g.link w).ds).take 16 } := by
  unfold delayResp
  rw [h]
  exact if_neg (not_not.2 hup)

end Ring

/-! ### The clock of a node (R491, R495) -/

namespace Ring

variable (g : Ring) (now : Nat)

/-- The clock of h runs on from where that of g stands, at a rate of at most lim that works against an offset. -/
def Slewed (lim : Nat) (off : Int) (h : Ring) : Prop :=
  h.clock.base = g.clock.val now ∧ h.clock.t0 = now ∧ h.clock.freq.natAbs ≤ lim
  ∧ (0 < off → h.clock.freq ≤ 0) ∧ (off ≤ 0 → 0 ≤ h.clock.freq)

theorem slew_slewed (lim : Nat) (off : Int) : g.Slewed now lim off (g.slew now lim off) := by
  let m : Nat := g.free.1.toNat % (lim + 1)
  have hm : m < lim + 1 := Nat.mod_lt _ (Nat.succ_pos lim)
  have hfreq : (g.slew now lim off).clock.freq = if 0 < off then -(m : Int) else m := rfl
  refine ⟨rfl, rfl, ?_⟩
  rw [hfreq]
  split <;> omega

/-- What follows at the clock from a SYNC with an offset, taken in a state of the servo: a step, or a slew (R491). -/
def steer (c : RCtx) (st : TimeState) (off : Int) : Ring :=
  if st = .acquire ∧ 65536000 < off.natAbs then
    if c.idle then { g with clock := g.clock.step c.now (g.clock.val c.now - off) } else g.slew c.now 4000 off
  else if g.servo.st = .holdover then g
  else g.slew c.now 4000 off

section Steer

variable (c : RCtx) (st : TimeState) (off : Int)

/-- A SYNC moves the clock and nothing else. -/
theorem steer_eq : g.steer c st off = { g with clock := (g.steer c st off).clock, fc := (g.steer c st off).fc } := by
  unfold steer
  split
  · split <;> rfl
  · split <;> rfl

theorem steer_steps (h : st = .acquire ∧ 65536000 < off.natAbs) (hi : c.idle = true) :
    (g.steer c st off).clock = { g.clock with base := g.clock.val c.now - off, t0 := c.now } := by
  rw [steer, if_pos h, if_pos hi]
  rfl

theorem steer_busy (h : st = .acquire ∧ 65536000 < off.natAbs) (hi : c.idle = false) :
    g.Slewed c.now 4000 off (g.steer c st off) := by
  rw [steer, if_pos h, if_neg (ne_true_of_eq_false hi)]
  exact g.slew_slewed ..

theorem steer_follows (h : ¬(st = .acquire ∧ 65536000 < off.natAbs)) (hs : g.servo.st ≠ .holdover) :
    g.Slewed c.now 4000 off (g.steer c st off) := by
  rw [steer, if_neg h, if_neg hs]
  exact g.slew_slewed ..

end Steer

/-! ### The servo (R490, R491) -/

section Sync

variable (c : RCtx) (onWest : Bool) (links : Nat) (w0 w1 w2 w3 w4 : Word) (f : BitVec 16)

/-- The offset a SYNC shows, 2^-16 ns. -/
def syncOff : Int :=
  g.clock.val now + f.toNat - (((DWord.of w1 w0).toNat : Int) * 65536 + ((w2.extractLsb' 16 16 : BitVec 16).toNat : Int))
    - i64 w4 w3 - g.recvDelay (!onWest)

/-- The ring interface with the first copy of a SYNC taken, before the clock follows. -/
def synced : Ring :=
  let off := g.syncOff now onWest w0 w1 w2 w3 w4 f
  { g with
    sync := some { nid := w2.extractLsb' 0 6, tm := DWord.of w1 w0, links := links, east := !onWest }
    servo0 := g.servo, servo := g.servo.take now off, siteSet := w2.getLsbD 11
    r.timeOfs.ofs := toS 16 (divHE (off * 100) 65536) }

theorem syncTake_rests (h : g.isMaster = true ∨ g.master ≠ some (w2.extractLsb' 0 6)) :
    g.syncTake c onWest links w0 w1 w2 w3 w4 f = g := by
  unfold syncTake
  refine if_pos ?_
  rwa [Bool.or_eq_true, decide_eq_true_eq]

theorem syncTake_of_master (hm : g.isMaster = false) (hid : g.master = some (w2.extractLsb' 0 6)) :
    ¬(g.isMaster || decide (g.master ≠ some (w2.extractLsb' 0 6))) = true := by
  simp [hm, hid]

theorem syncTake_further (hm : g.isMaster = false) (hid : g.master = some (w2.extractLsb' 0 6)) {x : SyncSt}
    (hx : g.sync = some x) (hn : x.nid = w2.extractLsb' 0 6) (ht : x.tm = DWord.of w1 w0) (hl : x.links < links) :
    g.syncTake c onWest links w0 w1 w2 w3 w4 f = g := by
  have hcopy : g.sync.filter (fun s => decide (s.nid = w2.extractLsb' 0 6) && decide (s.tm = DWord.of w1 w0)) = some x := by
    simp [hx, hn, ht]
  unfold syncTake
  dsimp only
  rw [if_neg (g.syncTake_of_master w2 hm hid), hcopy]
  exact if_pos (by simp [hl])

theorem syncTake_new (hm : g.isMaster = false) (hid : g.master = some (w2.extractLsb' 0 6))
    (hnew : ∀ x, g.sync = some x → x.nid = w2.extractLsb' 0 6 → x.tm ≠ DWord.of w1 w0) :
    g.syncTake c onWest links w0 w1 w2 w3 w4 f =
      (g.synced c.now onWest links w0 w1 w2 w3 w4 f).steer c g.servo.st (g.syncOff c.now onWest w0 w1 w2 w3 w4 f) := by
  have hcopy : g.sync.filter (fun s => decide (s.nid = w2.extractLsb' 0 6) && decide (s.tm = DWord.of w1 w0)) = none := by
    simp only [Option.filter_eq_none_iff, Bool.and_eq_true, decide_eq_true_eq, not_and]
    exact hnew
  unfold syncTake
  dsimp only
  rw [if_neg (g.syncTake_of_master w2 hm hid), hcopy]
  rfl

end Sync

end Ring

namespace Servo

variable (v : Servo) (now : Nat) (off : Int)

theorem take_free (h : v.st = .free) : (v.take now off).st = .acquire := by
  simp only [take, h]

theorem take_acquire (h : v.st = .acquire) :
    (v.take now off).st = if off.natAbs ≤ 131072 ∧ 15 ≤ v.near then .locked else .acquire := by
  have hnear : 16 ≤ (if off.natAbs ≤ 2 * 65536 then v.near + 1 else 0) ↔ off.natAbs ≤ 131072 ∧ 15 ≤ v.near := by
    split <;> omega
  simp only [take, h, hnear]
  split <;> rfl

theorem take_locked (h : v.st = .locked) :
    (v.take now off).st = if 655360 < off.natAbs ∧ 3 ≤ v.far then .acquire else .locked := by
  have hfar : 4 ≤ (if 10 * 65536 < off.natAbs then v.far + 1 else 0) ↔ 655360 < off.natAbs ∧ 3 ≤ v.far := by
    split <;> omega
  simp only [take, h, hfar]
  split <;> rfl

theorem take_holdover (h : v.st = .holdover) : (v.take now off).st = if off.natAbs ≤ 655360 then .locked else .acquire := by
  simp only [take, h]
  split <;> rfl

end Servo

namespace Ring

variable (g : Ring)

theorem syncLoss_holds (now : Nat) (hm : g.isMaster = false) (hs : g.servo.st = .locked) (ht : g.servo.tSync + 500000 ≤ now) :
    g.syncLoss now = { g with servo := { g.servo with st := .holdover, tHold := now } } :=
  if_pos (by simp [hm, hs, usNs, ht])

theorem syncLoss_rests (now : Nat) (h : g.isMaster = true ∨ g.servo.st ≠ .locked ∨ now < g.servo.tSync + 500000) :
    g.syncLoss now = g := by
  refine if_neg ?_
  simp only [Bool.and_eq_true, Bool.not_eq_true', decide_eq_true_eq]
  rintro ⟨⟨hm, hs⟩, ht⟩
  obtain h | h | h := h
  · exact Bool.false_ne_true (hm.symm.trans h)
  · exact h hs
  · exact absurd ht (Nat.not_le.2 h)

theorem holdoverEnd_ends (now : Nat) (hm : g.isMaster = false) (hs : g.servo.st = .holdover)
    (ht : g.servo.tHold + 10000000 ≤ now) : g.holdoverEnd now =
      { g with servo := { g.servo with st := if g.master.isSome then .acquire else .free, near := 0 } } :=
  if_pos (by simp [hm, hs, msNs, ht])

theorem holdoverEnd_rests (now : Nat) (h : g.isMaster = true ∨ g.servo.st ≠ .holdover ∨ now < g.servo.tHold + 10000000) :
    g.holdoverEnd now = g := by
  refine if_neg ?_
  simp only [Bool.and_eq_true, Bool.not_eq_true', decide_eq_true_eq]
  rintro ⟨⟨hm, hs⟩, ht⟩
  obtain h | h | h := h
  · exact Bool.false_ne_true (hm.symm.trans h)
  · exact h hs
  · exact absurd ht (Nat.not_le.2 h)

/-! ### SYNC as the master sends it (R490) -/

/-- The word of a SYNC that holds the fraction of its stamp, the class and the NID of the master. -/
def syncWord (c : RCtx) (f : BitVec 16) : Word :=
  (f.setWidth 32 <<< 16) ||| (if g.siteSet then 1#32 <<< 11 else 0) ||| ((g.ownClass c).setWidth 32 <<< 8)
    ||| (g.nid.getD 0).setWidth 32

theorem syncSend_master (c : RCtx) (f : BitVec 16) (h : g.isMaster = true) : g.syncSend c f =
    let t := BitVec.ofNat 64 (g.site c.now)
    g.originate c.now .sync none [DWord.lo t, DWord.hi t, g.syncWord c f, 0, 0, 0] := if_pos h

theorem syncSend_other (c : RCtx) (f : BitVec 16) (h : g.isMaster = false) : g.syncSend c f = g :=
  if_neg (ne_true_of_eq_false h)

theorem syncWord_fields (c : RCtx) (f : BitVec 16) :
    (g.syncWord c f).extractLsb' 16 16 = f ∧ (g.syncWord c f).getLsbD 11 = g.siteSet
      ∧ (g.syncWord c f).extractLsb' 8 2 = g.ownClass c ∧ (g.syncWord c f).extractLsb' 0 6 = g.nid.getD 0 := by
  simp only [syncWord, flag_eq_field]
  refine ⟨?_, ?_, ?_, ?_⟩ <;> simp [BitVec.extractLsb'_or]

/-! ### Calendar time (R495) -/

theorem setTod_other (now : Nat) (h : g.isMaster = false) : g.setTod now = g := if_pos (congrArg not h)

theorem setTod_first (now : Nat) (h : g.isMaster = true) (hs : g.siteSet = false) :
    g.setTod now = { g with clock := g.clock.step now g.tod, siteSet := true } :=
  (if_neg (by simp [h])).trans (if_neg (ne_true_of_eq_false hs))

theorem setTod_later (now : Nat) (h : g.isMaster = true) (hs : g.siteSet = true) :
    g.setTod now = g.slew now 500 (g.clock.val now - g.tod) :=
  (if_neg (by simp [h])).trans (if_pos hs)

/-- The ring interface with the high bits of a calendar time written. -/
def withTodHi (w : Word) : Ring := { g with r.todHi := w.extractLsb' 0 16 }

section Gateway

variable (c : RCtx) (w : Word)

theorem todWrite_ignored (h : c.gw = false) : g.todWrite c w = g := if_pos (congrArg not h)

theorem todWrite_arms (h : c.gw = true) (hp : g.r.ctrl.ppsEn = true) :
    g.todWrite c w = { g.withTodHi w with todArmed := true } :=
  (if_neg (by simp [h])).trans (if_pos hp)

theorem todWrite_sets (h : c.gw = true) (hp : g.r.ctrl.ppsEn = false) : g.todWrite c w = (g.withTodHi w).setTod c.now :=
  (if_neg (by simp [h])).trans (if_neg (ne_true_of_eq_false hp))

/-- The ring interface with an edge of HUB_PPS_IN judged against the whole seconds of its time (R488). -/
def ppsMark (now : Nat) : Ring :=
  let r := g.site now % 1000000000
  { g with tPps := if r ≤ 1000 ∨ 999999000 ≤ r then some (g.tPps.getD now) else none }

theorem pps_ignored (h : c.gw = false ∨ g.r.ctrl.ppsEn = false) : g.pps c = g :=
  if_pos (by obtain h | h := h <;> simp [h])

/-- The ring interface with no calendar time waiting for its edge. -/
def disarmed : Ring := { g with todArmed := false }

/-- The deviation of site time from the nearest whole second, 2^-16 ns. -/
def secondOff (now : Nat) : Int :=
  let r : Int := g.clock.val now % (1000000000 * 65536)
  if 2 * r < 1000000000 * 65536 then r else r - 1000000000 * 65536

section Edge

variable (h : c.gw = true) (hp : g.r.ctrl.ppsEn = true)
include h hp

theorem pps_eq : g.pps c = ppsMark
    (if g.todArmed then g.disarmed.setTod c.now
      else if g.isMaster && g.siteSet then g.slew c.now 500 (g.secondOff c.now) else g) c.now := by
  unfold pps ppsMark
  rw [if_neg (by simp [h, hp])]
  simp only [Bool.or_eq_true, decide_eq_true_eq]
  rfl

theorem pps_armed (ha : g.todArmed = true) : g.pps c = ppsMark (g.disarmed.setTod c.now) c.now :=
  (g.pps_eq c h hp).trans (congrArg (ppsMark · c.now) (if_pos ha))

theorem pps_steers (ha : g.todArmed = false) (hm : g.isMaster = true) (hs : g.siteSet = true) :
    g.pps c = ppsMark (g.slew c.now 500 (g.secondOff c.now)) c.now := by
  rw [g.pps_eq c h hp, if_neg (ne_true_of_eq_false ha), if_pos (by rw [hm, hs]; rfl)]

theorem pps_marks (ha : g.todArmed = false) (hno : g.isMaster = false ∨ g.siteSet = false) : g.pps c = g.ppsMark c.now := by
  rw [g.pps_eq c h hp, if_neg (ne_true_of_eq_false ha), if_neg (by obtain h | h := hno <;> simp [h])]

end Edge

end Gateway

end Ring

/-- Settles O37: delays, SYNC and the calendar by what each command makes of the ring interface, the states of the servo by
`Servo.take_free` and its fellows, every slew by `Ring.slew_slewed`. -/
theorem ringTime : Obligations.RingTime := by
  unfold Obligations.RingTime
  intro s hr g same t slewed
  refine ⟨fun fE fW => ?_, fun w f2 f3 turn => ?_, fun w p f4 => ⟨fun t1 ht1 hup => ?_, fun hno => ?_⟩,
    fun f => ⟨fun hm => ?send, fun hm => ?_⟩,
    fun onWest links p f => ⟨fun hno => ?_, fun hm hid ⟨x, hx, hn, htm, hl⟩ => ?_, fun hm hid hnew => ?sync⟩,
    fun v off => ⟨v.take_free s.now off, v.take_acquire s.now off, v.take_locked s.now off, v.take_holdover s.now off⟩,
    fun hm hst ht => ?_, fun hno => ?_, fun hm hst ht => ?_, fun hno => ?_, fun hopen w => ?tod, fun hno => ?_,
    fun hgw hpps => ?pps⟩
  · exact s.becomes_onRing _ hr rfl fun w => g.delayExchange_asked s.now fE fW w
  · exact s.becomes_onRing _ hr rfl rfl
  · exact s.becomes_onRing _ hr (g.delayResp_measures w s.now _ _ _ _ _ f4 t1 ht1 hup) rfl
  · exact s.keeps_onRing _ hr (g.delayResp_rests w s.now _ _ _ _ _ f4 hno)
  case send =>
    obtain ⟨hf, hset, hcls, hnid⟩ := g.syncWord_fields s.rctx f
    refine s.becomes_onRing _ hr (g.syncSend_master s.rctx f hm) ⟨_, rfl, hf, hset, hcls, fun n hn => ?_⟩
    rw [hnid, hn]
    rfl
  · exact s.keeps_onRing _ hr (g.syncSend_other s.rctx f hm)
  · exact s.keeps_onRing _ hr (g.syncTake_rests s.rctx onWest links _ _ _ _ _ f hno)
  · exact s.keeps_onRing _ hr (g.syncTake_further s.rctx onWest links _ _ _ _ _ f hm hid hx hn htm hl)
  case sync =>
    let off := g.syncOff s.now onWest p[0] p[1] p[2] p[3] p[4] f
    let k := g.synced s.now onWest links p[0] p[1] p[2] p[3] p[4] f
    have hk := k.steer_eq s.rctx g.servo.st off
    refine s.becomes_onRing _ hr (g.syncTake_new s.rctx onWest links _ _ _ _ _ f hm hid hnew) ?_
    exact ⟨congrArg Ring.servo hk, congrArg Ring.siteSet hk, congrArg (fun h => h.r.timeOfs.ofs) hk, congrArg Ring.sync hk,
      fun ha hoff hi => k.steer_steps s.rctx _ off ⟨ha, hoff⟩ hi,
      fun ha hoff hi => k.steer_busy s.rctx _ off ⟨ha, hoff⟩ hi,
      fun hno hs => k.steer_follows s.rctx _ off (fun ⟨ha, hoff⟩ => hno.elim (· ha) (Nat.not_le.2 hoff))
        fun hold => hs ((congrArg (fun h => h.servo.st) hk).trans hold),
      (congrArg Ring.nodes hk :), (congrArg Ring.east hk :), (congrArg Ring.west hk :), (congrArg Ring.master hk :)⟩
  · exact s.becomes_onRing _ hr (g.syncLoss_holds s.now hm hst ht) rfl
  · exact s.keeps_onRing _ hr (g.syncLoss_rests s.now hno)
  · exact s.becomes_onRing _ hr (g.holdoverEnd_ends s.now hm hst ht) rfl
  · exact s.keeps_onRing _ hr (g.holdoverEnd_rests s.now hno)
  case tod =>
    intro hi tod
    let k := g.withTodHi w
    have becomes {h : Ring} {P : Ring → Prop} (hw : g.todWrite s.rctx w = h) (hP : P h) : RingBecomes (exec (.todWrite w) s) s P :=
      s.becomes_ringWrite 0x1030 w hopen (by decide) rfl rfl hw hP
    refine ⟨fun hgw => ?_, fun hgw hpps => ?_, fun hgw hpps hm hset => ?_, fun hgw hpps hm hset => ?_, fun hgw hpps hm => ?_⟩
    · exact becomes (g.todWrite_ignored s.rctx w hgw) rfl
    · exact becomes (g.todWrite_arms s.rctx w hgw hpps) rfl
    · exact becomes ((g.todWrite_sets s.rctx w hgw hpps).trans (k.setTod_first s.now hm hset)) rfl
    · exact becomes ((g.todWrite_sets s.rctx w hgw hpps).trans (k.setTod_later s.now hm hset)) ⟨k.slew_slewed s.now 500 _, hset⟩
    · exact becomes ((g.todWrite_sets s.rctx w hgw hpps).trans (k.setTod_other s.now hm)) rfl
  · exact s.keeps_onRing _ hr (g.pps_ignored s.rctx hno)
  case pps =>
    refine ⟨fun ha hm hset => ?_, fun ha hm hset => ?_, fun ha hno => ?_⟩
    · have htod := g.disarmed.setTod_first s.now hm hset
      exact s.becomes_onRing _ hr ((g.pps_armed s.rctx hgw hpps ha).trans (congrArg (Ring.ppsMark · s.now) htod)) ⟨rfl, rfl, rfl⟩
    · obtain ⟨hbase, ht, hfreq, -⟩ := g.slew_slewed s.now 500 (g.secondOff s.now)
      exact s.becomes_onRing _ hr (g.pps_steers s.rctx hgw hpps ha hm hset) ⟨hbase, ht, hfreq, hset⟩
    · exact s.becomes_onRing _ hr (g.pps_marks s.rctx hgw hpps ha hno) rfl

end Sys2Proof.Machine

namespace Sys2Proof.Machine

/-! ### What a node shows of itself (R484) -/

namespace Ring

variable (g : Ring)

section Shows

variable (c : RCtx)

/-- The word of a PRESENCE that holds the NID, the roles and the class of the node. -/
def roleWord : Word :=
  (if g.nid.isSome then 1#32 <<< 31 else 0) ||| ((g.nid.getD 0).setWidth 32 <<< 24) ||| (if c.gw then 1#32 <<< 23 else 0)
    ||| (if c.coordA then 1#32 <<< 22 else 0) ||| (if c.coordS then 1#32 <<< 21 else 0)
    ||| (if g.siteSet then 1#32 <<< 20 else 0) ||| ((g.ownClass c).setWidth 32 <<< 16)

/-- The word of a PRESENCE that holds the links of the node and its neighbours. -/
def linkWord : Word :=
  (if decide (g.east.st = .up) then 1#32 <<< 31 else 0) ||| ((g.east.nbr.getD 0).setWidth 32 <<< 24)
    ||| (if decide (g.west.st = .up) then 1#32 <<< 23 else 0) ||| ((g.west.nbr.getD 0).setWidth 32 <<< 16)

theorem presenceWords_eq : g.presenceWords c =
    [DWord.lo c.dieId, DWord.hi c.dieId, g.roleWord c, g.linkWord, BitVec.ofNat 32 (g.uptime c.now), 0] := rfl

theorem roleWord_fields :
    (g.roleWord c).getLsbD 31 = g.nid.isSome ∧ (g.roleWord c).extractLsb' 24 6 = g.nid.getD 0
      ∧ (g.roleWord c).getLsbD 23 = c.gw ∧ (g.roleWord c).getLsbD 22 = c.coordA ∧ (g.roleWord c).getLsbD 21 = c.coordS
      ∧ (g.roleWord c).getLsbD 20 = g.siteSet := by
  simp only [roleWord, flag_eq_field]
  refine ⟨?_, ?_, ?_, ?_, ?_, ?_⟩ <;> simp [BitVec.extractLsb'_or]

theorem linkWord_fields :
    g.linkWord.getLsbD 31 = decide (g.east.st = .up) ∧ g.linkWord.getLsbD 23 = decide (g.west.st = .up) := by
  simp only [linkWord, flag_eq_field]
  constructor <;> simp

/-- The words of the map entry of an NID: this node's own, those another node shows, or none (R505). -/
def mapWords (n : BitVec 6) : List Word :=
  if g.nid = some n then g.presenceWords c
  else match g.node n with
    | some x => [DWord.lo x.dieId, DWord.hi x.dieId, x.w2, x.w3]
    | none => []

theorem mapWords_own {n : BitVec 6} (h : g.nid = some n) : g.mapWords c n = g.presenceWords c := if_pos h

/-- The first word of a map entry. -/
def mapEntry (present : Bool) (ws : List Word) : RingNodeData0 :=
  let w2 := ws.getD 2 0
  let w3 := ws.getD 3 0
  { present := present, gateway := w2.getLsbD 23, coordAct := w2.getLsbD 22, coordSby := w2.getLsbD 21
    tclass := w2.extractLsb' 16 2, eUp := w3.getLsbD 31, wUp := w3.getLsbD 23
    eNbr := w3.extractLsb' 24 6, wNbr := w3.extractLsb' 16 6 }

theorem nodeSelect_eq (w : Word) : g.nodeSelect c w =
    let n : BitVec 6 := w.extractLsb' 0 6
    let ws := g.mapWords c n
    { g with
      r.nodeSel := n, r.nodeData0 := mapEntry (g.present n) ws, r.nodeData1 := ws.getD 0 0, r.nodeData2 := ws.getD 1 0 } := rfl

theorem mapWords_other {n : BitVec 6} {x : NodeSt} (h : g.nid ≠ some n) (hx : g.node n = some x) :
    g.mapWords c n = [DWord.lo x.dieId, DWord.hi x.dieId, x.w2, x.w3] := by
  rw [mapWords, if_neg h, hx]

end Shows

/-! ### Joins and departures (R487) -/

section Move

variable (now : Nat) (joined : Bool)

theorem move_eq (nid : Option (BitVec 6)) : g.move now joined nid =
    { g with
      jq := (g.move now joined nid).jq, moved := (g.move now joined nid).moved, r.evt := (g.move now joined nid).r.evt } := by
  cases nid with
  | none => rfl
  | some n => cases joined <;> rfl

theorem move_nidConflict (nid : Option (BitVec 6)) : (g.move now joined nid).r.evt.nidConflict = g.r.evt.nidConflict := by
  cases nid with
  | none => rfl
  | some n => cases joined <;> rfl

theorem move_moved (n : BitVec 6) : (g.move now joined (some n)).moved = g.moved ++ [(joined, n)] := by
  cases joined <;> rfl

theorem move_nodeJoin (n : BitVec 6) : (g.move now true (some n)).r.evt.nodeJoin = true := rfl

theorem move_nodeLeave (n : BitVec 6) : (g.move now false (some n)).r.evt.nodeLeave = true := rfl

end Move

/-- The ring interface without a node. -/
def without (die : BitVec 64) : Ring := { g with nodes := g.nodes.filter (fun (n : NodeSt) => decide (n.dieId ≠ die)) }

/-- The node known under an identity. -/
def known (die : BitVec 64) : Option NodeSt := g.nodes.find? (fun (n : NodeSt) => decide (n.dieId = die))

theorem depart_due (now : Nat) (die : BitVec 64) {x : NodeSt} (hx : g.known die = some x) (ht : x.tLast + 3000000 ≤ now) :
    g.depart now die = (g.without die).move now false x.nid := by
  unfold known at hx
  unfold depart
  rw [hx]
  exact if_pos ht

theorem depart_rests (now : Nat) (die : BitVec 64)
    (h : g.known die = none ∨ ∃ x, g.known die = some x ∧ now < x.tLast + 3000000) : g.depart now die = g := by
  unfold known at h
  unfold depart
  obtain hx | ⟨x, hx, ht⟩ := h
  · rw [hx]
  · rw [hx]
    exact if_neg (Nat.not_le.2 ht)

/-! ### PRESENCE (R486, R487) -/

section Presence

variable (c : RCtx) (die : BitVec 64) (w2 w3 w4 : Word)

/-- A PRESENCE names the NID of this node. -/
def Clash : Prop := w2.getLsbD 31 = true ∧ g.nid = some (w2.extractLsb' 24 6)

/-- In a conflict with a node this one keeps its NID. -/
def Keeps : Prop := w4.toNat < g.uptime c.now ∨ (g.uptime c.now = w4.toNat ∧ c.dieId.toNat < die.toNat)

theorem conflict_yields (h : g.Clash w2) (hk : ¬g.Keeps c die w4) : g.conflict c die w2 w4 =
    { g with nid := none, claim := g.bootCfg.auto, tListen := c.now, named := 0, r.evt.nidConflict := true } := by
  obtain ⟨hs, hn⟩ := h
  exact (if_pos (by simp [hs, hn])).trans (if_neg hk)

theorem conflict_keeps (h : ¬g.Clash w2 ∨ g.Keeps c die w4) : g.conflict c die w2 w4 = g := by
  by_cases hc : g.Clash w2
  · obtain ⟨hs, hn⟩ := hc
    exact (if_pos (by simp [hs, hn])).trans (if_pos (h.resolve_left (not_not.2 ⟨hs, hn⟩)))
  · refine if_neg fun hb => hc ?_
    simp only [Bool.and_eq_true, decide_eq_true_eq] at hb
    exact ⟨hb.1.1, hb.2⟩

theorem conflict_eq : g.conflict c die w2 w4 =
    let k := g.conflict c die w2 w4
    { g with
      nid := k.nid, claim := k.claim, tListen := k.tListen, named := k.named
      r.evt.nidConflict := k.r.evt.nidConflict } := by
  by_cases h : g.Clash w2 ∧ ¬g.Keeps c die w4
  · rw [g.conflict_yields c die w2 w4 h.1 h.2]
  · rw [not_and_or, not_not] at h
    rw [g.conflict_keeps c die w2 w4 h]

/-- The ring interface with an NID that a PRESENCE has named. -/
def heard (nid : Option (BitVec 6)) : Ring :=
  match nid with
  | some n => { g with named := g.named ||| (1#64 <<< n.toNat) }
  | none => g

theorem heard_eq (nid : Option (BitVec 6)) : g.heard nid = { g with named := (g.heard nid).named } := by
  cases nid <;> rfl

theorem heard_named (n : BitVec 6) : (g.heard (some n)).named.getLsbD n.toNat = true := by
  simp [heard, n.isLt]

/-- The ring interface after a PRESENCE has been judged against its own NID and the NID in it noted. -/
def judged (nid : Option (BitVec 6)) : Ring := (g.conflict c die w2 w4).heard nid

theorem judged_eq (nid : Option (BitVec 6)) : g.judged c die w2 w4 nid =
    let k := g.judged c die w2 w4 nid
    { g with
      nid := k.nid, claim := k.claim, tListen := k.tListen, named := k.named
      r.evt.nidConflict := k.r.evt.nidConflict } := by
  have hk := g.conflict_eq c die w2 w4
  cases nid with
  | none => exact hk
  | some n => exact congrArg (heard · (some n)) hk

theorem judged_yields (nid : Option (BitVec 6)) (h : g.Clash w2) (hk : ¬g.Keeps c die w4) :
    let k := g.judged c die w2 w4 nid
    k.nid = none ∧ k.claim = g.bootCfg.auto ∧ k.tListen = c.now ∧ k.r.evt.nidConflict = true := by
  rw [judged, heard_eq, g.conflict_yields c die w2 w4 h hk]
  exact ⟨rfl, rfl, rfl, rfl⟩

theorem judged_keeps (nid : Option (BitVec 6)) (h : ¬g.Clash w2 ∨ g.Keeps c die w4) :
    let k := g.judged c die w2 w4 nid
    k.nid = g.nid ∧ k.claim = g.claim ∧ k.r.evt.nidConflict = g.r.evt.nidConflict := by
  rw [judged, heard_eq, g.conflict_keeps c die w2 w4 h]
  exact ⟨rfl, rfl, rfl⟩

theorem judged_named (n : BitVec 6) : (g.judged c die w2 w4 (some n)).named.getLsbD n.toNat = true := heard_named ..

/-- The ring interface that knows of a node what x says. -/
def knowing (x : NodeSt) : Ring := { g with nodes := x :: (g.without x.dieId).nodes }

/-- The ring interface after a PRESENCE, with what was known of the node before: a join, or nothing new, or a departure under
one NID and a join under another. -/
def meets (now : Nat) (old : Option NodeSt) (x : NodeSt) : Ring :=
  match old with
  | none => (g.knowing x).move now true x.nid
  | some o => if o.nid = x.nid then g.knowing x else ((g.knowing x).move now false o.nid).move now true x.nid

theorem meets_eq (now : Nat) (old : Option NodeSt) (x : NodeSt) : g.meets now old x =
    let k := g.meets now old x
    { g.knowing x with jq := k.jq, moved := k.moved, r.evt := k.r.evt } := by
  unfold meets
  split
  · exact move_eq ..
  · split
    · rfl
    · rw [move_eq, move_eq]

theorem meets_nidConflict (now : Nat) (old : Option NodeSt) (x : NodeSt) :
    (g.meets now old x).r.evt.nidConflict = g.r.evt.nidConflict := by
  unfold meets
  split
  · exact move_nidConflict ..
  · split
    · rfl
    · exact (move_nidConflict ..).trans (move_nidConflict ..)

theorem meets_new (now : Nat) (x : NodeSt) (n : BitVec 6) (h : x.nid = some n) :
    (g.meets now none x).moved = g.moved ++ [(true, n)] ∧ (g.meets now none x).r.evt.nodeJoin = true := by
  simp only [meets, h]
  exact ⟨move_moved .., move_nodeJoin ..⟩

theorem meets_again (now : Nat) (o x : NodeSt) (h : o.nid = x.nid) : g.meets now (some o) x = g.knowing x := if_pos h

end Presence

end Ring

/-- The entry of a node after a PRESENCE, with what was known of it before. -/
def NodeSt.shown (old : Option NodeSt) (now : Nat) (die : BitVec 64) (w2 w3 w4 : Word) : NodeSt :=
  { dieId := die, w2 := w2, w3 := w3, w4 := w4, tLast := now
    tClass := match old with
      | some o => if o.tclass = (w2.extractLsb' 16 2).toNat then o.tClass else now
      | none => now
    lastE := if w3.getLsbD 31 then some (w3.extractLsb' 24 6) else old.bind (·.lastE)
    lastW := if w3.getLsbD 23 then some (w3.extractLsb' 16 6) else old.bind (·.lastW) }

theorem NodeSt.shown_tClass (y : NodeSt) (now : Nat) (die : BitVec 64) (w2 w3 w4 : Word)
    (h : y.tclass = (w2.extractLsb' 16 2).toNat) : (NodeSt.shown (some y) now die w2 w3 w4).tClass = y.tClass := if_pos h

namespace Ring

variable (g : Ring) (c : RCtx) (w0 w1 w2 w3 w4 : Word)

theorem presence_own (h : DWord.of w1 w0 = c.dieId) : g.presence c w0 w1 w2 w3 w4 = g := if_pos h

theorem presence_other (h : DWord.of w1 w0 ≠ c.dieId) : g.presence c w0 w1 w2 w3 w4 =
    let die := DWord.of w1 w0
    let old := g.known die
    let x := NodeSt.shown old c.now die w2 w3 w4
    (g.judged c die w2 w4 x.nid).meets c.now old x := by
  let die := DWord.of w1 w0
  let k := g.judged c die w2 w4 (NodeSt.shown (g.known die) c.now die w2 w3 w4).nid
  have hknown : k.known die = g.known die := (congrArg (Ring.known · die) (g.judged_eq c die w2 w4 _) :)
  have hk : g.presence c w0 w1 w2 w3 w4 = k.meets c.now (k.known die) (NodeSt.shown (k.known die) c.now die w2 w3 w4) := if_neg h
  rw [hk, hknown]

/-! ### The claim of an NID (R485) -/

/-- The node may claim an NID now. -/
def MayClaim (now : Nat) : Prop :=
  g.nid = none ∧ g.claim = true ∧ g.tListen + 10000000 ≤ now ∧ (g.bootCfg.valid = true ∨ g.bootCfg.auto = true)

/-- The lowest NID that no PRESENCE has named. -/
def freeNid : Option Nat := (List.range 64).find? (fun i => !g.named.getLsbD i)

theorem nidClaim_guard (now : Nat) :
    (g.nid.isSome || !g.claim || decide (now < g.tListen + msNs 10) || !(g.bootCfg.valid || g.bootCfg.auto)) = true
      ↔ ¬g.MayClaim now := by
  simp only [MayClaim, not_and_or, not_or, not_le, ← Option.isSome_iff_ne_none, Bool.not_eq_true, Bool.or_eq_true,
    Bool.not_eq_true', Bool.or_eq_false_iff, decide_eq_true_eq, or_assoc]
  rfl

theorem nidClaim_rests (now : Nat) (h : ¬g.MayClaim now) : g.nidClaim now = g := if_pos ((g.nidClaim_guard now).2 h)

theorem nidClaim_full (now : Nat) (h : g.MayClaim now) (hf : g.freeNid = none) :
    g.nidClaim now = { g with claim := false, r.evt.nidFull := true } := by
  unfold freeNid at hf
  unfold nidClaim
  rw [if_neg (fun hc => (g.nidClaim_guard now).1 hc h), hf]

theorem nidClaim_takes (now : Nat) (h : g.MayClaim now) {f : Nat} (hf : g.freeNid = some f) : g.nidClaim now = { g with
    nid := some (if g.bootCfg.valid = true ∧ g.r.evt.nidConflict = false then g.bootCfg.nid else BitVec.ofNat 6 f)
    tNid := now, claim := false } := by
  unfold freeNid at hf
  unfold nidClaim
  rw [if_neg (fun hc => (g.nidClaim_guard now).1 hc h), hf]
  simp only [Bool.and_eq_true, Bool.not_eq_true']

/-! ### The master (R488) -/

/-- The ring interface with the class of its node as it is now. -/
def classed : Ring := if g.ownClass c = g.tcls then g else { g with tcls := g.ownClass c, tCls := c.now }

theorem classed_eq : g.classed c = { g with tcls := (g.classed c).tcls, tCls := (g.classed c).tCls } := by
  unfold classed
  split <;> rfl

theorem classed_tcls : (g.classed c).tcls = g.ownClass c := by
  unfold classed
  split
  · next h => exact h.symm
  · rfl

theorem classed_same (h : g.ownClass c = g.tcls) : (g.classed c).tCls = g.tCls := by
  rw [classed, if_pos h]

theorem classed_new (h : g.ownClass c ≠ g.tcls) : (g.classed c).tCls = c.now := by
  rw [classed, if_neg h]

/-- The ring interface with its class and its master as they are now. -/
def mastered : Ring := { g.classed c with master := (g.classed c).chooseMaster c.now }

theorem view_eq : g.view c = { g.mastered c with r := (g.view c).r } := rfl

section Registers

variable (r : RingRegs)

theorem isMaster_registers : ({ g with r := r } : Ring).isMaster = g.isMaster := rfl

theorem timeValid_registers : ({ g with r := r } : Ring).timeValid = g.timeValid := rfl

theorem topo_registers : ({ g with r := r } : Ring).topo = g.topo := rfl

end Registers

theorem view_status : (g.view c).r.status.master = (g.view c).isMaster ∧ (g.view c).r.status.timeValid = (g.view c).timeValid
    ∧ (g.view c).r.status.topo = (g.view c).topo := by
  rw [view_eq, isMaster_registers, timeValid_registers, topo_registers]
  unfold view
  dsimp only
  exact ⟨rfl, rfl, rfl⟩

theorem view_masterChg (h : (g.view c).r.status.masterNid ≠ g.r.status.masterNid) : (g.view c).r.evt.masterChg = true := by
  have hr : (g.classed c).r = g.r := (congrArg Ring.r (g.classed_eq c) :)
  rw [← hr] at h
  have hevt : (g.view c).r.evt.masterChg = ((g.classed c).r.evt.masterChg
      || decide ((g.view c).r.status.masterNid ≠ (g.classed c).r.status.masterNid)
      || decide ((g.view c).r.status.master ≠ (g.classed c).r.status.master)) := rfl
  rw [hevt, decide_eq_true h, Bool.or_true, Bool.true_or]

end Ring

/-- Settles O36: each command by what it makes of the ring interface, PRESENCE by `Ring.presence_other`. -/
theorem ringDiscovery : Obligations.RingDiscovery := by
  unfold Obligations.RingDiscovery
  intro s hr g same
  refine ⟨?send, fun w => ?presence, ⟨fun hmay hf => ?_, fun f hmay hf => ?_, fun hno => ?_⟩,
    fun die => ⟨fun x hx ht => ?depart, fun hno => ?_⟩, fun hopen w => ⟨?select, ?_⟩, ?master⟩
  case send =>
    obtain ⟨hv, hn, hgw, ha, hs, hset⟩ := g.roleWord_fields s.rctx
    obtain ⟨he, hw⟩ := g.linkWord_fields
    have hwords := congrArg (g.originate s.now .presence none) (g.presenceWords_eq s.rctx)
    exact s.becomes_onRing _ hr hwords ⟨g.roleWord s.rctx, g.linkWord, _, rfl, hv, fun n hid => hn.trans (congrArg (·.getD 0) hid),
      hgw, ha, hs, hset, he, hw⟩
  case presence =>
    intro die shows nid old clash keeps
    refine ⟨fun hown => s.keeps_onRing _ hr (g.presence_own s.rctx _ _ _ _ _ hown), fun hother => ?_⟩
    let w2 := w[2]
    let w3 := w[3]
    let w4 := w[4]
    let x := NodeSt.shown old s.now die w2 w3 w4
    let k := g.judged s.rctx die w2 w4 x.nid
    have hk := g.judged_eq s.rctx die w2 w4 x.nid
    have hh := k.meets_eq s.now old x
    have hnid : (k.meets s.now old x).nid = k.nid := (congrArg Ring.nid hh :)
    have hclaim : (k.meets s.now old x).claim = k.claim := (congrArg Ring.claim hh :)
    have hlisten : (k.meets s.now old x).tListen = k.tListen := (congrArg Ring.tListen hh :)
    have hnamed : (k.meets s.now old x).named = k.named := (congrArg Ring.named hh :)
    have hconf := k.meets_nidConflict s.now old x
    have hmoved : k.moved = g.moved := (congrArg Ring.moved hk :)
    have hnodes : (k.without die).nodes = (g.without die).nodes := (congrArg (fun h => (h.without die).nodes) hk :)
    have hshows (hs : shows) : x.nid = some nid := if_pos hs
    refine s.becomes_onRing _ hr (g.presence_other s.rctx _ _ _ _ _ hother)
      ⟨fun h hn => ?yield, fun h => ?keep, fun hs => ?named,
        ⟨x, (congrArg Ring.nodes hh :).trans (congrArg (x :: ·) hnodes), rfl, rfl, rfl, rfl, rfl, fun y hy hcls => ?known⟩,
        fun hold hs => ?new, fun y hy hsame => ?again, (congrArg Ring.oq hh :).trans (congrArg Ring.oq hk :),
        (congrArg Ring.east hh :).trans (congrArg Ring.east hk :), (congrArg Ring.west hh :).trans (congrArg Ring.west hk :),
        (congrArg Ring.servo hh :).trans (congrArg Ring.servo hk :), (congrArg Ring.clock hh :).trans (congrArg Ring.clock hk :)⟩
    case yield =>
      obtain ⟨hid, hcl, hli, hco⟩ := g.judged_yields s.rctx die w2 w4 x.nid h hn
      exact ⟨hnid.trans hid, hclaim.trans hcl, hlisten.trans hli, hconf.trans hco⟩
    case keep =>
      obtain ⟨hid, hcl, hco⟩ := g.judged_keeps s.rctx die w2 w4 x.nid h
      exact ⟨hnid.trans hid, hclaim.trans hcl, hconf.trans hco⟩
    case named =>
      have hbit := g.judged_named s.rctx die w2 w4 nid
      rw [← hshows hs] at hbit
      exact hnamed ▸ hbit
    case known =>
      have hx : x = NodeSt.shown (some y) s.now die w2 w3 w4 := congrArg (NodeSt.shown · s.now die w2 w3 w4) hy
      rw [hx]
      exact y.shown_tClass s.now die w2 w3 w4 hcls
    case new =>
      have hjoin := k.meets_new s.now x nid (hshows hs)
      rw [← hold, hmoved] at hjoin
      exact hjoin
    case again =>
      have hkeeps := k.meets_again s.now y x hsame
      rw [← hy] at hkeeps
      exact (congrArg Ring.moved hkeeps :).trans hmoved
  · exact s.becomes_onRing _ hr (g.nidClaim_full s.now hmay hf) rfl
  · exact s.becomes_onRing _ hr (g.nidClaim_takes s.now hmay hf) rfl
  · exact s.keeps_onRing _ hr (g.nidClaim_rests s.now hno)
  case depart =>
    have hk := (g.without die).move_eq s.now false x.nid
    have hnodes : ((g.without die).move s.now false x.nid).nodes = (g.without die).nodes := (congrArg Ring.nodes hk :)
    refine s.becomes_onRing _ hr (g.depart_due s.now die hx ht) ⟨hnodes, fun n hn => ?_, ?_⟩
    · rw [hn]
      exact ⟨Ring.move_moved .., Ring.move_nodeLeave ..⟩
    · rw [hnodes]
      exact hk
  · exact s.keeps_onRing _ hr (g.depart_rests s.now die hno)
  case select =>
    refine s.becomes_ringWrite 0x1050 w hopen (by decide) rfl rfl (g.nodeSelect_eq s.rctx w)
      ⟨rfl, rfl, fun x hn hx => ?_, fun hn => ?_, rfl⟩
    · dsimp only
      rw [g.mapWords_other s.rctx hn hx]
      exact ⟨rfl, rfl, rfl, rfl, rfl, rfl⟩
    · dsimp only
      rw [g.mapWords_own s.rctx hn]
      exact ⟨rfl, rfl⟩
  · exact s.becomes_ringWrite 0x1008 w hopen (by decide) rfl rfl rfl rfl
  case master =>
    obtain ⟨hm, hv, ht⟩ := g.view_status s.rctx
    have hk := g.classed_eq s.rctx
    have hcls := g.classed_tcls s.rctx
    exact s.becomes_onRing _ hr rfl ⟨hcls, fun hs => g.classed_same s.rctx (hcls.symm.trans hs),
      fun hs => g.classed_new s.rctx (hcls ▸ hs), congrArg (Ring.chooseMaster · s.now) hk,
      hm, hv, ht, g.view_masterChg s.rctx, (congrArg Ring.nodes hk :), (congrArg Ring.clock hk :), (congrArg Ring.servo hk :),
      (congrArg Ring.nid hk :), (congrArg Ring.east hk :), (congrArg Ring.west hk :)⟩

end Sys2Proof.Machine

namespace Sys2Proof.Machine

/-! ### Frames on a ring (R469, R477 to R480) -/

namespace Hdr

variable (h : Hdr) (t : FType) (pay : List Word)

/-- A header and a payload have the form of a frame of a TYPE (R469). -/
def Formed : Prop :=
  t ≠ .test ∧ h.tc.toNat = t.tc ∧ t.lenOk h.len.toNat = true ∧ pay.length = 2 * h.len.toNat ∧ (h.bc = true → h.dst = 0)

theorem malformed_iff : (t = .test || decide (h.tc.toNat ≠ t.tc) || !t.lenOk h.len.toNat || decide (pay.length ≠ 2 * h.len.toNat)
    || (h.bc && decide (h.dst ≠ 0))) = true ↔ ¬h.Formed t pay := by
  simp only [Formed, not_and_or, Bool.or_eq_true, Bool.and_eq_true, Bool.not_eq_true', decide_eq_true_eq, not_not,
    Classical.not_imp, Bool.not_eq_true, or_assoc]

end Hdr

namespace Ring

variable (g : Ring)

theorem nid_cnt (w : Bool) (code : Nat) : (g.cnt w code).nid = g.nid := g.nid_setLink w _

section Emit

variable (west : Bool) (h : Hdr) (pay : List Word) (ab : Bool)

theorem emit_eq : g.emit west h pay ab = { g with oq := (g.emit west h pay ab).oq } := by
  unfold emit
  split
  · rfl
  · split <;> rfl

theorem emit_clear (hup : (g.link west).st = .up) (hw : (g.link west).wrap = false) :
    g.emit west h pay ab = { g with oq := g.oq ++ [.ring west h.word pay ab] } :=
  if_pos (by simp [LinkSt.clear, hup, hw])

theorem emit_wraps (hw : (g.link west).wrap = true) (hup : (g.link !west).st = .up) : g.emit west h pay ab =
    { g with oq := g.oq ++ [.ring (!west) { h with wrap := if h.wrap = 3 then 3 else h.wrap + 1 }.word pay ab] } :=
  (if_neg (by simp [LinkSt.clear, hw])).trans (if_pos hup)

theorem emit_nowhere (hdown : (g.link west).st ≠ .up) (hother : (g.link !west).st ≠ .up) : g.emit west h pay ab = g :=
  (if_neg (by simp [LinkSt.clear, hdown])).trans (if_neg hother)

theorem fresh_emit (now : Nat) (x : Hdr) : (g.emit west h pay ab).fresh now x = g.fresh now x :=
  (congrArg (Ring.fresh · now x) (g.emit_eq west h pay ab) :)

end Emit

section Removed

variable (src : BitVec 6) (onWest origWest : Bool) (wrap : BitVec 2) (hops : BitVec 7)

theorem removed_unicast : g.removed src onWest origWest wrap hops false = decide (hops.toNat ≤ 1) := rfl

theorem removed_other (bySrc : Bool) (h : g.nid ≠ some src) :
    g.removed src onWest origWest wrap hops bySrc = decide (hops.toNat ≤ 1) := by
  simp [removed, h]

theorem removed_own (h : g.nid = some src) (hw : wrap = 0) : g.removed src onWest onWest wrap hops true = true := by
  simp [removed, h, hw]

theorem removed_iff : g.removed src onWest origWest wrap hops true = true ↔
    hops.toNat ≤ 1 ∨ (g.nid = some src ∧ ((wrap = 0 ∧ origWest = onWest) ∨ wrap = 2)) := by
  simp only [removed, Bool.or_eq_true, Bool.and_eq_true, Bool.true_and, decide_eq_true_eq, beq_iff_eq]
  rw [or_comm, @eq_comm _ onWest]

end Removed

/-- What a well-formed frame makes of the ring interface, and what of it this node is to have (R469, R478, R479). -/
def received (now : Nat) (onWest : Bool) (h : Hdr) (t : FType) (pay : List Word) (bad : Bool) (resid : Nat) :
    Ring × Option (Hdr × FType) :=
  let w := !onWest
  let g := if bad then g.cnt w 6 else g
  let mine := !h.bc && decide (g.nid = some h.dst)
  let bySrc := decide (t ≠ .presence) || (pay.getD 2 0).getLsbD 31
  let fwd := !mine && !(g.removed h.src onWest h.west h.wrap h.hops (bySrc && h.bc))
  let g := if !mine && decide (h.hops.toNat ≤ 1) then g.cnt w 7 else g
  let out := if t = .sync then g.corrected w resid pay else pay
  let k := if fwd then g.emit onWest { h with hops := h.hops - 1 } out bad else g
  let own := decide (g.nid = some h.src) && decide (t ≠ .presence)
  if bad then (k, none)
  else if mine then (k, some (h, t))
  else if !h.bc || own then (k, none)
  else if t = .sync then (k, some (h, t))
  else if k.fresh now h then (k.noteSeq now h, some (h, t))
  else (k, none)

/-! A frame that arrives. -/

section Frame

variable (now : Nat) (onWest : Bool) (hdr : BitVec 56) (pay : List Word) (crc : Word) (abort : Bool) (resid : Nat)

theorem frame_down (hup : (g.link !onWest).st ≠ .up) (hiso : (g.link !onWest).st ≠ .isolated) :
    g.frame now onWest hdr pay crc abort resid = (g, none) := by
  refine (if_pos hup).trans ?_
  rw [if_neg (by simp [hiso])]

section Up

variable (hup : (g.link !onWest).st = .up)
include hup

theorem frame_hcrc (hbad : hcrcOk hdr = false) : g.frame now onWest hdr pay crc abort resid = (g.cnt (!onWest) 5, none) :=
  (if_neg (not_not.2 hup)).trans (if_pos (congrArg not hbad))

variable (hcrc : hcrcOk hdr = true)
include hcrc

theorem frame_unknown (ht : FType.ofCode (Hdr.of hdr).typ.toNat = none) :
    g.frame now onWest hdr pay crc abort resid = (g.cnt (!onWest) 7, none) := by
  refine (if_neg (not_not.2 hup)).trans ((if_neg (by simp [hcrc])).trans ?_)
  rw [ht]


variable {t : FType} (ht : FType.ofCode (Hdr.of hdr).typ.toNat = some t)
include ht

theorem frame_formless (hno : ¬(Hdr.of hdr).Formed t pay) :
    g.frame now onWest hdr pay crc abort resid = (g.cnt (!onWest) 7, none) := by
  refine (if_neg (not_not.2 hup)).trans ((if_neg (by simp [hcrc])).trans ?_)
  rw [ht]
  exact if_pos (((Hdr.of hdr).malformed_iff t pay).2 hno)

theorem frame_formed (hform : (Hdr.of hdr).Formed t pay) : g.frame now onWest hdr pay crc abort resid =
    g.received now onWest (Hdr.of hdr) t pay (abort || decide (crc ≠ frameCrc (Hdr.of hdr) pay)) resid := by
  refine (if_neg (not_not.2 hup)).trans ((if_neg (by simp [hcrc])).trans ?_)
  rw [ht]
  exact if_neg fun hbad => ((Hdr.of hdr).malformed_iff t pay).1 hbad hform

end Up

end Frame

/-! What becomes of a well-formed one. -/

section Received

variable (now : Nat) (onWest : Bool) (h : Hdr) (t : FType) (pay : List Word) (resid : Nat)

theorem received_mine (hbc : h.bc = false) (hid : g.nid = some h.dst) :
    g.received now onWest h t pay false resid = (g, some (h, t)) := by
  simp [received, hbc, hid]

theorem received_spoilt (hbc : h.bc = false) (hid : g.nid = some h.dst) :
    g.received now onWest h t pay true resid = (g.cnt (!onWest) 6, none) := by
  simp [received, hbc, nid_cnt, hid]

theorem received_forwarded (hbc : h.bc = false) (hid : g.nid ≠ some h.dst) (hhops : ¬h.hops.toNat ≤ 1) (ht : t ≠ .sync) :
    g.received now onWest h t pay false resid = (g.emit onWest { h with hops := h.hops - 1 } pay false, none) := by
  simp [received, hbc, hid, removed_unicast, hhops, ht]

theorem received_spent (hbc : h.bc = false) (hid : g.nid ≠ some h.dst) (hhops : h.hops.toNat ≤ 1) :
    g.received now onWest h t pay false resid = (g.cnt (!onWest) 7, none) := by
  simp [received, hbc, hid, removed_unicast, hhops]

section Broadcast

variable (hbc : h.bc = true) (hhops : ¬h.hops.toNat ≤ 1)
include hbc hhops

theorem received_broadcast (ht : t ≠ .sync) (hid : g.nid ≠ some h.src) : g.received now onWest h t pay false resid =
    let k := g.emit onWest { h with hops := h.hops - 1 } pay false
    if g.fresh now h then (k.noteSeq now h, some (h, t)) else (k, none) := by
  simp [received, hbc, removed_other, hid, hhops, ht, fresh_emit]

theorem received_own (hp : t ≠ .presence) (hid : g.nid = some h.src) (hw : h.wrap = 0) (hring : h.west = onWest) :
    g.received now onWest h t pay false resid = (g, none) := by
  subst hring
  have hends := g.removed_own h.src h.west h.wrap h.hops hid hw
  simp [received, hbc, hends, hid, hp, hhops]

end Broadcast

end Received

/-! ### TRIP blocks (R470, R471, R478) -/

section Trip

variable (now : Nat) (onWest : Bool) (f : BitVec 56)

theorem emitTrip_eq (west : Bool) : g.emitTrip west f = { g with oq := (g.emitTrip west f).oq } := by
  unfold emitTrip
  dsimp only
  split
  · rfl
  · split <;> rfl

/-- A TRIP block is a first copy: no block of its source and number in the last 10 ms, and its source is another node. -/
def FirstTrip : Prop :=
  (∀ x ∈ g.recentTrips now, x.1 = f.extractLsb' 48 6 → x.2.1 ≠ f.extractLsb' 40 6) ∧ g.nid ≠ some (f.extractLsb' 48 6)

theorem firstTrip_iff :
    (!(g.recentTrips now).any (fun x => decide (x.1 = f.extractLsb' 48 6) && decide (x.2.1 = f.extractLsb' 40 6))
    && decide (g.nid ≠ some (f.extractLsb' 48 6))) = true ↔ g.FirstTrip now f := by
  simp [FirstTrip]

/-- A copy of a TRIP block ends at this node. -/
def TripEnds : Prop :=
  let wrap : BitVec 2 := f.extractLsb' 46 2
  (f.extractLsb' 8 7 : BitVec 7).toNat ≤ 1
  ∨ (g.nid = some (f.extractLsb' 48 6) ∧ ((wrap = 0 ∧ f.getLsbD 55 = onWest) ∨ wrap = 2))

/-- A copy of a TRIP block goes on, or ends here. -/
def tripOn : Ring :=
  let wrap : BitVec 2 := f.extractLsb' 46 2
  let hops : BitVec 7 := f.extractLsb' 8 7
  if g.removed (f.extractLsb' 48 6) onWest (f.getLsbD 55) wrap hops true then g
  else g.emitTrip onWest (reTrip f wrap (hops - 1))

theorem tripOn_ends (h : g.TripEnds onWest f) : g.tripOn onWest f = g := if_pos ((g.removed_iff ..).2 h)

theorem tripOn_goes (h : ¬g.TripEnds onWest f) :
    g.tripOn onWest f = g.emitTrip onWest (reTrip f (f.extractLsb' 46 2) (f.extractLsb' 8 7 - 1)) :=
  if_neg fun hr => h ((g.removed_iff ..).1 hr)

theorem tripOn_trips : (g.tripOn onWest f).trips = g.trips := by
  unfold tripOn
  dsimp only
  split
  · rfl
  · exact (congrArg Ring.trips (emitTrip_eq ..) :)

/-- The ring interface with the TRIP blocks it has taken noted anew. -/
def noting (l : List (BitVec 6 × BitVec 6 × Nat)) : Ring := { g with trips := l }

theorem tripBlock_down (hup : (g.link !onWest).st ≠ .up) : g.tripBlock now onWest f = (g, false) := if_pos hup

section Up

variable (hup : (g.link !onWest).st = .up)
include hup

theorem tripBlock_hcrc (hbad : hcrcOk f = false) : g.tripBlock now onWest f = (g.cnt (!onWest) 5, false) :=
  (if_neg (not_not.2 hup)).trans (if_pos (congrArg not hbad))

variable (hcrc : hcrcOk f = true)
include hcrc

theorem tripBlock_stranger (h : f.extractLsb' 32 8 ≠ 1#8 ∨ g.present (f.extractLsb' 48 6) = false) :
    g.tripBlock now onWest f = (g.cnt (!onWest) 7, false) :=
  (if_neg (not_not.2 hup)).trans ((if_neg (by simp [hcrc])).trans (if_pos (by simpa using h)))

variable (hkind : f.extractLsb' 32 8 = 1#8) (hsrc : g.present (f.extractLsb' 48 6) = true)
include hkind hsrc

theorem tripBlock_eq : g.tripBlock now onWest f =
    let first := !(g.recentTrips now).any (fun x => decide (x.1 = f.extractLsb' 48 6) && decide (x.2.1 = f.extractLsb' 40 6))
      && decide (g.nid ≠ some (f.extractLsb' 48 6))
    ((g.noting (if first then (f.extractLsb' 48 6, f.extractLsb' 40 6, now) :: g.recentTrips now else g.recentTrips now)).tripOn
      onWest f, first) :=
  (if_neg (not_not.2 hup)).trans ((if_neg (by simp [hcrc])).trans (if_neg (by simp [hkind, hsrc])))

theorem tripBlock_first (h : g.FirstTrip now f) : g.tripBlock now onWest f =
    ((g.noting ((f.extractLsb' 48 6, f.extractLsb' 40 6, now) :: g.recentTrips now)).tripOn onWest f, true) := by
  rw [g.tripBlock_eq now onWest f hup hcrc hkind hsrc, (g.firstTrip_iff now f).2 h]
  rfl

theorem tripBlock_again (h : ¬g.FirstTrip now f) :
    g.tripBlock now onWest f = ((g.noting (g.recentTrips now)).tripOn onWest f, false) := by
  rw [g.tripBlock_eq now onWest f hup hcrc hkind hsrc, Bool.eq_false_iff.2 fun hf => h ((g.firstTrip_iff now f).1 hf)]
  rfl

end Up

end Trip

end Ring

/-! ### What the commands of frames and trips answer -/

namespace State

variable (s : State)

section Arrives

variable (hr : s.hub.ringRuns = true)
include hr

section Frame

variable (onWest : Bool) (hdr : BitVec 56) (pay : List Word) (crc : Word) (abort : Bool) (resid : Nat) {k : Ring}

theorem leaves_ringFrame (hk : s.hub.ring.frame s.now onWest hdr pay crc abort resid = (k, none)) :
    Leaves (exec (.ringFrame onWest hdr pay crc abort resid) s) { s with hub.ring := k } := by
  refine congrArg done ((if_neg (by simp [hr])).trans ?_)
  rw [hk]

theorem delivers_ringFrame {h : Hdr} {t : FType} (hk : s.hub.ring.frame s.now onWest hdr pay crc abort resid = (k, some (h, t))) :
    Leaves (exec (.ringFrame onWest hdr pay crc abort resid) s) (({ s with hub.ring := k } : State).frameIn h t onWest pay) := by
  refine congrArg done ((if_neg (by simp [hr])).trans ?_)
  rw [hk]

end Frame

section Trip

variable (onWest : Bool) (f : BitVec 56) {k : Ring}

theorem leaves_tripBlock (hk : s.hub.ring.tripBlock s.now onWest f = (k, false)) :
    Leaves (exec (.tripBlock onWest f) s) { s with hub.ring := k } := by
  refine congrArg done ((if_neg (by simp [hr])).trans ?_)
  rw [hk]
  rfl

theorem trips_tripBlock (hk : s.hub.ring.tripBlock s.now onWest f = (k, true)) :
    Leaves (exec (.tripBlock onWest f) s) ({ s with hub.ring := k } : State).ringTrip := by
  refine congrArg done ((if_neg (by simp [hr])).trans ?_)
  rw [hk]
  rfl

end Trip

end Arrives

/-- Channel n asks for a trip and its hub hears it. -/
def Asks (n : Nat) : Prop :=
  n < 4 ∧ (s.ch n).shk.tripReq = true ∧ (vget s.hub.st n {}).hubLost = false ∧ (vget s.hub.st n {}).soleLost = false

theorem asks_guard (n : Nat) (hr : s.hub.ringRuns = true) : (n < 4 ∧ (s.ch n).shk.tripReq ∧ s.hub.ringRuns
    ∧ !(vget s.hub.st n {}).hubLost ∧ !(vget s.hub.st n {}).soleLost) ↔ s.Asks n := by
  simp [Asks, hr]

theorem tripRequest_rests (n : Nat) (hr : s.hub.ringRuns = true) (h : ¬s.Asks n) : s.tripRequest n = s :=
  if_neg fun hc => h ((s.asks_guard n hr).1 hc)

theorem tripRequest_trips (n : Nat) (hr : s.hub.ringRuns = true) (h : s.Asks n) (hup : s.soleUp n 2 = true)
    (hid : s.nid.isSome = true) : s.tripRequest n =
      let t := s.withCh n { s.ch n with shk.tripReq := false }
      ({ t with hub.ring := t.hub.ring.tripRequest t.now n } : State).ringTrip := by
  refine (if_pos ((s.asks_guard n hr).2 h)).trans ?_
  rw [s.onSole_up n 2 _ hup]
  dsimp only
  have hnid : (s.withCh n { s.ch n with shk.tripReq := false }).nid = s.nid := nid_flush _ n
  rw [hnid, if_pos hid]

end State

/-- Settles O35: a frame by what becomes of a well-formed one (`Ring.received`), a TRIP block by `Ring.tripBlock_first` and
`Ring.tripBlock_again`, a request by `State.tripRequest_trips`. -/
theorem ringFramesAndTrips : Obligations.RingFramesAndTrips := by
  unfold Obligations.RingFramesAndTrips
  intro s hr g
  refine ⟨fun onWest hdr pay crc abort resid => ?frame,
    fun west h pay ab => ⟨fun hup hw => ?_, fun hw hup => ?_, g.emit_nowhere west h pay ab⟩,
    fun onWest f => ?trip, rfl, fun n => ⟨fun hasks hup hid => congrArg State.done (s.tripRequest_trips n hr hasks hup hid),
      fun hno => congrArg State.done (s.tripRequest_rests n hr hno)⟩⟩
  case frame =>
    intro o w h bad mine last counted
    have leaves {k : Ring} (hk : g.frame s.now onWest hdr pay crc abort resid = (k, none)) : RingBecomes o s (fun x => x = k) :=
      ⟨k, rfl, s.leaves_ringFrame hr onWest hdr pay crc abort resid hk⟩
    refine ⟨fun hup hiso => s.leaves_ringFrame hr onWest hdr pay crc abort resid (g.frame_down _ _ _ _ _ _ _ hup hiso),
      fun hup hbad => leaves (g.frame_hcrc _ _ _ _ _ _ _ hup hbad),
      fun hup hcrc ht => leaves (g.frame_unknown _ _ _ _ _ _ _ hup hcrc ht), fun t hup hcrc ht => ?_⟩
    intro form
    have formed {b : Bool} (hform : form) (hb : bad = b) :
        g.frame s.now onWest hdr pay crc abort resid = g.received s.now onWest h t pay b resid :=
      (g.frame_formed _ _ _ _ _ _ _ hup hcrc ht hform).trans (congrArg (g.received s.now onWest h t pay · resid) hb)
    have other (hbc : h.bc = false) (hno : ¬mine) : g.nid ≠ some h.dst := fun hid => hno ⟨hbc, hid⟩
    refine ⟨fun hno => leaves (g.frame_formless _ _ _ _ _ _ _ hup hcrc ht hno), fun hform ⟨hbc, hid⟩ hb => ?_,
      fun hform ⟨hbc, hid⟩ hb => ?_, fun hform hbc hno hb hhops hsync => ?_, fun hform hbc hno hb hhops => ?_,
      fun hform hbc hb hhops hsync hpres hsrc => ⟨fun hnew => ?_, fun hold => ?_⟩,
      fun hform hbc hb hhops hsync hpres hsrc hwrap hring => ?_⟩
    · have hk := g.received_mine s.now onWest h t pay resid hbc hid
      exact s.delivers_ringFrame hr onWest hdr pay crc abort resid ((formed hform hb).trans hk)
    · exact leaves ((formed hform hb).trans (g.received_spoilt s.now onWest h t pay resid hbc hid))
    · exact leaves ((formed hform hb).trans (g.received_forwarded s.now onWest h t pay resid hbc (other hbc hno) hhops hsync))
    · exact leaves ((formed hform hb).trans (g.received_spent s.now onWest h t pay resid hbc (other hbc hno) hhops))
    · have hk := g.received_broadcast s.now onWest h t pay resid hbc hhops hsync hsrc
      exact s.delivers_ringFrame hr onWest hdr pay crc abort resid ((formed hform hb).trans (hk.trans (if_pos hnew)))
    · have hk := g.received_broadcast s.now onWest h t pay resid hbc hhops hsync hsrc
      exact leaves ((formed hform hb).trans (hk.trans (if_neg (ne_true_of_eq_false hold))))
    · have hk := g.received_own s.now onWest h t pay resid hbc hhops hpres hsrc hwrap hring
      exact s.leaves_ringFrame hr onWest hdr pay crc abort resid ((formed hform hb).trans hk)
  · rw [g.emit_clear west h pay ab hup hw]
  · rw [g.emit_wraps west h pay ab hw hup]
  case trip =>
    intro o w src seq hops wrap recent first ends after
    have leaves {k : Ring} {P : Ring → Prop} (hk : g.tripBlock s.now onWest f = (k, false)) (hP : P k) : RingBecomes o s P :=
      ⟨k, hP, s.leaves_tripBlock hr onWest f hk⟩
    have goes (l : List (BitVec 6 × BitVec 6 × Nat)) (hl : l = if first then (src, seq, s.now) :: recent else recent) :
        after ((g.noting l).tripOn onWest f) := by
      have htrips : ((g.noting l).tripOn onWest f).trips = l := (g.noting l).tripOn_trips onWest f
      refine ⟨htrips.trans hl, fun hends => ?_, fun hgoes => ?_⟩
      · rw [htrips]
        exact (g.noting l).tripOn_ends onWest f hends
      · rw [htrips]
        exact (g.noting l).tripOn_goes onWest f hgoes
    refine ⟨fun hup => s.leaves_tripBlock hr onWest f (g.tripBlock_down _ _ _ hup),
      fun hup hbad => leaves (g.tripBlock_hcrc _ _ _ hup hbad) rfl,
      fun hup hcrc hno => leaves (g.tripBlock_stranger _ _ _ hup hcrc hno) rfl,
      fun hup hcrc hkind hsrc => ⟨fun hfirst => ?_, fun hagain => ?_⟩⟩
    · exact ⟨_, goes _ (if_pos hfirst).symm, s.trips_tripBlock hr onWest f (g.tripBlock_first _ _ _ hup hcrc hkind hsrc hfirst)⟩
    · exact leaves (g.tripBlock_again _ _ _ hup hcrc hkind hsrc hagain) (goes _ (if_neg hagain).symm)

end Sys2Proof.Machine

namespace Sys2Proof.Machine

/-! ### Entries and counts of a lane -/

section Entries

variable {α : Type} {N : Nat} (v : Vector α N) (i : Nat) (f : α → α) (d : α)

/-- A map that keeps the default reads as its function of what was read. -/
theorem vget_map (hd : f d = d) : vget (v.map f) i d = f (vget v i d) := by
  by_cases hi : i < N
  · simp [vget, hi]
  · simp [vget, hi, hd]

theorem set_vget_eq_vMod (hi : i < N) : v.setIfInBounds i (f (vget v i d)) = vMod v i f := by
  simp [vget, vMod, hi]

theorem vMod_id (hf : ∀ x, f x = x) : vMod v i f = v := by
  by_cases hi : i < N
  · rw [← set_vget_eq_vMod v i f v[i] hi, hf]
    ext j hj
    simp only [vget, Vector.getElem_setIfInBounds, Vector.getElem?_eq_getElem hi, Option.getD_some]
    split
    · next h => simp only [h]
    · rfl
  · simp [vMod, hi]

theorem vget_replicate : vget (Vector.replicate N d) i d = d := by
  by_cases hi : i < N
  · simp [vget, hi]
  · simp [vget, hi]

end Entries

theorem satAdd_zero {n : Nat} (v : BitVec n) : satAdd v 0 = v := by
  have hv := v.isLt
  rw [satAdd, Nat.add_zero, Nat.min_eq_left (by omega), BitVec.ofNat_toNat, BitVec.setWidth_eq]

theorem b2n_lt_two (b : Bool) : b2n b < 2 := by
  cases b <;> decide

/-- y shows the counts of x raised by invalid headers, invalid control blocks and parity errors (R504). -/
def LaneSt.Counts (x y : LaneSt) (bad ctl bips : Nat) : Prop :=
  vget y.err 0 0 = satAdd (vget x.err 0 0) bad ∧ vget y.err 5 0 = satAdd (vget x.err 5 0) ctl
  ∧ vget y.err 4 0 = satAdd (vget x.err 4 0) bips

namespace LinkSt

variable (l : LinkSt)

/-- A lane of a link. -/
def laneAt (i : Nat) : LaneSt := vget l.lane i {}

section Counts

variable (lane1 : Bool) (bad ctl code n : Nat)

theorem cnt_zero : l.cnt lane1 code 0 = l := by
  have herr (x : LaneSt) : { x with err := vMod x.err (laneCode code) (satAdd · 0) } = x :=
    congrArg (fun e => { x with err := e }) (vMod_id x.err _ _ satAdd_zero)
  exact congrArg (fun v => { l with lane := v }) (vMod_id l.lane _ _ herr)

theorem cnt_same : (l.cnt lane1 code n).laneAt (b2n lane1) =
    { l.laneAt (b2n lane1) with err := vMod (l.laneAt (b2n lane1)).err (laneCode code) (satAdd · n) } :=
  vget_vMod_same l.lane _ _ _ (b2n_lt_two lane1)

theorem cnt_other (i : Nat) (hi : i ≠ b2n lane1) : (l.cnt lane1 code n).laneAt i = l.laneAt i := vget_vMod_other l.lane _ _ _ _ hi

theorem cnt_laneAt (i : Nat) : (l.cnt lane1 code n).laneAt i = { l.laneAt i with err := ((l.cnt lane1 code n).laneAt i).err } := by
  by_cases hi : i = b2n lane1
  · rw [hi, cnt_same]
  · rw [cnt_other _ _ _ _ _ hi]

@[simp] theorem cnt_seen (i : Nat) : ((l.cnt lane1 code n).laneAt i).seen = (l.laneAt i).seen :=
  (congrArg LaneSt.seen (l.cnt_laneAt ..) :)

@[simp] theorem cnt_miss (i : Nat) : ((l.cnt lane1 code n).laneAt i).miss = (l.laneAt i).miss :=
  (congrArg LaneSt.miss (l.cnt_laneAt ..) :)

/-- The link with what an Awl block reports counted on its lane, and one more count raised. -/
def noted : LinkSt := ((l.cnt lane1 0 bad).cnt lane1 9 ctl).cnt lane1 code n

theorem noted_same : (l.noted lane1 bad ctl code n).laneAt (b2n lane1) =
    let x := l.laneAt (b2n lane1)
    { x with err := vMod (vMod (vMod x.err 0 (satAdd · bad)) 5 (satAdd · ctl)) (laneCode code) (satAdd · n) } := by
  rw [noted, cnt_same, cnt_same, cnt_same]
  rfl

@[simp] theorem noted_seen (i : Nat) : ((l.noted lane1 bad ctl code n).laneAt i).seen = (l.laneAt i).seen := by
  simp only [noted, cnt_seen]

@[simp] theorem noted_miss (i : Nat) : ((l.noted lane1 bad ctl code n).laneAt i).miss = (l.laneAt i).miss := by
  simp only [noted, cnt_miss]

theorem noted_st : (l.noted lane1 bad ctl code n).st = l.st := rfl

theorem noted_rxSleep : (l.noted lane1 bad ctl code n).rxSleep = l.rxSleep := rfl

theorem noted_counts (y : LaneSt) (hy : y.err = ((l.noted lane1 bad ctl code n).laneAt (b2n lane1)).err)
    (hc : code = 3 ∨ code = 4) :
    (l.laneAt (b2n lane1)).Counts y bad ctl (if code = 4 then n else 0) := by
  rw [noted_same] at hy
  rw [LaneSt.Counts, hy]
  obtain rfl | rfl := hc
  · simp [vget_vMod, laneCode, satAdd_zero]
  · simp [vget_vMod, laneCode]

end Counts

/-! ### A link that leaves service (R464, R480) -/

/-- The link after it has left service. -/
def fallen (dest : LinkState) : LinkSt :=
  { l with
    st := dest, wrap := true, nbr := none, ds := [], t1 := none, l1Ready := false
    lane := l.lane.map (fun (x : LaneSt) => { x with seen := 0, miss := 0 }) }

theorem fallen_laneAt (dest : LinkState) (i : Nat) :
    (l.fallen dest).laneAt i = { l.laneAt i with seen := 0, miss := 0 } := vget_map _ _ _ _ rfl

end LinkSt

/-- The events with that of a link that left UP. -/
def RingEvt.fell (e : RingEvt) (w wasUp : Bool) : RingEvt :=
  if wasUp then (if w then { e with linkWDown := true } else { e with linkEDown := true }) else e

namespace Ring

variable (g : Ring) (w : Bool)

/-- One link and the events replaced. -/
def putLink (l : LinkSt) (e : RingEvt) : Ring := { g.setLink w l with r.evt := e }

section PutLink

variable (l l' : LinkSt) (e e' : RingEvt)

@[simp] theorem link_putLink_same : (g.putLink w l e).link w = l := by
  cases w <;> rfl

@[simp] theorem link_putLink_other : (g.putLink w l e).link (!w) = g.link (!w) := by
  cases w <;> rfl

@[simp] theorem putLink_evt : (g.putLink w l e).r.evt = e := rfl

theorem setLink_eq_putLink : g.setLink w l = g.putLink w l g.r.evt := by
  cases w <;> rfl

theorem self_eq_putLink : g = g.putLink w (g.link w) g.r.evt := by
  cases w <;> rfl

@[simp] theorem setLink_setLink : (g.setLink w l).setLink w l' = g.setLink w l' := by
  cases w <;> rfl

theorem fall_putLink (dest : LinkState) :
    (g.putLink w l e).fall w dest = g.putLink w (l.fallen dest) (e.fell w (decide (l.st = .up))) := by
  unfold fall
  simp only [link_putLink_same]
  by_cases h : l.st = .up
  · simp only [decide_eq_true h]
    cases w <;> rfl
  · simp only [decide_eq_false h]
    cases w <;> rfl

theorem fall_eq (dest : LinkState) :
    g.fall w dest = g.putLink w ((g.link w).fallen dest) (g.r.evt.fell w (decide ((g.link w).st = .up))) :=
  (congrArg (Ring.fall · w dest) (g.self_eq_putLink w)).trans (g.fall_putLink ..)

end PutLink

/-- h differs from g in one link and the events alone. -/
def Only (h : Ring) : Prop := h = { g.setLink w (h.link w) with r.evt := h.r.evt }

theorem only_putLink (l : LinkSt) (e : RingEvt) : g.Only w (g.putLink w l e) := by
  rw [Only, link_putLink_same]
  rfl

theorem only_setLink (l : LinkSt) : g.Only w (g.setLink w l) := g.setLink_eq_putLink w l ▸ g.only_putLink w l _

/-- The link is down, the node wraps there, and nothing beside the link and the events has changed. -/
def Down (h : Ring) : Prop :=
  (h.link w).st = .down ∧ (h.link w).wrap = true ∧ (h.link w).nbr = none
  ∧ ((h.link w).laneAt 0).seen = 0 ∧ ((h.link w).laneAt 1).seen = 0
  ∧ ((g.link w).st = .up → (if w then h.r.evt.linkWDown else h.r.evt.linkEDown) = true) ∧ g.Only w h

theorem fall_down (l : LinkSt) (e : RingEvt) (hst : l.st = (g.link w).st) : g.Down w ((g.putLink w l e).fall w .down) := by
  rw [fall_putLink, Down, link_putLink_same, LinkSt.fallen_laneAt, LinkSt.fallen_laneAt, putLink_evt, hst]
  refine ⟨rfl, rfl, rfl, rfl, rfl, fun hup => ?_, g.only_putLink w _ _⟩
  rw [decide_eq_true hup]
  cases w <;> rfl

theorem setLink_falls (l : LinkSt) (hst : l.st = (g.link w).st) : g.Down w ((g.setLink w l).fall w .down) :=
  g.setLink_eq_putLink w l ▸ g.fall_down w l _ hst

theorem self_falls : g.Down w (g.fall w .down) := by
  have h := g.setLink_falls w (g.link w) rfl
  rwa [setLink_link] at h

theorem setLink_fall_err (l : LinkSt) (i : Nat) :
    ((((g.setLink w l).fall w .down).link w).laneAt i).err = (l.laneAt i).err := by
  rw [setLink_eq_putLink, fall_putLink, link_putLink_same, LinkSt.fallen_laneAt]

theorem setLink_err (l : LinkSt) (i : Nat) : (((g.setLink w l).link w).laneAt i).err = (l.laneAt i).err := by
  rw [link_setLink_same]

theorem putLink_fall_err (l : LinkSt) (e : RingEvt) (i : Nat) :
    ((((g.putLink w l e).fall w .down).link w).laneAt i).err = (l.laneAt i).err := by
  rw [fall_putLink, link_putLink_same, LinkSt.fallen_laneAt]

/-! ### Awl blocks (R462, R463) -/

end Ring

namespace LinkSt

variable (l : LinkSt) (lane1 : Bool) (b : BitVec 64)

/-- The link with a valid Awl block taken: one more in a row on its lane, and what the block tells. -/
def taking : LinkSt :=
  let x := l.laneAt (b2n lane1)
  { l with
    lane := l.lane.setIfInBounds (b2n lane1)
      { x with seen := min 2 (x.seen + 1), miss := 0, lane := (awlByte b 1).extractLsb' 6 2 } }.awlTake lane1 b

/-- The link with a position without a valid Awl block on a lane. -/
def missing : LinkSt :=
  let x := l.laneAt (b2n lane1)
  { l with
    lane := l.lane.setIfInBounds (b2n lane1) (if x.seen = 2 then { x with miss := x.miss + 1 } else { x with seen := 0 }) }

theorem taking_same : (l.taking lane1 b).laneAt (b2n lane1) =
    let x := l.laneAt (b2n lane1)
    { x with seen := min 2 (x.seen + 1), miss := 0, lane := (awlByte b 1).extractLsb' 6 2 } :=
  vget_vset_same l.lane _ _ _ (b2n_lt_two lane1)

theorem taking_other (i : Nat) (hi : i ≠ b2n lane1) : (l.taking lane1 b).laneAt i = l.laneAt i := vget_vset_other l.lane _ _ _ _ hi

theorem taking_st : (l.taking lane1 b).st = l.st := rfl

theorem missing_st : (l.missing lane1).st = l.st := rfl

theorem taking_l1Ready : (l.taking lane1 b).l1Ready = (b.extractLsb' 32 8 : Byte).getLsbD 0 := rfl

theorem taking_rxSleep :
    (l.taking lane1 b).rxSleep = if lane1 then l.rxSleep else (b.extractLsb' 32 8 : Byte).getLsbD 1 := rfl

theorem taking_nbr : (l.taking lane1 b).nbr = if b.getLsbD 23 then some (b.extractLsb' 16 6) else none := by
  have hbit : (awlByte b 2).getLsbD 7 = b.getLsbD 23 := by
    simp [awlByte]
  have hnid : (awlByte b 2).extractLsb' 0 6 = b.extractLsb' 16 6 := by
    ext i hi
    simp [awlByte, show i < 8 by omega]
  rw [← hbit, ← hnid]
  rfl

theorem missing_same : (l.missing lane1).laneAt (b2n lane1) =
    let x := l.laneAt (b2n lane1)
    if x.seen = 2 then { x with miss := x.miss + 1 } else { x with seen := 0 } :=
  vget_vset_same l.lane _ _ _ (b2n_lt_two lane1)

theorem awlLocked_eq : l.awlLocked = (decide ((l.laneAt 0).seen = 2) && (l.rxSleep || decide ((l.laneAt 1).seen = 2))) := rfl

end LinkSt

namespace Ring

variable (g : Ring) (w : Bool)

section Awl

variable (now : Nat) (lane1 : Bool) (b : BitVec 64) (bip : Byte) (skew bad ctl : Nat)

/-- What an expected position of a lane makes of the ring interface, once the invalid headers and blocks are counted. -/
def awlJudged : Ring :=
  let l := g.link w
  let x := l.laneAt (b2n lane1)
  if !awlOk b then
    let l := l.cnt lane1 3 (b2n (decide (x.seen = 2)))
    let x := l.laneAt (b2n lane1)
    if x.seen = 2 ∧ 3 ≤ x.miss then (g.setLink w l).fall w .down else g.setLink w (l.missing lane1)
  else
    let l := (if 0 < x.seen then l.cnt lane1 4 (mcount (awlByte b 5 ^^^ bip)) else l).taking lane1 b
    if l.awlLocked && !l.rxSleep && decide (32 < skew) then { g.setLink w l with r.evt.skewErr := true }.fall w .down
    else if l.awlLocked && decide (l.st = .lock) then
      g.setLink w { l with st := .align, tClean := now, swap := (l.laneAt 0).lane.getLsbD 0 }
    else g.setLink w l

variable (hfall : (g.link w).canFall = true) (hawake : (lane1 && (g.link w).rxSleep) = false)
include hfall hawake

theorem awl_eq : g.awl now w lane1 b bip skew bad ctl =
    (g.setLink w (((g.link w).cnt lane1 0 bad).cnt lane1 9 ctl)).awlJudged w now lane1 b bip skew := by
  refine if_neg ?_
  rw [modLink, link_setLink_same, Bool.or_eq_true, Bool.not_eq_true', not_or]
  exact ⟨ne_false_of_eq_true hfall, ne_true_of_eq_false hawake⟩

/-- The link of g with a missed position counted. -/
def missLink : LinkSt := (g.link w).noted lane1 bad ctl 3 (b2n (decide (((g.link w).laneAt (b2n lane1)).seen = 2)))

theorem awl_bad (hb : awlOk b = false) : g.awl now w lane1 b bip skew bad ctl =
    let x := (g.link w).laneAt (b2n lane1)
    let l := g.missLink w lane1 bad ctl
    if x.seen = 2 ∧ 3 ≤ x.miss then (g.setLink w l).fall w .down else g.setLink w (l.missing lane1) := by
  rw [g.awl_eq w now lane1 b bip skew bad ctl hfall hawake]
  unfold awlJudged
  simp only [link_setLink_same, setLink_setLink, hb, LinkSt.cnt_seen, LinkSt.cnt_miss]
  rfl

/-- The link of g after a valid Awl block. -/
def awlLink : LinkSt :=
  ((g.link w).noted lane1 bad ctl 4 (if 0 < ((g.link w).laneAt (b2n lane1)).seen then mcount (awlByte b 5 ^^^ bip) else 0)).taking
    lane1 b

theorem awl_good (hb : awlOk b = true) : g.awl now w lane1 b bip skew bad ctl =
    let l := g.awlLink w lane1 b bip bad ctl
    if l.awlLocked && !l.rxSleep && decide (32 < skew) then (g.putLink w l { g.r.evt with skewErr := true }).fall w .down
    else if l.awlLocked && decide (l.st = .lock) then
      g.setLink w { l with st := .align, tClean := now, swap := (l.laneAt 0).lane.getLsbD 0 }
    else g.setLink w l := by
  have hlink (l : LinkSt) (p : Prop) [Decidable p] (n : Nat) :
      (if p then l.cnt lane1 4 n else l) = l.cnt lane1 4 (if p then n else 0) := by
    split
    · rfl
    · rw [LinkSt.cnt_zero]
  rw [g.awl_eq w now lane1 b bip skew bad ctl hfall hawake]
  unfold awlJudged awlLink
  simp only [link_setLink_same, setLink_setLink, hb, LinkSt.cnt_seen, hlink]
  cases w <;> rfl

omit hfall hawake

/-- y shows the counts of the lane raised by a missed position. -/
theorem missLink_counts (y : LaneSt) (hy : y.err = ((g.missLink w lane1 bad ctl).laneAt (b2n lane1)).err) :
    ((g.link w).laneAt (b2n lane1)).Counts y bad ctl 0 := (g.link w).noted_counts lane1 bad ctl 3 _ y hy (.inl rfl)

theorem missing_st : ((g.missLink w lane1 bad ctl).missing lane1).st = (g.link w).st := by
  rw [LinkSt.missing_st, missLink, LinkSt.noted_st]

theorem missing_locked (h : ((g.link w).laneAt (b2n lane1)).seen = 2) :
    ((g.missLink w lane1 bad ctl).missing lane1).laneAt (b2n lane1) =
      { (g.missLink w lane1 bad ctl).laneAt (b2n lane1) with miss := ((g.link w).laneAt (b2n lane1)).miss + 1, seen := 2 } := by
  have hseen : ((g.missLink w lane1 bad ctl).laneAt (b2n lane1)).seen = 2 := (LinkSt.noted_seen ..).trans h
  have hmiss : ((g.missLink w lane1 bad ctl).laneAt (b2n lane1)).miss = ((g.link w).laneAt (b2n lane1)).miss := LinkSt.noted_miss ..
  rw [LinkSt.missing_same]
  dsimp only
  rw [if_pos hseen, hmiss, hseen]

theorem missing_unlocked (h : ((g.link w).laneAt (b2n lane1)).seen ≠ 2) :
    ((g.missLink w lane1 bad ctl).missing lane1).laneAt (b2n lane1) =
      { (g.missLink w lane1 bad ctl).laneAt (b2n lane1) with seen := 0 } := by
  have hseen : ((g.missLink w lane1 bad ctl).laneAt (b2n lane1)).seen ≠ 2 := fun hc => h ((LinkSt.noted_seen ..).symm.trans hc)
  exact (LinkSt.missing_same ..).trans (if_neg hseen)

/-- The parity errors a valid Awl block shows: none for the first one (R463). -/
def awlBips : Nat := if 0 < ((g.link w).laneAt (b2n lane1)).seen then mcount ((b.extractLsb' 40 8 : Byte) ^^^ bip) else 0

/-- Lane 1 sleeps after an Awl block of a lane. -/
def awlAsleep : Bool := if lane1 then (g.link w).rxSleep else (b.extractLsb' 32 8 : Byte).getLsbD 1

/-- The receive lanes that are awake have Awl lock after a valid Awl block: its own by the block, and the other, or lane 1
sleeps. -/
def AwlLocks : Prop :=
  min 2 (((g.link w).laneAt (b2n lane1)).seen + 1) = 2
  ∧ (((g.link w).laneAt (1 - b2n lane1)).seen = 2 ∨ (lane1 = false ∧ g.awlAsleep w lane1 b = true))

/-- The lanes are too far apart. -/
def AwlSkewed : Prop := g.awlAsleep w lane1 b = false ∧ 32 < skew

theorem awlLink_same : (g.awlLink w lane1 b bip bad ctl).laneAt (b2n lane1) =
    { ((g.link w).noted lane1 bad ctl 4 (g.awlBips w lane1 b bip)).laneAt (b2n lane1) with
      seen := min 2 (((g.link w).laneAt (b2n lane1)).seen + 1), miss := 0, lane := (awlByte b 1).extractLsb' 6 2 } := by
  rw [awlLink, LinkSt.taking_same]
  dsimp only
  rw [LinkSt.noted_seen]
  rfl

theorem awlLink_st : (g.awlLink w lane1 b bip bad ctl).st = (g.link w).st := by
  rw [awlLink, LinkSt.taking_st, LinkSt.noted_st]

theorem awlLink_tells : (g.awlLink w lane1 b bip bad ctl).l1Ready = (b.extractLsb' 32 8 : Byte).getLsbD 0
    ∧ (g.awlLink w lane1 b bip bad ctl).rxSleep = g.awlAsleep w lane1 b
    ∧ (g.awlLink w lane1 b bip bad ctl).nbr = if b.getLsbD 23 then some (b.extractLsb' 16 6) else none := by
  rw [awlLink, LinkSt.taking_rxSleep, LinkSt.noted_rxSleep]
  exact ⟨LinkSt.taking_l1Ready .., rfl, LinkSt.taking_nbr ..⟩

/-- y shows the counts of the lane raised by a valid Awl block. -/
theorem awlLink_counts (y : LaneSt) (hy : y.err = ((g.awlLink w lane1 b bip bad ctl).laneAt (b2n lane1)).err) :
    ((g.link w).laneAt (b2n lane1)).Counts y bad ctl (g.awlBips w lane1 b bip) :=
  (g.link w).noted_counts lane1 bad ctl 4 _ y (hy.trans (congrArg LaneSt.err (g.awlLink_same w lane1 b bip bad ctl) :)) (.inr rfl)

section Good

include hawake

theorem awlLink_locked : (g.awlLink w lane1 b bip bad ctl).awlLocked = true ↔ g.AwlLocks w lane1 b := by
  have hsame : ((g.awlLink w lane1 b bip bad ctl).laneAt (b2n lane1)).seen = min 2 (((g.link w).laneAt (b2n lane1)).seen + 1) :=
    (congrArg LaneSt.seen (g.awlLink_same w lane1 b bip bad ctl) :)
  have hother : ((g.awlLink w lane1 b bip bad ctl).laneAt (1 - b2n lane1)).seen = ((g.link w).laneAt (1 - b2n lane1)).seen := by
    rw [awlLink, LinkSt.taking_other _ _ _ _ (by cases lane1 <;> decide), LinkSt.noted_seen]
  rw [AwlLocks, ← hsame, ← hother]
  rw [LinkSt.awlLocked_eq, (g.awlLink_tells w lane1 b bip bad ctl).2.1]
  cases lane1 with
  | false => simp [b2n, or_comm]
  | true =>
    have hw : g.awlAsleep w true b = false := hawake
    simp [b2n, hw, and_comm]

theorem awlLink_skews : ((g.awlLink w lane1 b bip bad ctl).awlLocked && !(g.awlLink w lane1 b bip bad ctl).rxSleep
    && decide (32 < skew)) = true ↔ g.AwlLocks w lane1 b ∧ g.AwlSkewed w lane1 b skew := by
  rw [Bool.and_eq_true, Bool.and_eq_true, g.awlLink_locked w lane1 b bip bad ctl hawake,
    (g.awlLink_tells w lane1 b bip bad ctl).2.1, Bool.not_eq_true', decide_eq_true_eq,
    and_assoc]
  rfl

theorem awlLink_aligns :
    ((g.awlLink w lane1 b bip bad ctl).awlLocked && decide ((g.awlLink w lane1 b bip bad ctl).st = .lock)) = true
    ↔ g.AwlLocks w lane1 b ∧ (g.link w).st = .lock := by
  rw [Bool.and_eq_true, g.awlLink_locked w lane1 b bip bad ctl hawake, awlLink_st, decide_eq_true_eq]

include hfall

variable (hb : awlOk b = true)
include hb

theorem awl_skews (hl : g.AwlLocks w lane1 b) (hs : g.AwlSkewed w lane1 b skew) : g.awl now w lane1 b bip skew bad ctl =
    (g.putLink w (g.awlLink w lane1 b bip bad ctl) { g.r.evt with skewErr := true }).fall w .down :=
  (g.awl_good w now lane1 b bip skew bad ctl hfall hawake hb).trans
    (if_pos ((g.awlLink_skews w lane1 b bip skew bad ctl hawake).2 ⟨hl, hs⟩))

theorem awl_aligns (hl : g.AwlLocks w lane1 b) (hs : ¬g.AwlSkewed w lane1 b skew) (hst : (g.link w).st = .lock) :
    let l := g.awlLink w lane1 b bip bad ctl
    g.awl now w lane1 b bip skew bad ctl =
      g.setLink w { l with st := .align, tClean := now, swap := (l.laneAt 0).lane.getLsbD 0 } :=
  (g.awl_good w now lane1 b bip skew bad ctl hfall hawake hb).trans
    ((if_neg fun h => hs ((g.awlLink_skews w lane1 b bip skew bad ctl hawake).1 h).2).trans
      (if_pos ((g.awlLink_aligns w lane1 b bip bad ctl hawake).2 ⟨hl, hst⟩)))

theorem awl_takes (hs : ¬(g.AwlLocks w lane1 b ∧ g.AwlSkewed w lane1 b skew))
    (hno : ¬g.AwlLocks w lane1 b ∨ (g.link w).st ≠ .lock) :
    g.awl now w lane1 b bip skew bad ctl = g.setLink w (g.awlLink w lane1 b bip bad ctl) :=
  (g.awl_good w now lane1 b bip skew bad ctl hfall hawake hb).trans
    ((if_neg fun h => hs ((g.awlLink_skews w lane1 b bip skew bad ctl hawake).1 h)).trans
      (if_neg fun h => not_and_or.2 hno ((g.awlLink_aligns w lane1 b bip bad ctl hawake).1 h)))

end Good

end Awl

/-! ### Link states (R464, R480, R481, R496, R497) -/

theorem blockLock_down (h : (g.link w).st = .down) : g.blockLock w =
    g.setLink w { g.link w with
      st := .lock, lane := (g.link w).lane.map (fun (x : LaneSt) => { x with seen := 0, miss := 0 }) } :=
  congrArg (g.setLink w) (if_pos h)

theorem blockLock_other (h : (g.link w).st ≠ .down) : g.blockLock w = g :=
  (congrArg (g.setLink w) (if_neg h)).trans (g.setLink_link w)

section LinkUp

variable (now : Nat)

/-- A link may enter UP now. -/
def MayRise : Prop := (g.link w).st = .align ∧ (g.link w).tClean + 1000000 ≤ now ∧ ((g.link w).l1Ready || (g.link w).txSleep) = true

theorem linkUp_rises (h : g.MayRise w now) : let k := g.linkUp now w
    (k.link w).st = .up ∧ (k.link w).tUp = now ∧ (k.link w).wrap = (g.link w).wrap ∧ k.r = g.r ∧ k.link (!w) = g.link (!w) := by
  unfold linkUp
  dsimp only
  rw [if_pos (show (g.link w).st = .align ∧ (g.link w).tClean + msNs 1 ≤ now
    ∧ ((g.link w).l1Ready || (g.link w).txSleep) = true from h)]
  split
  · cases w <;> exact ⟨rfl, rfl, rfl, rfl, rfl⟩
  · cases w <;> exact ⟨rfl, rfl, rfl, rfl, rfl⟩

theorem linkUp_rests (h : (g.link w).st ≠ .align ∨ now < (g.link w).tClean + 1000000
    ∨ ((g.link w).l1Ready || (g.link w).txSleep) = false) : g.linkUp now w = g := by
  refine if_neg ?_
  rintro ⟨hst, ht, hready⟩
  obtain h | h | h := h
  · exact h hst
  · exact absurd ht (Nat.not_le.2 h)
  · exact Bool.false_ne_true (h.symm.trans hready)

end LinkUp

/-! What takes a link down. -/

section LinkDown

variable (hfall : (g.link w).canFall = true)
include hfall

section Lane

variable (lane1 : Bool) (hawake : (lane1 && (g.link w).rxSleep) = false)
include hawake

theorem linkDown_blockLock : g.linkDown w (.blockLock lane1) = (g.setLink w ((g.link w).cnt lane1 1 1)).fall w .down :=
  (if_neg (ne_true_of_eq_false hawake)).trans (if_pos hfall)

theorem linkDown_hiBer : g.linkDown w (.hiBer lane1) = (g.setLink w ((g.link w).cnt lane1 2 1)).fall w .down :=
  (if_neg (ne_true_of_eq_false hawake)).trans (if_pos hfall)

theorem linkDown_awlLock : g.linkDown w (.awlLock lane1) = g.fall w .down :=
  (if_neg (ne_true_of_eq_false hawake)).trans (if_pos hfall)

end Lane

theorem linkDown_skew : g.linkDown w .skew =
    (g.putLink w (g.link w) { g.r.evt with skewErr := true }).fall w .down := by
  refine (if_pos hfall).trans ?_
  cases w <;> rfl

end LinkDown

theorem linkDown_asleep (h : (g.link w).rxSleep = true) : g.linkDown w (.blockLock true) = g ∧ g.linkDown w (.hiBer true) = g
    ∧ g.linkDown w (.awlLock true) = g := ⟨if_pos h, if_pos h, if_pos h⟩

section Fault

variable (now : Nat)

/-- A link that has seen a FAULT block: its millisecond in ALIGN starts anew. -/
def faulted : LinkSt := if (g.link w).st = .align then { g.link w with tClean := now } else g.link w

theorem faulted_st : (g.faulted w now).st = (g.link w).st := by
  unfold faulted
  split <;> rfl

theorem faultSeen_eq (n : Nat) (hn : 0 < n) : g.faultSeen now w (.fault n) = g.setLink w (g.faulted w now) := if_pos hn

theorem faults_fall (n : Nat) (hn : 2 ≤ n) (hfall : (g.link w).canFall = true) :
    (g.faultSeen now w (.fault n)).linkDown w (.fault n) = (g.setLink w (g.faulted w now)).fall w .down := by
  have hcan : ((g.setLink w (g.faulted w now)).link w).canFall = true := by
    rwa [link_setLink_same, LinkSt.canFall, faulted_st]
  rw [g.faultSeen_eq w now n (by omega)]
  exact if_pos ⟨hn, hcan⟩

theorem linkDown_fault_one : g.linkDown w (.fault 1) = g := by
  unfold linkDown
  exact if_neg fun h => absurd h.1 (by decide)

theorem fault_waits : (g.faultSeen now w (.fault 1)).linkDown w (.fault 1) = g.setLink w (g.faulted w now) := by
  rw [g.faultSeen_eq w now 1 one_pos, linkDown_fault_one]

end Fault

theorem fall_counted (lane1 : Bool) (code : Nat) (hcode : code ≤ 4) :
    let k := (g.setLink w ((g.link w).cnt lane1 code 1)).fall w .down
    g.Down w k ∧ vget ((k.link w).laneAt (b2n lane1)).err code 0
      = satAdd (vget ((g.link w).laneAt (b2n lane1)).err code 0) 1 := by
  have hplace : laneCode code = code := if_neg (by omega)
  rw [setLink_eq_putLink]
  refine ⟨g.fall_down w _ _ rfl, ?_⟩
  rw [fall_putLink, link_putLink_same, LinkSt.fallen_laneAt, LinkSt.cnt_same, hplace]
  exact vget_vMod_same _ _ _ _ (by omega)

theorem fall_skewed (l : LinkSt) (e : RingEvt) (he : e.skewErr = true) :
    ((g.putLink w l e).fall w .down).r.evt.skewErr = true := by
  rw [fall_putLink, putLink_evt, RingEvt.fell]
  split
  · cases w <;> exact he
  · exact he

/-! Isolation and sleep. -/

/-- The ring interface with an ISOLATE bit of its control register. -/
def withIsolate (on : Bool) : Ring :=
  if w then { g with r.ctrl.isolateW := on } else { g with r.ctrl.isolateE := on }

theorem isolate_sets : let k := g.isolate w true
    (k.link w).st = .isolated ∧ ((g.link w).st ≠ .isolated → (k.link w).wrap = true)
    ∧ (if w then k.r.ctrl.isolateW else k.r.ctrl.isolateE) = true ∧ k.r.lb = g.r.lb ∧ k.link (!w) = g.link (!w) := by
  have hk : g.isolate w true =
      if ((g.withIsolate w true).link w).st = .isolated then g.withIsolate w true
      else (g.withIsolate w true).fall w .isolated := rfl
  have hlink : (g.withIsolate w true).link w = g.link w := by
    cases w <;> rfl
  rw [hk, hlink]
  dsimp only
  split
  · next h =>
    rw [hlink]
    exact ⟨h, fun hne => absurd h hne, by cases w <;> rfl, by cases w <;> rfl, by cases w <;> rfl⟩
  · rw [fall_eq, link_putLink_same, link_putLink_other]
    exact ⟨rfl, fun _ => rfl, by cases w <;> rfl, by cases w <;> rfl, by cases w <;> rfl⟩

theorem isolate_ends (h : (g.link w).st = .isolated) : let k := g.isolate w false
    (k.link w).st = .down ∧ (if w then k.r.ctrl.isolateW else k.r.ctrl.isolateE) = false
    ∧ k.r.lb = g.r.lb &&& (if w then 0x00FF else 0xFF00) ∧ k.link (!w) = g.link (!w) := by
  have hlink : (g.withIsolate w false).link w = g.link w := by
    cases w <;> rfl
  have hst : ((g.withIsolate w false).link w).st = .isolated := hlink ▸ h
  have hk : g.isolate w false = { (g.withIsolate w false).fall w .down with
      r.lb := (g.withIsolate w false).r.lb &&& ~~~(lbMask w) } := if_pos hst
  rw [hk, fall_eq]
  cases w <;> exact ⟨rfl, rfl, rfl, rfl⟩

theorem laneSleep_sleeps (c : RCtx) (hen : g.r.ctrl.sleepEn = true) (hc : c.hub ≠ 0) :
    g.laneSleep c w = g.setLink w { g.link w with txSleep := true, waking := false } :=
  if_pos (by simp [hen, hc])

theorem laneSleep_rests (c : RCtx) (h : g.r.ctrl.sleepEn = false ∨ c.hub = 0) : g.laneSleep c w = g :=
  if_neg (by obtain h | h := h <;> simp [h])

theorem laneWake_wakes (c : RCtx) (hc : c.hub = 0) :
    g.laneWake c w = g.setLink w { g.link w with waking := (g.link w).txSleep } := if_pos hc

theorem laneWake_rests (c : RCtx) (hc : c.hub ≠ 0) : g.laneWake c w = g := if_neg hc

theorem wrapRelease_due (now : Nat) (hup : (g.link w).st = .up) (ht : (g.link w).tUp + 100000000 ≤ now) :
    g.wrapRelease now w = g.setLink w { g.link w with wrap := false } := congrArg (g.setLink w) (if_pos ⟨hup, ht⟩)

theorem wrapRelease_rests (now : Nat) (h : (g.link w).st ≠ .up ∨ now < (g.link w).tUp + 100000000) : g.wrapRelease now w = g :=
  (congrArg (g.setLink w) (if_neg fun ⟨hup, ht⟩ => h.elim (· hup) (Nat.not_lt.2 ht))).trans (g.setLink_link w)

/-! ### Loopbacks and counts (R498, R504) -/

/-- The mode a write gives a lane: taken where its link is ISOLATED (R498). -/
def lbMode (v : Word) (i : Nat) : BitVec 4 :=
  if (g.link (decide (2 ≤ i))).st = .isolated ∧ (v.extractLsb' (4 * i) 4).toNat ≤ 3 then v.extractLsb' (4 * i) 4 else 0

theorem lbWrite_eq (v : Word) : g.lbWrite v = { g with r.lb :=
    ((g.lbMode v 0).setWidth 16 <<< 0) ||| ((g.lbMode v 1).setWidth 16 <<< 4) ||| ((g.lbMode v 2).setWidth 16 <<< 8)
      ||| ((g.lbMode v 3).setWidth 16 <<< 12) } := by
  have hmode (i : Nat) : (if (g.link (decide (2 ≤ i))).st = .isolated ∧ ((v.extractLsb' (4 * i) 4 : BitVec 4).setWidth 16).toNat ≤ 3
      then (v.extractLsb' (4 * i) 4 : BitVec 4).setWidth 16 <<< (4 * i) else 0) = (g.lbMode v i).setWidth 16 <<< (4 * i) := by
    have hnat : ((v.extractLsb' (4 * i) 4 : BitVec 4).setWidth 16).toNat = (v.extractLsb' (4 * i) 4).toNat :=
      BitVec.toNat_setWidth_of_le (by decide)
    rw [hnat, lbMode]
    split
    · rfl
    · simp
  unfold lbWrite
  simp only [hmode]

theorem lbWrite_lane (v : Word) (i : Nat) (hi : i < 4) : (g.lbWrite v).r.lb.extractLsb' (4 * i) 4 = g.lbMode v i := by
  rw [lbWrite_eq]
  interval_cases i <;> simp [BitVec.extractLsb'_or]

/-- The ring interface with the counts of a lane cleared where a word names it. -/
def clearLane (v : Word) (g : Ring) (i : Nat) : Ring :=
  if v.getLsbD i then
    g.modLink (decide (2 ≤ i)) fun (l : LinkSt) =>
      { l with
        lane := vMod l.lane (i % 2) (fun (x : LaneSt) => { x with err := Vector.replicate 6 0 })
        err := if i % 2 = 0 then Vector.replicate 4 0 else l.err }
  else g

theorem errClear_eq (v : Word) : g.errClear v = clearLane v (clearLane v (clearLane v (clearLane v g 0) 1) 2) 3 := rfl

theorem link_modLink (x : Bool) (f : LinkSt → LinkSt) : (g.modLink w f).link x = if x = w then f (g.link w) else g.link x := by
  cases w <;> cases x <;> rfl

section Clear

variable (v : Word) (i j k : Nat)

theorem clearLane_lane (hi : i < 4) (hk : k < 4) : vget (((clearLane v g k).link (decide (2 ≤ i))).laneAt (i % 2)).err j 0 =
    if i = k ∧ v.getLsbD k = true then 0 else vget ((g.link (decide (2 ≤ i))).laneAt (i % 2)).err j 0 := by
  have hplace : i = k ↔ decide (2 ≤ i) = decide (2 ≤ k) ∧ i % 2 = k % 2 := by
    rw [decide_eq_decide]
    omega
  unfold clearLane
  by_cases hv : v.getLsbD k = true
  · rw [if_pos hv, link_modLink]
    by_cases hside : decide (2 ≤ i) = decide (2 ≤ k)
    · rw [if_pos hside, hside]
      by_cases hlane : i % 2 = k % 2
      · rw [if_pos (show i = k ∧ _ from ⟨hplace.2 ⟨hside, hlane⟩, hv⟩), hlane, LinkSt.laneAt,
          vget_vMod_same _ _ _ _ (Nat.mod_lt _ two_pos)]
        exact vget_replicate ..
      · rw [if_neg (show ¬(i = k ∧ _) from fun h => hlane (hplace.1 h.1).2), LinkSt.laneAt, vget_vMod_other _ _ _ _ _ hlane]
        rfl
    · rw [if_neg hside, if_neg (show ¬(i = k ∧ _) from fun h => hside (hplace.1 h.1).1)]
  · rw [if_neg hv, if_neg (show ¬(i = k ∧ _) from fun h => hv h.2)]

theorem clearLane_err (x : Bool) (hk : k < 4) : vget ((clearLane v g k).link x).err j 0 =
    if k = (if x then 2 else 0) ∧ v.getLsbD k = true then 0 else vget (g.link x).err j 0 := by
  have hplace : k = (if x then 2 else 0) ↔ x = decide (2 ≤ k) ∧ k % 2 = 0 := by
    cases x <;> simp <;> omega
  unfold clearLane
  by_cases hv : v.getLsbD k = true
  · rw [if_pos hv, link_modLink]
    by_cases hside : x = decide (2 ≤ k)
    · rw [if_pos hside, ← hside]
      dsimp only
      split
      · next heven =>
        rw [if_pos ⟨hplace.2 ⟨hside, heven⟩, hv⟩]
        exact vget_replicate ..
      · next hodd => rw [if_neg fun h => hodd (hplace.1 h.1).2]
    · rw [if_neg hside, if_neg fun h => hside (hplace.1 h.1).1]
  · rw [if_neg hv, if_neg fun h => hv h.2]

theorem clearLane_keeps : (∀ x, ((clearLane v g k).link x).st = (g.link x).st) ∧ (clearLane v g k).r = g.r
    ∧ (clearLane v g k).nodes = g.nodes := by
  unfold clearLane
  split
  · refine ⟨fun x => ?_, ?_, ?_⟩
    · rw [link_modLink]
      split
      · next h => rw [h]
      · rfl
    · exact r_setLink ..
    · cases decide (2 ≤ k) <;> rfl
  · exact ⟨fun _ => rfl, rfl, rfl⟩

theorem errClear_lane (hi : i < 4) : vget (((g.errClear v).link (decide (2 ≤ i))).laneAt (i % 2)).err j 0 =
    if v.getLsbD i = true then 0 else vget ((g.link (decide (2 ≤ i))).laneAt (i % 2)).err j 0 := by
  rw [errClear_eq, clearLane_lane _ _ _ _ _ hi (by decide), clearLane_lane _ _ _ _ _ hi (by decide),
    clearLane_lane _ _ _ _ _ hi (by decide), clearLane_lane _ _ _ _ _ hi (by decide)]
  interval_cases i <;> simp

theorem errClear_err (x : Bool) : vget ((g.errClear v).link x).err j 0 =
    if v.getLsbD (if x then 2 else 0) = true then 0 else vget (g.link x).err j 0 := by
  rw [errClear_eq, clearLane_err _ _ _ _ _ (by decide), clearLane_err _ _ _ _ _ (by decide), clearLane_err _ _ _ _ _ (by decide),
    clearLane_err _ _ _ _ _ (by decide)]
  cases x <;> simp

theorem errClear_keeps : (∀ x, ((g.errClear v).link x).st = (g.link x).st) ∧ (g.errClear v).r = g.r
    ∧ (g.errClear v).nodes = g.nodes := by
  rw [errClear_eq]
  exact ⟨fun x => by simp only [(clearLane_keeps _ v _).1], by simp only [(clearLane_keeps _ v _).2.1],
    by simp only [(clearLane_keeps _ v _).2.2]⟩

end Clear

/-- A write of RING_CTRL. -/
def ctrlWrite (v : Word) : Ring :=
  let c := g.r.ctrl.write v
  let o := g.r.ctrl
  let k : Ring := { g with r.ctrl := { c with isolateE := o.isolateE, isolateW := o.isolateW } }
  let k := if c.isolateE = o.isolateE then k else k.isolate false c.isolateE
  if c.isolateW = o.isolateW then k else k.isolate true c.isolateW

end Ring

theorem RingCtrl.write_read (r c : RingCtrl) : r.write c.read = c := by
  obtain ⟨w, e, p, z⟩ := c
  have h : ∀ w e p z : Bool, ({} : RingCtrl).write (RingCtrl.read ⟨w, e, p, z⟩) = ⟨w, e, p, z⟩ := by decide
  exact h w e p z

/-- A write of RING_CTRL that changes one ISOLATE bit isolates the link, or ends that. -/
theorem State.ringRegWrite_isolate (s : State) (w on : Bool)
    (h : (if w then s.hub.ring.r.ctrl.isolateW else s.hub.ring.r.ctrl.isolateE) = !on) :
    s.ringRegWrite 0x1000 (s.isolateWord w on) = { s with hub.ring := s.hub.ring.isolate w on } := by
  have hk : s.hub.ring.ctrlWrite (s.isolateWord w on) = s.hub.ring.isolate w on := by
    have hne : on ≠ !on := by cases on <;> decide
    unfold Ring.ctrlWrite State.isolateWord
    simp only [RingCtrl.write_read]
    cases w with
    | false => exact (if_pos rfl).trans (if_neg fun hc => hne (hc.trans h))
    | true => exact (if_neg fun hc => hne (hc.trans h)).trans (congrArg (Ring.isolate · true on) (if_pos rfl))
  exact congrArg (fun k => { s with hub.ring := k }) hk

end Sys2Proof.Machine

namespace Sys2Proof.Machine

/-- Settles O34: Awl blocks by `Ring.awl_bad` and `Ring.awl_good`, what takes a link down by `Ring.fall_down`, isolation by
`State.ringRegWrite_isolate`, the counts by `Ring.errClear_lane`. -/
theorem ringLinks : Obligations.RingLinks := by
  unfold Obligations.RingLinks
  intro s w hr g l at_ lane same only down
  refine ⟨fun hst => ?lock, fun hst => s.keeps_onRing _ hr (g.blockLock_other w hst),
    fun lane1 blk bip skew bad ctl hfall hawake => ?awl, fun hst ht hready => ?up, fun hno => ?stays,
    fun hfall => ⟨fun lane1 hawake => ⟨?_, ?_, ?_⟩, ?_, fun n hn => ?_, ?fault⟩, fun hsleep => ?asleep,
    fun hopen hbit => ?isolate, fun hopen hbit hst => ?free,
    fun hup ht => s.becomes_onRing _ hr (g.wrapRelease_due w s.now hup ht) rfl,
    fun hno => s.keeps_onRing _ hr (g.wrapRelease_rests w s.now hno),
    fun hen hpm => s.becomes_onRing _ hr (g.laneSleep_sleeps w s.rctx hen hpm) rfl,
    fun hno => s.keeps_onRing _ hr (g.laneSleep_rests w s.rctx hno),
    fun hpm => s.becomes_onRing _ hr (g.laneWake_wakes w s.rctx hpm) rfl,
    fun hpm => s.keeps_onRing _ hr (g.laneWake_rests w s.rctx hpm),
    fun hopen v => ⟨?loopback, ?_, ?clear⟩⟩
  case lock =>
    refine s.becomes_onRing _ hr (g.blockLock_down w hst) ?_
    simp only [at_, g.link_setLink_same]
    exact ⟨trivial, congrArg LaneSt.seen (vget_map l.lane 0 _ _ rfl), congrArg LaneSt.seen (vget_map l.lane 1 _ _ rfl), rfl,
      g.only_setLink w _⟩
  case awl =>
    intro o i x y counts
    let m := g.missLink w lane1 bad ctl
    have hbad := g.awl_bad w s.now lane1 blk bip skew bad ctl hfall hawake
    refine ⟨fun hb htwo hmiss => ?lost, fun hb htwo hmiss => ?missed, fun hb htwo => ?unlocked, fun hb => ?good⟩
    case lost =>
      exact s.becomes_onRing _ hr ((hbad hb).trans (if_pos ⟨htwo, hmiss⟩))
        ⟨g.setLink_falls w m rfl, g.missLink_counts w lane1 bad ctl _ (g.setLink_fall_err w m i)⟩
    case missed =>
      have hm := g.missing_locked w lane1 bad ctl htwo
      have hcounts := g.missLink_counts w lane1 bad ctl _ ((g.setLink_err w (m.missing lane1) i).trans (congrArg LaneSt.err hm :))
      refine s.becomes_onRing _ hr ((hbad hb).trans (if_neg fun h => absurd h.2 (Nat.not_le.2 hmiss))) ?_
      simp only [at_, g.link_setLink_same]
      exact ⟨(congrArg LaneSt.miss hm :), (congrArg LaneSt.seen hm :), g.missing_st w lane1 bad ctl, hcounts, g.only_setLink w _⟩
    case unlocked =>
      have hm := g.missing_unlocked w lane1 bad ctl htwo
      have hcounts := g.missLink_counts w lane1 bad ctl _ ((g.setLink_err w (m.missing lane1) i).trans (congrArg LaneSt.err hm :))
      refine s.becomes_onRing _ hr ((hbad hb).trans (if_neg fun h => htwo h.1)) ?_
      simp only [at_, g.link_setLink_same]
      exact ⟨(congrArg LaneSt.seen hm :), g.missing_st w lane1 bad ctl, hcounts, g.only_setLink w _⟩
    case good =>
      intro b4 seen asleep locked bips skewed
      let n := g.awlLink w lane1 blk bip bad ctl
      have hn := g.awlLink_same w lane1 blk bip bad ctl
      have hst := g.awlLink_st w lane1 blk bip bad ctl
      obtain ⟨hready, hsleep, hnbr⟩ := g.awlLink_tells w lane1 blk bip bad ctl
      refine ⟨fun hl hs => ?skew, fun hl hs hlock => ?align, fun hs hno => ?plain⟩
      case skew =>
        have hcounts := g.awlLink_counts w lane1 blk bip bad ctl _ (g.putLink_fall_err w n { g.r.evt with skewErr := true } i)
        exact s.becomes_onRing _ hr (g.awl_skews w s.now lane1 blk bip skew bad ctl hfall hawake hb hl hs)
          ⟨g.fall_down w n _ hst, g.fall_skewed w n _ rfl, hcounts⟩
      case align =>
        have hcounts := g.awlLink_counts w lane1 blk bip bad ctl _
          (g.setLink_err w { n with st := .align, tClean := s.now, swap := (n.laneAt 0).lane.getLsbD 0 } i)
        refine s.becomes_onRing _ hr (g.awl_aligns w s.now lane1 blk bip skew bad ctl hfall hawake hb hl hs hlock) ?_
        simp only [at_, g.link_setLink_same]
        exact ⟨trivial, trivial, (congrArg LaneSt.seen hn :), hcounts, g.only_setLink w _⟩
      case plain =>
        have hcounts := g.awlLink_counts w lane1 blk bip bad ctl _ (g.setLink_err w n i)
        refine s.becomes_onRing _ hr (g.awl_takes w s.now lane1 blk bip skew bad ctl hfall hawake hb hs hno) ?_
        simp only [at_, g.link_setLink_same]
        exact ⟨hst, (congrArg LaneSt.seen hn :), (congrArg LaneSt.miss hn :), hready, hsleep, hnbr, hcounts, g.only_setLink w _⟩
  case up => exact s.becomes_onRing _ hr rfl (g.linkUp_rises w s.now ⟨hst, ht, hready⟩)
  case stays => exact s.keeps_onRing _ hr (g.linkUp_rests w s.now hno)
  · exact s.becomes_onRing _ hr (g.linkDown_blockLock w hfall lane1 hawake) (g.fall_counted w lane1 1 (by decide))
  · exact s.becomes_onRing _ hr (g.linkDown_hiBer w hfall lane1 hawake) (g.fall_counted w lane1 2 (by decide))
  · exact s.becomes_onRing _ hr (g.linkDown_awlLock w hfall lane1 hawake) (g.self_falls w)
  · exact s.becomes_onRing _ hr (g.linkDown_skew w hfall) ⟨g.fall_down w l _ rfl, g.fall_skewed w l _ rfl⟩
  · exact s.becomes_onRing _ hr (g.faults_fall w s.now n hn hfall) (g.setLink_falls w _ (g.faulted_st w s.now))
  case fault =>
    refine s.becomes_onRing _ hr (g.fault_waits w s.now) ?_
    simp only [at_, g.link_setLink_same]
    exact ⟨g.faulted_st w s.now, fun hst => congrArg LinkSt.tClean (if_pos hst), g.r_setLink w _⟩
  case asleep =>
    obtain ⟨hlock, hber, hawl⟩ := g.linkDown_asleep w hsleep
    exact ⟨s.keeps_onRing _ hr hlock, s.keeps_onRing _ hr hber, s.keeps_onRing _ hr hawl⟩
  case isolate =>
    obtain ⟨hst, hwrap, hctrl, hlb, hother⟩ := g.isolate_sets w
    exact s.becomes_ringWrite 0x1000 _ hopen (by decide) rfl (s.ringRegWrite_isolate w true hbit) rfl
      ⟨hst, hwrap, hctrl, hlb, hother⟩
  case free =>
    exact s.becomes_ringWrite 0x1000 _ hopen (by decide) rfl (s.ringRegWrite_isolate w false hbit) rfl (g.isolate_ends w hst)
  case loopback =>
    exact s.becomes_ringWrite 0x1034 v hopen (by decide) rfl rfl rfl ⟨fun i hi => g.lbWrite_lane v i hi, rfl⟩
  · exact s.becomes_ringWrite 0x1040 v hopen (by decide) rfl rfl rfl ⟨rfl, rfl⟩
  case clear =>
    obtain ⟨hst, hregs, hnodes⟩ := g.errClear_keeps v
    exact s.becomes_ringWrite 0x1048 v hopen (by decide) rfl rfl rfl
      ⟨fun i j hi _ => g.errClear_lane v i j hi, fun x j _ => g.errClear_err v j x, hst, hregs, hnodes⟩

end Sys2Proof.Machine
